-- ==== Sys2Proof/Word.lean ====
section
/-! DEFINITION. The register word of the KT3216 (32 bits, R4 to R6) and its plainest arithmetic. -/

namespace Sys2Proof

/-- A register is 32 bits wide and little-endian (spec/00_scope.md, Register model). -/
abbrev Word := BitVec 32

/-- A byte of a pool, of the flash or of an overhead field. -/
abbrev Byte := BitVec 8

end Sys2Proof
end

