-- ==== Sys2Proof/Syntax.lean ====
section
/-! DEFINITION. The commands the block takes: one constructor of `Instr` per row of spec/opcode_table.json, with the operands
that the row's step depends on (register operands, the measured values of a physical event, the contents of a message). -/

namespace Sys2Proof

/-- The carrier that a command acts on (LXA or LXB, R18). -/
inductive Carrier where
  | A | B
deriving DecidableEq, Repr

/-- A receiver: a carrier's, or in subcarrier mode the receiver of one subcarrier (R104, R149). -/
inductive Rcv where
  | car (c : Carrier)
  | sub (c : Carrier) (q : Fin 16)
deriving DecidableEq, Repr

/-- The four lock flags of R86 and R88. -/
inductive LockFlag where
  | bflyConv | trLock | cfrLock | cprLock
deriving DecidableEq, Repr

/-- What a receiver measured over a quality interval (R93): the pilot powers of each polarisation, code bits and errors of the
codewords that decoded, GMI in 1/1024 bit, the residual dispersion of the butterfly, DGD and PDL in 0.1 ps and 0.1 dB,
frequency offset in MHz and phase slips. -/
structure QualFig where
  prefX : Nat
  prefY : Nat
  perrX : Nat
  perrY : Nat
  bits : Nat
  errs : Nat
  gmi : Nat
  cdResidual : Int
  dgd : Nat
  pdl : Nat
  fofs : Int
  slips : Nat
deriving DecidableEq, Repr

/-- A delineated line frame as the framer sees it (R171, R174, R186): the overhead bytes, the BIP-8 computed over its bytes 32 to
13,199, whether a byte lies in an uncorrectable block, the Wellspring stamp of its reference LAW (seconds, and 2^-16 ns within the
second), the Wellspring time of its boundary at the ADC pins in units of 2^-16 ps (R290), and the first six bytes of each connection's
control word. -/
structure RxFrame where
  fsn : Nat
  tti : Nat
  bip : Nat
  bei : Nat
  bdi : Bool
  stat : Nat
  kp : Nat
  enc : Bool
  tv : Bool
  psiA : Nat
  psiB : Nat
  aps : Nat
  gcc0 : List Nat
  gcc12 : List Nat
  parity : Nat
  uncorr : Bool
  sec : Nat
  t16 : Nat
  pin : Nat
  ctl : List (Nat × List Nat)
deriving DecidableEq, Repr

/-- What a port's receive and transmit paths saw with one RS-FEC codeword (R243 to R246): symbols corrected, none where it could not be
corrected; alignment, hi-BER and received faults after it; packets and FCS errors in each direction; idles inserted or deleted. -/
structure ClientRx where
  corrected : Option Nat
  align : Bool
  hiBer : Bool
  rxLf : Bool
  rxRf : Bool
  ingPkts : Nat
  ingFcs : Nat
  egrPkts : Nat
  egrFcs : Nat
  ingIdle : Nat
  egrIdle : Nat
deriving DecidableEq, Repr

/-- An occurrence that ends a sampling interval (R449, R450): a codeword released by the LDPC stage, with its slice, trail, verdict, iterations,
latency in clocks, index, and the Wellspring time of its dispatch (seconds, and 2^-16 ns within the second); or an instruction retired by a
management core, with its latency, address and time of retirement. -/
inductive SampleOcc where
  | codeword (c : Carrier) (slice : Fin 14) (trail : Fin 16) (fail redecode : Bool) (iters latency index sec t16 : Nat)
  | instruction (core : Fin 4) (user : Bool) (latency pc sec t16 : Nat)
deriving DecidableEq, Repr

/-- A request as a master of the bus matrix issues it (R6, R411 to R415): beats of 64 bits from the aligned word its address lies in, each with
its byte enables and the data of a write; whether it accesses both halves of a register pair; and whether a core issued it in user mode (R391). -/
structure BusReq where
  addr : Nat
  write : Bool
  beats : List (Nat × Nat)
  wide : Bool
  user : Bool
deriving DecidableEq, Repr

/-- A configuration request that changes the endpoint's settings (R421, R425, R433): the D-state, the MSI-X function mask, the AER mask and severity,
and a write of 1s to the AER status. -/
inductive CfgReq where
  | dState (d3hot : Bool)
  | functionMask (on : Bool)
  | aerSettings (mask severity : BitVec 32)
  | aerClear (w : BitVec 32)
deriving DecidableEq, Repr

/-- The result of a calibration item (R504, R505): the item (bits 0 to 3 of carrier A, 4 to 7 of carrier B), its quality figure per lane (SNDR in
0.01 dB, eye width in 0.001 UI), the skews of items 2 and 3 per lane in 0.125 ps, whether every value lies within the largest change from
the loaded record, and the values of `PEQ` and `PD_LUT` that item 1 applies. -/
structure CalItem where
  item : Fin 8
  figs : List Int
  skew : List Int
  near : Bool
  peq : List (Nat × BitVec 32)
  pd : List (Nat × BitVec 32)
deriving DecidableEq, Repr

/-- The result of a client lane's calibration (R504): eye width in 0.001 UI and height in 0.1 mV, and whether the trims lie within the largest change. -/
structure CalLane where
  lane : Fin 16
  width : Nat
  height : Nat
  near : Bool
deriving DecidableEq, Repr

/-- The commands of spec/opcode_table.json, in its order; each docstring names the rule that its step follows. -/
inductive Instr where
  /-- `REGISTER_WRITE`, R4: master m, in user mode or not, writes the register at an aligned address with byte enables. -/
  | registerWrite (m : Fin 8) (user : Bool) (a : BitVec 32) (w : BitVec 32) (be : Fin 16)
  /-- `LO_READ`, R7: master m reads the register at an aligned address. -/
  | loRead (m : Fin 8) (a : BitVec 32)
  /-- `EVT_STAT_WRITE`, R9: EVT_STAT of a block or sub-block, by its place in the order of R432, is written; `now`: the bits whose event occurs in the same clock. -/
  | evtStatWrite (k : Fin 62) (w now : BitVec 32)
  /-- `EVT_MASK_WRITE`, R9: EVT_MASK of a block or sub-block, by its place in the order of R432, is written. -/
  | evtMaskWrite (k : Fin 62) (w : BitVec 32)
  /-- `COMMIT`, R438: TOP.COMMIT is written with a mask of groups; the commit event that it makes. -/
  | commit (groups : Fin 4294967296)
  /-- `SHADOW_REVERT`, R440: TOP.SHADOW_REVERT is written with a mask of groups. -/
  | shadowRevert (groups : Fin 4294967296)
  /-- `BRIDGE_TRANSFER`, R24: a transfer reaches bridge b, from its first island or (`back`) from its second; for a register request its master and address. -/
  | bridgeTransfer (b : Fin 16) (back : Bool) (reg : Option (Fin 8 × BitVec 32))
  /-- `BRIDGE_QUIESCENT`, R24: bridge b has been idle for 8 clocks of its slower island. -/
  | bridgeQuiescent (b : Fin 16)
  /-- `PHASE_OK`, R37: both carriers' transmit frame phase and FSN agree. -/
  | phaseOk
  /-- `CARRIER_JOIN`, R39: carrier c reaches its next training block while a join, or the return to its own generator, is due. -/
  | carrierJoin (c : Carrier)
  /-- `TX_EN_SET`, R60: TX_EN of carrier c is set. -/
  | txEnSet (c : Carrier)
  /-- `TX_EN_CLEAR`, R60: TX_EN of carrier c is cleared. -/
  | txEnClear (c : Carrier)
  /-- `MUTE_SET`, R60: MUTE of carrier c is set. -/
  | muteSet (c : Carrier)
  /-- `MUTE_CLEAR`, R60: MUTE of carrier c is cleared. -/
  | muteClear (c : Carrier)
  /-- `RECONF_RAMP_WRITE`, R64: RECONF_RAMP of carrier c is written. -/
  | reconfRampWrite (c : Carrier) (v : Bool)
  /-- `RAMP_UP_DONE`, R60: the ramp up of carrier c reaches full scale. -/
  | rampUpDone (c : Carrier)
  /-- `RAMP_DOWN_DONE`, R60: the ramp down of carrier c reaches the floor. -/
  | rampDownDone (c : Carrier)
  /-- `RECONF_APPLY`, R61: carrier c reaches the point at which its pending configuration is applied. -/
  | reconfApply (c : Carrier)
  /-- `MASK_CHECK`, R55: an averaged spectrum of carrier c: for each bin its distance from the carrier in FFT bins of 70.3125 MHz and its level in 0.1 dB relative to the reference. -/
  | maskCheck (c : Carrier) (spectrum : List (Nat × Int))
  /-- `DAC_CLIP_WINDOW`, R58: a 625 µs window of carrier c ends with so many clipped samples. -/
  | dacClipWindow (c : Carrier) (clipped : Nat)
  /-- `DAC_PLL_LOL`, R69: the converter PLL of carrier c loses lock. -/
  | dacPllLol (c : Carrier)
  /-- `DAC_PLL_RELOCK`, R69: the converter PLL of carrier c locks again. -/
  | dacPllRelock (c : Carrier)
  /-- `ADC_TICK`, R70: the RMS input levels of the four ADC lanes over a management tick, in 1/16 code. -/
  | adcTick (c : Carrier) (xi xq yi yq : Nat)
  /-- `ADC_CLIP_WINDOW`, R71: a 625 µs window ends with so many clipped samples in each ADC lane. -/
  | adcClipWindow (c : Carrier) (xi xq yi yq : Nat)
  /-- `CD_TRACK_UPDATE`, R78: the millisecond's estimate of the residual dispersion, in ps/nm. -/
  | cdTrackUpdate (r : Rcv) (residual : Int)
  /-- `NLC_BYPASS_CHANGE`, R79: a block boundary at which the non-linear steps are bypassed or applied again as the filter value allows. -/
  | nlcBypassChange (c : Carrier)
  /-- `ENG_FAULT`, R83: these engines fail a check in one block. -/
  | engFault (c : Carrier) (engines : List (Fin 9))
  /-- `ENG_TAKEOVER`, R83: the engine that took over delivers its first block. -/
  | engTakeover (c : Carrier)
  /-- `ENG_SF_CLEAR`, R84: a block boundary at which ENG_SF ends if the engines not fenced can carry the load. -/
  | engSfClear (c : Carrier)
  /-- `ROTATION_EXCHANGE`, R495: an exchange boundary of a redundant group (0 engines, 1 slices, 2 AES lanes). -/
  | rotationExchange (c : Carrier) (g : Fin 3)
  /-- `LOCK_CHANGE`, R88: a lock flag takes a value. -/
  | lockChange (r : Rcv) (flag : LockFlag) (v : Bool)
  /-- `CFR_RANGE`, R88: the frequency offset of a receiver leaves its range. -/
  | cfrRange (r : Rcv)
  /-- `QUAL_BOUNDARY`, R94: a quality interval ends with these figures of the carrier or, in subcarrier mode, of its active subcarriers. -/
  | qualBoundary (c : Carrier) (car : QualFig) (subs : List (Fin 16 × QualFig))
  /-- `SIGNAL_WINDOW`, R101: a 1.28 µs window ends; four times its level, which for a carrier is the sum of the RMS of its four lanes in 1/16 code. -/
  | signalWindow (r : Rcv) (sum : Nat)
  /-- `ACQ_EN_SET`, R105: ACQ_EN of carrier c is written 1. -/
  | acqEnSet (c : Carrier)
  /-- `ACQ_EN_CLEAR`, R105: ACQ_EN of carrier c is written 0. -/
  | acqEnClear (c : Carrier)
  /-- `RESTART_COLD`, R105: RESTART is written with COLD = 1. -/
  | restartCold (c : Carrier)
  /-- `RESTART_WARM`, R105: RESTART is written with COLD = 0. -/
  | restartWarm (c : Carrier)
  /-- `COARSE_FREQ_DONE`, R104: the coarse frequency estimate completes with an offset in MHz. -/
  | coarseFreqDone (r : Rcv) (mhz : Int)
  /-- `SCAN_BATCH`, R106: a batch of the dispersion scan completes: the metric of each candidate in turn, in 1/256. -/
  | scanBatch (r : Rcv) (metrics : List Nat)
  /-- `TRAIN_PERIOD`, R107: a training period ends: whether the peak was found at the candidate's position, and the position of the strongest peak that reaches TC_THR. -/
  | trainPeriod (r : Rcv) (peak : Bool) (strongest : Option Nat)
  /-- `POL_TIMING_LOCK`, R104: BFLY_CONV and TR_LOCK are both 1. -/
  | polTimingLock (r : Rcv)
  /-- `PILOT_LOCK_DONE`, R104: CFR_LOCK and CPR_LOCK are both 1. -/
  | pilotLockDone (r : Rcv)
  /-- `STAGE_BOUND_EXPIRED`, R105: the bound of the stage in progress expires. -/
  | stageBoundExpired (r : Rcv)
  /-- `LOL_TIME_EXPIRED`, R105: a tracking flag has been 0 for LOL_TIME. -/
  | lolTimeExpired (r : Rcv)
  /-- `WARM_CAPTURE`, R108: a 1 ms boundary: a name for the set of butterfly taps, the carrier and the symbol-clock frequency offset. -/
  | warmCapture (r : Rcv) (taps : Nat) (fofs sofs : Int)
  /-- `WARM_HOLD_EXPIRED`, R108: WARM_HOLD ms have passed since the receiver left ACQUIRED. -/
  | warmHoldExpired (r : Rcv)
  /-- `ACQ_FAIL`, R111: T_cold has passed since the acquisition began. -/
  | acqFail (r : Rcv)
  /-- `CODEWORD_DISPATCH`, R133: a codeword of receiver r has been de-interleaved. -/
  | codewordDispatch (r : Rcv)
  /-- `DECODE_DONE`, R129: a slice stops: iterations used, whether the syndrome is zero, bits changed. -/
  | decodeDone (c : Carrier) (slice : Fin 14) (iters : Nat) (ok : Bool) (corrected : Nat)
  /-- `CODEWORD_RELEASE`, R138: the oldest codeword has passed its recheck. -/
  | codewordRelease (c : Carrier)
  /-- `SLICE_FAULT`, R135: these slices fail a check in one clock. -/
  | sliceFault (c : Carrier) (slices : List (Fin 14))
  /-- `SLICE_TAKEOVER`, R135: the re-decoded codeword leaves the slice that took over. -/
  | sliceTakeover (c : Carrier)
  /-- `FEC_SF_CLEAR`, R136: a codeword boundary at which FEC_SF ends if the slices not fenced can carry the load. -/
  | fecSfClear (c : Carrier)
  /-- `CW_LOCK`, R128: the test of the codeword phases 0 to 4 in a period: which had both codewords decode with zero syndrome. -/
  | cwLock (r : Rcv) (passed : List Bool)
  /-- `CW_LOCK_LOSS`, R128: 32 consecutive codewords failed. -/
  | cwLockLoss (r : Rcv)
  /-- `STAIR_BLOCK`, R131: a staircase block enters; the bits changed in the block that leaves and whether that block is uncorrectable. -/
  | stairBlock (r : Rcv) (corrected : Nat) (uncorrectable : Bool)
  /-- `UP_FCOMP_UPDATE`, R150: the millisecond's frequency offset of the home subcarrier of a leaf, in MHz. -/
  | upFcompUpdate (c : Carrier) (fofs : Int)
  /-- `UPSTREAM_SLEEP`, R151: a leaf writes 1 to SLEEP bit q. -/
  | upstreamSleep (c : Carrier) (q : Fin 16)
  /-- `UPSTREAM_WAKE`, R151: a leaf writes 0 to SLEEP bit q. -/
  | upstreamWake (c : Carrier) (q : Fin 16)
  /-- `HUB_SLEEP_MARK`, R152: a hub writes SLEEP bit q. -/
  | hubSleepMark (c : Carrier) (q : Fin 16) (v : Bool)
  /-- `INLET_SEND`, R157: SEND is written 1. -/
  | inletSend (c : Carrier)
  /-- `INLET_ACK`, R157: ACK is written 1. -/
  | inletAck (c : Carrier)
  /-- `INLET_EN_CLEAR`, R157: INLET_CFG.EN is written 0. -/
  | inletEnClear (c : Carrier)
  /-- `BACKOFF_EXPIRED`, R157: the backoff delay has run out. -/
  | backoffExpired (c : Carrier)
  /-- `INLET_SENT`, R157: the guard of a burst ends. -/
  | inletSent (c : Carrier)
  /-- `RESP_TIMEOUT`, R157: RESP_TIMEOUT has run out. -/
  | respTimeout (c : Carrier)
  /-- `PREAMBLE_DETECTED`, R158: a preamble is detected: its level in 0.1 dB, its offset in MHz, the Wellspring time of its first symbol. -/
  | preambleDetected (c : Carrier) (level fofs : Int) (sec ns : Nat)
  /-- `HEADER_COMPLETE`, R158: the 128 header bits, bit 0 first, and whether the other correlator peaked above THR/2 during the header. -/
  | headerComplete (c : Carrier) (header : List Bool) (otherPeak : Bool)
  /-- `PAYLOAD_COMPLETE`, R158: the payload bytes as received, CRC included, before descrambling. -/
  | payloadComplete (c : Carrier) (bytes : List Byte)
  /-- `QUEUE_POP`, R160: POP is written 1. -/
  | queuePop (c : Carrier)
  /-- `QUEUE_FLUSH`, R160: FLUSH is written 1. -/
  | queueFlush (c : Carrier)
  /-- `FRAME_START_TX`, R172: the next frame period of a trail begins, with the parity of the bytes its frame will carry and the Wellspring time, in 2^-16 ps, at which its boundary leaves the DAC pins. -/
  | frameStartTx (c : Carrier) (t : Fin 16) (parity pin : Nat)
  /-- `LINE_BLOCK_RX`, R177: a line block: the stream position of its LAW in bits, how many of its 128 LAW bits differ, bytes 16 to 23 after descrambling. -/
  | lineBlockRx (c : Carrier) (t : Fin 16) (pos errs : Nat) (header : List Nat)
  /-- `LOF_ACQ`, R178: the aligner has been in OOF for 32 block times. -/
  | lofAcq (c : Carrier) (t : Fin 16)
  /-- `FRAME_RX`, R185: a delineated frame. -/
  | frameRx (c : Carrier) (t : Fin 16) (f : RxFrame)
  /-- `DEFECT_TIMER`, R187: the condition of dLOF (or of dLOM) has had a value for LOF_TIME. -/
  | defectTimer (c : Carrier) (t : Fin 16) (lom : Bool) (v : Bool)
  /-- `DEG_SECOND`, R187: the Wellspring second `sec` of a trail is judged for dDEG. -/
  | degSecond (c : Carrier) (t : Fin 16) (sec : Nat)
  /-- `FAIL_SET`, R189: a DEF_STAT bit has been 1 for SET_TIME. -/
  | failSet (c : Carrier) (t : Fin 16) (bit : Fin 11)
  /-- `FAIL_CLEAR`, R189: a DEF_STAT bit has been 0 for CLR_TIME. -/
  | failClear (c : Carrier) (t : Fin 16) (bit : Fin 11)
  /-- `SECOND_CLOSE`, R198: the second `sec` of a trail closes, 100 µs after its end. -/
  | secondClose (c : Carrier) (t : Fin 16) (sec : Nat)
  /-- `SECOND_COMMIT`, R202: the oldest closed second of a trail is committed. -/
  | secondCommit (c : Carrier) (t : Fin 16)
  /-- `PM_CLEAR`, R208: CLEAR is written 1. -/
  | pmClear (c : Carrier) (t : Fin 16)
  /-- `PM_ENABLE`, R208: EN of PM_CFG is written 1. -/
  | pmEnable (c : Carrier) (t : Fin 16)
  /-- `LANE_EN_SET`, R222: `LANE_EN` is written 1. -/
  | laneEnSet (l : Fin 16)
  /-- `LANE_EN_CLEAR`, R222: `LANE_EN` is written 0. -/
  | laneEnClear (l : Fin 16)
  /-- `LANE_RECONFIG`, R222: a write of `LANE_CFG` with `LANE_EN` as it stands. -/
  | laneReconfig (l : Fin 16) (w : Word)
  /-- `LANE_LOS_ASSERT`, R227: the lane input has stayed below LOS_THR for 2.0 µs. -/
  | laneLosAssert (l : Fin 16)
  /-- `LANE_LOS_CLEAR`, R227: the lane input has stayed at or above LOS_THR + LOS_HYST for 10 µs. -/
  | laneLosClear (l : Fin 16)
  /-- `LOL_WINDOW`, R228: a check window ends: `errors` false: the clock differs by m ppb; true: m of the 2^16 symbols exceeded the error limit; the bits the checker has compared since the lane's last step that told it, and the bits in error. -/
  | lolWindow (l : Fin 16) (errors : Bool) (m bits errs : Nat)
  /-- `TRAIN_CONVERGED`, R222: the local receiver converges with CDR lock; the precoding agreed in each direction. -/
  | trainConverged (l : Fin 16) (preTx preRx : Bool)
  /-- `LOCK_HOLD_EXPIRED`, R222: LOS and LOL have stayed clear for LOCK_HOLD. -/
  | lockHoldExpired (l : Fin 16)
  /-- `TRAIN_FAIL`, R222: TRAIN_TIMEOUT has passed since entry into TRAIN. -/
  | trainFail (l : Fin 16)
  /-- `CAPS_TIMEOUT`, R222: CAPS_TIMEOUT has passed since entry into CAPS. -/
  | capsTimeout (l : Fin 16)
  /-- `CAPS_WORD_RX`, R226: a capability word is received; the complete words with ACK = 1 that the lane has sent since it accepted one. -/
  | capsWordRx (l : Fin 16) (word : BitVec 64) (sent : Nat)
  /-- `READY_RX`, R222: the far end's ready indication is received. -/
  | readyRx (l : Fin 16)
  /-- `TX_SLEEP`, R231: `TX_SLEEP` is written 1. -/
  | txSleep (l : Fin 16)
  /-- `TX_WAKE`, R231: `TX_SLEEP` is written 0. -/
  | txWake (l : Fin 16)
  /-- `RX_SLEEP`, R231: `RX_SLEEP` is written 1. -/
  | rxSleep (l : Fin 16)
  /-- `RX_WAKE`, R233: `RX_SLEEP` is written 0. -/
  | rxWake (l : Fin 16)
  /-- `RX_WAKE_DONE`, R233: LOS and LOL have stayed clear for LOCK_HOLD in a receive wake. -/
  | rxWakeDone (l : Fin 16)
  /-- `WAKE_FAIL`, R233: RX_WAKE_TMO has passed in a receive wake. -/
  | wakeFail (l : Fin 16)
  /-- `CHK_LOCK`, R236: 128 consecutive error-free symbols have followed the checker's seed. -/
  | chkLock (l : Fin 16)
  /-- `CHK_LOCK_LOSS`, R236: 128 of the last 1,024 symbols are in error; the bits compared and in error that no step has told yet. -/
  | chkLockLoss (l : Fin 16) (bits errs : Nat)
  /-- `CHK_CLR`, R236: `CHK_CLR` is written 1; the bits compared and in error before the boundary that no step has told yet. -/
  | chkClr (l : Fin 16) (bits errs : Nat)
  /-- `INJ_ONE`, R237: `INJ_ONE` is written 1. -/
  | injOne (l : Fin 16)
  /-- `INJ_BURST`, R237: `INJ_BURST` is written 1. -/
  | injBurst (l : Fin 16)
  /-- `MSIM_TIMER`, R250: the MSI of connection k, or (mem) of the member that protects it, has disagreed (or agreed) for MSIM_TIME. -/
  | msimTimer (k : Fin 32) (mem : Bool) (v : Bool)
  /-- `EGRESS_ACTION_START`, R255: the egress action of port p starts. -/
  | egressActionStart (p : Fin 16)
  /-- `EGRESS_ACTION_END`, R255: the egress action of port p ends at a block boundary. -/
  | egressActionEnd (p : Fin 16)
  /-- `ING_REPL_START`, R256: the ingress replacement of port p starts. -/
  | ingReplStart (p : Fin 16)
  /-- `ING_REPL_END`, R256: the ingress replacement of port p ends. -/
  | ingReplEnd (p : Fin 16)
  /-- `REF_ACTIVITY_LOSS`, R263: reference slot r has lost its activity. -/
  | refActivityLoss (r : Fin 8)
  /-- `FMON_WINDOW`, R263: a frequency window ends, with the offset in ppt of each slot that was active throughout. -/
  | fmonWindow (offs : List (Fin 8 × Int))
  /-- `GROSS_CHECK`, R263: a millisecond of the gross frequency check ends, with the REFIN slots that have edges and the offsets of the slots in ppt. -/
  | grossCheck (edges : List (Fin 8)) (offs : List (Fin 8 × Int))
  /-- `REF_QUALIFIED`, R264: slot r has been active and within ±9.2 ppm for QUAL_TIME. -/
  | refQualified (r : Fin 8)
  /-- `REF_WTR_EXPIRED`, R267: slot r has been qualified for WTR seconds. -/
  | refWtrExpired (r : Fin 8)
  /-- `SEL_CFG_WRITE`, R266: SEL_CFG is written. -/
  | selCfgWrite (mode manRef : Fin 8) (revertive : Bool)
  /-- `SWITCH_COMMIT_POINT`, R268: the build-out of the switch in progress is captured. -/
  | switchCommitPoint
  /-- `DPLL_LOCKED`, R269: the phase error has stayed within ±LOCK_WIN for 1 s. -/
  | dpllLocked
  /-- `DPLL_LOCK_LOSS`, R269: the phase error exceeds ±4 × LOCK_WIN. -/
  | dpllLockLoss
  /-- `HOLDOVER_OOS`, R269: HO_ELAPSED reaches HO_TIMER. -/
  | holdoverOos
  /-- `HISTORY_RECORD`, R271: a Wellspring second ends in LOCKED, with its mean output frequency in ppt. -/
  | historyRecord (ppt : Int)
  /-- `HIST_CLR`, R271: HO_CTRL.HIST_CLR is written. -/
  | histClr
  /-- `DCO_SLEW_STEP`, R272: a millisecond of the DPLL ends, with the output offset measured while it tracks a reference. -/
  | dcoSlewStep (fofs : Int)
  /-- `DCO_FREQ_WRITE`, R272: DCO_FREQ is written. -/
  | dcoFreqWrite (v : Word)
  /-- `REFOUT_CHANGE`, R274: a Wellspring second begins while a change of output o waits. -/
  | refoutChange (o : Fin 2)
  /-- `CAPTURE`, R282: TIME_CTRL.CAPTURE is written. -/
  | capture
  /-- `PHASE_ADJ`, R281: PHASE_ADJ is written. -/
  | phaseAdj (v : Word)
  /-- `PPS_EDGE`, R283: a rising edge of PPSIN i. -/
  | ppsEdge (i : Fin 2)
  /-- `PPS_TIMEOUT`, R280: 2 s have passed since the last edge of PPSIN i. -/
  | ppsTimeout (i : Fin 2)
  /-- `PPSOUT_PULSE`, R284: Wellspring time reaches a whole second plus PPSOUT_OFS. -/
  | ppsoutPulse
  /-- `TT_SOURCE_TIMEOUT`, R280: 2 s have passed since the last valid exchange. -/
  | ttSourceTimeout
  /-- `TAMUST_MSG_RX`, R286: port p has received a message, destuffed with its CRC, or its abort; the port that firmware's route table names for its destination. -/
  | tamustMsgRx (p : Fin 32) (bytes : List Nat) (aborted : Bool) (route : Option (Fin 32))
  /-- `TIME_MSG_TX`, R291: the TT_INTERVAL of port p has run out. -/
  | timeMsgTx (p : Fin 32)
  /-- `TIME_MSG_RX`, R292: port p has received the payload of a TIME message. -/
  | timeMsgRx (p : Fin 32) (payload : List Nat)
  /-- `HELLO_TX`, R288: the second of port p's HELLO has run out. -/
  | helloTx (p : Fin 32)
  /-- `ARM`, R295: RIP_CTRL.ARM of slot k is written. -/
  | arm (k : Fin 64)
  /-- `DISARM`, R295: RIP_CTRL.DISARM of slot k is written. -/
  | disarm (k : Fin 64)
  /-- `RIPPLE_FIRED`, R296: the WST edge at which armed slot k fires. -/
  | rippleFired (k : Fin 64)
  /-- `RIPPLE_ACTION`, R296: 8 WST clocks after the oldest firing whose actions are due. -/
  | rippleAction
  /-- `DOM_RIPPLE`, R388: firmware on a core serves mailbox opcode 0x10 with the words of `H2F_DATA`. -/
  | domRipple (core : Fin 4)
  /-- `DOM_CANCEL`, R388: firmware on a core serves mailbox opcode 0x11. -/
  | domCancel (core : Fin 4)
  /-- `DOM_STATUS`, R388: firmware on a core serves mailbox opcode 0x12. -/
  | domStatus (core : Fin 4)
  /-- `RIPPLE_SCHED`, R303: firmware takes the oldest RIPPLE_SCHED from its receive ring. -/
  | rippleSched
  /-- `RIPPLE_CANCEL`, R303: firmware takes the oldest RIPPLE_CANCEL from its receive ring. -/
  | rippleCancel
  /-- `RIPPLE_ACK`, R302: firmware takes the oldest RIPPLE_ACK from its receive ring. -/
  | rippleAck
  /-- `GRANT`, R288: firmware takes the oldest GRANT from its receive ring. -/
  | grant
  /-- `FL_ENABLE`, R304: FL_CFG.EN of carrier c is written 1. -/
  | flEnable (c : Carrier)
  /-- `FL_DISABLE`, R304: FL_CFG.EN of carrier c is written 0. -/
  | flDisable (c : Carrier)
  /-- `FL_HELD`, R304: the transmit or receive half of trail t has stayed within its bound for 1 ms. -/
  | flHeld (c : Carrier) (t : Fin 16) (rx : Bool)
  /-- `FL_SLIP`, R305: the transmit or receive half of trail t leaves ±1.25 ns of its bound. -/
  | flSlip (c : Carrier) (t : Fin 16) (rx : Bool)
  /-- `SD_WINDOW`, R314: an SD window of group g ends, with the LDPC codewords that failed on each member in it. -/
  | sdWindow (g : Fin 16) (nW nP : Nat)
  /-- `HOLD_OFF_EXPIRED`, R317: the hold-off timer of a condition of group g runs out: 0 = SD_P, 1 = SD_W, 2 = SF_P, 3 = SF_W. -/
  | holdOffExpired (g : Fin 16) (k : Fin 4)
  /-- `WTR_EXPIRED`, R317: the WTR timer of group g runs out. -/
  | wtrExpired (g : Fin 16)
  /-- `CMD_CLEAR`, R316: command 0 to group g. -/
  | cmdClear (g : Fin 16)
  /-- `CMD_LO`, R316: command 1 to group g. -/
  | cmdLo (g : Fin 16)
  /-- `CMD_FS`, R316: command 2 to group g. -/
  | cmdFs (g : Fin 16)
  /-- `CMD_MS`, R316: command 3 to group g. -/
  | cmdMs (g : Fin 16)
  /-- `CMD_MS_W`, R316: command 4 to group g. -/
  | cmdMsW (g : Fin 16)
  /-- `SWITCH`, R318: the next frame boundary of the newly selected member of group g, with the FSN that the old member's schedule projects there. -/
  | switch (g : Fin 16) (last : Nat)
  /-- `DIFF_DELAY_UPDATE`, R319: a millisecond ends with the mean Δ of group g. -/
  | diffDelayUpdate (g : Fin 16) (ns : Int)
  /-- `DESKEW_RECOVER`, R324: the measured Δ of group g has stayed within its limit for 1 s. -/
  | deskewRecover (g : Fin 16)
  /-- `HITLESS_READ`, R323: the read time of a frame of group g, with the deskew words corrected and whether a word of either copy was uncorrectable. -/
  | hitlessRead (g : Fin 16) (fsn corr : Nat) (badW badP : Bool)
  /-- `APS_MSG_TX`, R327: group g sends its APS message. -/
  | apsMsgTx (g : Fin 16)
  /-- `APS_MSG_RX`, R327: an APS message arrives: its source, sequence number and payload. -/
  | apsMsgRx (src seq b0 b1 b2 b3 : Nat)
  /-- `APS_BRIDGE`, R329: a frame boundary at which group g makes or releases the bridge that the far request requires. -/
  | apsBridge (g : Fin 16)
  /-- `APS_LOSS`, R327: 4 ms have passed without a valid APS message for group g. -/
  | apsLoss (g : Fin 16)
  /-- `FOP_TIMER`, R327: a disagreement of group g has lasted 50 ms: of B or D, or (nr) of the far BSIG with the local RSIG. -/
  | fopTimer (g : Fin 16) (nr : Bool)
  /-- `SEL_MISCOMPARE`, R332: the two copies of the logic of group g disagree. -/
  | selMiscompare (g : Fin 16)
  /-- `UNFREEZE`, R332: PROT_CTRL.UNFREEZE is written. -/
  | unfreeze
  /-- `LR_POP`, R334: LR_CTRL.POP is written. -/
  | lrPop
  /-- `TX_LOAD`, R343: KEY_CTRL.TX_LOAD is written. -/
  | txLoad (c : Carrier)
  /-- `RX_LOAD`, R343: KEY_CTRL.RX_LOAD is written. -/
  | rxLoad (c : Carrier)
  /-- `LOAD_DONE`, R343: the key of a transmit (tx) or receive register of phase p has crossed the key bus. -/
  | loadDone (c : Carrier) (tx : Bool) (p : Fin 2)
  /-- `SWAP_NOW`, R344: KEY_CTRL.SWAP_NOW is written. -/
  | swapNow (c : Carrier)
  /-- `TAG_CHECK`, R349: the tag check of a frame of trail t completes; the packets that cut-through had delivered in full by then, by connection, and the ports with a packet in progress. -/
  | tagCheck (c : Carrier) (t : Fin 16) (pass : Bool) (unver : List (Fin 32 × Nat)) (cut : List (Fin 16))
  /-- `AES_LANE_FAULT`, R356: an AES lane fails a check in its encrypt (tx) or decrypt path while a frame of trail t is in progress. -/
  | aesLaneFault (c : Carrier) (lane : Fin 17) (tx : Bool) (t : Fin 16)
  /-- `LANE_TAKEOVER`, R356: the AES lane that took over completes its first frame. -/
  | laneTakeover (c : Carrier)
  /-- `ZERO_SLOT`, R361: KS_CMD is written with ZERO_SLOT. -/
  | zeroSlot (k : Fin 64)
  /-- `ZERO_ALL`, R361: KS_CMD is written with ZERO_ALL. -/
  | zeroAll
  /-- `PROVISION`, R358: KS_CMD is written with PROVISION by a master. -/
  | provision (m : Fin 8)
  /-- `OTP_KILL`, R358: KS_CMD is written with OTP_KILL. -/
  | otpKill
  /-- `ZEROIZE_PIN`, R361: ZEROIZE_N has been low for 1 µs. -/
  | zeroizePin
  /-- `ZEROIZE_PIN_RELEASE`, R361: ZEROIZE_N returns high. -/
  | zeroizePinRelease
  /-- `RING_TAIL_WRITE`, R364: RING_TAIL_k is written. -/
  | ringTailWrite (k : Fin 4) (v : Nat)
  /-- `JOB_START`, R365: the free core `core` takes the best of the ring heads and the suspended jobs. -/
  | jobStart (core : Fin 8)
  /-- `JOB_SUSPEND`, R365: the running job that gives way reaches a block boundary, with `done` blocks done. -/
  | jobSuspend (done : Fin 257)
  /-- `JOB_END`, R364: the job on a core ends; `done`: the blocks done where it ends with an error. -/
  | jobEnd (core : Fin 8) (done : Fin 257)
  /-- `PORESET_ASSERT`, R466: `vdd` false: PORESET_N has been low for 1 µs; true: VDD_AON rises. -/
  | poresetAssert (vdd : Bool)
  /-- `PORESET_RELEASE`, R371: PORESET_N goes high. -/
  | poresetRelease
  /-- `OTP_LOADED`, R371: AON has loaded the OTP fields. -/
  | otpLoaded
  /-- `HEADER_READ`, R371: the header of the image area has been read, or the flash did not complete the read. -/
  | headerRead (stuck : Bool)
  /-- `POOL_BIST_DONE`, R371: memory BIST of the pools ends: the failing rows of the banks, by 4 × pool + bank. -/
  | poolBistDone (rows : List (Fin 16 × Nat))
  /-- `LOAD_PASS_END`, R377: the LOAD pass has read the image, or the flash did not complete a read. -/
  | loadPassEnd (stuck : Bool)
  /-- `APPLY_RECORD`, R380: the next record is applied, or its POLL read again; in EARLY_LIGHT it is a SERVICE record, by firmware on a core. -/
  | applyRecord (core : Fin 4)
  /-- `POLL_TIMEOUT`, R378: the time of the POLL record that waits has run out. -/
  | pollTimeout
  /-- `BOOT_DONE`, R371: the records of the APPLY pass are done. -/
  | bootDone
  /-- `FULL_SVC`, R373: `BOOT_CTRL.FULL_SVC` is written 1. -/
  | fullSvc
  /-- `CONFIRM`, R383: `BOOT_CTRL.CONFIRM` is written 1. -/
  | confirm
  /-- `CONFIRM_TMO`, R383: CONFIRM_TMO has passed since EARLY_LIGHT. -/
  | confirmTmo
  /-- `CLR_BAD`, R383: `BOOT_CTRL.CLR_BAD` is written 1. -/
  | clrBad
  /-- `AUTH_LOCK`, R379: master m writes 1 to `BOOT_CTRL.AUTH_LOCK`. -/
  | authLock (m : Fin 8)
  /-- `XSPI_READ`, R375: `XSPI_CMD` is written with GO = 1 and TYPE = READ. -/
  | xspiRead (w : Word)
  /-- `XSPI_PROGRAM`, R375: `XSPI_CMD` is written with GO = 1 and TYPE = PROGRAM. -/
  | xspiProgram (w : Word)
  /-- `XSPI_ERASE`, R375: `XSPI_CMD` is written with GO = 1 and TYPE = ERASE. -/
  | xspiErase (w : Word)
  /-- `XSPI_OTHER`, R375: `XSPI_CMD` is written with GO = 1 and TYPE = OTHER. -/
  | xspiOther (w : Word)
  /-- `XSPI_DONE`, R394: the xSPI command in progress ends; the bytes that the flash sent to a command of type OTHER. -/
  | xspiDone (timedOut : Bool) (rx : List (Fin 256))
  /-- `WDT_KICK`, R385: master m writes `WDT_KICK_k`. -/
  | wdtKick (m : Fin 8) (k : Fin 4)
  /-- `WDT_WARN`, R385: the watchdog of core k reaches 3/4 of its time. -/
  | wdtWarn (k : Fin 4)
  /-- `WDT_EXPIRE`, R385: the watchdogs of the cores of a mask expire in one clock. -/
  | wdtExpire (cores : Fin 16)
  /-- `TAKEOVER`, R385: the peer resumes the tasks of core k; where the mailbox command in progress was that core's, whether its effect had been committed. -/
  | takeover (k : Fin 4) (mbox : Option Bool)
  /-- `CORE_RESTART`, R386: `CORE_CTRL_k` is written with RESTART = 1 and this HOLD. -/
  | coreRestart (k : Fin 4) (hold : Bool)
  /-- `H2F_GO`, R387: a write of `H2F_CTRL` with GO = 1. -/
  | h2fGo (w : Word)
  /-- `MBOX_DONE`, R387: firmware answers the mailbox command. -/
  | mboxDone (core : Fin 4) (status : Fin 256) (words : List Word)
  /-- `MBOX_NOTIFY`, R387: firmware posts a notification. -/
  | mboxNotify (opcode : Fin 256) (words : List Word)
  /-- `F2H_ACK`, R387: `F2H_CTRL.VALID` is written 1. -/
  | f2hAck
  /-- `VERSION`, R388: firmware serves opcode 0x01. -/
  | version (core : Fin 4)
  /-- `CAL_STORE`, R388: firmware serves opcode 0x20. -/
  | calStore (core : Fin 4)
  /-- `EXT_OPCODE`, R388: extension code serves an opcode of 0x80 to 0xFF; whether it overran SHARE. -/
  | extOpcode (core : Fin 4) (status : Fin 256) (words : List Word) (overran : Bool)
  /-- `EXT_FAULT`, R391: extension code on a core reads (0), writes (1) or executes (2) at an address. -/
  | extFault (core : Fin 4) (a : Word) (kind : Fin 3)
  /-- `POOL_OWN_WRITE`, R399: a master writes `POOL_OWN_k`. -/
  | poolOwnWrite (k : Fin 4) (m : Fin 8) (v : Fin 8)
  /-- `POOL_READ`, R404: a master reads word w of the pools (m = 5 through port B), after an upset of some data and check bits of it. -/
  | poolRead (m : Fin 8) (w : Fin 524288) (upset upsetChk : Nat)
  /-- `POOL_WRITE`, R401: a master writes word w of the pools (m = 5 through port B); `collide`: the other port writes the same word in the same clock. -/
  | poolWrite (m : Fin 8) (w : Fin 524288) (be : Fin 256) (data : BitVec 64) (collide : Bool)
  /-- `TRACKER_EXPIRE`, R405: 2^24 clocks have passed since the last correction of a tracked word. -/
  | trackerExpire (w : Fin 524288)
  /-- `REPAIR_GO`, R406: `REPAIR_CTRL` is written with GO. -/
  | repairGo (pool : Fin 4) (bank : Fin 4) (row : Fin 512)
  /-- `REPAIR_DONE`, R406: the row under repair has been copied. -/
  | repairDone
  /-- `SCRUB_GO`, R407: `SCRUB_CTRL.GO` is written 1. -/
  | scrubGo
  /-- `SCRUB_STOP`, R407: `SCRUB_CTRL.STOP` is written 1. -/
  | scrubStop
  /-- `SCRUB_WORD`, R408: the scrubber reads its next word, after an upset of some bits; `hit`: a port writes the word in the clock in which the scrubber would write. -/
  | scrubWord (upset upsetChk : Nat) (hit : Bool)
  /-- `SCRUB_DONE`, R407: the pass has reached its end, or its last word after STOP. -/
  | scrubDone
  /-- `ECC_FLIP_ARM`, R409: `ECC_FLIP_CTL` is written with ARM. -/
  | eccFlipArm (pool : Fin 4) (byte : Fin 8) (chk : Fin 256)
  /-- `MEV_POP`, R410: `MEV_CTRL.POP` is written 1. -/
  | mevPop
  /-- `BUS_REQUEST`, R412: a request of master m, held back `held` times; of master 4 it is the next request in the endpoint's queue, whatever r holds. -/
  | busRequest (m : Fin 8) (r : BusReq) (held : Nat)
  /-- `HOST_REQUEST`, R424: a memory request of the host arrives, at an offset in BAR0 or BAR2: the enable of each byte, and the byte that a write carries. -/
  | hostRequest (bar2 write : Bool) (ofs : Nat) (bytes : List (Bool × Fin 256))
  /-- `HOST_COMPLETION`, R426: the oldest request in the endpoint's queue, which has been performed, completes. -/
  | hostCompletion
  /-- `LINK_UP`, R443: the link enters DL_Active, with the speed code and the lanes of PCIE_STAT. -/
  | linkUp (speed : Fin 8) (width : Fin 8)
  /-- `LINK_DOWN`, R428: the link leaves DL_Active. -/
  | linkDown
  /-- `FLR`, R428: a Function Level Reset or a Hot Reset. -/
  | flr
  /-- `MSIX_SEND`, R433: the device judges vector v. -/
  | msixSend (v : Fin 64)
  /-- `VEC_ACK`, R433: bit v of `VEC_ACK` is written 1. -/
  | vecAck (v : Fin 64)
  /-- `FAULT_TEST`, R436: `FAULT_TEST` is written. -/
  | faultTest (on : Bool)
  /-- `SNAP_NOW`, R448: EVC_CTRL.SNAP_NOW is written. -/
  | snapNow
  /-- `CHAIN_READ`, R446: master m reads counter k. -/
  | chainRead (m : Fin 8) (k : Fin 512)
  /-- `SAMPLE`, R449: a sampling interval ends with this occurrence. -/
  | sample (o : SampleOcc)
  /-- `SMP_CONFIG_WRITE`, R449: SMP_CFG (or SMP_PERIOD) is written. -/
  | smpConfigWrite (period : Bool) (v : Word)
  /-- `SMP_RP_WRITE`, R451: SMP_RP is written. -/
  | smpRpWrite (v : Nat)
  /-- `ROSC_READY`, R455: ROSC has settled. -/
  | roscReady
  /-- `XTAL_READY`, R455: 65,536 XTAL cycles in a row have been counted. -/
  | xtalReady
  /-- `REFCLK_READY`, R455: SDREFCLK (`pcie` false) or PCIE_REFCLK has run gap-free for 4,096 cycles (`on` true) or has a gap. -/
  | refclkReady (pcie on : Bool)
  /-- `PLL_LOCK`, R455: the management PLL (`sys` false) or the system PLL locks. -/
  | pllLock (sys : Bool)
  /-- `PLL_LOL`, R474: the management PLL (`sys` false) or the system PLL loses lock. -/
  | pllLol (sys : Bool)
  /-- `ROOT_CFG_WRITE`, R457: a write of `ROOT_CFG`. -/
  | rootCfgWrite (w : Word)
  /-- `SW_DONE`, R457: the root change in progress has relocked. -/
  | swDone
  /-- `XTAL_ACTIVITY_TRIP`, R458: no XTAL edge has come for 0.5 µs. -/
  | xtalActivityTrip
  /-- `CLK_MON_WINDOW`, R458: a window of the clock monitor ends: the XTAL cycles and the SDREFCLK cycles counted. -/
  | clkMonWindow (x sd : Nat)
  /-- `GATE_REQUEST`, R464: master m writes the `GATE_CTRL` bit of island i from 0 to 1. -/
  | gateRequest (m : Fin 8) (i : Fin 6)
  /-- `GATE_CANCEL`, R464: the `GATE_CTRL` bit is written 0 while the request is pending. -/
  | gateCancel (i : Fin 6)
  /-- `GATE_DONE`, R464: the quiesce of a pending gate request ends. -/
  | gateDone (i : Fin 6)
  /-- `GATE_TIMEOUT`, R464: 10 µs have passed since step 2 of the request. -/
  | gateTimeout (i : Fin 6)
  /-- `UNGATE`, R465: the `GATE_CTRL` bit of a gated island is written 0. -/
  | ungate (i : Fin 6)
  /-- `UNGATE_DONE`, R465: 16 island clocks have passed since the clock restarted. -/
  | ungateDone (i : Fin 6)
  /-- `DEVICE_RESET`, R467: master m writes `RST_CTRL` with DEVICE = 1. -/
  | deviceReset (m : Fin 8) (w : Word)
  /-- `SYSTEM_RESET`, R467: a write of `RST_CTRL` with SYSTEM = 1. -/
  | systemReset (w : Word)
  /-- `ISL_RST_SET`, R468: an `ISL_RST` bit is written 1. -/
  | islRstSet (i : Fin 6)
  /-- `ISL_RST_RELEASE`, R468: an `ISL_RST` bit is written 0. -/
  | islRstRelease (i : Fin 6)
  /-- `DEEP_SLEEP`, R470: a write of `PWR_CTRL` with DEEP_SLEEP = 1. -/
  | deepSleep (w : Word)
  /-- `DEEP_SLEEP_ENTERED`, R470: the entry into deep sleep ends. -/
  | deepSleepEntered
  /-- `WAKE`, R471: levels held for 1 µs on the GPIOs, or on ZEROIZE_N. -/
  | wake (gpio : BitVec 16) (zeroize : Bool)
  /-- `VDD_AON_LOW`, R519: VDD_AON has been below 0.70 V for 1 µs. -/
  | vddAonLow
  /-- `AVS_UPDATE`, R514: 1 ms of the AVS controller: the code that the speed monitors ask for. -/
  | avsUpdate (want : Fin 31)
  /-- `MON_EN_SET`, R477: `MON_CTRL.EN` is written 1. -/
  | monEnSet
  /-- `MON_EN_CLEAR`, R477: `MON_CTRL.EN` is written 0. -/
  | monEnClear
  /-- `MON_RESULT`, R478: the result of the entry in progress is ready: its 2^AVG samples in order, each an input voltage, in differential mode a difference, in nV. -/
  | monResult (v : List Int)
  /-- `MON_QUEUE_POP`, R480: `QUEUE_CTRL.POP` is written 1. -/
  | monQueuePop
  /-- `MON_QUEUE_FLUSH`, R480: `QUEUE_CTRL.FLUSH` is written 1. -/
  | monQueueFlush
  /-- `SPI_GO`, R485: master m writes `SPI_CMD_i` with GO = 1. -/
  | spiGo (m : Fin 8) (i : Fin 2) (w : Word)
  /-- `SPI_DONE`, R485: a transfer of controller i ends; the bytes captured. -/
  | spiDone (i : Fin 2) (rx : List (Fin 256))
  /-- `I2C_GO`, R486: master m writes `I2C_CMD` with GO = 1. -/
  | i2cGo (m : Fin 8) (w : Word)
  /-- `I2C_DONE`, R486: the transaction ends with a RESULT; the index of the byte not acknowledged, and the bytes read. -/
  | i2cDone (result : Fin 6) (nack : Fin 256) (rx : List (Fin 256))
  /-- `BIST_STEP_TIMER`, R495: the pace timer of a group (0 = engines, 1 = slices, 2 = AES lanes) runs out. -/
  | bistStepTimer (c : Carrier) (g : Fin 3)
  /-- `BIST_SESSION_END`, R493: the session of a group ends: the patterns completed and the MISR. -/
  | bistSessionEnd (c : Carrier) (g : Fin 3) (patterns : Fin 16385) (misr : BitVec 64)
  /-- `PU_GO`, R497: `PU_CTRL.GO` is written 1. -/
  | puGo
  /-- `RETEST`, R498: `RETEST` of a group is written with GO = 1 and a unit. -/
  | retest (c : Carrier) (g : Fin 3) (u : Fin 32)
  /-- `STEP_NOTICE`, R501: firmware takes a STEP_NOTICE from the receive ring. -/
  | stepNotice
  /-- `STEP_ANSWER`, R501: firmware takes a STEP_ANSWER from the receive ring. -/
  | stepAnswer
  /-- `STEP_FAIL`, R501: 20 ms have passed since the notice sent. -/
  | stepFail
  /-- `CAL_RUN`, R506: `CAL_CTRL.RUN` is written 1. -/
  | calRun
  /-- `CAL_DONE`, R505: a calibration ends: its items, its lanes, and the items skipped, as FAIL_ITEMS numbers them. -/
  | calDone (items : List CalItem) (lanes : List CalLane) (skipped : Fin 256)
  /-- `CAL_STORE_END`, R509: a store to the flash ends: the values in firmware's layout and the temperature, in 0.1 °C; none = every step passed, else what a failed store left in the slot. -/
  | calStoreEnd (values : List (Fin 256)) (tj : BitVec 16) (left : Option (List (Fin 256)))
  /-- `JTAG_REG_ACCESS`, R531: REG_ACCESS reads or writes the register at an aligned address. -/
  | jtagRegAccess (a : BitVec 32) (write : Bool) (be : Fin 16) (w : BitVec 32)
  /-- `JTAG_DEVICE_RESET`, R531: the JTAG instruction DEVICE_RESET. -/
  | jtagDeviceReset
  /-- `JTAG_INTSCAN`, R366: the JTAG instruction INTSCAN. -/
  | jtagIntscan
  /-- `JTAG_MEMBIST`, R366: the JTAG instruction MEMBIST. -/
  | jtagMembist
  /-- `CDR_LOCK`, R222: the lane's CDR locks. -/
  | cdrLock (l : Fin 16)
  /-- `COEFF_REQUEST`, R219: a request for transmit tap k, with the value that the training function of the standard adjusts it to. -/
  | coeffRequest (l : Fin 16) (k : Fin 5) (tap : BitVec 8)
  /-- `CLIENT_CODEWORD_RX`, R243: a RS-FEC codeword of port p is received and corrected, with what the PCS and the packet counters saw in it. -/
  | clientCodewordRx (p : Fin 16) (w : ClientRx)
  /-- `SC_EN_APPLY`, R146: a training period boundary after a commit that changed DN_EN, UP_EN or HOME_SC. -/
  | scEnApply (c : Carrier)
  /-- `CONFIG_REQUEST`, R421: a configuration request of the host that changes the endpoint's settings. -/
  | configRequest (r : CfgReq)
  /-- `SPEED_CHANGE`, R443: the link retrains to another speed or width while up. -/
  | speedChange (speed : Fin 8) (width : Fin 8)
  /-- `MBIST_DONE`, R502: memory BIST of DPA, DPB and CLI ends: rows repaired; memories with an unrepairable bank (0 = deskew, 1 = DPA, 2 = DPB, 3 = CLI); units with one. -/
  | mbistDone (rows : Nat) (mems : List (Fin 4)) (units : List (Carrier × Fin 3 × Fin 17))
deriving DecidableEq, Repr

end Sys2Proof
end

