-- ==== Sys2Proof/Machine/Crc.lean ====
section
/-! DEFINITION. Shift registers and checksums: the Fibonacci register of R46, and the CRCs of R155, R156, R174, R225, R376 and R507. -/

namespace Sys2Proof.Machine

/-- One step of the shift register of R46 for x^L + x^t + 1: the output bit and the next state. -/
def lfsrStep (st l t : Nat) : Nat × Nat :=
  let out := st / 2 ^ (l - 1) % 2
  let fb := (out + st / 2 ^ (t - 1)) % 2
  (out, (2 * st + fb) % 2 ^ l)

/-- The first n output bits of a shift register from a seed. -/
def lfsrBits : Nat → Nat → Nat → Nat → List Nat
  | 0, _, _, _ => []
  | n + 1, st, l, t => (lfsrStep st l t).1 :: lfsrBits n (lfsrStep st l t).2 l t

/-- The bits of a byte, most significant first. -/
def bitsMsb (b : Nat) : List Nat := [b / 128 % 2, b / 64 % 2, b / 32 % 2, b / 16 % 2, b / 8 % 2, b / 4 % 2, b / 2 % 2, b % 2]

/-- The number that bits spell, most significant first. -/
def ofBits (l : List Nat) : Nat := l.foldl (fun n b => 2 * n + b) 0

/-- A CRC of a width, not reflected: the register after the bits, first bit first. -/
def crcMsb (width poly init : Nat) (bits : List Nat) : Nat :=
  bits.foldl (fun r b =>
    let top := (r / 2 ^ (width - 1) + b) % 2
    let r' := 2 * r % 2 ^ width
    if top = 1 then r' ^^^ poly else r') init

/-- One byte into the reflected CRC-32C register (polynomial 0x82F63B78). -/
def crc32cByte (r b : Nat) : Nat :=
  (List.range 8).foldl (fun x _ => if x % 2 = 1 then (x / 2) ^^^ 0x82F63B78 else x / 2) (r ^^^ b)

/-- CRC-32C of bytes: initial value all ones, inverted at the end. -/
def crc32c (bytes : List Nat) : Nat := bytes.foldl crc32cByte 0xFFFFFFFF ^^^ 0xFFFFFFFF

/-- The bytes of a list of bits, most significant bit first. -/
def bytesOfBits : Nat → List Nat → List Nat
  | 0, _ => []
  | n + 1, l => ofBits (l.take 8) :: bytesOfBits n (l.drop 8)

end Sys2Proof.Machine
end

