-- ==== Sys2Proof/Machine/RegTypes.lean ====
section
/-! DEFINITION. What a register map is made of: a field of a register, an event bit, the access types of R4 and a row of the map. -/

namespace Sys2Proof

/-- Where the registers of a carrier stand: LXA at 0x0100_0000 and LXB 0x80_0000 above it (R18, R429). -/
def Carrier.base : Carrier → Nat
  | .A => 0
  | .B => 0x00800000

/-- The number of a carrier's event source, given carrier A's: LXB's sources follow LXA's, 8 higher (R432). -/
def Carrier.src : Carrier → Nat → Nat
  | .A, n => n
  | .B, n => n + 8

/-- The number of a carrier: 0 for A, 1 for B. -/
def Carrier.ix : Carrier → Nat
  | .A => 0
  | .B => 1

/-- The event source at offset o of a carrier's range (R447): 128 onward for LXA, 256 onward for LXB. -/
def Carrier.evcSrc (c : Carrier) (o : Nat) : Nat := 128 + 128 * c.ix + o

/-- The other carrier. -/
def Carrier.other : Carrier → Carrier
  | .A => .B
  | .B => .A

/-- The carrier that a register bit names: 0 = A, 1 = B. -/
def Carrier.ofBit (n : Nat) : Carrier := if n % 2 = 0 then .A else .B

end Sys2Proof

namespace Sys2Proof.Machine

/-- A field of a register: the register's address, the field's lowest bit and its width. -/
structure Fld where
  addr : Nat
  lo : Nat
  width : Nat
deriving DecidableEq, Repr

/-- An event: the base of its block's event registers, its bit, and the source of R432 its block belongs to. -/
structure Ev where
  base : Nat
  bit : Nat
  src : Nat
deriving DecidableEq, Repr

/-- The access types of R4. -/
inductive Acc where
  | rw | rws | ro | rol | w1c | w1s | wo | rc
deriving DecidableEq, Repr

/-- A field of a row of the register map: lowest bit, width, access type, reset value. -/
structure RegField where
  lo : Nat
  width : Nat
  acc : Acc
  reset : Nat
deriving DecidableEq, Repr

/-- A row of the register map: the address of its first register, the count and stride of each index (outermost first),
the commit group of its RWS fields (255 where it has none; the group of carrier A for a carrier's block) and its fields.
Bits that no field covers are reserved: they read 0 and ignore writes (R5). -/
structure RegRow where
  name : String
  base : Nat
  dims : List (Nat × Nat)
  group : Nat
  fields : List RegField
deriving DecidableEq, Repr

end Sys2Proof.Machine
end

