-- ==== Sys2Proof/Machine/Events.lean ====
section
/-! DEFINITION. The events of every block: the base of the event registers, the bit and the source number of R432, as the event tables of spec/ give them (R69, R100, R117, R141, R166, R195, R216, R241, R261, R278, R309, R339, R370, R396, R420, R443, R453, R474, R491, R512). -/

namespace Sys2Proof.Machine

/-- The event registers of TXD stand at its base plus 0xF0, 0xF4 and 0xF8 (R430). -/
def Ev.TXD.base (c : Carrier) : Nat := c.base + 0x01000000
def Ev.TXD.CFG_REFUSED (c : Carrier) : Ev := ⟨Ev.TXD.base c, 0, c.src 12⟩
def Ev.TXD.RAMP_DONE (c : Carrier) : Ev := ⟨Ev.TXD.base c, 1, c.src 12⟩
def Ev.TXD.MASK_VIOL (c : Carrier) : Ev := ⟨Ev.TXD.base c, 2, c.src 12⟩
def Ev.TXD.DAC_CLIP (c : Carrier) : Ev := ⟨Ev.TXD.base c, 3, c.src 12⟩
def Ev.TXD.RECONF_DONE (c : Carrier) : Ev := ⟨Ev.TXD.base c, 4, c.src 12⟩
def Ev.TXD.DAC_PLL_LOL (c : Carrier) : Ev := ⟨Ev.TXD.base c, 5, c.src 12⟩
def Ev.TXD.MUTED (c : Carrier) : Ev := ⟨Ev.TXD.base c, 6, c.src 12⟩
/-- The event registers of RXD stand at its base plus 0xF0, 0xF4 and 0xF8 (R430). -/
def Ev.RXD.base (c : Carrier) : Nat := c.base + 0x01100000
def Ev.RXD.ADC_CLIP (c : Carrier) : Ev := ⟨Ev.RXD.base c, 0, c.src 13⟩
def Ev.RXD.ENG_FAULT (c : Carrier) : Ev := ⟨Ev.RXD.base c, 1, c.src 13⟩
def Ev.RXD.ENG_TAKEOVER (c : Carrier) : Ev := ⟨Ev.RXD.base c, 2, c.src 13⟩
def Ev.RXD.NO_RESERVE (c : Carrier) : Ev := ⟨Ev.RXD.base c, 3, c.src 13⟩
def Ev.RXD.ENG_SF (c : Carrier) : Ev := ⟨Ev.RXD.base c, 4, c.src 13⟩
def Ev.RXD.CD_LIMIT (c : Carrier) : Ev := ⟨Ev.RXD.base c, 5, c.src 13⟩
def Ev.RXD.CFR_RANGE (c : Carrier) : Ev := ⟨Ev.RXD.base c, 6, c.src 13⟩
def Ev.RXD.SNR_LOW (c : Carrier) : Ev := ⟨Ev.RXD.base c, 7, c.src 13⟩
def Ev.RXD.QUAL_READY (c : Carrier) : Ev := ⟨Ev.RXD.base c, 8, c.src 13⟩
def Ev.RXD.SLIP (c : Carrier) : Ev := ⟨Ev.RXD.base c, 9, c.src 13⟩
def Ev.RXD.LOCK_CHANGE (c : Carrier) : Ev := ⟨Ev.RXD.base c, 10, c.src 13⟩
/-- The event registers of ACQ stand at its base plus 0xF0, 0xF4 and 0xF8 (R430). -/
def Ev.ACQ.base (c : Carrier) : Nat := c.base + 0x01200000
def Ev.ACQ.ACQUIRED (c : Carrier) : Ev := ⟨Ev.ACQ.base c, 0, c.src 14⟩
def Ev.ACQ.LOST (c : Carrier) : Ev := ⟨Ev.ACQ.base c, 1, c.src 14⟩
def Ev.ACQ.LOS (c : Carrier) : Ev := ⟨Ev.ACQ.base c, 2, c.src 14⟩
def Ev.ACQ.ACQ_FAIL (c : Carrier) : Ev := ⟨Ev.ACQ.base c, 3, c.src 14⟩
def Ev.ACQ.WARM_FAIL (c : Carrier) : Ev := ⟨Ev.ACQ.base c, 4, c.src 14⟩
def Ev.ACQ.SCAN_FAIL (c : Carrier) : Ev := ⟨Ev.ACQ.base c, 5, c.src 14⟩
def Ev.ACQ.FALSE_TRAIN (c : Carrier) : Ev := ⟨Ev.ACQ.base c, 6, c.src 14⟩
/-- The event registers of FEC stand at its base plus 0xF0, 0xF4 and 0xF8 (R430). -/
def Ev.FEC.base (c : Carrier) : Nat := c.base + 0x01300000
def Ev.FEC.SLICE_FAULT (c : Carrier) : Ev := ⟨Ev.FEC.base c, 0, c.src 15⟩
def Ev.FEC.SLICE_TAKEOVER (c : Carrier) : Ev := ⟨Ev.FEC.base c, 1, c.src 15⟩
def Ev.FEC.NO_RESERVE (c : Carrier) : Ev := ⟨Ev.FEC.base c, 2, c.src 15⟩
def Ev.FEC.FEC_SF (c : Carrier) : Ev := ⟨Ev.FEC.base c, 3, c.src 15⟩
def Ev.FEC.CW_LOCK_CHANGE (c : Carrier) : Ev := ⟨Ev.FEC.base c, 4, c.src 15⟩
def Ev.FEC.UB (c : Carrier) : Ev := ⟨Ev.FEC.base c, 5, c.src 15⟩
def Ev.FEC.STAIR_UNCORR (c : Carrier) : Ev := ⟨Ev.FEC.base c, 6, c.src 15⟩
def Ev.FEC.CAP_REFUSED (c : Carrier) : Ev := ⟨Ev.FEC.base c, 7, c.src 15⟩
/-- The event registers of SUBC stand at its base plus 0xF0, 0xF4 and 0xF8 (R430). -/
def Ev.SUBC.base (c : Carrier) : Nat := c.base + 0x01600000
def Ev.SUBC.SC_CFG_REFUSED (c : Carrier) : Ev := ⟨Ev.SUBC.base c, 0, c.src 18⟩
def Ev.SUBC.SC_SF_CHANGE (c : Carrier) : Ev := ⟨Ev.SUBC.base c, 1, c.src 18⟩
def Ev.SUBC.SC_ACQUIRED (c : Carrier) : Ev := ⟨Ev.SUBC.base c, 2, c.src 18⟩
def Ev.SUBC.SC_LOST (c : Carrier) : Ev := ⟨Ev.SUBC.base c, 3, c.src 18⟩
def Ev.SUBC.WAKE_UNEXPECTED (c : Carrier) : Ev := ⟨Ev.SUBC.base c, 4, c.src 18⟩
def Ev.SUBC.FOFS_RANGE (c : Carrier) : Ev := ⟨Ev.SUBC.base c, 5, c.src 18⟩
def Ev.SUBC.INLET_RX (c : Carrier) : Ev := ⟨Ev.SUBC.base c, 6, c.src 18⟩
def Ev.SUBC.QUEUE_FULL (c : Carrier) : Ev := ⟨Ev.SUBC.base c, 7, c.src 18⟩
def Ev.SUBC.INLET_SENT (c : Carrier) : Ev := ⟨Ev.SUBC.base c, 8, c.src 18⟩
def Ev.SUBC.INLET_GIVEUP (c : Carrier) : Ev := ⟨Ev.SUBC.base c, 9, c.src 18⟩
/-- The event registers of FRM stand at its base plus 0xF0, 0xF4 and 0xF8 (R430). -/
def Ev.FRM.base (c : Carrier) : Nat := c.base + 0x01400000
def Ev.FRM.IF_CHANGE (c : Carrier) : Ev := ⟨Ev.FRM.base c, 0, c.src 16⟩
def Ev.FRM.DEF_CHANGE (c : Carrier) : Ev := ⟨Ev.FRM.base c, 1, c.src 16⟩
def Ev.FRM.FAIL_CHANGE (c : Carrier) : Ev := ⟨Ev.FRM.base c, 2, c.src 16⟩
def Ev.FRM.FSN_JUMP (c : Carrier) : Ev := ⟨Ev.FRM.base c, 3, c.src 16⟩
def Ev.FRM.FSN_RESTART (c : Carrier) : Ev := ⟨Ev.FRM.base c, 4, c.src 16⟩
def Ev.FRM.TTI_NEW (c : Carrier) : Ev := ⟨Ev.FRM.base c, 5, c.src 16⟩
def Ev.FRM.PT_NEW (c : Carrier) : Ev := ⟨Ev.FRM.base c, 6, c.src 16⟩
def Ev.FRM.APS_NEW (c : Carrier) : Ev := ⟨Ev.FRM.base c, 7, c.src 16⟩
def Ev.FRM.DELIN_SLIP (c : Carrier) : Ev := ⟨Ev.FRM.base c, 8, c.src 16⟩
def Ev.FRM.HDR_ERR (c : Carrier) : Ev := ⟨Ev.FRM.base c, 9, c.src 16⟩
def Ev.FRM.GCC_OVF (c : Carrier) : Ev := ⟨Ev.FRM.base c, 10, c.src 16⟩
def Ev.FRM.LOF_ACQ (c : Carrier) : Ev := ⟨Ev.FRM.base c, 11, c.src 16⟩
/-- The event registers of PMON stand at its base plus 0xF0, 0xF4 and 0xF8 (R430). -/
def Ev.PMON.base (c : Carrier) : Nat := c.base + 0x01500000
def Ev.PMON.BIN_DONE (c : Carrier) : Ev := ⟨Ev.PMON.base c, 0, c.src 17⟩
def Ev.PMON.CMP15_DONE (c : Carrier) : Ev := ⟨Ev.PMON.base c, 1, c.src 17⟩
def Ev.PMON.CMP24_DONE (c : Carrier) : Ev := ⟨Ev.PMON.base c, 2, c.src 17⟩
def Ev.PMON.TCA (c : Carrier) : Ev := ⟨Ev.PMON.base c, 3, c.src 17⟩
def Ev.PMON.UAS_ENTER (c : Carrier) : Ev := ⟨Ev.PMON.base c, 4, c.src 17⟩
def Ev.PMON.UAS_EXIT (c : Carrier) : Ev := ⟨Ev.PMON.base c, 5, c.src 17⟩
def Ev.PMON.TIME_STEP (c : Carrier) : Ev := ⟨Ev.PMON.base c, 6, c.src 17⟩
def Ev.PMON.LATE_ATTR (c : Carrier) : Ev := ⟨Ev.PMON.base c, 7, c.src 17⟩
/-- The event registers of LANE stand at its base plus 0xF0, 0xF4 and 0xF8 (R430). -/
def Ev.LANE.base (l : Nat) : Nat := 0x02000000 + 0x00010000 * l
def Ev.LANE.ACTIVE (l : Nat) : Ev := ⟨Ev.LANE.base l, 0, 28⟩
def Ev.LANE.LANE_DOWN (l : Nat) : Ev := ⟨Ev.LANE.base l, 1, 28⟩
def Ev.LANE.LOS (l : Nat) : Ev := ⟨Ev.LANE.base l, 2, 28⟩
def Ev.LANE.LOL (l : Nat) : Ev := ⟨Ev.LANE.base l, 3, 28⟩
def Ev.LANE.TRAIN_FAIL (l : Nat) : Ev := ⟨Ev.LANE.base l, 4, 28⟩
def Ev.LANE.CAPS_FAIL (l : Nat) : Ev := ⟨Ev.LANE.base l, 5, 28⟩
def Ev.LANE.CAPS_DONE (l : Nat) : Ev := ⟨Ev.LANE.base l, 6, 28⟩
def Ev.LANE.CAPS_MISMATCH (l : Nat) : Ev := ⟨Ev.LANE.base l, 7, 28⟩
def Ev.LANE.WAKE_FAIL (l : Nat) : Ev := ⟨Ev.LANE.base l, 8, 28⟩
def Ev.LANE.SLEEP_REFUSED (l : Nat) : Ev := ⟨Ev.LANE.base l, 9, 28⟩
def Ev.LANE.CHK_LOCK_CHANGE (l : Nat) : Ev := ⟨Ev.LANE.base l, 10, 28⟩
/-- The event registers of PORT stand at its base plus 0xF0, 0xF4 and 0xF8 (R430). -/
def Ev.PORT.base (p : Nat) : Nat := 0x02200000 + 0x00001000 * p
def Ev.PORT.ALIGN_CHANGE (p : Nat) : Ev := ⟨Ev.PORT.base p, 0, 29⟩
def Ev.PORT.HI_BER (p : Nat) : Ev := ⟨Ev.PORT.base p, 1, 29⟩
def Ev.PORT.RX_FAULT (p : Nat) : Ev := ⟨Ev.PORT.base p, 2, 29⟩
def Ev.PORT.EGR_ACT (p : Nat) : Ev := ⟨Ev.PORT.base p, 3, 29⟩
def Ev.PORT.ING_REPL (p : Nat) : Ev := ⟨Ev.PORT.base p, 4, 29⟩
/-- The event registers of XC stand at its base plus 0xF0, 0xF4 and 0xF8 (R430). -/
def Ev.XC.base : Nat := 0x02300000
def Ev.XC.XC_REFUSED : Ev := ⟨Ev.XC.base, 0, 30⟩
def Ev.XC.MSIM_CHANGE : Ev := ⟨Ev.XC.base, 1, 30⟩
def Ev.XC.SYNC_CHANGE : Ev := ⟨Ev.XC.base, 2, 30⟩
def Ev.XC.XC_STEP_DOWN : Ev := ⟨Ev.XC.base, 3, 30⟩
def Ev.XC.LOST_GAP : Ev := ⟨Ev.XC.base, 4, 30⟩
/-- The event registers of TIM stand at its base plus 0xF0, 0xF4 and 0xF8 (R430). -/
def Ev.TIM.base : Nat := 0x00600000
def Ev.TIM.FREE_RUN : Ev := ⟨Ev.TIM.base, 0, 6⟩
def Ev.TIM.ACQUIRING : Ev := ⟨Ev.TIM.base, 1, 6⟩
def Ev.TIM.LOCKED : Ev := ⟨Ev.TIM.base, 2, 6⟩
def Ev.TIM.HOLDOVER : Ev := ⟨Ev.TIM.base, 3, 6⟩
def Ev.TIM.HOLDOVER_OOS : Ev := ⟨Ev.TIM.base, 4, 6⟩
def Ev.TIM.REF_SWITCH : Ev := ⟨Ev.TIM.base, 5, 6⟩
def Ev.TIM.SWITCH_REDIRECT : Ev := ⟨Ev.TIM.base, 6, 6⟩
def Ev.TIM.QUAL_CHANGE : Ev := ⟨Ev.TIM.base, 7, 6⟩
def Ev.TIM.REF_DISAGREE : Ev := ⟨Ev.TIM.base, 8, 6⟩
def Ev.TIM.DCO_LIMIT : Ev := ⟨Ev.TIM.base, 9, 6⟩
/-- The event registers of WST stand at its base plus 0xF0, 0xF4 and 0xF8 (R430). -/
def Ev.WST.base : Nat := 0x00700000
def Ev.WST.TIME_STEP : Ev := ⟨Ev.WST.base, 0, 7⟩
def Ev.WST.STATE_CHANGE : Ev := ⟨Ev.WST.base, 1, 7⟩
def Ev.WST.STEP_BLOCKED : Ev := ⟨Ev.WST.base, 2, 7⟩
def Ev.WST.PATH_JUMP : Ev := ⟨Ev.WST.base, 3, 7⟩
def Ev.WST.PATH_CHANGE : Ev := ⟨Ev.WST.base, 4, 7⟩
def Ev.WST.RIPPLE_FIRED : Ev := ⟨Ev.WST.base, 5, 7⟩
def Ev.WST.RIPPLE_LATE : Ev := ⟨Ev.WST.base, 6, 7⟩
def Ev.WST.RIPPLE_DROP : Ev := ⟨Ev.WST.base, 7, 7⟩
def Ev.WST.ARM_REFUSED : Ev := ⟨Ev.WST.base, 8, 7⟩
def Ev.WST.RIP_BUSY : Ev := ⟨Ev.WST.base, 9, 7⟩
def Ev.WST.DOM_FAIL : Ev := ⟨Ev.WST.base, 10, 7⟩
def Ev.WST.FL_CHANGE : Ev := ⟨Ev.WST.base, 11, 7⟩
def Ev.WST.FL_SLIP : Ev := ⟨Ev.WST.base, 12, 7⟩
def Ev.WST.SET_REFUSED : Ev := ⟨Ev.WST.base, 13, 7⟩
/-- The event registers of PROT stand at its base plus 0xF0, 0xF4 and 0xF8 (R430). -/
def Ev.PROT.base : Nat := 0x02400000
def Ev.PROT.PG_REFUSED : Ev := ⟨Ev.PROT.base, 0, 31⟩
def Ev.PROT.SWITCH : Ev := ⟨Ev.PROT.base, 1, 31⟩
def Ev.PROT.SF_CHANGE : Ev := ⟨Ev.PROT.base, 2, 31⟩
def Ev.PROT.SD_CHANGE : Ev := ⟨Ev.PROT.base, 3, 31⟩
def Ev.PROT.LOST_RANGE : Ev := ⟨Ev.PROT.base, 4, 31⟩
def Ev.PROT.LR_OVF : Ev := ⟨Ev.PROT.base, 5, 31⟩
def Ev.PROT.DESKEW_EXCEEDED : Ev := ⟨Ev.PROT.base, 6, 31⟩
def Ev.PROT.MEMBER_MISMATCH : Ev := ⟨Ev.PROT.base, 7, 31⟩
def Ev.PROT.APS_ALARM : Ev := ⟨Ev.PROT.base, 8, 31⟩
def Ev.PROT.CMD_REJECT : Ev := ⟨Ev.PROT.base, 9, 31⟩
def Ev.PROT.SEL_MISCOMPARE : Ev := ⟨Ev.PROT.base, 10, 31⟩
def Ev.PROT.BOTH_FAIL : Ev := ⟨Ev.PROT.base, 11, 31⟩
/-- The event registers of LENC stand at its base plus 0xF0, 0xF4 and 0xF8 (R430). -/
def Ev.LENC.base (c : Carrier) : Nat := c.base + 0x01700000
def Ev.LENC.LOAD_DONE (c : Carrier) : Ev := ⟨Ev.LENC.base c, 0, c.src 19⟩
def Ev.LENC.LOAD_REFUSED (c : Carrier) : Ev := ⟨Ev.LENC.base c, 1, c.src 19⟩
def Ev.LENC.KP_SWAP (c : Carrier) : Ev := ⟨Ev.LENC.base c, 2, c.src 19⟩
def Ev.LENC.SWAP_EMPTY (c : Carrier) : Ev := ⟨Ev.LENC.base c, 3, c.src 19⟩
def Ev.LENC.KP_CHANGE (c : Carrier) : Ev := ⟨Ev.LENC.base c, 4, c.src 19⟩
def Ev.LENC.TAG_FAIL (c : Carrier) : Ev := ⟨Ev.LENC.base c, 5, c.src 19⟩
def Ev.LENC.KEY_AGE (c : Carrier) : Ev := ⟨Ev.LENC.base c, 6, c.src 19⟩
def Ev.LENC.KEY_EXPIRED (c : Carrier) : Ev := ⟨Ev.LENC.base c, 7, c.src 19⟩
def Ev.LENC.TX_KEY_EMPTY (c : Carrier) : Ev := ⟨Ev.LENC.base c, 8, c.src 19⟩
def Ev.LENC.NEXT_LOST (c : Carrier) : Ev := ⟨Ev.LENC.base c, 9, c.src 19⟩
def Ev.LENC.PLAIN_RX (c : Carrier) : Ev := ⟨Ev.LENC.base c, 10, c.src 19⟩
def Ev.LENC.LANE_FAULT (c : Carrier) : Ev := ⟨Ev.LENC.base c, 11, c.src 19⟩
def Ev.LENC.LANE_TAKEOVER (c : Carrier) : Ev := ⟨Ev.LENC.base c, 12, c.src 19⟩
def Ev.LENC.NO_RESERVE (c : Carrier) : Ev := ⟨Ev.LENC.base c, 13, c.src 19⟩
def Ev.LENC.CAP_REFUSED (c : Carrier) : Ev := ⟨Ev.LENC.base c, 14, c.src 19⟩
/-- The event registers of SEC stand at its base plus 0xF0, 0xF4 and 0xF8 (R430). -/
def Ev.SEC.base : Nat := 0x00800000
def Ev.SEC.KEY_ZEROIZED : Ev := ⟨Ev.SEC.base, 0, 8⟩
def Ev.SEC.JOB_DONE : Ev := ⟨Ev.SEC.base, 1, 8⟩
def Ev.SEC.JOB_ERR : Ev := ⟨Ev.SEC.base, 2, 8⟩
def Ev.SEC.SLOT_COMMIT : Ev := ⟨Ev.SEC.base, 3, 8⟩
def Ev.SEC.PROV_DONE : Ev := ⟨Ev.SEC.base, 4, 8⟩
def Ev.SEC.CMD_REFUSED : Ev := ⟨Ev.SEC.base, 5, 8⟩
/-- The event registers of BOOT stand at its base plus 0xF0, 0xF4 and 0xF8 (R430). -/
def Ev.BOOT.base : Nat := 0x00200000
def Ev.BOOT.BOOT_DONE : Ev := ⟨Ev.BOOT.base, 0, 2⟩
def Ev.BOOT.FULL_SERVICE : Ev := ⟨Ev.BOOT.base, 1, 2⟩
def Ev.BOOT.FALLBACK : Ev := ⟨Ev.BOOT.base, 2, 2⟩
def Ev.BOOT.HALTED : Ev := ⟨Ev.BOOT.base, 3, 2⟩
def Ev.BOOT.KEY_FAIL : Ev := ⟨Ev.BOOT.base, 4, 2⟩
def Ev.BOOT.XSPI_DONE : Ev := ⟨Ev.BOOT.base, 5, 2⟩
def Ev.BOOT.XSPI_REFUSED : Ev := ⟨Ev.BOOT.base, 6, 2⟩
def Ev.BOOT.CONFIRM_TMO : Ev := ⟨Ev.BOOT.base, 7, 2⟩
/-- The event registers of MGMT stand at its base plus 0xF0, 0xF4 and 0xF8 (R430). -/
def Ev.MGMT.base : Nat := 0x00400000
def Ev.MGMT.WDT_WARN : Ev := ⟨Ev.MGMT.base, 0, 4⟩
def Ev.MGMT.WDT_EXPIRE : Ev := ⟨Ev.MGMT.base, 1, 4⟩
def Ev.MGMT.TAKEOVER : Ev := ⟨Ev.MGMT.base, 2, 4⟩
def Ev.MGMT.ALL_CORES_DOWN : Ev := ⟨Ev.MGMT.base, 3, 4⟩
def Ev.MGMT.MBOX_DONE : Ev := ⟨Ev.MGMT.base, 4, 4⟩
def Ev.MGMT.MBOX_NOTIFY : Ev := ⟨Ev.MGMT.base, 5, 4⟩
def Ev.MGMT.MBOX_OVERRUN : Ev := ⟨Ev.MGMT.base, 6, 4⟩
def Ev.MGMT.EXT_FAULT : Ev := ⟨Ev.MGMT.base, 7, 4⟩
def Ev.MGMT.EXT_DISABLED : Ev := ⟨Ev.MGMT.base, 8, 4⟩
/-- The event registers of POOL stand at its base plus 0xF0, 0xF4 and 0xF8 (R430). -/
def Ev.POOL.base : Nat := 0x00300000
def Ev.POOL.CORR : Ev := ⟨Ev.POOL.base, 0, 3⟩
def Ev.POOL.UNCORR : Ev := ⟨Ev.POOL.base, 1, 3⟩
def Ev.POOL.POISONED : Ev := ⟨Ev.POOL.base, 2, 3⟩
def Ev.POOL.POISON_READ : Ev := ⟨Ev.POOL.base, 3, 3⟩
def Ev.POOL.HARD_SUSPECT : Ev := ⟨Ev.POOL.base, 4, 3⟩
def Ev.POOL.WR_COLLIDE : Ev := ⟨Ev.POOL.base, 5, 3⟩
def Ev.POOL.SCRUB_DONE : Ev := ⟨Ev.POOL.base, 6, 3⟩
def Ev.POOL.REPAIR_DONE : Ev := ⟨Ev.POOL.base, 7, 3⟩
def Ev.POOL.OWN_REFUSED : Ev := ⟨Ev.POOL.base, 8, 3⟩
def Ev.POOL.BUS_ERR : Ev := ⟨Ev.POOL.base, 9, 3⟩
def Ev.POOL.MEV_OVF : Ev := ⟨Ev.POOL.base, 10, 3⟩
/-- The event registers of TOP stand at its base plus 0xF0, 0xF4 and 0xF8 (R430). -/
def Ev.TOP.base : Nat := 0
def Ev.TOP.BAD_ACCESS : Ev := ⟨Ev.TOP.base, 0, 0⟩
def Ev.TOP.COMMIT_REFUSED : Ev := ⟨Ev.TOP.base, 1, 0⟩
/-- The event registers of PCIE stand at its base plus 0xF0, 0xF4 and 0xF8 (R430). -/
def Ev.PCIE.base : Nat := 0x00B00000
def Ev.PCIE.LINK_DOWN : Ev := ⟨Ev.PCIE.base, 0, 11⟩
def Ev.PCIE.LINK_UP : Ev := ⟨Ev.PCIE.base, 1, 11⟩
def Ev.PCIE.HOST_ERR : Ev := ⟨Ev.PCIE.base, 2, 11⟩
def Ev.PCIE.FLR : Ev := ⟨Ev.PCIE.base, 3, 11⟩
def Ev.PCIE.SPEED_CHANGE : Ev := ⟨Ev.PCIE.base, 4, 11⟩
/-- The event registers of EVC stand at its base plus 0xF0, 0xF4 and 0xF8 (R430). -/
def Ev.EVC.base : Nat := 0x00500000
def Ev.EVC.SNAP_DONE : Ev := ⟨Ev.EVC.base, 0, 5⟩
def Ev.EVC.OVF : Ev := ⟨Ev.EVC.base, 1, 5⟩
def Ev.EVC.SMP_THR : Ev := ⟨Ev.EVC.base, 2, 5⟩
def Ev.EVC.SMP_FULL : Ev := ⟨Ev.EVC.base, 3, 5⟩
/-- The event registers of CLK stand at its base plus 0xF0, 0xF4 and 0xF8 (R430). -/
def Ev.CLK.base : Nat := 0x00100000
def Ev.CLK.CLK_FAIL : Ev := ⟨Ev.CLK.base, 0, 1⟩
def Ev.CLK.SW_DONE : Ev := ⟨Ev.CLK.base, 1, 1⟩
def Ev.CLK.SW_REFUSED : Ev := ⟨Ev.CLK.base, 2, 1⟩
def Ev.CLK.ROSC_BAD : Ev := ⟨Ev.CLK.base, 3, 1⟩
def Ev.CLK.XTAL_READY : Ev := ⟨Ev.CLK.base, 4, 1⟩
def Ev.CLK.PLL_LOL : Ev := ⟨Ev.CLK.base, 5, 1⟩
def Ev.CLK.GATE_DONE : Ev := ⟨Ev.CLK.base, 6, 1⟩
def Ev.CLK.GATE_REFUSED : Ev := ⟨Ev.CLK.base, 7, 1⟩
def Ev.CLK.WAKE : Ev := ⟨Ev.CLK.base, 8, 1⟩
/-- The event registers of MON stand at its base plus 0xF0, 0xF4 and 0xF8 (R430). -/
def Ev.MON.base : Nat := 0x00900000
def Ev.MON.THERMAL_TRIP : Ev := ⟨Ev.MON.base, 0, 9⟩
def Ev.MON.VOLTAGE_FAIL : Ev := ⟨Ev.MON.base, 1, 9⟩
def Ev.MON.LIMIT : Ev := ⟨Ev.MON.base, 2, 9⟩
def Ev.MON.OVR : Ev := ⟨Ev.MON.base, 3, 9⟩
def Ev.MON.Q_FULL : Ev := ⟨Ev.MON.base, 4, 9⟩
def Ev.MON.Q_THR : Ev := ⟨Ev.MON.base, 5, 9⟩
def Ev.MON.SPI_DONE : Ev := ⟨Ev.MON.base, 6, 9⟩
def Ev.MON.I2C_DONE : Ev := ⟨Ev.MON.base, 7, 9⟩
def Ev.MON.I2C_ERR : Ev := ⟨Ev.MON.base, 8, 9⟩
def Ev.MON.FE_REFUSED : Ev := ⟨Ev.MON.base, 9, 9⟩
/-- The event registers of TST stand at its base plus 0xF0, 0xF4 and 0xF8 (R430). -/
def Ev.TST.base : Nat := 0x00A00000
def Ev.TST.BIST_FAIL : Ev := ⟨Ev.TST.base, 0, 10⟩
def Ev.TST.BIST_INCOMPLETE : Ev := ⟨Ev.TST.base, 1, 10⟩
def Ev.TST.PU_DONE : Ev := ⟨Ev.TST.base, 2, 10⟩
def Ev.TST.NEED_STEP : Ev := ⟨Ev.TST.base, 3, 10⟩
def Ev.TST.STEP_DONE : Ev := ⟨Ev.TST.base, 4, 10⟩
def Ev.TST.STEP_FAIL : Ev := ⟨Ev.TST.base, 5, 10⟩
def Ev.TST.MBIST_FAIL : Ev := ⟨Ev.TST.base, 6, 10⟩
def Ev.TST.CAL_DONE : Ev := ⟨Ev.TST.base, 7, 10⟩
def Ev.TST.CAL_REJECT : Ev := ⟨Ev.TST.base, 8, 10⟩
def Ev.TST.CAL_STORED : Ev := ⟨Ev.TST.base, 9, 10⟩
def Ev.TST.CAL_STORE_FAIL : Ev := ⟨Ev.TST.base, 10, 10⟩

end Sys2Proof.Machine
end

