-- ==== Sys2Proof/Config.lean ====
section
/-! DEFINITION. What an implementation fixes and what the spec leaves open: the free values, constants with no body, so that
nothing can be proved of their value. -/

namespace Sys2Proof

/-- A fresh value wherever the spec says that one results and not which: applied to State's counter of free values, which
each use advances. Opaque: no proof can see a value of it. -/
opaque Config.freeNat : Nat → Nat

/-- The address 0x0200_0030 + 0x1_0000 × l holds two registers of the spec's tables (`TX_FFE_4` of R239 and `EYE` of R240);
which of the two a read of it returns is left open. -/
opaque Config.readOfEyeIsTap : Bool

/-- The bytes of the aligned block that an erase opcode erases in the flash fitted (R375 leaves the opcodes to the flash). -/
opaque Config.xspiEraseSize : Nat → Nat

end Sys2Proof
end

