-- ==== Sys2Proof/Machine/RegRowsClient.lean ====
section
/-! DEFINITION. The register map of the client side and of protection: for each register its address, its strides, its commit group and the place, width, access type and reset value of each field, as the register tables of spec/ give them. -/

namespace Sys2Proof.Machine

/-- The registers of CLI. -/
def RegMap.CLI : List RegRow := [
  { name := "CLI.LANE_EVT", base := 0x02100000, dims := [], group := 255, fields := [⟨0, 16, .w1c, 0⟩] },
  { name := "CLI.PORT_EVT", base := 0x02210000, dims := [], group := 255, fields := [⟨0, 16, .w1c, 0⟩] }]

/-- The registers of LANE. -/
def RegMap.LANE : List RegRow := [
  { name := "LANE.LANE_CFG", base := 0x02000000, dims := [(16, 0x00010000)], group := 255, fields := [⟨24, 2, .rw, 0⟩, ⟨16, 2, .rw, 0⟩, ⟨13, 1, .rw, 0⟩, ⟨12, 1, .rw, 0⟩, ⟨11, 1, .rw, 0⟩, ⟨10, 1, .rw, 1⟩, ⟨9, 1, .rw, 1⟩, ⟨8, 1, .rw, 0⟩, ⟨4, 2, .rw, 0⟩, ⟨0, 1, .rw, 0⟩] },
  { name := "LANE.LANE_TMO", base := 0x02000004, dims := [(16, 0x00010000)], group := 255, fields := [⟨24, 8, .rw, 100⟩, ⟨16, 8, .rw, 50⟩, ⟨0, 16, .rw, 1000⟩] },
  { name := "LANE.DET_CFG", base := 0x02000008, dims := [(16, 0x00010000)], group := 255, fields := [⟨16, 8, .rw, 20⟩, ⟨8, 4, .rw, 4⟩, ⟨0, 8, .rw, 12⟩] },
  { name := "LANE.LANE_SLEEP", base := 0x0200000C, dims := [(16, 0x00010000)], group := 255, fields := [⟨8, 8, .rw, 100⟩, ⟨1, 1, .rw, 0⟩, ⟨0, 1, .rw, 0⟩] },
  { name := "LANE.CAPS_USER", base := 0x02000014, dims := [(16, 0x00010000)], group := 255, fields := [⟨0, 8, .rw, 0⟩] },
  { name := "LANE.TX_FFE", base := 0x02000020, dims := [(16, 0x00010000), (5, 4)], group := 255, fields := [⟨0, 8, .rw, 0⟩] },
  { name := "LANE.PRBS_CFG", base := 0x02000040, dims := [(16, 0x00010000)], group := 255, fields := [⟨16, 1, .wo, 0⟩, ⟨13, 1, .rw, 0⟩, ⟨12, 1, .rw, 0⟩, ⟨8, 4, .rw, 5⟩, ⟨4, 4, .rw, 5⟩, ⟨1, 1, .rw, 0⟩, ⟨0, 1, .rw, 0⟩] },
  { name := "LANE.INJ_CTRL", base := 0x02000044, dims := [(16, 0x00010000)], group := 255, fields := [⟨16, 12, .rw, 15⟩, ⟨1, 1, .wo, 0⟩, ⟨0, 1, .wo, 0⟩] },
  { name := "LANE.LANE_STAT", base := 0x02000010, dims := [(16, 0x00010000)], group := 255, fields := [⟨16, 1, .ro, 0⟩, ⟨13, 1, .ro, 0⟩, ⟨12, 1, .ro, 0⟩, ⟨10, 1, .ro, 0⟩, ⟨9, 1, .ro, 0⟩, ⟨8, 1, .ro, 0⟩, ⟨5, 1, .ro, 0⟩, ⟨4, 1, .ro, 1⟩, ⟨0, 3, .ro, 0⟩] },
  { name := "LANE.CAPS_RX_LO", base := 0x02000018, dims := [(16, 0x00010000)], group := 255, fields := [⟨0, 32, .ro, 0⟩] },
  { name := "LANE.CAPS_RX_HI", base := 0x0200001C, dims := [(16, 0x00010000)], group := 255, fields := [⟨0, 32, .ro, 0⟩] },
  { name := "LANE.EYE", base := 0x02000030, dims := [(16, 0x00010000)], group := 255, fields := [⟨16, 16, .ro, 0⟩, ⟨0, 16, .ro, 0⟩] },
  { name := "LANE.CHK_STAT", base := 0x02000048, dims := [(16, 0x00010000)], group := 255, fields := [⟨16, 16, .ro, 0⟩, ⟨0, 1, .ro, 0⟩] },
  { name := "LANE.CHK_BITS_LO", base := 0x02000050, dims := [(16, 0x00010000)], group := 255, fields := [⟨0, 32, .ro, 0⟩] },
  { name := "LANE.CHK_BITS_HI", base := 0x02000054, dims := [(16, 0x00010000)], group := 255, fields := [⟨0, 32, .ro, 0⟩] },
  { name := "LANE.CHK_ERRS_LO", base := 0x02000058, dims := [(16, 0x00010000)], group := 255, fields := [⟨0, 32, .ro, 0⟩] },
  { name := "LANE.CHK_ERRS_HI", base := 0x0200005C, dims := [(16, 0x00010000)], group := 255, fields := [⟨0, 32, .ro, 0⟩] },
  { name := "LANE.INJ_CNT", base := 0x02000060, dims := [(16, 0x00010000)], group := 255, fields := [⟨0, 32, .ro, 0⟩] },
  { name := "LANE.TRAIN_FAIL_CNT", base := 0x02000070, dims := [(16, 0x00010000)], group := 255, fields := [⟨0, 32, .ro, 0⟩] },
  { name := "LANE.CAPS_FAIL_CNT", base := 0x02000074, dims := [(16, 0x00010000)], group := 255, fields := [⟨0, 32, .ro, 0⟩] },
  { name := "LANE.DOWN_CNT", base := 0x02000078, dims := [(16, 0x00010000)], group := 255, fields := [⟨0, 32, .ro, 0⟩] },
  { name := "LANE.ACT_TIME", base := 0x0200007C, dims := [(16, 0x00010000)], group := 255, fields := [⟨0, 32, .ro, 0⟩] },
  { name := "LANE.EVT_STAT", base := 0x020000F0, dims := [(16, 0x00010000)], group := 255, fields := [⟨0, 11, .w1c, 0⟩] },
  { name := "LANE.EVT_MASK", base := 0x020000F4, dims := [(16, 0x00010000)], group := 255, fields := [⟨0, 11, .rw, 2047⟩] },
  { name := "LANE.EVT_STICKY", base := 0x020000F8, dims := [(16, 0x00010000)], group := 255, fields := [⟨0, 11, .rw, 2047⟩] }]

/-- The registers of PORT. -/
def RegMap.PORT : List RegRow := [
  { name := "PORT.PORT_CFG", base := 0x02200000, dims := [(16, 0x00001000)], group := 5, fields := [⟨4, 3, .rws, 0⟩, ⟨0, 1, .rws, 0⟩] },
  { name := "PORT.PORT_ACT", base := 0x02200004, dims := [(16, 0x00001000)], group := 255, fields := [⟨9, 1, .rw, 0⟩, ⟨8, 1, .rw, 0⟩, ⟨4, 1, .rw, 1⟩, ⟨0, 2, .rw, 0⟩] },
  { name := "PORT.PORT_STAT", base := 0x02200008, dims := [(16, 0x00001000)], group := 255, fields := [⟨31, 1, .ro, 0⟩, ⟨28, 3, .ro, 0⟩, ⟨16, 5, .ro, 0⟩, ⟨10, 6, .ro, 0⟩, ⟨9, 1, .ro, 0⟩, ⟨8, 1, .ro, 0⟩, ⟨7, 1, .ro, 0⟩, ⟨6, 1, .ro, 0⟩, ⟨5, 1, .ro, 0⟩, ⟨4, 1, .ro, 0⟩] },
  { name := "PORT.FEC_CW_LO", base := 0x02200040, dims := [(16, 0x00001000)], group := 255, fields := [⟨0, 32, .ro, 0⟩] },
  { name := "PORT.FEC_CW_HI", base := 0x02200044, dims := [(16, 0x00001000)], group := 255, fields := [⟨0, 32, .ro, 0⟩] },
  { name := "PORT.FEC_CORR_LO", base := 0x02200048, dims := [(16, 0x00001000)], group := 255, fields := [⟨0, 32, .ro, 0⟩] },
  { name := "PORT.FEC_CORR_HI", base := 0x0220004C, dims := [(16, 0x00001000)], group := 255, fields := [⟨0, 32, .ro, 0⟩] },
  { name := "PORT.FEC_UNCORR_LO", base := 0x02200050, dims := [(16, 0x00001000)], group := 255, fields := [⟨0, 32, .ro, 0⟩] },
  { name := "PORT.FEC_UNCORR_HI", base := 0x02200054, dims := [(16, 0x00001000)], group := 255, fields := [⟨0, 32, .ro, 0⟩] },
  { name := "PORT.FEC_SYM_LO", base := 0x02200058, dims := [(16, 0x00001000)], group := 255, fields := [⟨0, 32, .ro, 0⟩] },
  { name := "PORT.FEC_SYM_HI", base := 0x0220005C, dims := [(16, 0x00001000)], group := 255, fields := [⟨0, 32, .ro, 0⟩] },
  { name := "PORT.ING_PKT_LO", base := 0x02200060, dims := [(16, 0x00001000)], group := 255, fields := [⟨0, 32, .ro, 0⟩] },
  { name := "PORT.ING_PKT_HI", base := 0x02200064, dims := [(16, 0x00001000)], group := 255, fields := [⟨0, 32, .ro, 0⟩] },
  { name := "PORT.ING_FCS_ERR", base := 0x02200068, dims := [(16, 0x00001000)], group := 255, fields := [⟨0, 32, .ro, 0⟩] },
  { name := "PORT.EGR_PKT_LO", base := 0x02200070, dims := [(16, 0x00001000)], group := 255, fields := [⟨0, 32, .ro, 0⟩] },
  { name := "PORT.EGR_PKT_HI", base := 0x02200074, dims := [(16, 0x00001000)], group := 255, fields := [⟨0, 32, .ro, 0⟩] },
  { name := "PORT.EGR_FCS_ERR", base := 0x02200078, dims := [(16, 0x00001000)], group := 255, fields := [⟨0, 32, .ro, 0⟩] },
  { name := "PORT.ING_IDLE_ADJ", base := 0x02200080, dims := [(16, 0x00001000)], group := 255, fields := [⟨0, 32, .ro, 0⟩] },
  { name := "PORT.EGR_IDLE_ADJ", base := 0x02200084, dims := [(16, 0x00001000)], group := 255, fields := [⟨0, 32, .ro, 0⟩] },
  { name := "PORT.EVT_STAT", base := 0x022000F0, dims := [(16, 0x00001000)], group := 255, fields := [⟨0, 5, .w1c, 0⟩] },
  { name := "PORT.EVT_MASK", base := 0x022000F4, dims := [(16, 0x00001000)], group := 255, fields := [⟨0, 5, .rw, 31⟩] },
  { name := "PORT.EVT_STICKY", base := 0x022000F8, dims := [(16, 0x00001000)], group := 255, fields := [⟨0, 5, .rw, 31⟩] }]

/-- The registers of XC. -/
def RegMap.XC : List RegRow := [
  { name := "XC.XC_STAT", base := 0x02300000, dims := [], group := 255, fields := [⟨28, 4, .ro, 0⟩, ⟨16, 5, .ro, 0⟩] },
  { name := "XC.MSIM_CFG", base := 0x02300004, dims := [], group := 255, fields := [⟨0, 16, .rw, 20⟩] },
  { name := "XC.XC_CFG", base := 0x02300100, dims := [(32, 64)], group := 4, fields := [⟨31, 1, .rws, 0⟩, ⟨16, 4, .rws, 0⟩, ⟨12, 1, .rws, 0⟩, ⟨8, 4, .rws, 0⟩] },
  { name := "XC.XC_MASK", base := 0x02300104, dims := [(32, 64), (10, 4)], group := 4, fields := [⟨0, 32, .rws, 0⟩] },
  { name := "XC.XC_TRIB_STAT", base := 0x02301000, dims := [(32, 16)], group := 255, fields := [⟨31, 1, .ro, 0⟩, ⟨26, 1, .ro, 1⟩, ⟨25, 1, .ro, 0⟩, ⟨24, 1, .ro, 0⟩, ⟨0, 9, .ro, 0⟩] },
  { name := "XC.GMP_CRC_ERR", base := 0x02301004, dims := [(32, 16)], group := 255, fields := [⟨0, 32, .ro, 0⟩] },
  { name := "XC.LOST_GAPS", base := 0x02301008, dims := [(32, 16)], group := 255, fields := [⟨0, 32, .ro, 0⟩] },
  { name := "XC.UNVERIFIED_DELIVERED", base := 0x0230100C, dims := [(32, 16)], group := 255, fields := [⟨0, 32, .ro, 0⟩] },
  { name := "XC.EVT_STAT", base := 0x023000F0, dims := [], group := 255, fields := [⟨0, 5, .w1c, 0⟩] },
  { name := "XC.EVT_MASK", base := 0x023000F4, dims := [], group := 255, fields := [⟨0, 5, .rw, 31⟩] },
  { name := "XC.EVT_STICKY", base := 0x023000F8, dims := [], group := 255, fields := [⟨0, 5, .rw, 31⟩] }]

/-- The registers of PROT, part 0. -/
def RegMap.PROT0 : List RegRow := [
  { name := "PROT.PROT_STAT", base := 0x02400000, dims := [], group := 255, fields := [⟨28, 4, .ro, 0⟩, ⟨16, 4, .ro, 0⟩, ⟨8, 1, .ro, 0⟩, ⟨0, 7, .ro, 0⟩] },
  { name := "PROT.DESKEW_USE", base := 0x02400004, dims := [], group := 255, fields := [⟨0, 15, .ro, 0⟩] },
  { name := "PROT.PROT_CTRL", base := 0x02400008, dims := [], group := 255, fields := [⟨0, 1, .wo, 0⟩] },
  { name := "PROT.RIP_REQ", base := 0x02400010, dims := [], group := 255, fields := [⟨16, 4, .rw, 0⟩, ⟨0, 3, .rw, 0⟩] },
  { name := "PROT.PROT_EVT_PG", base := 0x02400014, dims := [], group := 255, fields := [⟨0, 16, .w1c, 0⟩] },
  { name := "PROT.DSK_CORR", base := 0x02400018, dims := [], group := 255, fields := [⟨0, 32, .ro, 0⟩] },
  { name := "PROT.LR_STAT", base := 0x02400200, dims := [], group := 255, fields := [⟨16, 16, .ro, 0⟩, ⟨0, 5, .ro, 0⟩] },
  { name := "PROT.LR_CTRL", base := 0x02400204, dims := [], group := 255, fields := [⟨0, 1, .wo, 0⟩] },
  { name := "PROT.LR_HEAD_INFO", base := 0x02400208, dims := [], group := 255, fields := [⟨16, 4, .ro, 0⟩, ⟨0, 2, .ro, 0⟩] },
  { name := "PROT.LR_HEAD_FIRST", base := 0x0240020C, dims := [], group := 255, fields := [⟨0, 32, .ro, 0⟩] },
  { name := "PROT.LR_HEAD_LAST", base := 0x02400210, dims := [], group := 255, fields := [⟨0, 32, .ro, 0⟩] },
  { name := "PROT.LR_HEAD_SEC_LO", base := 0x02400214, dims := [], group := 255, fields := [⟨0, 32, .ro, 0⟩] },
  { name := "PROT.LR_HEAD_NS", base := 0x02400218, dims := [], group := 255, fields := [⟨0, 30, .ro, 0⟩] },
  { name := "PROT.PG_CFG", base := 0x02401000, dims := [(16, 0x00000100)], group := 8, fields := [⟨31, 1, .rws, 0⟩, ⟨28, 3, .rws, 0⟩, ⟨24, 1, .rws, 0⟩, ⟨20, 1, .rws, 1⟩, ⟨16, 1, .rws, 0⟩, ⟨8, 5, .rws, 0⟩] },
  { name := "PROT.MEM_CFG", base := 0x02401004, dims := [(16, 0x00000100)], group := 8, fields := [⟨12, 1, .rws, 0⟩, ⟨8, 4, .rws, 0⟩] },
  { name := "PROT.MEM_MASK", base := 0x02401008, dims := [(16, 0x00000100), (10, 4)], group := 8, fields := [⟨0, 32, .rws, 0⟩] },
  { name := "PROT.TIMER_CFG", base := 0x02401030, dims := [(16, 0x00000100)], group := 255, fields := [⟨16, 16, .rw, 300⟩, ⟨0, 16, .rw, 0⟩] },
  { name := "PROT.DESK_CFG", base := 0x02401034, dims := [(16, 0x00000100)], group := 8, fields := [⟨0, 9, .rws, 100⟩] },
  { name := "PROT.SD_CFG", base := 0x02401038, dims := [(16, 0x00000100)], group := 255, fields := [⟨31, 1, .rw, 0⟩, ⟨16, 8, .rw, 10⟩, ⟨0, 16, .rw, 100⟩] },
  { name := "PROT.CMD", base := 0x0240103C, dims := [(16, 0x00000100)], group := 255, fields := [⟨0, 3, .wo, 0⟩] },
  { name := "PROT.PG_STAT", base := 0x02401040, dims := [(16, 0x00000100)], group := 255, fields := [⟨31, 1, .ro, 0⟩, ⟨24, 4, .ro, 0⟩, ⟨20, 4, .ro, 0⟩, ⟨15, 1, .ro, 0⟩, ⟨14, 1, .ro, 0⟩, ⟨13, 1, .ro, 0⟩, ⟨12, 1, .ro, 0⟩, ⟨8, 1, .ro, 0⟩, ⟨6, 1, .ro, 0⟩, ⟨5, 1, .ro, 0⟩, ⟨4, 1, .ro, 0⟩, ⟨0, 1, .ro, 0⟩] },
  { name := "PROT.DIFF_DLY", base := 0x02401044, dims := [(16, 0x00000100)], group := 255, fields := [⟨0, 32, .ro, 0⟩] },
  { name := "PROT.WTR_LEFT", base := 0x02401048, dims := [(16, 0x00000100)], group := 255, fields := [⟨0, 16, .ro, 0⟩] },
  { name := "PROT.LAST_INT", base := 0x0240104C, dims := [(16, 0x00000100)], group := 255, fields := [⟨0, 32, .ro, 0⟩] },
  { name := "PROT.SWITCH_CNT", base := 0x02401050, dims := [(16, 0x00000100)], group := 255, fields := [⟨0, 32, .ro, 0⟩] },
  { name := "PROT.APS_PEER", base := 0x02401054, dims := [(16, 0x00000100)], group := 255, fields := [⟨0, 14, .rw, 16383⟩] },
  { name := "PROT.FRM_OUT_LO", base := 0x02401058, dims := [(16, 0x00000100)], group := 255, fields := [⟨0, 32, .ro, 0⟩] },
  { name := "PROT.FRM_OUT_HI", base := 0x0240105C, dims := [(16, 0x00000100)], group := 255, fields := [⟨0, 32, .ro, 0⟩] },
  { name := "PROT.LOST_FRM_LO", base := 0x02401060, dims := [(16, 0x00000100)], group := 255, fields := [⟨0, 32, .ro, 0⟩] },
  { name := "PROT.LOST_FRM_HI", base := 0x02401064, dims := [(16, 0x00000100)], group := 255, fields := [⟨0, 32, .ro, 0⟩] }]

/-- The registers of PROT, part 1. -/
def RegMap.PROT1 : List RegRow := [
  { name := "PROT.LOST_RANGES", base := 0x02401068, dims := [(16, 0x00000100)], group := 255, fields := [⟨0, 32, .ro, 0⟩] },
  { name := "PROT.UNCORR_OUT", base := 0x0240106C, dims := [(16, 0x00000100)], group := 255, fields := [⟨0, 32, .ro, 0⟩] },
  { name := "PROT.SUBST_LO", base := 0x02401070, dims := [(16, 0x00000100)], group := 255, fields := [⟨0, 32, .ro, 0⟩] },
  { name := "PROT.SUBST_HI", base := 0x02401074, dims := [(16, 0x00000100)], group := 255, fields := [⟨0, 32, .ro, 0⟩] },
  { name := "PROT.DUP_DROP", base := 0x02401078, dims := [(16, 0x00000100)], group := 255, fields := [⟨0, 32, .ro, 0⟩] },
  { name := "PROT.RESTARTS", base := 0x0240107C, dims := [(16, 0x00000100)], group := 255, fields := [⟨0, 32, .ro, 0⟩] },
  { name := "PROT.LAST_FIRST", base := 0x02401080, dims := [(16, 0x00000100)], group := 255, fields := [⟨0, 32, .ro, 0⟩] },
  { name := "PROT.LAST_LAST", base := 0x02401084, dims := [(16, 0x00000100)], group := 255, fields := [⟨0, 32, .ro, 0⟩] },
  { name := "PROT.EVT_STAT", base := 0x024000F0, dims := [], group := 255, fields := [⟨0, 12, .w1c, 0⟩] },
  { name := "PROT.EVT_MASK", base := 0x024000F4, dims := [], group := 255, fields := [⟨0, 12, .rw, 4095⟩] },
  { name := "PROT.EVT_STICKY", base := 0x024000F8, dims := [], group := 255, fields := [⟨0, 12, .rw, 4095⟩] }]

/-- The registers of PROT. -/
def RegMap.PROT : List RegRow := RegMap.PROT0 ++ RegMap.PROT1

end Sys2Proof.Machine
end

