-- ==== Sys2Proof/Machine/RegRowsLine.lean ====
section
/-! DEFINITION. The register map of the carrier blocks, at the addresses of carrier A: for each register its address, its strides, its commit group and the place, width, access type and reset value of each field, as the register tables of spec/ give them. -/

namespace Sys2Proof.Machine

/-- The registers of TXD. -/
def RegMap.TXD : List RegRow := [
  { name := "TXD.CTRL", base := 0x01000000, dims := [], group := 255, fields := [⟨2, 1, .rw, 1⟩, ⟨1, 1, .rw, 0⟩, ⟨0, 1, .rw, 0⟩] },
  { name := "TXD.LINE_CFG", base := 0x01000004, dims := [], group := 2, fields := [⟨30, 2, .rws, 0⟩, ⟨29, 1, .rws, 0⟩, ⟨24, 3, .rws, 2⟩, ⟨16, 8, .rws, 64⟩, ⟨8, 2, .rws, 0⟩, ⟨0, 5, .rws, 2⟩] },
  { name := "TXD.LINE_STAT", base := 0x01000008, dims := [], group := 255, fields := [⟨30, 2, .ro, 0⟩, ⟨29, 1, .ro, 0⟩, ⟨24, 3, .ro, 2⟩, ⟨16, 8, .ro, 64⟩, ⟨8, 2, .ro, 0⟩, ⟨0, 5, .ro, 2⟩, ⟨15, 1, .ro, 0⟩, ⟨12, 3, .ro, 0⟩] },
  { name := "TXD.RS_STAT", base := 0x0100000C, dims := [], group := 255, fields := [⟨0, 13, .ro, 1015⟩] },
  { name := "TXD.RS_MIN", base := 0x01000010, dims := [], group := 255, fields := [⟨0, 25, .ro, 0x003F6D5B⟩] },
  { name := "TXD.PS_COMP", base := 0x01000014, dims := [], group := 255, fields := [⟨24, 8, .ro, 0⟩, ⟨16, 8, .ro, 0⟩, ⟨8, 8, .ro, 0⟩, ⟨0, 8, .ro, 0⟩] },
  { name := "TXD.RAMP_CFG", base := 0x01000020, dims := [], group := 255, fields := [⟨4, 20, .rw, 5000⟩, ⟨0, 2, .rw, 1⟩] },
  { name := "TXD.RAMP_STAT", base := 0x01000024, dims := [], group := 255, fields := [⟨0, 10, .ro, 300⟩] },
  { name := "TXD.SKEW_XI", base := 0x01000030, dims := [], group := 255, fields := [⟨0, 10, .rw, 0⟩] },
  { name := "TXD.SKEW_XQ", base := 0x01000034, dims := [], group := 255, fields := [⟨0, 10, .rw, 0⟩] },
  { name := "TXD.SKEW_YI", base := 0x01000038, dims := [], group := 255, fields := [⟨0, 10, .rw, 0⟩] },
  { name := "TXD.SKEW_YQ", base := 0x0100003C, dims := [], group := 255, fields := [⟨0, 10, .rw, 0⟩] },
  { name := "TXD.DAC_SCALE", base := 0x01000040, dims := [], group := 255, fields := [⟨0, 7, .rw, 32⟩] },
  { name := "TXD.CLIP_THR", base := 0x01000044, dims := [], group := 255, fields := [⟨0, 16, .rw, 1000⟩] },
  { name := "TXD.CLIP_CNT_LO", base := 0x01000048, dims := [], group := 255, fields := [⟨0, 32, .ro, 0⟩] },
  { name := "TXD.CLIP_CNT_HI", base := 0x0100004C, dims := [], group := 255, fields := [⟨0, 32, .ro, 0⟩] },
  { name := "TXD.MASK_CFG", base := 0x01000050, dims := [], group := 255, fields := [⟨16, 4, .rw, 6⟩, ⟨8, 4, .rw, 0⟩, ⟨1, 1, .rw, 0⟩, ⟨0, 1, .rw, 0⟩] },
  { name := "TXD.MASK_STAT", base := 0x01000054, dims := [], group := 255, fields := [⟨20, 1, .ro, 0⟩, ⟨16, 4, .ro, 0⟩, ⟨0, 16, .ro, 0⟩] },
  { name := "TXD.MASK", base := 0x01000060, dims := [(16, 4)], group := 255, fields := [⟨16, 16, .rw, 0⟩, ⟨0, 16, .rw, 0⟩] },
  { name := "TXD.PEQ", base := 0x01000100, dims := [(4, 128), (32, 4)], group := 255, fields := [⟨0, 9, .rw, 0⟩] },
  { name := "TXD.PD_LUT", base := 0x01000400, dims := [(4, 0x00000100), (33, 4)], group := 255, fields := [⟨0, 11, .rw, 0⟩] },
  { name := "TXD.EVT_STAT", base := 0x010000F0, dims := [], group := 255, fields := [⟨0, 7, .w1c, 0⟩] },
  { name := "TXD.EVT_MASK", base := 0x010000F4, dims := [], group := 255, fields := [⟨0, 7, .rw, 127⟩] },
  { name := "TXD.EVT_STICKY", base := 0x010000F8, dims := [], group := 255, fields := [⟨0, 7, .rw, 127⟩] }]

/-- The registers of RXD, part 0. -/
def RegMap.RXD0 : List RegRow := [
  { name := "RXD.RX_CFG", base := 0x01100000, dims := [], group := 2, fields := [⟨8, 1, .rws, 0⟩, ⟨4, 3, .rws, 0⟩, ⟨0, 1, .rws, 0⟩] },
  { name := "RXD.RX_STAT", base := 0x01100004, dims := [], group := 255, fields := [⟨28, 4, .ro, 0⟩, ⟨16, 1, .ro, 0⟩, ⟨12, 3, .ro, 0⟩, ⟨8, 2, .ro, 3⟩, ⟨7, 1, .ro, 0⟩, ⟨6, 1, .ro, 0⟩, ⟨3, 1, .ro, 0⟩, ⟨2, 1, .ro, 0⟩, ⟨1, 1, .ro, 0⟩, ⟨0, 1, .ro, 0⟩] },
  { name := "RXD.CD_SET", base := 0x01100008, dims := [], group := 2, fields := [⟨0, 32, .rws, 0⟩] },
  { name := "RXD.CD_SPAN", base := 0x0110000C, dims := [], group := 2, fields := [⟨0, 18, .rws, 0x0001D4C0⟩] },
  { name := "RXD.CD_TRACK", base := 0x01100010, dims := [], group := 255, fields := [⟨16, 8, .rw, 8⟩, ⟨4, 8, .rw, 4⟩, ⟨0, 1, .rw, 1⟩] },
  { name := "RXD.BFLY_CFG", base := 0x01100014, dims := [], group := 255, fields := [⟨12, 4, .rw, 8⟩, ⟨8, 4, .rw, 6⟩, ⟨4, 1, .rw, 0⟩, ⟨0, 2, .rw, 3⟩] },
  { name := "RXD.LOOP_CFG", base := 0x01100018, dims := [], group := 255, fields := [⟨12, 1, .rw, 1⟩, ⟨8, 3, .rw, 2⟩, ⟨4, 2, .rw, 1⟩, ⟨0, 2, .rw, 1⟩] },
  { name := "RXD.ADC_STAT", base := 0x01100020, dims := [(4, 4)], group := 255, fields := [⟨16, 1, .ro, 0⟩, ⟨0, 12, .ro, 0⟩] },
  { name := "RXD.ADC_CLIP_THR", base := 0x01100030, dims := [], group := 255, fields := [⟨0, 16, .rw, 1000⟩] },
  { name := "RXD.ADC_CLIP_CNT_LO", base := 0x01100038, dims := [], group := 255, fields := [⟨0, 32, .ro, 0⟩] },
  { name := "RXD.ADC_CLIP_CNT_HI", base := 0x0110003C, dims := [], group := 255, fields := [⟨0, 32, .ro, 0⟩] },
  { name := "RXD.FE_CFG", base := 0x01100040, dims := [], group := 255, fields := [⟨4, 1, .rw, 1⟩, ⟨3, 1, .rw, 1⟩, ⟨2, 1, .rw, 1⟩, ⟨0, 1, .rw, 1⟩] },
  { name := "RXD.FE_SKEW_XI", base := 0x01100044, dims := [], group := 255, fields := [⟨0, 10, .rw, 0⟩] },
  { name := "RXD.FE_SKEW_XQ", base := 0x01100048, dims := [], group := 255, fields := [⟨0, 10, .rw, 0⟩] },
  { name := "RXD.FE_SKEW_YI", base := 0x0110004C, dims := [], group := 255, fields := [⟨0, 10, .rw, 0⟩] },
  { name := "RXD.FE_SKEW_YQ", base := 0x01100050, dims := [], group := 255, fields := [⟨0, 10, .rw, 0⟩] },
  { name := "RXD.NLC_SPAN", base := 0x01100060, dims := [(4, 4)], group := 2, fields := [⟨16, 16, .rws, 0⟩, ⟨0, 10, .rws, 0⟩] },
  { name := "RXD.ENG_GRP_STAT", base := 0x01100080, dims := [], group := 255, fields := [⟨16, 9, .ro, 0⟩, ⟨4, 4, .ro, 8⟩, ⟨0, 4, .ro, 0⟩] },
  { name := "RXD.ENG_STAT", base := 0x01100090, dims := [(9, 4)], group := 255, fields := [⟨16, 16, .ro, 0⟩, ⟨2, 1, .ro, 0⟩, ⟨0, 2, .ro, 0⟩] },
  { name := "RXD.QUAL_CFG", base := 0x01100100, dims := [], group := 255, fields := [⟨16, 16, .rw, 0⟩, ⟨0, 3, .rw, 3⟩] },
  { name := "RXD.QUAL_SEQ", base := 0x01100104, dims := [], group := 255, fields := [⟨31, 1, .rol, 0⟩, ⟨0, 31, .rol, 0⟩] },
  { name := "RXD.QUAL_EVM_XY", base := 0x01100110, dims := [], group := 255, fields := [⟨16, 16, .rol, 0⟩, ⟨0, 16, .rol, 0⟩] },
  { name := "RXD.QUAL_EVM", base := 0x01100114, dims := [], group := 255, fields := [⟨0, 16, .rol, 0⟩] },
  { name := "RXD.QUAL_SNR", base := 0x01100118, dims := [], group := 255, fields := [⟨0, 16, .rol, 0⟩] },
  { name := "RXD.QUAL_SNR_XY", base := 0x0110011C, dims := [], group := 255, fields := [⟨16, 16, .rol, 0⟩, ⟨0, 16, .rol, 0⟩] },
  { name := "RXD.QUAL_BITS_LO", base := 0x01100120, dims := [], group := 255, fields := [⟨0, 32, .rol, 0⟩] },
  { name := "RXD.QUAL_BITS_HI", base := 0x01100124, dims := [], group := 255, fields := [⟨0, 32, .rol, 0⟩] },
  { name := "RXD.QUAL_ERRS_LO", base := 0x01100128, dims := [], group := 255, fields := [⟨0, 32, .rol, 0⟩] },
  { name := "RXD.QUAL_ERRS_HI", base := 0x0110012C, dims := [], group := 255, fields := [⟨0, 32, .rol, 0⟩] },
  { name := "RXD.QUAL_GMI", base := 0x01100130, dims := [], group := 255, fields := [⟨0, 16, .rol, 0⟩] }]

/-- The registers of RXD, part 1. -/
def RegMap.RXD1 : List RegRow := [
  { name := "RXD.QUAL_CD", base := 0x01100134, dims := [], group := 255, fields := [⟨0, 32, .rol, 0⟩] },
  { name := "RXD.QUAL_DGD_PDL", base := 0x01100138, dims := [], group := 255, fields := [⟨16, 16, .rol, 0⟩, ⟨0, 16, .rol, 0⟩] },
  { name := "RXD.QUAL_FOFS", base := 0x0110013C, dims := [], group := 255, fields := [⟨0, 16, .rol, 0⟩] },
  { name := "RXD.QUAL_SLIPS", base := 0x01100140, dims := [], group := 255, fields := [⟨0, 16, .rol, 0⟩] },
  { name := "RXD.EVT_STAT", base := 0x011000F0, dims := [], group := 255, fields := [⟨0, 11, .w1c, 0⟩] },
  { name := "RXD.EVT_MASK", base := 0x011000F4, dims := [], group := 255, fields := [⟨0, 11, .rw, 2047⟩] },
  { name := "RXD.EVT_STICKY", base := 0x011000F8, dims := [], group := 255, fields := [⟨0, 11, .rw, 2047⟩] }]

/-- The registers of RXD. -/
def RegMap.RXD : List RegRow := RegMap.RXD0 ++ RegMap.RXD1

/-- The registers of ACQ. -/
def RegMap.ACQ : List RegRow := [
  { name := "ACQ.ACQ_CTRL", base := 0x01200000, dims := [], group := 255, fields := [⟨5, 1, .wo, 0⟩, ⟨4, 1, .wo, 0⟩, ⟨0, 1, .rw, 0⟩] },
  { name := "ACQ.ACQ_CFG", base := 0x01200004, dims := [], group := 255, fields := [⟨24, 3, .rw, 6⟩, ⟨16, 8, .rw, 32⟩, ⟨8, 8, .rw, 64⟩, ⟨0, 8, .rw, 96⟩] },
  { name := "ACQ.TRAIN_CFG", base := 0x01200008, dims := [], group := 255, fields := [⟨16, 8, .rw, 64⟩, ⟨8, 8, .rw, 48⟩, ⟨0, 3, .rw, 3⟩] },
  { name := "ACQ.WARM_CFG", base := 0x0120000C, dims := [], group := 255, fields := [⟨16, 8, .rw, 50⟩, ⟨0, 10, .rw, 100⟩] },
  { name := "ACQ.ACQ_STAT", base := 0x01200010, dims := [], group := 255, fields := [⟨16, 4, .ro, 0⟩, ⟨8, 8, .ro, 0⟩, ⟨5, 1, .ro, 0⟩, ⟨4, 1, .ro, 0⟩, ⟨0, 4, .ro, 0⟩] },
  { name := "ACQ.ACQ_TIME", base := 0x01200014, dims := [], group := 255, fields := [⟨0, 32, .ro, 0⟩] },
  { name := "ACQ.COARSE_FOFS", base := 0x01200018, dims := [], group := 255, fields := [⟨0, 16, .ro, 0⟩] },
  { name := "ACQ.SCAN_CD", base := 0x0120001C, dims := [], group := 255, fields := [⟨0, 32, .ro, 0⟩] },
  { name := "ACQ.SCAN_INFO", base := 0x01200020, dims := [], group := 255, fields := [⟨16, 16, .ro, 0⟩, ⟨0, 16, .ro, 0⟩] },
  { name := "ACQ.FALSE_TRAIN_CNT", base := 0x01200024, dims := [], group := 255, fields := [⟨0, 16, .ro, 0⟩] },
  { name := "ACQ.ACQ_COUNT", base := 0x01200028, dims := [], group := 255, fields := [⟨16, 16, .ro, 0⟩, ⟨0, 16, .ro, 0⟩] },
  { name := "ACQ.EVT_STAT", base := 0x012000F0, dims := [], group := 255, fields := [⟨0, 7, .w1c, 0⟩] },
  { name := "ACQ.EVT_MASK", base := 0x012000F4, dims := [], group := 255, fields := [⟨0, 7, .rw, 127⟩] },
  { name := "ACQ.EVT_STICKY", base := 0x012000F8, dims := [], group := 255, fields := [⟨0, 7, .rw, 127⟩] }]

/-- The registers of FEC. -/
def RegMap.FEC : List RegRow := [
  { name := "FEC.FEC_CFG", base := 0x01300000, dims := [], group := 255, fields := [⟨8, 1, .rw, 1⟩, ⟨0, 4, .rw, 12⟩] },
  { name := "FEC.UB_CFG", base := 0x01300004, dims := [], group := 255, fields := [⟨0, 7, .rw, 8⟩] },
  { name := "FEC.FEC_STAT", base := 0x01300008, dims := [], group := 255, fields := [⟨31, 1, .ro, 0⟩, ⟨24, 1, .ro, 0⟩, ⟨21, 1, .ro, 0⟩, ⟨20, 1, .ro, 0⟩, ⟨16, 3, .ro, 0⟩, ⟨8, 5, .ro, 16⟩, ⟨0, 4, .ro, 12⟩] },
  { name := "FEC.SLICE_GRP_STAT", base := 0x01300010, dims := [], group := 255, fields := [⟨16, 14, .ro, 0⟩, ⟨4, 4, .ro, 13⟩, ⟨0, 4, .ro, 0⟩] },
  { name := "FEC.SLICE_STAT", base := 0x01300040, dims := [(14, 4)], group := 255, fields := [⟨16, 16, .ro, 0⟩, ⟨2, 1, .ro, 0⟩, ⟨0, 2, .ro, 0⟩] },
  { name := "FEC.LDPC_CW_LO", base := 0x01300100, dims := [], group := 255, fields := [⟨0, 32, .ro, 0⟩] },
  { name := "FEC.LDPC_CW_HI", base := 0x01300104, dims := [], group := 255, fields := [⟨0, 32, .ro, 0⟩] },
  { name := "FEC.LDPC_FAIL_LO", base := 0x01300108, dims := [], group := 255, fields := [⟨0, 32, .ro, 0⟩] },
  { name := "FEC.LDPC_FAIL_HI", base := 0x0130010C, dims := [], group := 255, fields := [⟨0, 32, .ro, 0⟩] },
  { name := "FEC.LDPC_CORR_LO", base := 0x01300110, dims := [], group := 255, fields := [⟨0, 32, .ro, 0⟩] },
  { name := "FEC.LDPC_CORR_HI", base := 0x01300114, dims := [], group := 255, fields := [⟨0, 32, .ro, 0⟩] },
  { name := "FEC.ITER_SUM_LO", base := 0x01300118, dims := [], group := 255, fields := [⟨0, 32, .ro, 0⟩] },
  { name := "FEC.ITER_SUM_HI", base := 0x0130011C, dims := [], group := 255, fields := [⟨0, 32, .ro, 0⟩] },
  { name := "FEC.STAIR_BLK_LO", base := 0x01300120, dims := [], group := 255, fields := [⟨0, 32, .ro, 0⟩] },
  { name := "FEC.STAIR_BLK_HI", base := 0x01300124, dims := [], group := 255, fields := [⟨0, 32, .ro, 0⟩] },
  { name := "FEC.STAIR_CORR_LO", base := 0x01300128, dims := [], group := 255, fields := [⟨0, 32, .ro, 0⟩] },
  { name := "FEC.STAIR_CORR_HI", base := 0x0130012C, dims := [], group := 255, fields := [⟨0, 32, .ro, 0⟩] },
  { name := "FEC.STAIR_UNCORR_LO", base := 0x01300130, dims := [], group := 255, fields := [⟨0, 32, .ro, 0⟩] },
  { name := "FEC.STAIR_UNCORR_HI", base := 0x01300134, dims := [], group := 255, fields := [⟨0, 32, .ro, 0⟩] },
  { name := "FEC.AVG_ITER", base := 0x01300140, dims := [], group := 255, fields := [⟨0, 12, .rol, 0⟩] },
  { name := "FEC.EVT_STAT", base := 0x013000F0, dims := [], group := 255, fields := [⟨0, 8, .w1c, 0⟩] },
  { name := "FEC.EVT_MASK", base := 0x013000F4, dims := [], group := 255, fields := [⟨0, 8, .rw, 255⟩] },
  { name := "FEC.EVT_STICKY", base := 0x013000F8, dims := [], group := 255, fields := [⟨0, 8, .rw, 255⟩] }]

/-- The registers of FRM, part 0. -/
def RegMap.FRM0 : List RegRow := [
  { name := "FRM.ALIGN_CFG", base := 0x01410000, dims := [(16, 0x00001000)], group := 255, fields := [⟨16, 5, .rw, 8⟩, ⟨8, 3, .rw, 5⟩] },
  { name := "FRM.LOF_CFG", base := 0x01410004, dims := [(16, 0x00001000)], group := 255, fields := [⟨0, 16, .rw, 300⟩] },
  { name := "FRM.ALIGN_STAT", base := 0x01410008, dims := [(16, 0x00001000)], group := 255, fields := [⟨31, 1, .ro, 0⟩, ⟨30, 1, .ro, 1⟩, ⟨29, 1, .ro, 0⟩, ⟨28, 1, .ro, 0⟩, ⟨27, 1, .ro, 0⟩, ⟨26, 1, .ro, 0⟩, ⟨0, 3, .ro, 0⟩] },
  { name := "FRM.TX_OH_CFG", base := 0x0141000C, dims := [(16, 0x00001000)], group := 255, fields := [⟨16, 2, .rw, 0⟩, ⟨8, 1, .rw, 0⟩, ⟨0, 8, .rw, 34⟩] },
  { name := "FRM.PT_CFG", base := 0x01410010, dims := [(16, 0x00001000)], group := 255, fields := [⟨8, 1, .rw, 1⟩, ⟨0, 8, .rw, 34⟩] },
  { name := "FRM.PT_STAT", base := 0x01410014, dims := [(16, 0x00001000)], group := 255, fields := [⟨8, 1, .ro, 0⟩, ⟨0, 8, .ro, 0⟩] },
  { name := "FRM.CA_CFG", base := 0x01410018, dims := [(16, 0x00001000)], group := 255, fields := [⟨8, 3, .rw, 0⟩, ⟨4, 1, .rw, 0⟩, ⟨3, 1, .rw, 0⟩, ⟨2, 1, .rw, 1⟩, ⟨1, 1, .rw, 1⟩, ⟨0, 1, .rw, 1⟩] },
  { name := "FRM.INTEG_CFG", base := 0x0141001C, dims := [(16, 0x00001000)], group := 255, fields := [⟨16, 16, .rw, 1000⟩, ⟨0, 16, .rw, 250⟩] },
  { name := "FRM.DEG_CFG", base := 0x01410020, dims := [(16, 0x00001000)], group := 255, fields := [⟨0, 4, .rw, 7⟩] },
  { name := "FRM.DEG_THR", base := 0x01410024, dims := [(16, 0x00001000)], group := 255, fields := [⟨0, 32, .rw, 1000⟩] },
  { name := "FRM.AUTH_CFG", base := 0x01410028, dims := [(16, 0x00001000)], group := 255, fields := [⟨0, 16, .rw, 1024⟩] },
  { name := "FRM.DEF_RAW", base := 0x01410030, dims := [(16, 0x00001000)], group := 255, fields := [⟨0, 11, .ro, 1⟩] },
  { name := "FRM.DEF_STAT", base := 0x01410034, dims := [(16, 0x00001000)], group := 255, fields := [⟨0, 11, .ro, 1⟩] },
  { name := "FRM.FAIL", base := 0x01410038, dims := [(16, 0x00001000)], group := 255, fields := [⟨0, 11, .ro, 0⟩] },
  { name := "FRM.DEF_HIST", base := 0x0141003C, dims := [(16, 0x00001000)], group := 255, fields := [⟨0, 11, .w1c, 0⟩] },
  { name := "FRM.TX_FSN", base := 0x01410040, dims := [(16, 0x00001000)], group := 255, fields := [⟨0, 32, .ro, 0⟩] },
  { name := "FRM.RX_FSN", base := 0x01410044, dims := [(16, 0x00001000)], group := 255, fields := [⟨0, 32, .ro, 0⟩] },
  { name := "FRM.LOST_FIRST", base := 0x01410048, dims := [(16, 0x00001000)], group := 255, fields := [⟨0, 32, .ro, 0⟩] },
  { name := "FRM.LOST_LAST", base := 0x0141004C, dims := [(16, 0x00001000)], group := 255, fields := [⟨0, 32, .ro, 0⟩] },
  { name := "FRM.APS_TX", base := 0x01410050, dims := [(16, 0x00001000), (8, 4)], group := 255, fields := [⟨0, 32, .rw, 0⟩] },
  { name := "FRM.APS_RX", base := 0x01410070, dims := [(16, 0x00001000), (8, 4)], group := 255, fields := [⟨0, 32, .ro, 0⟩] },
  { name := "FRM.GCC_CFG", base := 0x01410090, dims := [(16, 0x00001000), (2, 32)], group := 255, fields := [⟨24, 8, .rw, 126⟩, ⟨14, 10, .rw, 0⟩, ⟨8, 4, .rw, 0⟩, ⟨1, 1, .rw, 0⟩, ⟨0, 1, .rw, 0⟩] },
  { name := "FRM.GCC_TX_WP", base := 0x01410094, dims := [(16, 0x00001000), (2, 32)], group := 255, fields := [⟨0, 16, .rw, 0⟩] },
  { name := "FRM.GCC_TX_RP", base := 0x01410098, dims := [(16, 0x00001000), (2, 32)], group := 255, fields := [⟨0, 16, .ro, 0⟩] },
  { name := "FRM.GCC_RX_WP", base := 0x0141009C, dims := [(16, 0x00001000), (2, 32)], group := 255, fields := [⟨0, 16, .ro, 0⟩] },
  { name := "FRM.GCC_RX_RP", base := 0x014100A0, dims := [(16, 0x00001000), (2, 32)], group := 255, fields := [⟨0, 16, .rw, 0⟩] },
  { name := "FRM.TTI_TX", base := 0x01410200, dims := [(16, 0x00001000), (16, 4)], group := 255, fields := [⟨0, 32, .rw, 0⟩] },
  { name := "FRM.TTI_EXP", base := 0x01410240, dims := [(16, 0x00001000), (16, 4)], group := 255, fields := [⟨0, 32, .rw, 0⟩] },
  { name := "FRM.TTI_ACC", base := 0x01410280, dims := [(16, 0x00001000), (16, 4)], group := 255, fields := [⟨0, 32, .ro, 0⟩] },
  { name := "FRM.TX_MSI", base := 0x01410400, dims := [(16, 0x00001000), (80, 4)], group := 2, fields := [⟨0, 32, .rws, 0⟩] }]

/-- The registers of FRM, part 1. -/
def RegMap.FRM1 : List RegRow := [
  { name := "FRM.ACC_MSI", base := 0x01410600, dims := [(16, 0x00001000), (80, 4)], group := 255, fields := [⟨0, 32, .ro, 0⟩] },
  { name := "FRM.BIP_ERR_LO", base := 0x01410800, dims := [(16, 0x00001000)], group := 255, fields := [⟨0, 32, .ro, 0⟩] },
  { name := "FRM.BIP_ERR_HI", base := 0x01410804, dims := [(16, 0x00001000)], group := 255, fields := [⟨0, 32, .ro, 0⟩] },
  { name := "FRM.BIP_FRM_LO", base := 0x01410808, dims := [(16, 0x00001000)], group := 255, fields := [⟨0, 32, .ro, 0⟩] },
  { name := "FRM.BIP_FRM_HI", base := 0x0141080C, dims := [(16, 0x00001000)], group := 255, fields := [⟨0, 32, .ro, 0⟩] },
  { name := "FRM.FE_BEI_LO", base := 0x01410810, dims := [(16, 0x00001000)], group := 255, fields := [⟨0, 32, .ro, 0⟩] },
  { name := "FRM.FE_BEI_HI", base := 0x01410814, dims := [(16, 0x00001000)], group := 255, fields := [⟨0, 32, .ro, 0⟩] },
  { name := "FRM.FE_BEI_FRM_LO", base := 0x01410818, dims := [(16, 0x00001000)], group := 255, fields := [⟨0, 32, .ro, 0⟩] },
  { name := "FRM.FE_BEI_FRM_HI", base := 0x0141081C, dims := [(16, 0x00001000)], group := 255, fields := [⟨0, 32, .ro, 0⟩] },
  { name := "FRM.FRM_RX_LO", base := 0x01410820, dims := [(16, 0x00001000)], group := 255, fields := [⟨0, 32, .ro, 0⟩] },
  { name := "FRM.FRM_RX_HI", base := 0x01410824, dims := [(16, 0x00001000)], group := 255, fields := [⟨0, 32, .ro, 0⟩] },
  { name := "FRM.FRM_UNCORR_LO", base := 0x01410828, dims := [(16, 0x00001000)], group := 255, fields := [⟨0, 32, .ro, 0⟩] },
  { name := "FRM.FRM_UNCORR_HI", base := 0x0141082C, dims := [(16, 0x00001000)], group := 255, fields := [⟨0, 32, .ro, 0⟩] },
  { name := "FRM.FRM_DISCARD", base := 0x01410830, dims := [(16, 0x00001000)], group := 255, fields := [⟨0, 32, .ro, 0⟩] },
  { name := "FRM.FSN_ERR", base := 0x01410834, dims := [(16, 0x00001000)], group := 255, fields := [⟨0, 32, .ro, 0⟩] },
  { name := "FRM.HDR_ERR", base := 0x01410838, dims := [(16, 0x00001000)], group := 255, fields := [⟨0, 32, .ro, 0⟩] },
  { name := "FRM.DELIN_SLIP", base := 0x0141083C, dims := [(16, 0x00001000)], group := 255, fields := [⟨0, 32, .ro, 0⟩] },
  { name := "FRM.OOF_CNT", base := 0x01410840, dims := [(16, 0x00001000)], group := 255, fields := [⟨0, 32, .ro, 0⟩] },
  { name := "FRM.CAND_OVF", base := 0x01410844, dims := [(16, 0x00001000)], group := 255, fields := [⟨0, 32, .ro, 0⟩] },
  { name := "FRM.EVT_TRAIL", base := 0x01400010, dims := [], group := 255, fields := [⟨0, 16, .w1c, 0⟩] },
  { name := "FRM.EVT_STAT", base := 0x014000F0, dims := [], group := 255, fields := [⟨0, 12, .w1c, 0⟩] },
  { name := "FRM.EVT_MASK", base := 0x014000F4, dims := [], group := 255, fields := [⟨0, 12, .rw, 4095⟩] },
  { name := "FRM.EVT_STICKY", base := 0x014000F8, dims := [], group := 255, fields := [⟨0, 12, .rw, 4095⟩] }]

/-- The registers of FRM. -/
def RegMap.FRM : List RegRow := RegMap.FRM0 ++ RegMap.FRM1

/-- The registers of PMON, part 0. -/
def RegMap.PMON0 : List RegRow := [
  { name := "PMON.PM_CFG", base := 0x01510000, dims := [(16, 0x00001000)], group := 255, fields := [⟨8, 7, .rw, 15⟩, ⟨4, 1, .rw, 0⟩, ⟨2, 1, .rw, 0⟩, ⟨1, 1, .rw, 1⟩, ⟨0, 1, .rw, 0⟩] },
  { name := "PMON.PM_DEF", base := 0x01510004, dims := [(16, 0x00001000)], group := 255, fields := [⟨0, 11, .rw, 1471⟩] },
  { name := "PMON.BIN_LEN", base := 0x01510008, dims := [(16, 0x00001000)], group := 255, fields := [⟨0, 17, .rw, 900⟩] },
  { name := "PMON.BIN_OFS", base := 0x0151000C, dims := [(16, 0x00001000)], group := 255, fields := [⟨0, 17, .rw, 0⟩] },
  { name := "PMON.PM_CTRL", base := 0x01510010, dims := [(16, 0x00001000)], group := 255, fields := [⟨0, 1, .wo, 0⟩] },
  { name := "PMON.PM_STAT", base := 0x01510014, dims := [(16, 0x00001000)], group := 255, fields := [⟨31, 1, .ro, 1⟩, ⟨30, 1, .ro, 1⟩, ⟨29, 1, .ro, 1⟩, ⟨0, 4, .ro, 0⟩] },
  { name := "PMON.COMMIT_SEQ", base := 0x01510018, dims := [(16, 0x00001000)], group := 255, fields := [⟨0, 32, .ro, 0⟩] },
  { name := "PMON.BIN_SEQ", base := 0x0151001C, dims := [(16, 0x00001000)], group := 255, fields := [⟨0, 32, .ro, 0⟩] },
  { name := "PMON.LATE_ATTR", base := 0x01510020, dims := [(16, 0x00001000)], group := 255, fields := [⟨0, 32, .ro, 0⟩] },
  { name := "PMON.TCA_THR", base := 0x01510040, dims := [(16, 0x00001000), (8, 4)], group := 255, fields := [⟨0, 32, .rw, 0⟩] },
  { name := "PMON.TCA_STAT", base := 0x01510060, dims := [(16, 0x00001000)], group := 255, fields := [⟨0, 8, .w1c, 0⟩] },
  { name := "PMON.CUR_START_LO", base := 0x01510100, dims := [(16, 0x00001000)], group := 255, fields := [⟨0, 32, .rol, 0⟩] },
  { name := "PMON.CUR_START_HI", base := 0x01510104, dims := [(16, 0x00001000)], group := 255, fields := [⟨0, 16, .rol, 0⟩] },
  { name := "PMON.CUR_SECS", base := 0x01510108, dims := [(16, 0x00001000)], group := 255, fields := [⟨0, 32, .rol, 0⟩] },
  { name := "PMON.CUR_NE_ES", base := 0x01510110, dims := [(16, 0x00001000)], group := 255, fields := [⟨0, 32, .rol, 0⟩] },
  { name := "PMON.CUR_NE_SES", base := 0x01510114, dims := [(16, 0x00001000)], group := 255, fields := [⟨0, 32, .rol, 0⟩] },
  { name := "PMON.CUR_NE_UAS", base := 0x01510118, dims := [(16, 0x00001000)], group := 255, fields := [⟨0, 32, .rol, 0⟩] },
  { name := "PMON.CUR_FROZEN", base := 0x0151011C, dims := [(16, 0x00001000)], group := 255, fields := [⟨0, 32, .rol, 0⟩] },
  { name := "PMON.CUR_NE_BBE_LO", base := 0x01510120, dims := [(16, 0x00001000)], group := 255, fields := [⟨0, 32, .rol, 0⟩] },
  { name := "PMON.CUR_NE_BBE_HI", base := 0x01510124, dims := [(16, 0x00001000)], group := 255, fields := [⟨0, 32, .rol, 0⟩] },
  { name := "PMON.CUR_FE_ES", base := 0x01510128, dims := [(16, 0x00001000)], group := 255, fields := [⟨0, 32, .rol, 0⟩] },
  { name := "PMON.CUR_FE_SES", base := 0x0151012C, dims := [(16, 0x00001000)], group := 255, fields := [⟨0, 32, .rol, 0⟩] },
  { name := "PMON.CUR_FE_UAS", base := 0x01510130, dims := [(16, 0x00001000)], group := 255, fields := [⟨0, 32, .rol, 0⟩] },
  { name := "PMON.CUR_FE_NEVAL", base := 0x01510134, dims := [(16, 0x00001000)], group := 255, fields := [⟨0, 32, .rol, 0⟩] },
  { name := "PMON.CUR_FE_BBE_LO", base := 0x01510138, dims := [(16, 0x00001000)], group := 255, fields := [⟨0, 32, .rol, 0⟩] },
  { name := "PMON.CUR_FE_BBE_HI", base := 0x0151013C, dims := [(16, 0x00001000)], group := 255, fields := [⟨0, 32, .rol, 0⟩] },
  { name := "PMON.CUR_FLAGS", base := 0x0151010C, dims := [(16, 0x00001000)], group := 255, fields := [⟨4, 1, .rol, 0⟩, ⟨3, 1, .rol, 0⟩, ⟨2, 1, .rol, 0⟩, ⟨1, 1, .rol, 0⟩, ⟨0, 1, .rol, 0⟩] },
  { name := "PMON.HIST_START_LO", base := 0x01510140, dims := [(16, 0x00001000), (16, 64)], group := 255, fields := [⟨0, 32, .rol, 0⟩] },
  { name := "PMON.HIST_START_HI", base := 0x01510144, dims := [(16, 0x00001000), (16, 64)], group := 255, fields := [⟨0, 16, .rol, 0⟩] },
  { name := "PMON.HIST_SECS", base := 0x01510148, dims := [(16, 0x00001000), (16, 64)], group := 255, fields := [⟨0, 32, .rol, 0⟩] }]

/-- The registers of PMON, part 1. -/
def RegMap.PMON1 : List RegRow := [
  { name := "PMON.HIST_NE_ES", base := 0x01510150, dims := [(16, 0x00001000), (16, 64)], group := 255, fields := [⟨0, 32, .rol, 0⟩] },
  { name := "PMON.HIST_NE_SES", base := 0x01510154, dims := [(16, 0x00001000), (16, 64)], group := 255, fields := [⟨0, 32, .rol, 0⟩] },
  { name := "PMON.HIST_NE_UAS", base := 0x01510158, dims := [(16, 0x00001000), (16, 64)], group := 255, fields := [⟨0, 32, .rol, 0⟩] },
  { name := "PMON.HIST_FROZEN", base := 0x0151015C, dims := [(16, 0x00001000), (16, 64)], group := 255, fields := [⟨0, 32, .rol, 0⟩] },
  { name := "PMON.HIST_NE_BBE_LO", base := 0x01510160, dims := [(16, 0x00001000), (16, 64)], group := 255, fields := [⟨0, 32, .rol, 0⟩] },
  { name := "PMON.HIST_NE_BBE_HI", base := 0x01510164, dims := [(16, 0x00001000), (16, 64)], group := 255, fields := [⟨0, 32, .rol, 0⟩] },
  { name := "PMON.HIST_FE_ES", base := 0x01510168, dims := [(16, 0x00001000), (16, 64)], group := 255, fields := [⟨0, 32, .rol, 0⟩] },
  { name := "PMON.HIST_FE_SES", base := 0x0151016C, dims := [(16, 0x00001000), (16, 64)], group := 255, fields := [⟨0, 32, .rol, 0⟩] },
  { name := "PMON.HIST_FE_UAS", base := 0x01510170, dims := [(16, 0x00001000), (16, 64)], group := 255, fields := [⟨0, 32, .rol, 0⟩] },
  { name := "PMON.HIST_FE_NEVAL", base := 0x01510174, dims := [(16, 0x00001000), (16, 64)], group := 255, fields := [⟨0, 32, .rol, 0⟩] },
  { name := "PMON.HIST_FE_BBE_LO", base := 0x01510178, dims := [(16, 0x00001000), (16, 64)], group := 255, fields := [⟨0, 32, .rol, 0⟩] },
  { name := "PMON.HIST_FE_BBE_HI", base := 0x0151017C, dims := [(16, 0x00001000), (16, 64)], group := 255, fields := [⟨0, 32, .rol, 0⟩] },
  { name := "PMON.HIST_FLAGS", base := 0x0151014C, dims := [(16, 0x00001000), (16, 64)], group := 255, fields := [⟨4, 1, .rol, 0⟩, ⟨3, 1, .rol, 0⟩, ⟨2, 1, .rol, 0⟩, ⟨1, 1, .rol, 0⟩, ⟨0, 1, .rol, 0⟩] },
  { name := "PMON.CMP_CFG", base := 0x01580000, dims := [(16, 0x00001000)], group := 255, fields := [⟨0, 7, .rw, 0⟩] },
  { name := "PMON.CMP_SEQ", base := 0x01580004, dims := [(16, 0x00001000)], group := 255, fields := [⟨16, 16, .ro, 0⟩, ⟨0, 16, .ro, 0⟩] },
  { name := "PMON.TCA15_THR", base := 0x01580040, dims := [(16, 0x00001000), (8, 4)], group := 255, fields := [⟨0, 32, .rw, 0⟩] },
  { name := "PMON.TCA24_THR", base := 0x01580060, dims := [(16, 0x00001000), (8, 4)], group := 255, fields := [⟨0, 32, .rw, 0⟩] },
  { name := "PMON.CMP_TCA_STAT", base := 0x01580080, dims := [(16, 0x00001000)], group := 255, fields := [⟨8, 8, .w1c, 0⟩, ⟨0, 8, .w1c, 0⟩] },
  { name := "PMON.CUR15", base := 0x01580100, dims := [(16, 0x00001000), (12, 4)], group := 255, fields := [⟨0, 32, .rol, 0⟩] },
  { name := "PMON.PREV15", base := 0x01580130, dims := [(16, 0x00001000), (12, 4)], group := 255, fields := [⟨0, 32, .rol, 0⟩] },
  { name := "PMON.HIST15", base := 0x01580160, dims := [(16, 0x00001000), (32, 48), (12, 4)], group := 255, fields := [⟨0, 32, .rol, 0⟩] },
  { name := "PMON.CUR24", base := 0x01580800, dims := [(16, 0x00001000), (12, 4)], group := 255, fields := [⟨0, 32, .rol, 0⟩] },
  { name := "PMON.PREV24", base := 0x01580830, dims := [(16, 0x00001000), (12, 4)], group := 255, fields := [⟨0, 32, .rol, 0⟩] },
  { name := "PMON.EVT_TRAIL", base := 0x01500010, dims := [], group := 255, fields := [⟨0, 16, .w1c, 0⟩] },
  { name := "PMON.EVT_STAT", base := 0x015000F0, dims := [], group := 255, fields := [⟨0, 8, .w1c, 0⟩] },
  { name := "PMON.EVT_MASK", base := 0x015000F4, dims := [], group := 255, fields := [⟨0, 8, .rw, 255⟩] },
  { name := "PMON.EVT_STICKY", base := 0x015000F8, dims := [], group := 255, fields := [⟨0, 8, .rw, 255⟩] }]

/-- The registers of PMON. -/
def RegMap.PMON : List RegRow := RegMap.PMON0 ++ RegMap.PMON1

/-- The registers of SUBC, part 0. -/
def RegMap.SUBC0 : List RegRow := [
  { name := "SUBC.SC_CFG", base := 0x01600000, dims := [], group := 2, fields := [⟨16, 2, .rws, 0⟩, ⟨8, 4, .rws, 0⟩, ⟨5, 1, .rw, 1⟩, ⟨4, 1, .rw, 1⟩] },
  { name := "SUBC.DN_EN", base := 0x01600004, dims := [], group := 2, fields := [⟨0, 16, .rws, 0⟩] },
  { name := "SUBC.UP_EN", base := 0x01600008, dims := [], group := 2, fields := [⟨0, 16, .rws, 0⟩] },
  { name := "SUBC.SLEEP", base := 0x0160000C, dims := [], group := 255, fields := [⟨0, 16, .rw, 0⟩] },
  { name := "SUBC.SC_STAT", base := 0x01600010, dims := [], group := 255, fields := [⟨28, 4, .ro, 0⟩, ⟨16, 2, .ro, 0⟩, ⟨8, 5, .ro, 0⟩] },
  { name := "SUBC.SC_SF", base := 0x01600014, dims := [], group := 255, fields := [⟨0, 16, .ro, 0⟩] },
  { name := "SUBC.SC_LOS_CFG", base := 0x01600018, dims := [], group := 255, fields := [⟨8, 8, .rw, 16⟩, ⟨0, 8, .rw, 24⟩] },
  { name := "SUBC.EN_ACTIVE", base := 0x0160001C, dims := [], group := 255, fields := [⟨16, 16, .ro, 0⟩, ⟨0, 16, .ro, 0⟩] },
  { name := "SUBC.SC_RX_STAT", base := 0x01600100, dims := [(16, 4)], group := 255, fields := [⟨8, 1, .ro, 0⟩, ⟨7, 1, .ro, 0⟩, ⟨6, 1, .ro, 0⟩, ⟨5, 1, .ro, 0⟩, ⟨0, 4, .ro, 0⟩] },
  { name := "SUBC.INLET_CFG", base := 0x01600020, dims := [], group := 255, fields := [⟨24, 8, .rw, 20⟩, ⟨16, 8, .rw, 100⟩, ⟨8, 8, .rw, 96⟩, ⟨0, 1, .rw, 0⟩] },
  { name := "SUBC.INLET_TRY", base := 0x01600024, dims := [], group := 255, fields := [⟨0, 8, .rw, 16⟩] },
  { name := "SUBC.INLET_SERIAL_LO", base := 0x01600028, dims := [], group := 255, fields := [⟨0, 32, .rw, 0⟩] },
  { name := "SUBC.INLET_SERIAL_HI", base := 0x0160002C, dims := [], group := 255, fields := [⟨0, 32, .rw, 0⟩] },
  { name := "SUBC.INLET_TX_CTRL", base := 0x01600030, dims := [], group := 255, fields := [⟨8, 6, .rw, 0⟩, ⟨4, 4, .rw, 1⟩, ⟨2, 1, .wo, 0⟩, ⟨1, 1, .wo, 0⟩] },
  { name := "SUBC.INLET_TX_STAT", base := 0x01600034, dims := [], group := 255, fields := [⟨8, 8, .ro, 0⟩, ⟨0, 3, .ro, 0⟩] },
  { name := "SUBC.QUEUE_STAT", base := 0x01600040, dims := [], group := 255, fields := [⟨8, 5, .ro, 0⟩, ⟨0, 6, .ro, 0⟩] },
  { name := "SUBC.QUEUE_CTRL", base := 0x01600044, dims := [], group := 255, fields := [⟨1, 1, .wo, 0⟩, ⟨0, 1, .wo, 0⟩] },
  { name := "SUBC.INLET_GOOD", base := 0x01600050, dims := [], group := 255, fields := [⟨0, 32, .ro, 0⟩] },
  { name := "SUBC.INLET_HDR_FAIL", base := 0x01600054, dims := [], group := 255, fields := [⟨0, 32, .ro, 0⟩] },
  { name := "SUBC.INLET_PAY_FAIL", base := 0x01600058, dims := [], group := 255, fields := [⟨0, 32, .ro, 0⟩] },
  { name := "SUBC.INLET_COLLISION", base := 0x0160005C, dims := [], group := 255, fields := [⟨0, 32, .ro, 0⟩] },
  { name := "SUBC.INLET_PREEMPTED", base := 0x01600060, dims := [], group := 255, fields := [⟨0, 32, .ro, 0⟩] },
  { name := "SUBC.INLET_UNCONF_PREEMPT", base := 0x01600064, dims := [], group := 255, fields := [⟨0, 32, .ro, 0⟩] },
  { name := "SUBC.INLET_DUP", base := 0x01600068, dims := [], group := 255, fields := [⟨0, 32, .ro, 0⟩] },
  { name := "SUBC.INLET_QUEUE_DROP", base := 0x0160006C, dims := [], group := 255, fields := [⟨0, 32, .ro, 0⟩] },
  { name := "SUBC.TX_PAYLOAD", base := 0x01604000, dims := [(255, 4)], group := 255, fields := [⟨0, 32, .rw, 0⟩] },
  { name := "SUBC.Q_SERIAL_LO", base := 0x01610000, dims := [(32, 0x00000800)], group := 255, fields := [⟨0, 32, .ro, 0⟩] },
  { name := "SUBC.Q_SERIAL_HI", base := 0x01610004, dims := [(32, 0x00000800)], group := 255, fields := [⟨0, 32, .ro, 0⟩] },
  { name := "SUBC.Q_INFO", base := 0x01610008, dims := [(32, 0x00000800)], group := 255, fields := [⟨28, 4, .ro, 0⟩, ⟨24, 4, .ro, 0⟩, ⟨16, 6, .ro, 0⟩, ⟨0, 16, .ro, 0⟩] },
  { name := "SUBC.Q_FOFS", base := 0x0161000C, dims := [(32, 0x00000800)], group := 255, fields := [⟨0, 16, .ro, 0⟩] }]

/-- The registers of SUBC, part 1. -/
def RegMap.SUBC1 : List RegRow := [
  { name := "SUBC.Q_TS_SEC_LO", base := 0x01610010, dims := [(32, 0x00000800)], group := 255, fields := [⟨0, 32, .ro, 0⟩] },
  { name := "SUBC.Q_TS_SEC_HI", base := 0x01610014, dims := [(32, 0x00000800)], group := 255, fields := [⟨0, 16, .ro, 0⟩] },
  { name := "SUBC.Q_TS_NS", base := 0x01610018, dims := [(32, 0x00000800)], group := 255, fields := [⟨0, 32, .ro, 0⟩] },
  { name := "SUBC.Q_FLAGS", base := 0x0161001C, dims := [(32, 0x00000800)], group := 255, fields := [⟨0, 1, .ro, 0⟩] },
  { name := "SUBC.Q_PAYLOAD", base := 0x01610020, dims := [(32, 0x00000800), (255, 4)], group := 255, fields := [⟨0, 32, .ro, 0⟩] },
  { name := "SUBC.SC_QUAL_SEQ", base := 0x01601004, dims := [(16, 0x00000100)], group := 255, fields := [⟨31, 1, .rol, 0⟩, ⟨0, 31, .rol, 0⟩] },
  { name := "SUBC.SC_QUAL_EVM_XY", base := 0x01601010, dims := [(16, 0x00000100)], group := 255, fields := [⟨16, 16, .rol, 0⟩, ⟨0, 16, .rol, 0⟩] },
  { name := "SUBC.SC_QUAL_EVM", base := 0x01601014, dims := [(16, 0x00000100)], group := 255, fields := [⟨0, 16, .rol, 0⟩] },
  { name := "SUBC.SC_QUAL_SNR", base := 0x01601018, dims := [(16, 0x00000100)], group := 255, fields := [⟨0, 16, .rol, 0⟩] },
  { name := "SUBC.SC_QUAL_SNR_XY", base := 0x0160101C, dims := [(16, 0x00000100)], group := 255, fields := [⟨16, 16, .rol, 0⟩, ⟨0, 16, .rol, 0⟩] },
  { name := "SUBC.SC_QUAL_BITS_LO", base := 0x01601020, dims := [(16, 0x00000100)], group := 255, fields := [⟨0, 32, .rol, 0⟩] },
  { name := "SUBC.SC_QUAL_BITS_HI", base := 0x01601024, dims := [(16, 0x00000100)], group := 255, fields := [⟨0, 32, .rol, 0⟩] },
  { name := "SUBC.SC_QUAL_ERRS_LO", base := 0x01601028, dims := [(16, 0x00000100)], group := 255, fields := [⟨0, 32, .rol, 0⟩] },
  { name := "SUBC.SC_QUAL_ERRS_HI", base := 0x0160102C, dims := [(16, 0x00000100)], group := 255, fields := [⟨0, 32, .rol, 0⟩] },
  { name := "SUBC.SC_QUAL_GMI", base := 0x01601030, dims := [(16, 0x00000100)], group := 255, fields := [⟨0, 16, .rol, 0⟩] },
  { name := "SUBC.SC_QUAL_CD", base := 0x01601034, dims := [(16, 0x00000100)], group := 255, fields := [⟨0, 32, .rol, 0⟩] },
  { name := "SUBC.SC_QUAL_DGD_PDL", base := 0x01601038, dims := [(16, 0x00000100)], group := 255, fields := [⟨16, 16, .rol, 0⟩, ⟨0, 16, .rol, 0⟩] },
  { name := "SUBC.SC_QUAL_FOFS", base := 0x0160103C, dims := [(16, 0x00000100)], group := 255, fields := [⟨0, 16, .rol, 0⟩] },
  { name := "SUBC.SC_QUAL_SLIPS", base := 0x01601040, dims := [(16, 0x00000100)], group := 255, fields := [⟨0, 16, .rol, 0⟩] },
  { name := "SUBC.SC_AVG_ITER", base := 0x01601044, dims := [(16, 0x00000100)], group := 255, fields := [⟨0, 12, .rol, 0⟩] },
  { name := "SUBC.SC_LDPC_CW_LO", base := 0x01601050, dims := [(16, 0x00000100)], group := 255, fields := [⟨0, 32, .ro, 0⟩] },
  { name := "SUBC.SC_LDPC_CW_HI", base := 0x01601054, dims := [(16, 0x00000100)], group := 255, fields := [⟨0, 32, .ro, 0⟩] },
  { name := "SUBC.SC_LDPC_FAIL_LO", base := 0x01601058, dims := [(16, 0x00000100)], group := 255, fields := [⟨0, 32, .ro, 0⟩] },
  { name := "SUBC.SC_LDPC_FAIL_HI", base := 0x0160105C, dims := [(16, 0x00000100)], group := 255, fields := [⟨0, 32, .ro, 0⟩] },
  { name := "SUBC.SC_STAIR_UNCORR_LO", base := 0x01601060, dims := [(16, 0x00000100)], group := 255, fields := [⟨0, 32, .ro, 0⟩] },
  { name := "SUBC.SC_STAIR_UNCORR_HI", base := 0x01601064, dims := [(16, 0x00000100)], group := 255, fields := [⟨0, 32, .ro, 0⟩] },
  { name := "SUBC.EVT_STAT", base := 0x016000F0, dims := [], group := 255, fields := [⟨0, 10, .w1c, 0⟩] },
  { name := "SUBC.EVT_MASK", base := 0x016000F4, dims := [], group := 255, fields := [⟨0, 10, .rw, 1023⟩] },
  { name := "SUBC.EVT_STICKY", base := 0x016000F8, dims := [], group := 255, fields := [⟨0, 10, .rw, 1023⟩] }]

/-- The registers of SUBC. -/
def RegMap.SUBC : List RegRow := RegMap.SUBC0 ++ RegMap.SUBC1

/-- The registers of LENC. -/
def RegMap.LENC : List RegRow := [
  { name := "LENC.LENC_CFG", base := 0x01700000, dims := [], group := 2, fields := [⟨12, 2, .rw, 1⟩, ⟨8, 2, .rw, 0⟩, ⟨4, 1, .rw, 0⟩, ⟨2, 1, .rws, 0⟩, ⟨1, 1, .rws, 0⟩, ⟨0, 1, .rws, 0⟩] },
  { name := "LENC.LENC_STAT", base := 0x01700004, dims := [], group := 255, fields := [⟨31, 1, .ro, 0⟩, ⟨16, 4, .ro, 0⟩, ⟨10, 1, .ro, 0⟩, ⟨9, 1, .ro, 0⟩, ⟨8, 1, .ro, 0⟩, ⟨0, 1, .ro, 0⟩] },
  { name := "LENC.KEY_CTRL", base := 0x01700008, dims := [], group := 255, fields := [⟨4, 1, .wo, 0⟩, ⟨1, 1, .wo, 0⟩, ⟨0, 1, .wo, 0⟩] },
  { name := "LENC.TX_LOAD_CFG", base := 0x0170000C, dims := [], group := 255, fields := [⟨16, 6, .rw, 4⟩] },
  { name := "LENC.TX_EPOCH", base := 0x01700010, dims := [], group := 255, fields := [⟨0, 32, .rw, 0⟩] },
  { name := "LENC.RX_LOAD_CFG", base := 0x01700014, dims := [], group := 255, fields := [⟨16, 6, .rw, 4⟩] },
  { name := "LENC.RX_EPOCH", base := 0x01700018, dims := [], group := 255, fields := [⟨0, 32, .rw, 0⟩] },
  { name := "LENC.TX_KEY_INFO", base := 0x01700020, dims := [(2, 16)], group := 255, fields := [⟨31, 1, .ro, 0⟩, ⟨30, 1, .ro, 0⟩, ⟨29, 1, .ro, 0⟩, ⟨16, 6, .ro, 0⟩] },
  { name := "LENC.TX_KEY_EPOCH", base := 0x01700024, dims := [(2, 16)], group := 255, fields := [⟨0, 32, .ro, 0⟩] },
  { name := "LENC.TX_KEY_FRAMES", base := 0x01700028, dims := [(2, 16)], group := 255, fields := [⟨0, 32, .ro, 0⟩] },
  { name := "LENC.RX_KEY_INFO", base := 0x01700040, dims := [(2, 16)], group := 255, fields := [⟨31, 1, .ro, 0⟩, ⟨30, 1, .ro, 0⟩, ⟨29, 1, .ro, 0⟩, ⟨16, 6, .ro, 0⟩] },
  { name := "LENC.RX_KEY_EPOCH", base := 0x01700044, dims := [(2, 16)], group := 255, fields := [⟨0, 32, .ro, 0⟩] },
  { name := "LENC.LANE_FENCED", base := 0x01700060, dims := [], group := 255, fields := [⟨0, 17, .ro, 0⟩] },
  { name := "LENC.LANE_ROLE", base := 0x01700064, dims := [], group := 255, fields := [⟨16, 5, .ro, 16⟩, ⟨0, 5, .ro, 0⟩] },
  { name := "LENC.TX_VOID", base := 0x01700070, dims := [], group := 255, fields := [⟨0, 32, .ro, 0⟩] },
  { name := "LENC.TX_EMPTY_FRM", base := 0x01700074, dims := [], group := 255, fields := [⟨0, 32, .ro, 0⟩] },
  { name := "LENC.LANE_STAT", base := 0x01700080, dims := [(17, 4)], group := 255, fields := [⟨16, 16, .ro, 0⟩, ⟨2, 1, .ro, 0⟩, ⟨0, 2, .ro, 0⟩] },
  { name := "LENC.RX_TRAIL_STAT", base := 0x01710000, dims := [(16, 0x00000100)], group := 255, fields := [⟨1, 1, .ro, 0⟩, ⟨0, 1, .ro, 0⟩] },
  { name := "LENC.TAG_OK_LO", base := 0x01710008, dims := [(16, 0x00000100)], group := 255, fields := [⟨0, 32, .ro, 0⟩] },
  { name := "LENC.TAG_OK_HI", base := 0x0171000C, dims := [(16, 0x00000100)], group := 255, fields := [⟨0, 32, .ro, 0⟩] },
  { name := "LENC.TAG_FAIL", base := 0x01710010, dims := [(16, 0x00000100)], group := 255, fields := [⟨0, 32, .ro, 0⟩] },
  { name := "LENC.NOKEY", base := 0x01710014, dims := [(16, 0x00000100)], group := 255, fields := [⟨0, 32, .ro, 0⟩] },
  { name := "LENC.VBR_DROP", base := 0x01710018, dims := [(16, 0x00000100)], group := 255, fields := [⟨0, 32, .ro, 0⟩] },
  { name := "LENC.LANE_DROP", base := 0x0171001C, dims := [(16, 0x00000100)], group := 255, fields := [⟨0, 32, .ro, 0⟩] },
  { name := "LENC.PLAIN_DROP", base := 0x01710020, dims := [(16, 0x00000100)], group := 255, fields := [⟨0, 32, .ro, 0⟩] },
  { name := "LENC.EVT_STAT", base := 0x017000F0, dims := [], group := 255, fields := [⟨0, 15, .w1c, 0⟩] },
  { name := "LENC.EVT_MASK", base := 0x017000F4, dims := [], group := 255, fields := [⟨0, 15, .rw, 32767⟩] },
  { name := "LENC.EVT_STICKY", base := 0x017000F8, dims := [], group := 255, fields := [⟨0, 15, .rw, 32767⟩] }]

end Sys2Proof.Machine
end

