-- ==== Sys2Proof/Machine/RegRowsMgmt.lean ====
section
/-! DEFINITION. The register map of the management, time and security blocks: for each register its address, its strides, its commit group and the place, width, access type and reset value of each field, as the register tables of spec/ give them. -/

namespace Sys2Proof.Machine

/-- The registers of TOP. -/
def RegMap.TOP : List RegRow := [
  { name := "TOP.ID", base := 0, dims := [], group := 255, fields := [⟨16, 16, .ro, 12822⟩, ⟨8, 8, .ro, 176⟩, ⟨4, 4, .ro, 0⟩] },
  { name := "TOP.CARRIER_CFG", base := 64, dims := [], group := 1, fields := [⟨0, 2, .rws, 0⟩] },
  { name := "TOP.CARRIER_STAT", base := 68, dims := [], group := 255, fields := [⟨7, 1, .w1c, 0⟩, ⟨6, 1, .ro, 0⟩, ⟨0, 2, .ro, 0⟩] },
  { name := "TOP.FAULT_STAT", base := 16, dims := [], group := 255, fields := [⟨8, 1, .ro, 0⟩, ⟨3, 1, .ro, 0⟩, ⟨2, 1, .ro, 0⟩, ⟨1, 1, .ro, 0⟩, ⟨0, 1, .ro, 0⟩] },
  { name := "TOP.FAULT_TEST", base := 20, dims := [], group := 255, fields := [⟨0, 1, .rw, 0⟩] },
  { name := "TOP.COMMIT", base := 32, dims := [], group := 255, fields := [⟨0, 32, .wo, 0⟩] },
  { name := "TOP.SHADOW_REVERT", base := 36, dims := [], group := 255, fields := [⟨0, 32, .wo, 0⟩] },
  { name := "TOP.COMMIT_LAST", base := 40, dims := [], group := 255, fields := [⟨0, 32, .ro, 0⟩] },
  { name := "TOP.COMMIT_REFUSED", base := 44, dims := [], group := 255, fields := [⟨0, 32, .w1c, 0⟩] },
  { name := "TOP.COMMIT_SEQ", base := 48, dims := [], group := 255, fields := [⟨0, 32, .ro, 0⟩] },
  { name := "TOP.EVT_SUM", base := 128, dims := [], group := 255, fields := [⟨0, 32, .ro, 0⟩] },
  { name := "TOP.HOST_EN", base := 132, dims := [], group := 255, fields := [⟨0, 32, .rw, 0⟩] },
  { name := "TOP.FAULT_VEC", base := 136, dims := [], group := 255, fields := [⟨0, 6, .rw, 0⟩] },
  { name := "TOP.CORE_EN", base := 144, dims := [(4, 4)], group := 255, fields := [⟨0, 32, .rw, 0⟩] },
  { name := "TOP.VEC_MAP", base := 0x00000100, dims := [(32, 4)], group := 255, fields := [⟨0, 6, .rw, 0⟩] },
  { name := "TOP.VEC_ACK_LO", base := 0x00000200, dims := [], group := 255, fields := [⟨0, 32, .w1c, 0⟩] },
  { name := "TOP.VEC_ACK_HI", base := 0x00000204, dims := [], group := 255, fields := [⟨0, 32, .w1c, 0⟩] },
  { name := "TOP.GPIO_DIR", base := 0x00000300, dims := [], group := 255, fields := [⟨0, 16, .rw, 0⟩] },
  { name := "TOP.GPIO_OD", base := 0x00000304, dims := [], group := 255, fields := [⟨0, 16, .rw, 0⟩] },
  { name := "TOP.GPIO_OUT", base := 0x00000308, dims := [], group := 255, fields := [⟨0, 16, .rw, 0⟩] },
  { name := "TOP.GPIO_IN", base := 0x0000030C, dims := [], group := 255, fields := [⟨0, 16, .ro, 0⟩] },
  { name := "TOP.EVT_STAT", base := 240, dims := [], group := 255, fields := [⟨0, 2, .w1c, 0⟩] },
  { name := "TOP.EVT_MASK", base := 244, dims := [], group := 255, fields := [⟨0, 2, .rw, 3⟩] },
  { name := "TOP.EVT_STICKY", base := 248, dims := [], group := 255, fields := [⟨0, 2, .rw, 3⟩] }]

/-- The registers of CLK. -/
def RegMap.CLK : List RegRow := [
  { name := "CLK.BRG_QUIET", base := 0x00100080, dims := [], group := 255, fields := [⟨0, 16, .ro, 65535⟩] },
  { name := "CLK.CLK_STAT", base := 0x00100000, dims := [], group := 255, fields := [⟨17, 1, .ro, 0⟩, ⟨16, 1, .ro, 0⟩, ⟨5, 1, .ro, 0⟩, ⟨4, 1, .ro, 0⟩, ⟨3, 1, .ro, 0⟩, ⟨2, 1, .ro, 0⟩, ⟨1, 1, .ro, 0⟩, ⟨0, 1, .ro, 0⟩] },
  { name := "CLK.ROOT_CFG", base := 0x00100004, dims := [], group := 255, fields := [⟨1, 1, .rw, 0⟩, ⟨0, 1, .rw, 0⟩] },
  { name := "CLK.SW_STAT", base := 0x00100008, dims := [], group := 255, fields := [⟨0, 4, .ro, 0⟩] },
  { name := "CLK.MON_STAT", base := 0x00100010, dims := [], group := 255, fields := [⟨16, 16, .ro, 0⟩, ⟨0, 16, .ro, 0⟩] },
  { name := "CLK.DIV_CFG", base := 0x00100020, dims := [], group := 255, fields := [⟨18, 2, .rw, 0⟩, ⟨16, 2, .rw, 0⟩, ⟨14, 2, .rw, 0⟩, ⟨12, 2, .rw, 0⟩, ⟨0, 4, .rw, 2⟩] },
  { name := "CLK.GATE_CTRL", base := 0x00100040, dims := [], group := 255, fields := [⟨0, 6, .rw, 0⟩] },
  { name := "CLK.GATE_STAT", base := 0x00100044, dims := [], group := 255, fields := [⟨20, 3, .ro, 0⟩, ⟨16, 4, .ro, 0⟩, ⟨8, 6, .ro, 0⟩, ⟨0, 6, .ro, 0⟩] },
  { name := "CLK.RST_CTRL", base := 0x00100060, dims := [], group := 255, fields := [⟨16, 16, .wo, 0⟩, ⟨8, 6, .rw, 0⟩, ⟨1, 1, .wo, 0⟩, ⟨0, 1, .wo, 0⟩] },
  { name := "CLK.RST_CAUSE", base := 0x00100064, dims := [], group := 255, fields := [⟨6, 1, .w1c, 0⟩, ⟨5, 1, .w1c, 0⟩, ⟨4, 1, .w1c, 0⟩, ⟨3, 1, .w1c, 0⟩, ⟨2, 1, .w1c, 0⟩, ⟨1, 1, .w1c, 0⟩, ⟨0, 1, .w1c, 1⟩] },
  { name := "CLK.PWR_CTRL", base := 0x00100070, dims := [], group := 255, fields := [⟨16, 16, .wo, 0⟩, ⟨1, 1, .rw, 0⟩, ⟨0, 1, .wo, 0⟩] },
  { name := "CLK.PWR_STAT", base := 0x00100074, dims := [], group := 255, fields := [⟨0, 2, .ro, 0⟩] },
  { name := "CLK.WAKE_CFG", base := 0x00100078, dims := [], group := 255, fields := [⟨16, 16, .rw, 0⟩, ⟨0, 16, .rw, 0⟩] },
  { name := "CLK.WAKE_STAT", base := 0x0010007C, dims := [], group := 255, fields := [⟨16, 1, .ro, 0⟩, ⟨0, 16, .ro, 0⟩] },
  { name := "CLK.AVS_STAT", base := 0x00100090, dims := [], group := 255, fields := [⟨0, 5, .ro, 14⟩] },
  { name := "CLK.AVS_CFG", base := 0x00100094, dims := [], group := 255, fields := [⟨31, 1, .rw, 1⟩, ⟨0, 5, .rw, 14⟩] },
  { name := "CLK.EVT_STAT", base := 0x001000F0, dims := [], group := 255, fields := [⟨0, 9, .w1c, 0⟩] },
  { name := "CLK.EVT_MASK", base := 0x001000F4, dims := [], group := 255, fields := [⟨0, 9, .rw, 511⟩] },
  { name := "CLK.EVT_STICKY", base := 0x001000F8, dims := [], group := 255, fields := [⟨0, 9, .rw, 511⟩] }]

/-- The registers of BOOT. -/
def RegMap.BOOT : List RegRow := [
  { name := "BOOT.BOOT_STAT", base := 0x00200000, dims := [], group := 255, fields := [⟨28, 4, .ro, 0⟩, ⟨24, 2, .ro, 0⟩, ⟨22, 1, .ro, 0⟩, ⟨21, 1, .ro, 0⟩, ⟨20, 1, .ro, 0⟩, ⟨17, 1, .ro, 0⟩, ⟨16, 1, .ro, 0⟩, ⟨4, 4, .ro, 0⟩, ⟨0, 4, .ro, 0⟩] },
  { name := "BOOT.BOOT_CTRL", base := 0x00200004, dims := [], group := 255, fields := [⟨12, 1, .wo, 0⟩, ⟨8, 1, .rw, 0⟩, ⟨5, 1, .rw, 0⟩, ⟨4, 1, .wo, 0⟩, ⟨1, 1, .wo, 0⟩, ⟨0, 1, .wo, 0⟩] },
  { name := "BOOT.IMAGE_SEQ", base := 0x00200008, dims := [], group := 255, fields := [⟨0, 32, .ro, 0⟩] },
  { name := "BOOT.IMAGE_LEN", base := 0x0020000C, dims := [], group := 255, fields := [⟨0, 32, .ro, 0⟩] },
  { name := "BOOT.BOOT_TIME", base := 0x00200010, dims := [], group := 255, fields := [⟨0, 32, .ro, 0⟩] },
  { name := "BOOT.SERVICE_TIME", base := 0x00200014, dims := [], group := 255, fields := [⟨0, 32, .ro, 0⟩] },
  { name := "BOOT.CAL_A", base := 0x00200018, dims := [], group := 255, fields := [⟨0, 32, .ro, 0⟩] },
  { name := "BOOT.CAL_B", base := 0x0020001C, dims := [], group := 255, fields := [⟨0, 32, .ro, 0⟩] },
  { name := "BOOT.REC_STAT", base := 0x00200020, dims := [], group := 255, fields := [⟨16, 16, .ro, 0⟩, ⟨0, 16, .ro, 0⟩] },
  { name := "BOOT.KEY_STAT", base := 0x00200024, dims := [], group := 255, fields := [⟨8, 8, .ro, 0⟩, ⟨0, 8, .ro, 0⟩] },
  { name := "BOOT.HOST_WR_DROP", base := 0x00200028, dims := [], group := 255, fields := [⟨0, 32, .ro, 0⟩] },
  { name := "BOOT.XSPI_CFG", base := 0x00200040, dims := [], group := 255, fields := [⟨16, 2, .rw, 0⟩, ⟨8, 7, .rw, 64⟩, ⟨0, 5, .rw, 0⟩] },
  { name := "BOOT.XSPI_ADDR", base := 0x00200044, dims := [], group := 255, fields := [⟨0, 32, .rw, 0⟩] },
  { name := "BOOT.XSPI_CMD", base := 0x00200048, dims := [], group := 255, fields := [⟨31, 1, .wo, 0⟩, ⟨24, 2, .rw, 0⟩, ⟨8, 9, .rw, 0⟩, ⟨0, 8, .rw, 0⟩] },
  { name := "BOOT.XSPI_STAT", base := 0x0020004C, dims := [], group := 255, fields := [⟨1, 1, .ro, 0⟩, ⟨0, 1, .ro, 0⟩] },
  { name := "BOOT.XSPI_DATA", base := 0x00200100, dims := [(64, 4)], group := 255, fields := [⟨0, 32, .rw, 0⟩] },
  { name := "BOOT.EVT_STAT", base := 0x002000F0, dims := [], group := 255, fields := [⟨0, 8, .w1c, 0⟩] },
  { name := "BOOT.EVT_MASK", base := 0x002000F4, dims := [], group := 255, fields := [⟨0, 8, .rw, 255⟩] },
  { name := "BOOT.EVT_STICKY", base := 0x002000F8, dims := [], group := 255, fields := [⟨0, 8, .rw, 255⟩] }]

/-- The registers of POOL, part 0. -/
def RegMap.POOL0 : List RegRow := [
  { name := "POOL.POOL_OWN", base := 0x00300000, dims := [(4, 4)], group := 255, fields := [⟨0, 3, .rw, 7⟩] },
  { name := "POOL.POOL_CFG", base := 0x00300010, dims := [], group := 255, fields := [⟨0, 1, .rw, 0⟩] },
  { name := "POOL.ECC_FLIP_LO", base := 0x00300020, dims := [], group := 255, fields := [⟨0, 32, .rw, 0⟩] },
  { name := "POOL.ECC_FLIP_HI", base := 0x00300024, dims := [], group := 255, fields := [⟨0, 32, .rw, 0⟩] },
  { name := "POOL.ECC_FLIP_CTL", base := 0x00300028, dims := [], group := 255, fields := [⟨31, 1, .rw, 0⟩, ⟨24, 2, .rw, 0⟩, ⟨16, 3, .rw, 0⟩, ⟨0, 8, .rw, 0⟩] },
  { name := "POOL.SCRUB_START", base := 0x00300040, dims := [], group := 255, fields := [⟨3, 29, .rw, 0⟩] },
  { name := "POOL.SCRUB_END", base := 0x00300044, dims := [], group := 255, fields := [⟨3, 29, .rw, 0⟩] },
  { name := "POOL.SCRUB_CTRL", base := 0x00300048, dims := [], group := 255, fields := [⟨1, 1, .wo, 0⟩, ⟨0, 1, .wo, 0⟩] },
  { name := "POOL.SCRUB_STAT", base := 0x0030004C, dims := [], group := 255, fields := [⟨31, 1, .ro, 0⟩, ⟨30, 1, .ro, 0⟩, ⟨29, 1, .ro, 0⟩] },
  { name := "POOL.SCRUB_READ", base := 0x00300050, dims := [], group := 255, fields := [⟨0, 32, .ro, 0⟩] },
  { name := "POOL.SCRUB_CORR", base := 0x00300054, dims := [], group := 255, fields := [⟨0, 32, .ro, 0⟩] },
  { name := "POOL.SCRUB_UNCORR", base := 0x00300058, dims := [], group := 255, fields := [⟨0, 32, .ro, 0⟩] },
  { name := "POOL.SCRUB_POISON_SEEN", base := 0x0030005C, dims := [], group := 255, fields := [⟨0, 32, .ro, 0⟩] },
  { name := "POOL.SCRUB_FIRST", base := 0x00300060, dims := [], group := 255, fields := [⟨0, 32, .ro, 0xFFFFFFFF⟩] },
  { name := "POOL.REPAIR_CTRL", base := 0x00300070, dims := [], group := 255, fields := [⟨31, 1, .wo, 0⟩, ⟨24, 2, .rw, 0⟩, ⟨16, 2, .rw, 0⟩, ⟨0, 9, .rw, 0⟩] },
  { name := "POOL.REPAIR_STAT", base := 0x00300074, dims := [], group := 255, fields := [⟨31, 1, .ro, 0⟩, ⟨0, 2, .ro, 0⟩] },
  { name := "POOL.SPARE_LEFT_0", base := 0x00300078, dims := [], group := 255, fields := [⟨0, 32, .ro, 0⟩] },
  { name := "POOL.SPARE_LEFT_1", base := 0x0030007C, dims := [], group := 255, fields := [⟨0, 32, .ro, 0⟩] },
  { name := "POOL.MEV_STAT", base := 0x00300080, dims := [], group := 255, fields := [⟨16, 16, .ro, 0⟩, ⟨0, 5, .ro, 0⟩] },
  { name := "POOL.MEV_CTRL", base := 0x00300084, dims := [], group := 255, fields := [⟨0, 1, .wo, 0⟩] },
  { name := "POOL.MEV_HEAD_INFO", base := 0x00300088, dims := [], group := 255, fields := [⟨24, 4, .ro, 0⟩, ⟨20, 2, .ro, 0⟩, ⟨16, 3, .ro, 0⟩] },
  { name := "POOL.MEV_HEAD_ADDR", base := 0x0030008C, dims := [], group := 255, fields := [⟨0, 32, .ro, 0⟩] },
  { name := "POOL.CORR_CNT", base := 0x00300090, dims := [(4, 4)], group := 255, fields := [⟨0, 32, .ro, 0⟩] },
  { name := "POOL.UNCORR_CNT", base := 0x003000A0, dims := [(4, 4)], group := 255, fields := [⟨0, 32, .ro, 0⟩] },
  { name := "POOL.COLLIDE_CNT", base := 0x003000B0, dims := [], group := 255, fields := [⟨0, 32, .ro, 0⟩] },
  { name := "POOL.PARK", base := 0x00300100, dims := [(15, 4)], group := 255, fields := [⟨0, 3, .rw, 0⟩] },
  { name := "POOL.BM_ERR_INFO", base := 0x00300140, dims := [], group := 255, fields := [⟨31, 1, .w1c, 0⟩, ⟨24, 4, .ro, 0⟩, ⟨16, 4, .ro, 0⟩, ⟨0, 3, .ro, 0⟩] },
  { name := "POOL.BM_ERR_ADDR", base := 0x00300144, dims := [], group := 255, fields := [⟨0, 32, .ro, 0⟩] },
  { name := "POOL.BM_ERR_CNT", base := 0x00300148, dims := [], group := 255, fields := [⟨0, 32, .ro, 0⟩] },
  { name := "POOL.BM_HOLD_CNT", base := 0x0030014C, dims := [], group := 255, fields := [⟨0, 32, .ro, 0⟩] }]

/-- The registers of POOL, part 1. -/
def RegMap.POOL1 : List RegRow := [
  { name := "POOL.BM_OUT", base := 0x00300150, dims := [(8, 4)], group := 255, fields := [⟨0, 4, .ro, 0⟩] },
  { name := "POOL.EVT_STAT", base := 0x003000F0, dims := [], group := 255, fields := [⟨0, 11, .w1c, 0⟩] },
  { name := "POOL.EVT_MASK", base := 0x003000F4, dims := [], group := 255, fields := [⟨0, 11, .rw, 2047⟩] },
  { name := "POOL.EVT_STICKY", base := 0x003000F8, dims := [], group := 255, fields := [⟨0, 11, .rw, 2047⟩] }]

/-- The registers of POOL. -/
def RegMap.POOL : List RegRow := RegMap.POOL0 ++ RegMap.POOL1

/-- The registers of MGMT. -/
def RegMap.MGMT : List RegRow := [
  { name := "MGMT.CORE_CTRL", base := 0x00400000, dims := [(4, 64)], group := 255, fields := [⟨1, 1, .wo, 0⟩, ⟨0, 1, .rw, 0⟩] },
  { name := "MGMT.CORE_STAT", base := 0x00400004, dims := [(4, 64)], group := 255, fields := [⟨8, 8, .ro, 0⟩, ⟨0, 2, .ro, 0⟩] },
  { name := "MGMT.CORE_ENTRY", base := 0x00400008, dims := [(4, 64)], group := 255, fields := [⟨0, 32, .ro, 0⟩] },
  { name := "MGMT.WDT_CFG", base := 0x0040000C, dims := [(4, 64)], group := 255, fields := [⟨31, 1, .rw, 1⟩, ⟨24, 2, .rw, 0⟩, ⟨0, 16, .rw, 16⟩] },
  { name := "MGMT.WDT_KICK", base := 0x00400010, dims := [(4, 64)], group := 255, fields := [⟨0, 32, .wo, 0⟩] },
  { name := "MGMT.WDT_LEFT", base := 0x00400014, dims := [(4, 64)], group := 255, fields := [⟨0, 16, .ro, 16⟩] },
  { name := "MGMT.H2F_DATA", base := 0x00400200, dims := [(16, 4)], group := 255, fields := [⟨0, 32, .rw, 0⟩] },
  { name := "MGMT.H2F_CTRL", base := 0x00400240, dims := [], group := 255, fields := [⟨31, 1, .wo, 0⟩, ⟨16, 8, .rw, 0⟩, ⟨8, 8, .rw, 0⟩, ⟨0, 8, .rw, 0⟩] },
  { name := "MGMT.H2F_STAT", base := 0x00400244, dims := [], group := 255, fields := [⟨31, 1, .ro, 0⟩, ⟨0, 8, .ro, 0⟩] },
  { name := "MGMT.F2H_DATA", base := 0x00400280, dims := [(16, 4)], group := 255, fields := [⟨0, 32, .ro, 0⟩] },
  { name := "MGMT.F2H_CTRL", base := 0x004002C0, dims := [], group := 255, fields := [⟨31, 1, .w1c, 0⟩, ⟨0, 8, .ro, 0⟩] },
  { name := "MGMT.EXT_WIN_BASE", base := 0x00400300, dims := [(8, 16)], group := 255, fields := [⟨0, 32, .rw, 0⟩] },
  { name := "MGMT.EXT_WIN_LIM", base := 0x00400304, dims := [(8, 16)], group := 255, fields := [⟨0, 32, .rw, 0⟩] },
  { name := "MGMT.EXT_WIN_ATTR", base := 0x00400308, dims := [(8, 16)], group := 255, fields := [⟨0, 3, .rw, 0⟩] },
  { name := "MGMT.EXT_OVERRUN", base := 0x00400380, dims := [], group := 255, fields := [⟨0, 32, .ro, 0⟩] },
  { name := "MGMT.EVT_STAT", base := 0x004000F0, dims := [], group := 255, fields := [⟨0, 9, .w1c, 0⟩] },
  { name := "MGMT.EVT_MASK", base := 0x004000F4, dims := [], group := 255, fields := [⟨0, 9, .rw, 511⟩] },
  { name := "MGMT.EVT_STICKY", base := 0x004000F8, dims := [], group := 255, fields := [⟨0, 9, .rw, 511⟩] }]

/-- The registers of EVC. -/
def RegMap.EVC : List RegRow := [
  { name := "EVC.EVC_CTRL", base := 0x00500000, dims := [], group := 255, fields := [⟨0, 1, .wo, 0⟩] },
  { name := "EVC.SNAP_SEQ", base := 0x00500004, dims := [], group := 255, fields := [⟨0, 32, .ro, 0⟩] },
  { name := "EVC.SNAP_SEC_LO", base := 0x00500008, dims := [], group := 255, fields := [⟨0, 32, .ro, 0⟩] },
  { name := "EVC.SNAP_SEC_HI", base := 0x0050000C, dims := [], group := 255, fields := [⟨0, 16, .ro, 0⟩] },
  { name := "EVC.SNAP_NS", base := 0x00500010, dims := [], group := 255, fields := [⟨0, 30, .ro, 0⟩] },
  { name := "EVC.CHAIN", base := 0x00500100, dims := [(16, 4)], group := 255, fields := [⟨0, 32, .rw, 0⟩] },
  { name := "EVC.OVF", base := 0x00500140, dims := [(16, 4)], group := 255, fields := [⟨0, 32, .w1c, 0⟩] },
  { name := "EVC.SMP_CFG", base := 0x00500200, dims := [], group := 255, fields := [⟨31, 1, .rw, 0⟩, ⟨28, 2, .rw, 0⟩, ⟨16, 4, .rw, 0⟩, ⟨8, 4, .rw, 0⟩] },
  { name := "EVC.SMP_PERIOD", base := 0x00500204, dims := [], group := 255, fields := [⟨0, 24, .rw, 1024⟩] },
  { name := "EVC.SMP_WP", base := 0x00500208, dims := [], group := 255, fields := [⟨0, 12, .ro, 0⟩] },
  { name := "EVC.SMP_RP", base := 0x0050020C, dims := [], group := 255, fields := [⟨0, 12, .rw, 0⟩] },
  { name := "EVC.SMP_STAT", base := 0x00500210, dims := [], group := 255, fields := [⟨16, 12, .rw, 1024⟩, ⟨0, 12, .ro, 0⟩] },
  { name := "EVC.SMP_DROP", base := 0x00500214, dims := [], group := 255, fields := [⟨0, 32, .ro, 0⟩] },
  { name := "EVC.EVC_CNT", base := 0x00501000, dims := [(512, 4)], group := 255, fields := [⟨0, 32, .ro, 0⟩] },
  { name := "EVC.EVC_SNAP", base := 0x00502000, dims := [(512, 4)], group := 255, fields := [⟨0, 32, .rol, 0⟩] },
  { name := "EVC.SMP_BUF", base := 0x00510000, dims := [(2048, 32), (8, 4)], group := 255, fields := [⟨0, 32, .ro, 0⟩] },
  { name := "EVC.EVT_STAT", base := 0x005000F0, dims := [], group := 255, fields := [⟨0, 4, .w1c, 0⟩] },
  { name := "EVC.EVT_MASK", base := 0x005000F4, dims := [], group := 255, fields := [⟨0, 4, .rw, 15⟩] },
  { name := "EVC.EVT_STICKY", base := 0x005000F8, dims := [], group := 255, fields := [⟨0, 4, .rw, 15⟩] }]

/-- The registers of TIM. -/
def RegMap.TIM : List RegRow := [
  { name := "TIM.SEL_CFG", base := 0x00600000, dims := [], group := 255, fields := [⟨8, 3, .rw, 6⟩, ⟨4, 1, .rw, 1⟩, ⟨0, 3, .rw, 3⟩] },
  { name := "TIM.QUAL_CFG", base := 0x00600004, dims := [], group := 255, fields := [⟨16, 8, .rw, 10⟩, ⟨0, 16, .rw, 300⟩] },
  { name := "TIM.DPLL_CFG", base := 0x00600008, dims := [], group := 255, fields := [⟨8, 8, .rw, 20⟩, ⟨0, 2, .rw, 2⟩] },
  { name := "TIM.HO_CFG", base := 0x0060000C, dims := [], group := 255, fields := [⟨16, 4, .rw, 2⟩, ⟨0, 12, .rw, 300⟩] },
  { name := "TIM.HO_TIMER", base := 0x00600010, dims := [], group := 255, fields := [⟨0, 32, .rw, 0x00015180⟩] },
  { name := "TIM.MON_CFG", base := 0x00600014, dims := [], group := 255, fields := [⟨0, 2, .rw, 1⟩] },
  { name := "TIM.HO_CTRL", base := 0x00600018, dims := [], group := 255, fields := [⟨0, 1, .wo, 0⟩] },
  { name := "TIM.DPLL_STAT", base := 0x00600020, dims := [], group := 255, fields := [⟨16, 1, .ro, 0⟩, ⟨15, 1, .ro, 0⟩, ⟨12, 3, .ro, 0⟩, ⟨8, 2, .ro, 0⟩, ⟨6, 1, .ro, 0⟩, ⟨5, 1, .ro, 0⟩, ⟨4, 1, .ro, 0⟩, ⟨0, 3, .ro, 0⟩] },
  { name := "TIM.DPLL_HIST", base := 0x00600024, dims := [], group := 255, fields := [⟨0, 5, .w1c, 1⟩] },
  { name := "TIM.HO_EST", base := 0x00600028, dims := [], group := 255, fields := [⟨0, 32, .ro, 0⟩] },
  { name := "TIM.DPLL_FOFS", base := 0x0060002C, dims := [], group := 255, fields := [⟨0, 32, .ro, 0⟩] },
  { name := "TIM.HO_ELAPSED", base := 0x00600030, dims := [], group := 255, fields := [⟨0, 32, .ro, 0⟩] },
  { name := "TIM.LOCKED_TIME", base := 0x00600034, dims := [], group := 255, fields := [⟨0, 32, .ro, 0⟩] },
  { name := "TIM.SW_COUNT", base := 0x00600038, dims := [], group := 255, fields := [⟨0, 32, .ro, 0⟩] },
  { name := "TIM.DCO_FREQ", base := 0x00600040, dims := [], group := 6, fields := [⟨0, 32, .rws, 0⟩] },
  { name := "TIM.DCO_CTRL", base := 0x00600044, dims := [], group := 255, fields := [⟨0, 1, .rw, 0⟩] },
  { name := "TIM.DCO_SLEW", base := 0x00600048, dims := [], group := 255, fields := [⟨0, 24, .rw, 0⟩] },
  { name := "TIM.DCO_NOW", base := 0x0060004C, dims := [], group := 255, fields := [⟨0, 32, .ro, 0⟩] },
  { name := "TIM.REF_CFG", base := 0x00600100, dims := [(8, 32)], group := 255, fields := [⟨8, 4, .rw, 0⟩, ⟨0, 4, .rw, 0⟩] },
  { name := "TIM.REF_FREQ", base := 0x00600104, dims := [(8, 32)], group := 255, fields := [⟨0, 20, .rw, 10000⟩] },
  { name := "TIM.REF_STAT", base := 0x00600108, dims := [(8, 32)], group := 255, fields := [⟨31, 1, .ro, 0⟩, ⟨30, 1, .ro, 0⟩, ⟨29, 1, .ro, 0⟩, ⟨24, 4, .ro, 1⟩, ⟨22, 1, .ro, 0⟩] },
  { name := "TIM.REF_FOFS", base := 0x0060010C, dims := [(8, 32)], group := 255, fields := [⟨0, 32, .rol, 0⟩] },
  { name := "TIM.REF_WTR", base := 0x00600110, dims := [(8, 32)], group := 255, fields := [⟨0, 16, .ro, 0⟩] },
  { name := "TIM.REF_DISQ_CNT", base := 0x00600114, dims := [(8, 32)], group := 255, fields := [⟨0, 32, .ro, 0⟩] },
  { name := "TIM.REFOUT_CFG", base := 0x00600200, dims := [(2, 16)], group := 255, fields := [⟨8, 5, .rw, 25⟩, ⟨4, 4, .rw, 0⟩, ⟨0, 1, .rw, 0⟩] },
  { name := "TIM.REFOUT_FREQ", base := 0x00600204, dims := [(2, 16)], group := 255, fields := [⟨0, 20, .rw, 10000⟩] },
  { name := "TIM.EVT_STAT", base := 0x006000F0, dims := [], group := 255, fields := [⟨0, 10, .w1c, 0⟩] },
  { name := "TIM.EVT_MASK", base := 0x006000F4, dims := [], group := 255, fields := [⟨0, 10, .rw, 1023⟩] },
  { name := "TIM.EVT_STICKY", base := 0x006000F8, dims := [], group := 255, fields := [⟨0, 10, .rw, 1023⟩] }]

/-- The registers of WST, part 0. -/
def RegMap.WST0 : List RegRow := [
  { name := "WST.TIME_CTRL", base := 0x00700000, dims := [], group := 255, fields := [⟨0, 1, .wo, 0⟩] },
  { name := "WST.TIME_CFG", base := 0x00700004, dims := [], group := 255, fields := [⟨24, 3, .rw, 0⟩, ⟨16, 5, .rw, 0⟩, ⟨8, 8, .rw, 16⟩, ⟨0, 3, .rw, 3⟩] },
  { name := "WST.SLEW_CFG", base := 0x00700008, dims := [], group := 255, fields := [⟨16, 16, .rw, 1000⟩, ⟨0, 16, .rw, 1000⟩] },
  { name := "WST.SYNC_CFG", base := 0x0070000C, dims := [], group := 255, fields := [⟨16, 16, .rw, 100⟩, ⟨0, 16, .rw, 50⟩] },
  { name := "WST.CAP_SEC_LO", base := 0x00700010, dims := [], group := 255, fields := [⟨0, 32, .rol, 0⟩] },
  { name := "WST.CAP_SEC_HI", base := 0x00700014, dims := [], group := 255, fields := [⟨0, 16, .rol, 0⟩] },
  { name := "WST.CAP_NS", base := 0x00700018, dims := [], group := 255, fields := [⟨0, 30, .rol, 0⟩] },
  { name := "WST.CAP_FRAC", base := 0x0070001C, dims := [], group := 255, fields := [⟨0, 16, .rol, 0⟩] },
  { name := "WST.SET_SEC_LO", base := 0x00700020, dims := [], group := 7, fields := [⟨0, 32, .rws, 0⟩] },
  { name := "WST.SET_SEC_HI", base := 0x00700024, dims := [], group := 7, fields := [⟨0, 16, .rws, 0⟩] },
  { name := "WST.SET_NS", base := 0x00700028, dims := [], group := 7, fields := [⟨0, 30, .rws, 0⟩] },
  { name := "WST.PHASE_ADJ", base := 0x0070002C, dims := [], group := 255, fields := [⟨0, 32, .wo, 0⟩] },
  { name := "WST.TIME_STAT", base := 0x00700030, dims := [], group := 255, fields := [⟨31, 1, .ro, 0⟩, ⟨0, 3, .ro, 0⟩] },
  { name := "WST.LAST_OFS", base := 0x00700034, dims := [], group := 255, fields := [⟨0, 32, .rol, 0⟩] },
  { name := "WST.MEAN_PD", base := 0x00700038, dims := [], group := 255, fields := [⟨0, 32, .ro, 0⟩] },
  { name := "WST.GM_STAT", base := 0x0070003C, dims := [], group := 255, fields := [⟨16, 14, .ro, 16383⟩, ⟨0, 8, .ro, 0⟩] },
  { name := "WST.NODE_ID", base := 0x00700040, dims := [], group := 255, fields := [⟨31, 1, .rw, 0⟩, ⟨0, 14, .rw, 16383⟩] },
  { name := "WST.DOM_SLOT", base := 0x00700044, dims := [], group := 255, fields := [⟨0, 6, .rw, 48⟩] },
  { name := "WST.EXCH_CNT", base := 0x00700048, dims := [], group := 255, fields := [⟨0, 32, .ro, 0⟩] },
  { name := "WST.TT_STALE", base := 0x0070004C, dims := [], group := 255, fields := [⟨0, 32, .ro, 0⟩] },
  { name := "WST.PATH_JUMP_CNT", base := 0x00700050, dims := [], group := 255, fields := [⟨0, 32, .ro, 0⟩] },
  { name := "WST.RX_BAD", base := 0x00700054, dims := [], group := 255, fields := [⟨0, 32, .ro, 0⟩] },
  { name := "WST.PPSIN_ERR", base := 0x00700060, dims := [(2, 8)], group := 255, fields := [⟨0, 32, .rol, 0⟩] },
  { name := "WST.PPSIN_DLY", base := 0x00700064, dims := [(2, 8)], group := 255, fields := [⟨0, 24, .rw, 0⟩] },
  { name := "WST.PPSOUT_CFG", base := 0x00700070, dims := [], group := 255, fields := [⟨16, 10, .rw, 100⟩, ⟨0, 1, .rw, 0⟩] },
  { name := "WST.PPSOUT_OFS", base := 0x00700074, dims := [], group := 255, fields := [⟨0, 32, .rw, 0⟩] },
  { name := "WST.FE_TX_DLY", base := 0x00700080, dims := [(2, 16)], group := 255, fields := [⟨0, 24, .rw, 0⟩] },
  { name := "WST.FE_RX_DLY", base := 0x00700084, dims := [(2, 16)], group := 255, fields := [⟨0, 24, .rw, 0⟩] },
  { name := "WST.ASYM", base := 0x00700088, dims := [(2, 16)], group := 255, fields := [⟨0, 32, .rw, 0⟩] },
  { name := "WST.TT_PORT_CFG", base := 0x00700100, dims := [(32, 4)], group := 255, fields := [⟨1, 1, .rw, 0⟩, ⟨0, 1, .rw, 0⟩] }]

/-- The registers of WST, part 1. -/
def RegMap.WST1 : List RegRow := [
  { name := "WST.RIP_SEC_LO", base := 0x00701000, dims := [(64, 64)], group := 255, fields := [⟨0, 32, .rw, 0⟩] },
  { name := "WST.RIP_SEC_HI", base := 0x00701004, dims := [(64, 64)], group := 255, fields := [⟨0, 16, .rw, 0⟩] },
  { name := "WST.RIP_NS", base := 0x00701008, dims := [(64, 64)], group := 255, fields := [⟨0, 30, .rw, 0⟩] },
  { name := "WST.RIP_FRAC", base := 0x0070100C, dims := [(64, 64)], group := 255, fields := [⟨0, 16, .rw, 0⟩] },
  { name := "WST.RIP_ACT", base := 0x00701010, dims := [(64, 64)], group := 255, fields := [⟨0, 8, .rw, 0⟩] },
  { name := "WST.RIP_GROUPS", base := 0x00701014, dims := [(64, 64)], group := 255, fields := [⟨0, 32, .rw, 0⟩] },
  { name := "WST.RIP_GPIO", base := 0x00701018, dims := [(64, 64)], group := 255, fields := [⟨16, 16, .rw, 0⟩, ⟨0, 16, .rw, 0⟩] },
  { name := "WST.RIP_PERIOD_LO", base := 0x0070101C, dims := [(64, 64)], group := 255, fields := [⟨0, 32, .rw, 0⟩] },
  { name := "WST.RIP_PERIOD_HI", base := 0x00701020, dims := [(64, 64)], group := 255, fields := [⟨0, 32, .rw, 0⟩] },
  { name := "WST.RIP_CTRL", base := 0x00701024, dims := [(64, 64)], group := 255, fields := [⟨1, 1, .wo, 0⟩, ⟨0, 1, .wo, 0⟩] },
  { name := "WST.RIP_STAT", base := 0x00701028, dims := [(64, 64)], group := 255, fields := [⟨16, 16, .ro, 0⟩, ⟨7, 1, .ro, 0⟩, ⟨6, 1, .ro, 0⟩, ⟨0, 2, .ro, 0⟩] },
  { name := "WST.FIRED_SEC_LO", base := 0x0070102C, dims := [(64, 64)], group := 255, fields := [⟨0, 32, .ro, 0⟩] },
  { name := "WST.FIRED_NS", base := 0x00701030, dims := [(64, 64)], group := 255, fields := [⟨0, 30, .ro, 0⟩] },
  { name := "WST.FIRED_FRAC", base := 0x00701034, dims := [(64, 64)], group := 255, fields := [⟨0, 16, .ro, 0⟩] },
  { name := "WST.SKIP_CNT", base := 0x00701038, dims := [(64, 64)], group := 255, fields := [⟨0, 32, .ro, 0⟩] },
  { name := "WST.DROP_ISL", base := 0x0070103C, dims := [(64, 64)], group := 255, fields := [⟨0, 6, .ro, 0⟩] },
  { name := "WST.RIP_CONFLICT", base := 0x00702004, dims := [], group := 255, fields := [⟨0, 32, .ro, 0⟩] },
  { name := "WST.FL_CFG", base := 0x00702000, dims := [], group := 255, fields := [⟨1, 1, .rw, 0⟩, ⟨0, 1, .rw, 0⟩] },
  { name := "WST.FL_TX", base := 0x00702100, dims := [(2, 0x00000100), (16, 16)], group := 255, fields := [⟨0, 32, .ro, 0⟩] },
  { name := "WST.FL_RX", base := 0x00702104, dims := [(2, 0x00000100), (16, 16)], group := 255, fields := [⟨0, 32, .ro, 0⟩] },
  { name := "WST.FL_FLAGS", base := 0x00702108, dims := [(2, 0x00000100), (16, 16)], group := 255, fields := [⟨1, 1, .ro, 0⟩, ⟨0, 1, .ro, 0⟩] },
  { name := "WST.FL_SLIP_CNT", base := 0x0070210C, dims := [(2, 0x00000100), (16, 16)], group := 255, fields := [⟨0, 32, .ro, 0⟩] },
  { name := "WST.EVT_STAT", base := 0x007000F0, dims := [], group := 255, fields := [⟨0, 14, .w1c, 0⟩] },
  { name := "WST.EVT_MASK", base := 0x007000F4, dims := [], group := 255, fields := [⟨0, 14, .rw, 16383⟩] },
  { name := "WST.EVT_STICKY", base := 0x007000F8, dims := [], group := 255, fields := [⟨0, 14, .rw, 16383⟩] }]

/-- The registers of WST. -/
def RegMap.WST : List RegRow := RegMap.WST0 ++ RegMap.WST1

/-- The registers of SEC. -/
def RegMap.SEC : List RegRow := [
  { name := "SEC.KS_CMD", base := 0x00800000, dims := [], group := 255, fields := [⟨28, 4, .wo, 0⟩, ⟨0, 6, .wo, 0⟩] },
  { name := "SEC.KS_STAT", base := 0x00800004, dims := [], group := 255, fields := [⟨31, 1, .ro, 0⟩, ⟨30, 1, .ro, 0⟩, ⟨0, 4, .ro, 0⟩] },
  { name := "SEC.KS_PROV_DATA", base := 0x00800020, dims := [(8, 4)], group := 255, fields := [⟨0, 32, .wo, 0⟩] },
  { name := "SEC.KS_SLOT", base := 0x00800100, dims := [(64, 8)], group := 255, fields := [⟨31, 1, .ro, 0⟩, ⟨30, 1, .ro, 0⟩, ⟨29, 1, .ro, 0⟩, ⟨28, 1, .ro, 0⟩, ⟨24, 2, .ro, 0⟩, ⟨20, 2, .ro, 0⟩, ⟨0, 8, .ro, 0⟩] },
  { name := "SEC.KS_LABEL", base := 0x00800104, dims := [(64, 8)], group := 255, fields := [⟨0, 32, .ro, 0⟩] },
  { name := "SEC.SVC_STAT", base := 0x00800400, dims := [], group := 255, fields := [⟨24, 3, .ro, 0⟩, ⟨0, 8, .ro, 0⟩] },
  { name := "SEC.RING_BASE", base := 0x00800410, dims := [(4, 16)], group := 255, fields := [⟨5, 27, .rw, 0⟩] },
  { name := "SEC.RING_CFG", base := 0x00800414, dims := [(4, 16)], group := 255, fields := [⟨0, 4, .rw, 4⟩] },
  { name := "SEC.RING_TAIL", base := 0x00800418, dims := [(4, 16)], group := 255, fields := [⟨0, 10, .rw, 0⟩] },
  { name := "SEC.RING_HEAD", base := 0x0080041C, dims := [(4, 16)], group := 255, fields := [⟨0, 10, .ro, 0⟩] },
  { name := "SEC.JOBS_DONE", base := 0x00800450, dims := [], group := 255, fields := [⟨0, 32, .ro, 0⟩] },
  { name := "SEC.JOBS_ERR", base := 0x00800454, dims := [], group := 255, fields := [⟨0, 32, .ro, 0⟩] },
  { name := "SEC.EVT_STAT", base := 0x008000F0, dims := [], group := 255, fields := [⟨0, 6, .w1c, 0⟩] },
  { name := "SEC.EVT_MASK", base := 0x008000F4, dims := [], group := 255, fields := [⟨0, 6, .rw, 63⟩] },
  { name := "SEC.EVT_STICKY", base := 0x008000F8, dims := [], group := 255, fields := [⟨0, 6, .rw, 63⟩] }]

/-- The registers of MON. -/
def RegMap.MON : List RegRow := [
  { name := "MON.MON_CTRL", base := 0x00900000, dims := [], group := 255, fields := [⟨0, 1, .rw, 0⟩] },
  { name := "MON.SEQ_CFG", base := 0x00900004, dims := [], group := 255, fields := [⟨0, 5, .rw, 0⟩] },
  { name := "MON.MON_STAT", base := 0x00900008, dims := [], group := 255, fields := [⟨31, 1, .ro, 0⟩, ⟨0, 9, .ro, 0⟩] },
  { name := "MON.QUEUE_HEAD", base := 0x00900010, dims := [], group := 255, fields := [⟨27, 5, .ro, 0⟩, ⟨26, 1, .ro, 0⟩, ⟨25, 1, .ro, 0⟩, ⟨24, 1, .ro, 0⟩, ⟨0, 16, .ro, 0⟩] },
  { name := "MON.QUEUE_CTRL", base := 0x00900014, dims := [], group := 255, fields := [⟨16, 9, .rw, 128⟩, ⟨1, 1, .wo, 0⟩, ⟨0, 1, .wo, 0⟩] },
  { name := "MON.Q_DROP", base := 0x00900018, dims := [], group := 255, fields := [⟨0, 32, .ro, 0⟩] },
  { name := "MON.OVR_CNT", base := 0x0090001C, dims := [], group := 255, fields := [⟨0, 32, .ro, 0⟩] },
  { name := "MON.LIM_ACTIVE", base := 0x00900020, dims := [], group := 255, fields := [⟨0, 32, .ro, 0⟩] },
  { name := "MON.FE_OWN", base := 0x00900024, dims := [], group := 255, fields := [⟨0, 1, .rw, 0⟩] },
  { name := "MON.FE_REFUSED_CNT", base := 0x00900028, dims := [], group := 255, fields := [⟨0, 32, .ro, 0⟩] },
  { name := "MON.SEQ", base := 0x00900040, dims := [(32, 4)], group := 255, fields := [⟨0, 5, .rw, 0⟩] },
  { name := "MON.CH_CFG", base := 0x00900100, dims := [(32, 32)], group := 255, fields := [⟨31, 1, .rw, 1⟩, ⟨30, 1, .rw, 0⟩, ⟨16, 4, .rw, 0⟩, ⟨8, 4, .rw, 0⟩] },
  { name := "MON.FILT_CFG", base := 0x00900104, dims := [(32, 32)], group := 255, fields := [⟨28, 3, .rw, 1⟩, ⟨16, 10, .rw, 0⟩, ⟨0, 10, .rw, 0⟩] },
  { name := "MON.FILT_VAL", base := 0x00900108, dims := [(32, 32)], group := 255, fields := [⟨31, 1, .rol, 0⟩, ⟨30, 1, .rol, 0⟩, ⟨29, 1, .rol, 0⟩, ⟨0, 16, .rol, 0⟩] },
  { name := "MON.FILT_CNT", base := 0x0090010C, dims := [(32, 32)], group := 255, fields := [⟨0, 32, .ro, 0⟩] },
  { name := "MON.LIM_THR", base := 0x00900110, dims := [(32, 32)], group := 255, fields := [⟨16, 16, .rw, 65535⟩, ⟨0, 16, .rw, 0⟩] },
  { name := "MON.LIM_CFG", base := 0x00900114, dims := [(32, 32)], group := 255, fields := [⟨16, 3, .rw, 0⟩, ⟨8, 8, .rw, 0⟩, ⟨0, 4, .rw, 1⟩] },
  { name := "MON.SPI_CFG", base := 0x00901000, dims := [(2, 0x00000100)], group := 255, fields := [⟨24, 2, .rw, 0⟩, ⟨16, 8, .rw, 19⟩, ⟨8, 1, .rw, 0⟩] },
  { name := "MON.SPI_CMD", base := 0x00901004, dims := [(2, 0x00000100)], group := 255, fields := [⟨31, 1, .wo, 0⟩, ⟨16, 6, .rw, 1⟩, ⟨12, 1, .rw, 0⟩, ⟨8, 2, .rw, 0⟩] },
  { name := "MON.SPI_STAT", base := 0x00901008, dims := [(2, 0x00000100)], group := 255, fields := [⟨31, 1, .ro, 0⟩] },
  { name := "MON.SPI_TXDATA", base := 0x00901040, dims := [(2, 0x00000100), (8, 4)], group := 255, fields := [⟨0, 32, .rw, 0⟩] },
  { name := "MON.SPI_RXDATA", base := 0x00901060, dims := [(2, 0x00000100), (8, 4)], group := 255, fields := [⟨0, 32, .ro, 0⟩] },
  { name := "MON.I2C_CFG", base := 0x00901200, dims := [], group := 255, fields := [⟨8, 8, .rw, 100⟩, ⟨0, 2, .rw, 1⟩] },
  { name := "MON.I2C_CMD", base := 0x00901204, dims := [], group := 255, fields := [⟨31, 1, .wo, 0⟩, ⟨16, 7, .rw, 0⟩, ⟨8, 6, .rw, 0⟩, ⟨0, 6, .rw, 0⟩] },
  { name := "MON.I2C_STAT", base := 0x00901208, dims := [], group := 255, fields := [⟨31, 1, .ro, 0⟩, ⟨8, 8, .ro, 0⟩, ⟨0, 4, .ro, 0⟩] },
  { name := "MON.I2C_DATA", base := 0x00901240, dims := [(8, 4)], group := 255, fields := [⟨0, 32, .rw, 0⟩] },
  { name := "MON.EVT_STAT", base := 0x009000F0, dims := [], group := 255, fields := [⟨0, 10, .w1c, 0⟩] },
  { name := "MON.EVT_MASK", base := 0x009000F4, dims := [], group := 255, fields := [⟨0, 10, .rw, 1023⟩] },
  { name := "MON.EVT_STICKY", base := 0x009000F8, dims := [], group := 255, fields := [⟨0, 10, .rw, 1023⟩] }]

/-- The registers of TST. -/
def RegMap.TST : List RegRow := [
  { name := "TST.BIST_CFG", base := 0x00A00000, dims := [], group := 255, fields := [⟨31, 1, .rw, 1⟩, ⟨30, 1, .rw, 0⟩, ⟨0, 16, .rw, 600⟩] },
  { name := "TST.PU_CTRL", base := 0x00A00004, dims := [], group := 255, fields := [⟨0, 1, .wo, 0⟩] },
  { name := "TST.PU_STAT", base := 0x00A00008, dims := [], group := 255, fields := [⟨31, 1, .ro, 0⟩, ⟨30, 1, .ro, 0⟩, ⟨16, 8, .ro, 0⟩, ⟨8, 8, .ro, 0⟩, ⟨0, 8, .ro, 0⟩] },
  { name := "TST.STEP_CFG", base := 0x00A0000C, dims := [], group := 255, fields := [⟨31, 1, .rw, 1⟩, ⟨0, 16, .rw, 100⟩] },
  { name := "TST.STEP_STAT", base := 0x00A00010, dims := [], group := 255, fields := [⟨24, 5, .ro, 0⟩, ⟨16, 5, .ro, 0⟩, ⟨1, 1, .ro, 0⟩, ⟨0, 1, .ro, 0⟩] },
  { name := "TST.MBIST_STAT", base := 0x00A00020, dims := [], group := 255, fields := [⟨31, 1, .ro, 0⟩, ⟨30, 1, .ro, 0⟩, ⟨16, 4, .ro, 0⟩, ⟨0, 16, .ro, 0⟩] },
  { name := "TST.CAL_STAT", base := 0x00A00030, dims := [], group := 255, fields := [⟨31, 1, .ro, 0⟩, ⟨30, 1, .ro, 0⟩, ⟨28, 2, .ro, 0⟩, ⟨27, 1, .ro, 0⟩, ⟨8, 8, .ro, 0⟩, ⟨0, 8, .ro, 0⟩] },
  { name := "TST.CAL_CTRL", base := 0x00A00034, dims := [], group := 255, fields := [⟨0, 1, .wo, 0⟩] },
  { name := "TST.CAL_SEQ", base := 0x00A00038, dims := [], group := 255, fields := [⟨0, 32, .ro, 0⟩] },
  { name := "TST.SD_FAIL", base := 0x00A0003C, dims := [], group := 255, fields := [⟨0, 16, .ro, 0⟩] },
  { name := "TST.ADC_SNDR", base := 0x00A00300, dims := [(2, 16), (4, 4)], group := 255, fields := [⟨0, 16, .ro, 0⟩] },
  { name := "TST.DAC_EYE", base := 0x00A00320, dims := [(2, 16), (4, 4)], group := 255, fields := [⟨0, 16, .ro, 0⟩] },
  { name := "TST.SD_EYE", base := 0x00A00340, dims := [(16, 4)], group := 255, fields := [⟨16, 16, .ro, 0⟩, ⟨0, 16, .ro, 0⟩] },
  { name := "TST.GRP_STAT", base := 0x00A00100, dims := [(2, 192), (3, 64)], group := 255, fields := [⟨24, 5, .ro, 31⟩, ⟨16, 2, .ro, 0⟩, ⟨8, 5, .ro, 0⟩, ⟨0, 1, .ro, 0⟩] },
  { name := "TST.SIG_LAST_LO", base := 0x00A00104, dims := [(2, 192), (3, 64)], group := 255, fields := [⟨0, 32, .ro, 0⟩] },
  { name := "TST.SIG_LAST_HI", base := 0x00A00108, dims := [(2, 192), (3, 64)], group := 255, fields := [⟨0, 32, .ro, 0⟩] },
  { name := "TST.SIG_EXP_LO", base := 0x00A0010C, dims := [(2, 192), (3, 64)], group := 255, fields := [⟨0, 32, .ro, 0⟩] },
  { name := "TST.SIG_EXP_HI", base := 0x00A00110, dims := [(2, 192), (3, 64)], group := 255, fields := [⟨0, 32, .ro, 0⟩] },
  { name := "TST.PAT_LAST", base := 0x00A00114, dims := [(2, 192), (3, 64)], group := 255, fields := [⟨0, 15, .ro, 0⟩] },
  { name := "TST.STEP_SKIP", base := 0x00A00118, dims := [(2, 192), (3, 64)], group := 255, fields := [⟨0, 32, .ro, 0⟩] },
  { name := "TST.RETEST", base := 0x00A00120, dims := [(2, 192), (3, 64)], group := 255, fields := [⟨31, 1, .wo, 0⟩, ⟨30, 1, .ro, 0⟩, ⟨16, 2, .ro, 0⟩, ⟨0, 5, .rw, 0⟩] },
  { name := "TST.PASS_CNT", base := 0x00A00124, dims := [(2, 192), (3, 64)], group := 255, fields := [⟨0, 32, .ro, 0⟩] },
  { name := "TST.FAIL_CNT", base := 0x00A00128, dims := [(2, 192), (3, 64)], group := 255, fields := [⟨0, 32, .ro, 0⟩] },
  { name := "TST.INC_CNT", base := 0x00A0012C, dims := [(2, 192), (3, 64)], group := 255, fields := [⟨0, 32, .ro, 0⟩] },
  { name := "TST.EVT_STAT", base := 0x00A000F0, dims := [], group := 255, fields := [⟨0, 11, .w1c, 0⟩] },
  { name := "TST.EVT_MASK", base := 0x00A000F4, dims := [], group := 255, fields := [⟨0, 11, .rw, 2047⟩] },
  { name := "TST.EVT_STICKY", base := 0x00A000F8, dims := [], group := 255, fields := [⟨0, 11, .rw, 2047⟩] }]

/-- The registers of PCIE. -/
def RegMap.PCIE : List RegRow := [
  { name := "PCIE.PCIE_ID", base := 0x00B00000, dims := [], group := 255, fields := [⟨16, 16, .ro, 12822⟩, ⟨0, 16, .ro, 0⟩] },
  { name := "PCIE.PCIE_CFG", base := 0x00B00004, dims := [], group := 255, fields := [⟨0, 1, .rw, 1⟩] },
  { name := "PCIE.PCIE_STAT", base := 0x00B00008, dims := [], group := 255, fields := [⟨31, 1, .ro, 0⟩, ⟨16, 3, .ro, 0⟩, ⟨8, 3, .ro, 0⟩, ⟨0, 2, .ro, 0⟩] },
  { name := "PCIE.LINK_DOWN_CNT", base := 0x00B0000C, dims := [], group := 255, fields := [⟨0, 32, .ro, 0⟩] },
  { name := "PCIE.HERR_INFO", base := 0x00B00010, dims := [], group := 255, fields := [⟨31, 1, .w1c, 0⟩, ⟨24, 4, .ro, 0⟩, ⟨16, 1, .ro, 0⟩, ⟨0, 1, .ro, 0⟩] },
  { name := "PCIE.HERR_ADDR", base := 0x00B00014, dims := [], group := 255, fields := [⟨0, 32, .ro, 0⟩] },
  { name := "PCIE.HERR_CNT", base := 0x00B00018, dims := [], group := 255, fields := [⟨0, 32, .ro, 0⟩] },
  { name := "PCIE.SUBSYS", base := 0x00B00020, dims := [], group := 255, fields := [⟨16, 16, .ro, 0⟩, ⟨0, 16, .ro, 0⟩] },
  { name := "PCIE.MSIX_TABLE", base := 0x00B08000, dims := [(64, 16), (4, 4)], group := 255, fields := [⟨0, 32, .rw, 0⟩] },
  { name := "PCIE.MSIX_PBA", base := 0x00B09000, dims := [(2, 4)], group := 255, fields := [⟨0, 32, .ro, 0⟩] },
  { name := "PCIE.EVT_STAT", base := 0x00B000F0, dims := [], group := 255, fields := [⟨0, 5, .w1c, 0⟩] },
  { name := "PCIE.EVT_MASK", base := 0x00B000F4, dims := [], group := 255, fields := [⟨0, 5, .rw, 31⟩] },
  { name := "PCIE.EVT_STICKY", base := 0x00B000F8, dims := [], group := 255, fields := [⟨0, 5, .rw, 31⟩] }]

end Sys2Proof.Machine
end

