-- ==== Sys2Proof/Machine/RegMap.lean ====
section
/-! DEFINITION. The register map as a whole: which row of the tables an address belongs to, its reset value, its commit
group and what a plain write makes of it (R4, R5, R429, R430). -/

namespace Sys2Proof.Machine

/-- Whether an offset from a row's first register is one of the row's registers. -/
def RegRow.hits : Nat → List (Nat × Nat) → Bool
  | o, [] => o == 0
  | o, (n, st) :: ds => decide (o / st < n) && RegRow.hits (o % st) ds

/-- Whether an address is one of the row's registers. -/
def RegRow.has (r : RegRow) (a : Nat) : Bool := decide (r.base ≤ a) && RegRow.hits (a - r.base) r.dims

/-- Whether an address lies in the region of a carrier's blocks (LXA or LXB, R429). -/
def RegMap.inCarrier (a : Nat) : Bool := decide (0x01000000 ≤ a ∧ a < 0x02000000)

/-- An address of LXB told as the same register of LXA; any other address as it stands. -/
def RegMap.toA (a : Nat) : Nat := if 0x01800000 ≤ a ∧ a < 0x02000000 then a - 0x00800000 else a

/-- The rows of the block that an address of LXA or of another block lies in (the ranges of R429). -/
def RegMap.block (a : Nat) : List RegRow :=
  match a / 0x00100000 with
  | 0x00 => RegMap.TOP
  | 0x01 => RegMap.CLK
  | 0x02 => RegMap.BOOT
  | 0x03 => RegMap.POOL
  | 0x04 => RegMap.MGMT
  | 0x05 => RegMap.EVC
  | 0x06 => RegMap.TIM
  | 0x07 => RegMap.WST
  | 0x08 => RegMap.SEC
  | 0x09 => RegMap.MON
  | 0x0A => RegMap.TST
  | 0x0B => RegMap.PCIE
  | 0x10 => RegMap.TXD
  | 0x11 => RegMap.RXD
  | 0x12 => RegMap.ACQ
  | 0x13 => RegMap.FEC
  | 0x14 => RegMap.FRM
  | 0x15 => RegMap.PMON
  | 0x16 => RegMap.SUBC
  | 0x17 => RegMap.LENC
  | 0x20 => RegMap.LANE
  | 0x21 => RegMap.CLI
  | 0x22 => RegMap.CLI ++ RegMap.PORT
  | 0x23 => RegMap.XC
  | 0x24 => RegMap.PROT
  | _ => []

/-- The row of an address, where a chapter assigns the address one. -/
def RegMap.row? (a : Nat) : Option RegRow := (RegMap.block (RegMap.toA a)).find? fun r => r.has (RegMap.toA a)

/-- The commit group of an address's RWS fields (R541): the row's, and for LXB the group of carrier B. -/
def RegMap.group (a : Nat) : Option Nat :=
  match RegMap.row? a with
  | none => none
  | some r =>
    if r.group = 255 then none
    else if RegMap.inCarrier a && decide (0x01800000 ≤ a) then some (r.group + 1) else some r.group

/-- The reset word that a row's fields make up. -/
def RegRow.resetWord (r : RegRow) : Word :=
  r.fields.foldl (fun w f => w ||| (BitVec.ofNat 32 (f.reset % 2 ^ f.width) <<< f.lo)) 0

/-- The reset value of a register (R4): where the tables state a formula in place of a number, the formula. -/
def RegMap.reset (a : Nat) : Word :=
  let b := RegMap.toA a
  match RegMap.row? a with
  | none => 0
  | some r =>
    if r.base = 0x01000400 then
      -- PD_LUT: (p − 16) × 32 in 11 bits (R68)
      BitVec.ofNat 32 (((b - 0x01000400) % 0x100 / 4 * 32 + 2048 - 512) % 2048)
    else if r.base = 0x00600100 then
      -- REF_CFG.SRC: r − 2 for slots 2 to 5, else 0 (R276)
      let k := (b - 0x00600100) / 0x20
      if 2 ≤ k ∧ k ≤ 5 then BitVec.ofNat 32 ((k - 2) * 0x100) else 0
    else if r.base = 0x0040000C then
      -- WDT_CFG.PEER: k + 1 mod 4 (R395)
      r.resetWord ||| BitVec.ofNat 32 (((b - 0x0040000C) / 0x40 + 1) % 4 * 0x01000000)
    else if r.base = 0x00300100 then
      -- PARK_t: 7 for t = 0 to 3, else 0 (R419)
      if b < 0x00300110 then 7 else 0
    else if r.base = 0x00000100 then
      -- VEC_MAP_s: s + 1 (R441)
      BitVec.ofNat 32 (((b - 0x100) / 4 + 1) % 64)
    else if r.base = 0x00900040 then
      -- SEQ_k: k (R488)
      BitVec.ofNat 32 ((b - 0x00900040) / 4)
    else r.resetWord

/-- The bits of a word that a row's fields of some access type cover. -/
def RegRow.mask (r : RegRow) (p : Acc → Bool) : Word :=
  r.fields.foldl (fun w f => if p f.acc then w ||| (BitVec.ofNat 32 (2 ^ f.width - 1) <<< f.lo) else w) 0

/-- The bits of an address that are RWS. -/
def RegMap.rwsMask (a : Nat) : Word :=
  match RegMap.row? a with
  | none => 0
  | some r => r.mask fun t => t == .rws

/-- What a plain write makes of a word (R4): RW and RWS bits take the written value (an RWS register's word is its shadow), a
1 clears a W1C bit and sets a W1S bit, every other bit keeps its value; reserved bits read 0 (R5). -/
def RegRow.write (r : RegRow) (old w : Word) : Word :=
  let set := r.mask fun t => t == .rw || t == .rws
  let w1c := r.mask fun t => t == .w1c
  let w1s := r.mask fun t => t == .w1s
  ((old &&& ~~~set) ||| (w &&& set)) &&& ~~~(w &&& w1c) ||| (w &&& w1s)

end Sys2Proof.Machine
end

