-- ==== Sys2Proof/Machine/StateParts.lean ====
section
/-! DEFINITION. The state of each block that no register of the spec's tables shows: engines, timers, runs, latches, queues and
copies in effect. The registers themselves are in State's register file. Reset values stand beside each field. -/

namespace Sys2Proof.Machine

/-- What fuses and one-time-programmable fields hold (R3, R165, R358, R379, R422, R492, R493): the spec gives no values; the model
takes the grade of the spec's example, 1 = EX, and 0 for the rest (DESIGN CHOICE, log entry 3). -/
structure Fuse where
  grade : Nat := 1
  vendor : Nat := 0
  ssid : Nat := 0
  ssvid : Nat := 0
  serial : Nat := 0
  /-- The OTP key: none = blank; the field is killed; the AUTH_ONLY fuse. -/
  otpKey : Option (List Nat) := none
  otpKilled : Bool := false
  authOnly : Bool := false
  /-- The expected signatures of R493, by group type: engines, slices, AES lanes. -/
  sigExp : List Nat := []
deriving DecidableEq, Repr

/-- A state for each carrier. -/
structure Two (α : Type) where
  a : α
  b : α
deriving DecidableEq, Repr

/-- The chip-level state of TOP and the PCIe endpoint. -/
structure TopSt where
  /-- Sources with a single occurrence in level behaviour that starts a message (R9, R433). -/
  msiDue : Nat := 0
  /-- The fault-pending flag of R436. -/
  faultPend : Bool := false
  /-- Active words of commit groups 1, 4 and 8 that take effect once the protection switches in progress have executed, and the
  groups they came with, as a mask (R38, R254, R335). -/
  deferred : List (Nat × Word) := []
  deferGroups : Nat := 0
  /-- The HI shadows of R7 and R8, by 8 × the base of the block or sub-block of R430, plus the master. -/
  hi : List (Nat × Word) := []
  /-- The JTAG port runs internal scan (1) or memory BIST (2) (R531). -/
  jtag : Nat := 0
deriving DecidableEq, Repr

/-- Clocks, resets and power beside their registers (R24, R457 to R471, R514). The islands 0 to 7 are DPA, DPB, CLI, SEC, PCI, MON, MGT, WST. -/
structure ClkSt where
  /-- PORESET_N is low; VDD_AON is too low. -/
  poreset : Bool := false
  aonLow : Bool := false
  /-- Islands held in reset, as a mask: all of them until the boot sequence releases them (R371). -/
  held : Nat := 0xFF
  /-- The roots that a root change in progress moves to (management, timing). -/
  moving : Option (Nat × Nat) := none
  /-- Islands whose ungating is in progress, as a mask. -/
  ungate : Nat := 0
  /-- Data transfers that wait at a bridge for a receiving island, by 2 × bridge + direction (R24). -/
  waits : List (Nat × Nat) := []
  /-- The monitor tripped while ROSC was not ready: the root change waits for ROSC_READY, with the islands it gated, as a mask (R462). -/
  failWait : Bool := false
  failGated : Nat := 0
  /-- Frequency windows still to learn, the sums of the XTAL and SDREFCLK counts so far, and the sums learned over 16 windows (R458). -/
  learnLeft : Nat := 0
  learnX : Nat := 0
  learnS : Nat := 0
  ratioX : Nat := 0
  ratioS : Nat := 0
  /-- A deep sleep has been accepted and waits for the transmitters; the device is in it. -/
  sleepDue : Bool := false
  asleep : Bool := false
deriving DecidableEq, Repr

/-- A carrier's transmitter beside its registers (R59 to R62, R39, R46, R121, R127). -/
structure TxdSt where
  /-- RAMP_CFG.MODE and TIME as the ramp in progress took them at its start (R59). -/
  rampMode : Nat := 1
  rampTime : Nat := 5000
  /-- Attenuation, in 0.1 dB, and data-plane clock at which the ramp in progress started. -/
  rampFrom : Nat := 300
  rampAt : Nat := 0
  /-- The converter PLL is out of lock since the clock `lolAt` (R69). -/
  pllLol : Bool := false
  lolAt : Nat := 0
  /-- The carrier has joined the shared frame generator, or is to join it or to return to its own (R39). -/
  joined : Bool := false
  joinPend : Bool := false
  leavePend : Bool := false
  /-- Number of the training period since the last restart, and of the staircase block since the chain restart (R121, R127). -/
  period : Nat := 0
  chain : Nat := 0
  /-- The data-plane clock of the frame generator's last restart: the carrier's frame phase (R37, R38). -/
  phase : Nat := 0
deriving DecidableEq, Repr

/-- The parameters that wait for the next entry into DETECT: the copies of ACQ_CFG and WARM_CFG in effect (R113). -/
structure AcqCfg where
  sdThr : Nat := 96
  losThr : Nat := 64
  sdWins : Nat := 32
  losWins : Nat := 6
  lolTime : Nat := 50
  warmHold : Nat := 100
deriving DecidableEq, Repr

/-- The captured warm state (R108): filter value, bypass of the non-linear steps, butterfly taps (a name for the set of taps),
carrier and symbol-clock frequency offsets. -/
structure WarmRec where
  cd : Int
  bypass : Bool
  taps : Nat
  fofs : Int
  sofs : Int
deriving DecidableEq, Repr

/-- A dispersion scan in progress (R106): its window and step, the candidates still to test, the best so far with its metric,
whether the fine pass runs, and whether it has a scan slot (at most 4 subcarriers scan at once, R149). -/
structure Scan where
  lo : Int := 0
  hi : Int := 0
  step : Nat := 1
  fine : Bool := false
  running : Bool := false
  todo : List Int := []
  best : Option (Int × Nat) := none
deriving DecidableEq, Repr

/-- One receiver, a carrier's or a subcarrier's: its acquisition state machine (R104 to R110), its lock flags (R88), its codeword
and block alignment and its staircase window (R128 to R132). -/
structure RcvSt where
  state : Nat := 0
  warm : Bool := false
  warmValid : Bool := false
  attempts : Nat := 0
  lastFail : Nat := 0
  los : Bool := true
  present : Nat := 0
  absent : Nat := 0
  firstPresent : Nat := 0
  cfg : AcqCfg := {}
  /-- The acquisition in progress began at the clock `beganAt`; ACQ_FAIL was raised for it (R110, R111). -/
  begun : Bool := false
  beganAt : Nat := 0
  failRaised : Bool := false
  cand : Option Nat := none
  confirms : Nat := 0
  scan : Scan := {}
  warmRec : Option WarmRec := none
  /-- The dispersion filter value, the name of the tap set and the frequency offsets in use. -/
  cd : Int := 0
  taps : Nat := 0
  fofs : Int := 0
  sofs : Int := 0
  bfly : Bool := false
  tr : Bool := false
  cfr : Bool := false
  cpr : Bool := false
  /-- CPR_LOCK was 1 throughout the quality interval in progress; it was 1 at some time in it (R95). -/
  cprAll : Bool := false
  cprAny : Bool := false
  cwLock : Bool := false
  cwPhase : Nat := 0
  failRun : Nat := 0
  /-- Staircase blocks entered since in-frame, the record of the last 64 counted blocks (newest first; true = uncorrectable). -/
  blocks : Nat := 0
  last64 : List Bool := []
  ub : Bool := false
  /-- A subcarrier marked asleep was acquired: its defects are reported normally from then on (R152). -/
  woke : Bool := false
  /-- Iterations and codewords of the quality interval in progress, for AVG_ITER (R139, R140). -/
  iters : Nat := 0
  cws : Nat := 0
deriving DecidableEq, Repr

/-- A codeword in the decoder stage, in dispatch order (R129, R133, R138): its receiver, its slice, the clock of its
dispatch, the result of the slice once it has stopped (iterations, zero syndrome, bits changed), whether the reserve decodes it
again after a fault, and whether it is lost (its slice failed while no reserve was ready, R136). -/
structure Codeword where
  rcv : Rcv
  slice : Nat
  at_ : Nat
  result : Option (Nat × Bool × Nat) := none
  redecode : Bool := false
  lost : Bool := false
deriving DecidableEq, Repr

/-- A carrier's decoder stage: codewords in flight, oldest first, and the slice dispatched last. -/
structure FecSt where
  flight : List Codeword := []
  lastSlice : Nat := 13
deriving DecidableEq, Repr

/-- A sleeping or waking upstream subcarrier of a leaf (R151, R153): it ramps down or is down, or it ramps up or is up, from an
attenuation at a clock and with the profile the ramp started with; its frame generator waits for the next training period. -/
structure ScTx where
  down : Bool := false
  from_ : Nat := 0
  at_ : Nat := 0
  mode : Nat := 1
  time : Nat := 0
  restart : Bool := false
deriving DecidableEq, Repr

/-- The burst a hub's inlet receiver is on (R158, R165): level, offset, time of its first preamble symbol, and from its header the
type, home, length and serial number. -/
structure Burst where
  level : Int := 0
  fofs : Int := 0
  sec : Nat := 0
  ns : Nat := 0
  type : Nat := 0
  home : Nat := 0
  length : Nat := 0
  serial : Nat := 0
deriving DecidableEq, Repr

/-- The states of a hub's inlet receiver (R158). -/
inductive InletRx where
  | search
  | header (b : Burst)
  | payload (b : Burst)
deriving DecidableEq, Repr

/-- A carrier's subcarrier block beside its registers (R146, R150, R151, R157, R158). -/
structure SubcSt where
  /-- HOME_SC in effect. -/
  home : Nat := 0
  /-- The frequency pre-compensation F in MHz. -/
  fcomp : Int := 0
  tx : List (Nat × ScTx) := []
  /-- The backoff delay drawn, in slots of 10 µs; an ACK or a loss of the home subcarrier that waits for the end of a burst. -/
  delay : Nat := 0
  ackPend : Bool := false
  homePend : Bool := false
  inlet : InletRx := .search
  /-- Committed masks wait for the next training period boundary (R146). -/
  enPend : Bool := false
deriving DecidableEq, Repr

/-- A Tamust message before stuffing and CRC (R287). -/
structure TtMsg where
  type : Nat
  bcast : Bool
  hops : Nat
  dst : Nat
  src : Nat
  seq : Nat
  payload : List Nat
deriving DecidableEq, Repr

/-- A Tamust port (R285 to R290): the messages that wait by class (APS, TIME, ring), the one being sent with its class and the bytes that
are left of it, and the stamps of the last 256 TV frames in each direction (FSN and time in units of 2^-16 ps). -/
structure TtPort where
  aps : List TtMsg := []
  time : List TtMsg := []
  ring : List TtMsg := []
  cur : Option (Nat × TtMsg) := none
  rest : List Nat := []
  txStamps : List (Nat × Nat) := []
  rxStamps : List (Nat × Nat) := []
  lastRx : Option Nat := none
deriving DecidableEq, Repr

/-- A ripple slot that has fired and whose actions are due 8 clocks later (R296), with its settings and the shadows of its groups as
they stood when it fired (R440). -/
structure DueRipple where
  slot : Nat
  sec : Nat
  t16 : Nat
  act : Nat
  groups : Nat
  gpio : Nat
  words : List (Nat × Word)
deriving DecidableEq, Repr

/-- A domain ripple that this device submitted (R302): its ID, local slot, instant in 2^-16 ns, and the answers counted by status. -/
structure DomOrigin where
  id : Nat
  slot : Option Nat
  at_ : Nat
  armed : Nat := 0
  late : Nat := 0
  noSlot : Nat := 0
  cancelled : Nat := 0
deriving DecidableEq, Repr

/-- The fixed-latency state of a trail: what each half is to be held at while it moves after a change (R304, R305). -/
structure FlSt where
  txMoved : Bool := false
  rxMoved : Bool := false
deriving DecidableEq, Repr

/-- Wellspring time (R279) in seconds and 2^-16 ns within the second, standing still until it runs; the slew in progress in 2^-16 ns;
the phase sources, filters and runs of R280 to R293; ripples and domain ripples (R296 to R303). -/
structure WstSt where
  sec : Nat := 0
  t16 : Nat := 0
  running : Bool := false
  slew : Int := 0
  slewAcc : Nat := 0
  /-- Bit i = PPSIN i has an edge less than 2 s old; its source is valid (R280). -/
  ppsSeen : Nat := 0
  ppsValid : Nat := 0
  ttValid : Bool := false
  syncRun : Nat := 0
  blocked : Nat := 0
  /-- Exchanges accepted towards a correction and the sum of their 2 θ, in 2^-16 ps (R293). -/
  ttN : Nat := 0
  ttSum : Int := 0
  pdLoaded : Bool := false
  jumps : Nat := 0
  peerGm : Nat := 0x3FFF
  peerHops : Nat := 0
  /-- Armed slots that a step of time has passed, as a mask (R299); slots fired whose actions are due. -/
  late : Nat := 0
  due : List DueRipple := []
  ports : List (Nat × TtPort) := []
  /-- The sequence numbers of the device's own messages, by type (R287). -/
  seqs : List (Nat × Nat) := []
  /-- Broadcasts forwarded (source, sequence number, clock) (R301); domain ripples submitted here, and those received (origin, ID, slot). -/
  casts : List (Nat × Nat × Nat) := []
  origin : List DomOrigin := []
  dom : List (Nat × Nat × Option Nat) := []
  /-- The node ID that the last HELLO received on a port named (R288). -/
  peers : List (Nat × Nat) := []
  /-- Messages handed to firmware through the receive ring (R288), oldest first. -/
  ring : List (Nat × TtMsg) := []
  /-- The clock at which PPSOUT rose last (R284). -/
  ppsRise : Option Nat := none
  fl : List (Nat × FlSt) := []
deriving DecidableEq, Repr

/-- A condition in Wellspring seconds: whether it holds, since which second, and the spans of seconds in which it held before
and that no second has been closed for. -/
structure Cond where
  on : Bool := false
  from_ : Nat := 0
  past : List (Nat × Nat) := []
deriving DecidableEq, Repr

/-- A second of performance monitoring that is open, or closed and waits for commit (R196 to R208): its blocks and errored blocks of
both directions, what it was judged to hold, and the ends of bins that fall at its end (start of the next bin). -/
structure PmSec where
  sec : Nat := 0
  n : Nat := 0
  e : Nat := 0
  feN : Nat := 0
  feE : Nat := 0
  neDef : Bool := false
  feDef : Bool := false
  frozen : Bool := false
  late : Bool := false
  step : Bool := false
  /-- A step ended the second or the time before it: no run passes over it. -/
  brk : Bool := false
  end_ : Option Nat := none
  short : Bool := false
  ripple : Bool := false
  end15 : Option Nat := none
  end24 : Option Nat := none
deriving DecidableEq, Repr

/-- A trail's performance monitor beside its registers (R198 to R211). -/
structure PmSt where
  /-- The second with which monitoring started. -/
  started : Option Nat := none
  lastClosed : Option Nat := none
  open_ : List PmSec := []
  closed : List PmSec := []
  neDef : Cond := { on := true }
  feDef : Cond := {}
  frozen : Cond := {}
  /-- The bin in progress in time: its start and the length in force when it started. -/
  binStart : Nat := 0
  binLen : Nat := 900
  rippleEnds : List Nat := []
  /-- A step has fallen since the last closed second. -/
  stepped : Bool := false
  clearPend : Bool := false
  /-- Counts whose threshold was reached in the bin in progress, per kind of bin (R211). -/
  tcaN : Nat := 0
  tca15 : Nat := 0
  tca24 : Nat := 0
deriving DecidableEq, Repr

/-- A value on its way to acceptance: the candidate, how often in a row it came, and the multiframe it came in last. -/
structure Acc3 where
  val : Nat := 0
  run : Nat := 0
  mf : Nat := 0
deriving DecidableEq, Repr

/-- A detector that needs a number of frames in a row to change: its output, and the frames in a row that speak against it. -/
structure RunDet where
  on : Bool := false
  run : Nat := 0
deriving DecidableEq, Repr

/-- A delivered frame that is not judged yet (R197): FSN, second of its stamp, its own parity, its marks and its violations. -/
structure FrmRec where
  fsn : Nat
  sec : Nat
  parity : Nat
  bad : Bool := false
  viol : Nat := 0
deriving DecidableEq, Repr

/-- How a frame leaves the line encryptor: ENC = 0; sealed (R340); with ENC = 1 but without a key (R353); sealed with its tag inverted (R356). -/
inductive Sealing where
  | plain
  | sealed
  | keyless
  | voided
deriving DecidableEq, Repr

/-- The overhead of the frame a trail's generator started last (R171). -/
structure TxHdr where
  fsn : Nat
  tti : Nat
  bip : Nat
  bei : Nat
  bdi : Bool
  stat : Nat
  kp : Nat
  sealing : Sealing
  tv : Bool
  tamust : List Nat
  psiA : Nat
  psiB : Nat
  aps : Nat
  gcc0 : List Nat
  gcc12 : List Nat
deriving DecidableEq, Repr

/-- A trail's framer beside its registers (R172 to R191). -/
structure FrmSt where
  /-- Aligner: 0 SEARCH, 1 IN_FRAME, 2 OOF; candidate positions and the position in use, in stream bits; bad LAWs in a row. -/
  align : Nat := 0
  cands : List Nat := []
  pos : Nat := 0
  badLaw : Nat := 0
  /-- Delineation: bad headers in a row, the last good DCOUNT, the data byte of the next block at which a frame starts. -/
  badHdr : Nat := 0
  dcount : Nat := 13200
  phase : Nat := 0
  /-- The expected FSN e, the held frame, discards in a row, the FSN and stamp of the frame delivered last (R185, R197). -/
  expected : Option Nat := none
  held : Option RxFrame := none
  discards : Nat := 0
  last : Option (Nat × Nat × Nat) := none
  recent : List FrmRec := []
  ttiCur : List Nat := []
  ttiLast : List Nat := []
  ttiRun : Nat := 0
  ttiEver : Bool := false
  psi : List (Nat × Acc3) := []
  ptEver : Bool := false
  aps : List (Nat × Acc3) := []
  ais : RunDet := {}
  lck : RunDet := {}
  oci : RunDet := {}
  bdi : RunDet := {}
  lof : Bool := false
  lom : Bool := false
  deg : Bool := false
  degBad : Nat := 0
  degGood : Nat := 0
  degErr : List (Nat × Nat) := []
  outFrame : Cond := { on := true }
  auth : Bool := false
  authPass : Nat := 0
  authPlain : Nat := 0
  aAis : Bool := false
  /-- Transmit: the number of the next frame, the BEI accumulator, the parities of the last two frames, the last header. -/
  fsnNext : Nat := 0
  beiAcc : Nat := 0
  parities : List Nat := []
  hdr : Option TxHdr := none
deriving DecidableEq, Repr

/-- A connection's demapper beside its registers (R249, R250, R252): frames in a row with a good and with a bad control word, the last
good Cm and BOFS; the instant from which the committed receive settings take effect; EN cleared in effect by a step-down (R254). -/
structure DemSt where
  pend : Option (Nat × Nat) := none
  stepDown : Bool := false
  good : Nat := 0
  bad : Nat := 0
  cm : Nat := 0
  bofs : Nat := 0
deriving DecidableEq, Repr

/-- A redundant group: 9 engines, 14 slices or 17 AES lanes of a carrier (R25, R498). It is held with the fences of TST in the AON
island. -/
structure GrpSt where
  /-- Bit u = unit u is fenced. -/
  fenced : Nat := 0
  /-- The reserve, none while the group has none (R27). -/
  reserve : Option Nat := none
  /-- The unit in a BIST session, whether it is a retest, and the word of its status register captured before (R84, R492). -/
  session : Option Nat := none
  retesting : Bool := false
  captured : Nat := 0
  /-- The unit that passed its session and waits for its exchange (R495); units that a retest returned and that join service at
  the next exchange boundary (R498). -/
  passed : Option Nat := none
  joining : Nat := 0
  /-- The reserve that has taken over and not yet delivered (R83, R135, R356). -/
  takeover : Option Nat := none
  /-- A fault found no reserve ready: signal fail of the group (R84, R136), or every frame void (R356). -/
  sf : Bool := false
  /-- A step is due and deferred; a retest waits for the running session (R496, R498). -/
  stepDue : Bool := false
  retestDue : Option Nat := none
  /-- Power-up sweep (R497): units with a final result, and the INCOMPLETE sessions of the unit under test. -/
  swept : Nat := 0
  retries : Nat := 0
  /-- The group's share of the sweep has ended; no share runs after reset. -/
  sweepDone : Bool := true
deriving DecidableEq, Repr

/-- A copy of a frame in the deskew memory (R321, R323): the member's side is the list it stands in; its flag UNCORR, the control word
of the base entry, whether its tag failed. -/
structure DeskRec where
  fsn : Nat
  uncorr : Bool
  ctl : List Nat
  tagBad : Bool := false
deriving DecidableEq, Repr

/-- A lost range in the queue of R334. -/
structure LostRange where
  pg : Nat
  cause : Nat
  first : Nat
  last : Nat
  sec : Nat
  ns : Nat
deriving DecidableEq, Repr

/-- A protection group beside its registers (R310 to R335). -/
structure PgSt where
  /-- Conditions present before the hold-off, bits 3 to 0 = SF_W, SF_P, SD_W, SD_P, and the hold-off timers that run (R313, R314, R317). -/
  raw : Nat := 0
  hold : Nat := 0
  lo : Bool := false
  fs : Bool := false
  ms : Bool := false
  msW : Bool := false
  wtr : Bool := false
  /-- The clock at which WTR started. -/
  wtrAt : Nat := 0
  dnr : Bool := false
  /-- The member the request logic selects: true = protection. PG_STAT.ACTIVE is the one in effect. -/
  decided : Bool := false
  /-- The fast SD criterion of each member (R314). -/
  fastW : Bool := false
  fastP : Bool := false
  /-- Δ has been measured; the later member held in SF for exceeded deskew, true = protection (R319, R324). -/
  measured : Bool := false
  deskHeld : Option Bool := none
  mismatchRun : Nat := 0
  agreeRun : Nat := 0
  mismatchHeld : Bool := false
  /-- The member's demapper with its NO_SYNC and MSIM (R249, R250, R313). -/
  mem : DemSt := {}
  memNoSync : Bool := true
  memMsim : Bool := false
  /-- The lead member of a hitless group: true = protection (R322); the copies of each member in the deskew memory and the frame
  read last (R321 to R323). -/
  leadP : Bool := false
  deskW : List DeskRec := []
  deskP : List DeskRec := []
  lastRead : Option Nat := none
  /-- Both members failed since the last frame delivered (R334, R335). -/
  bothFail : Bool := false
  /-- FSN of the last frame delivered, and the clock of the last one delivered without UNCORR (R318, R320). -/
  lastFsn : Option Nat := none
  lastIntact : Option Nat := none
  /-- A switch has executed and no frame has been delivered since (R318); the frame space changed since the last frame (R325, R333). -/
  switched : Bool := false
  newSpace : Bool := false
  /-- APS (R326 to R329): source and sequence number of the last message accepted, the far RSIG, BSIG, B and D; the bridge made here;
  the payload sent last. -/
  apsLast : Option (Nat × Nat) := none
  farRsig : Bool := false
  farBsig : Bool := false
  farB : Bool := false
  farD : Bool := false
  bridge : Bool := false
  apsSent : Option Nat := none
deriving DecidableEq, Repr

/-- A 64-bit word of a pool (R397, R401): the data written last, the stored bits that differ from its code (64 data bits; 8 check bits in
pools 0 to 2, 5 for each byte in pool 3), the bytes written since memory BIST and the bytes that hold the poison pattern, as masks. -/
structure PoolWord where
  data : Nat := 0
  flips : Nat := 0
  chk : Nat := 0
  known : Nat := 0
  poison : Nat := 0
deriving DecidableEq, Repr

/-- An entry of the memory event queue (R410); the master of the types that no access causes is left open. -/
structure MemEvent where
  type : Nat
  pool : Nat
  addr : Nat
  master : Nat
deriving DecidableEq, Repr

/-- The pools beside their registers (R397 to R410): the words written, by pool × 131072 + word; the words in the correction tracker, last
corrected first; the event queue; the scrubber's next word and the end of its pass, and a STOP that waits; the row under repair (pool, bank, row). -/
structure PoolSt where
  words : List (Nat × PoolWord) := []
  track : List Nat := []
  mev : List MemEvent := []
  scrubAt : Nat := 0
  scrubEnd : Nat := 0
  scrubStop : Bool := false
  repair : Option (Nat × Nat × Nat) := none
deriving DecidableEq, Repr

/-- A response that a master of the bus matrix receives (R412, R416): the bytes read, the completion of a write, or an error with its
cause of R416. -/
inductive BusResp where
  | data (bytes : List Nat)
  | done
  | err (cause : Nat)
deriving DecidableEq, Repr

/-- The hidden part of a line key register (R342, R343): its key bytes, and the frames sealed under it. -/
structure LineKey where
  bytes : List Nat := []
  used : Nat := 0
deriving DecidableEq, Repr

/-- A received frame whose tag is being checked (R349, R353, R356): its trail, whether its key register was VALID when it arrived, and
whether a lane fault spoilt it. -/
structure TagWait where
  trail : Nat
  frame : RxFrame
  keyed : Bool
  spoilt : Bool
deriving DecidableEq, Repr

/-- A line encryptor beside its registers (R342 to R353): the key registers of phases 0 and 1, the greatest transmit epoch loaded since
reset, a swap that waits for the next frame, the FSN of the frame sealed last, the frames whose tag is being checked, and a mask of the
trails whose frame in progress a lane fault has spoilt. -/
structure LencSt where
  tx : List (Nat × LineKey) := []
  rx : List (Nat × LineKey) := []
  maxEpoch : Option Nat := none
  swap : Bool := false
  lastFsn : Option Nat := none
  checks : List TagWait := []
  spoilt : Nat := 0
deriving DecidableEq, Repr

/-- A key of the key store (R357): usage (0 = KEK, 1 = LINE, 2 = SERVICE), length in bytes, label and its 32 bytes. -/
structure KsKey where
  usage : Nat
  len : Nat
  label : Nat
  bytes : List Nat
deriving DecidableEq, Repr

/-- A slot of the key store (R357, R360): its key and its pending value. -/
structure KsSlot where
  key : Option KsKey := none
  pend : Option KsKey := none
deriving DecidableEq, Repr

/-- A service job (R362 to R365): its ring, the address of its descriptor, its fields, the key it started with, the position in the order of
starts, the blocks done so far, the status that its start found in place of work, and whether its key was erased meanwhile. -/
structure Job where
  ring : Nat
  desc : Nat
  op : Nat
  slot : Nat
  target : Nat
  count : Nat
  src : Nat
  dst : Nat
  irq : Bool
  key : Option KsKey
  order : Nat
  done : Nat := 0
  fault : Option Nat := none
  erased : Bool := false
deriving DecidableEq, Repr

/-- The key store and the service engine beside their registers (R357 to R365): the slots, the boot key register, the data of PROVISION, the
level of ZEROIZE_N held low, the jobs on the cores, the suspended jobs and the number of jobs started. -/
structure SecSt where
  slots : List (Nat × KsSlot) := []
  bootKey : Option (List Nat) := none
  prov : List (Nat × Nat) := []
  pinLow : Bool := false
  cores : List (Nat × Job) := []
  susp : List Job := []
  started : Nat := 0
deriving DecidableEq, Repr

/-- A record of the image (R376): its index, where it starts (a pool window offset for a staged record, a flash address for a SERVICE record), and
the bytes of its header and payload. -/
structure ImgRec where
  idx : Nat
  at_ : Nat
  len : Nat
deriving DecidableEq, Repr

/-- The header fields of the image in use (R376). -/
structure ImgHdr where
  imageLen : Nat := 0
  seq : Nat := 0
  node : Nat := 0
  confirm : Nat := 0
  calA : Nat := 0
  calB : Nat := 0
  owner : Nat := 0
  fwIf : Nat := 0
  build : Nat := 0
deriving DecidableEq, Repr

/-- An xSPI command in progress (R375): type, flash address, length in bytes, and the flash bytes it changes. -/
structure XspiOp where
  type : Nat
  addr : Nat
  len : Nat
  bytes : List (Nat × Nat)
deriving DecidableEq, Repr

/-- The boot controller and the flash beside the registers (R371 to R383): the clock of the release, the image area in use (1 = primary, 2 = golden),
whether its header has been read, whether the APPLY pass runs, the header, the records still to apply (staged, then those in the flash), the
rest of the record whose POLL waits (its payload from that entry on), whether a confirmation is due, the flash bytes that do not read 0xFF, and the xSPI command in progress. -/
structure BootSt where
  released : Nat := 0
  area : Nat := 0
  hdrOk : Bool := false
  applying : Bool := false
  hdr : ImgHdr := {}
  recs : List ImgRec := []
  service : List ImgRec := []
  stand : List Nat := []
  confirmDue : Bool := false
  flash : List (Nat × Nat) := []
  xspi : Option XspiOp := none
deriving DecidableEq, Repr

/-- The management cores beside their registers (R384 to R392): the mailbox command in progress (opcode, tag, length), the core that takes a failed
core's interrupts and mailbox, the EXT_INFO payload, whether the extension is enabled and whether it is suspended until the next tick, and the
clocks of its faults of the last 10 s. -/
structure MgmtSt where
  mbox : Option (Nat × Nat × Nat) := none
  route : List (Nat × Nat) := []
  extInfo : Option (List Nat) := none
  extOn : Bool := false
  extSusp : Bool := false
  extFaults : List Nat := []
deriving DecidableEq, Repr

/-- A request in the endpoint's queue (R424, R426): a BAR0 request (without a beat where it is not 4 or 8 bytes and aligned) or a 128-byte piece of a
BAR2 request, its response once it has been performed, and the address of an error. -/
structure HostPiece where
  bar2 : Bool
  req : BusReq
  done : Option BusResp := none
  errAt : Nat := 0
deriving DecidableEq, Repr

/-- A completion or report that left the endpoint (R425): status (0 = successful, 1 = UR, 4 = CA), error poisoning, the bytes of a read, and whether
it was the outcome of a write. -/
structure HostCpl where
  status : Nat
  ep : Bool
  bytes : List Nat
  write : Bool
deriving DecidableEq, Repr

/-- The PCIe endpoint beside its registers (R421 to R433): its queue, oldest first, the completion that left last, the MSI-X function mask, and the
AER status, mask and severity (bit 20 = Unsupported Request, bit 15 = Completer Abort), and the vector of the message sent last. -/
structure PciSt where
  queue : List HostPiece := []
  cpl : Option HostCpl := none
  msi : Option Nat := none
  fmask : Bool := false
  aerStatus : Word := 0
  aerMask : Word := 0
  aerSev : Word := 0
deriving DecidableEq, Repr

/-- A channel of the monitor (R481, R483): the results in the window, newest first, with OVR and DIST; results since the last output; outputs in a
row in violation and in range. -/
structure MonCh where
  win : List (Nat × Bool × Bool) := []
  fresh : Nat := 0
  viol : Nat := 0
  inr : Nat := 0
deriving DecidableEq, Repr

/-- An SPI controller beside its registers (R485): the transfer in progress (length in bytes, chip select, HOLD_CS), and the chip selects it
holds asserted, as a mask. -/
structure SpiSt where
  xfer : Option (Nat × Nat × Bool) := none
  held : Nat := 0
deriving DecidableEq, Repr

/-- The monitor beside its registers (R477 to R486): the channels; the result queue, oldest first (channel, OVR, DIST, value); the entry in progress with
its channel's configuration; the channels of the entries after it in this pass; the last two samples (channel, over range), newest first; the SPI
controllers; and the bytes to write and to read of the I2C transaction in progress. -/
structure MonSt where
  chans : List (Nat × MonCh) := []
  queue : List (Nat × Bool × Bool × Nat) := []
  cur : Option (Nat × Word) := none
  rest : List Nat := []
  last2 : List (Nat × Bool) := []
  spi : List (Nat × SpiSt) := []
  i2c : Option (Nat × Nat) := none
deriving DecidableEq, Repr

/-- A client lane beside its registers (R219 to R238): the clock of the last entry into DETECT; whether TRAIN was entered since; the CDR's lock;
windows passed in a row (frequency, errors); the written start values of the taps, whether the coefficients are kept, and the precoding that
training agreed on; the exchange of R226; a receive wake in progress; and the injections that wait: singles before the burst, the
burst's symbols left, singles after it. -/
structure LaneSt where
  detectAt : Nat := 0
  trained : Bool := false
  cdr : Bool := false
  passF : Nat := 0
  passE : Nat := 0
  start : List (Nat × Nat) := []
  kept : Bool := false
  preTx : Bool := false
  preRx : Bool := false
  finished : Bool := false
  ready : Bool := false
  lastWord : Option Nat := none
  accepted : Option Nat := none
  ackSeen : Bool := false
  waking : Bool := false
  ones : Nat := 0
  burst : Nat := 0
  onesAfter : Nat := 0
deriving DecidableEq, Repr

/-- Self-test and calibration beside their registers and the groups (R501, R505): the carriers whose need for a step-down firmware has sent a
notice for, as a mask; the notice that waits for its answer (carrier mask, code of the target, instant in 2^-16 ns); the calibrated receive
skews by 4 × carrier + lane, in 0.125 ps; the SEQ of the calibration record that was loaded. -/
structure TstSt where
  noticed : Nat := 0
  notice : Option (Nat × Nat × Nat) := none
  rxSkew : List (Nat × Int) := []
  calSeq : Nat := 0
deriving DecidableEq, Repr

/-- The event counters and the sampler beside their registers (R446, R449 to R451): the chain shadows, by 512 × master + counter; the length
of the sampling interval in progress, the samples taken since reset, and whether the next record has GAP = 1. -/
structure EvcSt where
  chain : List (Nat × Word) := []
  smpLen : Nat := 1024
  smpSeq : Nat := 0
  gap : Bool := false
deriving DecidableEq, Repr

/-- The reference selector and the DPLL beside their registers (R262 to R274): for each slot the clock of its last qualification, and a mask
of the slots whose WTR has run out; the target of a switch before its commit point; the clock of the entry into HOLDOVER; the mean
frequencies stored, newest first; the source and frequency in effect of each output. -/
structure TimSt where
  qualAt : List (Nat × Nat) := []
  wtrDone : Nat := 0
  target : Option Nat := none
  holdAt : Nat := 0
  history : List Int := []
  refout : List (Nat × Nat × Nat) := []
deriving DecidableEq, Repr

end Sys2Proof.Machine
end

