-- ==== Sys2Proof/Machine/State.lean ====
section
/-! DEFINITION. The state of the machine as plain data: the register file, the hidden state of every block, and the queue of the
commands that wait; the reasons a step can stop; the state after reset. -/

namespace Sys2Proof.Machine

/-- The chip: everything but the queue of waiting commands. -/
structure Chip where
  /-- Registers that do not hold their reset value, by address; the word of an RWS register is its shadow (R12, R14). -/
  regs : List (Nat × Word) := []
  /-- Active words of the RWS registers that do not hold their reset value, by address (R12). -/
  actRegs : List (Nat × Word) := []
  /-- Live conditions of the events of each block, by the base of its event registers (R9). -/
  live : List (Nat × Word) := []
  /-- The model's own: how many free values have been used. -/
  freeIx : Nat := 0
  /-- The model's own: data-plane clocks of 625 ps since reset (R15); idle steps advance it. -/
  now : Nat := 0
  /-- Fuses and one-time-programmable fields. -/
  fuse : Fuse := {}
  top : TopSt := {}
  clk : ClkSt := {}
  txd : Two TxdSt := ⟨{}, {}⟩
  /-- The receivers, by number: 17 for each carrier, its own first, then its subcarriers. -/
  rcv : List (Nat × RcvSt) := []
  fec : Two FecSt := ⟨{}, {}⟩
  subc : Two SubcSt := ⟨{}, {}⟩
  /-- The framers and performance monitors of the trails, by 16 × carrier + trail. -/
  frm : List (Nat × FrmSt) := []
  pm : List (Nat × PmSt) := []
  /-- The demappers of the connections 0 to 31. -/
  dem : List (Nat × DemSt) := []
  wst : WstSt := {}
  tim : TimSt := {}
  /-- The redundant groups, by 3 × carrier + group (R511). -/
  grp : List (Nat × GrpSt) := []
  /-- The protection groups 0 to 15 (R310). -/
  pg : List (Nat × PgSt) := []
  /-- The lost-range queue of R334, oldest first. -/
  lost : List LostRange := []
  lenc : Two LencSt := ⟨{}, {}⟩
  sec : SecSt := {}
  evcs : EvcSt := {}
  tst : TstSt := {}
  pool : PoolSt := {}
  boot : BootSt := {}
  mgmt : MgmtSt := {}
  pci : PciSt := {}
  mon : MonSt := {}
  /-- The client lanes 0 to 15. -/
  lane : List (Nat × LaneSt) := []
  /-- The response each master of the bus matrix received last (R412). -/
  resp : List (Nat × BusResp) := []
deriving DecidableEq, Repr

/-- The machine: the chip and the commands that wait, first in, first out. -/
structure State where
  pending : List Instr := []
  chip : Chip := {}
deriving DecidableEq, Repr

/-- Why a step ends in a fault. -/
inductive Fault where
  /-- A write brings the clock ratios outside the limits of R463, where the spec calls the results undefined and gives no effect.
  Raised by the register write that does so. Safe: the model stops where the chip does something unstated. -/
  | clockRatioOutOfLimits
deriving DecidableEq, Repr

/-- Why a step refuses a command. -/
inductive Refusal where
  /-- The command has no meaning in the model. Raised by the dispatch alone. Safe. -/
  | notModelled (mnemonic : String)
deriving DecidableEq, Repr

/-- What a meaning answers. -/
abbrev Result := Host.Outcome State Fault Refusal

/-- The next state with a new chip and the same queue. -/
def State.to (s : State) (c : Chip) : Result := .next { s with chip := c }

/-- The machine right after a power-on reset: every register at the reset value of its table, nothing listed in any store, no
command waiting. -/
def State.reset : State := {}

end Sys2Proof.Machine
end

