-- ==== Sys2Proof/Machine/Store.lean ====
section
/-! DEFINITION. Sparse stores: a list of (address, value) pairs in one canonical form (addresses strictly rising, no pair
equal to what an unlisted address reads as), so that equal stores are equal data. Registers, active copies, pool words,
flash bytes and every per-index table of State are such stores. -/

namespace Sys2Proof.Machine

/-- The value at an address: the listed one, else what the unlisted address reads as. -/
def Store.get {α : Type} (d : Nat → α) : List (Nat × α) → Nat → α
  | [], a => d a
  | (b, v) :: m, a => if b = a then v else Store.get d m a

/-- A store without an address. -/
def Store.erase {α : Type} (m : List (Nat × α)) (a : Nat) : List (Nat × α) :=
  m.filter fun p => !decide (p.1 = a)

/-- A pair put in its place by address; the address must not be listed yet. -/
def Store.insert {α : Type} (a : Nat) (v : α) : List (Nat × α) → List (Nat × α)
  | [] => [(a, v)]
  | (b, w) :: m => if a < b then (a, v) :: (b, w) :: m else (b, w) :: Store.insert a v m

/-- A write: the address reads as the value afterwards, every other address as before. Writing what an unlisted address
reads as unlists it, which keeps the canonical form. -/
def Store.set {α : Type} [DecidableEq α] (d : Nat → α) (m : List (Nat × α)) (a : Nat) (v : α) : List (Nat × α) :=
  let m' := Store.erase m a
  if v = d a then m' else Store.insert a v m'

/-- A store reset at every address a test picks, unchanged elsewhere: what the reset of an island does. -/
def Store.clear {α : Type} (m : List (Nat × α)) (p : Nat → Bool) : List (Nat × α) :=
  m.filter fun q => !p q.1

/-- The canonical form. -/
def Store.wf {α : Type} [DecidableEq α] (d : Nat → α) : List (Nat × α) → Bool
  | [] => true
  | (a, v) :: m => (!decide (v = d a)) && m.all (fun p => decide (a < p.1)) && Store.wf d m

end Sys2Proof.Machine
end

