-- ==== Sys2Proof/Machine/Ops.lean ====
section
/-! DEFINITION. The named operations over the register file, the per-index tables and the free values that every meaning is
written with. -/

namespace Sys2Proof

/-- The field of `width` bits at bit `lo` of a word. -/
def Word.field (w : Word) (lo width : Nat) : Nat := w.toNat / 2 ^ lo % 2 ^ width

/-- A word with one field replaced; the value is cut to the field's width. -/
def Word.setField (w : Word) (lo width v : Nat) : Word :=
  (w &&& ~~~(BitVec.ofNat 32 (2 ^ width - 1) <<< lo)) ||| (BitVec.ofNat 32 (v % 2 ^ width) <<< lo)

/-- Bit b of a word. -/
def Word.bit (w : Word) (b : Nat) : Bool := w.getLsbD b

/-- The signed value of a field of `width` bits. -/
def sgn (width n : Nat) : Int := if 2 ^ width ≤ 2 * n then (n : Int) - (2 ^ width : Nat) else n

/-- The two's-complement field of `width` bits that holds a signed value, cut to the field. -/
def unsgn (width : Nat) (i : Int) : Nat := (i % (2 ^ width : Nat)).toNat

/-- Division rounded up. -/
def cdiv (a b : Nat) : Nat := (a + b - 1) / b

end Sys2Proof

namespace Sys2Proof.Machine

variable {α : Type}

/-- The half of a pair of per-carrier states that a carrier names. -/
def Two.get (p : Two α) : Carrier → α
  | .A => p.a
  | .B => p.b

/-- A pair of per-carrier states with one carrier's replaced. -/
def Two.put (p : Two α) (c : Carrier) (v : α) : Two α :=
  match c with
  | .A => { p with a := v }
  | .B => { p with b := v }

/-- The word a register holds: the listed one, else its reset value (R4). -/
def Chip.rd (s : Chip) (a : Nat) : Word := Store.get RegMap.reset s.regs a

/-- A register written with a word, whatever its access type: the hardware's own write. -/
def Chip.wr (s : Chip) (a : Nat) (w : Word) : Chip := { s with regs := Store.set RegMap.reset s.regs a w }

/-- The active word of an RWS register (R12): what operation sees, the register itself reading as its shadow (R14). -/
def Chip.act (s : Chip) (a : Nat) : Word := Store.get RegMap.reset s.actRegs a

/-- A field of a register. -/
def Chip.getF (s : Chip) (f : Fld) : Nat := (s.rd f.addr).field f.lo f.width

/-- A field of a register set by the hardware. -/
def Chip.setF (s : Chip) (f : Fld) (v : Nat) : Chip := s.wr f.addr ((s.rd f.addr).setField f.lo f.width v)

/-- A one-bit field as a truth value. -/
def Chip.flag (s : Chip) (f : Fld) : Bool := s.getF f == 1

/-- A one-bit field set from a truth value. -/
def Chip.setFlag (s : Chip) (f : Fld) (b : Bool) : Chip := s.setF f b.toNat

/-- A field's signed value. -/
def Chip.getS (s : Chip) (f : Fld) : Int := sgn f.width (s.getF f)

/-- A field set to a signed value. -/
def Chip.setS (s : Chip) (f : Fld) (i : Int) : Chip := s.setF f (unsgn f.width i)

/-- The active value of an RWS field. -/
def Chip.actF (s : Chip) (f : Fld) : Nat := (s.act f.addr).field f.lo f.width

/-- The active value of a one-bit RWS field. -/
def Chip.actFlag (s : Chip) (f : Fld) : Bool := s.actF f == 1

/-- A counter field advanced by n, wrapping at its width. -/
def Chip.bump (s : Chip) (f : Fld) (n : Nat := 1) : Chip := s.setF f (s.getF f + n)

/-- A counter field advanced by n, saturating at its highest value. -/
def Chip.bumpSat (s : Chip) (f : Fld) (n : Nat := 1) : Chip := s.setF f (min (s.getF f + n) (2 ^ f.width - 1))

/-- A field set to a value, the highest value of the field standing for every larger one. -/
def Chip.setSat (s : Chip) (f : Fld) (v : Nat) : Chip := s.setF f (min v (2 ^ f.width - 1))

/-- Bit b of a field set. -/
def Chip.setBit (s : Chip) (f : Fld) (b : Nat) : Chip := s.setF f (s.getF f ||| 2 ^ b)

/-- Bit b of a field cleared. -/
def Chip.clrBit (s : Chip) (f : Fld) (b : Nat) : Chip := s.setF f (s.getF f - (s.getF f &&& 2 ^ b))

/-- Bit b of a field. -/
def Chip.bitOf (s : Chip) (f : Fld) (b : Nat) : Bool := (s.getF f).testBit b

/-- Bit b of a field set from a truth value. -/
def Chip.putBit (s : Chip) (f : Fld) (b : Nat) (v : Bool) : Chip := if v then s.setBit f b else s.clrBit f b

/-- A 64-bit pair NAME_LO at an address and NAME_HI at the next (R7). -/
def Chip.getPair (s : Chip) (lo : Nat) : Nat := (s.rd lo).toNat + (s.rd (lo + 4)).toNat * 2 ^ 32

/-- A 64-bit pair set by the hardware, cut to 64 bits. -/
def Chip.setPair (s : Chip) (lo v : Nat) : Chip :=
  (s.wr lo (BitVec.ofNat 32 v)).wr (lo + 4) (BitVec.ofNat 32 (v / 2 ^ 32))

/-- A 64-bit counter advanced by n, wrapping. -/
def Chip.addPair (s : Chip) (lo n : Nat) : Chip := s.setPair lo (s.getPair lo + n)

/-- A fresh free value: a value the spec says results and does not say which. The counter advances, so that two uses are
not tied to each other. -/
def Chip.free (s : Chip) : Nat × Chip := (Config.freeNat s.freeIx, { s with freeIx := s.freeIx + 1 })

/-- A whole-number report of a fraction num / den whose rounding the spec does not state: the whole number below or above it,
free between the two. -/
def Chip.roundFree (s : Chip) (num : Int) (den : Nat) : Int × Chip :=
  if num % (den : Int) = 0 then (num / (den : Int), s)
  else (num / (den : Int) + (s.free.1 % 2 : Nat), s.free.2)

/-- The entry of a per-index table. -/
def Tab.get (d : α) (t : List (Nat × α)) (i : Nat) : α := Store.get (fun _ => d) t i

/-- A per-index table with one entry replaced. -/
def Tab.put [DecidableEq α] (d : α) (t : List (Nat × α)) (i : Nat) (v : α) : List (Nat × α) :=
  Store.set (fun _ => d) t i v

end Sys2Proof.Machine
end

