-- ==== Sys2Proof/Machine/RegFieldsClient.lean ====
section
/-! DEFINITION. The registers of the client side and of protection: an address for each register, a field for each field, as the register tables of spec/ give them (R239 to R241, R258 to R261, R337, R338, R368). -/

namespace Sys2Proof.Machine

/-- `CLI.LANE_EVT`, R241. -/
def Reg.CLI.LANE_EVT.addr : Nat := 0x02100000
def Reg.CLI.LANE_EVT.LANE : Fld := ⟨Reg.CLI.LANE_EVT.addr, 0, 16⟩
/-- `CLI.PORT_EVT`, R261. -/
def Reg.CLI.PORT_EVT.addr : Nat := 0x02210000
def Reg.CLI.PORT_EVT.PORT : Fld := ⟨Reg.CLI.PORT_EVT.addr, 0, 16⟩
/-- `LANE.LANE_CFG`, R239. -/
def Reg.LANE.LANE_CFG.addr (l : Nat) : Nat := 0x02000000 + 0x00010000 * l
def Reg.LANE.LANE_CFG.PRECODE (l : Nat) : Fld := ⟨Reg.LANE.LANE_CFG.addr l, 24, 2⟩
def Reg.LANE.LANE_CFG.LOOPBACK (l : Nat) : Fld := ⟨Reg.LANE.LANE_CFG.addr l, 16, 2⟩
def Reg.LANE.LANE_CFG.RX_INV (l : Nat) : Fld := ⟨Reg.LANE.LANE_CFG.addr l, 13, 1⟩
def Reg.LANE.LANE_CFG.TX_INV (l : Nat) : Fld := ⟨Reg.LANE.LANE_CFG.addr l, 12, 1⟩
def Reg.LANE.LANE_CFG.CAPS_REQ (l : Nat) : Fld := ⟨Reg.LANE.LANE_CFG.addr l, 11, 1⟩
def Reg.LANE.LANE_CFG.CAPS_EN (l : Nat) : Fld := ⟨Reg.LANE.LANE_CFG.addr l, 10, 1⟩
def Reg.LANE.LANE_CFG.TRAIN_EN (l : Nat) : Fld := ⟨Reg.LANE.LANE_CFG.addr l, 9, 1⟩
def Reg.LANE.LANE_CFG.REACH (l : Nat) : Fld := ⟨Reg.LANE.LANE_CFG.addr l, 8, 1⟩
def Reg.LANE.LANE_CFG.RATE (l : Nat) : Fld := ⟨Reg.LANE.LANE_CFG.addr l, 4, 2⟩
def Reg.LANE.LANE_CFG.LANE_EN (l : Nat) : Fld := ⟨Reg.LANE.LANE_CFG.addr l, 0, 1⟩
/-- `LANE.LANE_TMO`, R239. -/
def Reg.LANE.LANE_TMO.addr (l : Nat) : Nat := 0x02000004 + 0x00010000 * l
def Reg.LANE.LANE_TMO.LOCK_HOLD (l : Nat) : Fld := ⟨Reg.LANE.LANE_TMO.addr l, 24, 8⟩
def Reg.LANE.LANE_TMO.CAPS_TIMEOUT (l : Nat) : Fld := ⟨Reg.LANE.LANE_TMO.addr l, 16, 8⟩
def Reg.LANE.LANE_TMO.TRAIN_TIMEOUT (l : Nat) : Fld := ⟨Reg.LANE.LANE_TMO.addr l, 0, 16⟩
/-- `LANE.DET_CFG`, R239. -/
def Reg.LANE.DET_CFG.addr (l : Nat) : Nat := 0x02000008 + 0x00010000 * l
def Reg.LANE.DET_CFG.LOL_PPM (l : Nat) : Fld := ⟨Reg.LANE.DET_CFG.addr l, 16, 8⟩
def Reg.LANE.DET_CFG.LOS_HYST (l : Nat) : Fld := ⟨Reg.LANE.DET_CFG.addr l, 8, 4⟩
def Reg.LANE.DET_CFG.LOS_THR (l : Nat) : Fld := ⟨Reg.LANE.DET_CFG.addr l, 0, 8⟩
/-- `LANE.LANE_SLEEP`, R239. -/
def Reg.LANE.LANE_SLEEP.addr (l : Nat) : Nat := 0x0200000C + 0x00010000 * l
def Reg.LANE.LANE_SLEEP.RX_WAKE_TMO (l : Nat) : Fld := ⟨Reg.LANE.LANE_SLEEP.addr l, 8, 8⟩
def Reg.LANE.LANE_SLEEP.RX_SLEEP (l : Nat) : Fld := ⟨Reg.LANE.LANE_SLEEP.addr l, 1, 1⟩
def Reg.LANE.LANE_SLEEP.TX_SLEEP (l : Nat) : Fld := ⟨Reg.LANE.LANE_SLEEP.addr l, 0, 1⟩
/-- `LANE.CAPS_USER`, R239. -/
def Reg.LANE.CAPS_USER.addr (l : Nat) : Nat := 0x02000014 + 0x00010000 * l
def Reg.LANE.CAPS_USER.USER (l : Nat) : Fld := ⟨Reg.LANE.CAPS_USER.addr l, 0, 8⟩
/-- `LANE.TX_FFE`, R239. -/
def Reg.LANE.TX_FFE.addr (l : Nat) (k : Nat) : Nat := 0x02000020 + 0x00010000 * l + 4 * k
def Reg.LANE.TX_FFE.TAP (l : Nat) (k : Nat) : Fld := ⟨Reg.LANE.TX_FFE.addr l k, 0, 8⟩
/-- `LANE.PRBS_CFG`, R239. -/
def Reg.LANE.PRBS_CFG.addr (l : Nat) : Nat := 0x02000040 + 0x00010000 * l
def Reg.LANE.PRBS_CFG.CHK_CLR (l : Nat) : Fld := ⟨Reg.LANE.PRBS_CFG.addr l, 16, 1⟩
def Reg.LANE.PRBS_CFG.CHK_INV (l : Nat) : Fld := ⟨Reg.LANE.PRBS_CFG.addr l, 13, 1⟩
def Reg.LANE.PRBS_CFG.GEN_INV (l : Nat) : Fld := ⟨Reg.LANE.PRBS_CFG.addr l, 12, 1⟩
def Reg.LANE.PRBS_CFG.CHK_PAT (l : Nat) : Fld := ⟨Reg.LANE.PRBS_CFG.addr l, 8, 4⟩
def Reg.LANE.PRBS_CFG.GEN_PAT (l : Nat) : Fld := ⟨Reg.LANE.PRBS_CFG.addr l, 4, 4⟩
def Reg.LANE.PRBS_CFG.CHK_EN (l : Nat) : Fld := ⟨Reg.LANE.PRBS_CFG.addr l, 1, 1⟩
def Reg.LANE.PRBS_CFG.GEN_EN (l : Nat) : Fld := ⟨Reg.LANE.PRBS_CFG.addr l, 0, 1⟩
/-- `LANE.INJ_CTRL`, R239. -/
def Reg.LANE.INJ_CTRL.addr (l : Nat) : Nat := 0x02000044 + 0x00010000 * l
def Reg.LANE.INJ_CTRL.BURST_LEN (l : Nat) : Fld := ⟨Reg.LANE.INJ_CTRL.addr l, 16, 12⟩
def Reg.LANE.INJ_CTRL.INJ_BURST (l : Nat) : Fld := ⟨Reg.LANE.INJ_CTRL.addr l, 1, 1⟩
def Reg.LANE.INJ_CTRL.INJ_ONE (l : Nat) : Fld := ⟨Reg.LANE.INJ_CTRL.addr l, 0, 1⟩
/-- `LANE.LANE_STAT`, R240. -/
def Reg.LANE.LANE_STAT.addr (l : Nat) : Nat := 0x02000010 + 0x00010000 * l
def Reg.LANE.LANE_STAT.CAPS_PEER (l : Nat) : Fld := ⟨Reg.LANE.LANE_STAT.addr l, 16, 1⟩
def Reg.LANE.LANE_STAT.PRECODE_RX (l : Nat) : Fld := ⟨Reg.LANE.LANE_STAT.addr l, 13, 1⟩
def Reg.LANE.LANE_STAT.PRECODE_TX (l : Nat) : Fld := ⟨Reg.LANE.LANE_STAT.addr l, 12, 1⟩
def Reg.LANE.LANE_STAT.RCLK_VALID (l : Nat) : Fld := ⟨Reg.LANE.LANE_STAT.addr l, 10, 1⟩
def Reg.LANE.LANE_STAT.RX_ASLEEP (l : Nat) : Fld := ⟨Reg.LANE.LANE_STAT.addr l, 9, 1⟩
def Reg.LANE.LANE_STAT.TX_ASLEEP (l : Nat) : Fld := ⟨Reg.LANE.LANE_STAT.addr l, 8, 1⟩
def Reg.LANE.LANE_STAT.LOL (l : Nat) : Fld := ⟨Reg.LANE.LANE_STAT.addr l, 5, 1⟩
def Reg.LANE.LANE_STAT.LOS (l : Nat) : Fld := ⟨Reg.LANE.LANE_STAT.addr l, 4, 1⟩
def Reg.LANE.LANE_STAT.STATE (l : Nat) : Fld := ⟨Reg.LANE.LANE_STAT.addr l, 0, 3⟩
/-- `LANE.CAPS_RX_LO`, R240. -/
def Reg.LANE.CAPS_RX_LO.addr (l : Nat) : Nat := 0x02000018 + 0x00010000 * l
def Reg.LANE.CAPS_RX_LO.WORD (l : Nat) : Fld := ⟨Reg.LANE.CAPS_RX_LO.addr l, 0, 32⟩
/-- `LANE.CAPS_RX_HI`, R240. -/
def Reg.LANE.CAPS_RX_HI.addr (l : Nat) : Nat := 0x0200001C + 0x00010000 * l
def Reg.LANE.CAPS_RX_HI.WORD (l : Nat) : Fld := ⟨Reg.LANE.CAPS_RX_HI.addr l, 0, 32⟩
/-- `LANE.EYE`, R240. -/
def Reg.LANE.EYE.addr (l : Nat) : Nat := 0x02000030 + 0x00010000 * l
def Reg.LANE.EYE.EYE_H (l : Nat) : Fld := ⟨Reg.LANE.EYE.addr l, 16, 16⟩
def Reg.LANE.EYE.EYE_W (l : Nat) : Fld := ⟨Reg.LANE.EYE.addr l, 0, 16⟩
/-- `LANE.CHK_STAT`, R240. -/
def Reg.LANE.CHK_STAT.addr (l : Nat) : Nat := 0x02000048 + 0x00010000 * l
def Reg.LANE.CHK_STAT.LOCK_LOSS (l : Nat) : Fld := ⟨Reg.LANE.CHK_STAT.addr l, 16, 16⟩
def Reg.LANE.CHK_STAT.CHK_LOCK (l : Nat) : Fld := ⟨Reg.LANE.CHK_STAT.addr l, 0, 1⟩
/-- `LANE.CHK_BITS_LO`, R240. -/
def Reg.LANE.CHK_BITS_LO.addr (l : Nat) : Nat := 0x02000050 + 0x00010000 * l
def Reg.LANE.CHK_BITS_LO.COUNT (l : Nat) : Fld := ⟨Reg.LANE.CHK_BITS_LO.addr l, 0, 32⟩
/-- `LANE.CHK_BITS_HI`, R240. -/
def Reg.LANE.CHK_BITS_HI.addr (l : Nat) : Nat := 0x02000054 + 0x00010000 * l
def Reg.LANE.CHK_BITS_HI.COUNT (l : Nat) : Fld := ⟨Reg.LANE.CHK_BITS_HI.addr l, 0, 32⟩
/-- `LANE.CHK_ERRS_LO`, R240. -/
def Reg.LANE.CHK_ERRS_LO.addr (l : Nat) : Nat := 0x02000058 + 0x00010000 * l
def Reg.LANE.CHK_ERRS_LO.COUNT (l : Nat) : Fld := ⟨Reg.LANE.CHK_ERRS_LO.addr l, 0, 32⟩
/-- `LANE.CHK_ERRS_HI`, R240. -/
def Reg.LANE.CHK_ERRS_HI.addr (l : Nat) : Nat := 0x0200005C + 0x00010000 * l
def Reg.LANE.CHK_ERRS_HI.COUNT (l : Nat) : Fld := ⟨Reg.LANE.CHK_ERRS_HI.addr l, 0, 32⟩
/-- `LANE.INJ_CNT`, R240. -/
def Reg.LANE.INJ_CNT.addr (l : Nat) : Nat := 0x02000060 + 0x00010000 * l
def Reg.LANE.INJ_CNT.COUNT (l : Nat) : Fld := ⟨Reg.LANE.INJ_CNT.addr l, 0, 32⟩
/-- `LANE.TRAIN_FAIL_CNT`, R240. -/
def Reg.LANE.TRAIN_FAIL_CNT.addr (l : Nat) : Nat := 0x02000070 + 0x00010000 * l
def Reg.LANE.TRAIN_FAIL_CNT.COUNT (l : Nat) : Fld := ⟨Reg.LANE.TRAIN_FAIL_CNT.addr l, 0, 32⟩
/-- `LANE.CAPS_FAIL_CNT`, R240. -/
def Reg.LANE.CAPS_FAIL_CNT.addr (l : Nat) : Nat := 0x02000074 + 0x00010000 * l
def Reg.LANE.CAPS_FAIL_CNT.COUNT (l : Nat) : Fld := ⟨Reg.LANE.CAPS_FAIL_CNT.addr l, 0, 32⟩
/-- `LANE.DOWN_CNT`, R240. -/
def Reg.LANE.DOWN_CNT.addr (l : Nat) : Nat := 0x02000078 + 0x00010000 * l
def Reg.LANE.DOWN_CNT.COUNT (l : Nat) : Fld := ⟨Reg.LANE.DOWN_CNT.addr l, 0, 32⟩
/-- `LANE.ACT_TIME`, R240. -/
def Reg.LANE.ACT_TIME.addr (l : Nat) : Nat := 0x0200007C + 0x00010000 * l
def Reg.LANE.ACT_TIME.TIME (l : Nat) : Fld := ⟨Reg.LANE.ACT_TIME.addr l, 0, 32⟩
/-- `PORT.PORT_CFG`, R258. -/
def Reg.PORT.PORT_CFG.addr (p : Nat) : Nat := 0x02200000 + 0x00001000 * p
def Reg.PORT.PORT_CFG.RATE (p : Nat) : Fld := ⟨Reg.PORT.PORT_CFG.addr p, 4, 3⟩
def Reg.PORT.PORT_CFG.EN (p : Nat) : Fld := ⟨Reg.PORT.PORT_CFG.addr p, 0, 1⟩
/-- `PORT.PORT_ACT`, R258. -/
def Reg.PORT.PORT_ACT.addr (p : Nat) : Nat := 0x02200004 + 0x00001000 * p
def Reg.PORT.PORT_ACT.FORCE_ING (p : Nat) : Fld := ⟨Reg.PORT.PORT_ACT.addr p, 9, 1⟩
def Reg.PORT.PORT_ACT.FORCE_EGR (p : Nat) : Fld := ⟨Reg.PORT.PORT_ACT.addr p, 8, 1⟩
def Reg.PORT.PORT_ACT.ING_EN (p : Nat) : Fld := ⟨Reg.PORT.PORT_ACT.addr p, 4, 1⟩
def Reg.PORT.PORT_ACT.EGR_ACT (p : Nat) : Fld := ⟨Reg.PORT.PORT_ACT.addr p, 0, 2⟩
/-- `PORT.PORT_STAT`, R258. -/
def Reg.PORT.PORT_STAT.addr (p : Nat) : Nat := 0x02200008 + 0x00001000 * p
def Reg.PORT.PORT_STAT.EN_ACTIVE (p : Nat) : Fld := ⟨Reg.PORT.PORT_STAT.addr p, 31, 1⟩
def Reg.PORT.PORT_STAT.RATE_ACTIVE (p : Nat) : Fld := ⟨Reg.PORT.PORT_STAT.addr p, 28, 3⟩
def Reg.PORT.PORT_STAT.WIDTH (p : Nat) : Fld := ⟨Reg.PORT.PORT_STAT.addr p, 16, 5⟩
def Reg.PORT.PORT_STAT.EGR_CAUSE (p : Nat) : Fld := ⟨Reg.PORT.PORT_STAT.addr p, 10, 6⟩
def Reg.PORT.PORT_STAT.ING_REPL (p : Nat) : Fld := ⟨Reg.PORT.PORT_STAT.addr p, 9, 1⟩
def Reg.PORT.PORT_STAT.EGR_ACTING (p : Nat) : Fld := ⟨Reg.PORT.PORT_STAT.addr p, 8, 1⟩
def Reg.PORT.PORT_STAT.RX_RF (p : Nat) : Fld := ⟨Reg.PORT.PORT_STAT.addr p, 7, 1⟩
def Reg.PORT.PORT_STAT.RX_LF (p : Nat) : Fld := ⟨Reg.PORT.PORT_STAT.addr p, 6, 1⟩
def Reg.PORT.PORT_STAT.HI_BER (p : Nat) : Fld := ⟨Reg.PORT.PORT_STAT.addr p, 5, 1⟩
def Reg.PORT.PORT_STAT.ALIGN (p : Nat) : Fld := ⟨Reg.PORT.PORT_STAT.addr p, 4, 1⟩
/-- `PORT.FEC_CW_LO`, R259. -/
def Reg.PORT.FEC_CW_LO.addr (p : Nat) : Nat := 0x02200040 + 0x00001000 * p
def Reg.PORT.FEC_CW_LO.COUNT (p : Nat) : Fld := ⟨Reg.PORT.FEC_CW_LO.addr p, 0, 32⟩
/-- `PORT.FEC_CW_HI`, R259. -/
def Reg.PORT.FEC_CW_HI.addr (p : Nat) : Nat := 0x02200044 + 0x00001000 * p
def Reg.PORT.FEC_CW_HI.COUNT (p : Nat) : Fld := ⟨Reg.PORT.FEC_CW_HI.addr p, 0, 32⟩
/-- `PORT.FEC_CORR_LO`, R259. -/
def Reg.PORT.FEC_CORR_LO.addr (p : Nat) : Nat := 0x02200048 + 0x00001000 * p
def Reg.PORT.FEC_CORR_LO.COUNT (p : Nat) : Fld := ⟨Reg.PORT.FEC_CORR_LO.addr p, 0, 32⟩
/-- `PORT.FEC_CORR_HI`, R259. -/
def Reg.PORT.FEC_CORR_HI.addr (p : Nat) : Nat := 0x0220004C + 0x00001000 * p
def Reg.PORT.FEC_CORR_HI.COUNT (p : Nat) : Fld := ⟨Reg.PORT.FEC_CORR_HI.addr p, 0, 32⟩
/-- `PORT.FEC_UNCORR_LO`, R259. -/
def Reg.PORT.FEC_UNCORR_LO.addr (p : Nat) : Nat := 0x02200050 + 0x00001000 * p
def Reg.PORT.FEC_UNCORR_LO.COUNT (p : Nat) : Fld := ⟨Reg.PORT.FEC_UNCORR_LO.addr p, 0, 32⟩
/-- `PORT.FEC_UNCORR_HI`, R259. -/
def Reg.PORT.FEC_UNCORR_HI.addr (p : Nat) : Nat := 0x02200054 + 0x00001000 * p
def Reg.PORT.FEC_UNCORR_HI.COUNT (p : Nat) : Fld := ⟨Reg.PORT.FEC_UNCORR_HI.addr p, 0, 32⟩
/-- `PORT.FEC_SYM_LO`, R259. -/
def Reg.PORT.FEC_SYM_LO.addr (p : Nat) : Nat := 0x02200058 + 0x00001000 * p
def Reg.PORT.FEC_SYM_LO.COUNT (p : Nat) : Fld := ⟨Reg.PORT.FEC_SYM_LO.addr p, 0, 32⟩
/-- `PORT.FEC_SYM_HI`, R259. -/
def Reg.PORT.FEC_SYM_HI.addr (p : Nat) : Nat := 0x0220005C + 0x00001000 * p
def Reg.PORT.FEC_SYM_HI.COUNT (p : Nat) : Fld := ⟨Reg.PORT.FEC_SYM_HI.addr p, 0, 32⟩
/-- `PORT.ING_PKT_LO`, R259. -/
def Reg.PORT.ING_PKT_LO.addr (p : Nat) : Nat := 0x02200060 + 0x00001000 * p
def Reg.PORT.ING_PKT_LO.COUNT (p : Nat) : Fld := ⟨Reg.PORT.ING_PKT_LO.addr p, 0, 32⟩
/-- `PORT.ING_PKT_HI`, R259. -/
def Reg.PORT.ING_PKT_HI.addr (p : Nat) : Nat := 0x02200064 + 0x00001000 * p
def Reg.PORT.ING_PKT_HI.COUNT (p : Nat) : Fld := ⟨Reg.PORT.ING_PKT_HI.addr p, 0, 32⟩
/-- `PORT.ING_FCS_ERR`, R259. -/
def Reg.PORT.ING_FCS_ERR.addr (p : Nat) : Nat := 0x02200068 + 0x00001000 * p
def Reg.PORT.ING_FCS_ERR.COUNT (p : Nat) : Fld := ⟨Reg.PORT.ING_FCS_ERR.addr p, 0, 32⟩
/-- `PORT.EGR_PKT_LO`, R259. -/
def Reg.PORT.EGR_PKT_LO.addr (p : Nat) : Nat := 0x02200070 + 0x00001000 * p
def Reg.PORT.EGR_PKT_LO.COUNT (p : Nat) : Fld := ⟨Reg.PORT.EGR_PKT_LO.addr p, 0, 32⟩
/-- `PORT.EGR_PKT_HI`, R259. -/
def Reg.PORT.EGR_PKT_HI.addr (p : Nat) : Nat := 0x02200074 + 0x00001000 * p
def Reg.PORT.EGR_PKT_HI.COUNT (p : Nat) : Fld := ⟨Reg.PORT.EGR_PKT_HI.addr p, 0, 32⟩
/-- `PORT.EGR_FCS_ERR`, R259. -/
def Reg.PORT.EGR_FCS_ERR.addr (p : Nat) : Nat := 0x02200078 + 0x00001000 * p
def Reg.PORT.EGR_FCS_ERR.COUNT (p : Nat) : Fld := ⟨Reg.PORT.EGR_FCS_ERR.addr p, 0, 32⟩
/-- `PORT.ING_IDLE_ADJ`, R259. -/
def Reg.PORT.ING_IDLE_ADJ.addr (p : Nat) : Nat := 0x02200080 + 0x00001000 * p
def Reg.PORT.ING_IDLE_ADJ.COUNT (p : Nat) : Fld := ⟨Reg.PORT.ING_IDLE_ADJ.addr p, 0, 32⟩
/-- `PORT.EGR_IDLE_ADJ`, R259. -/
def Reg.PORT.EGR_IDLE_ADJ.addr (p : Nat) : Nat := 0x02200084 + 0x00001000 * p
def Reg.PORT.EGR_IDLE_ADJ.COUNT (p : Nat) : Fld := ⟨Reg.PORT.EGR_IDLE_ADJ.addr p, 0, 32⟩
/-- `XC.XC_STAT`, R260. -/
def Reg.XC.XC_STAT.addr : Nat := 0x02300000
def Reg.XC.XC_STAT.REFUSE_CAUSE : Fld := ⟨Reg.XC.XC_STAT.addr, 28, 4⟩
def Reg.XC.XC_STAT.REFUSE_IDX : Fld := ⟨Reg.XC.XC_STAT.addr, 16, 5⟩
/-- `XC.MSIM_CFG`, R260. -/
def Reg.XC.MSIM_CFG.addr : Nat := 0x02300004
def Reg.XC.MSIM_CFG.MSIM_TIME : Fld := ⟨Reg.XC.MSIM_CFG.addr, 0, 16⟩
/-- `XC.XC_CFG`, R260. -/
def Reg.XC.XC_CFG.addr (c : Nat) : Nat := 0x02300100 + 64 * c
def Reg.XC.XC_CFG.EN (c : Nat) : Fld := ⟨Reg.XC.XC_CFG.addr c, 31, 1⟩
def Reg.XC.XC_CFG.PORT (c : Nat) : Fld := ⟨Reg.XC.XC_CFG.addr c, 16, 4⟩
def Reg.XC.XC_CFG.CARRIER (c : Nat) : Fld := ⟨Reg.XC.XC_CFG.addr c, 12, 1⟩
def Reg.XC.XC_CFG.TRAIL (c : Nat) : Fld := ⟨Reg.XC.XC_CFG.addr c, 8, 4⟩
/-- `XC.XC_MASK`, R260. -/
def Reg.XC.XC_MASK.addr (c : Nat) (m : Nat) : Nat := 0x02300104 + 64 * c + 4 * m
def Reg.XC.XC_MASK.SLOTS (c : Nat) (m : Nat) : Fld := ⟨Reg.XC.XC_MASK.addr c m, 0, 32⟩
/-- `XC.XC_TRIB_STAT`, R260. -/
def Reg.XC.XC_TRIB_STAT.addr (c : Nat) : Nat := 0x02301000 + 16 * c
def Reg.XC.XC_TRIB_STAT.EN_ACTIVE (c : Nat) : Fld := ⟨Reg.XC.XC_TRIB_STAT.addr c, 31, 1⟩
def Reg.XC.XC_TRIB_STAT.NO_SYNC (c : Nat) : Fld := ⟨Reg.XC.XC_TRIB_STAT.addr c, 26, 1⟩
def Reg.XC.XC_TRIB_STAT.MSIM (c : Nat) : Fld := ⟨Reg.XC.XC_TRIB_STAT.addr c, 25, 1⟩
def Reg.XC.XC_TRIB_STAT.TRIB_FAIL (c : Nat) : Fld := ⟨Reg.XC.XC_TRIB_STAT.addr c, 24, 1⟩
def Reg.XC.XC_TRIB_STAT.SLOTS (c : Nat) : Fld := ⟨Reg.XC.XC_TRIB_STAT.addr c, 0, 9⟩
/-- `XC.GMP_CRC_ERR`, R260. -/
def Reg.XC.GMP_CRC_ERR.addr (c : Nat) : Nat := 0x02301004 + 16 * c
def Reg.XC.GMP_CRC_ERR.COUNT (c : Nat) : Fld := ⟨Reg.XC.GMP_CRC_ERR.addr c, 0, 32⟩
/-- `XC.LOST_GAPS`, R260. -/
def Reg.XC.LOST_GAPS.addr (c : Nat) : Nat := 0x02301008 + 16 * c
def Reg.XC.LOST_GAPS.COUNT (c : Nat) : Fld := ⟨Reg.XC.LOST_GAPS.addr c, 0, 32⟩
/-- `XC.UNVERIFIED_DELIVERED`, R368. -/
def Reg.XC.UNVERIFIED_DELIVERED.addr (c : Nat) : Nat := 0x0230100C + 16 * c
def Reg.XC.UNVERIFIED_DELIVERED.COUNT (c : Nat) : Fld := ⟨Reg.XC.UNVERIFIED_DELIVERED.addr c, 0, 32⟩
/-- `PROT.PROT_STAT`, R337. -/
def Reg.PROT.PROT_STAT.addr : Nat := 0x02400000
def Reg.PROT.PROT_STAT.REFUSE_CAUSE : Fld := ⟨Reg.PROT.PROT_STAT.addr, 28, 4⟩
def Reg.PROT.PROT_STAT.REFUSE_PG : Fld := ⟨Reg.PROT.PROT_STAT.addr, 16, 4⟩
def Reg.PROT.PROT_STAT.FROZEN : Fld := ⟨Reg.PROT.PROT_STAT.addr, 8, 1⟩
def Reg.PROT.PROT_STAT.HL_SLOTS : Fld := ⟨Reg.PROT.PROT_STAT.addr, 0, 7⟩
/-- `PROT.DESKEW_USE`, R337. -/
def Reg.PROT.DESKEW_USE.addr : Nat := 0x02400004
def Reg.PROT.DESKEW_USE.KIB : Fld := ⟨Reg.PROT.DESKEW_USE.addr, 0, 15⟩
/-- `PROT.PROT_CTRL`, R337. -/
def Reg.PROT.PROT_CTRL.addr : Nat := 0x02400008
def Reg.PROT.PROT_CTRL.UNFREEZE : Fld := ⟨Reg.PROT.PROT_CTRL.addr, 0, 1⟩
/-- `PROT.RIP_REQ`, R337. -/
def Reg.PROT.RIP_REQ.addr : Nat := 0x02400010
def Reg.PROT.RIP_REQ.PG : Fld := ⟨Reg.PROT.RIP_REQ.addr, 16, 4⟩
def Reg.PROT.RIP_REQ.CMD : Fld := ⟨Reg.PROT.RIP_REQ.addr, 0, 3⟩
/-- `PROT.PROT_EVT_PG`, R337. -/
def Reg.PROT.PROT_EVT_PG.addr : Nat := 0x02400014
def Reg.PROT.PROT_EVT_PG.PG : Fld := ⟨Reg.PROT.PROT_EVT_PG.addr, 0, 16⟩
/-- `PROT.DSK_CORR`, R337. -/
def Reg.PROT.DSK_CORR.addr : Nat := 0x02400018
def Reg.PROT.DSK_CORR.COUNT : Fld := ⟨Reg.PROT.DSK_CORR.addr, 0, 32⟩
/-- `PROT.LR_STAT`, R337. -/
def Reg.PROT.LR_STAT.addr : Nat := 0x02400200
def Reg.PROT.LR_STAT.LR_OVF : Fld := ⟨Reg.PROT.LR_STAT.addr, 16, 16⟩
def Reg.PROT.LR_STAT.COUNT : Fld := ⟨Reg.PROT.LR_STAT.addr, 0, 5⟩
/-- `PROT.LR_CTRL`, R337. -/
def Reg.PROT.LR_CTRL.addr : Nat := 0x02400204
def Reg.PROT.LR_CTRL.POP : Fld := ⟨Reg.PROT.LR_CTRL.addr, 0, 1⟩
/-- `PROT.LR_HEAD_INFO`, R337. -/
def Reg.PROT.LR_HEAD_INFO.addr : Nat := 0x02400208
def Reg.PROT.LR_HEAD_INFO.PG : Fld := ⟨Reg.PROT.LR_HEAD_INFO.addr, 16, 4⟩
def Reg.PROT.LR_HEAD_INFO.CAUSE : Fld := ⟨Reg.PROT.LR_HEAD_INFO.addr, 0, 2⟩
/-- `PROT.LR_HEAD_FIRST`, R337. -/
def Reg.PROT.LR_HEAD_FIRST.addr : Nat := 0x0240020C
def Reg.PROT.LR_HEAD_FIRST.FSN : Fld := ⟨Reg.PROT.LR_HEAD_FIRST.addr, 0, 32⟩
/-- `PROT.LR_HEAD_LAST`, R337. -/
def Reg.PROT.LR_HEAD_LAST.addr : Nat := 0x02400210
def Reg.PROT.LR_HEAD_LAST.FSN : Fld := ⟨Reg.PROT.LR_HEAD_LAST.addr, 0, 32⟩
/-- `PROT.LR_HEAD_SEC_LO`, R337. -/
def Reg.PROT.LR_HEAD_SEC_LO.addr : Nat := 0x02400214
def Reg.PROT.LR_HEAD_SEC_LO.TS : Fld := ⟨Reg.PROT.LR_HEAD_SEC_LO.addr, 0, 32⟩
/-- `PROT.LR_HEAD_NS`, R337. -/
def Reg.PROT.LR_HEAD_NS.addr : Nat := 0x02400218
def Reg.PROT.LR_HEAD_NS.TS : Fld := ⟨Reg.PROT.LR_HEAD_NS.addr, 0, 30⟩
/-- `PROT.PG_CFG`, R338. -/
def Reg.PROT.PG_CFG.addr (g : Nat) : Nat := 0x02401000 + 0x00000100 * g
def Reg.PROT.PG_CFG.EN (g : Nat) : Fld := ⟨Reg.PROT.PG_CFG.addr g, 31, 1⟩
def Reg.PROT.PG_CFG.KIND (g : Nat) : Fld := ⟨Reg.PROT.PG_CFG.addr g, 28, 3⟩
def Reg.PROT.PG_CFG.BIDIR (g : Nat) : Fld := ⟨Reg.PROT.PG_CFG.addr g, 24, 1⟩
def Reg.PROT.PG_CFG.REVERTIVE (g : Nat) : Fld := ⟨Reg.PROT.PG_CFG.addr g, 20, 1⟩
def Reg.PROT.PG_CFG.WORK (g : Nat) : Fld := ⟨Reg.PROT.PG_CFG.addr g, 16, 1⟩
def Reg.PROT.PG_CFG.BASE (g : Nat) : Fld := ⟨Reg.PROT.PG_CFG.addr g, 8, 5⟩
/-- `PROT.MEM_CFG`, R338. -/
def Reg.PROT.MEM_CFG.addr (g : Nat) : Nat := 0x02401004 + 0x00000100 * g
def Reg.PROT.MEM_CFG.CARRIER (g : Nat) : Fld := ⟨Reg.PROT.MEM_CFG.addr g, 12, 1⟩
def Reg.PROT.MEM_CFG.TRAIL (g : Nat) : Fld := ⟨Reg.PROT.MEM_CFG.addr g, 8, 4⟩
/-- `PROT.MEM_MASK`, R338. -/
def Reg.PROT.MEM_MASK.addr (g : Nat) (m : Nat) : Nat := 0x02401008 + 0x00000100 * g + 4 * m
def Reg.PROT.MEM_MASK.SLOTS (g : Nat) (m : Nat) : Fld := ⟨Reg.PROT.MEM_MASK.addr g m, 0, 32⟩
/-- `PROT.TIMER_CFG`, R338. -/
def Reg.PROT.TIMER_CFG.addr (g : Nat) : Nat := 0x02401030 + 0x00000100 * g
def Reg.PROT.TIMER_CFG.WTR (g : Nat) : Fld := ⟨Reg.PROT.TIMER_CFG.addr g, 16, 16⟩
def Reg.PROT.TIMER_CFG.HOLD_OFF (g : Nat) : Fld := ⟨Reg.PROT.TIMER_CFG.addr g, 0, 16⟩
/-- `PROT.DESK_CFG`, R338. -/
def Reg.PROT.DESK_CFG.addr (g : Nat) : Nat := 0x02401034 + 0x00000100 * g
def Reg.PROT.DESK_CFG.DESK (g : Nat) : Fld := ⟨Reg.PROT.DESK_CFG.addr g, 0, 9⟩
/-- `PROT.SD_CFG`, R338. -/
def Reg.PROT.SD_CFG.addr (g : Nat) : Nat := 0x02401038 + 0x00000100 * g
def Reg.PROT.SD_CFG.SD_EN (g : Nat) : Fld := ⟨Reg.PROT.SD_CFG.addr g, 31, 1⟩
def Reg.PROT.SD_CFG.SD_WIN (g : Nat) : Fld := ⟨Reg.PROT.SD_CFG.addr g, 16, 8⟩
def Reg.PROT.SD_CFG.SD_THR (g : Nat) : Fld := ⟨Reg.PROT.SD_CFG.addr g, 0, 16⟩
/-- `PROT.CMD`, R338. -/
def Reg.PROT.CMD.addr (g : Nat) : Nat := 0x0240103C + 0x00000100 * g
def Reg.PROT.CMD.CMD (g : Nat) : Fld := ⟨Reg.PROT.CMD.addr g, 0, 3⟩
/-- `PROT.PG_STAT`, R338. -/
def Reg.PROT.PG_STAT.addr (g : Nat) : Nat := 0x02401040 + 0x00000100 * g
def Reg.PROT.PG_STAT.ACTIVE (g : Nat) : Fld := ⟨Reg.PROT.PG_STAT.addr g, 31, 1⟩
def Reg.PROT.PG_STAT.REQ (g : Nat) : Fld := ⟨Reg.PROT.PG_STAT.addr g, 24, 4⟩
def Reg.PROT.PG_STAT.FAR_REQ (g : Nat) : Fld := ⟨Reg.PROT.PG_STAT.addr g, 20, 4⟩
def Reg.PROT.PG_STAT.SF_W (g : Nat) : Fld := ⟨Reg.PROT.PG_STAT.addr g, 15, 1⟩
def Reg.PROT.PG_STAT.SF_P (g : Nat) : Fld := ⟨Reg.PROT.PG_STAT.addr g, 14, 1⟩
def Reg.PROT.PG_STAT.SD_W (g : Nat) : Fld := ⟨Reg.PROT.PG_STAT.addr g, 13, 1⟩
def Reg.PROT.PG_STAT.SD_P (g : Nat) : Fld := ⟨Reg.PROT.PG_STAT.addr g, 12, 1⟩
def Reg.PROT.PG_STAT.ALIGNED (g : Nat) : Fld := ⟨Reg.PROT.PG_STAT.addr g, 8, 1⟩
def Reg.PROT.PG_STAT.FOP_PM (g : Nat) : Fld := ⟨Reg.PROT.PG_STAT.addr g, 6, 1⟩
def Reg.PROT.PG_STAT.FOP_NR (g : Nat) : Fld := ⟨Reg.PROT.PG_STAT.addr g, 5, 1⟩
def Reg.PROT.PG_STAT.APS_LOSS (g : Nat) : Fld := ⟨Reg.PROT.PG_STAT.addr g, 4, 1⟩
def Reg.PROT.PG_STAT.EN_ACTIVE (g : Nat) : Fld := ⟨Reg.PROT.PG_STAT.addr g, 0, 1⟩
/-- `PROT.DIFF_DLY`, R338. -/
def Reg.PROT.DIFF_DLY.addr (g : Nat) : Nat := 0x02401044 + 0x00000100 * g
def Reg.PROT.DIFF_DLY.NS (g : Nat) : Fld := ⟨Reg.PROT.DIFF_DLY.addr g, 0, 32⟩
/-- `PROT.WTR_LEFT`, R338. -/
def Reg.PROT.WTR_LEFT.addr (g : Nat) : Nat := 0x02401048 + 0x00000100 * g
def Reg.PROT.WTR_LEFT.SECS (g : Nat) : Fld := ⟨Reg.PROT.WTR_LEFT.addr g, 0, 16⟩
/-- `PROT.LAST_INT`, R338. -/
def Reg.PROT.LAST_INT.addr (g : Nat) : Nat := 0x0240104C + 0x00000100 * g
def Reg.PROT.LAST_INT.NS (g : Nat) : Fld := ⟨Reg.PROT.LAST_INT.addr g, 0, 32⟩
/-- `PROT.SWITCH_CNT`, R338. -/
def Reg.PROT.SWITCH_CNT.addr (g : Nat) : Nat := 0x02401050 + 0x00000100 * g
def Reg.PROT.SWITCH_CNT.COUNT (g : Nat) : Fld := ⟨Reg.PROT.SWITCH_CNT.addr g, 0, 32⟩
/-- `PROT.APS_PEER`, R338. -/
def Reg.PROT.APS_PEER.addr (g : Nat) : Nat := 0x02401054 + 0x00000100 * g
def Reg.PROT.APS_PEER.NODE (g : Nat) : Fld := ⟨Reg.PROT.APS_PEER.addr g, 0, 14⟩
/-- `PROT.FRM_OUT_LO`, R338. -/
def Reg.PROT.FRM_OUT_LO.addr (g : Nat) : Nat := 0x02401058 + 0x00000100 * g
def Reg.PROT.FRM_OUT_LO.COUNT (g : Nat) : Fld := ⟨Reg.PROT.FRM_OUT_LO.addr g, 0, 32⟩
/-- `PROT.FRM_OUT_HI`, R338. -/
def Reg.PROT.FRM_OUT_HI.addr (g : Nat) : Nat := 0x0240105C + 0x00000100 * g
def Reg.PROT.FRM_OUT_HI.COUNT (g : Nat) : Fld := ⟨Reg.PROT.FRM_OUT_HI.addr g, 0, 32⟩
/-- `PROT.LOST_FRM_LO`, R338. -/
def Reg.PROT.LOST_FRM_LO.addr (g : Nat) : Nat := 0x02401060 + 0x00000100 * g
def Reg.PROT.LOST_FRM_LO.COUNT (g : Nat) : Fld := ⟨Reg.PROT.LOST_FRM_LO.addr g, 0, 32⟩
/-- `PROT.LOST_FRM_HI`, R338. -/
def Reg.PROT.LOST_FRM_HI.addr (g : Nat) : Nat := 0x02401064 + 0x00000100 * g
def Reg.PROT.LOST_FRM_HI.COUNT (g : Nat) : Fld := ⟨Reg.PROT.LOST_FRM_HI.addr g, 0, 32⟩
/-- `PROT.LOST_RANGES`, R338. -/
def Reg.PROT.LOST_RANGES.addr (g : Nat) : Nat := 0x02401068 + 0x00000100 * g
def Reg.PROT.LOST_RANGES.COUNT (g : Nat) : Fld := ⟨Reg.PROT.LOST_RANGES.addr g, 0, 32⟩
/-- `PROT.UNCORR_OUT`, R338. -/
def Reg.PROT.UNCORR_OUT.addr (g : Nat) : Nat := 0x0240106C + 0x00000100 * g
def Reg.PROT.UNCORR_OUT.COUNT (g : Nat) : Fld := ⟨Reg.PROT.UNCORR_OUT.addr g, 0, 32⟩
/-- `PROT.SUBST_LO`, R338. -/
def Reg.PROT.SUBST_LO.addr (g : Nat) : Nat := 0x02401070 + 0x00000100 * g
def Reg.PROT.SUBST_LO.COUNT (g : Nat) : Fld := ⟨Reg.PROT.SUBST_LO.addr g, 0, 32⟩
/-- `PROT.SUBST_HI`, R338. -/
def Reg.PROT.SUBST_HI.addr (g : Nat) : Nat := 0x02401074 + 0x00000100 * g
def Reg.PROT.SUBST_HI.COUNT (g : Nat) : Fld := ⟨Reg.PROT.SUBST_HI.addr g, 0, 32⟩
/-- `PROT.DUP_DROP`, R338. -/
def Reg.PROT.DUP_DROP.addr (g : Nat) : Nat := 0x02401078 + 0x00000100 * g
def Reg.PROT.DUP_DROP.COUNT (g : Nat) : Fld := ⟨Reg.PROT.DUP_DROP.addr g, 0, 32⟩
/-- `PROT.RESTARTS`, R338. -/
def Reg.PROT.RESTARTS.addr (g : Nat) : Nat := 0x0240107C + 0x00000100 * g
def Reg.PROT.RESTARTS.COUNT (g : Nat) : Fld := ⟨Reg.PROT.RESTARTS.addr g, 0, 32⟩
/-- `PROT.LAST_FIRST`, R338. -/
def Reg.PROT.LAST_FIRST.addr (g : Nat) : Nat := 0x02401080 + 0x00000100 * g
def Reg.PROT.LAST_FIRST.FSN (g : Nat) : Fld := ⟨Reg.PROT.LAST_FIRST.addr g, 0, 32⟩
/-- `PROT.LAST_LAST`, R338. -/
def Reg.PROT.LAST_LAST.addr (g : Nat) : Nat := 0x02401084 + 0x00000100 * g
def Reg.PROT.LAST_LAST.FSN (g : Nat) : Fld := ⟨Reg.PROT.LAST_LAST.addr g, 0, 32⟩

end Sys2Proof.Machine
end

