-- ==== Sys2Proof/Machine/RegFieldsLine.lean ====
section
/-! DEFINITION. The registers of the carrier blocks (LXA, and LXB at 0x80_0000 above): an address for each register, a field for each field, as the register tables of spec/ give them (R64 to R68, R98, R99, R115, R116, R139, R140, R164, R165, R192 to R194, R213 to R216, R367, R368). -/

namespace Sys2Proof.Machine

/-- `TXD.CTRL`, R64. -/
def Reg.TXD.CTRL.addr (c : Carrier) : Nat := c.base + 0x01000000
def Reg.TXD.CTRL.RECONF_RAMP (c : Carrier) : Fld := ⟨Reg.TXD.CTRL.addr c, 2, 1⟩
def Reg.TXD.CTRL.MUTE (c : Carrier) : Fld := ⟨Reg.TXD.CTRL.addr c, 1, 1⟩
def Reg.TXD.CTRL.TX_EN (c : Carrier) : Fld := ⟨Reg.TXD.CTRL.addr c, 0, 1⟩
/-- `TXD.LINE_CFG`, R65. -/
def Reg.TXD.LINE_CFG.addr (c : Carrier) : Nat := c.base + 0x01000004
def Reg.TXD.LINE_CFG.PILOT_BOOST (c : Carrier) : Fld := ⟨Reg.TXD.LINE_CFG.addr c, 30, 2⟩
def Reg.TXD.LINE_CFG.SUBC_EN (c : Carrier) : Fld := ⟨Reg.TXD.LINE_CFG.addr c, 29, 1⟩
def Reg.TXD.LINE_CFG.ROLLOFF (c : Carrier) : Fld := ⟨Reg.TXD.LINE_CFG.addr c, 24, 3⟩
def Reg.TXD.LINE_CFG.ENTROPY (c : Carrier) : Fld := ⟨Reg.TXD.LINE_CFG.addr c, 16, 8⟩
def Reg.TXD.LINE_CFG.FORMAT (c : Carrier) : Fld := ⟨Reg.TXD.LINE_CFG.addr c, 8, 2⟩
def Reg.TXD.LINE_CFG.OTUCN (c : Carrier) : Fld := ⟨Reg.TXD.LINE_CFG.addr c, 0, 5⟩
/-- `TXD.LINE_STAT`, R66. -/
def Reg.TXD.LINE_STAT.addr (c : Carrier) : Nat := c.base + 0x01000008
def Reg.TXD.LINE_STAT.PILOT_BOOST (c : Carrier) : Fld := ⟨Reg.TXD.LINE_STAT.addr c, 30, 2⟩
def Reg.TXD.LINE_STAT.SUBC_EN (c : Carrier) : Fld := ⟨Reg.TXD.LINE_STAT.addr c, 29, 1⟩
def Reg.TXD.LINE_STAT.ROLLOFF (c : Carrier) : Fld := ⟨Reg.TXD.LINE_STAT.addr c, 24, 3⟩
def Reg.TXD.LINE_STAT.ENTROPY (c : Carrier) : Fld := ⟨Reg.TXD.LINE_STAT.addr c, 16, 8⟩
def Reg.TXD.LINE_STAT.FORMAT (c : Carrier) : Fld := ⟨Reg.TXD.LINE_STAT.addr c, 8, 2⟩
def Reg.TXD.LINE_STAT.OTUCN (c : Carrier) : Fld := ⟨Reg.TXD.LINE_STAT.addr c, 0, 5⟩
def Reg.TXD.LINE_STAT.RECONF_PEND (c : Carrier) : Fld := ⟨Reg.TXD.LINE_STAT.addr c, 15, 1⟩
def Reg.TXD.LINE_STAT.STATE (c : Carrier) : Fld := ⟨Reg.TXD.LINE_STAT.addr c, 12, 3⟩
/-- `TXD.RS_STAT`, R67. -/
def Reg.TXD.RS_STAT.addr (c : Carrier) : Nat := c.base + 0x0100000C
def Reg.TXD.RS_STAT.RS (c : Carrier) : Fld := ⟨Reg.TXD.RS_STAT.addr c, 0, 13⟩
/-- `TXD.RS_MIN`, R67. -/
def Reg.TXD.RS_MIN.addr (c : Carrier) : Nat := c.base + 0x01000010
def Reg.TXD.RS_MIN.RS_MIN (c : Carrier) : Fld := ⟨Reg.TXD.RS_MIN.addr c, 0, 25⟩
/-- `TXD.PS_COMP`, R67. -/
def Reg.TXD.PS_COMP.addr (c : Carrier) : Nat := c.base + 0x01000014
def Reg.TXD.PS_COMP.N7 (c : Carrier) : Fld := ⟨Reg.TXD.PS_COMP.addr c, 24, 8⟩
def Reg.TXD.PS_COMP.N5 (c : Carrier) : Fld := ⟨Reg.TXD.PS_COMP.addr c, 16, 8⟩
def Reg.TXD.PS_COMP.N3 (c : Carrier) : Fld := ⟨Reg.TXD.PS_COMP.addr c, 8, 8⟩
def Reg.TXD.PS_COMP.N1 (c : Carrier) : Fld := ⟨Reg.TXD.PS_COMP.addr c, 0, 8⟩
/-- `TXD.RAMP_CFG`, R67. -/
def Reg.TXD.RAMP_CFG.addr (c : Carrier) : Nat := c.base + 0x01000020
def Reg.TXD.RAMP_CFG.TIME (c : Carrier) : Fld := ⟨Reg.TXD.RAMP_CFG.addr c, 4, 20⟩
def Reg.TXD.RAMP_CFG.MODE (c : Carrier) : Fld := ⟨Reg.TXD.RAMP_CFG.addr c, 0, 2⟩
/-- `TXD.RAMP_STAT`, R67. -/
def Reg.TXD.RAMP_STAT.addr (c : Carrier) : Nat := c.base + 0x01000024
def Reg.TXD.RAMP_STAT.ATTEN (c : Carrier) : Fld := ⟨Reg.TXD.RAMP_STAT.addr c, 0, 10⟩
/-- `TXD.SKEW_XI`, R68. -/
def Reg.TXD.SKEW_XI.addr (c : Carrier) : Nat := c.base + 0x01000030
def Reg.TXD.SKEW_XI.DELAY (c : Carrier) : Fld := ⟨Reg.TXD.SKEW_XI.addr c, 0, 10⟩
/-- `TXD.SKEW_XQ`, R68. -/
def Reg.TXD.SKEW_XQ.addr (c : Carrier) : Nat := c.base + 0x01000034
def Reg.TXD.SKEW_XQ.DELAY (c : Carrier) : Fld := ⟨Reg.TXD.SKEW_XQ.addr c, 0, 10⟩
/-- `TXD.SKEW_YI`, R68. -/
def Reg.TXD.SKEW_YI.addr (c : Carrier) : Nat := c.base + 0x01000038
def Reg.TXD.SKEW_YI.DELAY (c : Carrier) : Fld := ⟨Reg.TXD.SKEW_YI.addr c, 0, 10⟩
/-- `TXD.SKEW_YQ`, R68. -/
def Reg.TXD.SKEW_YQ.addr (c : Carrier) : Nat := c.base + 0x0100003C
def Reg.TXD.SKEW_YQ.DELAY (c : Carrier) : Fld := ⟨Reg.TXD.SKEW_YQ.addr c, 0, 10⟩
/-- `TXD.DAC_SCALE`, R68. -/
def Reg.TXD.DAC_SCALE.addr (c : Carrier) : Nat := c.base + 0x01000040
def Reg.TXD.DAC_SCALE.RMS (c : Carrier) : Fld := ⟨Reg.TXD.DAC_SCALE.addr c, 0, 7⟩
/-- `TXD.CLIP_THR`, R68. -/
def Reg.TXD.CLIP_THR.addr (c : Carrier) : Nat := c.base + 0x01000044
def Reg.TXD.CLIP_THR.THR (c : Carrier) : Fld := ⟨Reg.TXD.CLIP_THR.addr c, 0, 16⟩
/-- `TXD.CLIP_CNT_LO`, R68. -/
def Reg.TXD.CLIP_CNT_LO.addr (c : Carrier) : Nat := c.base + 0x01000048
def Reg.TXD.CLIP_CNT_LO.COUNT (c : Carrier) : Fld := ⟨Reg.TXD.CLIP_CNT_LO.addr c, 0, 32⟩
/-- `TXD.CLIP_CNT_HI`, R68. -/
def Reg.TXD.CLIP_CNT_HI.addr (c : Carrier) : Nat := c.base + 0x0100004C
def Reg.TXD.CLIP_CNT_HI.COUNT (c : Carrier) : Fld := ⟨Reg.TXD.CLIP_CNT_HI.addr c, 0, 32⟩
/-- `TXD.MASK_CFG`, R68. -/
def Reg.TXD.MASK_CFG.addr (c : Carrier) : Nat := c.base + 0x01000050
def Reg.TXD.MASK_CFG.AVG (c : Carrier) : Fld := ⟨Reg.TXD.MASK_CFG.addr c, 16, 4⟩
def Reg.TXD.MASK_CFG.ENTRIES (c : Carrier) : Fld := ⟨Reg.TXD.MASK_CFG.addr c, 8, 4⟩
def Reg.TXD.MASK_CFG.ACTION (c : Carrier) : Fld := ⟨Reg.TXD.MASK_CFG.addr c, 1, 1⟩
def Reg.TXD.MASK_CFG.EN (c : Carrier) : Fld := ⟨Reg.TXD.MASK_CFG.addr c, 0, 1⟩
/-- `TXD.MASK_STAT`, R68. -/
def Reg.TXD.MASK_STAT.addr (c : Carrier) : Nat := c.base + 0x01000054
def Reg.TXD.MASK_STAT.BAD_TABLE (c : Carrier) : Fld := ⟨Reg.TXD.MASK_STAT.addr c, 20, 1⟩
def Reg.TXD.MASK_STAT.WORST_ENTRY (c : Carrier) : Fld := ⟨Reg.TXD.MASK_STAT.addr c, 16, 4⟩
def Reg.TXD.MASK_STAT.WORST_MARGIN (c : Carrier) : Fld := ⟨Reg.TXD.MASK_STAT.addr c, 0, 16⟩
/-- `TXD.MASK`, R68. -/
def Reg.TXD.MASK.addr (c : Carrier) (k : Nat) : Nat := c.base + 0x01000060 + 4 * k
def Reg.TXD.MASK.LIMIT (c : Carrier) (k : Nat) : Fld := ⟨Reg.TXD.MASK.addr c k, 16, 16⟩
def Reg.TXD.MASK.OFFSET (c : Carrier) (k : Nat) : Fld := ⟨Reg.TXD.MASK.addr c k, 0, 16⟩
/-- `TXD.PEQ`, R68. -/
def Reg.TXD.PEQ.addr (c : Carrier) (d : Nat) (p : Nat) : Nat := c.base + 0x01000100 + 128 * d + 4 * p
def Reg.TXD.PEQ.GAIN (c : Carrier) (d : Nat) (p : Nat) : Fld := ⟨Reg.TXD.PEQ.addr c d p, 0, 9⟩
/-- `TXD.PD_LUT`, R68. -/
def Reg.TXD.PD_LUT.addr (c : Carrier) (d : Nat) (p : Nat) : Nat := c.base + 0x01000400 + 0x00000100 * d + 4 * p
def Reg.TXD.PD_LUT.OUT (c : Carrier) (d : Nat) (p : Nat) : Fld := ⟨Reg.TXD.PD_LUT.addr c d p, 0, 11⟩
/-- `RXD.RX_CFG`, R98. -/
def Reg.RXD.RX_CFG.addr (c : Carrier) : Nat := c.base + 0x01100000
def Reg.RXD.RX_CFG.CD_MODE (c : Carrier) : Fld := ⟨Reg.RXD.RX_CFG.addr c, 8, 1⟩
def Reg.RXD.RX_CFG.NLC_STEPS (c : Carrier) : Fld := ⟨Reg.RXD.RX_CFG.addr c, 4, 3⟩
def Reg.RXD.RX_CFG.LOWLAT (c : Carrier) : Fld := ⟨Reg.RXD.RX_CFG.addr c, 0, 1⟩
/-- `RXD.RX_STAT`, R98. -/
def Reg.RXD.RX_STAT.addr (c : Carrier) : Nat := c.base + 0x01100004
def Reg.RXD.RX_STAT.REFUSE_CAUSE (c : Carrier) : Fld := ⟨Reg.RXD.RX_STAT.addr c, 28, 4⟩
def Reg.RXD.RX_STAT.NLC_BYPASS (c : Carrier) : Fld := ⟨Reg.RXD.RX_STAT.addr c, 16, 1⟩
def Reg.RXD.RX_STAT.NLC_ACTIVE (c : Carrier) : Fld := ⟨Reg.RXD.RX_STAT.addr c, 12, 3⟩
def Reg.RXD.RX_STAT.TAPS_ACTIVE (c : Carrier) : Fld := ⟨Reg.RXD.RX_STAT.addr c, 8, 2⟩
def Reg.RXD.RX_STAT.LOWLAT_ACTIVE (c : Carrier) : Fld := ⟨Reg.RXD.RX_STAT.addr c, 7, 1⟩
def Reg.RXD.RX_STAT.CD_MODE_ACTIVE (c : Carrier) : Fld := ⟨Reg.RXD.RX_STAT.addr c, 6, 1⟩
def Reg.RXD.RX_STAT.CPR_LOCK (c : Carrier) : Fld := ⟨Reg.RXD.RX_STAT.addr c, 3, 1⟩
def Reg.RXD.RX_STAT.CFR_LOCK (c : Carrier) : Fld := ⟨Reg.RXD.RX_STAT.addr c, 2, 1⟩
def Reg.RXD.RX_STAT.TR_LOCK (c : Carrier) : Fld := ⟨Reg.RXD.RX_STAT.addr c, 1, 1⟩
def Reg.RXD.RX_STAT.BFLY_CONV (c : Carrier) : Fld := ⟨Reg.RXD.RX_STAT.addr c, 0, 1⟩
/-- `RXD.CD_SET`, R98. -/
def Reg.RXD.CD_SET.addr (c : Carrier) : Nat := c.base + 0x01100008
def Reg.RXD.CD_SET.CD (c : Carrier) : Fld := ⟨Reg.RXD.CD_SET.addr c, 0, 32⟩
/-- `RXD.CD_SPAN`, R98. -/
def Reg.RXD.CD_SPAN.addr (c : Carrier) : Nat := c.base + 0x0110000C
def Reg.RXD.CD_SPAN.SPAN (c : Carrier) : Fld := ⟨Reg.RXD.CD_SPAN.addr c, 0, 18⟩
/-- `RXD.CD_TRACK`, R98. -/
def Reg.RXD.CD_TRACK.addr (c : Carrier) : Nat := c.base + 0x01100010
def Reg.RXD.CD_TRACK.STEP (c : Carrier) : Fld := ⟨Reg.RXD.CD_TRACK.addr c, 16, 8⟩
def Reg.RXD.CD_TRACK.THR (c : Carrier) : Fld := ⟨Reg.RXD.CD_TRACK.addr c, 4, 8⟩
def Reg.RXD.CD_TRACK.EN (c : Carrier) : Fld := ⟨Reg.RXD.CD_TRACK.addr c, 0, 1⟩
/-- `RXD.BFLY_CFG`, R98. -/
def Reg.RXD.BFLY_CFG.addr (c : Carrier) : Nat := c.base + 0x01100014
def Reg.RXD.BFLY_CFG.MU_TRK (c : Carrier) : Fld := ⟨Reg.RXD.BFLY_CFG.addr c, 12, 4⟩
def Reg.RXD.BFLY_CFG.MU_ACQ (c : Carrier) : Fld := ⟨Reg.RXD.BFLY_CFG.addr c, 8, 4⟩
def Reg.RXD.BFLY_CFG.ALG (c : Carrier) : Fld := ⟨Reg.RXD.BFLY_CFG.addr c, 4, 1⟩
def Reg.RXD.BFLY_CFG.TAPS (c : Carrier) : Fld := ⟨Reg.RXD.BFLY_CFG.addr c, 0, 2⟩
/-- `RXD.LOOP_CFG`, R98. -/
def Reg.RXD.LOOP_CFG.addr (c : Carrier) : Nat := c.base + 0x01100018
def Reg.RXD.LOOP_CFG.BPS_EN (c : Carrier) : Fld := ⟨Reg.RXD.LOOP_CFG.addr c, 12, 1⟩
def Reg.RXD.LOOP_CFG.CPR_W (c : Carrier) : Fld := ⟨Reg.RXD.LOOP_CFG.addr c, 8, 3⟩
def Reg.RXD.LOOP_CFG.CFR_BW (c : Carrier) : Fld := ⟨Reg.RXD.LOOP_CFG.addr c, 4, 2⟩
def Reg.RXD.LOOP_CFG.TR_BW (c : Carrier) : Fld := ⟨Reg.RXD.LOOP_CFG.addr c, 0, 2⟩
/-- `RXD.ADC_STAT`, R98. -/
def Reg.RXD.ADC_STAT.addr (c : Carrier) (l : Nat) : Nat := c.base + 0x01100020 + 4 * l
def Reg.RXD.ADC_STAT.CLIPPED (c : Carrier) (l : Nat) : Fld := ⟨Reg.RXD.ADC_STAT.addr c l, 16, 1⟩
def Reg.RXD.ADC_STAT.RMS (c : Carrier) (l : Nat) : Fld := ⟨Reg.RXD.ADC_STAT.addr c l, 0, 12⟩
/-- `RXD.ADC_CLIP_THR`, R98. -/
def Reg.RXD.ADC_CLIP_THR.addr (c : Carrier) : Nat := c.base + 0x01100030
def Reg.RXD.ADC_CLIP_THR.THR (c : Carrier) : Fld := ⟨Reg.RXD.ADC_CLIP_THR.addr c, 0, 16⟩
/-- `RXD.ADC_CLIP_CNT_LO`, R98. -/
def Reg.RXD.ADC_CLIP_CNT_LO.addr (c : Carrier) : Nat := c.base + 0x01100038
def Reg.RXD.ADC_CLIP_CNT_LO.COUNT (c : Carrier) : Fld := ⟨Reg.RXD.ADC_CLIP_CNT_LO.addr c, 0, 32⟩
/-- `RXD.ADC_CLIP_CNT_HI`, R98. -/
def Reg.RXD.ADC_CLIP_CNT_HI.addr (c : Carrier) : Nat := c.base + 0x0110003C
def Reg.RXD.ADC_CLIP_CNT_HI.COUNT (c : Carrier) : Fld := ⟨Reg.RXD.ADC_CLIP_CNT_HI.addr c, 0, 32⟩
/-- `RXD.FE_CFG`, R98. -/
def Reg.RXD.FE_CFG.addr (c : Carrier) : Nat := c.base + 0x01100040
def Reg.RXD.FE_CFG.IQ_EN (c : Carrier) : Fld := ⟨Reg.RXD.FE_CFG.addr c, 4, 1⟩
def Reg.RXD.FE_CFG.GAIN_EN (c : Carrier) : Fld := ⟨Reg.RXD.FE_CFG.addr c, 3, 1⟩
def Reg.RXD.FE_CFG.OFS_EN (c : Carrier) : Fld := ⟨Reg.RXD.FE_CFG.addr c, 2, 1⟩
def Reg.RXD.FE_CFG.IL_TRACK (c : Carrier) : Fld := ⟨Reg.RXD.FE_CFG.addr c, 0, 1⟩
/-- `RXD.FE_SKEW_XI`, R98. -/
def Reg.RXD.FE_SKEW_XI.addr (c : Carrier) : Nat := c.base + 0x01100044
def Reg.RXD.FE_SKEW_XI.DELAY (c : Carrier) : Fld := ⟨Reg.RXD.FE_SKEW_XI.addr c, 0, 10⟩
/-- `RXD.FE_SKEW_XQ`, R98. -/
def Reg.RXD.FE_SKEW_XQ.addr (c : Carrier) : Nat := c.base + 0x01100048
def Reg.RXD.FE_SKEW_XQ.DELAY (c : Carrier) : Fld := ⟨Reg.RXD.FE_SKEW_XQ.addr c, 0, 10⟩
/-- `RXD.FE_SKEW_YI`, R98. -/
def Reg.RXD.FE_SKEW_YI.addr (c : Carrier) : Nat := c.base + 0x0110004C
def Reg.RXD.FE_SKEW_YI.DELAY (c : Carrier) : Fld := ⟨Reg.RXD.FE_SKEW_YI.addr c, 0, 10⟩
/-- `RXD.FE_SKEW_YQ`, R98. -/
def Reg.RXD.FE_SKEW_YQ.addr (c : Carrier) : Nat := c.base + 0x01100050
def Reg.RXD.FE_SKEW_YQ.DELAY (c : Carrier) : Fld := ⟨Reg.RXD.FE_SKEW_YQ.addr c, 0, 10⟩
/-- `RXD.NLC_SPAN`, R98. -/
def Reg.RXD.NLC_SPAN.addr (c : Carrier) (s : Nat) : Nat := c.base + 0x01100060 + 4 * s
def Reg.RXD.NLC_SPAN.DISP (c : Carrier) (s : Nat) : Fld := ⟨Reg.RXD.NLC_SPAN.addr c s, 16, 16⟩
def Reg.RXD.NLC_SPAN.GAMMA (c : Carrier) (s : Nat) : Fld := ⟨Reg.RXD.NLC_SPAN.addr c s, 0, 10⟩
/-- `RXD.ENG_GRP_STAT`, R98. -/
def Reg.RXD.ENG_GRP_STAT.addr (c : Carrier) : Nat := c.base + 0x01100080
def Reg.RXD.ENG_GRP_STAT.FENCED (c : Carrier) : Fld := ⟨Reg.RXD.ENG_GRP_STAT.addr c, 16, 9⟩
def Reg.RXD.ENG_GRP_STAT.IN_SERVICE (c : Carrier) : Fld := ⟨Reg.RXD.ENG_GRP_STAT.addr c, 4, 4⟩
def Reg.RXD.ENG_GRP_STAT.RESERVE (c : Carrier) : Fld := ⟨Reg.RXD.ENG_GRP_STAT.addr c, 0, 4⟩
/-- `RXD.ENG_STAT`, R98. -/
def Reg.RXD.ENG_STAT.addr (c : Carrier) (e : Nat) : Nat := c.base + 0x01100090 + 4 * e
def Reg.RXD.ENG_STAT.BLOCK_ERR (c : Carrier) (e : Nat) : Fld := ⟨Reg.RXD.ENG_STAT.addr c e, 16, 16⟩
def Reg.RXD.ENG_STAT.TEST_ACTIVE (c : Carrier) (e : Nat) : Fld := ⟨Reg.RXD.ENG_STAT.addr c e, 2, 1⟩
def Reg.RXD.ENG_STAT.ROLE (c : Carrier) (e : Nat) : Fld := ⟨Reg.RXD.ENG_STAT.addr c e, 0, 2⟩
/-- `RXD.QUAL_CFG`, R99. -/
def Reg.RXD.QUAL_CFG.addr (c : Carrier) : Nat := c.base + 0x01100100
def Reg.RXD.QUAL_CFG.SNR_THR (c : Carrier) : Fld := ⟨Reg.RXD.QUAL_CFG.addr c, 16, 16⟩
def Reg.RXD.QUAL_CFG.INTERVAL (c : Carrier) : Fld := ⟨Reg.RXD.QUAL_CFG.addr c, 0, 3⟩
/-- `RXD.QUAL_SEQ`, R99. -/
def Reg.RXD.QUAL_SEQ.addr (c : Carrier) : Nat := c.base + 0x01100104
def Reg.RXD.QUAL_SEQ.VALID (c : Carrier) : Fld := ⟨Reg.RXD.QUAL_SEQ.addr c, 31, 1⟩
def Reg.RXD.QUAL_SEQ.SEQ (c : Carrier) : Fld := ⟨Reg.RXD.QUAL_SEQ.addr c, 0, 31⟩
/-- `RXD.QUAL_EVM_XY`, R99. -/
def Reg.RXD.QUAL_EVM_XY.addr (c : Carrier) : Nat := c.base + 0x01100110
def Reg.RXD.QUAL_EVM_XY.EVM_Y (c : Carrier) : Fld := ⟨Reg.RXD.QUAL_EVM_XY.addr c, 16, 16⟩
def Reg.RXD.QUAL_EVM_XY.EVM_X (c : Carrier) : Fld := ⟨Reg.RXD.QUAL_EVM_XY.addr c, 0, 16⟩
/-- `RXD.QUAL_EVM`, R99. -/
def Reg.RXD.QUAL_EVM.addr (c : Carrier) : Nat := c.base + 0x01100114
def Reg.RXD.QUAL_EVM.EVM (c : Carrier) : Fld := ⟨Reg.RXD.QUAL_EVM.addr c, 0, 16⟩
/-- `RXD.QUAL_SNR`, R99. -/
def Reg.RXD.QUAL_SNR.addr (c : Carrier) : Nat := c.base + 0x01100118
def Reg.RXD.QUAL_SNR.SNR (c : Carrier) : Fld := ⟨Reg.RXD.QUAL_SNR.addr c, 0, 16⟩
/-- `RXD.QUAL_SNR_XY`, R99. -/
def Reg.RXD.QUAL_SNR_XY.addr (c : Carrier) : Nat := c.base + 0x0110011C
def Reg.RXD.QUAL_SNR_XY.SNR_Y (c : Carrier) : Fld := ⟨Reg.RXD.QUAL_SNR_XY.addr c, 16, 16⟩
def Reg.RXD.QUAL_SNR_XY.SNR_X (c : Carrier) : Fld := ⟨Reg.RXD.QUAL_SNR_XY.addr c, 0, 16⟩
/-- `RXD.QUAL_BITS_LO`, R99. -/
def Reg.RXD.QUAL_BITS_LO.addr (c : Carrier) : Nat := c.base + 0x01100120
def Reg.RXD.QUAL_BITS_LO.BITS (c : Carrier) : Fld := ⟨Reg.RXD.QUAL_BITS_LO.addr c, 0, 32⟩
/-- `RXD.QUAL_BITS_HI`, R99. -/
def Reg.RXD.QUAL_BITS_HI.addr (c : Carrier) : Nat := c.base + 0x01100124
def Reg.RXD.QUAL_BITS_HI.BITS (c : Carrier) : Fld := ⟨Reg.RXD.QUAL_BITS_HI.addr c, 0, 32⟩
/-- `RXD.QUAL_ERRS_LO`, R99. -/
def Reg.RXD.QUAL_ERRS_LO.addr (c : Carrier) : Nat := c.base + 0x01100128
def Reg.RXD.QUAL_ERRS_LO.ERRS (c : Carrier) : Fld := ⟨Reg.RXD.QUAL_ERRS_LO.addr c, 0, 32⟩
/-- `RXD.QUAL_ERRS_HI`, R99. -/
def Reg.RXD.QUAL_ERRS_HI.addr (c : Carrier) : Nat := c.base + 0x0110012C
def Reg.RXD.QUAL_ERRS_HI.ERRS (c : Carrier) : Fld := ⟨Reg.RXD.QUAL_ERRS_HI.addr c, 0, 32⟩
/-- `RXD.QUAL_GMI`, R99. -/
def Reg.RXD.QUAL_GMI.addr (c : Carrier) : Nat := c.base + 0x01100130
def Reg.RXD.QUAL_GMI.GMI (c : Carrier) : Fld := ⟨Reg.RXD.QUAL_GMI.addr c, 0, 16⟩
/-- `RXD.QUAL_CD`, R99. -/
def Reg.RXD.QUAL_CD.addr (c : Carrier) : Nat := c.base + 0x01100134
def Reg.RXD.QUAL_CD.CD (c : Carrier) : Fld := ⟨Reg.RXD.QUAL_CD.addr c, 0, 32⟩
/-- `RXD.QUAL_DGD_PDL`, R99. -/
def Reg.RXD.QUAL_DGD_PDL.addr (c : Carrier) : Nat := c.base + 0x01100138
def Reg.RXD.QUAL_DGD_PDL.PDL (c : Carrier) : Fld := ⟨Reg.RXD.QUAL_DGD_PDL.addr c, 16, 16⟩
def Reg.RXD.QUAL_DGD_PDL.DGD (c : Carrier) : Fld := ⟨Reg.RXD.QUAL_DGD_PDL.addr c, 0, 16⟩
/-- `RXD.QUAL_FOFS`, R99. -/
def Reg.RXD.QUAL_FOFS.addr (c : Carrier) : Nat := c.base + 0x0110013C
def Reg.RXD.QUAL_FOFS.FOFS (c : Carrier) : Fld := ⟨Reg.RXD.QUAL_FOFS.addr c, 0, 16⟩
/-- `RXD.QUAL_SLIPS`, R99. -/
def Reg.RXD.QUAL_SLIPS.addr (c : Carrier) : Nat := c.base + 0x01100140
def Reg.RXD.QUAL_SLIPS.SLIPS (c : Carrier) : Fld := ⟨Reg.RXD.QUAL_SLIPS.addr c, 0, 16⟩
/-- `ACQ.ACQ_CTRL`, R115. -/
def Reg.ACQ.ACQ_CTRL.addr (c : Carrier) : Nat := c.base + 0x01200000
def Reg.ACQ.ACQ_CTRL.COLD (c : Carrier) : Fld := ⟨Reg.ACQ.ACQ_CTRL.addr c, 5, 1⟩
def Reg.ACQ.ACQ_CTRL.RESTART (c : Carrier) : Fld := ⟨Reg.ACQ.ACQ_CTRL.addr c, 4, 1⟩
def Reg.ACQ.ACQ_CTRL.ACQ_EN (c : Carrier) : Fld := ⟨Reg.ACQ.ACQ_CTRL.addr c, 0, 1⟩
/-- `ACQ.ACQ_CFG`, R115. -/
def Reg.ACQ.ACQ_CFG.addr (c : Carrier) : Nat := c.base + 0x01200004
def Reg.ACQ.ACQ_CFG.LOS_WINS (c : Carrier) : Fld := ⟨Reg.ACQ.ACQ_CFG.addr c, 24, 3⟩
def Reg.ACQ.ACQ_CFG.SD_WINS (c : Carrier) : Fld := ⟨Reg.ACQ.ACQ_CFG.addr c, 16, 8⟩
def Reg.ACQ.ACQ_CFG.LOS_THR (c : Carrier) : Fld := ⟨Reg.ACQ.ACQ_CFG.addr c, 8, 8⟩
def Reg.ACQ.ACQ_CFG.SD_THR (c : Carrier) : Fld := ⟨Reg.ACQ.ACQ_CFG.addr c, 0, 8⟩
/-- `ACQ.TRAIN_CFG`, R115. -/
def Reg.ACQ.TRAIN_CFG.addr (c : Carrier) : Nat := c.base + 0x01200008
def Reg.ACQ.TRAIN_CFG.SCAN_THR (c : Carrier) : Fld := ⟨Reg.ACQ.TRAIN_CFG.addr c, 16, 8⟩
def Reg.ACQ.TRAIN_CFG.TC_THR (c : Carrier) : Fld := ⟨Reg.ACQ.TRAIN_CFG.addr c, 8, 8⟩
def Reg.ACQ.TRAIN_CFG.TRAIN_CONFIRM (c : Carrier) : Fld := ⟨Reg.ACQ.TRAIN_CFG.addr c, 0, 3⟩
/-- `ACQ.WARM_CFG`, R115. -/
def Reg.ACQ.WARM_CFG.addr (c : Carrier) : Nat := c.base + 0x0120000C
def Reg.ACQ.WARM_CFG.LOL_TIME (c : Carrier) : Fld := ⟨Reg.ACQ.WARM_CFG.addr c, 16, 8⟩
def Reg.ACQ.WARM_CFG.WARM_HOLD (c : Carrier) : Fld := ⟨Reg.ACQ.WARM_CFG.addr c, 0, 10⟩
/-- `ACQ.ACQ_STAT`, R116. -/
def Reg.ACQ.ACQ_STAT.addr (c : Carrier) : Nat := c.base + 0x01200010
def Reg.ACQ.ACQ_STAT.LAST_FAIL (c : Carrier) : Fld := ⟨Reg.ACQ.ACQ_STAT.addr c, 16, 4⟩
def Reg.ACQ.ACQ_STAT.ATTEMPTS (c : Carrier) : Fld := ⟨Reg.ACQ.ACQ_STAT.addr c, 8, 8⟩
def Reg.ACQ.ACQ_STAT.WARM_VALID (c : Carrier) : Fld := ⟨Reg.ACQ.ACQ_STAT.addr c, 5, 1⟩
def Reg.ACQ.ACQ_STAT.WARM (c : Carrier) : Fld := ⟨Reg.ACQ.ACQ_STAT.addr c, 4, 1⟩
def Reg.ACQ.ACQ_STAT.STATE (c : Carrier) : Fld := ⟨Reg.ACQ.ACQ_STAT.addr c, 0, 4⟩
/-- `ACQ.ACQ_TIME`, R116. -/
def Reg.ACQ.ACQ_TIME.addr (c : Carrier) : Nat := c.base + 0x01200014
def Reg.ACQ.ACQ_TIME.TIME (c : Carrier) : Fld := ⟨Reg.ACQ.ACQ_TIME.addr c, 0, 32⟩
/-- `ACQ.COARSE_FOFS`, R116. -/
def Reg.ACQ.COARSE_FOFS.addr (c : Carrier) : Nat := c.base + 0x01200018
def Reg.ACQ.COARSE_FOFS.FOFS (c : Carrier) : Fld := ⟨Reg.ACQ.COARSE_FOFS.addr c, 0, 16⟩
/-- `ACQ.SCAN_CD`, R116. -/
def Reg.ACQ.SCAN_CD.addr (c : Carrier) : Nat := c.base + 0x0120001C
def Reg.ACQ.SCAN_CD.CD (c : Carrier) : Fld := ⟨Reg.ACQ.SCAN_CD.addr c, 0, 32⟩
/-- `ACQ.SCAN_INFO`, R116. -/
def Reg.ACQ.SCAN_INFO.addr (c : Carrier) : Nat := c.base + 0x01200020
def Reg.ACQ.SCAN_INFO.NC (c : Carrier) : Fld := ⟨Reg.ACQ.SCAN_INFO.addr c, 16, 16⟩
def Reg.ACQ.SCAN_INFO.STEP (c : Carrier) : Fld := ⟨Reg.ACQ.SCAN_INFO.addr c, 0, 16⟩
/-- `ACQ.FALSE_TRAIN_CNT`, R116. -/
def Reg.ACQ.FALSE_TRAIN_CNT.addr (c : Carrier) : Nat := c.base + 0x01200024
def Reg.ACQ.FALSE_TRAIN_CNT.COUNT (c : Carrier) : Fld := ⟨Reg.ACQ.FALSE_TRAIN_CNT.addr c, 0, 16⟩
/-- `ACQ.ACQ_COUNT`, R116. -/
def Reg.ACQ.ACQ_COUNT.addr (c : Carrier) : Nat := c.base + 0x01200028
def Reg.ACQ.ACQ_COUNT.WARM_OK (c : Carrier) : Fld := ⟨Reg.ACQ.ACQ_COUNT.addr c, 16, 16⟩
def Reg.ACQ.ACQ_COUNT.COLD_OK (c : Carrier) : Fld := ⟨Reg.ACQ.ACQ_COUNT.addr c, 0, 16⟩
/-- `FEC.FEC_CFG`, R139. -/
def Reg.FEC.FEC_CFG.addr (c : Carrier) : Nat := c.base + 0x01300000
def Reg.FEC.FEC_CFG.ET_EN (c : Carrier) : Fld := ⟨Reg.FEC.FEC_CFG.addr c, 8, 1⟩
def Reg.FEC.FEC_CFG.ITER_MAX (c : Carrier) : Fld := ⟨Reg.FEC.FEC_CFG.addr c, 0, 4⟩
/-- `FEC.UB_CFG`, R139. -/
def Reg.FEC.UB_CFG.addr (c : Carrier) : Nat := c.base + 0x01300004
def Reg.FEC.UB_CFG.UB_THR (c : Carrier) : Fld := ⟨Reg.FEC.UB_CFG.addr c, 0, 7⟩
/-- `FEC.FEC_STAT`, R139. -/
def Reg.FEC.FEC_STAT.addr (c : Carrier) : Nat := c.base + 0x01300008
def Reg.FEC.FEC_STAT.CAP_REFUSED (c : Carrier) : Fld := ⟨Reg.FEC.FEC_STAT.addr c, 31, 1⟩
def Reg.FEC.FEC_STAT.UB (c : Carrier) : Fld := ⟨Reg.FEC.FEC_STAT.addr c, 24, 1⟩
def Reg.FEC.FEC_STAT.WINDOW_FILLED (c : Carrier) : Fld := ⟨Reg.FEC.FEC_STAT.addr c, 21, 1⟩
def Reg.FEC.FEC_STAT.CW_LOCK (c : Carrier) : Fld := ⟨Reg.FEC.FEC_STAT.addr c, 20, 1⟩
def Reg.FEC.FEC_STAT.CW_PHASE (c : Carrier) : Fld := ⟨Reg.FEC.FEC_STAT.addr c, 16, 3⟩
def Reg.FEC.FEC_STAT.WINDOW_ACTIVE (c : Carrier) : Fld := ⟨Reg.FEC.FEC_STAT.addr c, 8, 5⟩
def Reg.FEC.FEC_STAT.ITER_LIMIT_ACTIVE (c : Carrier) : Fld := ⟨Reg.FEC.FEC_STAT.addr c, 0, 4⟩
/-- `FEC.SLICE_GRP_STAT`, R139. -/
def Reg.FEC.SLICE_GRP_STAT.addr (c : Carrier) : Nat := c.base + 0x01300010
def Reg.FEC.SLICE_GRP_STAT.FENCED (c : Carrier) : Fld := ⟨Reg.FEC.SLICE_GRP_STAT.addr c, 16, 14⟩
def Reg.FEC.SLICE_GRP_STAT.IN_SERVICE (c : Carrier) : Fld := ⟨Reg.FEC.SLICE_GRP_STAT.addr c, 4, 4⟩
def Reg.FEC.SLICE_GRP_STAT.RESERVE (c : Carrier) : Fld := ⟨Reg.FEC.SLICE_GRP_STAT.addr c, 0, 4⟩
/-- `FEC.SLICE_STAT`, R139. -/
def Reg.FEC.SLICE_STAT.addr (c : Carrier) (s : Nat) : Nat := c.base + 0x01300040 + 4 * s
def Reg.FEC.SLICE_STAT.FAULTS (c : Carrier) (s : Nat) : Fld := ⟨Reg.FEC.SLICE_STAT.addr c s, 16, 16⟩
def Reg.FEC.SLICE_STAT.TEST_ACTIVE (c : Carrier) (s : Nat) : Fld := ⟨Reg.FEC.SLICE_STAT.addr c s, 2, 1⟩
def Reg.FEC.SLICE_STAT.ROLE (c : Carrier) (s : Nat) : Fld := ⟨Reg.FEC.SLICE_STAT.addr c s, 0, 2⟩
/-- `FEC.LDPC_CW_LO`, R140. -/
def Reg.FEC.LDPC_CW_LO.addr (c : Carrier) : Nat := c.base + 0x01300100
def Reg.FEC.LDPC_CW_LO.COUNT (c : Carrier) : Fld := ⟨Reg.FEC.LDPC_CW_LO.addr c, 0, 32⟩
/-- `FEC.LDPC_CW_HI`, R140. -/
def Reg.FEC.LDPC_CW_HI.addr (c : Carrier) : Nat := c.base + 0x01300104
def Reg.FEC.LDPC_CW_HI.COUNT (c : Carrier) : Fld := ⟨Reg.FEC.LDPC_CW_HI.addr c, 0, 32⟩
/-- `FEC.LDPC_FAIL_LO`, R140. -/
def Reg.FEC.LDPC_FAIL_LO.addr (c : Carrier) : Nat := c.base + 0x01300108
def Reg.FEC.LDPC_FAIL_LO.COUNT (c : Carrier) : Fld := ⟨Reg.FEC.LDPC_FAIL_LO.addr c, 0, 32⟩
/-- `FEC.LDPC_FAIL_HI`, R140. -/
def Reg.FEC.LDPC_FAIL_HI.addr (c : Carrier) : Nat := c.base + 0x0130010C
def Reg.FEC.LDPC_FAIL_HI.COUNT (c : Carrier) : Fld := ⟨Reg.FEC.LDPC_FAIL_HI.addr c, 0, 32⟩
/-- `FEC.LDPC_CORR_LO`, R140. -/
def Reg.FEC.LDPC_CORR_LO.addr (c : Carrier) : Nat := c.base + 0x01300110
def Reg.FEC.LDPC_CORR_LO.COUNT (c : Carrier) : Fld := ⟨Reg.FEC.LDPC_CORR_LO.addr c, 0, 32⟩
/-- `FEC.LDPC_CORR_HI`, R140. -/
def Reg.FEC.LDPC_CORR_HI.addr (c : Carrier) : Nat := c.base + 0x01300114
def Reg.FEC.LDPC_CORR_HI.COUNT (c : Carrier) : Fld := ⟨Reg.FEC.LDPC_CORR_HI.addr c, 0, 32⟩
/-- `FEC.ITER_SUM_LO`, R140. -/
def Reg.FEC.ITER_SUM_LO.addr (c : Carrier) : Nat := c.base + 0x01300118
def Reg.FEC.ITER_SUM_LO.COUNT (c : Carrier) : Fld := ⟨Reg.FEC.ITER_SUM_LO.addr c, 0, 32⟩
/-- `FEC.ITER_SUM_HI`, R140. -/
def Reg.FEC.ITER_SUM_HI.addr (c : Carrier) : Nat := c.base + 0x0130011C
def Reg.FEC.ITER_SUM_HI.COUNT (c : Carrier) : Fld := ⟨Reg.FEC.ITER_SUM_HI.addr c, 0, 32⟩
/-- `FEC.STAIR_BLK_LO`, R140. -/
def Reg.FEC.STAIR_BLK_LO.addr (c : Carrier) : Nat := c.base + 0x01300120
def Reg.FEC.STAIR_BLK_LO.COUNT (c : Carrier) : Fld := ⟨Reg.FEC.STAIR_BLK_LO.addr c, 0, 32⟩
/-- `FEC.STAIR_BLK_HI`, R140. -/
def Reg.FEC.STAIR_BLK_HI.addr (c : Carrier) : Nat := c.base + 0x01300124
def Reg.FEC.STAIR_BLK_HI.COUNT (c : Carrier) : Fld := ⟨Reg.FEC.STAIR_BLK_HI.addr c, 0, 32⟩
/-- `FEC.STAIR_CORR_LO`, R140. -/
def Reg.FEC.STAIR_CORR_LO.addr (c : Carrier) : Nat := c.base + 0x01300128
def Reg.FEC.STAIR_CORR_LO.COUNT (c : Carrier) : Fld := ⟨Reg.FEC.STAIR_CORR_LO.addr c, 0, 32⟩
/-- `FEC.STAIR_CORR_HI`, R140. -/
def Reg.FEC.STAIR_CORR_HI.addr (c : Carrier) : Nat := c.base + 0x0130012C
def Reg.FEC.STAIR_CORR_HI.COUNT (c : Carrier) : Fld := ⟨Reg.FEC.STAIR_CORR_HI.addr c, 0, 32⟩
/-- `FEC.STAIR_UNCORR_LO`, R140. -/
def Reg.FEC.STAIR_UNCORR_LO.addr (c : Carrier) : Nat := c.base + 0x01300130
def Reg.FEC.STAIR_UNCORR_LO.COUNT (c : Carrier) : Fld := ⟨Reg.FEC.STAIR_UNCORR_LO.addr c, 0, 32⟩
/-- `FEC.STAIR_UNCORR_HI`, R140. -/
def Reg.FEC.STAIR_UNCORR_HI.addr (c : Carrier) : Nat := c.base + 0x01300134
def Reg.FEC.STAIR_UNCORR_HI.COUNT (c : Carrier) : Fld := ⟨Reg.FEC.STAIR_UNCORR_HI.addr c, 0, 32⟩
/-- `FEC.AVG_ITER`, R140. -/
def Reg.FEC.AVG_ITER.addr (c : Carrier) : Nat := c.base + 0x01300140
def Reg.FEC.AVG_ITER.AVG (c : Carrier) : Fld := ⟨Reg.FEC.AVG_ITER.addr c, 0, 12⟩
/-- `FRM.ALIGN_CFG`, R192. -/
def Reg.FRM.ALIGN_CFG.addr (c : Carrier) (t : Nat) : Nat := c.base + 0x01410000 + 0x00001000 * t
def Reg.FRM.ALIGN_CFG.LAW_TOL (c : Carrier) (t : Nat) : Fld := ⟨Reg.FRM.ALIGN_CFG.addr c t, 16, 5⟩
def Reg.FRM.ALIGN_CFG.OOF_N (c : Carrier) (t : Nat) : Fld := ⟨Reg.FRM.ALIGN_CFG.addr c t, 8, 3⟩
/-- `FRM.LOF_CFG`, R192. -/
def Reg.FRM.LOF_CFG.addr (c : Carrier) (t : Nat) : Nat := c.base + 0x01410004 + 0x00001000 * t
def Reg.FRM.LOF_CFG.LOF_TIME (c : Carrier) (t : Nat) : Fld := ⟨Reg.FRM.LOF_CFG.addr c t, 0, 16⟩
/-- `FRM.ALIGN_STAT`, R192. -/
def Reg.FRM.ALIGN_STAT.addr (c : Carrier) (t : Nat) : Nat := c.base + 0x01410008 + 0x00001000 * t
def Reg.FRM.ALIGN_STAT.IN_FRAME (c : Carrier) (t : Nat) : Fld := ⟨Reg.FRM.ALIGN_STAT.addr c t, 31, 1⟩
def Reg.FRM.ALIGN_STAT.OOF (c : Carrier) (t : Nat) : Fld := ⟨Reg.FRM.ALIGN_STAT.addr c t, 30, 1⟩
def Reg.FRM.ALIGN_STAT.DELIN (c : Carrier) (t : Nat) : Fld := ⟨Reg.FRM.ALIGN_STAT.addr c t, 29, 1⟩
def Reg.FRM.ALIGN_STAT.FSN_LOCK (c : Carrier) (t : Nat) : Fld := ⟨Reg.FRM.ALIGN_STAT.addr c t, 28, 1⟩
def Reg.FRM.ALIGN_STAT.OOM (c : Carrier) (t : Nat) : Fld := ⟨Reg.FRM.ALIGN_STAT.addr c t, 27, 1⟩
def Reg.FRM.ALIGN_STAT.LOF_ACQ (c : Carrier) (t : Nat) : Fld := ⟨Reg.FRM.ALIGN_STAT.addr c t, 26, 1⟩
def Reg.FRM.ALIGN_STAT.CANDS (c : Carrier) (t : Nat) : Fld := ⟨Reg.FRM.ALIGN_STAT.addr c t, 0, 3⟩
/-- `FRM.TX_OH_CFG`, R192. -/
def Reg.FRM.TX_OH_CFG.addr (c : Carrier) (t : Nat) : Nat := c.base + 0x0141000C + 0x00001000 * t
def Reg.FRM.TX_OH_CFG.FORCE_STAT (c : Carrier) (t : Nat) : Fld := ⟨Reg.FRM.TX_OH_CFG.addr c t, 16, 2⟩
def Reg.FRM.TX_OH_CFG.BDI_FORCE (c : Carrier) (t : Nat) : Fld := ⟨Reg.FRM.TX_OH_CFG.addr c t, 8, 1⟩
def Reg.FRM.TX_OH_CFG.TX_PT (c : Carrier) (t : Nat) : Fld := ⟨Reg.FRM.TX_OH_CFG.addr c t, 0, 8⟩
/-- `FRM.PT_CFG`, R192. -/
def Reg.FRM.PT_CFG.addr (c : Carrier) (t : Nat) : Nat := c.base + 0x01410010 + 0x00001000 * t
def Reg.FRM.PT_CFG.PLM_EN (c : Carrier) (t : Nat) : Fld := ⟨Reg.FRM.PT_CFG.addr c t, 8, 1⟩
def Reg.FRM.PT_CFG.EXP_PT (c : Carrier) (t : Nat) : Fld := ⟨Reg.FRM.PT_CFG.addr c t, 0, 8⟩
/-- `FRM.PT_STAT`, R192. -/
def Reg.FRM.PT_STAT.addr (c : Carrier) (t : Nat) : Nat := c.base + 0x01410014 + 0x00001000 * t
def Reg.FRM.PT_STAT.PT_VALID (c : Carrier) (t : Nat) : Fld := ⟨Reg.FRM.PT_STAT.addr c t, 8, 1⟩
def Reg.FRM.PT_STAT.ACC_PT (c : Carrier) (t : Nat) : Fld := ⟨Reg.FRM.PT_STAT.addr c t, 0, 8⟩
/-- `FRM.CA_CFG`, R192. -/
def Reg.FRM.CA_CFG.addr (c : Carrier) (t : Nat) : Nat := c.base + 0x01410018 + 0x00001000 * t
def Reg.FRM.CA_CFG.TIM_MODE (c : Carrier) (t : Nat) : Fld := ⟨Reg.FRM.CA_CFG.addr c t, 8, 3⟩
def Reg.FRM.CA_CFG.TIM_ACT (c : Carrier) (t : Nat) : Fld := ⟨Reg.FRM.CA_CFG.addr c t, 4, 1⟩
def Reg.FRM.CA_CFG.AUTH_AIS (c : Carrier) (t : Nat) : Fld := ⟨Reg.FRM.CA_CFG.addr c t, 3, 1⟩
def Reg.FRM.CA_CFG.BEI_EN (c : Carrier) (t : Nat) : Fld := ⟨Reg.FRM.CA_CFG.addr c t, 2, 1⟩
def Reg.FRM.CA_CFG.BDI_EN (c : Carrier) (t : Nat) : Fld := ⟨Reg.FRM.CA_CFG.addr c t, 1, 1⟩
def Reg.FRM.CA_CFG.AIS_EN (c : Carrier) (t : Nat) : Fld := ⟨Reg.FRM.CA_CFG.addr c t, 0, 1⟩
/-- `FRM.INTEG_CFG`, R192. -/
def Reg.FRM.INTEG_CFG.addr (c : Carrier) (t : Nat) : Nat := c.base + 0x0141001C + 0x00001000 * t
def Reg.FRM.INTEG_CFG.CLR_TIME (c : Carrier) (t : Nat) : Fld := ⟨Reg.FRM.INTEG_CFG.addr c t, 16, 16⟩
def Reg.FRM.INTEG_CFG.SET_TIME (c : Carrier) (t : Nat) : Fld := ⟨Reg.FRM.INTEG_CFG.addr c t, 0, 16⟩
/-- `FRM.DEG_CFG`, R192. -/
def Reg.FRM.DEG_CFG.addr (c : Carrier) (t : Nat) : Nat := c.base + 0x01410020 + 0x00001000 * t
def Reg.FRM.DEG_CFG.DEG_M (c : Carrier) (t : Nat) : Fld := ⟨Reg.FRM.DEG_CFG.addr c t, 0, 4⟩
/-- `FRM.DEG_THR`, R192. -/
def Reg.FRM.DEG_THR.addr (c : Carrier) (t : Nat) : Nat := c.base + 0x01410024 + 0x00001000 * t
def Reg.FRM.DEG_THR.THR (c : Carrier) (t : Nat) : Fld := ⟨Reg.FRM.DEG_THR.addr c t, 0, 32⟩
/-- `FRM.AUTH_CFG`, R192. -/
def Reg.FRM.AUTH_CFG.addr (c : Carrier) (t : Nat) : Nat := c.base + 0x01410028 + 0x00001000 * t
def Reg.FRM.AUTH_CFG.AUTH_CLR (c : Carrier) (t : Nat) : Fld := ⟨Reg.FRM.AUTH_CFG.addr c t, 0, 16⟩
/-- `FRM.DEF_RAW`, R192. -/
def Reg.FRM.DEF_RAW.addr (c : Carrier) (t : Nat) : Nat := c.base + 0x01410030 + 0x00001000 * t
def Reg.FRM.DEF_RAW.RAW (c : Carrier) (t : Nat) : Fld := ⟨Reg.FRM.DEF_RAW.addr c t, 0, 11⟩
/-- `FRM.DEF_STAT`, R192. -/
def Reg.FRM.DEF_STAT.addr (c : Carrier) (t : Nat) : Nat := c.base + 0x01410034 + 0x00001000 * t
def Reg.FRM.DEF_STAT.STAT (c : Carrier) (t : Nat) : Fld := ⟨Reg.FRM.DEF_STAT.addr c t, 0, 11⟩
/-- `FRM.FAIL`, R192. -/
def Reg.FRM.FAIL.addr (c : Carrier) (t : Nat) : Nat := c.base + 0x01410038 + 0x00001000 * t
def Reg.FRM.FAIL.FAIL (c : Carrier) (t : Nat) : Fld := ⟨Reg.FRM.FAIL.addr c t, 0, 11⟩
/-- `FRM.DEF_HIST`, R192. -/
def Reg.FRM.DEF_HIST.addr (c : Carrier) (t : Nat) : Nat := c.base + 0x0141003C + 0x00001000 * t
def Reg.FRM.DEF_HIST.HIST (c : Carrier) (t : Nat) : Fld := ⟨Reg.FRM.DEF_HIST.addr c t, 0, 11⟩
/-- `FRM.TX_FSN`, R192. -/
def Reg.FRM.TX_FSN.addr (c : Carrier) (t : Nat) : Nat := c.base + 0x01410040 + 0x00001000 * t
def Reg.FRM.TX_FSN.FSN (c : Carrier) (t : Nat) : Fld := ⟨Reg.FRM.TX_FSN.addr c t, 0, 32⟩
/-- `FRM.RX_FSN`, R192. -/
def Reg.FRM.RX_FSN.addr (c : Carrier) (t : Nat) : Nat := c.base + 0x01410044 + 0x00001000 * t
def Reg.FRM.RX_FSN.FSN (c : Carrier) (t : Nat) : Fld := ⟨Reg.FRM.RX_FSN.addr c t, 0, 32⟩
/-- `FRM.LOST_FIRST`, R192. -/
def Reg.FRM.LOST_FIRST.addr (c : Carrier) (t : Nat) : Nat := c.base + 0x01410048 + 0x00001000 * t
def Reg.FRM.LOST_FIRST.FSN (c : Carrier) (t : Nat) : Fld := ⟨Reg.FRM.LOST_FIRST.addr c t, 0, 32⟩
/-- `FRM.LOST_LAST`, R192. -/
def Reg.FRM.LOST_LAST.addr (c : Carrier) (t : Nat) : Nat := c.base + 0x0141004C + 0x00001000 * t
def Reg.FRM.LOST_LAST.FSN (c : Carrier) (t : Nat) : Fld := ⟨Reg.FRM.LOST_LAST.addr c t, 0, 32⟩
/-- `FRM.APS_TX`, R192. -/
def Reg.FRM.APS_TX.addr (c : Carrier) (t : Nat) (c_ : Nat) : Nat := c.base + 0x01410050 + 0x00001000 * t + 4 * c_
def Reg.FRM.APS_TX.APS (c : Carrier) (t : Nat) (c_ : Nat) : Fld := ⟨Reg.FRM.APS_TX.addr c t c_, 0, 32⟩
/-- `FRM.APS_RX`, R192. -/
def Reg.FRM.APS_RX.addr (c : Carrier) (t : Nat) (c_ : Nat) : Nat := c.base + 0x01410070 + 0x00001000 * t + 4 * c_
def Reg.FRM.APS_RX.APS (c : Carrier) (t : Nat) (c_ : Nat) : Fld := ⟨Reg.FRM.APS_RX.addr c t c_, 0, 32⟩
/-- `FRM.GCC_CFG`, R193. -/
def Reg.FRM.GCC_CFG.addr (c : Carrier) (t : Nat) (g : Nat) : Nat := c.base + 0x01410090 + 0x00001000 * t + 32 * g
def Reg.FRM.GCC_CFG.IDLE (c : Carrier) (t : Nat) (g : Nat) : Fld := ⟨Reg.FRM.GCC_CFG.addr c t g, 24, 8⟩
def Reg.FRM.GCC_CFG.BASE (c : Carrier) (t : Nat) (g : Nat) : Fld := ⟨Reg.FRM.GCC_CFG.addr c t g, 14, 10⟩
def Reg.FRM.GCC_CFG.SIZE (c : Carrier) (t : Nat) (g : Nat) : Fld := ⟨Reg.FRM.GCC_CFG.addr c t g, 8, 4⟩
def Reg.FRM.GCC_CFG.RX_EN (c : Carrier) (t : Nat) (g : Nat) : Fld := ⟨Reg.FRM.GCC_CFG.addr c t g, 1, 1⟩
def Reg.FRM.GCC_CFG.TX_EN (c : Carrier) (t : Nat) (g : Nat) : Fld := ⟨Reg.FRM.GCC_CFG.addr c t g, 0, 1⟩
/-- `FRM.GCC_TX_WP`, R193. -/
def Reg.FRM.GCC_TX_WP.addr (c : Carrier) (t : Nat) (g : Nat) : Nat := c.base + 0x01410094 + 0x00001000 * t + 32 * g
def Reg.FRM.GCC_TX_WP.PTR (c : Carrier) (t : Nat) (g : Nat) : Fld := ⟨Reg.FRM.GCC_TX_WP.addr c t g, 0, 16⟩
/-- `FRM.GCC_TX_RP`, R193. -/
def Reg.FRM.GCC_TX_RP.addr (c : Carrier) (t : Nat) (g : Nat) : Nat := c.base + 0x01410098 + 0x00001000 * t + 32 * g
def Reg.FRM.GCC_TX_RP.PTR (c : Carrier) (t : Nat) (g : Nat) : Fld := ⟨Reg.FRM.GCC_TX_RP.addr c t g, 0, 16⟩
/-- `FRM.GCC_RX_WP`, R193. -/
def Reg.FRM.GCC_RX_WP.addr (c : Carrier) (t : Nat) (g : Nat) : Nat := c.base + 0x0141009C + 0x00001000 * t + 32 * g
def Reg.FRM.GCC_RX_WP.PTR (c : Carrier) (t : Nat) (g : Nat) : Fld := ⟨Reg.FRM.GCC_RX_WP.addr c t g, 0, 16⟩
/-- `FRM.GCC_RX_RP`, R193. -/
def Reg.FRM.GCC_RX_RP.addr (c : Carrier) (t : Nat) (g : Nat) : Nat := c.base + 0x014100A0 + 0x00001000 * t + 32 * g
def Reg.FRM.GCC_RX_RP.PTR (c : Carrier) (t : Nat) (g : Nat) : Fld := ⟨Reg.FRM.GCC_RX_RP.addr c t g, 0, 16⟩
/-- `FRM.TTI_TX`, R193. -/
def Reg.FRM.TTI_TX.addr (c : Carrier) (t : Nat) (i : Nat) : Nat := c.base + 0x01410200 + 0x00001000 * t + 4 * i
def Reg.FRM.TTI_TX.DATA (c : Carrier) (t : Nat) (i : Nat) : Fld := ⟨Reg.FRM.TTI_TX.addr c t i, 0, 32⟩
/-- `FRM.TTI_EXP`, R193. -/
def Reg.FRM.TTI_EXP.addr (c : Carrier) (t : Nat) (i : Nat) : Nat := c.base + 0x01410240 + 0x00001000 * t + 4 * i
def Reg.FRM.TTI_EXP.DATA (c : Carrier) (t : Nat) (i : Nat) : Fld := ⟨Reg.FRM.TTI_EXP.addr c t i, 0, 32⟩
/-- `FRM.TTI_ACC`, R193. -/
def Reg.FRM.TTI_ACC.addr (c : Carrier) (t : Nat) (i : Nat) : Nat := c.base + 0x01410280 + 0x00001000 * t + 4 * i
def Reg.FRM.TTI_ACC.DATA (c : Carrier) (t : Nat) (i : Nat) : Fld := ⟨Reg.FRM.TTI_ACC.addr c t i, 0, 32⟩
/-- `FRM.TX_MSI`, R193. -/
def Reg.FRM.TX_MSI.addr (c : Carrier) (t : Nat) (i : Nat) : Nat := c.base + 0x01410400 + 0x00001000 * t + 4 * i
def Reg.FRM.TX_MSI.DATA (c : Carrier) (t : Nat) (i : Nat) : Fld := ⟨Reg.FRM.TX_MSI.addr c t i, 0, 32⟩
/-- `FRM.ACC_MSI`, R193. -/
def Reg.FRM.ACC_MSI.addr (c : Carrier) (t : Nat) (i : Nat) : Nat := c.base + 0x01410600 + 0x00001000 * t + 4 * i
def Reg.FRM.ACC_MSI.DATA (c : Carrier) (t : Nat) (i : Nat) : Fld := ⟨Reg.FRM.ACC_MSI.addr c t i, 0, 32⟩
/-- `FRM.BIP_ERR_LO`, R193. -/
def Reg.FRM.BIP_ERR_LO.addr (c : Carrier) (t : Nat) : Nat := c.base + 0x01410800 + 0x00001000 * t
def Reg.FRM.BIP_ERR_LO.COUNT (c : Carrier) (t : Nat) : Fld := ⟨Reg.FRM.BIP_ERR_LO.addr c t, 0, 32⟩
/-- `FRM.BIP_ERR_HI`, R193. -/
def Reg.FRM.BIP_ERR_HI.addr (c : Carrier) (t : Nat) : Nat := c.base + 0x01410804 + 0x00001000 * t
def Reg.FRM.BIP_ERR_HI.COUNT (c : Carrier) (t : Nat) : Fld := ⟨Reg.FRM.BIP_ERR_HI.addr c t, 0, 32⟩
/-- `FRM.BIP_FRM_LO`, R193. -/
def Reg.FRM.BIP_FRM_LO.addr (c : Carrier) (t : Nat) : Nat := c.base + 0x01410808 + 0x00001000 * t
def Reg.FRM.BIP_FRM_LO.COUNT (c : Carrier) (t : Nat) : Fld := ⟨Reg.FRM.BIP_FRM_LO.addr c t, 0, 32⟩
/-- `FRM.BIP_FRM_HI`, R193. -/
def Reg.FRM.BIP_FRM_HI.addr (c : Carrier) (t : Nat) : Nat := c.base + 0x0141080C + 0x00001000 * t
def Reg.FRM.BIP_FRM_HI.COUNT (c : Carrier) (t : Nat) : Fld := ⟨Reg.FRM.BIP_FRM_HI.addr c t, 0, 32⟩
/-- `FRM.FE_BEI_LO`, R193. -/
def Reg.FRM.FE_BEI_LO.addr (c : Carrier) (t : Nat) : Nat := c.base + 0x01410810 + 0x00001000 * t
def Reg.FRM.FE_BEI_LO.COUNT (c : Carrier) (t : Nat) : Fld := ⟨Reg.FRM.FE_BEI_LO.addr c t, 0, 32⟩
/-- `FRM.FE_BEI_HI`, R193. -/
def Reg.FRM.FE_BEI_HI.addr (c : Carrier) (t : Nat) : Nat := c.base + 0x01410814 + 0x00001000 * t
def Reg.FRM.FE_BEI_HI.COUNT (c : Carrier) (t : Nat) : Fld := ⟨Reg.FRM.FE_BEI_HI.addr c t, 0, 32⟩
/-- `FRM.FE_BEI_FRM_LO`, R193. -/
def Reg.FRM.FE_BEI_FRM_LO.addr (c : Carrier) (t : Nat) : Nat := c.base + 0x01410818 + 0x00001000 * t
def Reg.FRM.FE_BEI_FRM_LO.COUNT (c : Carrier) (t : Nat) : Fld := ⟨Reg.FRM.FE_BEI_FRM_LO.addr c t, 0, 32⟩
/-- `FRM.FE_BEI_FRM_HI`, R193. -/
def Reg.FRM.FE_BEI_FRM_HI.addr (c : Carrier) (t : Nat) : Nat := c.base + 0x0141081C + 0x00001000 * t
def Reg.FRM.FE_BEI_FRM_HI.COUNT (c : Carrier) (t : Nat) : Fld := ⟨Reg.FRM.FE_BEI_FRM_HI.addr c t, 0, 32⟩
/-- `FRM.FRM_RX_LO`, R193. -/
def Reg.FRM.FRM_RX_LO.addr (c : Carrier) (t : Nat) : Nat := c.base + 0x01410820 + 0x00001000 * t
def Reg.FRM.FRM_RX_LO.COUNT (c : Carrier) (t : Nat) : Fld := ⟨Reg.FRM.FRM_RX_LO.addr c t, 0, 32⟩
/-- `FRM.FRM_RX_HI`, R193. -/
def Reg.FRM.FRM_RX_HI.addr (c : Carrier) (t : Nat) : Nat := c.base + 0x01410824 + 0x00001000 * t
def Reg.FRM.FRM_RX_HI.COUNT (c : Carrier) (t : Nat) : Fld := ⟨Reg.FRM.FRM_RX_HI.addr c t, 0, 32⟩
/-- `FRM.FRM_UNCORR_LO`, R193. -/
def Reg.FRM.FRM_UNCORR_LO.addr (c : Carrier) (t : Nat) : Nat := c.base + 0x01410828 + 0x00001000 * t
def Reg.FRM.FRM_UNCORR_LO.COUNT (c : Carrier) (t : Nat) : Fld := ⟨Reg.FRM.FRM_UNCORR_LO.addr c t, 0, 32⟩
/-- `FRM.FRM_UNCORR_HI`, R193. -/
def Reg.FRM.FRM_UNCORR_HI.addr (c : Carrier) (t : Nat) : Nat := c.base + 0x0141082C + 0x00001000 * t
def Reg.FRM.FRM_UNCORR_HI.COUNT (c : Carrier) (t : Nat) : Fld := ⟨Reg.FRM.FRM_UNCORR_HI.addr c t, 0, 32⟩
/-- `FRM.FRM_DISCARD`, R193. -/
def Reg.FRM.FRM_DISCARD.addr (c : Carrier) (t : Nat) : Nat := c.base + 0x01410830 + 0x00001000 * t
def Reg.FRM.FRM_DISCARD.COUNT (c : Carrier) (t : Nat) : Fld := ⟨Reg.FRM.FRM_DISCARD.addr c t, 0, 32⟩
/-- `FRM.FSN_ERR`, R193. -/
def Reg.FRM.FSN_ERR.addr (c : Carrier) (t : Nat) : Nat := c.base + 0x01410834 + 0x00001000 * t
def Reg.FRM.FSN_ERR.COUNT (c : Carrier) (t : Nat) : Fld := ⟨Reg.FRM.FSN_ERR.addr c t, 0, 32⟩
/-- `FRM.HDR_ERR`, R193. -/
def Reg.FRM.HDR_ERR.addr (c : Carrier) (t : Nat) : Nat := c.base + 0x01410838 + 0x00001000 * t
def Reg.FRM.HDR_ERR.COUNT (c : Carrier) (t : Nat) : Fld := ⟨Reg.FRM.HDR_ERR.addr c t, 0, 32⟩
/-- `FRM.DELIN_SLIP`, R193. -/
def Reg.FRM.DELIN_SLIP.addr (c : Carrier) (t : Nat) : Nat := c.base + 0x0141083C + 0x00001000 * t
def Reg.FRM.DELIN_SLIP.COUNT (c : Carrier) (t : Nat) : Fld := ⟨Reg.FRM.DELIN_SLIP.addr c t, 0, 32⟩
/-- `FRM.OOF_CNT`, R193. -/
def Reg.FRM.OOF_CNT.addr (c : Carrier) (t : Nat) : Nat := c.base + 0x01410840 + 0x00001000 * t
def Reg.FRM.OOF_CNT.COUNT (c : Carrier) (t : Nat) : Fld := ⟨Reg.FRM.OOF_CNT.addr c t, 0, 32⟩
/-- `FRM.CAND_OVF`, R193. -/
def Reg.FRM.CAND_OVF.addr (c : Carrier) (t : Nat) : Nat := c.base + 0x01410844 + 0x00001000 * t
def Reg.FRM.CAND_OVF.COUNT (c : Carrier) (t : Nat) : Fld := ⟨Reg.FRM.CAND_OVF.addr c t, 0, 32⟩
/-- `FRM.EVT_TRAIL`, R194. -/
def Reg.FRM.EVT_TRAIL.addr (c : Carrier) : Nat := c.base + 0x01400010
def Reg.FRM.EVT_TRAIL.TRAIL (c : Carrier) : Fld := ⟨Reg.FRM.EVT_TRAIL.addr c, 0, 16⟩
/-- `PMON.PM_CFG`, R213. -/
def Reg.PMON.PM_CFG.addr (c : Carrier) (t : Nat) : Nat := c.base + 0x01510000 + 0x00001000 * t
def Reg.PMON.PM_CFG.SES_PCT (c : Carrier) (t : Nat) : Fld := ⟨Reg.PMON.PM_CFG.addr c t, 8, 7⟩
def Reg.PMON.PM_CFG.BIN_MODE (c : Carrier) (t : Nat) : Fld := ⟨Reg.PMON.PM_CFG.addr c t, 4, 1⟩
def Reg.PMON.PM_CFG.RIPPLE_EN (c : Carrier) (t : Nat) : Fld := ⟨Reg.PMON.PM_CFG.addr c t, 2, 1⟩
def Reg.PMON.PM_CFG.BIDIR (c : Carrier) (t : Nat) : Fld := ⟨Reg.PMON.PM_CFG.addr c t, 1, 1⟩
def Reg.PMON.PM_CFG.EN (c : Carrier) (t : Nat) : Fld := ⟨Reg.PMON.PM_CFG.addr c t, 0, 1⟩
/-- `PMON.PM_DEF`, R213. -/
def Reg.PMON.PM_DEF.addr (c : Carrier) (t : Nat) : Nat := c.base + 0x01510004 + 0x00001000 * t
def Reg.PMON.PM_DEF.MASK (c : Carrier) (t : Nat) : Fld := ⟨Reg.PMON.PM_DEF.addr c t, 0, 11⟩
/-- `PMON.BIN_LEN`, R213. -/
def Reg.PMON.BIN_LEN.addr (c : Carrier) (t : Nat) : Nat := c.base + 0x01510008 + 0x00001000 * t
def Reg.PMON.BIN_LEN.LEN (c : Carrier) (t : Nat) : Fld := ⟨Reg.PMON.BIN_LEN.addr c t, 0, 17⟩
/-- `PMON.BIN_OFS`, R213. -/
def Reg.PMON.BIN_OFS.addr (c : Carrier) (t : Nat) : Nat := c.base + 0x0151000C + 0x00001000 * t
def Reg.PMON.BIN_OFS.OFS (c : Carrier) (t : Nat) : Fld := ⟨Reg.PMON.BIN_OFS.addr c t, 0, 17⟩
/-- `PMON.PM_CTRL`, R213. -/
def Reg.PMON.PM_CTRL.addr (c : Carrier) (t : Nat) : Nat := c.base + 0x01510010 + 0x00001000 * t
def Reg.PMON.PM_CTRL.CLEAR (c : Carrier) (t : Nat) : Fld := ⟨Reg.PMON.PM_CTRL.addr c t, 0, 1⟩
/-- `PMON.PM_STAT`, R213. -/
def Reg.PMON.PM_STAT.addr (c : Carrier) (t : Nat) : Nat := c.base + 0x01510014 + 0x00001000 * t
def Reg.PMON.PM_STAT.AV_NE (c : Carrier) (t : Nat) : Fld := ⟨Reg.PMON.PM_STAT.addr c t, 31, 1⟩
def Reg.PMON.PM_STAT.AV_FE (c : Carrier) (t : Nat) : Fld := ⟨Reg.PMON.PM_STAT.addr c t, 30, 1⟩
def Reg.PMON.PM_STAT.AV_BIDIR (c : Carrier) (t : Nat) : Fld := ⟨Reg.PMON.PM_STAT.addr c t, 29, 1⟩
def Reg.PMON.PM_STAT.PEND (c : Carrier) (t : Nat) : Fld := ⟨Reg.PMON.PM_STAT.addr c t, 0, 4⟩
/-- `PMON.COMMIT_SEQ`, R213. -/
def Reg.PMON.COMMIT_SEQ.addr (c : Carrier) (t : Nat) : Nat := c.base + 0x01510018 + 0x00001000 * t
def Reg.PMON.COMMIT_SEQ.SEQ (c : Carrier) (t : Nat) : Fld := ⟨Reg.PMON.COMMIT_SEQ.addr c t, 0, 32⟩
/-- `PMON.BIN_SEQ`, R213. -/
def Reg.PMON.BIN_SEQ.addr (c : Carrier) (t : Nat) : Nat := c.base + 0x0151001C + 0x00001000 * t
def Reg.PMON.BIN_SEQ.SEQ (c : Carrier) (t : Nat) : Fld := ⟨Reg.PMON.BIN_SEQ.addr c t, 0, 32⟩
/-- `PMON.LATE_ATTR`, R213. -/
def Reg.PMON.LATE_ATTR.addr (c : Carrier) (t : Nat) : Nat := c.base + 0x01510020 + 0x00001000 * t
def Reg.PMON.LATE_ATTR.COUNT (c : Carrier) (t : Nat) : Fld := ⟨Reg.PMON.LATE_ATTR.addr c t, 0, 32⟩
/-- `PMON.TCA_THR`, R213. -/
def Reg.PMON.TCA_THR.addr (c : Carrier) (t : Nat) (c_ : Nat) : Nat := c.base + 0x01510040 + 0x00001000 * t + 4 * c_
def Reg.PMON.TCA_THR.THR (c : Carrier) (t : Nat) (c_ : Nat) : Fld := ⟨Reg.PMON.TCA_THR.addr c t c_, 0, 32⟩
/-- `PMON.TCA_STAT`, R213. -/
def Reg.PMON.TCA_STAT.addr (c : Carrier) (t : Nat) : Nat := c.base + 0x01510060 + 0x00001000 * t
def Reg.PMON.TCA_STAT.TCA (c : Carrier) (t : Nat) : Fld := ⟨Reg.PMON.TCA_STAT.addr c t, 0, 8⟩
/-- `PMON.CUR_START_LO`, R213. -/
def Reg.PMON.CUR_START_LO.addr (c : Carrier) (t : Nat) : Nat := c.base + 0x01510100 + 0x00001000 * t
def Reg.PMON.CUR_START_LO.START_LO (c : Carrier) (t : Nat) : Fld := ⟨Reg.PMON.CUR_START_LO.addr c t, 0, 32⟩
/-- `PMON.CUR_START_HI`, R213. -/
def Reg.PMON.CUR_START_HI.addr (c : Carrier) (t : Nat) : Nat := c.base + 0x01510104 + 0x00001000 * t
def Reg.PMON.CUR_START_HI.START_HI (c : Carrier) (t : Nat) : Fld := ⟨Reg.PMON.CUR_START_HI.addr c t, 0, 16⟩
/-- `PMON.CUR_SECS`, R213. -/
def Reg.PMON.CUR_SECS.addr (c : Carrier) (t : Nat) : Nat := c.base + 0x01510108 + 0x00001000 * t
def Reg.PMON.CUR_SECS.SECS (c : Carrier) (t : Nat) : Fld := ⟨Reg.PMON.CUR_SECS.addr c t, 0, 32⟩
/-- `PMON.CUR_NE_ES`, R213. -/
def Reg.PMON.CUR_NE_ES.addr (c : Carrier) (t : Nat) : Nat := c.base + 0x01510110 + 0x00001000 * t
def Reg.PMON.CUR_NE_ES.NE_ES (c : Carrier) (t : Nat) : Fld := ⟨Reg.PMON.CUR_NE_ES.addr c t, 0, 32⟩
/-- `PMON.CUR_NE_SES`, R213. -/
def Reg.PMON.CUR_NE_SES.addr (c : Carrier) (t : Nat) : Nat := c.base + 0x01510114 + 0x00001000 * t
def Reg.PMON.CUR_NE_SES.NE_SES (c : Carrier) (t : Nat) : Fld := ⟨Reg.PMON.CUR_NE_SES.addr c t, 0, 32⟩
/-- `PMON.CUR_NE_UAS`, R213. -/
def Reg.PMON.CUR_NE_UAS.addr (c : Carrier) (t : Nat) : Nat := c.base + 0x01510118 + 0x00001000 * t
def Reg.PMON.CUR_NE_UAS.NE_UAS (c : Carrier) (t : Nat) : Fld := ⟨Reg.PMON.CUR_NE_UAS.addr c t, 0, 32⟩
/-- `PMON.CUR_FROZEN`, R213. -/
def Reg.PMON.CUR_FROZEN.addr (c : Carrier) (t : Nat) : Nat := c.base + 0x0151011C + 0x00001000 * t
def Reg.PMON.CUR_FROZEN.FROZEN (c : Carrier) (t : Nat) : Fld := ⟨Reg.PMON.CUR_FROZEN.addr c t, 0, 32⟩
/-- `PMON.CUR_NE_BBE_LO`, R213. -/
def Reg.PMON.CUR_NE_BBE_LO.addr (c : Carrier) (t : Nat) : Nat := c.base + 0x01510120 + 0x00001000 * t
def Reg.PMON.CUR_NE_BBE_LO.NE_BBE_LO (c : Carrier) (t : Nat) : Fld := ⟨Reg.PMON.CUR_NE_BBE_LO.addr c t, 0, 32⟩
/-- `PMON.CUR_NE_BBE_HI`, R213. -/
def Reg.PMON.CUR_NE_BBE_HI.addr (c : Carrier) (t : Nat) : Nat := c.base + 0x01510124 + 0x00001000 * t
def Reg.PMON.CUR_NE_BBE_HI.NE_BBE_HI (c : Carrier) (t : Nat) : Fld := ⟨Reg.PMON.CUR_NE_BBE_HI.addr c t, 0, 32⟩
/-- `PMON.CUR_FE_ES`, R213. -/
def Reg.PMON.CUR_FE_ES.addr (c : Carrier) (t : Nat) : Nat := c.base + 0x01510128 + 0x00001000 * t
def Reg.PMON.CUR_FE_ES.FE_ES (c : Carrier) (t : Nat) : Fld := ⟨Reg.PMON.CUR_FE_ES.addr c t, 0, 32⟩
/-- `PMON.CUR_FE_SES`, R213. -/
def Reg.PMON.CUR_FE_SES.addr (c : Carrier) (t : Nat) : Nat := c.base + 0x0151012C + 0x00001000 * t
def Reg.PMON.CUR_FE_SES.FE_SES (c : Carrier) (t : Nat) : Fld := ⟨Reg.PMON.CUR_FE_SES.addr c t, 0, 32⟩
/-- `PMON.CUR_FE_UAS`, R213. -/
def Reg.PMON.CUR_FE_UAS.addr (c : Carrier) (t : Nat) : Nat := c.base + 0x01510130 + 0x00001000 * t
def Reg.PMON.CUR_FE_UAS.FE_UAS (c : Carrier) (t : Nat) : Fld := ⟨Reg.PMON.CUR_FE_UAS.addr c t, 0, 32⟩
/-- `PMON.CUR_FE_NEVAL`, R213. -/
def Reg.PMON.CUR_FE_NEVAL.addr (c : Carrier) (t : Nat) : Nat := c.base + 0x01510134 + 0x00001000 * t
def Reg.PMON.CUR_FE_NEVAL.FE_NEVAL (c : Carrier) (t : Nat) : Fld := ⟨Reg.PMON.CUR_FE_NEVAL.addr c t, 0, 32⟩
/-- `PMON.CUR_FE_BBE_LO`, R213. -/
def Reg.PMON.CUR_FE_BBE_LO.addr (c : Carrier) (t : Nat) : Nat := c.base + 0x01510138 + 0x00001000 * t
def Reg.PMON.CUR_FE_BBE_LO.FE_BBE_LO (c : Carrier) (t : Nat) : Fld := ⟨Reg.PMON.CUR_FE_BBE_LO.addr c t, 0, 32⟩
/-- `PMON.CUR_FE_BBE_HI`, R213. -/
def Reg.PMON.CUR_FE_BBE_HI.addr (c : Carrier) (t : Nat) : Nat := c.base + 0x0151013C + 0x00001000 * t
def Reg.PMON.CUR_FE_BBE_HI.FE_BBE_HI (c : Carrier) (t : Nat) : Fld := ⟨Reg.PMON.CUR_FE_BBE_HI.addr c t, 0, 32⟩
/-- `PMON.CUR_FLAGS`, R213. -/
def Reg.PMON.CUR_FLAGS.addr (c : Carrier) (t : Nat) : Nat := c.base + 0x0151010C + 0x00001000 * t
def Reg.PMON.CUR_FLAGS.RIPPLE_END (c : Carrier) (t : Nat) : Fld := ⟨Reg.PMON.CUR_FLAGS.addr c t, 4, 1⟩
def Reg.PMON.CUR_FLAGS.STEP (c : Carrier) (t : Nat) : Fld := ⟨Reg.PMON.CUR_FLAGS.addr c t, 3, 1⟩
def Reg.PMON.CUR_FLAGS.CLEARED (c : Carrier) (t : Nat) : Fld := ⟨Reg.PMON.CUR_FLAGS.addr c t, 2, 1⟩
def Reg.PMON.CUR_FLAGS.SUSPECT (c : Carrier) (t : Nat) : Fld := ⟨Reg.PMON.CUR_FLAGS.addr c t, 1, 1⟩
def Reg.PMON.CUR_FLAGS.VALID (c : Carrier) (t : Nat) : Fld := ⟨Reg.PMON.CUR_FLAGS.addr c t, 0, 1⟩
/-- `PMON.HIST_START_LO`, R213. -/
def Reg.PMON.HIST_START_LO.addr (c : Carrier) (t : Nat) (k : Nat) : Nat := c.base + 0x01510140 + 0x00001000 * t + 64 * k
def Reg.PMON.HIST_START_LO.START_LO (c : Carrier) (t : Nat) (k : Nat) : Fld := ⟨Reg.PMON.HIST_START_LO.addr c t k, 0, 32⟩
/-- `PMON.HIST_START_HI`, R213. -/
def Reg.PMON.HIST_START_HI.addr (c : Carrier) (t : Nat) (k : Nat) : Nat := c.base + 0x01510144 + 0x00001000 * t + 64 * k
def Reg.PMON.HIST_START_HI.START_HI (c : Carrier) (t : Nat) (k : Nat) : Fld := ⟨Reg.PMON.HIST_START_HI.addr c t k, 0, 16⟩
/-- `PMON.HIST_SECS`, R213. -/
def Reg.PMON.HIST_SECS.addr (c : Carrier) (t : Nat) (k : Nat) : Nat := c.base + 0x01510148 + 0x00001000 * t + 64 * k
def Reg.PMON.HIST_SECS.SECS (c : Carrier) (t : Nat) (k : Nat) : Fld := ⟨Reg.PMON.HIST_SECS.addr c t k, 0, 32⟩
/-- `PMON.HIST_NE_ES`, R213. -/
def Reg.PMON.HIST_NE_ES.addr (c : Carrier) (t : Nat) (k : Nat) : Nat := c.base + 0x01510150 + 0x00001000 * t + 64 * k
def Reg.PMON.HIST_NE_ES.NE_ES (c : Carrier) (t : Nat) (k : Nat) : Fld := ⟨Reg.PMON.HIST_NE_ES.addr c t k, 0, 32⟩
/-- `PMON.HIST_NE_SES`, R213. -/
def Reg.PMON.HIST_NE_SES.addr (c : Carrier) (t : Nat) (k : Nat) : Nat := c.base + 0x01510154 + 0x00001000 * t + 64 * k
def Reg.PMON.HIST_NE_SES.NE_SES (c : Carrier) (t : Nat) (k : Nat) : Fld := ⟨Reg.PMON.HIST_NE_SES.addr c t k, 0, 32⟩
/-- `PMON.HIST_NE_UAS`, R213. -/
def Reg.PMON.HIST_NE_UAS.addr (c : Carrier) (t : Nat) (k : Nat) : Nat := c.base + 0x01510158 + 0x00001000 * t + 64 * k
def Reg.PMON.HIST_NE_UAS.NE_UAS (c : Carrier) (t : Nat) (k : Nat) : Fld := ⟨Reg.PMON.HIST_NE_UAS.addr c t k, 0, 32⟩
/-- `PMON.HIST_FROZEN`, R213. -/
def Reg.PMON.HIST_FROZEN.addr (c : Carrier) (t : Nat) (k : Nat) : Nat := c.base + 0x0151015C + 0x00001000 * t + 64 * k
def Reg.PMON.HIST_FROZEN.FROZEN (c : Carrier) (t : Nat) (k : Nat) : Fld := ⟨Reg.PMON.HIST_FROZEN.addr c t k, 0, 32⟩
/-- `PMON.HIST_NE_BBE_LO`, R213. -/
def Reg.PMON.HIST_NE_BBE_LO.addr (c : Carrier) (t : Nat) (k : Nat) : Nat := c.base + 0x01510160 + 0x00001000 * t + 64 * k
def Reg.PMON.HIST_NE_BBE_LO.NE_BBE_LO (c : Carrier) (t : Nat) (k : Nat) : Fld := ⟨Reg.PMON.HIST_NE_BBE_LO.addr c t k, 0, 32⟩
/-- `PMON.HIST_NE_BBE_HI`, R213. -/
def Reg.PMON.HIST_NE_BBE_HI.addr (c : Carrier) (t : Nat) (k : Nat) : Nat := c.base + 0x01510164 + 0x00001000 * t + 64 * k
def Reg.PMON.HIST_NE_BBE_HI.NE_BBE_HI (c : Carrier) (t : Nat) (k : Nat) : Fld := ⟨Reg.PMON.HIST_NE_BBE_HI.addr c t k, 0, 32⟩
/-- `PMON.HIST_FE_ES`, R213. -/
def Reg.PMON.HIST_FE_ES.addr (c : Carrier) (t : Nat) (k : Nat) : Nat := c.base + 0x01510168 + 0x00001000 * t + 64 * k
def Reg.PMON.HIST_FE_ES.FE_ES (c : Carrier) (t : Nat) (k : Nat) : Fld := ⟨Reg.PMON.HIST_FE_ES.addr c t k, 0, 32⟩
/-- `PMON.HIST_FE_SES`, R213. -/
def Reg.PMON.HIST_FE_SES.addr (c : Carrier) (t : Nat) (k : Nat) : Nat := c.base + 0x0151016C + 0x00001000 * t + 64 * k
def Reg.PMON.HIST_FE_SES.FE_SES (c : Carrier) (t : Nat) (k : Nat) : Fld := ⟨Reg.PMON.HIST_FE_SES.addr c t k, 0, 32⟩
/-- `PMON.HIST_FE_UAS`, R213. -/
def Reg.PMON.HIST_FE_UAS.addr (c : Carrier) (t : Nat) (k : Nat) : Nat := c.base + 0x01510170 + 0x00001000 * t + 64 * k
def Reg.PMON.HIST_FE_UAS.FE_UAS (c : Carrier) (t : Nat) (k : Nat) : Fld := ⟨Reg.PMON.HIST_FE_UAS.addr c t k, 0, 32⟩
/-- `PMON.HIST_FE_NEVAL`, R213. -/
def Reg.PMON.HIST_FE_NEVAL.addr (c : Carrier) (t : Nat) (k : Nat) : Nat := c.base + 0x01510174 + 0x00001000 * t + 64 * k
def Reg.PMON.HIST_FE_NEVAL.FE_NEVAL (c : Carrier) (t : Nat) (k : Nat) : Fld := ⟨Reg.PMON.HIST_FE_NEVAL.addr c t k, 0, 32⟩
/-- `PMON.HIST_FE_BBE_LO`, R213. -/
def Reg.PMON.HIST_FE_BBE_LO.addr (c : Carrier) (t : Nat) (k : Nat) : Nat := c.base + 0x01510178 + 0x00001000 * t + 64 * k
def Reg.PMON.HIST_FE_BBE_LO.FE_BBE_LO (c : Carrier) (t : Nat) (k : Nat) : Fld := ⟨Reg.PMON.HIST_FE_BBE_LO.addr c t k, 0, 32⟩
/-- `PMON.HIST_FE_BBE_HI`, R213. -/
def Reg.PMON.HIST_FE_BBE_HI.addr (c : Carrier) (t : Nat) (k : Nat) : Nat := c.base + 0x0151017C + 0x00001000 * t + 64 * k
def Reg.PMON.HIST_FE_BBE_HI.FE_BBE_HI (c : Carrier) (t : Nat) (k : Nat) : Fld := ⟨Reg.PMON.HIST_FE_BBE_HI.addr c t k, 0, 32⟩
/-- `PMON.HIST_FLAGS`, R213. -/
def Reg.PMON.HIST_FLAGS.addr (c : Carrier) (t : Nat) (k : Nat) : Nat := c.base + 0x0151014C + 0x00001000 * t + 64 * k
def Reg.PMON.HIST_FLAGS.RIPPLE_END (c : Carrier) (t : Nat) (k : Nat) : Fld := ⟨Reg.PMON.HIST_FLAGS.addr c t k, 4, 1⟩
def Reg.PMON.HIST_FLAGS.STEP (c : Carrier) (t : Nat) (k : Nat) : Fld := ⟨Reg.PMON.HIST_FLAGS.addr c t k, 3, 1⟩
def Reg.PMON.HIST_FLAGS.CLEARED (c : Carrier) (t : Nat) (k : Nat) : Fld := ⟨Reg.PMON.HIST_FLAGS.addr c t k, 2, 1⟩
def Reg.PMON.HIST_FLAGS.SUSPECT (c : Carrier) (t : Nat) (k : Nat) : Fld := ⟨Reg.PMON.HIST_FLAGS.addr c t k, 1, 1⟩
def Reg.PMON.HIST_FLAGS.VALID (c : Carrier) (t : Nat) (k : Nat) : Fld := ⟨Reg.PMON.HIST_FLAGS.addr c t k, 0, 1⟩
/-- `PMON.CMP_CFG`, R215. -/
def Reg.PMON.CMP_CFG.addr (c : Carrier) (t : Nat) : Nat := c.base + 0x01580000 + 0x00001000 * t
def Reg.PMON.CMP_CFG.DAY_OFS (c : Carrier) (t : Nat) : Fld := ⟨Reg.PMON.CMP_CFG.addr c t, 0, 7⟩
/-- `PMON.CMP_SEQ`, R215. -/
def Reg.PMON.CMP_SEQ.addr (c : Carrier) (t : Nat) : Nat := c.base + 0x01580004 + 0x00001000 * t
def Reg.PMON.CMP_SEQ.B24_SEQ (c : Carrier) (t : Nat) : Fld := ⟨Reg.PMON.CMP_SEQ.addr c t, 16, 16⟩
def Reg.PMON.CMP_SEQ.B15_SEQ (c : Carrier) (t : Nat) : Fld := ⟨Reg.PMON.CMP_SEQ.addr c t, 0, 16⟩
/-- `PMON.TCA15_THR`, R215. -/
def Reg.PMON.TCA15_THR.addr (c : Carrier) (t : Nat) (c_ : Nat) : Nat := c.base + 0x01580040 + 0x00001000 * t + 4 * c_
def Reg.PMON.TCA15_THR.THR (c : Carrier) (t : Nat) (c_ : Nat) : Fld := ⟨Reg.PMON.TCA15_THR.addr c t c_, 0, 32⟩
/-- `PMON.TCA24_THR`, R215. -/
def Reg.PMON.TCA24_THR.addr (c : Carrier) (t : Nat) (c_ : Nat) : Nat := c.base + 0x01580060 + 0x00001000 * t + 4 * c_
def Reg.PMON.TCA24_THR.THR (c : Carrier) (t : Nat) (c_ : Nat) : Fld := ⟨Reg.PMON.TCA24_THR.addr c t c_, 0, 32⟩
/-- `PMON.CMP_TCA_STAT`, R215. -/
def Reg.PMON.CMP_TCA_STAT.addr (c : Carrier) (t : Nat) : Nat := c.base + 0x01580080 + 0x00001000 * t
def Reg.PMON.CMP_TCA_STAT.TCA24 (c : Carrier) (t : Nat) : Fld := ⟨Reg.PMON.CMP_TCA_STAT.addr c t, 8, 8⟩
def Reg.PMON.CMP_TCA_STAT.TCA15 (c : Carrier) (t : Nat) : Fld := ⟨Reg.PMON.CMP_TCA_STAT.addr c t, 0, 8⟩
/-- `PMON.CUR15`, R215. -/
def Reg.PMON.CUR15.addr (c : Carrier) (t : Nat) (w : Nat) : Nat := c.base + 0x01580100 + 0x00001000 * t + 4 * w
def Reg.PMON.CUR15.WORD (c : Carrier) (t : Nat) (w : Nat) : Fld := ⟨Reg.PMON.CUR15.addr c t w, 0, 32⟩
/-- `PMON.PREV15`, R215. -/
def Reg.PMON.PREV15.addr (c : Carrier) (t : Nat) (w : Nat) : Nat := c.base + 0x01580130 + 0x00001000 * t + 4 * w
def Reg.PMON.PREV15.WORD (c : Carrier) (t : Nat) (w : Nat) : Fld := ⟨Reg.PMON.PREV15.addr c t w, 0, 32⟩
/-- `PMON.HIST15`, R215. -/
def Reg.PMON.HIST15.addr (c : Carrier) (t : Nat) (k : Nat) (w : Nat) : Nat := c.base + 0x01580160 + 0x00001000 * t + 48 * k + 4 * w
def Reg.PMON.HIST15.WORD (c : Carrier) (t : Nat) (k : Nat) (w : Nat) : Fld := ⟨Reg.PMON.HIST15.addr c t k w, 0, 32⟩
/-- `PMON.CUR24`, R215. -/
def Reg.PMON.CUR24.addr (c : Carrier) (t : Nat) (w : Nat) : Nat := c.base + 0x01580800 + 0x00001000 * t + 4 * w
def Reg.PMON.CUR24.WORD (c : Carrier) (t : Nat) (w : Nat) : Fld := ⟨Reg.PMON.CUR24.addr c t w, 0, 32⟩
/-- `PMON.PREV24`, R215. -/
def Reg.PMON.PREV24.addr (c : Carrier) (t : Nat) (w : Nat) : Nat := c.base + 0x01580830 + 0x00001000 * t + 4 * w
def Reg.PMON.PREV24.WORD (c : Carrier) (t : Nat) (w : Nat) : Fld := ⟨Reg.PMON.PREV24.addr c t w, 0, 32⟩
/-- `PMON.EVT_TRAIL`, R216. -/
def Reg.PMON.EVT_TRAIL.addr (c : Carrier) : Nat := c.base + 0x01500010
def Reg.PMON.EVT_TRAIL.TRAIL (c : Carrier) : Fld := ⟨Reg.PMON.EVT_TRAIL.addr c, 0, 16⟩
/-- `SUBC.SC_CFG`, R164. -/
def Reg.SUBC.SC_CFG.addr (c : Carrier) : Nat := c.base + 0x01600000
def Reg.SUBC.SC_CFG.ROLE (c : Carrier) : Fld := ⟨Reg.SUBC.SC_CFG.addr c, 16, 2⟩
def Reg.SUBC.SC_CFG.HOME_SC (c : Carrier) : Fld := ⟨Reg.SUBC.SC_CFG.addr c, 8, 4⟩
def Reg.SUBC.SC_CFG.UP_FCOMP (c : Carrier) : Fld := ⟨Reg.SUBC.SC_CFG.addr c, 5, 1⟩
def Reg.SUBC.SC_CFG.KEEP_WARM (c : Carrier) : Fld := ⟨Reg.SUBC.SC_CFG.addr c, 4, 1⟩
/-- `SUBC.DN_EN`, R164. -/
def Reg.SUBC.DN_EN.addr (c : Carrier) : Nat := c.base + 0x01600004
def Reg.SUBC.DN_EN.MASK (c : Carrier) : Fld := ⟨Reg.SUBC.DN_EN.addr c, 0, 16⟩
/-- `SUBC.UP_EN`, R164. -/
def Reg.SUBC.UP_EN.addr (c : Carrier) : Nat := c.base + 0x01600008
def Reg.SUBC.UP_EN.MASK (c : Carrier) : Fld := ⟨Reg.SUBC.UP_EN.addr c, 0, 16⟩
/-- `SUBC.SLEEP`, R164. -/
def Reg.SUBC.SLEEP.addr (c : Carrier) : Nat := c.base + 0x0160000C
def Reg.SUBC.SLEEP.MASK (c : Carrier) : Fld := ⟨Reg.SUBC.SLEEP.addr c, 0, 16⟩
/-- `SUBC.SC_STAT`, R164. -/
def Reg.SUBC.SC_STAT.addr (c : Carrier) : Nat := c.base + 0x01600010
def Reg.SUBC.SC_STAT.REFUSE_CAUSE (c : Carrier) : Fld := ⟨Reg.SUBC.SC_STAT.addr c, 28, 4⟩
def Reg.SUBC.SC_STAT.ROLE_ACTIVE (c : Carrier) : Fld := ⟨Reg.SUBC.SC_STAT.addr c, 16, 2⟩
def Reg.SUBC.SC_STAT.N_RX (c : Carrier) : Fld := ⟨Reg.SUBC.SC_STAT.addr c, 8, 5⟩
/-- `SUBC.SC_SF`, R164. -/
def Reg.SUBC.SC_SF.addr (c : Carrier) : Nat := c.base + 0x01600014
def Reg.SUBC.SC_SF.SF (c : Carrier) : Fld := ⟨Reg.SUBC.SC_SF.addr c, 0, 16⟩
/-- `SUBC.SC_LOS_CFG`, R164. -/
def Reg.SUBC.SC_LOS_CFG.addr (c : Carrier) : Nat := c.base + 0x01600018
def Reg.SUBC.SC_LOS_CFG.LOS_THR (c : Carrier) : Fld := ⟨Reg.SUBC.SC_LOS_CFG.addr c, 8, 8⟩
def Reg.SUBC.SC_LOS_CFG.SD_THR (c : Carrier) : Fld := ⟨Reg.SUBC.SC_LOS_CFG.addr c, 0, 8⟩
/-- `SUBC.EN_ACTIVE`, R164. -/
def Reg.SUBC.EN_ACTIVE.addr (c : Carrier) : Nat := c.base + 0x0160001C
def Reg.SUBC.EN_ACTIVE.UP (c : Carrier) : Fld := ⟨Reg.SUBC.EN_ACTIVE.addr c, 16, 16⟩
def Reg.SUBC.EN_ACTIVE.DN (c : Carrier) : Fld := ⟨Reg.SUBC.EN_ACTIVE.addr c, 0, 16⟩
/-- `SUBC.SC_RX_STAT`, R164. -/
def Reg.SUBC.SC_RX_STAT.addr (c : Carrier) (q : Nat) : Nat := c.base + 0x01600100 + 4 * q
def Reg.SUBC.SC_RX_STAT.UB (c : Carrier) (q : Nat) : Fld := ⟨Reg.SUBC.SC_RX_STAT.addr c q, 8, 1⟩
def Reg.SUBC.SC_RX_STAT.LOS (c : Carrier) (q : Nat) : Fld := ⟨Reg.SUBC.SC_RX_STAT.addr c q, 7, 1⟩
def Reg.SUBC.SC_RX_STAT.SF (c : Carrier) (q : Nat) : Fld := ⟨Reg.SUBC.SC_RX_STAT.addr c q, 6, 1⟩
def Reg.SUBC.SC_RX_STAT.WARM_VALID (c : Carrier) (q : Nat) : Fld := ⟨Reg.SUBC.SC_RX_STAT.addr c q, 5, 1⟩
def Reg.SUBC.SC_RX_STAT.STATE (c : Carrier) (q : Nat) : Fld := ⟨Reg.SUBC.SC_RX_STAT.addr c q, 0, 4⟩
/-- `SUBC.INLET_CFG`, R165. -/
def Reg.SUBC.INLET_CFG.addr (c : Carrier) : Nat := c.base + 0x01600020
def Reg.SUBC.INLET_CFG.RESP_TIMEOUT (c : Carrier) : Fld := ⟨Reg.SUBC.INLET_CFG.addr c, 24, 8⟩
def Reg.SUBC.INLET_CFG.ATTEN (c : Carrier) : Fld := ⟨Reg.SUBC.INLET_CFG.addr c, 16, 8⟩
def Reg.SUBC.INLET_CFG.THR (c : Carrier) : Fld := ⟨Reg.SUBC.INLET_CFG.addr c, 8, 8⟩
def Reg.SUBC.INLET_CFG.EN (c : Carrier) : Fld := ⟨Reg.SUBC.INLET_CFG.addr c, 0, 1⟩
/-- `SUBC.INLET_TRY`, R165. -/
def Reg.SUBC.INLET_TRY.addr (c : Carrier) : Nat := c.base + 0x01600024
def Reg.SUBC.INLET_TRY.MAX_TRY (c : Carrier) : Fld := ⟨Reg.SUBC.INLET_TRY.addr c, 0, 8⟩
/-- `SUBC.INLET_SERIAL_LO`, R165. -/
def Reg.SUBC.INLET_SERIAL_LO.addr (c : Carrier) : Nat := c.base + 0x01600028
def Reg.SUBC.INLET_SERIAL_LO.SERIAL (c : Carrier) : Fld := ⟨Reg.SUBC.INLET_SERIAL_LO.addr c, 0, 32⟩
/-- `SUBC.INLET_SERIAL_HI`, R165. -/
def Reg.SUBC.INLET_SERIAL_HI.addr (c : Carrier) : Nat := c.base + 0x0160002C
def Reg.SUBC.INLET_SERIAL_HI.SERIAL (c : Carrier) : Fld := ⟨Reg.SUBC.INLET_SERIAL_HI.addr c, 0, 32⟩
/-- `SUBC.INLET_TX_CTRL`, R165. -/
def Reg.SUBC.INLET_TX_CTRL.addr (c : Carrier) : Nat := c.base + 0x01600030
def Reg.SUBC.INLET_TX_CTRL.LENGTH (c : Carrier) : Fld := ⟨Reg.SUBC.INLET_TX_CTRL.addr c, 8, 6⟩
def Reg.SUBC.INLET_TX_CTRL.TYPE (c : Carrier) : Fld := ⟨Reg.SUBC.INLET_TX_CTRL.addr c, 4, 4⟩
def Reg.SUBC.INLET_TX_CTRL.ACK (c : Carrier) : Fld := ⟨Reg.SUBC.INLET_TX_CTRL.addr c, 2, 1⟩
def Reg.SUBC.INLET_TX_CTRL.SEND (c : Carrier) : Fld := ⟨Reg.SUBC.INLET_TX_CTRL.addr c, 1, 1⟩
/-- `SUBC.INLET_TX_STAT`, R165. -/
def Reg.SUBC.INLET_TX_STAT.addr (c : Carrier) : Nat := c.base + 0x01600034
def Reg.SUBC.INLET_TX_STAT.ATTEMPTS (c : Carrier) : Fld := ⟨Reg.SUBC.INLET_TX_STAT.addr c, 8, 8⟩
def Reg.SUBC.INLET_TX_STAT.STATE (c : Carrier) : Fld := ⟨Reg.SUBC.INLET_TX_STAT.addr c, 0, 3⟩
/-- `SUBC.QUEUE_STAT`, R165. -/
def Reg.SUBC.QUEUE_STAT.addr (c : Carrier) : Nat := c.base + 0x01600040
def Reg.SUBC.QUEUE_STAT.HEAD (c : Carrier) : Fld := ⟨Reg.SUBC.QUEUE_STAT.addr c, 8, 5⟩
def Reg.SUBC.QUEUE_STAT.COUNT (c : Carrier) : Fld := ⟨Reg.SUBC.QUEUE_STAT.addr c, 0, 6⟩
/-- `SUBC.QUEUE_CTRL`, R165. -/
def Reg.SUBC.QUEUE_CTRL.addr (c : Carrier) : Nat := c.base + 0x01600044
def Reg.SUBC.QUEUE_CTRL.FLUSH (c : Carrier) : Fld := ⟨Reg.SUBC.QUEUE_CTRL.addr c, 1, 1⟩
def Reg.SUBC.QUEUE_CTRL.POP (c : Carrier) : Fld := ⟨Reg.SUBC.QUEUE_CTRL.addr c, 0, 1⟩
/-- `SUBC.INLET_GOOD`, R165. -/
def Reg.SUBC.INLET_GOOD.addr (c : Carrier) : Nat := c.base + 0x01600050
def Reg.SUBC.INLET_GOOD.COUNT (c : Carrier) : Fld := ⟨Reg.SUBC.INLET_GOOD.addr c, 0, 32⟩
/-- `SUBC.INLET_HDR_FAIL`, R165. -/
def Reg.SUBC.INLET_HDR_FAIL.addr (c : Carrier) : Nat := c.base + 0x01600054
def Reg.SUBC.INLET_HDR_FAIL.COUNT (c : Carrier) : Fld := ⟨Reg.SUBC.INLET_HDR_FAIL.addr c, 0, 32⟩
/-- `SUBC.INLET_PAY_FAIL`, R165. -/
def Reg.SUBC.INLET_PAY_FAIL.addr (c : Carrier) : Nat := c.base + 0x01600058
def Reg.SUBC.INLET_PAY_FAIL.COUNT (c : Carrier) : Fld := ⟨Reg.SUBC.INLET_PAY_FAIL.addr c, 0, 32⟩
/-- `SUBC.INLET_COLLISION`, R165. -/
def Reg.SUBC.INLET_COLLISION.addr (c : Carrier) : Nat := c.base + 0x0160005C
def Reg.SUBC.INLET_COLLISION.COUNT (c : Carrier) : Fld := ⟨Reg.SUBC.INLET_COLLISION.addr c, 0, 32⟩
/-- `SUBC.INLET_PREEMPTED`, R165. -/
def Reg.SUBC.INLET_PREEMPTED.addr (c : Carrier) : Nat := c.base + 0x01600060
def Reg.SUBC.INLET_PREEMPTED.COUNT (c : Carrier) : Fld := ⟨Reg.SUBC.INLET_PREEMPTED.addr c, 0, 32⟩
/-- `SUBC.INLET_UNCONF_PREEMPT`, R165. -/
def Reg.SUBC.INLET_UNCONF_PREEMPT.addr (c : Carrier) : Nat := c.base + 0x01600064
def Reg.SUBC.INLET_UNCONF_PREEMPT.COUNT (c : Carrier) : Fld := ⟨Reg.SUBC.INLET_UNCONF_PREEMPT.addr c, 0, 32⟩
/-- `SUBC.INLET_DUP`, R165. -/
def Reg.SUBC.INLET_DUP.addr (c : Carrier) : Nat := c.base + 0x01600068
def Reg.SUBC.INLET_DUP.COUNT (c : Carrier) : Fld := ⟨Reg.SUBC.INLET_DUP.addr c, 0, 32⟩
/-- `SUBC.INLET_QUEUE_DROP`, R165. -/
def Reg.SUBC.INLET_QUEUE_DROP.addr (c : Carrier) : Nat := c.base + 0x0160006C
def Reg.SUBC.INLET_QUEUE_DROP.COUNT (c : Carrier) : Fld := ⟨Reg.SUBC.INLET_QUEUE_DROP.addr c, 0, 32⟩
/-- `SUBC.TX_PAYLOAD`, R165. -/
def Reg.SUBC.TX_PAYLOAD.addr (c : Carrier) (i : Nat) : Nat := c.base + 0x01604000 + 4 * i
def Reg.SUBC.TX_PAYLOAD.DATA (c : Carrier) (i : Nat) : Fld := ⟨Reg.SUBC.TX_PAYLOAD.addr c i, 0, 32⟩
/-- `SUBC.Q_SERIAL_LO`, R165. -/
def Reg.SUBC.Q_SERIAL_LO.addr (c : Carrier) (e : Nat) : Nat := c.base + 0x01610000 + 0x00000800 * e
def Reg.SUBC.Q_SERIAL_LO.SERIAL (c : Carrier) (e : Nat) : Fld := ⟨Reg.SUBC.Q_SERIAL_LO.addr c e, 0, 32⟩
/-- `SUBC.Q_SERIAL_HI`, R165. -/
def Reg.SUBC.Q_SERIAL_HI.addr (c : Carrier) (e : Nat) : Nat := c.base + 0x01610004 + 0x00000800 * e
def Reg.SUBC.Q_SERIAL_HI.SERIAL (c : Carrier) (e : Nat) : Fld := ⟨Reg.SUBC.Q_SERIAL_HI.addr c e, 0, 32⟩
/-- `SUBC.Q_INFO`, R165. -/
def Reg.SUBC.Q_INFO.addr (c : Carrier) (e : Nat) : Nat := c.base + 0x01610008 + 0x00000800 * e
def Reg.SUBC.Q_INFO.TYPE (c : Carrier) (e : Nat) : Fld := ⟨Reg.SUBC.Q_INFO.addr c e, 28, 4⟩
def Reg.SUBC.Q_INFO.HOME (c : Carrier) (e : Nat) : Fld := ⟨Reg.SUBC.Q_INFO.addr c e, 24, 4⟩
def Reg.SUBC.Q_INFO.LENGTH (c : Carrier) (e : Nat) : Fld := ⟨Reg.SUBC.Q_INFO.addr c e, 16, 6⟩
def Reg.SUBC.Q_INFO.LEVEL (c : Carrier) (e : Nat) : Fld := ⟨Reg.SUBC.Q_INFO.addr c e, 0, 16⟩
/-- `SUBC.Q_FOFS`, R165. -/
def Reg.SUBC.Q_FOFS.addr (c : Carrier) (e : Nat) : Nat := c.base + 0x0161000C + 0x00000800 * e
def Reg.SUBC.Q_FOFS.FOFS (c : Carrier) (e : Nat) : Fld := ⟨Reg.SUBC.Q_FOFS.addr c e, 0, 16⟩
/-- `SUBC.Q_TS_SEC_LO`, R165. -/
def Reg.SUBC.Q_TS_SEC_LO.addr (c : Carrier) (e : Nat) : Nat := c.base + 0x01610010 + 0x00000800 * e
def Reg.SUBC.Q_TS_SEC_LO.TS (c : Carrier) (e : Nat) : Fld := ⟨Reg.SUBC.Q_TS_SEC_LO.addr c e, 0, 32⟩
/-- `SUBC.Q_TS_SEC_HI`, R165. -/
def Reg.SUBC.Q_TS_SEC_HI.addr (c : Carrier) (e : Nat) : Nat := c.base + 0x01610014 + 0x00000800 * e
def Reg.SUBC.Q_TS_SEC_HI.TS (c : Carrier) (e : Nat) : Fld := ⟨Reg.SUBC.Q_TS_SEC_HI.addr c e, 0, 16⟩
/-- `SUBC.Q_TS_NS`, R165. -/
def Reg.SUBC.Q_TS_NS.addr (c : Carrier) (e : Nat) : Nat := c.base + 0x01610018 + 0x00000800 * e
def Reg.SUBC.Q_TS_NS.TS (c : Carrier) (e : Nat) : Fld := ⟨Reg.SUBC.Q_TS_NS.addr c e, 0, 32⟩
/-- `SUBC.Q_FLAGS`, R165. -/
def Reg.SUBC.Q_FLAGS.addr (c : Carrier) (e : Nat) : Nat := c.base + 0x0161001C + 0x00000800 * e
def Reg.SUBC.Q_FLAGS.DUP (c : Carrier) (e : Nat) : Fld := ⟨Reg.SUBC.Q_FLAGS.addr c e, 0, 1⟩
/-- `SUBC.Q_PAYLOAD`, R165. -/
def Reg.SUBC.Q_PAYLOAD.addr (c : Carrier) (e : Nat) (i : Nat) : Nat := c.base + 0x01610020 + 0x00000800 * e + 4 * i
def Reg.SUBC.Q_PAYLOAD.DATA (c : Carrier) (e : Nat) (i : Nat) : Fld := ⟨Reg.SUBC.Q_PAYLOAD.addr c e i, 0, 32⟩
/-- `SUBC.SC_QUAL_SEQ`, R165. -/
def Reg.SUBC.SC_QUAL_SEQ.addr (c : Carrier) (q : Nat) : Nat := c.base + 0x01601004 + 0x00000100 * q
def Reg.SUBC.SC_QUAL_SEQ.VALID (c : Carrier) (q : Nat) : Fld := ⟨Reg.SUBC.SC_QUAL_SEQ.addr c q, 31, 1⟩
def Reg.SUBC.SC_QUAL_SEQ.SEQ (c : Carrier) (q : Nat) : Fld := ⟨Reg.SUBC.SC_QUAL_SEQ.addr c q, 0, 31⟩
/-- `SUBC.SC_QUAL_EVM_XY`, R165. -/
def Reg.SUBC.SC_QUAL_EVM_XY.addr (c : Carrier) (q : Nat) : Nat := c.base + 0x01601010 + 0x00000100 * q
def Reg.SUBC.SC_QUAL_EVM_XY.EVM_Y (c : Carrier) (q : Nat) : Fld := ⟨Reg.SUBC.SC_QUAL_EVM_XY.addr c q, 16, 16⟩
def Reg.SUBC.SC_QUAL_EVM_XY.EVM_X (c : Carrier) (q : Nat) : Fld := ⟨Reg.SUBC.SC_QUAL_EVM_XY.addr c q, 0, 16⟩
/-- `SUBC.SC_QUAL_EVM`, R165. -/
def Reg.SUBC.SC_QUAL_EVM.addr (c : Carrier) (q : Nat) : Nat := c.base + 0x01601014 + 0x00000100 * q
def Reg.SUBC.SC_QUAL_EVM.EVM (c : Carrier) (q : Nat) : Fld := ⟨Reg.SUBC.SC_QUAL_EVM.addr c q, 0, 16⟩
/-- `SUBC.SC_QUAL_SNR`, R165. -/
def Reg.SUBC.SC_QUAL_SNR.addr (c : Carrier) (q : Nat) : Nat := c.base + 0x01601018 + 0x00000100 * q
def Reg.SUBC.SC_QUAL_SNR.SNR (c : Carrier) (q : Nat) : Fld := ⟨Reg.SUBC.SC_QUAL_SNR.addr c q, 0, 16⟩
/-- `SUBC.SC_QUAL_SNR_XY`, R165. -/
def Reg.SUBC.SC_QUAL_SNR_XY.addr (c : Carrier) (q : Nat) : Nat := c.base + 0x0160101C + 0x00000100 * q
def Reg.SUBC.SC_QUAL_SNR_XY.SNR_Y (c : Carrier) (q : Nat) : Fld := ⟨Reg.SUBC.SC_QUAL_SNR_XY.addr c q, 16, 16⟩
def Reg.SUBC.SC_QUAL_SNR_XY.SNR_X (c : Carrier) (q : Nat) : Fld := ⟨Reg.SUBC.SC_QUAL_SNR_XY.addr c q, 0, 16⟩
/-- `SUBC.SC_QUAL_BITS_LO`, R165. -/
def Reg.SUBC.SC_QUAL_BITS_LO.addr (c : Carrier) (q : Nat) : Nat := c.base + 0x01601020 + 0x00000100 * q
def Reg.SUBC.SC_QUAL_BITS_LO.BITS (c : Carrier) (q : Nat) : Fld := ⟨Reg.SUBC.SC_QUAL_BITS_LO.addr c q, 0, 32⟩
/-- `SUBC.SC_QUAL_BITS_HI`, R165. -/
def Reg.SUBC.SC_QUAL_BITS_HI.addr (c : Carrier) (q : Nat) : Nat := c.base + 0x01601024 + 0x00000100 * q
def Reg.SUBC.SC_QUAL_BITS_HI.BITS (c : Carrier) (q : Nat) : Fld := ⟨Reg.SUBC.SC_QUAL_BITS_HI.addr c q, 0, 32⟩
/-- `SUBC.SC_QUAL_ERRS_LO`, R165. -/
def Reg.SUBC.SC_QUAL_ERRS_LO.addr (c : Carrier) (q : Nat) : Nat := c.base + 0x01601028 + 0x00000100 * q
def Reg.SUBC.SC_QUAL_ERRS_LO.ERRS (c : Carrier) (q : Nat) : Fld := ⟨Reg.SUBC.SC_QUAL_ERRS_LO.addr c q, 0, 32⟩
/-- `SUBC.SC_QUAL_ERRS_HI`, R165. -/
def Reg.SUBC.SC_QUAL_ERRS_HI.addr (c : Carrier) (q : Nat) : Nat := c.base + 0x0160102C + 0x00000100 * q
def Reg.SUBC.SC_QUAL_ERRS_HI.ERRS (c : Carrier) (q : Nat) : Fld := ⟨Reg.SUBC.SC_QUAL_ERRS_HI.addr c q, 0, 32⟩
/-- `SUBC.SC_QUAL_GMI`, R165. -/
def Reg.SUBC.SC_QUAL_GMI.addr (c : Carrier) (q : Nat) : Nat := c.base + 0x01601030 + 0x00000100 * q
def Reg.SUBC.SC_QUAL_GMI.GMI (c : Carrier) (q : Nat) : Fld := ⟨Reg.SUBC.SC_QUAL_GMI.addr c q, 0, 16⟩
/-- `SUBC.SC_QUAL_CD`, R165. -/
def Reg.SUBC.SC_QUAL_CD.addr (c : Carrier) (q : Nat) : Nat := c.base + 0x01601034 + 0x00000100 * q
def Reg.SUBC.SC_QUAL_CD.CD (c : Carrier) (q : Nat) : Fld := ⟨Reg.SUBC.SC_QUAL_CD.addr c q, 0, 32⟩
/-- `SUBC.SC_QUAL_DGD_PDL`, R165. -/
def Reg.SUBC.SC_QUAL_DGD_PDL.addr (c : Carrier) (q : Nat) : Nat := c.base + 0x01601038 + 0x00000100 * q
def Reg.SUBC.SC_QUAL_DGD_PDL.PDL (c : Carrier) (q : Nat) : Fld := ⟨Reg.SUBC.SC_QUAL_DGD_PDL.addr c q, 16, 16⟩
def Reg.SUBC.SC_QUAL_DGD_PDL.DGD (c : Carrier) (q : Nat) : Fld := ⟨Reg.SUBC.SC_QUAL_DGD_PDL.addr c q, 0, 16⟩
/-- `SUBC.SC_QUAL_FOFS`, R165. -/
def Reg.SUBC.SC_QUAL_FOFS.addr (c : Carrier) (q : Nat) : Nat := c.base + 0x0160103C + 0x00000100 * q
def Reg.SUBC.SC_QUAL_FOFS.FOFS (c : Carrier) (q : Nat) : Fld := ⟨Reg.SUBC.SC_QUAL_FOFS.addr c q, 0, 16⟩
/-- `SUBC.SC_QUAL_SLIPS`, R165. -/
def Reg.SUBC.SC_QUAL_SLIPS.addr (c : Carrier) (q : Nat) : Nat := c.base + 0x01601040 + 0x00000100 * q
def Reg.SUBC.SC_QUAL_SLIPS.SLIPS (c : Carrier) (q : Nat) : Fld := ⟨Reg.SUBC.SC_QUAL_SLIPS.addr c q, 0, 16⟩
/-- `SUBC.SC_AVG_ITER`, R165. -/
def Reg.SUBC.SC_AVG_ITER.addr (c : Carrier) (q : Nat) : Nat := c.base + 0x01601044 + 0x00000100 * q
def Reg.SUBC.SC_AVG_ITER.AVG (c : Carrier) (q : Nat) : Fld := ⟨Reg.SUBC.SC_AVG_ITER.addr c q, 0, 12⟩
/-- `SUBC.SC_LDPC_CW_LO`, R165. -/
def Reg.SUBC.SC_LDPC_CW_LO.addr (c : Carrier) (q : Nat) : Nat := c.base + 0x01601050 + 0x00000100 * q
def Reg.SUBC.SC_LDPC_CW_LO.COUNT (c : Carrier) (q : Nat) : Fld := ⟨Reg.SUBC.SC_LDPC_CW_LO.addr c q, 0, 32⟩
/-- `SUBC.SC_LDPC_CW_HI`, R165. -/
def Reg.SUBC.SC_LDPC_CW_HI.addr (c : Carrier) (q : Nat) : Nat := c.base + 0x01601054 + 0x00000100 * q
def Reg.SUBC.SC_LDPC_CW_HI.COUNT (c : Carrier) (q : Nat) : Fld := ⟨Reg.SUBC.SC_LDPC_CW_HI.addr c q, 0, 32⟩
/-- `SUBC.SC_LDPC_FAIL_LO`, R165. -/
def Reg.SUBC.SC_LDPC_FAIL_LO.addr (c : Carrier) (q : Nat) : Nat := c.base + 0x01601058 + 0x00000100 * q
def Reg.SUBC.SC_LDPC_FAIL_LO.COUNT (c : Carrier) (q : Nat) : Fld := ⟨Reg.SUBC.SC_LDPC_FAIL_LO.addr c q, 0, 32⟩
/-- `SUBC.SC_LDPC_FAIL_HI`, R165. -/
def Reg.SUBC.SC_LDPC_FAIL_HI.addr (c : Carrier) (q : Nat) : Nat := c.base + 0x0160105C + 0x00000100 * q
def Reg.SUBC.SC_LDPC_FAIL_HI.COUNT (c : Carrier) (q : Nat) : Fld := ⟨Reg.SUBC.SC_LDPC_FAIL_HI.addr c q, 0, 32⟩
/-- `SUBC.SC_STAIR_UNCORR_LO`, R165. -/
def Reg.SUBC.SC_STAIR_UNCORR_LO.addr (c : Carrier) (q : Nat) : Nat := c.base + 0x01601060 + 0x00000100 * q
def Reg.SUBC.SC_STAIR_UNCORR_LO.COUNT (c : Carrier) (q : Nat) : Fld := ⟨Reg.SUBC.SC_STAIR_UNCORR_LO.addr c q, 0, 32⟩
/-- `SUBC.SC_STAIR_UNCORR_HI`, R165. -/
def Reg.SUBC.SC_STAIR_UNCORR_HI.addr (c : Carrier) (q : Nat) : Nat := c.base + 0x01601064 + 0x00000100 * q
def Reg.SUBC.SC_STAIR_UNCORR_HI.COUNT (c : Carrier) (q : Nat) : Fld := ⟨Reg.SUBC.SC_STAIR_UNCORR_HI.addr c q, 0, 32⟩
/-- `LENC.LENC_CFG`, R367. -/
def Reg.LENC.LENC_CFG.addr (c : Carrier) : Nat := c.base + 0x01700000
def Reg.LENC.LENC_CFG.RX_SID (c : Carrier) : Fld := ⟨Reg.LENC.LENC_CFG.addr c, 12, 2⟩
def Reg.LENC.LENC_CFG.TX_SID (c : Carrier) : Fld := ⟨Reg.LENC.LENC_CFG.addr c, 8, 2⟩
def Reg.LENC.LENC_CFG.AUTO_NEXT (c : Carrier) : Fld := ⟨Reg.LENC.LENC_CFG.addr c, 4, 1⟩
def Reg.LENC.LENC_CFG.REQUIRE_ENC (c : Carrier) : Fld := ⟨Reg.LENC.LENC_CFG.addr c, 2, 1⟩
def Reg.LENC.LENC_CFG.VBR (c : Carrier) : Fld := ⟨Reg.LENC.LENC_CFG.addr c, 1, 1⟩
def Reg.LENC.LENC_CFG.TX_ENC (c : Carrier) : Fld := ⟨Reg.LENC.LENC_CFG.addr c, 0, 1⟩
/-- `LENC.LENC_STAT`, R367. -/
def Reg.LENC.LENC_STAT.addr (c : Carrier) : Nat := c.base + 0x01700004
def Reg.LENC.LENC_STAT.CAP_REFUSED (c : Carrier) : Fld := ⟨Reg.LENC.LENC_STAT.addr c, 31, 1⟩
def Reg.LENC.LENC_STAT.LOAD_CAUSE (c : Carrier) : Fld := ⟨Reg.LENC.LENC_STAT.addr c, 16, 4⟩
def Reg.LENC.LENC_STAT.TX_KEY_EMPTY (c : Carrier) : Fld := ⟨Reg.LENC.LENC_STAT.addr c, 10, 1⟩
def Reg.LENC.LENC_STAT.VBR_ACTIVE (c : Carrier) : Fld := ⟨Reg.LENC.LENC_STAT.addr c, 9, 1⟩
def Reg.LENC.LENC_STAT.TX_ENC_ACTIVE (c : Carrier) : Fld := ⟨Reg.LENC.LENC_STAT.addr c, 8, 1⟩
def Reg.LENC.LENC_STAT.TX_KP (c : Carrier) : Fld := ⟨Reg.LENC.LENC_STAT.addr c, 0, 1⟩
/-- `LENC.KEY_CTRL`, R367. -/
def Reg.LENC.KEY_CTRL.addr (c : Carrier) : Nat := c.base + 0x01700008
def Reg.LENC.KEY_CTRL.SWAP_NOW (c : Carrier) : Fld := ⟨Reg.LENC.KEY_CTRL.addr c, 4, 1⟩
def Reg.LENC.KEY_CTRL.RX_LOAD (c : Carrier) : Fld := ⟨Reg.LENC.KEY_CTRL.addr c, 1, 1⟩
def Reg.LENC.KEY_CTRL.TX_LOAD (c : Carrier) : Fld := ⟨Reg.LENC.KEY_CTRL.addr c, 0, 1⟩
/-- `LENC.TX_LOAD_CFG`, R367. -/
def Reg.LENC.TX_LOAD_CFG.addr (c : Carrier) : Nat := c.base + 0x0170000C
def Reg.LENC.TX_LOAD_CFG.SLOT (c : Carrier) : Fld := ⟨Reg.LENC.TX_LOAD_CFG.addr c, 16, 6⟩
/-- `LENC.TX_EPOCH`, R367. -/
def Reg.LENC.TX_EPOCH.addr (c : Carrier) : Nat := c.base + 0x01700010
def Reg.LENC.TX_EPOCH.EPOCH (c : Carrier) : Fld := ⟨Reg.LENC.TX_EPOCH.addr c, 0, 32⟩
/-- `LENC.RX_LOAD_CFG`, R367. -/
def Reg.LENC.RX_LOAD_CFG.addr (c : Carrier) : Nat := c.base + 0x01700014
def Reg.LENC.RX_LOAD_CFG.SLOT (c : Carrier) : Fld := ⟨Reg.LENC.RX_LOAD_CFG.addr c, 16, 6⟩
/-- `LENC.RX_EPOCH`, R367. -/
def Reg.LENC.RX_EPOCH.addr (c : Carrier) : Nat := c.base + 0x01700018
def Reg.LENC.RX_EPOCH.EPOCH (c : Carrier) : Fld := ⟨Reg.LENC.RX_EPOCH.addr c, 0, 32⟩
/-- `LENC.TX_KEY_INFO`, R367. -/
def Reg.LENC.TX_KEY_INFO.addr (c : Carrier) (p : Nat) : Nat := c.base + 0x01700020 + 16 * p
def Reg.LENC.TX_KEY_INFO.VALID (c : Carrier) (p : Nat) : Fld := ⟨Reg.LENC.TX_KEY_INFO.addr c p, 31, 1⟩
def Reg.LENC.TX_KEY_INFO.LOADING (c : Carrier) (p : Nat) : Fld := ⟨Reg.LENC.TX_KEY_INFO.addr c p, 30, 1⟩
def Reg.LENC.TX_KEY_INFO.ACTIVE (c : Carrier) (p : Nat) : Fld := ⟨Reg.LENC.TX_KEY_INFO.addr c p, 29, 1⟩
def Reg.LENC.TX_KEY_INFO.SLOT (c : Carrier) (p : Nat) : Fld := ⟨Reg.LENC.TX_KEY_INFO.addr c p, 16, 6⟩
/-- `LENC.TX_KEY_EPOCH`, R367. -/
def Reg.LENC.TX_KEY_EPOCH.addr (c : Carrier) (p : Nat) : Nat := c.base + 0x01700024 + 16 * p
def Reg.LENC.TX_KEY_EPOCH.EPOCH (c : Carrier) (p : Nat) : Fld := ⟨Reg.LENC.TX_KEY_EPOCH.addr c p, 0, 32⟩
/-- `LENC.TX_KEY_FRAMES`, R367. -/
def Reg.LENC.TX_KEY_FRAMES.addr (c : Carrier) (p : Nat) : Nat := c.base + 0x01700028 + 16 * p
def Reg.LENC.TX_KEY_FRAMES.FRAMES (c : Carrier) (p : Nat) : Fld := ⟨Reg.LENC.TX_KEY_FRAMES.addr c p, 0, 32⟩
/-- `LENC.RX_KEY_INFO`, R367. -/
def Reg.LENC.RX_KEY_INFO.addr (c : Carrier) (p : Nat) : Nat := c.base + 0x01700040 + 16 * p
def Reg.LENC.RX_KEY_INFO.VALID (c : Carrier) (p : Nat) : Fld := ⟨Reg.LENC.RX_KEY_INFO.addr c p, 31, 1⟩
def Reg.LENC.RX_KEY_INFO.LOADING (c : Carrier) (p : Nat) : Fld := ⟨Reg.LENC.RX_KEY_INFO.addr c p, 30, 1⟩
def Reg.LENC.RX_KEY_INFO.ACTIVE (c : Carrier) (p : Nat) : Fld := ⟨Reg.LENC.RX_KEY_INFO.addr c p, 29, 1⟩
def Reg.LENC.RX_KEY_INFO.SLOT (c : Carrier) (p : Nat) : Fld := ⟨Reg.LENC.RX_KEY_INFO.addr c p, 16, 6⟩
/-- `LENC.RX_KEY_EPOCH`, R367. -/
def Reg.LENC.RX_KEY_EPOCH.addr (c : Carrier) (p : Nat) : Nat := c.base + 0x01700044 + 16 * p
def Reg.LENC.RX_KEY_EPOCH.EPOCH (c : Carrier) (p : Nat) : Fld := ⟨Reg.LENC.RX_KEY_EPOCH.addr c p, 0, 32⟩
/-- `LENC.LANE_FENCED`, R367. -/
def Reg.LENC.LANE_FENCED.addr (c : Carrier) : Nat := c.base + 0x01700060
def Reg.LENC.LANE_FENCED.FENCED (c : Carrier) : Fld := ⟨Reg.LENC.LANE_FENCED.addr c, 0, 17⟩
/-- `LENC.LANE_ROLE`, R367. -/
def Reg.LENC.LANE_ROLE.addr (c : Carrier) : Nat := c.base + 0x01700064
def Reg.LENC.LANE_ROLE.IN_SERVICE (c : Carrier) : Fld := ⟨Reg.LENC.LANE_ROLE.addr c, 16, 5⟩
def Reg.LENC.LANE_ROLE.RESERVE (c : Carrier) : Fld := ⟨Reg.LENC.LANE_ROLE.addr c, 0, 5⟩
/-- `LENC.TX_VOID`, R367. -/
def Reg.LENC.TX_VOID.addr (c : Carrier) : Nat := c.base + 0x01700070
def Reg.LENC.TX_VOID.COUNT (c : Carrier) : Fld := ⟨Reg.LENC.TX_VOID.addr c, 0, 32⟩
/-- `LENC.TX_EMPTY_FRM`, R367. -/
def Reg.LENC.TX_EMPTY_FRM.addr (c : Carrier) : Nat := c.base + 0x01700074
def Reg.LENC.TX_EMPTY_FRM.COUNT (c : Carrier) : Fld := ⟨Reg.LENC.TX_EMPTY_FRM.addr c, 0, 32⟩
/-- `LENC.LANE_STAT`, R367. -/
def Reg.LENC.LANE_STAT.addr (c : Carrier) (i : Nat) : Nat := c.base + 0x01700080 + 4 * i
def Reg.LENC.LANE_STAT.FAULTS (c : Carrier) (i : Nat) : Fld := ⟨Reg.LENC.LANE_STAT.addr c i, 16, 16⟩
def Reg.LENC.LANE_STAT.TEST_ACTIVE (c : Carrier) (i : Nat) : Fld := ⟨Reg.LENC.LANE_STAT.addr c i, 2, 1⟩
def Reg.LENC.LANE_STAT.ROLE (c : Carrier) (i : Nat) : Fld := ⟨Reg.LENC.LANE_STAT.addr c i, 0, 2⟩
/-- `LENC.RX_TRAIL_STAT`, R368. -/
def Reg.LENC.RX_TRAIL_STAT.addr (c : Carrier) (t : Nat) : Nat := c.base + 0x01710000 + 0x00000100 * t
def Reg.LENC.RX_TRAIL_STAT.ENC_LAST (c : Carrier) (t : Nat) : Fld := ⟨Reg.LENC.RX_TRAIL_STAT.addr c t, 1, 1⟩
def Reg.LENC.RX_TRAIL_STAT.KP_LAST (c : Carrier) (t : Nat) : Fld := ⟨Reg.LENC.RX_TRAIL_STAT.addr c t, 0, 1⟩
/-- `LENC.TAG_OK_LO`, R368. -/
def Reg.LENC.TAG_OK_LO.addr (c : Carrier) (t : Nat) : Nat := c.base + 0x01710008 + 0x00000100 * t
def Reg.LENC.TAG_OK_LO.COUNT (c : Carrier) (t : Nat) : Fld := ⟨Reg.LENC.TAG_OK_LO.addr c t, 0, 32⟩
/-- `LENC.TAG_OK_HI`, R368. -/
def Reg.LENC.TAG_OK_HI.addr (c : Carrier) (t : Nat) : Nat := c.base + 0x0171000C + 0x00000100 * t
def Reg.LENC.TAG_OK_HI.COUNT (c : Carrier) (t : Nat) : Fld := ⟨Reg.LENC.TAG_OK_HI.addr c t, 0, 32⟩
/-- `LENC.TAG_FAIL`, R368. -/
def Reg.LENC.TAG_FAIL.addr (c : Carrier) (t : Nat) : Nat := c.base + 0x01710010 + 0x00000100 * t
def Reg.LENC.TAG_FAIL.COUNT (c : Carrier) (t : Nat) : Fld := ⟨Reg.LENC.TAG_FAIL.addr c t, 0, 32⟩
/-- `LENC.NOKEY`, R368. -/
def Reg.LENC.NOKEY.addr (c : Carrier) (t : Nat) : Nat := c.base + 0x01710014 + 0x00000100 * t
def Reg.LENC.NOKEY.COUNT (c : Carrier) (t : Nat) : Fld := ⟨Reg.LENC.NOKEY.addr c t, 0, 32⟩
/-- `LENC.VBR_DROP`, R368. -/
def Reg.LENC.VBR_DROP.addr (c : Carrier) (t : Nat) : Nat := c.base + 0x01710018 + 0x00000100 * t
def Reg.LENC.VBR_DROP.COUNT (c : Carrier) (t : Nat) : Fld := ⟨Reg.LENC.VBR_DROP.addr c t, 0, 32⟩
/-- `LENC.LANE_DROP`, R368. -/
def Reg.LENC.LANE_DROP.addr (c : Carrier) (t : Nat) : Nat := c.base + 0x0171001C + 0x00000100 * t
def Reg.LENC.LANE_DROP.COUNT (c : Carrier) (t : Nat) : Fld := ⟨Reg.LENC.LANE_DROP.addr c t, 0, 32⟩
/-- `LENC.PLAIN_DROP`, R368. -/
def Reg.LENC.PLAIN_DROP.addr (c : Carrier) (t : Nat) : Nat := c.base + 0x01710020 + 0x00000100 * t
def Reg.LENC.PLAIN_DROP.COUNT (c : Carrier) (t : Nat) : Fld := ⟨Reg.LENC.PLAIN_DROP.addr c t, 0, 32⟩

end Sys2Proof.Machine
end

