-- ==== Sys2Proof/Machine/RegFieldsMgmt.lean ====
section
/-! DEFINITION. The registers of the management, time and security blocks: an address for each register, a field for each field, as the register tables of spec/ give them (R3, R23, R34, R35, R275 to R277, R306 to R308, R369, R394, R395, R418, R419, R441, R442, R452, R472, R473, R488 to R490, R510, R511, R515, R530). -/

namespace Sys2Proof.Machine

/-- `TOP.ID`, R3. -/
def Reg.TOP.ID.addr : Nat := 0
def Reg.TOP.ID.PART : Fld := ⟨Reg.TOP.ID.addr, 16, 16⟩
def Reg.TOP.ID.STEPPING : Fld := ⟨Reg.TOP.ID.addr, 8, 8⟩
def Reg.TOP.ID.GRADE : Fld := ⟨Reg.TOP.ID.addr, 4, 4⟩
/-- `TOP.CARRIER_CFG`, R34. -/
def Reg.TOP.CARRIER_CFG.addr : Nat := 64
def Reg.TOP.CARRIER_CFG.MODE : Fld := ⟨Reg.TOP.CARRIER_CFG.addr, 0, 2⟩
/-- `TOP.CARRIER_STAT`, R35. -/
def Reg.TOP.CARRIER_STAT.addr : Nat := 68
def Reg.TOP.CARRIER_STAT.MODE_ERR : Fld := ⟨Reg.TOP.CARRIER_STAT.addr, 7, 1⟩
def Reg.TOP.CARRIER_STAT.PHASE_OK : Fld := ⟨Reg.TOP.CARRIER_STAT.addr, 6, 1⟩
def Reg.TOP.CARRIER_STAT.MODE_ACTIVE : Fld := ⟨Reg.TOP.CARRIER_STAT.addr, 0, 2⟩
/-- `TOP.FAULT_STAT`, R441. -/
def Reg.TOP.FAULT_STAT.addr : Nat := 16
def Reg.TOP.FAULT_STAT.PIN : Fld := ⟨Reg.TOP.FAULT_STAT.addr, 8, 1⟩
def Reg.TOP.FAULT_STAT.VOLTAGE_FAIL : Fld := ⟨Reg.TOP.FAULT_STAT.addr, 3, 1⟩
def Reg.TOP.FAULT_STAT.THERMAL_TRIP : Fld := ⟨Reg.TOP.FAULT_STAT.addr, 2, 1⟩
def Reg.TOP.FAULT_STAT.KEY_ZEROIZED : Fld := ⟨Reg.TOP.FAULT_STAT.addr, 1, 1⟩
def Reg.TOP.FAULT_STAT.CLK_FAIL : Fld := ⟨Reg.TOP.FAULT_STAT.addr, 0, 1⟩
/-- `TOP.FAULT_TEST`, R441. -/
def Reg.TOP.FAULT_TEST.addr : Nat := 20
def Reg.TOP.FAULT_TEST.TEST : Fld := ⟨Reg.TOP.FAULT_TEST.addr, 0, 1⟩
/-- `TOP.COMMIT`, R441. -/
def Reg.TOP.COMMIT.addr : Nat := 32
def Reg.TOP.COMMIT.GROUPS : Fld := ⟨Reg.TOP.COMMIT.addr, 0, 32⟩
/-- `TOP.SHADOW_REVERT`, R441. -/
def Reg.TOP.SHADOW_REVERT.addr : Nat := 36
def Reg.TOP.SHADOW_REVERT.GROUPS : Fld := ⟨Reg.TOP.SHADOW_REVERT.addr, 0, 32⟩
/-- `TOP.COMMIT_LAST`, R441. -/
def Reg.TOP.COMMIT_LAST.addr : Nat := 40
def Reg.TOP.COMMIT_LAST.GROUPS : Fld := ⟨Reg.TOP.COMMIT_LAST.addr, 0, 32⟩
/-- `TOP.COMMIT_REFUSED`, R441. -/
def Reg.TOP.COMMIT_REFUSED.addr : Nat := 44
def Reg.TOP.COMMIT_REFUSED.GROUPS : Fld := ⟨Reg.TOP.COMMIT_REFUSED.addr, 0, 32⟩
/-- `TOP.COMMIT_SEQ`, R441. -/
def Reg.TOP.COMMIT_SEQ.addr : Nat := 48
def Reg.TOP.COMMIT_SEQ.COUNT : Fld := ⟨Reg.TOP.COMMIT_SEQ.addr, 0, 32⟩
/-- `TOP.EVT_SUM`, R441. -/
def Reg.TOP.EVT_SUM.addr : Nat := 128
def Reg.TOP.EVT_SUM.ACTIVE : Fld := ⟨Reg.TOP.EVT_SUM.addr, 0, 32⟩
/-- `TOP.HOST_EN`, R441. -/
def Reg.TOP.HOST_EN.addr : Nat := 132
def Reg.TOP.HOST_EN.EN : Fld := ⟨Reg.TOP.HOST_EN.addr, 0, 32⟩
/-- `TOP.FAULT_VEC`, R441. -/
def Reg.TOP.FAULT_VEC.addr : Nat := 136
def Reg.TOP.FAULT_VEC.VEC : Fld := ⟨Reg.TOP.FAULT_VEC.addr, 0, 6⟩
/-- `TOP.CORE_EN`, R441. -/
def Reg.TOP.CORE_EN.addr (k : Nat) : Nat := 144 + 4 * k
def Reg.TOP.CORE_EN.EN (k : Nat) : Fld := ⟨Reg.TOP.CORE_EN.addr k, 0, 32⟩
/-- `TOP.VEC_MAP`, R441. -/
def Reg.TOP.VEC_MAP.addr (s : Nat) : Nat := 0x00000100 + 4 * s
def Reg.TOP.VEC_MAP.VEC (s : Nat) : Fld := ⟨Reg.TOP.VEC_MAP.addr s, 0, 6⟩
/-- `TOP.VEC_ACK_LO`, R441. -/
def Reg.TOP.VEC_ACK_LO.addr : Nat := 0x00000200
def Reg.TOP.VEC_ACK_LO.LATCH : Fld := ⟨Reg.TOP.VEC_ACK_LO.addr, 0, 32⟩
/-- `TOP.VEC_ACK_HI`, R441. -/
def Reg.TOP.VEC_ACK_HI.addr : Nat := 0x00000204
def Reg.TOP.VEC_ACK_HI.LATCH : Fld := ⟨Reg.TOP.VEC_ACK_HI.addr, 0, 32⟩
/-- `TOP.GPIO_DIR`, R530. -/
def Reg.TOP.GPIO_DIR.addr : Nat := 0x00000300
def Reg.TOP.GPIO_DIR.OUT_EN : Fld := ⟨Reg.TOP.GPIO_DIR.addr, 0, 16⟩
/-- `TOP.GPIO_OD`, R530. -/
def Reg.TOP.GPIO_OD.addr : Nat := 0x00000304
def Reg.TOP.GPIO_OD.OD : Fld := ⟨Reg.TOP.GPIO_OD.addr, 0, 16⟩
/-- `TOP.GPIO_OUT`, R530. -/
def Reg.TOP.GPIO_OUT.addr : Nat := 0x00000308
def Reg.TOP.GPIO_OUT.LEVEL : Fld := ⟨Reg.TOP.GPIO_OUT.addr, 0, 16⟩
/-- `TOP.GPIO_IN`, R530. -/
def Reg.TOP.GPIO_IN.addr : Nat := 0x0000030C
def Reg.TOP.GPIO_IN.LEVEL : Fld := ⟨Reg.TOP.GPIO_IN.addr, 0, 16⟩
/-- `CLK.BRG_QUIET`, R23. -/
def Reg.CLK.BRG_QUIET.addr : Nat := 0x00100080
def Reg.CLK.BRG_QUIET.QUIET : Fld := ⟨Reg.CLK.BRG_QUIET.addr, 0, 16⟩
/-- `CLK.CLK_STAT`, R472. -/
def Reg.CLK.CLK_STAT.addr : Nat := 0x00100000
def Reg.CLK.CLK_STAT.TIME_ROOT : Fld := ⟨Reg.CLK.CLK_STAT.addr, 17, 1⟩
def Reg.CLK.CLK_STAT.MGMT_ROOT : Fld := ⟨Reg.CLK.CLK_STAT.addr, 16, 1⟩
def Reg.CLK.CLK_STAT.SPLL_LOCK : Fld := ⟨Reg.CLK.CLK_STAT.addr, 5, 1⟩
def Reg.CLK.CLK_STAT.MPLL_LOCK : Fld := ⟨Reg.CLK.CLK_STAT.addr, 4, 1⟩
def Reg.CLK.CLK_STAT.PCIEREF_READY : Fld := ⟨Reg.CLK.CLK_STAT.addr, 3, 1⟩
def Reg.CLK.CLK_STAT.SDREF_READY : Fld := ⟨Reg.CLK.CLK_STAT.addr, 2, 1⟩
def Reg.CLK.CLK_STAT.XTAL_READY : Fld := ⟨Reg.CLK.CLK_STAT.addr, 1, 1⟩
def Reg.CLK.CLK_STAT.ROSC_READY : Fld := ⟨Reg.CLK.CLK_STAT.addr, 0, 1⟩
/-- `CLK.ROOT_CFG`, R472. -/
def Reg.CLK.ROOT_CFG.addr : Nat := 0x00100004
def Reg.CLK.ROOT_CFG.TIME_ROOT : Fld := ⟨Reg.CLK.ROOT_CFG.addr, 1, 1⟩
def Reg.CLK.ROOT_CFG.MGMT_ROOT : Fld := ⟨Reg.CLK.ROOT_CFG.addr, 0, 1⟩
/-- `CLK.SW_STAT`, R472. -/
def Reg.CLK.SW_STAT.addr : Nat := 0x00100008
def Reg.CLK.SW_STAT.RESULT : Fld := ⟨Reg.CLK.SW_STAT.addr, 0, 4⟩
/-- `CLK.MON_STAT`, R472. -/
def Reg.CLK.MON_STAT.addr : Nat := 0x00100010
def Reg.CLK.MON_STAT.LAST_CNT : Fld := ⟨Reg.CLK.MON_STAT.addr, 16, 16⟩
def Reg.CLK.MON_STAT.REF_CNT : Fld := ⟨Reg.CLK.MON_STAT.addr, 0, 16⟩
/-- `CLK.DIV_CFG`, R472. -/
def Reg.CLK.DIV_CFG.addr : Nat := 0x00100020
def Reg.CLK.DIV_CFG.BRG_DIV_PCI : Fld := ⟨Reg.CLK.DIV_CFG.addr, 18, 2⟩
def Reg.CLK.DIV_CFG.BRG_DIV_AON : Fld := ⟨Reg.CLK.DIV_CFG.addr, 16, 2⟩
def Reg.CLK.DIV_CFG.BRG_DIV_MON : Fld := ⟨Reg.CLK.DIV_CFG.addr, 14, 2⟩
def Reg.CLK.DIV_CFG.BRG_DIV_SEC : Fld := ⟨Reg.CLK.DIV_CFG.addr, 12, 2⟩
def Reg.CLK.DIV_CFG.SEC_DIV : Fld := ⟨Reg.CLK.DIV_CFG.addr, 0, 4⟩
/-- `CLK.GATE_CTRL`, R472. -/
def Reg.CLK.GATE_CTRL.addr : Nat := 0x00100040
def Reg.CLK.GATE_CTRL.GATE : Fld := ⟨Reg.CLK.GATE_CTRL.addr, 0, 6⟩
/-- `CLK.GATE_STAT`, R472. -/
def Reg.CLK.GATE_STAT.addr : Nat := 0x00100044
def Reg.CLK.GATE_STAT.REF_ISL : Fld := ⟨Reg.CLK.GATE_STAT.addr, 20, 3⟩
def Reg.CLK.GATE_STAT.CAUSE : Fld := ⟨Reg.CLK.GATE_STAT.addr, 16, 4⟩
def Reg.CLK.GATE_STAT.PENDING : Fld := ⟨Reg.CLK.GATE_STAT.addr, 8, 6⟩
def Reg.CLK.GATE_STAT.GATED : Fld := ⟨Reg.CLK.GATE_STAT.addr, 0, 6⟩
/-- `CLK.RST_CTRL`, R473. -/
def Reg.CLK.RST_CTRL.addr : Nat := 0x00100060
def Reg.CLK.RST_CTRL.KEY : Fld := ⟨Reg.CLK.RST_CTRL.addr, 16, 16⟩
def Reg.CLK.RST_CTRL.ISL_RST : Fld := ⟨Reg.CLK.RST_CTRL.addr, 8, 6⟩
def Reg.CLK.RST_CTRL.SYSTEM : Fld := ⟨Reg.CLK.RST_CTRL.addr, 1, 1⟩
def Reg.CLK.RST_CTRL.DEVICE : Fld := ⟨Reg.CLK.RST_CTRL.addr, 0, 1⟩
/-- `CLK.RST_CAUSE`, R473. -/
def Reg.CLK.RST_CAUSE.addr : Nat := 0x00100064
def Reg.CLK.RST_CAUSE.SLEEP_EXIT : Fld := ⟨Reg.CLK.RST_CAUSE.addr, 6, 1⟩
def Reg.CLK.RST_CAUSE.JTAG : Fld := ⟨Reg.CLK.RST_CAUSE.addr, 5, 1⟩
def Reg.CLK.RST_CAUSE.FALLBACK : Fld := ⟨Reg.CLK.RST_CAUSE.addr, 4, 1⟩
def Reg.CLK.RST_CAUSE.CONFIRM : Fld := ⟨Reg.CLK.RST_CAUSE.addr, 3, 1⟩
def Reg.CLK.RST_CAUSE.HOST : Fld := ⟨Reg.CLK.RST_CAUSE.addr, 2, 1⟩
def Reg.CLK.RST_CAUSE.PIN : Fld := ⟨Reg.CLK.RST_CAUSE.addr, 1, 1⟩
def Reg.CLK.RST_CAUSE.POWER : Fld := ⟨Reg.CLK.RST_CAUSE.addr, 0, 1⟩
/-- `CLK.PWR_CTRL`, R473. -/
def Reg.CLK.PWR_CTRL.addr : Nat := 0x00100070
def Reg.CLK.PWR_CTRL.KEY : Fld := ⟨Reg.CLK.PWR_CTRL.addr, 16, 16⟩
def Reg.CLK.PWR_CTRL.DS_XTAL : Fld := ⟨Reg.CLK.PWR_CTRL.addr, 1, 1⟩
def Reg.CLK.PWR_CTRL.DEEP_SLEEP : Fld := ⟨Reg.CLK.PWR_CTRL.addr, 0, 1⟩
/-- `CLK.PWR_STAT`, R473. -/
def Reg.CLK.PWR_STAT.addr : Nat := 0x00100074
def Reg.CLK.PWR_STAT.STATE : Fld := ⟨Reg.CLK.PWR_STAT.addr, 0, 2⟩
/-- `CLK.WAKE_CFG`, R473. -/
def Reg.CLK.WAKE_CFG.addr : Nat := 0x00100078
def Reg.CLK.WAKE_CFG.POL : Fld := ⟨Reg.CLK.WAKE_CFG.addr, 16, 16⟩
def Reg.CLK.WAKE_CFG.MASK : Fld := ⟨Reg.CLK.WAKE_CFG.addr, 0, 16⟩
/-- `CLK.WAKE_STAT`, R473. -/
def Reg.CLK.WAKE_STAT.addr : Nat := 0x0010007C
def Reg.CLK.WAKE_STAT.ZEROIZE : Fld := ⟨Reg.CLK.WAKE_STAT.addr, 16, 1⟩
def Reg.CLK.WAKE_STAT.GPIO : Fld := ⟨Reg.CLK.WAKE_STAT.addr, 0, 16⟩
/-- `CLK.AVS_STAT`, R515. -/
def Reg.CLK.AVS_STAT.addr : Nat := 0x00100090
def Reg.CLK.AVS_STAT.VID : Fld := ⟨Reg.CLK.AVS_STAT.addr, 0, 5⟩
/-- `CLK.AVS_CFG`, R515. -/
def Reg.CLK.AVS_CFG.addr : Nat := 0x00100094
def Reg.CLK.AVS_CFG.EN : Fld := ⟨Reg.CLK.AVS_CFG.addr, 31, 1⟩
def Reg.CLK.AVS_CFG.FIXED : Fld := ⟨Reg.CLK.AVS_CFG.addr, 0, 5⟩
/-- `BOOT.BOOT_STAT`, R394. -/
def Reg.BOOT.BOOT_STAT.addr : Nat := 0x00200000
def Reg.BOOT.BOOT_STAT.PHASE : Fld := ⟨Reg.BOOT.BOOT_STAT.addr, 28, 4⟩
def Reg.BOOT.BOOT_STAT.IMAGE : Fld := ⟨Reg.BOOT.BOOT_STAT.addr, 24, 2⟩
def Reg.BOOT.BOOT_STAT.SVC_ERR : Fld := ⟨Reg.BOOT.BOOT_STAT.addr, 22, 1⟩
def Reg.BOOT.BOOT_STAT.NO_CAL : Fld := ⟨Reg.BOOT.BOOT_STAT.addr, 21, 1⟩
def Reg.BOOT.BOOT_STAT.AUTH_ONLY : Fld := ⟨Reg.BOOT.BOOT_STAT.addr, 20, 1⟩
def Reg.BOOT.BOOT_STAT.GOLD_BAD : Fld := ⟨Reg.BOOT.BOOT_STAT.addr, 17, 1⟩
def Reg.BOOT.BOOT_STAT.PRIM_BAD : Fld := ⟨Reg.BOOT.BOOT_STAT.addr, 16, 1⟩
def Reg.BOOT.BOOT_STAT.PRIM_CAUSE : Fld := ⟨Reg.BOOT.BOOT_STAT.addr, 4, 4⟩
def Reg.BOOT.BOOT_STAT.GOLD_CAUSE : Fld := ⟨Reg.BOOT.BOOT_STAT.addr, 0, 4⟩
/-- `BOOT.BOOT_CTRL`, R394. -/
def Reg.BOOT.BOOT_CTRL.addr : Nat := 0x00200004
def Reg.BOOT.BOOT_CTRL.AUTH_LOCK : Fld := ⟨Reg.BOOT.BOOT_CTRL.addr, 12, 1⟩
def Reg.BOOT.BOOT_CTRL.GOLD_WE : Fld := ⟨Reg.BOOT.BOOT_CTRL.addr, 8, 1⟩
def Reg.BOOT.BOOT_CTRL.NEXT_IMAGE : Fld := ⟨Reg.BOOT.BOOT_CTRL.addr, 5, 1⟩
def Reg.BOOT.BOOT_CTRL.CLR_BAD : Fld := ⟨Reg.BOOT.BOOT_CTRL.addr, 4, 1⟩
def Reg.BOOT.BOOT_CTRL.FULL_SVC : Fld := ⟨Reg.BOOT.BOOT_CTRL.addr, 1, 1⟩
def Reg.BOOT.BOOT_CTRL.CONFIRM : Fld := ⟨Reg.BOOT.BOOT_CTRL.addr, 0, 1⟩
/-- `BOOT.IMAGE_SEQ`, R394. -/
def Reg.BOOT.IMAGE_SEQ.addr : Nat := 0x00200008
def Reg.BOOT.IMAGE_SEQ.SEQ : Fld := ⟨Reg.BOOT.IMAGE_SEQ.addr, 0, 32⟩
/-- `BOOT.IMAGE_LEN`, R394. -/
def Reg.BOOT.IMAGE_LEN.addr : Nat := 0x0020000C
def Reg.BOOT.IMAGE_LEN.LEN : Fld := ⟨Reg.BOOT.IMAGE_LEN.addr, 0, 32⟩
/-- `BOOT.BOOT_TIME`, R394. -/
def Reg.BOOT.BOOT_TIME.addr : Nat := 0x00200010
def Reg.BOOT.BOOT_TIME.US : Fld := ⟨Reg.BOOT.BOOT_TIME.addr, 0, 32⟩
/-- `BOOT.SERVICE_TIME`, R394. -/
def Reg.BOOT.SERVICE_TIME.addr : Nat := 0x00200014
def Reg.BOOT.SERVICE_TIME.US : Fld := ⟨Reg.BOOT.SERVICE_TIME.addr, 0, 32⟩
/-- `BOOT.CAL_A`, R394. -/
def Reg.BOOT.CAL_A.addr : Nat := 0x00200018
def Reg.BOOT.CAL_A.OFS : Fld := ⟨Reg.BOOT.CAL_A.addr, 0, 32⟩
/-- `BOOT.CAL_B`, R394. -/
def Reg.BOOT.CAL_B.addr : Nat := 0x0020001C
def Reg.BOOT.CAL_B.OFS : Fld := ⟨Reg.BOOT.CAL_B.addr, 0, 32⟩
/-- `BOOT.REC_STAT`, R394. -/
def Reg.BOOT.REC_STAT.addr : Nat := 0x00200020
def Reg.BOOT.REC_STAT.APPLIED : Fld := ⟨Reg.BOOT.REC_STAT.addr, 16, 16⟩
def Reg.BOOT.REC_STAT.FAIL_REC : Fld := ⟨Reg.BOOT.REC_STAT.addr, 0, 16⟩
/-- `BOOT.KEY_STAT`, R394. -/
def Reg.BOOT.KEY_STAT.addr : Nat := 0x00200024
def Reg.BOOT.KEY_STAT.KEY_FAIL : Fld := ⟨Reg.BOOT.KEY_STAT.addr, 8, 8⟩
def Reg.BOOT.KEY_STAT.KEY_OK : Fld := ⟨Reg.BOOT.KEY_STAT.addr, 0, 8⟩
/-- `BOOT.HOST_WR_DROP`, R394. -/
def Reg.BOOT.HOST_WR_DROP.addr : Nat := 0x00200028
def Reg.BOOT.HOST_WR_DROP.COUNT : Fld := ⟨Reg.BOOT.HOST_WR_DROP.addr, 0, 32⟩
/-- `BOOT.XSPI_CFG`, R394. -/
def Reg.BOOT.XSPI_CFG.addr : Nat := 0x00200040
def Reg.BOOT.XSPI_CFG.MODE : Fld := ⟨Reg.BOOT.XSPI_CFG.addr, 16, 2⟩
def Reg.BOOT.XSPI_CFG.DIV : Fld := ⟨Reg.BOOT.XSPI_CFG.addr, 8, 7⟩
def Reg.BOOT.XSPI_CFG.DUMMY : Fld := ⟨Reg.BOOT.XSPI_CFG.addr, 0, 5⟩
/-- `BOOT.XSPI_ADDR`, R394. -/
def Reg.BOOT.XSPI_ADDR.addr : Nat := 0x00200044
def Reg.BOOT.XSPI_ADDR.ADDR : Fld := ⟨Reg.BOOT.XSPI_ADDR.addr, 0, 32⟩
/-- `BOOT.XSPI_CMD`, R394. -/
def Reg.BOOT.XSPI_CMD.addr : Nat := 0x00200048
def Reg.BOOT.XSPI_CMD.GO : Fld := ⟨Reg.BOOT.XSPI_CMD.addr, 31, 1⟩
def Reg.BOOT.XSPI_CMD.TYPE : Fld := ⟨Reg.BOOT.XSPI_CMD.addr, 24, 2⟩
def Reg.BOOT.XSPI_CMD.LEN : Fld := ⟨Reg.BOOT.XSPI_CMD.addr, 8, 9⟩
def Reg.BOOT.XSPI_CMD.OPCODE : Fld := ⟨Reg.BOOT.XSPI_CMD.addr, 0, 8⟩
/-- `BOOT.XSPI_STAT`, R394. -/
def Reg.BOOT.XSPI_STAT.addr : Nat := 0x0020004C
def Reg.BOOT.XSPI_STAT.ERR : Fld := ⟨Reg.BOOT.XSPI_STAT.addr, 1, 1⟩
def Reg.BOOT.XSPI_STAT.BUSY : Fld := ⟨Reg.BOOT.XSPI_STAT.addr, 0, 1⟩
/-- `BOOT.XSPI_DATA`, R394. -/
def Reg.BOOT.XSPI_DATA.addr (i : Nat) : Nat := 0x00200100 + 4 * i
def Reg.BOOT.XSPI_DATA.DATA (i : Nat) : Fld := ⟨Reg.BOOT.XSPI_DATA.addr i, 0, 32⟩
/-- `POOL.POOL_OWN`, R418. -/
def Reg.POOL.POOL_OWN.addr (k : Nat) : Nat := 0x00300000 + 4 * k
def Reg.POOL.POOL_OWN.OWNER (k : Nat) : Fld := ⟨Reg.POOL.POOL_OWN.addr k, 0, 3⟩
/-- `POOL.POOL_CFG`, R418. -/
def Reg.POOL.POOL_CFG.addr : Nat := 0x00300010
def Reg.POOL.POOL_CFG.LOG_CORR : Fld := ⟨Reg.POOL.POOL_CFG.addr, 0, 1⟩
/-- `POOL.ECC_FLIP_LO`, R418. -/
def Reg.POOL.ECC_FLIP_LO.addr : Nat := 0x00300020
def Reg.POOL.ECC_FLIP_LO.MASK : Fld := ⟨Reg.POOL.ECC_FLIP_LO.addr, 0, 32⟩
/-- `POOL.ECC_FLIP_HI`, R418. -/
def Reg.POOL.ECC_FLIP_HI.addr : Nat := 0x00300024
def Reg.POOL.ECC_FLIP_HI.MASK : Fld := ⟨Reg.POOL.ECC_FLIP_HI.addr, 0, 32⟩
/-- `POOL.ECC_FLIP_CTL`, R418. -/
def Reg.POOL.ECC_FLIP_CTL.addr : Nat := 0x00300028
def Reg.POOL.ECC_FLIP_CTL.ARM : Fld := ⟨Reg.POOL.ECC_FLIP_CTL.addr, 31, 1⟩
def Reg.POOL.ECC_FLIP_CTL.POOL : Fld := ⟨Reg.POOL.ECC_FLIP_CTL.addr, 24, 2⟩
def Reg.POOL.ECC_FLIP_CTL.BYTE : Fld := ⟨Reg.POOL.ECC_FLIP_CTL.addr, 16, 3⟩
def Reg.POOL.ECC_FLIP_CTL.CHK : Fld := ⟨Reg.POOL.ECC_FLIP_CTL.addr, 0, 8⟩
/-- `POOL.SCRUB_START`, R418. -/
def Reg.POOL.SCRUB_START.addr : Nat := 0x00300040
def Reg.POOL.SCRUB_START.ADDR : Fld := ⟨Reg.POOL.SCRUB_START.addr, 3, 29⟩
/-- `POOL.SCRUB_END`, R418. -/
def Reg.POOL.SCRUB_END.addr : Nat := 0x00300044
def Reg.POOL.SCRUB_END.ADDR : Fld := ⟨Reg.POOL.SCRUB_END.addr, 3, 29⟩
/-- `POOL.SCRUB_CTRL`, R418. -/
def Reg.POOL.SCRUB_CTRL.addr : Nat := 0x00300048
def Reg.POOL.SCRUB_CTRL.STOP : Fld := ⟨Reg.POOL.SCRUB_CTRL.addr, 1, 1⟩
def Reg.POOL.SCRUB_CTRL.GO : Fld := ⟨Reg.POOL.SCRUB_CTRL.addr, 0, 1⟩
/-- `POOL.SCRUB_STAT`, R418. -/
def Reg.POOL.SCRUB_STAT.addr : Nat := 0x0030004C
def Reg.POOL.SCRUB_STAT.BUSY : Fld := ⟨Reg.POOL.SCRUB_STAT.addr, 31, 1⟩
def Reg.POOL.SCRUB_STAT.STOPPED : Fld := ⟨Reg.POOL.SCRUB_STAT.addr, 30, 1⟩
def Reg.POOL.SCRUB_STAT.RANGE_ERR : Fld := ⟨Reg.POOL.SCRUB_STAT.addr, 29, 1⟩
/-- `POOL.SCRUB_READ`, R418. -/
def Reg.POOL.SCRUB_READ.addr : Nat := 0x00300050
def Reg.POOL.SCRUB_READ.COUNT : Fld := ⟨Reg.POOL.SCRUB_READ.addr, 0, 32⟩
/-- `POOL.SCRUB_CORR`, R418. -/
def Reg.POOL.SCRUB_CORR.addr : Nat := 0x00300054
def Reg.POOL.SCRUB_CORR.COUNT : Fld := ⟨Reg.POOL.SCRUB_CORR.addr, 0, 32⟩
/-- `POOL.SCRUB_UNCORR`, R418. -/
def Reg.POOL.SCRUB_UNCORR.addr : Nat := 0x00300058
def Reg.POOL.SCRUB_UNCORR.COUNT : Fld := ⟨Reg.POOL.SCRUB_UNCORR.addr, 0, 32⟩
/-- `POOL.SCRUB_POISON_SEEN`, R418. -/
def Reg.POOL.SCRUB_POISON_SEEN.addr : Nat := 0x0030005C
def Reg.POOL.SCRUB_POISON_SEEN.COUNT : Fld := ⟨Reg.POOL.SCRUB_POISON_SEEN.addr, 0, 32⟩
/-- `POOL.SCRUB_FIRST`, R418. -/
def Reg.POOL.SCRUB_FIRST.addr : Nat := 0x00300060
def Reg.POOL.SCRUB_FIRST.ADDR : Fld := ⟨Reg.POOL.SCRUB_FIRST.addr, 0, 32⟩
/-- `POOL.REPAIR_CTRL`, R418. -/
def Reg.POOL.REPAIR_CTRL.addr : Nat := 0x00300070
def Reg.POOL.REPAIR_CTRL.GO : Fld := ⟨Reg.POOL.REPAIR_CTRL.addr, 31, 1⟩
def Reg.POOL.REPAIR_CTRL.POOL : Fld := ⟨Reg.POOL.REPAIR_CTRL.addr, 24, 2⟩
def Reg.POOL.REPAIR_CTRL.BANK : Fld := ⟨Reg.POOL.REPAIR_CTRL.addr, 16, 2⟩
def Reg.POOL.REPAIR_CTRL.ROW : Fld := ⟨Reg.POOL.REPAIR_CTRL.addr, 0, 9⟩
/-- `POOL.REPAIR_STAT`, R418. -/
def Reg.POOL.REPAIR_STAT.addr : Nat := 0x00300074
def Reg.POOL.REPAIR_STAT.BUSY : Fld := ⟨Reg.POOL.REPAIR_STAT.addr, 31, 1⟩
def Reg.POOL.REPAIR_STAT.RESULT : Fld := ⟨Reg.POOL.REPAIR_STAT.addr, 0, 2⟩
/-- `POOL.SPARE_LEFT_0`, R418. -/
def Reg.POOL.SPARE_LEFT_0.addr : Nat := 0x00300078
def Reg.POOL.SPARE_LEFT_0.LEFT : Fld := ⟨Reg.POOL.SPARE_LEFT_0.addr, 0, 32⟩
/-- `POOL.SPARE_LEFT_1`, R418. -/
def Reg.POOL.SPARE_LEFT_1.addr : Nat := 0x0030007C
def Reg.POOL.SPARE_LEFT_1.LEFT : Fld := ⟨Reg.POOL.SPARE_LEFT_1.addr, 0, 32⟩
/-- `POOL.MEV_STAT`, R418. -/
def Reg.POOL.MEV_STAT.addr : Nat := 0x00300080
def Reg.POOL.MEV_STAT.OVF : Fld := ⟨Reg.POOL.MEV_STAT.addr, 16, 16⟩
def Reg.POOL.MEV_STAT.COUNT : Fld := ⟨Reg.POOL.MEV_STAT.addr, 0, 5⟩
/-- `POOL.MEV_CTRL`, R418. -/
def Reg.POOL.MEV_CTRL.addr : Nat := 0x00300084
def Reg.POOL.MEV_CTRL.POP : Fld := ⟨Reg.POOL.MEV_CTRL.addr, 0, 1⟩
/-- `POOL.MEV_HEAD_INFO`, R418. -/
def Reg.POOL.MEV_HEAD_INFO.addr : Nat := 0x00300088
def Reg.POOL.MEV_HEAD_INFO.TYPE : Fld := ⟨Reg.POOL.MEV_HEAD_INFO.addr, 24, 4⟩
def Reg.POOL.MEV_HEAD_INFO.POOL : Fld := ⟨Reg.POOL.MEV_HEAD_INFO.addr, 20, 2⟩
def Reg.POOL.MEV_HEAD_INFO.MASTER : Fld := ⟨Reg.POOL.MEV_HEAD_INFO.addr, 16, 3⟩
/-- `POOL.MEV_HEAD_ADDR`, R418. -/
def Reg.POOL.MEV_HEAD_ADDR.addr : Nat := 0x0030008C
def Reg.POOL.MEV_HEAD_ADDR.ADDR : Fld := ⟨Reg.POOL.MEV_HEAD_ADDR.addr, 0, 32⟩
/-- `POOL.CORR_CNT`, R418. -/
def Reg.POOL.CORR_CNT.addr (k : Nat) : Nat := 0x00300090 + 4 * k
def Reg.POOL.CORR_CNT.COUNT (k : Nat) : Fld := ⟨Reg.POOL.CORR_CNT.addr k, 0, 32⟩
/-- `POOL.UNCORR_CNT`, R418. -/
def Reg.POOL.UNCORR_CNT.addr (k : Nat) : Nat := 0x003000A0 + 4 * k
def Reg.POOL.UNCORR_CNT.COUNT (k : Nat) : Fld := ⟨Reg.POOL.UNCORR_CNT.addr k, 0, 32⟩
/-- `POOL.COLLIDE_CNT`, R418. -/
def Reg.POOL.COLLIDE_CNT.addr : Nat := 0x003000B0
def Reg.POOL.COLLIDE_CNT.COUNT : Fld := ⟨Reg.POOL.COLLIDE_CNT.addr, 0, 32⟩
/-- `POOL.PARK`, R419. -/
def Reg.POOL.PARK.addr (t : Nat) : Nat := 0x00300100 + 4 * t
def Reg.POOL.PARK.MASTER (t : Nat) : Fld := ⟨Reg.POOL.PARK.addr t, 0, 3⟩
/-- `POOL.BM_ERR_INFO`, R419. -/
def Reg.POOL.BM_ERR_INFO.addr : Nat := 0x00300140
def Reg.POOL.BM_ERR_INFO.VALID : Fld := ⟨Reg.POOL.BM_ERR_INFO.addr, 31, 1⟩
def Reg.POOL.BM_ERR_INFO.CAUSE : Fld := ⟨Reg.POOL.BM_ERR_INFO.addr, 24, 4⟩
def Reg.POOL.BM_ERR_INFO.TARGET : Fld := ⟨Reg.POOL.BM_ERR_INFO.addr, 16, 4⟩
def Reg.POOL.BM_ERR_INFO.MASTER : Fld := ⟨Reg.POOL.BM_ERR_INFO.addr, 0, 3⟩
/-- `POOL.BM_ERR_ADDR`, R419. -/
def Reg.POOL.BM_ERR_ADDR.addr : Nat := 0x00300144
def Reg.POOL.BM_ERR_ADDR.ADDR : Fld := ⟨Reg.POOL.BM_ERR_ADDR.addr, 0, 32⟩
/-- `POOL.BM_ERR_CNT`, R419. -/
def Reg.POOL.BM_ERR_CNT.addr : Nat := 0x00300148
def Reg.POOL.BM_ERR_CNT.COUNT : Fld := ⟨Reg.POOL.BM_ERR_CNT.addr, 0, 32⟩
/-- `POOL.BM_HOLD_CNT`, R419. -/
def Reg.POOL.BM_HOLD_CNT.addr : Nat := 0x0030014C
def Reg.POOL.BM_HOLD_CNT.COUNT : Fld := ⟨Reg.POOL.BM_HOLD_CNT.addr, 0, 32⟩
/-- `POOL.BM_OUT`, R419. -/
def Reg.POOL.BM_OUT.addr (m : Nat) : Nat := 0x00300150 + 4 * m
def Reg.POOL.BM_OUT.OUT (m : Nat) : Fld := ⟨Reg.POOL.BM_OUT.addr m, 0, 4⟩
/-- `MGMT.CORE_CTRL`, R395. -/
def Reg.MGMT.CORE_CTRL.addr (k : Nat) : Nat := 0x00400000 + 64 * k
def Reg.MGMT.CORE_CTRL.RESTART (k : Nat) : Fld := ⟨Reg.MGMT.CORE_CTRL.addr k, 1, 1⟩
def Reg.MGMT.CORE_CTRL.HOLD (k : Nat) : Fld := ⟨Reg.MGMT.CORE_CTRL.addr k, 0, 1⟩
/-- `MGMT.CORE_STAT`, R395. -/
def Reg.MGMT.CORE_STAT.addr (k : Nat) : Nat := 0x00400004 + 64 * k
def Reg.MGMT.CORE_STAT.EXPIRE_CNT (k : Nat) : Fld := ⟨Reg.MGMT.CORE_STAT.addr k, 8, 8⟩
def Reg.MGMT.CORE_STAT.STATE (k : Nat) : Fld := ⟨Reg.MGMT.CORE_STAT.addr k, 0, 2⟩
/-- `MGMT.CORE_ENTRY`, R395. -/
def Reg.MGMT.CORE_ENTRY.addr (k : Nat) : Nat := 0x00400008 + 64 * k
def Reg.MGMT.CORE_ENTRY.OFS (k : Nat) : Fld := ⟨Reg.MGMT.CORE_ENTRY.addr k, 0, 32⟩
/-- `MGMT.WDT_CFG`, R395. -/
def Reg.MGMT.WDT_CFG.addr (k : Nat) : Nat := 0x0040000C + 64 * k
def Reg.MGMT.WDT_CFG.EN (k : Nat) : Fld := ⟨Reg.MGMT.WDT_CFG.addr k, 31, 1⟩
def Reg.MGMT.WDT_CFG.PEER (k : Nat) : Fld := ⟨Reg.MGMT.WDT_CFG.addr k, 24, 2⟩
def Reg.MGMT.WDT_CFG.WDT_TIME (k : Nat) : Fld := ⟨Reg.MGMT.WDT_CFG.addr k, 0, 16⟩
/-- `MGMT.WDT_KICK`, R395. -/
def Reg.MGMT.WDT_KICK.addr (k : Nat) : Nat := 0x00400010 + 64 * k
def Reg.MGMT.WDT_KICK.KICK (k : Nat) : Fld := ⟨Reg.MGMT.WDT_KICK.addr k, 0, 32⟩
/-- `MGMT.WDT_LEFT`, R395. -/
def Reg.MGMT.WDT_LEFT.addr (k : Nat) : Nat := 0x00400014 + 64 * k
def Reg.MGMT.WDT_LEFT.TICKS (k : Nat) : Fld := ⟨Reg.MGMT.WDT_LEFT.addr k, 0, 16⟩
/-- `MGMT.H2F_DATA`, R395. -/
def Reg.MGMT.H2F_DATA.addr (i : Nat) : Nat := 0x00400200 + 4 * i
def Reg.MGMT.H2F_DATA.DATA (i : Nat) : Fld := ⟨Reg.MGMT.H2F_DATA.addr i, 0, 32⟩
/-- `MGMT.H2F_CTRL`, R395. -/
def Reg.MGMT.H2F_CTRL.addr : Nat := 0x00400240
def Reg.MGMT.H2F_CTRL.GO : Fld := ⟨Reg.MGMT.H2F_CTRL.addr, 31, 1⟩
def Reg.MGMT.H2F_CTRL.LEN : Fld := ⟨Reg.MGMT.H2F_CTRL.addr, 16, 8⟩
def Reg.MGMT.H2F_CTRL.TAG : Fld := ⟨Reg.MGMT.H2F_CTRL.addr, 8, 8⟩
def Reg.MGMT.H2F_CTRL.OPCODE : Fld := ⟨Reg.MGMT.H2F_CTRL.addr, 0, 8⟩
/-- `MGMT.H2F_STAT`, R395. -/
def Reg.MGMT.H2F_STAT.addr : Nat := 0x00400244
def Reg.MGMT.H2F_STAT.BUSY : Fld := ⟨Reg.MGMT.H2F_STAT.addr, 31, 1⟩
def Reg.MGMT.H2F_STAT.STATUS : Fld := ⟨Reg.MGMT.H2F_STAT.addr, 0, 8⟩
/-- `MGMT.F2H_DATA`, R395. -/
def Reg.MGMT.F2H_DATA.addr (i : Nat) : Nat := 0x00400280 + 4 * i
def Reg.MGMT.F2H_DATA.DATA (i : Nat) : Fld := ⟨Reg.MGMT.F2H_DATA.addr i, 0, 32⟩
/-- `MGMT.F2H_CTRL`, R395. -/
def Reg.MGMT.F2H_CTRL.addr : Nat := 0x004002C0
def Reg.MGMT.F2H_CTRL.VALID : Fld := ⟨Reg.MGMT.F2H_CTRL.addr, 31, 1⟩
def Reg.MGMT.F2H_CTRL.OPCODE : Fld := ⟨Reg.MGMT.F2H_CTRL.addr, 0, 8⟩
/-- `MGMT.EXT_WIN_BASE`, R395. -/
def Reg.MGMT.EXT_WIN_BASE.addr (w : Nat) : Nat := 0x00400300 + 16 * w
def Reg.MGMT.EXT_WIN_BASE.BASE (w : Nat) : Fld := ⟨Reg.MGMT.EXT_WIN_BASE.addr w, 0, 32⟩
/-- `MGMT.EXT_WIN_LIM`, R395. -/
def Reg.MGMT.EXT_WIN_LIM.addr (w : Nat) : Nat := 0x00400304 + 16 * w
def Reg.MGMT.EXT_WIN_LIM.LIMIT (w : Nat) : Fld := ⟨Reg.MGMT.EXT_WIN_LIM.addr w, 0, 32⟩
/-- `MGMT.EXT_WIN_ATTR`, R395. -/
def Reg.MGMT.EXT_WIN_ATTR.addr (w : Nat) : Nat := 0x00400308 + 16 * w
def Reg.MGMT.EXT_WIN_ATTR.ATTR (w : Nat) : Fld := ⟨Reg.MGMT.EXT_WIN_ATTR.addr w, 0, 3⟩
/-- `MGMT.EXT_OVERRUN`, R395. -/
def Reg.MGMT.EXT_OVERRUN.addr : Nat := 0x00400380
def Reg.MGMT.EXT_OVERRUN.COUNT : Fld := ⟨Reg.MGMT.EXT_OVERRUN.addr, 0, 32⟩
/-- `EVC.EVC_CTRL`, R452. -/
def Reg.EVC.EVC_CTRL.addr : Nat := 0x00500000
def Reg.EVC.EVC_CTRL.SNAP_NOW : Fld := ⟨Reg.EVC.EVC_CTRL.addr, 0, 1⟩
/-- `EVC.SNAP_SEQ`, R452. -/
def Reg.EVC.SNAP_SEQ.addr : Nat := 0x00500004
def Reg.EVC.SNAP_SEQ.SEQ : Fld := ⟨Reg.EVC.SNAP_SEQ.addr, 0, 32⟩
/-- `EVC.SNAP_SEC_LO`, R452. -/
def Reg.EVC.SNAP_SEC_LO.addr : Nat := 0x00500008
def Reg.EVC.SNAP_SEC_LO.SEC : Fld := ⟨Reg.EVC.SNAP_SEC_LO.addr, 0, 32⟩
/-- `EVC.SNAP_SEC_HI`, R452. -/
def Reg.EVC.SNAP_SEC_HI.addr : Nat := 0x0050000C
def Reg.EVC.SNAP_SEC_HI.SEC : Fld := ⟨Reg.EVC.SNAP_SEC_HI.addr, 0, 16⟩
/-- `EVC.SNAP_NS`, R452. -/
def Reg.EVC.SNAP_NS.addr : Nat := 0x00500010
def Reg.EVC.SNAP_NS.NS : Fld := ⟨Reg.EVC.SNAP_NS.addr, 0, 30⟩
/-- `EVC.CHAIN`, R452. -/
def Reg.EVC.CHAIN.addr (j : Nat) : Nat := 0x00500100 + 4 * j
def Reg.EVC.CHAIN.CHAIN (j : Nat) : Fld := ⟨Reg.EVC.CHAIN.addr j, 0, 32⟩
/-- `EVC.OVF`, R452. -/
def Reg.EVC.OVF.addr (j : Nat) : Nat := 0x00500140 + 4 * j
def Reg.EVC.OVF.OVF (j : Nat) : Fld := ⟨Reg.EVC.OVF.addr j, 0, 32⟩
/-- `EVC.SMP_CFG`, R452. -/
def Reg.EVC.SMP_CFG.addr : Nat := 0x00500200
def Reg.EVC.SMP_CFG.EN : Fld := ⟨Reg.EVC.SMP_CFG.addr, 31, 1⟩
def Reg.EVC.SMP_CFG.CLASS : Fld := ⟨Reg.EVC.SMP_CFG.addr, 28, 2⟩
def Reg.EVC.SMP_CFG.DITHER : Fld := ⟨Reg.EVC.SMP_CFG.addr, 16, 4⟩
def Reg.EVC.SMP_CFG.SRC : Fld := ⟨Reg.EVC.SMP_CFG.addr, 8, 4⟩
/-- `EVC.SMP_PERIOD`, R452. -/
def Reg.EVC.SMP_PERIOD.addr : Nat := 0x00500204
def Reg.EVC.SMP_PERIOD.N : Fld := ⟨Reg.EVC.SMP_PERIOD.addr, 0, 24⟩
/-- `EVC.SMP_WP`, R452. -/
def Reg.EVC.SMP_WP.addr : Nat := 0x00500208
def Reg.EVC.SMP_WP.WP : Fld := ⟨Reg.EVC.SMP_WP.addr, 0, 12⟩
/-- `EVC.SMP_RP`, R452. -/
def Reg.EVC.SMP_RP.addr : Nat := 0x0050020C
def Reg.EVC.SMP_RP.RP : Fld := ⟨Reg.EVC.SMP_RP.addr, 0, 12⟩
/-- `EVC.SMP_STAT`, R452. -/
def Reg.EVC.SMP_STAT.addr : Nat := 0x00500210
def Reg.EVC.SMP_STAT.THR : Fld := ⟨Reg.EVC.SMP_STAT.addr, 16, 12⟩
def Reg.EVC.SMP_STAT.COUNT : Fld := ⟨Reg.EVC.SMP_STAT.addr, 0, 12⟩
/-- `EVC.SMP_DROP`, R452. -/
def Reg.EVC.SMP_DROP.addr : Nat := 0x00500214
def Reg.EVC.SMP_DROP.COUNT : Fld := ⟨Reg.EVC.SMP_DROP.addr, 0, 32⟩
/-- `EVC.EVC_CNT`, R452. -/
def Reg.EVC.EVC_CNT.addr (k : Nat) : Nat := 0x00501000 + 4 * k
def Reg.EVC.EVC_CNT.COUNT (k : Nat) : Fld := ⟨Reg.EVC.EVC_CNT.addr k, 0, 32⟩
/-- `EVC.EVC_SNAP`, R452. -/
def Reg.EVC.EVC_SNAP.addr (k : Nat) : Nat := 0x00502000 + 4 * k
def Reg.EVC.EVC_SNAP.COUNT (k : Nat) : Fld := ⟨Reg.EVC.EVC_SNAP.addr k, 0, 32⟩
/-- `EVC.SMP_BUF`, R452. -/
def Reg.EVC.SMP_BUF.addr (i : Nat) (w : Nat) : Nat := 0x00510000 + 32 * i + 4 * w
def Reg.EVC.SMP_BUF.RECORD (i : Nat) (w : Nat) : Fld := ⟨Reg.EVC.SMP_BUF.addr i w, 0, 32⟩
/-- `TIM.SEL_CFG`, R275. -/
def Reg.TIM.SEL_CFG.addr : Nat := 0x00600000
def Reg.TIM.SEL_CFG.MAN_REF : Fld := ⟨Reg.TIM.SEL_CFG.addr, 8, 3⟩
def Reg.TIM.SEL_CFG.REVERTIVE : Fld := ⟨Reg.TIM.SEL_CFG.addr, 4, 1⟩
def Reg.TIM.SEL_CFG.MODE : Fld := ⟨Reg.TIM.SEL_CFG.addr, 0, 3⟩
/-- `TIM.QUAL_CFG`, R275. -/
def Reg.TIM.QUAL_CFG.addr : Nat := 0x00600004
def Reg.TIM.QUAL_CFG.QUAL_TIME : Fld := ⟨Reg.TIM.QUAL_CFG.addr, 16, 8⟩
def Reg.TIM.QUAL_CFG.WTR : Fld := ⟨Reg.TIM.QUAL_CFG.addr, 0, 16⟩
/-- `TIM.DPLL_CFG`, R275. -/
def Reg.TIM.DPLL_CFG.addr : Nat := 0x00600008
def Reg.TIM.DPLL_CFG.LOCK_WIN : Fld := ⟨Reg.TIM.DPLL_CFG.addr, 8, 8⟩
def Reg.TIM.DPLL_CFG.BW : Fld := ⟨Reg.TIM.DPLL_CFG.addr, 0, 2⟩
/-- `TIM.HO_CFG`, R275. -/
def Reg.TIM.HO_CFG.addr : Nat := 0x0060000C
def Reg.TIM.HO_CFG.HO_GUARD : Fld := ⟨Reg.TIM.HO_CFG.addr, 16, 4⟩
def Reg.TIM.HO_CFG.HO_AVG : Fld := ⟨Reg.TIM.HO_CFG.addr, 0, 12⟩
/-- `TIM.HO_TIMER`, R275. -/
def Reg.TIM.HO_TIMER.addr : Nat := 0x00600010
def Reg.TIM.HO_TIMER.TIMER : Fld := ⟨Reg.TIM.HO_TIMER.addr, 0, 32⟩
/-- `TIM.MON_CFG`, R275. -/
def Reg.TIM.MON_CFG.addr : Nat := 0x00600014
def Reg.TIM.MON_CFG.FMON_WIN : Fld := ⟨Reg.TIM.MON_CFG.addr, 0, 2⟩
/-- `TIM.HO_CTRL`, R275. -/
def Reg.TIM.HO_CTRL.addr : Nat := 0x00600018
def Reg.TIM.HO_CTRL.HIST_CLR : Fld := ⟨Reg.TIM.HO_CTRL.addr, 0, 1⟩
/-- `TIM.DPLL_STAT`, R275. -/
def Reg.TIM.DPLL_STAT.addr : Nat := 0x00600020
def Reg.TIM.DPLL_STAT.REF_DISAGREE : Fld := ⟨Reg.TIM.DPLL_STAT.addr, 16, 1⟩
def Reg.TIM.DPLL_STAT.SEL_VALID : Fld := ⟨Reg.TIM.DPLL_STAT.addr, 15, 1⟩
def Reg.TIM.DPLL_STAT.SEL_REF : Fld := ⟨Reg.TIM.DPLL_STAT.addr, 12, 3⟩
def Reg.TIM.DPLL_STAT.FREE_CAUSE : Fld := ⟨Reg.TIM.DPLL_STAT.addr, 8, 2⟩
def Reg.TIM.DPLL_STAT.DCO_MODE : Fld := ⟨Reg.TIM.DPLL_STAT.addr, 6, 1⟩
def Reg.TIM.DPLL_STAT.HIST_VALID : Fld := ⟨Reg.TIM.DPLL_STAT.addr, 5, 1⟩
def Reg.TIM.DPLL_STAT.SWITCHING : Fld := ⟨Reg.TIM.DPLL_STAT.addr, 4, 1⟩
def Reg.TIM.DPLL_STAT.STATE : Fld := ⟨Reg.TIM.DPLL_STAT.addr, 0, 3⟩
/-- `TIM.DPLL_HIST`, R275. -/
def Reg.TIM.DPLL_HIST.addr : Nat := 0x00600024
def Reg.TIM.DPLL_HIST.HIST : Fld := ⟨Reg.TIM.DPLL_HIST.addr, 0, 5⟩
/-- `TIM.HO_EST`, R275. -/
def Reg.TIM.HO_EST.addr : Nat := 0x00600028
def Reg.TIM.HO_EST.EST : Fld := ⟨Reg.TIM.HO_EST.addr, 0, 32⟩
/-- `TIM.DPLL_FOFS`, R275. -/
def Reg.TIM.DPLL_FOFS.addr : Nat := 0x0060002C
def Reg.TIM.DPLL_FOFS.FOFS : Fld := ⟨Reg.TIM.DPLL_FOFS.addr, 0, 32⟩
/-- `TIM.HO_ELAPSED`, R275. -/
def Reg.TIM.HO_ELAPSED.addr : Nat := 0x00600030
def Reg.TIM.HO_ELAPSED.SECS : Fld := ⟨Reg.TIM.HO_ELAPSED.addr, 0, 32⟩
/-- `TIM.LOCKED_TIME`, R275. -/
def Reg.TIM.LOCKED_TIME.addr : Nat := 0x00600034
def Reg.TIM.LOCKED_TIME.SECS : Fld := ⟨Reg.TIM.LOCKED_TIME.addr, 0, 32⟩
/-- `TIM.SW_COUNT`, R275. -/
def Reg.TIM.SW_COUNT.addr : Nat := 0x00600038
def Reg.TIM.SW_COUNT.COUNT : Fld := ⟨Reg.TIM.SW_COUNT.addr, 0, 32⟩
/-- `TIM.DCO_FREQ`, R275. -/
def Reg.TIM.DCO_FREQ.addr : Nat := 0x00600040
def Reg.TIM.DCO_FREQ.TARGET : Fld := ⟨Reg.TIM.DCO_FREQ.addr, 0, 32⟩
/-- `TIM.DCO_CTRL`, R275. -/
def Reg.TIM.DCO_CTRL.addr : Nat := 0x00600044
def Reg.TIM.DCO_CTRL.AUTO_COMMIT : Fld := ⟨Reg.TIM.DCO_CTRL.addr, 0, 1⟩
/-- `TIM.DCO_SLEW`, R275. -/
def Reg.TIM.DCO_SLEW.addr : Nat := 0x00600048
def Reg.TIM.DCO_SLEW.SLEW : Fld := ⟨Reg.TIM.DCO_SLEW.addr, 0, 24⟩
/-- `TIM.DCO_NOW`, R275. -/
def Reg.TIM.DCO_NOW.addr : Nat := 0x0060004C
def Reg.TIM.DCO_NOW.NOW : Fld := ⟨Reg.TIM.DCO_NOW.addr, 0, 32⟩
/-- `TIM.REF_CFG`, R276. -/
def Reg.TIM.REF_CFG.addr (r : Nat) : Nat := 0x00600100 + 32 * r
def Reg.TIM.REF_CFG.SRC (r : Nat) : Fld := ⟨Reg.TIM.REF_CFG.addr r, 8, 4⟩
def Reg.TIM.REF_CFG.PRIO (r : Nat) : Fld := ⟨Reg.TIM.REF_CFG.addr r, 0, 4⟩
/-- `TIM.REF_FREQ`, R276. -/
def Reg.TIM.REF_FREQ.addr (r : Nat) : Nat := 0x00600104 + 32 * r
def Reg.TIM.REF_FREQ.KHZ (r : Nat) : Fld := ⟨Reg.TIM.REF_FREQ.addr r, 0, 20⟩
/-- `TIM.REF_STAT`, R276. -/
def Reg.TIM.REF_STAT.addr (r : Nat) : Nat := 0x00600108 + 32 * r
def Reg.TIM.REF_STAT.QUALIFIED (r : Nat) : Fld := ⟨Reg.TIM.REF_STAT.addr r, 31, 1⟩
def Reg.TIM.REF_STAT.ACTIVE (r : Nat) : Fld := ⟨Reg.TIM.REF_STAT.addr r, 30, 1⟩
def Reg.TIM.REF_STAT.FOFS_VALID (r : Nat) : Fld := ⟨Reg.TIM.REF_STAT.addr r, 29, 1⟩
def Reg.TIM.REF_STAT.DISQ_CAUSE (r : Nat) : Fld := ⟨Reg.TIM.REF_STAT.addr r, 24, 4⟩
def Reg.TIM.REF_STAT.ELIGIBLE (r : Nat) : Fld := ⟨Reg.TIM.REF_STAT.addr r, 22, 1⟩
/-- `TIM.REF_FOFS`, R276. -/
def Reg.TIM.REF_FOFS.addr (r : Nat) : Nat := 0x0060010C + 32 * r
def Reg.TIM.REF_FOFS.FOFS (r : Nat) : Fld := ⟨Reg.TIM.REF_FOFS.addr r, 0, 32⟩
/-- `TIM.REF_WTR`, R276. -/
def Reg.TIM.REF_WTR.addr (r : Nat) : Nat := 0x00600110 + 32 * r
def Reg.TIM.REF_WTR.SECS (r : Nat) : Fld := ⟨Reg.TIM.REF_WTR.addr r, 0, 16⟩
/-- `TIM.REF_DISQ_CNT`, R276. -/
def Reg.TIM.REF_DISQ_CNT.addr (r : Nat) : Nat := 0x00600114 + 32 * r
def Reg.TIM.REF_DISQ_CNT.COUNT (r : Nat) : Fld := ⟨Reg.TIM.REF_DISQ_CNT.addr r, 0, 32⟩
/-- `TIM.REFOUT_CFG`, R277. -/
def Reg.TIM.REFOUT_CFG.addr (o : Nat) : Nat := 0x00600200 + 16 * o
def Reg.TIM.REFOUT_CFG.SQUELCH (o : Nat) : Fld := ⟨Reg.TIM.REFOUT_CFG.addr o, 8, 5⟩
def Reg.TIM.REFOUT_CFG.SRC (o : Nat) : Fld := ⟨Reg.TIM.REFOUT_CFG.addr o, 4, 4⟩
def Reg.TIM.REFOUT_CFG.EN (o : Nat) : Fld := ⟨Reg.TIM.REFOUT_CFG.addr o, 0, 1⟩
/-- `TIM.REFOUT_FREQ`, R277. -/
def Reg.TIM.REFOUT_FREQ.addr (o : Nat) : Nat := 0x00600204 + 16 * o
def Reg.TIM.REFOUT_FREQ.KHZ (o : Nat) : Fld := ⟨Reg.TIM.REFOUT_FREQ.addr o, 0, 20⟩
/-- `WST.TIME_CTRL`, R306. -/
def Reg.WST.TIME_CTRL.addr : Nat := 0x00700000
def Reg.WST.TIME_CTRL.CAPTURE : Fld := ⟨Reg.WST.TIME_CTRL.addr, 0, 1⟩
/-- `WST.TIME_CFG`, R306. -/
def Reg.WST.TIME_CFG.addr : Nat := 0x00700004
def Reg.WST.TIME_CFG.SRC : Fld := ⟨Reg.WST.TIME_CFG.addr, 24, 3⟩
def Reg.WST.TIME_CFG.TT_PORT : Fld := ⟨Reg.WST.TIME_CFG.addr, 16, 5⟩
def Reg.WST.TIME_CFG.TT_AVG : Fld := ⟨Reg.WST.TIME_CFG.addr, 8, 8⟩
def Reg.WST.TIME_CFG.TT_INTERVAL : Fld := ⟨Reg.WST.TIME_CFG.addr, 0, 3⟩
/-- `WST.SLEW_CFG`, R306. -/
def Reg.WST.SLEW_CFG.addr : Nat := 0x00700008
def Reg.WST.SLEW_CFG.STEP_THR : Fld := ⟨Reg.WST.SLEW_CFG.addr, 16, 16⟩
def Reg.WST.SLEW_CFG.SLEW : Fld := ⟨Reg.WST.SLEW_CFG.addr, 0, 16⟩
/-- `WST.SYNC_CFG`, R306. -/
def Reg.WST.SYNC_CFG.addr : Nat := 0x0070000C
def Reg.WST.SYNC_CFG.PD_THR : Fld := ⟨Reg.WST.SYNC_CFG.addr, 16, 16⟩
def Reg.WST.SYNC_CFG.SYNC_THR : Fld := ⟨Reg.WST.SYNC_CFG.addr, 0, 16⟩
/-- `WST.CAP_SEC_LO`, R306. -/
def Reg.WST.CAP_SEC_LO.addr : Nat := 0x00700010
def Reg.WST.CAP_SEC_LO.SEC : Fld := ⟨Reg.WST.CAP_SEC_LO.addr, 0, 32⟩
/-- `WST.CAP_SEC_HI`, R306. -/
def Reg.WST.CAP_SEC_HI.addr : Nat := 0x00700014
def Reg.WST.CAP_SEC_HI.SEC : Fld := ⟨Reg.WST.CAP_SEC_HI.addr, 0, 16⟩
/-- `WST.CAP_NS`, R306. -/
def Reg.WST.CAP_NS.addr : Nat := 0x00700018
def Reg.WST.CAP_NS.NS : Fld := ⟨Reg.WST.CAP_NS.addr, 0, 30⟩
/-- `WST.CAP_FRAC`, R306. -/
def Reg.WST.CAP_FRAC.addr : Nat := 0x0070001C
def Reg.WST.CAP_FRAC.FRAC : Fld := ⟨Reg.WST.CAP_FRAC.addr, 0, 16⟩
/-- `WST.SET_SEC_LO`, R306. -/
def Reg.WST.SET_SEC_LO.addr : Nat := 0x00700020
def Reg.WST.SET_SEC_LO.SEC : Fld := ⟨Reg.WST.SET_SEC_LO.addr, 0, 32⟩
/-- `WST.SET_SEC_HI`, R306. -/
def Reg.WST.SET_SEC_HI.addr : Nat := 0x00700024
def Reg.WST.SET_SEC_HI.SEC : Fld := ⟨Reg.WST.SET_SEC_HI.addr, 0, 16⟩
/-- `WST.SET_NS`, R306. -/
def Reg.WST.SET_NS.addr : Nat := 0x00700028
def Reg.WST.SET_NS.NS : Fld := ⟨Reg.WST.SET_NS.addr, 0, 30⟩
/-- `WST.PHASE_ADJ`, R306. -/
def Reg.WST.PHASE_ADJ.addr : Nat := 0x0070002C
def Reg.WST.PHASE_ADJ.NS : Fld := ⟨Reg.WST.PHASE_ADJ.addr, 0, 32⟩
/-- `WST.TIME_STAT`, R306. -/
def Reg.WST.TIME_STAT.addr : Nat := 0x00700030
def Reg.WST.TIME_STAT.SET_ONCE : Fld := ⟨Reg.WST.TIME_STAT.addr, 31, 1⟩
def Reg.WST.TIME_STAT.STATE : Fld := ⟨Reg.WST.TIME_STAT.addr, 0, 3⟩
/-- `WST.LAST_OFS`, R306. -/
def Reg.WST.LAST_OFS.addr : Nat := 0x00700034
def Reg.WST.LAST_OFS.PS : Fld := ⟨Reg.WST.LAST_OFS.addr, 0, 32⟩
/-- `WST.MEAN_PD`, R306. -/
def Reg.WST.MEAN_PD.addr : Nat := 0x00700038
def Reg.WST.MEAN_PD.PS : Fld := ⟨Reg.WST.MEAN_PD.addr, 0, 32⟩
/-- `WST.GM_STAT`, R306. -/
def Reg.WST.GM_STAT.addr : Nat := 0x0070003C
def Reg.WST.GM_STAT.GM : Fld := ⟨Reg.WST.GM_STAT.addr, 16, 14⟩
def Reg.WST.GM_STAT.GM_HOPS : Fld := ⟨Reg.WST.GM_STAT.addr, 0, 8⟩
/-- `WST.NODE_ID`, R306. -/
def Reg.WST.NODE_ID.addr : Nat := 0x00700040
def Reg.WST.NODE_ID.VALID : Fld := ⟨Reg.WST.NODE_ID.addr, 31, 1⟩
def Reg.WST.NODE_ID.ID : Fld := ⟨Reg.WST.NODE_ID.addr, 0, 14⟩
/-- `WST.DOM_SLOT`, R306. -/
def Reg.WST.DOM_SLOT.addr : Nat := 0x00700044
def Reg.WST.DOM_SLOT.BASE : Fld := ⟨Reg.WST.DOM_SLOT.addr, 0, 6⟩
/-- `WST.EXCH_CNT`, R306. -/
def Reg.WST.EXCH_CNT.addr : Nat := 0x00700048
def Reg.WST.EXCH_CNT.COUNT : Fld := ⟨Reg.WST.EXCH_CNT.addr, 0, 32⟩
/-- `WST.TT_STALE`, R306. -/
def Reg.WST.TT_STALE.addr : Nat := 0x0070004C
def Reg.WST.TT_STALE.COUNT : Fld := ⟨Reg.WST.TT_STALE.addr, 0, 32⟩
/-- `WST.PATH_JUMP_CNT`, R306. -/
def Reg.WST.PATH_JUMP_CNT.addr : Nat := 0x00700050
def Reg.WST.PATH_JUMP_CNT.COUNT : Fld := ⟨Reg.WST.PATH_JUMP_CNT.addr, 0, 32⟩
/-- `WST.RX_BAD`, R306. -/
def Reg.WST.RX_BAD.addr : Nat := 0x00700054
def Reg.WST.RX_BAD.COUNT : Fld := ⟨Reg.WST.RX_BAD.addr, 0, 32⟩
/-- `WST.PPSIN_ERR`, R306. -/
def Reg.WST.PPSIN_ERR.addr (i : Nat) : Nat := 0x00700060 + 8 * i
def Reg.WST.PPSIN_ERR.PS (i : Nat) : Fld := ⟨Reg.WST.PPSIN_ERR.addr i, 0, 32⟩
/-- `WST.PPSIN_DLY`, R306. -/
def Reg.WST.PPSIN_DLY.addr (i : Nat) : Nat := 0x00700064 + 8 * i
def Reg.WST.PPSIN_DLY.PS (i : Nat) : Fld := ⟨Reg.WST.PPSIN_DLY.addr i, 0, 24⟩
/-- `WST.PPSOUT_CFG`, R306. -/
def Reg.WST.PPSOUT_CFG.addr : Nat := 0x00700070
def Reg.WST.PPSOUT_CFG.WIDTH : Fld := ⟨Reg.WST.PPSOUT_CFG.addr, 16, 10⟩
def Reg.WST.PPSOUT_CFG.EN : Fld := ⟨Reg.WST.PPSOUT_CFG.addr, 0, 1⟩
/-- `WST.PPSOUT_OFS`, R306. -/
def Reg.WST.PPSOUT_OFS.addr : Nat := 0x00700074
def Reg.WST.PPSOUT_OFS.PS : Fld := ⟨Reg.WST.PPSOUT_OFS.addr, 0, 32⟩
/-- `WST.FE_TX_DLY`, R306. -/
def Reg.WST.FE_TX_DLY.addr (c : Nat) : Nat := 0x00700080 + 16 * c
def Reg.WST.FE_TX_DLY.PS (c : Nat) : Fld := ⟨Reg.WST.FE_TX_DLY.addr c, 0, 24⟩
/-- `WST.FE_RX_DLY`, R306. -/
def Reg.WST.FE_RX_DLY.addr (c : Nat) : Nat := 0x00700084 + 16 * c
def Reg.WST.FE_RX_DLY.PS (c : Nat) : Fld := ⟨Reg.WST.FE_RX_DLY.addr c, 0, 24⟩
/-- `WST.ASYM`, R306. -/
def Reg.WST.ASYM.addr (c : Nat) : Nat := 0x00700088 + 16 * c
def Reg.WST.ASYM.PS (c : Nat) : Fld := ⟨Reg.WST.ASYM.addr c, 0, 32⟩
/-- `WST.TT_PORT_CFG`, R306. -/
def Reg.WST.TT_PORT_CFG.addr (p : Nat) : Nat := 0x00700100 + 4 * p
def Reg.WST.TT_PORT_CFG.TIME_EN (p : Nat) : Fld := ⟨Reg.WST.TT_PORT_CFG.addr p, 1, 1⟩
def Reg.WST.TT_PORT_CFG.EN (p : Nat) : Fld := ⟨Reg.WST.TT_PORT_CFG.addr p, 0, 1⟩
/-- `WST.RIP_SEC_LO`, R307. -/
def Reg.WST.RIP_SEC_LO.addr (s : Nat) : Nat := 0x00701000 + 64 * s
def Reg.WST.RIP_SEC_LO.SEC (s : Nat) : Fld := ⟨Reg.WST.RIP_SEC_LO.addr s, 0, 32⟩
/-- `WST.RIP_SEC_HI`, R307. -/
def Reg.WST.RIP_SEC_HI.addr (s : Nat) : Nat := 0x00701004 + 64 * s
def Reg.WST.RIP_SEC_HI.SEC (s : Nat) : Fld := ⟨Reg.WST.RIP_SEC_HI.addr s, 0, 16⟩
/-- `WST.RIP_NS`, R307. -/
def Reg.WST.RIP_NS.addr (s : Nat) : Nat := 0x00701008 + 64 * s
def Reg.WST.RIP_NS.NS (s : Nat) : Fld := ⟨Reg.WST.RIP_NS.addr s, 0, 30⟩
/-- `WST.RIP_FRAC`, R307. -/
def Reg.WST.RIP_FRAC.addr (s : Nat) : Nat := 0x0070100C + 64 * s
def Reg.WST.RIP_FRAC.FRAC (s : Nat) : Fld := ⟨Reg.WST.RIP_FRAC.addr s, 0, 16⟩
/-- `WST.RIP_ACT`, R307. -/
def Reg.WST.RIP_ACT.addr (s : Nat) : Nat := 0x00701010 + 64 * s
def Reg.WST.RIP_ACT.ACT (s : Nat) : Fld := ⟨Reg.WST.RIP_ACT.addr s, 0, 8⟩
/-- `WST.RIP_GROUPS`, R307. -/
def Reg.WST.RIP_GROUPS.addr (s : Nat) : Nat := 0x00701014 + 64 * s
def Reg.WST.RIP_GROUPS.GROUPS (s : Nat) : Fld := ⟨Reg.WST.RIP_GROUPS.addr s, 0, 32⟩
/-- `WST.RIP_GPIO`, R307. -/
def Reg.WST.RIP_GPIO.addr (s : Nat) : Nat := 0x00701018 + 64 * s
def Reg.WST.RIP_GPIO.MASK (s : Nat) : Fld := ⟨Reg.WST.RIP_GPIO.addr s, 16, 16⟩
def Reg.WST.RIP_GPIO.LEVEL (s : Nat) : Fld := ⟨Reg.WST.RIP_GPIO.addr s, 0, 16⟩
/-- `WST.RIP_PERIOD_LO`, R307. -/
def Reg.WST.RIP_PERIOD_LO.addr (s : Nat) : Nat := 0x0070101C + 64 * s
def Reg.WST.RIP_PERIOD_LO.NS (s : Nat) : Fld := ⟨Reg.WST.RIP_PERIOD_LO.addr s, 0, 32⟩
/-- `WST.RIP_PERIOD_HI`, R307. -/
def Reg.WST.RIP_PERIOD_HI.addr (s : Nat) : Nat := 0x00701020 + 64 * s
def Reg.WST.RIP_PERIOD_HI.NS (s : Nat) : Fld := ⟨Reg.WST.RIP_PERIOD_HI.addr s, 0, 32⟩
/-- `WST.RIP_CTRL`, R307. -/
def Reg.WST.RIP_CTRL.addr (s : Nat) : Nat := 0x00701024 + 64 * s
def Reg.WST.RIP_CTRL.DISARM (s : Nat) : Fld := ⟨Reg.WST.RIP_CTRL.addr s, 1, 1⟩
def Reg.WST.RIP_CTRL.ARM (s : Nat) : Fld := ⟨Reg.WST.RIP_CTRL.addr s, 0, 1⟩
/-- `WST.RIP_STAT`, R307. -/
def Reg.WST.RIP_STAT.addr (s : Nat) : Nat := 0x00701028 + 64 * s
def Reg.WST.RIP_STAT.FIRE_CNT (s : Nat) : Fld := ⟨Reg.WST.RIP_STAT.addr s, 16, 16⟩
def Reg.WST.RIP_STAT.LATE (s : Nat) : Fld := ⟨Reg.WST.RIP_STAT.addr s, 7, 1⟩
def Reg.WST.RIP_STAT.DROP (s : Nat) : Fld := ⟨Reg.WST.RIP_STAT.addr s, 6, 1⟩
def Reg.WST.RIP_STAT.STATE (s : Nat) : Fld := ⟨Reg.WST.RIP_STAT.addr s, 0, 2⟩
/-- `WST.FIRED_SEC_LO`, R307. -/
def Reg.WST.FIRED_SEC_LO.addr (s : Nat) : Nat := 0x0070102C + 64 * s
def Reg.WST.FIRED_SEC_LO.SEC (s : Nat) : Fld := ⟨Reg.WST.FIRED_SEC_LO.addr s, 0, 32⟩
/-- `WST.FIRED_NS`, R307. -/
def Reg.WST.FIRED_NS.addr (s : Nat) : Nat := 0x00701030 + 64 * s
def Reg.WST.FIRED_NS.NS (s : Nat) : Fld := ⟨Reg.WST.FIRED_NS.addr s, 0, 30⟩
/-- `WST.FIRED_FRAC`, R307. -/
def Reg.WST.FIRED_FRAC.addr (s : Nat) : Nat := 0x00701034 + 64 * s
def Reg.WST.FIRED_FRAC.FRAC (s : Nat) : Fld := ⟨Reg.WST.FIRED_FRAC.addr s, 0, 16⟩
/-- `WST.SKIP_CNT`, R307. -/
def Reg.WST.SKIP_CNT.addr (s : Nat) : Nat := 0x00701038 + 64 * s
def Reg.WST.SKIP_CNT.COUNT (s : Nat) : Fld := ⟨Reg.WST.SKIP_CNT.addr s, 0, 32⟩
/-- `WST.DROP_ISL`, R307. -/
def Reg.WST.DROP_ISL.addr (s : Nat) : Nat := 0x0070103C + 64 * s
def Reg.WST.DROP_ISL.ISL (s : Nat) : Fld := ⟨Reg.WST.DROP_ISL.addr s, 0, 6⟩
/-- `WST.RIP_CONFLICT`, R307. -/
def Reg.WST.RIP_CONFLICT.addr : Nat := 0x00702004
def Reg.WST.RIP_CONFLICT.COUNT : Fld := ⟨Reg.WST.RIP_CONFLICT.addr, 0, 32⟩
/-- `WST.FL_CFG`, R308. -/
def Reg.WST.FL_CFG.addr : Nat := 0x00702000
def Reg.WST.FL_CFG.EN_B : Fld := ⟨Reg.WST.FL_CFG.addr, 1, 1⟩
def Reg.WST.FL_CFG.EN_A : Fld := ⟨Reg.WST.FL_CFG.addr, 0, 1⟩
/-- `WST.FL_TX`, R308. -/
def Reg.WST.FL_TX.addr (c : Nat) (t : Nat) : Nat := 0x00702100 + 0x00000100 * c + 16 * t
def Reg.WST.FL_TX.PS (c : Nat) (t : Nat) : Fld := ⟨Reg.WST.FL_TX.addr c t, 0, 32⟩
/-- `WST.FL_RX`, R308. -/
def Reg.WST.FL_RX.addr (c : Nat) (t : Nat) : Nat := 0x00702104 + 0x00000100 * c + 16 * t
def Reg.WST.FL_RX.PS (c : Nat) (t : Nat) : Fld := ⟨Reg.WST.FL_RX.addr c t, 0, 32⟩
/-- `WST.FL_FLAGS`, R308. -/
def Reg.WST.FL_FLAGS.addr (c : Nat) (t : Nat) : Nat := 0x00702108 + 0x00000100 * c + 16 * t
def Reg.WST.FL_FLAGS.RX_HELD (c : Nat) (t : Nat) : Fld := ⟨Reg.WST.FL_FLAGS.addr c t, 1, 1⟩
def Reg.WST.FL_FLAGS.TX_HELD (c : Nat) (t : Nat) : Fld := ⟨Reg.WST.FL_FLAGS.addr c t, 0, 1⟩
/-- `WST.FL_SLIP_CNT`, R308. -/
def Reg.WST.FL_SLIP_CNT.addr (c : Nat) (t : Nat) : Nat := 0x0070210C + 0x00000100 * c + 16 * t
def Reg.WST.FL_SLIP_CNT.COUNT (c : Nat) (t : Nat) : Fld := ⟨Reg.WST.FL_SLIP_CNT.addr c t, 0, 32⟩
/-- `SEC.KS_CMD`, R369. -/
def Reg.SEC.KS_CMD.addr : Nat := 0x00800000
def Reg.SEC.KS_CMD.CMD : Fld := ⟨Reg.SEC.KS_CMD.addr, 28, 4⟩
def Reg.SEC.KS_CMD.SLOT : Fld := ⟨Reg.SEC.KS_CMD.addr, 0, 6⟩
/-- `SEC.KS_STAT`, R369. -/
def Reg.SEC.KS_STAT.addr : Nat := 0x00800004
def Reg.SEC.KS_STAT.OTP_SET : Fld := ⟨Reg.SEC.KS_STAT.addr, 31, 1⟩
def Reg.SEC.KS_STAT.OTP_KILLED : Fld := ⟨Reg.SEC.KS_STAT.addr, 30, 1⟩
def Reg.SEC.KS_STAT.RESULT : Fld := ⟨Reg.SEC.KS_STAT.addr, 0, 4⟩
/-- `SEC.KS_PROV_DATA`, R369. -/
def Reg.SEC.KS_PROV_DATA.addr (i : Nat) : Nat := 0x00800020 + 4 * i
def Reg.SEC.KS_PROV_DATA.DATA (i : Nat) : Fld := ⟨Reg.SEC.KS_PROV_DATA.addr i, 0, 32⟩
/-- `SEC.KS_SLOT`, R369. -/
def Reg.SEC.KS_SLOT.addr (s : Nat) : Nat := 0x00800100 + 8 * s
def Reg.SEC.KS_SLOT.VALID (s : Nat) : Fld := ⟨Reg.SEC.KS_SLOT.addr s, 31, 1⟩
def Reg.SEC.KS_SLOT.PENDING (s : Nat) : Fld := ⟨Reg.SEC.KS_SLOT.addr s, 30, 1⟩
def Reg.SEC.KS_SLOT.LINE_ACTIVE (s : Nat) : Fld := ⟨Reg.SEC.KS_SLOT.addr s, 29, 1⟩
def Reg.SEC.KS_SLOT.LINE_NEXT (s : Nat) : Fld := ⟨Reg.SEC.KS_SLOT.addr s, 28, 1⟩
def Reg.SEC.KS_SLOT.USAGE (s : Nat) : Fld := ⟨Reg.SEC.KS_SLOT.addr s, 24, 2⟩
def Reg.SEC.KS_SLOT.LEN (s : Nat) : Fld := ⟨Reg.SEC.KS_SLOT.addr s, 20, 2⟩
def Reg.SEC.KS_SLOT.USE_COUNT (s : Nat) : Fld := ⟨Reg.SEC.KS_SLOT.addr s, 0, 8⟩
/-- `SEC.KS_LABEL`, R369. -/
def Reg.SEC.KS_LABEL.addr (s : Nat) : Nat := 0x00800104 + 8 * s
def Reg.SEC.KS_LABEL.LABEL (s : Nat) : Fld := ⟨Reg.SEC.KS_LABEL.addr s, 0, 32⟩
/-- `SEC.SVC_STAT`, R369. -/
def Reg.SEC.SVC_STAT.addr : Nat := 0x00800400
def Reg.SEC.SVC_STAT.SUSPENDED : Fld := ⟨Reg.SEC.SVC_STAT.addr, 24, 3⟩
def Reg.SEC.SVC_STAT.BUSY : Fld := ⟨Reg.SEC.SVC_STAT.addr, 0, 8⟩
/-- `SEC.RING_BASE`, R369. -/
def Reg.SEC.RING_BASE.addr (k : Nat) : Nat := 0x00800410 + 16 * k
def Reg.SEC.RING_BASE.BASE (k : Nat) : Fld := ⟨Reg.SEC.RING_BASE.addr k, 5, 27⟩
/-- `SEC.RING_CFG`, R369. -/
def Reg.SEC.RING_CFG.addr (k : Nat) : Nat := 0x00800414 + 16 * k
def Reg.SEC.RING_CFG.SIZE (k : Nat) : Fld := ⟨Reg.SEC.RING_CFG.addr k, 0, 4⟩
/-- `SEC.RING_TAIL`, R369. -/
def Reg.SEC.RING_TAIL.addr (k : Nat) : Nat := 0x00800418 + 16 * k
def Reg.SEC.RING_TAIL.TAIL (k : Nat) : Fld := ⟨Reg.SEC.RING_TAIL.addr k, 0, 10⟩
/-- `SEC.RING_HEAD`, R369. -/
def Reg.SEC.RING_HEAD.addr (k : Nat) : Nat := 0x0080041C + 16 * k
def Reg.SEC.RING_HEAD.HEAD (k : Nat) : Fld := ⟨Reg.SEC.RING_HEAD.addr k, 0, 10⟩
/-- `SEC.JOBS_DONE`, R369. -/
def Reg.SEC.JOBS_DONE.addr : Nat := 0x00800450
def Reg.SEC.JOBS_DONE.COUNT : Fld := ⟨Reg.SEC.JOBS_DONE.addr, 0, 32⟩
/-- `SEC.JOBS_ERR`, R369. -/
def Reg.SEC.JOBS_ERR.addr : Nat := 0x00800454
def Reg.SEC.JOBS_ERR.COUNT : Fld := ⟨Reg.SEC.JOBS_ERR.addr, 0, 32⟩
/-- `MON.MON_CTRL`, R488. -/
def Reg.MON.MON_CTRL.addr : Nat := 0x00900000
def Reg.MON.MON_CTRL.EN : Fld := ⟨Reg.MON.MON_CTRL.addr, 0, 1⟩
/-- `MON.SEQ_CFG`, R488. -/
def Reg.MON.SEQ_CFG.addr : Nat := 0x00900004
def Reg.MON.SEQ_CFG.LEN : Fld := ⟨Reg.MON.SEQ_CFG.addr, 0, 5⟩
/-- `MON.MON_STAT`, R488. -/
def Reg.MON.MON_STAT.addr : Nat := 0x00900008
def Reg.MON.MON_STAT.RUNNING : Fld := ⟨Reg.MON.MON_STAT.addr, 31, 1⟩
def Reg.MON.MON_STAT.Q_COUNT : Fld := ⟨Reg.MON.MON_STAT.addr, 0, 9⟩
/-- `MON.QUEUE_HEAD`, R488. -/
def Reg.MON.QUEUE_HEAD.addr : Nat := 0x00900010
def Reg.MON.QUEUE_HEAD.TAG : Fld := ⟨Reg.MON.QUEUE_HEAD.addr, 27, 5⟩
def Reg.MON.QUEUE_HEAD.OVR : Fld := ⟨Reg.MON.QUEUE_HEAD.addr, 26, 1⟩
def Reg.MON.QUEUE_HEAD.DIST : Fld := ⟨Reg.MON.QUEUE_HEAD.addr, 25, 1⟩
def Reg.MON.QUEUE_HEAD.VALID : Fld := ⟨Reg.MON.QUEUE_HEAD.addr, 24, 1⟩
def Reg.MON.QUEUE_HEAD.VALUE : Fld := ⟨Reg.MON.QUEUE_HEAD.addr, 0, 16⟩
/-- `MON.QUEUE_CTRL`, R488. -/
def Reg.MON.QUEUE_CTRL.addr : Nat := 0x00900014
def Reg.MON.QUEUE_CTRL.THR : Fld := ⟨Reg.MON.QUEUE_CTRL.addr, 16, 9⟩
def Reg.MON.QUEUE_CTRL.FLUSH : Fld := ⟨Reg.MON.QUEUE_CTRL.addr, 1, 1⟩
def Reg.MON.QUEUE_CTRL.POP : Fld := ⟨Reg.MON.QUEUE_CTRL.addr, 0, 1⟩
/-- `MON.Q_DROP`, R488. -/
def Reg.MON.Q_DROP.addr : Nat := 0x00900018
def Reg.MON.Q_DROP.COUNT : Fld := ⟨Reg.MON.Q_DROP.addr, 0, 32⟩
/-- `MON.OVR_CNT`, R488. -/
def Reg.MON.OVR_CNT.addr : Nat := 0x0090001C
def Reg.MON.OVR_CNT.COUNT : Fld := ⟨Reg.MON.OVR_CNT.addr, 0, 32⟩
/-- `MON.LIM_ACTIVE`, R488. -/
def Reg.MON.LIM_ACTIVE.addr : Nat := 0x00900020
def Reg.MON.LIM_ACTIVE.ACTIVE : Fld := ⟨Reg.MON.LIM_ACTIVE.addr, 0, 32⟩
/-- `MON.FE_OWN`, R488. -/
def Reg.MON.FE_OWN.addr : Nat := 0x00900024
def Reg.MON.FE_OWN.HOST : Fld := ⟨Reg.MON.FE_OWN.addr, 0, 1⟩
/-- `MON.FE_REFUSED_CNT`, R488. -/
def Reg.MON.FE_REFUSED_CNT.addr : Nat := 0x00900028
def Reg.MON.FE_REFUSED_CNT.COUNT : Fld := ⟨Reg.MON.FE_REFUSED_CNT.addr, 0, 32⟩
/-- `MON.SEQ`, R488. -/
def Reg.MON.SEQ.addr (k : Nat) : Nat := 0x00900040 + 4 * k
def Reg.MON.SEQ.CH (k : Nat) : Fld := ⟨Reg.MON.SEQ.addr k, 0, 5⟩
/-- `MON.CH_CFG`, R489. -/
def Reg.MON.CH_CFG.addr (c : Nat) : Nat := 0x00900100 + 32 * c
def Reg.MON.CH_CFG.QUEUE_EN (c : Nat) : Fld := ⟨Reg.MON.CH_CFG.addr c, 31, 1⟩
def Reg.MON.CH_CFG.DIFF (c : Nat) : Fld := ⟨Reg.MON.CH_CFG.addr c, 30, 1⟩
def Reg.MON.CH_CFG.SHIFT (c : Nat) : Fld := ⟨Reg.MON.CH_CFG.addr c, 16, 4⟩
def Reg.MON.CH_CFG.AVG (c : Nat) : Fld := ⟨Reg.MON.CH_CFG.addr c, 8, 4⟩
/-- `MON.FILT_CFG`, R489. -/
def Reg.MON.FILT_CFG.addr (c : Nat) : Nat := 0x00900104 + 32 * c
def Reg.MON.FILT_CFG.PRESET (c : Nat) : Fld := ⟨Reg.MON.FILT_CFG.addr c, 28, 3⟩
def Reg.MON.FILT_CFG.D (c : Nat) : Fld := ⟨Reg.MON.FILT_CFG.addr c, 16, 10⟩
def Reg.MON.FILT_CFG.L (c : Nat) : Fld := ⟨Reg.MON.FILT_CFG.addr c, 0, 10⟩
/-- `MON.FILT_VAL`, R489. -/
def Reg.MON.FILT_VAL.addr (c : Nat) : Nat := 0x00900108 + 32 * c
def Reg.MON.FILT_VAL.VALID (c : Nat) : Fld := ⟨Reg.MON.FILT_VAL.addr c, 31, 1⟩
def Reg.MON.FILT_VAL.OVR (c : Nat) : Fld := ⟨Reg.MON.FILT_VAL.addr c, 30, 1⟩
def Reg.MON.FILT_VAL.DIST (c : Nat) : Fld := ⟨Reg.MON.FILT_VAL.addr c, 29, 1⟩
def Reg.MON.FILT_VAL.VALUE (c : Nat) : Fld := ⟨Reg.MON.FILT_VAL.addr c, 0, 16⟩
/-- `MON.FILT_CNT`, R489. -/
def Reg.MON.FILT_CNT.addr (c : Nat) : Nat := 0x0090010C + 32 * c
def Reg.MON.FILT_CNT.COUNT (c : Nat) : Fld := ⟨Reg.MON.FILT_CNT.addr c, 0, 32⟩
/-- `MON.LIM_THR`, R489. -/
def Reg.MON.LIM_THR.addr (c : Nat) : Nat := 0x00900110 + 32 * c
def Reg.MON.LIM_THR.HI (c : Nat) : Fld := ⟨Reg.MON.LIM_THR.addr c, 16, 16⟩
def Reg.MON.LIM_THR.LO (c : Nat) : Fld := ⟨Reg.MON.LIM_THR.addr c, 0, 16⟩
/-- `MON.LIM_CFG`, R489. -/
def Reg.MON.LIM_CFG.addr (c : Nat) : Nat := 0x00900114 + 32 * c
def Reg.MON.LIM_CFG.ACTION (c : Nat) : Fld := ⟨Reg.MON.LIM_CFG.addr c, 16, 3⟩
def Reg.MON.LIM_CFG.HYST (c : Nat) : Fld := ⟨Reg.MON.LIM_CFG.addr c, 8, 8⟩
def Reg.MON.LIM_CFG.N (c : Nat) : Fld := ⟨Reg.MON.LIM_CFG.addr c, 0, 4⟩
/-- `MON.SPI_CFG`, R490. -/
def Reg.MON.SPI_CFG.addr (i : Nat) : Nat := 0x00901000 + 0x00000100 * i
def Reg.MON.SPI_CFG.MODE (i : Nat) : Fld := ⟨Reg.MON.SPI_CFG.addr i, 24, 2⟩
def Reg.MON.SPI_CFG.DIV (i : Nat) : Fld := ⟨Reg.MON.SPI_CFG.addr i, 16, 8⟩
def Reg.MON.SPI_CFG.LSB_FIRST (i : Nat) : Fld := ⟨Reg.MON.SPI_CFG.addr i, 8, 1⟩
/-- `MON.SPI_CMD`, R490. -/
def Reg.MON.SPI_CMD.addr (i : Nat) : Nat := 0x00901004 + 0x00000100 * i
def Reg.MON.SPI_CMD.GO (i : Nat) : Fld := ⟨Reg.MON.SPI_CMD.addr i, 31, 1⟩
def Reg.MON.SPI_CMD.LEN (i : Nat) : Fld := ⟨Reg.MON.SPI_CMD.addr i, 16, 6⟩
def Reg.MON.SPI_CMD.HOLD_CS (i : Nat) : Fld := ⟨Reg.MON.SPI_CMD.addr i, 12, 1⟩
def Reg.MON.SPI_CMD.CS (i : Nat) : Fld := ⟨Reg.MON.SPI_CMD.addr i, 8, 2⟩
/-- `MON.SPI_STAT`, R490. -/
def Reg.MON.SPI_STAT.addr (i : Nat) : Nat := 0x00901008 + 0x00000100 * i
def Reg.MON.SPI_STAT.BUSY (i : Nat) : Fld := ⟨Reg.MON.SPI_STAT.addr i, 31, 1⟩
/-- `MON.SPI_TXDATA`, R490. -/
def Reg.MON.SPI_TXDATA.addr (i : Nat) (w : Nat) : Nat := 0x00901040 + 0x00000100 * i + 4 * w
def Reg.MON.SPI_TXDATA.DATA (i : Nat) (w : Nat) : Fld := ⟨Reg.MON.SPI_TXDATA.addr i w, 0, 32⟩
/-- `MON.SPI_RXDATA`, R490. -/
def Reg.MON.SPI_RXDATA.addr (i : Nat) (w : Nat) : Nat := 0x00901060 + 0x00000100 * i + 4 * w
def Reg.MON.SPI_RXDATA.DATA (i : Nat) (w : Nat) : Fld := ⟨Reg.MON.SPI_RXDATA.addr i w, 0, 32⟩
/-- `MON.I2C_CFG`, R490. -/
def Reg.MON.I2C_CFG.addr : Nat := 0x00901200
def Reg.MON.I2C_CFG.STRETCH_TMO : Fld := ⟨Reg.MON.I2C_CFG.addr, 8, 8⟩
def Reg.MON.I2C_CFG.SPEED : Fld := ⟨Reg.MON.I2C_CFG.addr, 0, 2⟩
/-- `MON.I2C_CMD`, R490. -/
def Reg.MON.I2C_CMD.addr : Nat := 0x00901204
def Reg.MON.I2C_CMD.GO : Fld := ⟨Reg.MON.I2C_CMD.addr, 31, 1⟩
def Reg.MON.I2C_CMD.ADDR : Fld := ⟨Reg.MON.I2C_CMD.addr, 16, 7⟩
def Reg.MON.I2C_CMD.WLEN : Fld := ⟨Reg.MON.I2C_CMD.addr, 8, 6⟩
def Reg.MON.I2C_CMD.RLEN : Fld := ⟨Reg.MON.I2C_CMD.addr, 0, 6⟩
/-- `MON.I2C_STAT`, R490. -/
def Reg.MON.I2C_STAT.addr : Nat := 0x00901208
def Reg.MON.I2C_STAT.BUSY : Fld := ⟨Reg.MON.I2C_STAT.addr, 31, 1⟩
def Reg.MON.I2C_STAT.NACK_IDX : Fld := ⟨Reg.MON.I2C_STAT.addr, 8, 8⟩
def Reg.MON.I2C_STAT.RESULT : Fld := ⟨Reg.MON.I2C_STAT.addr, 0, 4⟩
/-- `MON.I2C_DATA`, R490. -/
def Reg.MON.I2C_DATA.addr (i : Nat) : Nat := 0x00901240 + 4 * i
def Reg.MON.I2C_DATA.DATA (i : Nat) : Fld := ⟨Reg.MON.I2C_DATA.addr i, 0, 32⟩
/-- `TST.BIST_CFG`, R510. -/
def Reg.TST.BIST_CFG.addr : Nat := 0x00A00000
def Reg.TST.BIST_CFG.ROT_EN : Fld := ⟨Reg.TST.BIST_CFG.addr, 31, 1⟩
def Reg.TST.BIST_CFG.PACE : Fld := ⟨Reg.TST.BIST_CFG.addr, 30, 1⟩
def Reg.TST.BIST_CFG.PERIOD : Fld := ⟨Reg.TST.BIST_CFG.addr, 0, 16⟩
/-- `TST.PU_CTRL`, R510. -/
def Reg.TST.PU_CTRL.addr : Nat := 0x00A00004
def Reg.TST.PU_CTRL.GO : Fld := ⟨Reg.TST.PU_CTRL.addr, 0, 1⟩
/-- `TST.PU_STAT`, R510. -/
def Reg.TST.PU_STAT.addr : Nat := 0x00A00008
def Reg.TST.PU_STAT.BUSY : Fld := ⟨Reg.TST.PU_STAT.addr, 31, 1⟩
def Reg.TST.PU_STAT.DONE : Fld := ⟨Reg.TST.PU_STAT.addr, 30, 1⟩
def Reg.TST.PU_STAT.FAILED : Fld := ⟨Reg.TST.PU_STAT.addr, 16, 8⟩
def Reg.TST.PU_STAT.INCOMPLETE : Fld := ⟨Reg.TST.PU_STAT.addr, 8, 8⟩
def Reg.TST.PU_STAT.PASSED : Fld := ⟨Reg.TST.PU_STAT.addr, 0, 8⟩
/-- `TST.STEP_CFG`, R510. -/
def Reg.TST.STEP_CFG.addr : Nat := 0x00A0000C
def Reg.TST.STEP_CFG.AUTO : Fld := ⟨Reg.TST.STEP_CFG.addr, 31, 1⟩
def Reg.TST.STEP_CFG.LEAD : Fld := ⟨Reg.TST.STEP_CFG.addr, 0, 16⟩
/-- `TST.STEP_STAT`, R510. -/
def Reg.TST.STEP_STAT.addr : Nat := 0x00A00010
def Reg.TST.STEP_STAT.TARGET_B : Fld := ⟨Reg.TST.STEP_STAT.addr, 24, 5⟩
def Reg.TST.STEP_STAT.TARGET_A : Fld := ⟨Reg.TST.STEP_STAT.addr, 16, 5⟩
def Reg.TST.STEP_STAT.NEED_B : Fld := ⟨Reg.TST.STEP_STAT.addr, 1, 1⟩
def Reg.TST.STEP_STAT.NEED_A : Fld := ⟨Reg.TST.STEP_STAT.addr, 0, 1⟩
/-- `TST.MBIST_STAT`, R510. -/
def Reg.TST.MBIST_STAT.addr : Nat := 0x00A00020
def Reg.TST.MBIST_STAT.DONE : Fld := ⟨Reg.TST.MBIST_STAT.addr, 31, 1⟩
def Reg.TST.MBIST_STAT.UNREP : Fld := ⟨Reg.TST.MBIST_STAT.addr, 30, 1⟩
def Reg.TST.MBIST_STAT.MEM : Fld := ⟨Reg.TST.MBIST_STAT.addr, 16, 4⟩
def Reg.TST.MBIST_STAT.REPAIRED : Fld := ⟨Reg.TST.MBIST_STAT.addr, 0, 16⟩
/-- `TST.CAL_STAT`, R510. -/
def Reg.TST.CAL_STAT.addr : Nat := 0x00A00030
def Reg.TST.CAL_STAT.VALID_A : Fld := ⟨Reg.TST.CAL_STAT.addr, 31, 1⟩
def Reg.TST.CAL_STAT.VALID_B : Fld := ⟨Reg.TST.CAL_STAT.addr, 30, 1⟩
def Reg.TST.CAL_STAT.SOURCE : Fld := ⟨Reg.TST.CAL_STAT.addr, 28, 2⟩
def Reg.TST.CAL_STAT.RUNNING : Fld := ⟨Reg.TST.CAL_STAT.addr, 27, 1⟩
def Reg.TST.CAL_STAT.SKIPPED : Fld := ⟨Reg.TST.CAL_STAT.addr, 8, 8⟩
def Reg.TST.CAL_STAT.FAIL_ITEMS : Fld := ⟨Reg.TST.CAL_STAT.addr, 0, 8⟩
/-- `TST.CAL_CTRL`, R510. -/
def Reg.TST.CAL_CTRL.addr : Nat := 0x00A00034
def Reg.TST.CAL_CTRL.RUN : Fld := ⟨Reg.TST.CAL_CTRL.addr, 0, 1⟩
/-- `TST.CAL_SEQ`, R510. -/
def Reg.TST.CAL_SEQ.addr : Nat := 0x00A00038
def Reg.TST.CAL_SEQ.SEQ : Fld := ⟨Reg.TST.CAL_SEQ.addr, 0, 32⟩
/-- `TST.SD_FAIL`, R510. -/
def Reg.TST.SD_FAIL.addr : Nat := 0x00A0003C
def Reg.TST.SD_FAIL.FAIL : Fld := ⟨Reg.TST.SD_FAIL.addr, 0, 16⟩
/-- `TST.ADC_SNDR`, R510. -/
def Reg.TST.ADC_SNDR.addr (c : Nat) (l : Nat) : Nat := 0x00A00300 + 16 * c + 4 * l
def Reg.TST.ADC_SNDR.SNDR (c : Nat) (l : Nat) : Fld := ⟨Reg.TST.ADC_SNDR.addr c l, 0, 16⟩
/-- `TST.DAC_EYE`, R510. -/
def Reg.TST.DAC_EYE.addr (c : Nat) (l : Nat) : Nat := 0x00A00320 + 16 * c + 4 * l
def Reg.TST.DAC_EYE.WIDTH (c : Nat) (l : Nat) : Fld := ⟨Reg.TST.DAC_EYE.addr c l, 0, 16⟩
/-- `TST.SD_EYE`, R510. -/
def Reg.TST.SD_EYE.addr (l : Nat) : Nat := 0x00A00340 + 4 * l
def Reg.TST.SD_EYE.HEIGHT (l : Nat) : Fld := ⟨Reg.TST.SD_EYE.addr l, 16, 16⟩
def Reg.TST.SD_EYE.WIDTH (l : Nat) : Fld := ⟨Reg.TST.SD_EYE.addr l, 0, 16⟩
/-- `TST.GRP_STAT`, R511. -/
def Reg.TST.GRP_STAT.addr (c : Nat) (g : Nat) : Nat := 0x00A00100 + 192 * c + 64 * g
def Reg.TST.GRP_STAT.TEST_UNIT (c : Nat) (g : Nat) : Fld := ⟨Reg.TST.GRP_STAT.addr c g, 24, 5⟩
def Reg.TST.GRP_STAT.LAST_RESULT (c : Nat) (g : Nat) : Fld := ⟨Reg.TST.GRP_STAT.addr c g, 16, 2⟩
def Reg.TST.GRP_STAT.LAST_UNIT (c : Nat) (g : Nat) : Fld := ⟨Reg.TST.GRP_STAT.addr c g, 8, 5⟩
def Reg.TST.GRP_STAT.SESSION (c : Nat) (g : Nat) : Fld := ⟨Reg.TST.GRP_STAT.addr c g, 0, 1⟩
/-- `TST.SIG_LAST_LO`, R511. -/
def Reg.TST.SIG_LAST_LO.addr (c : Nat) (g : Nat) : Nat := 0x00A00104 + 192 * c + 64 * g
def Reg.TST.SIG_LAST_LO.SIG (c : Nat) (g : Nat) : Fld := ⟨Reg.TST.SIG_LAST_LO.addr c g, 0, 32⟩
/-- `TST.SIG_LAST_HI`, R511. -/
def Reg.TST.SIG_LAST_HI.addr (c : Nat) (g : Nat) : Nat := 0x00A00108 + 192 * c + 64 * g
def Reg.TST.SIG_LAST_HI.SIG (c : Nat) (g : Nat) : Fld := ⟨Reg.TST.SIG_LAST_HI.addr c g, 0, 32⟩
/-- `TST.SIG_EXP_LO`, R511. -/
def Reg.TST.SIG_EXP_LO.addr (c : Nat) (g : Nat) : Nat := 0x00A0010C + 192 * c + 64 * g
def Reg.TST.SIG_EXP_LO.SIG (c : Nat) (g : Nat) : Fld := ⟨Reg.TST.SIG_EXP_LO.addr c g, 0, 32⟩
/-- `TST.SIG_EXP_HI`, R511. -/
def Reg.TST.SIG_EXP_HI.addr (c : Nat) (g : Nat) : Nat := 0x00A00110 + 192 * c + 64 * g
def Reg.TST.SIG_EXP_HI.SIG (c : Nat) (g : Nat) : Fld := ⟨Reg.TST.SIG_EXP_HI.addr c g, 0, 32⟩
/-- `TST.PAT_LAST`, R511. -/
def Reg.TST.PAT_LAST.addr (c : Nat) (g : Nat) : Nat := 0x00A00114 + 192 * c + 64 * g
def Reg.TST.PAT_LAST.COUNT (c : Nat) (g : Nat) : Fld := ⟨Reg.TST.PAT_LAST.addr c g, 0, 15⟩
/-- `TST.STEP_SKIP`, R511. -/
def Reg.TST.STEP_SKIP.addr (c : Nat) (g : Nat) : Nat := 0x00A00118 + 192 * c + 64 * g
def Reg.TST.STEP_SKIP.COUNT (c : Nat) (g : Nat) : Fld := ⟨Reg.TST.STEP_SKIP.addr c g, 0, 32⟩
/-- `TST.RETEST`, R511. -/
def Reg.TST.RETEST.addr (c : Nat) (g : Nat) : Nat := 0x00A00120 + 192 * c + 64 * g
def Reg.TST.RETEST.GO (c : Nat) (g : Nat) : Fld := ⟨Reg.TST.RETEST.addr c g, 31, 1⟩
def Reg.TST.RETEST.BUSY (c : Nat) (g : Nat) : Fld := ⟨Reg.TST.RETEST.addr c g, 30, 1⟩
def Reg.TST.RETEST.RESULT (c : Nat) (g : Nat) : Fld := ⟨Reg.TST.RETEST.addr c g, 16, 2⟩
def Reg.TST.RETEST.UNIT (c : Nat) (g : Nat) : Fld := ⟨Reg.TST.RETEST.addr c g, 0, 5⟩
/-- `TST.PASS_CNT`, R511. -/
def Reg.TST.PASS_CNT.addr (c : Nat) (g : Nat) : Nat := 0x00A00124 + 192 * c + 64 * g
def Reg.TST.PASS_CNT.COUNT (c : Nat) (g : Nat) : Fld := ⟨Reg.TST.PASS_CNT.addr c g, 0, 32⟩
/-- `TST.FAIL_CNT`, R511. -/
def Reg.TST.FAIL_CNT.addr (c : Nat) (g : Nat) : Nat := 0x00A00128 + 192 * c + 64 * g
def Reg.TST.FAIL_CNT.COUNT (c : Nat) (g : Nat) : Fld := ⟨Reg.TST.FAIL_CNT.addr c g, 0, 32⟩
/-- `TST.INC_CNT`, R511. -/
def Reg.TST.INC_CNT.addr (c : Nat) (g : Nat) : Nat := 0x00A0012C + 192 * c + 64 * g
def Reg.TST.INC_CNT.COUNT (c : Nat) (g : Nat) : Fld := ⟨Reg.TST.INC_CNT.addr c g, 0, 32⟩
/-- `PCIE.PCIE_ID`, R442. -/
def Reg.PCIE.PCIE_ID.addr : Nat := 0x00B00000
def Reg.PCIE.PCIE_ID.DID : Fld := ⟨Reg.PCIE.PCIE_ID.addr, 16, 16⟩
def Reg.PCIE.PCIE_ID.VID : Fld := ⟨Reg.PCIE.PCIE_ID.addr, 0, 16⟩
/-- `PCIE.PCIE_CFG`, R442. -/
def Reg.PCIE.PCIE_CFG.addr : Nat := 0x00B00004
def Reg.PCIE.PCIE_CFG.ERR_MODE : Fld := ⟨Reg.PCIE.PCIE_CFG.addr, 0, 1⟩
/-- `PCIE.PCIE_STAT`, R442. -/
def Reg.PCIE.PCIE_STAT.addr : Nat := 0x00B00008
def Reg.PCIE.PCIE_STAT.LINK_UP : Fld := ⟨Reg.PCIE.PCIE_STAT.addr, 31, 1⟩
def Reg.PCIE.PCIE_STAT.SPEED : Fld := ⟨Reg.PCIE.PCIE_STAT.addr, 16, 3⟩
def Reg.PCIE.PCIE_STAT.WIDTH : Fld := ⟨Reg.PCIE.PCIE_STAT.addr, 8, 3⟩
def Reg.PCIE.PCIE_STAT.DSTATE : Fld := ⟨Reg.PCIE.PCIE_STAT.addr, 0, 2⟩
/-- `PCIE.LINK_DOWN_CNT`, R442. -/
def Reg.PCIE.LINK_DOWN_CNT.addr : Nat := 0x00B0000C
def Reg.PCIE.LINK_DOWN_CNT.COUNT : Fld := ⟨Reg.PCIE.LINK_DOWN_CNT.addr, 0, 32⟩
/-- `PCIE.HERR_INFO`, R442. -/
def Reg.PCIE.HERR_INFO.addr : Nat := 0x00B00010
def Reg.PCIE.HERR_INFO.VALID : Fld := ⟨Reg.PCIE.HERR_INFO.addr, 31, 1⟩
def Reg.PCIE.HERR_INFO.CAUSE : Fld := ⟨Reg.PCIE.HERR_INFO.addr, 24, 4⟩
def Reg.PCIE.HERR_INFO.WRITE : Fld := ⟨Reg.PCIE.HERR_INFO.addr, 16, 1⟩
def Reg.PCIE.HERR_INFO.BAR : Fld := ⟨Reg.PCIE.HERR_INFO.addr, 0, 1⟩
/-- `PCIE.HERR_ADDR`, R442. -/
def Reg.PCIE.HERR_ADDR.addr : Nat := 0x00B00014
def Reg.PCIE.HERR_ADDR.ADDR : Fld := ⟨Reg.PCIE.HERR_ADDR.addr, 0, 32⟩
/-- `PCIE.HERR_CNT`, R442. -/
def Reg.PCIE.HERR_CNT.addr : Nat := 0x00B00018
def Reg.PCIE.HERR_CNT.COUNT : Fld := ⟨Reg.PCIE.HERR_CNT.addr, 0, 32⟩
/-- `PCIE.SUBSYS`, R442. -/
def Reg.PCIE.SUBSYS.addr : Nat := 0x00B00020
def Reg.PCIE.SUBSYS.SSID : Fld := ⟨Reg.PCIE.SUBSYS.addr, 16, 16⟩
def Reg.PCIE.SUBSYS.SSVID : Fld := ⟨Reg.PCIE.SUBSYS.addr, 0, 16⟩
/-- `PCIE.MSIX_TABLE`, R442. -/
def Reg.PCIE.MSIX_TABLE.addr (v : Nat) (w : Nat) : Nat := 0x00B08000 + 16 * v + 4 * w
def Reg.PCIE.MSIX_TABLE.WORD (v : Nat) (w : Nat) : Fld := ⟨Reg.PCIE.MSIX_TABLE.addr v w, 0, 32⟩
/-- `PCIE.MSIX_PBA`, R442. -/
def Reg.PCIE.MSIX_PBA.addr (h : Nat) : Nat := 0x00B09000 + 4 * h
def Reg.PCIE.MSIX_PBA.PENDING (h : Nat) : Fld := ⟨Reg.PCIE.MSIX_PBA.addr h, 0, 32⟩

end Sys2Proof.Machine
end

