-- ==== Sys2Proof/Machine/Flags.lean ====
section
/-! DEFINITION. Events and their flags (R9 to R11, R430 to R436) and the event counters (R444 to R447). -/

namespace Sys2Proof.Machine

/-- The non-maskable bits of a block's EVT_STAT (R11): CLK_FAIL in CLK, KEY_ZEROIZED in SEC, THERMAL_TRIP and VOLTAGE_FAIL
in MON. -/
def nmMask (base : Nat) : Word :=
  if base = 0x00100000 then 1 else if base = 0x00800000 then 1 else if base = 0x00900000 then 3 else 0

/-- The live conditions at reset: loss of signal is present (R192). -/
def Live.reset (base : Nat) : Word := if base = 0x01200000 ∨ base = 0x01A00000 then 4 else 0

/-- The live conditions of a block's events, one bit each (R9). -/
def Chip.liveWord (s : Chip) (base : Nat) : Word := Store.get Live.reset s.live base

/-- EVT_STAT as it reads: a latched bit where EVT_STICKY is 1 or the event is non-maskable, else the live condition (R9, R11). -/
def Chip.evtStat (s : Chip) (base : Nat) : Word :=
  let sticky := s.rd (base + 0xF8) ||| nmMask base
  (s.rd (base + 0xF0) &&& sticky) ||| (s.liveWord base &&& ~~~sticky)

/-- Whether a block holds an unmasked event bit, or a non-maskable one (R431). -/
def Chip.blockActive (s : Chip) (base : Nat) : Bool :=
  (s.evtStat base &&& (~~~(s.rd (base + 0xF4)) ||| nmMask base)) != 0

/-- The blocks of an event source (R432): the lanes and the ports are 16 blocks each behind one source. -/
def srcBases (n : Nat) : List Nat :=
  match n with
  | 0 => [0x00000000] | 1 => [0x00100000] | 2 => [0x00200000] | 3 => [0x00300000] | 4 => [0x00400000]
  | 5 => [0x00500000] | 6 => [0x00600000] | 7 => [0x00700000] | 8 => [0x00800000] | 9 => [0x00900000]
  | 10 => [0x00A00000] | 11 => [0x00B00000]
  | 28 => (List.range 16).map fun l => 0x02000000 + 0x10000 * l
  | 29 => (List.range 16).map fun p => 0x02200000 + 0x1000 * p
  | 30 => [0x02300000]
  | 31 => [0x02400000]
  | n => if 12 ≤ n ∧ n ≤ 19 then [0x01000000 + 0x00100000 * (n - 12)]
         else if 20 ≤ n ∧ n ≤ 27 then [0x01800000 + 0x00100000 * (n - 20)] else []

/-- Whether an event source is active (R431). -/
def Chip.srcActive (s : Chip) (n : Nat) : Bool := (srcBases n).any s.blockActive

/-- `TOP.EVT_SUM`: bit n is 1 while source n is active (R431). -/
def Chip.evtSum (s : Chip) : Word :=
  (List.range 32).foldl (fun w n => if s.srcActive n then w ||| (1#32 <<< n) else w) 0

/-- The vector latch of vector v (R433). -/
def Chip.vecLatch (s : Chip) (v : Nat) : Bool := (s.rd (0x200 + 4 * (v / 32 % 2))).getLsbD (v % 32)

/-- A single occurrence in level behaviour: its source is active for a clock, which starts a message if the source's vector
is not latched (R9, R433). -/
def Chip.pulse (s : Chip) (n : Nat) : Chip :=
  if (s.rd 0x84).getLsbD n && !s.vecLatch (s.getF (Reg.TOP.VEC_MAP.VEC n)) then
    { s with top := { s.top with msiDue := s.top.msiDue ||| 2 ^ n } }
  else s

/-- An occurrence of an event (R9): with EVT_STICKY at 1 its EVT_STAT bit sets, also in the clock of a clear (R10); with
EVT_STICKY at 0 it leaves no record, and an unmasked one notifies for a clock. -/
def Chip.raise (s : Chip) (e : Ev) : Chip :=
  if (s.rd (e.base + 0xF8)).getLsbD e.bit then
    s.wr (e.base + 0xF0) (s.rd (e.base + 0xF0) ||| (1#32 <<< e.bit))
  else if (s.rd (e.base + 0xF4)).getLsbD e.bit then s
  else s.pulse e.src

/-- The live condition of an event with a lasting condition. -/
def Chip.setLive (s : Chip) (e : Ev) (b : Bool) : Chip :=
  let w := s.liveWord e.base
  let w' := if b then w ||| (1#32 <<< e.bit) else w &&& ~~~(1#32 <<< e.bit)
  { s with live := Store.set Live.reset s.live e.base w' }

/-- An event with a lasting condition begins: it occurs, and its live condition holds. -/
def Chip.assert (s : Chip) (e : Ev) : Chip := (s.setLive e true).raise e

/-- An event raised when a condition, a truth value, was changed. -/
def Chip.raiseIf (s : Chip) (b : Bool) (e : Ev) : Chip := if b then s.raise e else s

/-- A non-maskable event occurs (R11, R436): its bit sets whatever EVT_STICKY holds, and a rise sets the fault-pending flag. -/
def Chip.raiseNM (s : Chip) (e : Ev) : Chip :=
  let w := s.rd (e.base + 0xF0)
  let s1 := (s.setLive e true).wr (e.base + 0xF0) (w ||| (1#32 <<< e.bit))
  if w.getLsbD e.bit then s1 else { s1 with top := { s1.top with faultPend := true } }

/-- The four bits of `TOP.FAULT_STAT` [3:0] (R436): CLK_FAIL, KEY_ZEROIZED, THERMAL_TRIP, VOLTAGE_FAIL. -/
def Chip.faultBits (s : Chip) : Word :=
  (if (s.rd 0x001000F0).getLsbD 0 then 1 else 0) ||| (if (s.rd 0x008000F0).getLsbD 0 then 2 else 0)
    ||| (if (s.rd 0x009000F0).getLsbD 0 then 4 else 0) ||| (if (s.rd 0x009000F0).getLsbD 1 then 8 else 0)

/-- FAULT_N is driven low while any of the four bits is 1 or FAULT_TEST is 1, and released while PORESET_N is low (R436). -/
def Chip.faultDriven (s : Chip) : Bool :=
  !s.clk.poreset && (s.faultBits != 0 || s.getF Reg.TOP.FAULT_TEST.TEST == 1)

/-- Whether counter k+1 is chained to counter k (R445); counter 511 has no chain bit. -/
def Chip.chained (s : Chip) (k : Nat) : Bool :=
  decide (k < 511) && (s.rd (Reg.EVC.CHAIN.addr (k / 32))).getLsbD (k % 32)

/-- n counts added to counter k, with its wraps: each wrap sets the OVF bit, raises OVF and carries into a chained counter
k+1 (R444, R445). -/
def Chip.evcAdd : Nat → Chip → Nat → Nat → Chip
  | 0, s, _, _ => s
  | fuel + 1, s, k, n =>
    let total := s.getF (Reg.EVC.EVC_CNT.COUNT k) + n
    let s1 := s.setF (Reg.EVC.EVC_CNT.COUNT k) total
    let wraps := total / 2 ^ 32
    if wraps = 0 then s1
    else
      let s2 := (s1.setBit (Reg.EVC.OVF.OVF (k / 32)) (k % 32)).raise Ev.EVC.OVF
      if s1.chained k then Chip.evcAdd fuel s2 (k + 1) wraps else s2

/-- n occurrences of event source k (R444): counter k adds them unless it is chained to its predecessor, when it counts
carries only (R445). -/
def Chip.evc (s : Chip) (k : Nat) (n : Nat := 1) : Chip :=
  if n = 0 ∨ 512 ≤ k ∨ (0 < k ∧ s.chained (k - 1)) then s else Chip.evcAdd 512 s k n

end Sys2Proof.Machine
end

