-- ==== Sys2Proof/Machine/LineRate.lean ====
section
/-! DEFINITION. Symbol rates, shaping compositions and latency bounds of a line configuration (R30 to R32, R44, R50 to R54, R82,
R106, R134, R138): arithmetic on exact fractions. -/

namespace Sys2Proof.Machine

/-- A line configuration: the fields of `TXD.LINE_CFG` and the receive settings that shape the line (R65, R98). -/
structure LineCfg where
  otucn : Nat
  format : Nat
  entropy : Nat
  rolloff : Nat
  subcEn : Bool
  pilotBoost : Nat
  lowlat : Bool
  nlcSteps : Nat
deriving DecidableEq, Repr

/-- Line bits per dual-polarisation symbol, as a fraction (R50): 4, 6 or 8, and (2H − 1.2) × 10/9 with H = ENTROPY / 16, which is
(5 × ENTROPY − 48) / 36. -/
def LineCfg.bitsNum (l : LineCfg) : Nat :=
  match l.format with
  | 0 => 4
  | 1 => 6
  | 2 => 8
  | _ => 5 * l.entropy - 48

/-- The denominator of `LineCfg.bitsNum`. -/
def LineCfg.bitsDen (l : LineCfg) : Nat := if l.format = 3 then 36 else 1

/-- One OTUC slice's line bits C = 99.5328 × 239/226 × 2050/1701 Gb/s, as numerator and denominator (R50). -/
def otucLineNum : Nat := 995328 * 239 * 2050
/-- The denominator of C. -/
def otucLineDen : Nat := 10000 * 226 * 1701

/-- A fraction rounded up to a whole number. -/
def ceilDiv (a b : Nat) : Nat := (a + b - 1) / b

/-- Rs_min in units of 1/unit GBd, rounded up (R50): n × C / b. -/
def LineCfg.rsMinUnits (l : LineCfg) (unit : Nat) : Nat :=
  ceilDiv (unit * l.otucn * otucLineNum * l.bitsDen) (otucLineDen * l.bitsNum)

/-- Rs in units of 1/16 GBd: Rs_min rounded up to the 1/16 GBd grid (R50); 15.875 GBd for a subcarrier (R142). -/
def LineCfg.rs16 (l : LineCfg) : Nat := if l.subcEn then 254 else l.rsMinUnits 16

/-- Rs_min in units of 2^-16 GBd, rounded up, as `TXD.RS_MIN` reports it (R67); in subcarrier mode one OTUC1 on 8 bits (R142). -/
def LineCfg.rsMin (l : LineCfg) : Nat :=
  if l.subcEn then ceilDiv (65536 * otucLineNum) (otucLineDen * 8) else l.rsMinUnits 65536

/-- 100 × (1 + β) of a ROLLOFF code (R53). -/
def rolloff100 (code : Nat) : Nat :=
  match code with
  | 0 => 102
  | 1 => 105
  | 2 => 110
  | 3 => 115
  | _ => 120

/-- R62 without R36, for a configuration that is not in subcarrier mode, where R143 takes the place of the rate rules: OTUCN 2
to 16; ENTROPY 32 to 80 for FORMAT 3; ROLLOFF at most 4; 32 GBd ≤ Rs ≤ 256 GBd; Rs × (1 + β) ≤ 280 GHz (R54). -/
def LineCfg.ok (l : LineCfg) : Bool :=
  decide (2 ≤ l.otucn ∧ l.otucn ≤ 16) && decide (l.rolloff ≤ 4) &&
  (l.subcEn ||
    ((decide (l.format ≠ 3) || decide (32 ≤ l.entropy ∧ l.entropy ≤ 80)) &&
      decide (32 * 16 ≤ l.rs16 ∧ l.rs16 ≤ 256 * 16) &&
      decide (l.rs16 * rolloff100 l.rolloff ≤ 280 * 16 * 100)))

/-- R82: Rs × (1 + s/2) ≤ 34 GBd × k, with k engines to carry the load; in subcarrier mode Rs = N_rx × 15.875 GBd and s = 0
(R145). -/
def LineCfg.enginesCarry (l : LineCfg) (nRx k : Nat) : Bool :=
  if l.subcEn then decide (nRx * 254 ≤ 34 * 16 * k)
  else decide (l.rs16 * (2 + l.nlcSteps) ≤ 2 * 34 * 16 * k)

/-- R134: n × 124.7504 Gb/s ≤ 160 Gb/s × k, with k slices to carry the load; n = N_rx in subcarrier mode (R145). -/
def LineCfg.slicesCarry (l : LineCfg) (nRx k : Nat) : Bool :=
  decide ((if l.subcEn then nRx else l.otucn) * 1247504 ≤ 1600000 * k)

/-- Whether two configurations differ in a field whose change is a reconfiguration (R61, R92). -/
def LineCfg.reconf (l m : LineCfg) : Bool :=
  !(decide (l.otucn = m.otucn ∧ l.format = m.format ∧ l.entropy = m.entropy ∧ l.rolloff = m.rolloff ∧
    l.subcEn = m.subcEn ∧ l.pilotBoost = m.pilotBoost ∧ l.lowlat = m.lowlat ∧ l.nlcSteps = m.nlcSteps))

/-- A factorial. -/
def fact : Nat → Nat
  | 0 => 1
  | n + 1 => (n + 1) * fact n

/-- Whether a composition of 128 amplitudes can carry k bits (R44, rule 1): its number of sequences is at least 2^k. -/
def compositionCarries (k n1 n3 n5 n7 : Nat) : Bool :=
  decide (2 ^ k * (fact n1 * fact n3 * fact n5 * fact n7) ≤ fact 128)

/-- Rules 2 and 3 of R44: the least energy n1 + 9 n3 + 25 n5 + 49 n7; ties by the larger n1, then n3, then n5. -/
def compositionBetter (a b : Nat × Nat × Nat × Nat) : Bool :=
  let e := fun (q : Nat × Nat × Nat × Nat) => q.1 + 9 * q.2.1 + 25 * q.2.2.1 + 49 * q.2.2.2
  decide (e a < e b) ||
    (decide (e a = e b) && (decide (b.1 < a.1) || (decide (a.1 = b.1) &&
      (decide (b.2.1 < a.2.1) || (decide (a.2.1 = b.2.1) && decide (b.2.2.1 < a.2.2.1))))))

/-- The composition of R44 for ENTROPY = 16 × H: the best of all (n1, n3, n5, n7) with sum 128 that carry k = 64 × H − 128
bits. -/
def psComposition (entropy : Nat) : Nat × Nat × Nat × Nat :=
  let k := 4 * entropy - 128
  (List.range 129).foldl (fun best n7 =>
    (List.range (129 - n7)).foldl (fun best n5 =>
      (List.range (129 - n7 - n5)).foldl (fun best n3 =>
        let q := (128 - n7 - n5 - n3, n3, n5, n7)
        if compositionBetter q best && compositionCarries k q.1 q.2.1 q.2.2.1 q.2.2.2 then q else best) best) best)
    (0, 0, 0, 128)

/-- The scan step S = floor(2,000,000 / Rs²) ps/nm with Rs in GBd, at least 1 (R106). -/
def scanStep (rs16 : Nat) : Nat := max 1 (2000000 * 256 / (rs16 * rs16))

/-- The number of coarse candidates Nc = ceil((hi − lo) / S) + 1 (R106). -/
def scanCount (lo hi : Int) (step : Nat) : Nat := ceilDiv (hi - lo).toNat step + 1

/-- The coarse candidates of a scan, the last clipped to hi (R106). -/
def scanCoarse (lo hi : Int) (step : Nat) : List Int :=
  (List.range (scanCount lo hi step)).map fun i => min (lo + (i * step : Nat)) hi

/-- The 17 fine candidates about a coarse value (R106). -/
def scanFine (lo hi : Int) (step : Nat) (c : Int) : List Int :=
  (List.range 17).map fun (j : Nat) => max lo (min hi (c + ((j : Int) - 8) * (max 1 (step / 8) : Nat)))

/-- The bound of the transmit half in ps (R30 to R32): steps 1, 2, 6 fixed, steps 3, 4, 5 times 16/n, 60 ns more in subcarrier mode;
rounded up to the next whole nanosecond (R31). -/
def txHalfPs (n : Nat) (subc : Bool) : Nat :=
  1000 * (ceilDiv (320 * n + 280 * 16) n + (if subc then 60 else 0))

/-- The bound of the receive half in ps (R30 to R32): the mode's fixed and scaling parts, 30 ns per non-linear step in standard mode,
80 ns more in subcarrier mode; rounded up to the next whole nanosecond (R31). -/
def rxHalfPs (n : Nat) (lowlat subc : Bool) (nlc : Nat) : Nat :=
  let fixed := if lowlat then 480 else 1060
  let scale := if lowlat then 1020 else 1540
  1000 * (ceilDiv (fixed * n + scale * 16) n + (if lowlat then 0 else 30 * nlc) + (if subc then 80 else 0))

/-- A training period in symbols (R46). -/
def trainPeriodSymbols : Nat := 262400

/-- T_cold in ns (R111): 50 ms with MU_ACQ at most 7, else 25 passes of 1.5 ms + 150 µs × 2^(MU_ACQ − 6). -/
def tColdNs (muAcq : Nat) : Nat :=
  if muAcq ≤ 7 then 50000000 else 25 * (1500000 + 150000 * 2 ^ (muAcq - 6))

end Sys2Proof.Machine
end

