-- ==== Sys2Proof/Machine/Groups.lean ====
section
/-! DEFINITION. The line settings of a carrier (committed, resulting and in effect) and the redundant groups of units that carry
the line: fencing, the reserve, takeovers, exchanges, signal fail and the need for a rate step-down (R25 to R27, R81 to R84, R133 to
R136, R354 to R356, R498 to R500). -/

namespace Sys2Proof.Machine

/-- The number of bits set in a mask of a width. -/
def popc (mask width : Nat) : Nat := (List.range width).countP mask.testBit

/-- A carrier's line settings: its configuration, its subcarrier role and its subcarrier masks (R65, R98, R164). -/
structure LineSet where
  cfg : LineCfg
  role : Nat
  dn : Nat
  up : Nat
deriving DecidableEq, Repr

/-- The mask of the receive-enabled subcarriers: UP_EN for a hub, DN_EN for a leaf (R145). -/
def LineSet.rxMask (l : LineSet) : Nat := if l.role = 1 then l.up else if l.role = 2 then l.dn else 0

/-- The mask of the transmit-enabled subcarriers: DN_EN for a hub, UP_EN for a leaf (R148). -/
def LineSet.txMask (l : LineSet) : Nat := if l.role = 1 then l.dn else if l.role = 2 then l.up else 0

/-- The OTUC slices, or active subcarriers, that the carrier receives (R134, R145). -/
def LineSet.rxLoad (l : LineSet) : Nat := if l.cfg.subcEn then popc l.rxMask 16 else l.cfg.otucn

/-- The OTUC slices, or subcarriers, that the carrier transmits (R355). -/
def LineSet.txLoad (l : LineSet) : Nat := if l.cfg.subcEn then popc l.txMask 16 else l.cfg.otucn

/-- Whether k units of a group carry the load: engines (R82, R84), slices (R134, R136) or AES lanes (R355, R356). -/
def LineSet.carries (l : LineSet) (g k : Nat) : Bool :=
  match g with
  | 0 => l.cfg.enginesCarry l.rxLoad k
  | 1 => l.cfg.slicesCarry l.rxLoad k
  | _ => decide (l.txLoad ≤ k) && decide (l.rxLoad ≤ k)

/-- The line settings that the RWS registers of a carrier spell, read through a function from address to word. -/
def LineSet.ofWords (rd : Nat → Word) (c : Carrier) : LineSet :=
  let line := rd (Reg.TXD.LINE_CFG.addr c)
  let rx := rd (Reg.RXD.RX_CFG.addr c)
  { cfg := { otucn := line.field 0 5, format := line.field 8 2, entropy := line.field 16 8, rolloff := line.field 24 3,
             subcEn := line.bit 29, pilotBoost := line.field 30 2, lowlat := rx.bit 0, nlcSteps := rx.field 4 3 }
    role := (rd (Reg.SUBC.SC_CFG.addr c)).field 16 2
    dn := (rd (Reg.SUBC.DN_EN.addr c)).field 0 16
    up := (rd (Reg.SUBC.UP_EN.addr c)).field 0 16 }

/-- The committed line settings: the active values of R12. -/
def Chip.lineCommitted (s : Chip) (c : Carrier) : LineSet := LineSet.ofWords s.act c

/-- The line settings in effect, as LINE_STAT, RX_STAT, SC_STAT and EN_ACTIVE report them (R61, R66, R98, R164). -/
def Chip.lineApplied (s : Chip) (c : Carrier) : LineSet :=
  let line := s.rd (Reg.TXD.LINE_STAT.addr c)
  { cfg := { otucn := line.field 0 5, format := line.field 8 2, entropy := line.field 16 8, rolloff := line.field 24 3,
             subcEn := line.bit 29, pilotBoost := line.field 30 2, lowlat := s.flag (Reg.RXD.RX_STAT.LOWLAT_ACTIVE c)
             nlcSteps := s.getF (Reg.RXD.RX_STAT.NLC_ACTIVE c) }
    role := s.getF (Reg.SUBC.SC_STAT.ROLE_ACTIVE c)
    dn := s.getF (Reg.SUBC.EN_ACTIVE.DN c)
    up := s.getF (Reg.SUBC.EN_ACTIVE.UP c) }

/-- The units of a group (R25): 9 engines, 14 slices, 17 AES lanes. -/
def Grp.units (g : Nat) : Nat := match g with | 0 => 9 | 1 => 14 | _ => 17

/-- A group at reset: no fence; the highest-numbered unit is the reserve (the spec says the reserve varies). -/
def Grp.fresh (i : Nat) : GrpSt := { reserve := some (Grp.units (i % 3) - 1) }

/-- The group g of a carrier. -/
def Chip.grpOf (s : Chip) (c : Carrier) (g : Nat) : GrpSt := Store.get Grp.fresh s.grp (3 * c.ix + g)

/-- The group g of a carrier replaced. -/
def Chip.setGrp (s : Chip) (c : Carrier) (g : Nat) (v : GrpSt) : Chip :=
  { s with grp := Store.set Grp.fresh s.grp (3 * c.ix + g) v }

/-- A, the number of units that are not fenced (R82, R134, R355, R498). -/
def GrpSt.healthy (v : GrpSt) (g : Nat) : Nat := Grp.units g - popc v.fenced (Grp.units g)

/-- Whether a unit is in service: neither fenced, nor the reserve, nor waiting to join (R498). -/
def GrpSt.inService (v : GrpSt) (u : Nat) : Bool :=
  !v.fenced.testBit u && !decide (v.reserve = some u) && !v.joining.testBit u

/-- The units in service, in index order. -/
def GrpSt.inServiceUnits (v : GrpSt) (g : Nat) : List Nat := (List.range (Grp.units g)).filter v.inService

/-- The first unit after u in cyclic index order that passes a test (R495, R498). -/
def Grp.nextUnit (g u : Nat) (p : Nat → Bool) : Option Nat :=
  ((List.range (Grp.units g)).map fun k => (u + 1 + k) % Grp.units g).find? p

/-- The ROLE of a unit: 0 in service, 1 reserve, 2 fenced (R98, R139, R367). -/
def GrpSt.role (v : GrpSt) (u : Nat) : Nat :=
  if v.fenced.testBit u then 2 else if v.reserve = some u then 1 else 0

/-- The group's NO_RESERVE event (R83, R135, R356). -/
def Grp.noReserveEv (c : Carrier) (g : Nat) : Ev :=
  match g with | 0 => Ev.RXD.NO_RESERVE c | 1 => Ev.FEC.NO_RESERVE c | _ => Ev.LENC.NO_RESERVE c

/-- The group's signal-fail event, which follows the condition in level behaviour (R84, R136); the lane group has none (R356). -/
def Grp.sfEv (c : Carrier) (g : Nat) : Option Ev :=
  match g with | 0 => some (Ev.RXD.ENG_SF c) | 1 => some (Ev.FEC.FEC_SF c) | _ => none

/-- Whether the group's capacity check passes for the settings in effect: A − 1 units carry the load (R498). -/
def Chip.grpCheck (s : Chip) (c : Carrier) (g : Nat) : Bool :=
  (s.lineApplied c).carries g ((s.grpOf c g).healthy g - 1)

/-- The condition of NO_RESERVE follows the reserve; it occurs where the reserve is lost (R83, R135, R356). -/
def Chip.noteReserve (s : Chip) (c : Carrier) (g : Nat) (had : Bool) : Chip :=
  let e := Grp.noReserveEv c g
  if (s.grpOf c g).reserve.isNone then (if had then s.assert e else s.setLive e true) else s.setLive e false

/-- Signal fail of a group for want of a reserve begins or ends (R84, R136, R356). -/
def Chip.setGrpSf (s : Chip) (c : Carrier) (g : Nat) (b : Bool) : Chip :=
  let v := s.grpOf c g
  let s1 := s.setGrp c g { v with sf := b }
  match Grp.sfEv c g with
  | none => s1
  | some e => if b && !v.sf then s1.assert e else s1.setLive e b

/-- Signal fail of a group ends once the units that are not fenced carry the settings in effect without a reserve (R84, R136,
R356). -/
def Chip.sfRecheck (s : Chip) (c : Carrier) (g : Nat) : Chip :=
  if (s.grpOf c g).sf && (s.lineApplied c).carries g ((s.grpOf c g).healthy g) then s.setGrpSf c g false else s

/-- What a session leaves in the group's registers (R493, R511): its result, its unit, its count of patterns and its MISR. -/
def Chip.sessionResult (s : Chip) (c : Carrier) (g u result patterns misr : Nat) : Chip :=
  let s1 := (s.setF (Reg.TST.GRP_STAT.SESSION c.ix g) 0).setF (Reg.TST.GRP_STAT.TEST_UNIT c.ix g) 0x1F
  let s2 := (s1.setF (Reg.TST.GRP_STAT.LAST_RESULT c.ix g) result).setF (Reg.TST.GRP_STAT.LAST_UNIT c.ix g) u
  (s2.setF (Reg.TST.PAT_LAST.COUNT c.ix g) patterns).setPair (Reg.TST.SIG_LAST_LO.addr c.ix g) misr

/-- The session in progress on a unit ends INCOMPLETE (R493) after some patterns: the result, its counts and its event; the unit is tested
again at the group's next step. -/
def Chip.sessionIncomplete (s : Chip) (c : Carrier) (g patterns misr : Nat) : Chip :=
  let v := s.grpOf c g
  match v.session with
  | none => s
  | some u =>
    let s1 := (s.setGrp c g { v with session := none, retesting := false }).sessionResult c g u 3 patterns misr
    let s4 := (s1.bump (Reg.TST.INC_CNT.COUNT c.ix g)).raise Ev.TST.BIST_INCOMPLETE
    if v.retesting then (s4.setF (Reg.TST.RETEST.BUSY c.ix g) 0).setF (Reg.TST.RETEST.RESULT c.ix g) 3
    else s4.setGrp c g { s4.grpOf c g with retries := v.retries + 1 }

/-- The session in progress on a unit is cut short (R493), wherever it stands: below 16,384 patterns. -/
def Chip.abandonSession (s : Chip) (c : Carrier) (g : Nat) : Chip :=
  if (s.grpOf c g).session.isNone then s
  else s.free.2.free.2.sessionIncomplete c g (s.free.1 % 16384) s.free.2.free.1

/-- A unit in service fails a check (R83, R135, R356): it is fenced; the reserve, where one is ready, leaves its session and takes
over; otherwise signal fail begins. An exchange that is due is cancelled. -/
def Chip.takeOver (s : Chip) (c : Carrier) (g u : Nat) : Chip :=
  let v := s.grpOf c g
  let s1 := if v.session.isSome && decide (v.session = v.reserve) then s.abandonSession c g else s
  let v1 := s1.grpOf c g
  let v2 := { v1 with fenced := v1.fenced ||| 2 ^ u, passed := none }
  match v.reserve with
  | some r => (s1.setGrp c g { v2 with reserve := none, takeover := some r }).noteReserve c g true
  | none =>
    let v3 := { v2 with takeover := if v2.takeover = some u then none else v2.takeover }
    ((s1.setGrp c g v3).noteReserve c g false).setGrpSf c g true

/-- A unit is fenced while it carries no traffic: the reserve by a failed session (R498), or a unit outside service. -/
def Chip.fenceIdle (s : Chip) (c : Carrier) (g u : Nat) : Chip :=
  let v := s.grpOf c g
  let v1 := { v with fenced := v.fenced ||| 2 ^ u, joining := v.joining - (v.joining &&& 2 ^ u) }
  (s.setGrp c g { v1 with reserve := if v.reserve = some u then none else v.reserve }).noteReserve c g v.reserve.isSome

/-- TARGET_c in carrier mode (R499): the highest OTUCn below the present one at which the line configuration, nothing else changed,
passes the checks of R62, R91, R134 and R355; in LOCKED and PROTECTED_1P1 on both carriers. -/
def Chip.stepTarget (s : Chip) (c : Carrier) : Nat :=
  let l := s.lineApplied c
  if l.cfg.subcEn then
    (((List.range 16).reverse).find? l.rxMask.testBit).getD 0
  else
    let both := s.getF Reg.TOP.CARRIER_STAT.MODE_ACTIVE ≠ 0
    let passes := fun (k : Carrier) (n : Nat) =>
      let m := s.lineApplied k
      let m' : LineSet := { m with cfg := { m.cfg with otucn := n } }
      m'.cfg.ok && (List.range 3).all fun g => m'.carries g ((s.grpOf k g).healthy g - 1)
    (((List.range l.cfg.otucn).reverse).find? fun n =>
      decide (2 ≤ n) && passes c n && (!decide both || passes c.other n)).getD 0

/-- The need for a rate step-down of a carrier (R499): a group has no reserve because its capacity check fails. NEED_STEP occurs
where the need begins; it ends once every check passes with a reserve, and STEP_DONE occurs where a step-down brought that
about (R500). -/
def Chip.stepNeed (s : Chip) (c : Carrier) (byStep : Bool) : Chip :=
  let i := c.ix
  let need := (List.range 3).any fun g => (s.grpOf c g).reserve.isNone && !s.grpCheck c g
  let had := s.getF ⟨Reg.TST.STEP_STAT.addr, i, 1⟩ == 1
  let s1 := s.setF ⟨Reg.TST.STEP_STAT.addr, i, 1⟩ need.toNat
  let s2 := s1.setF ⟨Reg.TST.STEP_STAT.addr, 16 + 8 * i, 5⟩ (if need then s.stepTarget c else 0)
  if need && !had then s2.raise Ev.TST.NEED_STEP
  else if had && !need && byStep then s2.raise Ev.TST.STEP_DONE
  else s2

/-- After the settings in effect or the fences of a carrier changed: a reserve that its group can no longer spare goes into service
(R498), signal fail is judged again (R84, R136, R356) and so is the need for a step-down. -/
def Chip.grpSettle (s : Chip) (c : Carrier) (byStep : Bool := false) : Chip :=
  let one := fun (t : Chip) (g : Nat) =>
    let v := t.grpOf c g
    let t1 := if v.reserve.isSome && !t.grpCheck c g then
        let t0 := if v.session.isSome && decide (v.session = v.reserve) then t.abandonSession c g else t
        (t0.setGrp c g { t0.grpOf c g with reserve := none, passed := none }).noteReserve c g true
      else t
    t1.sfRecheck c g
  (((one s 0 |> fun t => one t 1) |> fun t => one t 2)).stepNeed c byStep

/-- An exchange boundary of a group (R495, R498): units that wait join service; a unit that passed its session goes into service and
the next unit in cyclic order becomes the reserve; a group whose check passes and that has no reserve takes the first unit in
service after LAST_UNIT as its reserve. -/
def Chip.exchange (s : Chip) (c : Carrier) (g : Nat) : Chip :=
  let v := s.grpOf c g
  let v1 := { v with joining := 0 }
  match v.passed, v.reserve with
  | some u, some r =>
    if u = r then
      match Grp.nextUnit g u (fun w => v1.inService w) with
      | some w => s.setGrp c g { v1 with reserve := some w, passed := none }
      | none => s.setGrp c g { v1 with passed := none }
    else s.setGrp c g { v1 with passed := none }
  | _, some _ => s.setGrp c g v1
  | _, none =>
    let s1 := s.setGrp c g { v1 with passed := none }
    if s1.grpCheck c g && v.takeover.isNone then
      match Grp.nextUnit g (s.getF (Reg.TST.GRP_STAT.LAST_UNIT c.ix g)) (fun w => v1.inService w) with
      | some w => (s1.setGrp c g { v1 with reserve := some w, passed := none }).noteReserve c g true
      | none => s1
    else s1

/-- The word of a group status register, ENG_GRP_STAT or SLICE_GRP_STAT (R98, R139): the fences, the units in service and the
reserve, 0xF where there is none. -/
def Chip.grpStat (s : Chip) (c : Carrier) (g : Nat) : Word :=
  let v := s.grpOf c g
  BitVec.ofNat 32 (v.fenced * 2 ^ 16 + (v.inServiceUnits g).length * 16 + v.reserve.getD 0xF)

/-- The word of a unit status register (R84, R98, R137, R139, R356, R367): the counter of failed checks in the upper half and the
role; under self-test the word captured before the test with TEST_ACTIVE. -/
def Chip.unitStat (s : Chip) (c : Carrier) (g u addr : Nat) : Word :=
  let v := s.grpOf c g
  if v.session = some u then BitVec.ofNat 32 (v.captured ||| 4)
  else (s.rd addr &&& 0xFFFF0000#32) ||| BitVec.ofNat 32 (v.role u)

end Sys2Proof.Machine
end

