-- ==== Sys2Proof/Machine/PmonOps.lean ====
section
/-! DEFINITION. Performance monitoring as other blocks drive it: blocks and errored blocks of a second, lost ranges, conditions in
seconds, steps of Wellspring time and ripples (R196 to R207). -/

namespace Sys2Proof.Machine

/-- A condition takes a value at an instant of a second; `edge` says that the instant is the second's start (R15). -/
def Cond.put (v : Cond) (b : Bool) (sec : Nat) (edge : Bool) : Cond :=
  if b = v.on then v
  else if b then { v with on := true, from_ := sec }
  else
    let last := if edge then sec - 1 else sec
    if v.from_ ≤ last ∧ ¬ (edge ∧ sec = 0) then { v with on := false, past := v.past ++ [(v.from_, last)] } else { v with on := false }

/-- Whether the condition held at an instant of a second. -/
def Cond.during (v : Cond) (sec : Nat) : Bool :=
  (v.on && decide (v.from_ ≤ sec)) || v.past.any fun p => decide (p.1 ≤ sec ∧ sec ≤ p.2)

/-- The spans that end with or before a closed second are dropped. -/
def Cond.prune (v : Cond) (sec : Nat) : Cond := { v with past := v.past.filter fun p => decide (sec < p.2) }

/-- A trail's performance monitor. -/
def Chip.pmOf (s : Chip) (c : Carrier) (t : Nat) : PmSt := Tab.get {} s.pm (16 * c.ix + t)

/-- A trail's performance monitor replaced. -/
def Chip.setPm (s : Chip) (c : Carrier) (t : Nat) (v : PmSt) : Chip := { s with pm := Tab.put {} s.pm (16 * c.ix + t) v }

/-- An event of a trail's performance monitor, with its EVT_TRAIL bit (R216). -/
def Chip.raisePm (s : Chip) (c : Carrier) (t : Nat) (e : Carrier → Ev) : Chip :=
  (s.raise (e c)).setBit (Reg.PMON.EVT_TRAIL.TRAIL c) t

/-- Whether the second in progress has just begun. -/
def Chip.atEdge (s : Chip) : Bool := s.wst.t16 == 0

/-- Counts added to the open record of a second, which is opened where there is none yet. -/
def PmSt.addOpen (v : PmSt) (sec : Nat) (f : PmSec → PmSec) : PmSt :=
  if v.open_.any fun r => r.sec == sec then
    { v with open_ := v.open_.map fun r => if r.sec = sec then f r else r }
  else { v with open_ := v.open_ ++ [f { sec := sec }] }

/-- Blocks and errored blocks of a second (R197, R198). Those of a second that has closed go to the second in progress, where errored
blocks count in LATE_ATTR. Nothing is counted before monitoring has started, nor in time that is not judged (R205). -/
def Chip.pmAdd (s : Chip) (c : Carrier) (t sec n e : Nat) : Chip :=
  let v := s.pmOf c t
  match v.started with
  | none => s
  | some st =>
    if sec < st ∨ n = 0 then s
    else if v.lastClosed.any fun l => decide (sec ≤ l) then
      if v.lastClosed.any fun l => decide (s.wst.sec ≤ l) then s
      else
        let v' := v.addOpen s.wst.sec fun r => { r with n := r.n + n, e := r.e + e, late := r.late || decide (0 < e) }
        let s1 := s.setPm c t v'
        if e = 0 then s1 else (s1.bump (Reg.PMON.LATE_ATTR.COUNT c t) e).raisePm c t Ev.PMON.LATE_ATTR
    else s.setPm c t (v.addOpen sec fun r => { r with n := r.n + n, e := r.e + e })

/-- A delivered frame for the far end: a block, errored where its BEI is not 0 (R201). -/
def Chip.pmAddFe (s : Chip) (c : Carrier) (t sec : Nat) (errored : Bool) : Chip :=
  let v := s.pmOf c t
  match v.started with
  | none => s
  | some st =>
    let sec' := if v.lastClosed.any fun l => decide (sec ≤ l) then s.wst.sec else sec
    if sec < st ∨ v.lastClosed.any (fun l => decide (sec' ≤ l)) then s
    else s.setPm c t (v.addOpen sec' fun r => { r with feN := r.feN + 1, feE := r.feE + errored.toNat })

/-- Numerator and denominator of the line frame time T_F in units of 2^-16 ns (R170). -/
def tfNum : Nat := 105840 * 226 * 10000 * 65536
/-- The denominator of T_F for n OTUC slices. -/
def tfDen (n : Nat) : Nat := n * 995328 * 239

/-- How many of the frames 1, 2, 3 … after an instant of a second have a projected stamp before the start of another second (R197). -/
def framesBefore (n sec t16 till : Nat) : Nat :=
  let x := (till - sec) * (1000000000 * 65536) - t16
  (x * tfDen n - 1) / tfNum

/-- The frames of a lost range, each errored, in the seconds of their projected stamps (R196, R197): `sec` and `t16` are the stamp of the
frame delivered before the range, m its length. -/
def Chip.pmRange (s : Chip) (c : Carrier) (t n sec t16 m : Nat) : Chip :=
  let cut := fun (till : Nat) => min m (framesBefore n sec t16 till)
  let secs := (List.range (s.wst.sec - sec + 1)).map fun k => sec + k
  -- the frames that no listed second holds belong to the last one
  let counted := secs.map fun k => (k, if k = s.wst.sec then m - cut k else cut (k + 1) - cut k)
  counted.foldl (fun u p => u.pmAdd c t p.1 p.2 p.2) s

/-- The conditions of a trail's seconds take their present values (R199, R204). -/
def Chip.pmConditions (s : Chip) (c : Carrier) (t : Nat) (neDef feDef frozen : Bool) : Chip :=
  let v := s.pmOf c t
  let put := fun (k : Cond) (b : Bool) => k.put b s.wst.sec s.atEdge
  s.setPm c t { v with neDef := put v.neDef neDef, feDef := put v.feDef feDef, frozen := put v.frozen frozen }

/-- A bin of length len with offset ofs starts at a second (R206). -/
def binStartsAt (sec len ofs : Nat) : Bool := decide (((sec : Int) - (ofs : Int)) % (len : Int) = 0)

/-- The last bin start at or before a second. -/
def lastBinStart (sec len ofs : Nat) : Nat := (sec - (((sec : Int) - (ofs : Int)) % (len : Int)).toNat)

/-- BIN_LEN in effect: 1 to 86,400 (R213). -/
def Chip.binLen (s : Chip) (c : Carrier) (t : Nat) : Nat := min 86400 (max 1 (s.getF (Reg.PMON.BIN_LEN.LEN c t)))

/-- DAY_OFS in seconds, at most 95 quarters of an hour (R209, R215). -/
def Chip.dayOfs (s : Chip) (c : Carrier) (t : Nat) : Nat := 900 * min 95 (s.getF (Reg.PMON.CMP_CFG.DAY_OFS c t))

/-- The ends of bins between a second and a later boundary (R206, R207, R209): each kind's last bin start after the second and at or
before the boundary. -/
def Chip.binEnds (s : Chip) (c : Carrier) (t : Nat) (v : PmSt) (r : PmSec) (boundary : Nat) : PmSec :=
  let len := s.binLen c t
  let ofs := s.getF (Reg.PMON.BIN_OFS.OFS c t) % len
  let after := fun (b : Nat) => if r.sec < b ∧ b ≤ boundary then some b else none
  let b15 := lastBinStart boundary 900 0
  let b24 := lastBinStart boundary 86400 (s.dayOfs c t)
  if s.flag (Reg.PMON.PM_CFG.BIN_MODE c t) then
    let e := if v.rippleEnds.any fun b => decide (b ≤ boundary) then some boundary else none
    { r with end_ := e, ripple := e.isSome, end15 := after b15, end24 := after b24 }
  else
    let e := after (lastBinStart boundary len ofs)
    { r with end_ := e, short := e.any fun b => decide (b - v.binStart < v.binLen), end15 := after b15, end24 := after b24 }

/-- A record closes (R198): it takes the conditions of its second, and the ends of bins up to a boundary. -/
def Chip.pmCloseRec (s : Chip) (c : Carrier) (t : Nat) (sec boundary : Nat) (step : Bool) : Chip :=
  let v := s.pmOf c t
  let r0 := (v.open_.find? fun r => r.sec == sec).getD { sec := sec }
  let r1 := { r0 with neDef := v.neDef.during sec, feDef := v.feDef.during sec, frozen := v.frozen.during sec
                      step := step || v.stepped, brk := step || v.stepped }
  let r := s.binEnds c t v r1 boundary
  let v' := { v with
    open_ := v.open_.filter fun x => decide (sec < x.sec)
    closed := v.closed ++ [r], lastClosed := some sec, stepped := step
    neDef := v.neDef.prune sec, feDef := v.feDef.prune sec, frozen := v.frozen.prune sec
    binStart := r.end_.getD v.binStart, binLen := if r.end_.isSome then s.binLen c t else v.binLen
    rippleEnds := v.rippleEnds.filter fun b => decide (boundary < b) }
  (s.setPm c t v').setF (Reg.PMON.PM_STAT.PEND c t) (min 10 v'.closed.length)

/-- A step of Wellspring time from a second to another as one trail sees it (R205): TIME_STEP, and the second in progress closes as a
partial one where it has not closed before. -/
def Chip.pmStep (s : Chip) (c : Carrier) (t oldSec newSec : Nat) : Chip :=
  let v := s.pmOf c t
  match v.started with
  | none => s
  | some st =>
    let s0 := s.raisePm c t Ev.PMON.TIME_STEP
    if oldSec < st ∨ v.lastClosed.any (fun l => decide (oldSec ≤ l)) then s0.setPm c t { v with stepped := true }
    else s0.pmCloseRec c t oldSec (max oldSec newSec) true

/-- A ripple with the action "start or end a PM bin" acts on a trail (R207): the bin ends at the first whole second at or after the
action instant. -/
def Chip.pmRipple (s : Chip) (c : Carrier) (t : Nat) (instSec : Nat) (whole : Bool) : Chip :=
  let v := s.pmOf c t
  if s.flag (Reg.PMON.PM_CFG.BIN_MODE c t) && s.flag (Reg.PMON.PM_CFG.RIPPLE_EN c t) && v.started.isSome then
    let b := if whole then instSec else instSec + 1
    if b ≤ v.binStart then s else s.setPm c t { v with rippleEnds := if v.rippleEnds.contains b then v.rippleEnds else v.rippleEnds ++ [b] }
  else s

end Sys2Proof.Machine
end

