-- ==== Sys2Proof/Machine/FrmOps.lean ====
section
/-! DEFINITION. A trail's framer as several steps share it: its detectors, the defects after suppression and what follows from them,
the acceptance of TTI, PSI and APS values, the judgement of frames for performance monitoring (R177 to R191, R196, R197). -/

namespace Sys2Proof.Machine

/-- A trail's framer. -/
def Chip.frmOf (s : Chip) (c : Carrier) (t : Nat) : FrmSt := Tab.get {} s.frm (16 * c.ix + t)

/-- A trail's framer replaced. -/
def Chip.setFrm (s : Chip) (c : Carrier) (t : Nat) (v : FrmSt) : Chip := { s with frm := Tab.put {} s.frm (16 * c.ix + t) v }

/-- A change of a trail's framer. -/
def Chip.modFrm (s : Chip) (c : Carrier) (t : Nat) (f : FrmSt → FrmSt) : Chip := s.setFrm c t (f (s.frmOf c t))

/-- An event of a trail, with its EVT_TRAIL bit (R194). -/
def Chip.raiseFrm (s : Chip) (c : Carrier) (t : Nat) (e : Carrier → Ev) : Chip :=
  (s.raise (e c)).setBit (Reg.FRM.EVT_TRAIL.TRAIL c) t

/-- The OTUC slices of a trail: the n of the carrier, or 1 for a subcarrier (R170, R173). -/
def Chip.trailN (s : Chip) (c : Carrier) : Nat :=
  let l := s.lineApplied c
  if l.cfg.subcEn then 1 else l.cfg.otucn

/-- Whether the trail is receive-enabled (R145, R192, R204). -/
def Chip.trailRx (s : Chip) (c : Carrier) (t : Nat) : Bool :=
  let l := s.lineApplied c
  if l.cfg.subcEn then l.rxMask.testBit t else t == 0

/-- Whether the trail is transmit-enabled (R190). -/
def Chip.trailTx (s : Chip) (c : Carrier) (t : Nat) : Bool :=
  let l := s.lineApplied c
  if l.cfg.subcEn then l.txMask.testBit t else t == 0

/-- The receiver of a trail: the carrier's for trail 0 in carrier mode, a subcarrier's in subcarrier mode. -/
def Chip.trailRcv (s : Chip) (c : Carrier) (t : Fin 16) : Rcv :=
  if (s.lineApplied c).cfg.subcEn then .sub c t else .car c

/-- The state of the receiver of a trail. -/
def Chip.trailRcvSt (s : Chip) (c : Carrier) (t : Nat) : RcvSt :=
  Tab.get {} s.rcv (if (s.lineApplied c).cfg.subcEn then 17 * c.ix + 1 + t else 17 * c.ix)

/-- Whether the hub marked the trail's subcarrier asleep and it is not ACQUIRED (R152, R204). -/
def Chip.hubMarked (s : Chip) (c : Carrier) (t : Nat) : Bool :=
  decide (s.getF (Reg.SUBC.SC_STAT.ROLE_ACTIVE c) = 1) && s.bitOf (Reg.SUBC.SLEEP.MASK c) t && (s.trailRcvSt c t).state != 8

/-- Whether the mark suppresses the subcarrier's defects: until it was acquired while marked (R152). -/
def Chip.hubAsleep (s : Chip) (c : Carrier) (t : Nat) : Bool := s.hubMarked c t && !(s.trailRcvSt c t).woke

/-- The bytes of the accepted and of the expected TTI that TIM_MODE compares, as words (R187, R192, R193). -/
def timWords (mode : Nat) : List Nat :=
  match mode with
  | 1 => List.range 4
  | 2 => [4, 5, 6, 7]
  | 3 => List.range 8
  | 4 => List.range 16
  | _ => []

/-- dTIM (R187): the accepted TTI differs from TTI_EXP in the bytes compared; nothing is compared before a TTI has been accepted. -/
def Chip.timDefect (s : Chip) (c : Carrier) (t : Nat) : Bool :=
  (s.frmOf c t).ttiEver && (timWords (s.getF (Reg.FRM.CA_CFG.TIM_MODE c t))).any fun i =>
    s.rd (Reg.FRM.TTI_ACC.addr c t i) != s.rd (Reg.FRM.TTI_EXP.addr c t i)

/-- dPLM (R187): an accepted PT that is not EXP_PT. -/
def Chip.plmDefect (s : Chip) (c : Carrier) (t : Nat) : Bool :=
  (s.frmOf c t).ptEver && s.flag (Reg.FRM.PT_CFG.PLM_EN c t) &&
    s.getF (Reg.FRM.PT_STAT.ACC_PT c t) != s.getF (Reg.FRM.PT_CFG.EXP_PT c t)

/-- The detectors' outputs, bit by bit (R187); all 0 for a subcarrier that the hub marked asleep (R152). -/
def Chip.defRaw (s : Chip) (c : Carrier) (t : Nat) : Nat :=
  let v := s.frmOf c t
  let b := fun (x : Bool) (k : Nat) => x.toNat * 2 ^ k
  if s.hubAsleep c t then 0
  else b (s.trailRcvSt c t).los 0 + b v.lof 1 + b v.lom 2 + b v.ais.on 3 + b v.lck.on 4 + b v.oci.on 5 + b v.bdi.on 6
    + b (s.timDefect c t) 7 + b (s.plmDefect c t) 8 + b v.deg 9 + b v.auth 10

/-- The defects after suppression (R188). -/
def defSuppress (raw : Nat) : Nat :=
  if raw.testBit 0 then 1
  else if raw.testBit 1 then raw &&& 0x002
  else if raw.testBit 2 then raw &&& 0x004
  else if raw &&& 0x038 ≠ 0 then raw &&& 0x03F
  else raw

/-- The trigger of aAIS (R190). -/
def Chip.aisTrigger (s : Chip) (c : Carrier) (t : Nat) : Bool :=
  let d := s.getF (Reg.FRM.DEF_STAT.STAT c t)
  s.flag (Reg.FRM.CA_CFG.AIS_EN c t) && (d &&& 0x13F != 0 || (d.testBit 7 && s.flag (Reg.FRM.CA_CFG.TIM_ACT c t))
    || (d.testBit 10 && s.flag (Reg.FRM.CA_CFG.AUTH_AIS c t)))

/-- The trigger of aBDI (R190). -/
def Chip.bdiTrigger (s : Chip) (c : Carrier) (t : Nat) : Bool :=
  let d := s.getF (Reg.FRM.DEF_STAT.STAT c t)
  s.flag (Reg.FRM.CA_CFG.BDI_EN c t) && (d &&& 0x03F != 0 || (d.testBit 7 && s.flag (Reg.FRM.CA_CFG.TIM_ACT c t)))

/-- Whether monitoring of a second is frozen now (R204). -/
def Chip.pmFrozen (s : Chip) (c : Carrier) (t : Nat) : Bool :=
  !s.flag (Reg.PMON.PM_CFG.EN c t) || !s.trailRx c t || s.hubMarked c t

/-- A trail's defects judged anew (R187 to R191): DEF_RAW, DEF_STAT with DEF_CHANGE and DEF_HIST, the integrated failures whose window
is 0, aAIS while no frame is delivered, and the conditions of performance monitoring (R199, R204). -/
def Chip.trailSettle (s : Chip) (c : Carrier) (t : Nat) : Chip :=
  let raw := s.defRaw c t
  let stat := defSuppress raw
  let old := s.getF (Reg.FRM.DEF_STAT.STAT c t)
  let s1 := (s.setF (Reg.FRM.DEF_RAW.RAW c t) raw).setF (Reg.FRM.DEF_STAT.STAT c t) stat
  let rise := stat - (stat &&& old)
  let fall := old - (stat &&& old)
  let s2 := if stat = old then s1 else
    (s1.setF (Reg.FRM.DEF_HIST.HIST c t) (s1.getF (Reg.FRM.DEF_HIST.HIST c t) ||| rise)).raiseFrm c t Ev.FRM.DEF_CHANGE
  let f := s2.getF (Reg.FRM.FAIL.FAIL c t)
  let f1 := if s2.getF (Reg.FRM.INTEG_CFG.SET_TIME c t) = 0 then f ||| rise else f
  let f2 := if s2.getF (Reg.FRM.INTEG_CFG.CLR_TIME c t) = 0 then f1 - (f1 &&& fall) else f1
  let s3 := if f2 = f then s2 else (s2.setF (Reg.FRM.FAIL.FAIL c t) f2).raiseFrm c t Ev.FRM.FAIL_CHANGE
  let s4 := if s3.flag (Reg.FRM.ALIGN_STAT.FSN_LOCK c t) then s3
    else s3.modFrm c t fun v => { v with aAis := s3.aisTrigger c t }
  s4.pmConditions c t (stat &&& s4.getF (Reg.PMON.PM_DEF.MASK c t) &&& 0x5BF != 0) (stat.testBit 6) (s4.pmFrozen c t)

/-- A detector after a frame that speaks for it (b) or against it: it changes after n frames in a row (R187). -/
def RunDet.frame (d : RunDet) (b : Bool) (n : Nat) : RunDet :=
  if b = d.on then { d with run := 0 }
  else if n ≤ d.run + 1 then { on := b, run := 0 }
  else { d with run := d.run + 1 }

/-- A value received in a multiframe: accepted at the third in a row (R180, R183). -/
def Acc3.receive (a : Acc3) (val mf : Nat) (consecutive : Bool) : Acc3 :=
  if a.run ≠ 0 ∧ a.val = val ∧ (!consecutive ∨ mf = a.mf + 1) then { val := val, run := min 3 (a.run + 1), mf := mf }
  else { val := val, run := 1, mf := mf }

/-- Byte i of a packed register table at an address (R193). -/
def Chip.setByte (s : Chip) (base i v : Nat) : Chip :=
  s.wr (base + 4 * (i / 4)) ((s.rd (base + 4 * (i / 4))).setField (8 * (i % 4)) 8 v)

/-- Byte i of a packed register table. -/
def Chip.getByte (s : Chip) (base i : Nat) : Nat := (s.rd (base + 4 * (i / 4))).field (8 * (i % 4)) 8

/-- The TTI byte of a delivered frame (R179): a multiframe of 64 bytes in order, accepted at the third equal one in a row. -/
def Chip.rxTti (s : Chip) (c : Carrier) (t : Nat) (fsn b : Nat) : Chip :=
  let v := s.frmOf c t
  let i := fsn % 64
  if i ≠ 0 ∧ i ≠ v.ttiCur.length then s.setFrm c t { v with ttiCur := [], ttiRun := 0 }
  else
    let cur := if i = 0 then [b] else v.ttiCur ++ [b]
    if cur.length < 64 then s.setFrm c t { v with ttiCur := cur }
    else
      let run := if cur = v.ttiLast ∧ v.ttiRun ≠ 0 then min 3 (v.ttiRun + 1) else 1
      let s1 := s.setFrm c t { v with ttiCur := [], ttiLast := cur, ttiRun := run, ttiEver := v.ttiEver || run == 3 }
      if run = 3 then
        let base := Reg.FRM.TTI_ACC.addr c t 0
        let same := (List.range 64).all fun k => s1.getByte base k == cur.getD k 0
        let s2 := (List.range 64).foldl (fun u k => u.setByte base k (cur.getD k 0)) s1
        if same then s2 else s2.raiseFrm c t Ev.FRM.TTI_NEW
      else s1

/-- One PSI byte of a delivered frame (R180): the PT and the MSI of the slots in use are accepted at the third in a row. -/
def Chip.rxPsi (s : Chip) (c : Carrier) (t : Nat) (mf i b : Nat) : Chip :=
  if i = 1 ∨ 2 + 20 * s.trailN c ≤ i then s
  else
    let v := s.frmOf c t
    let a := (Tab.get {} v.psi i).receive b mf true
    let s1 := s.setFrm c t { v with psi := Tab.put {} v.psi i a, ptEver := v.ptEver || (decide (i = 0) && decide (a.run = 3)) }
    if a.run ≠ 3 then s1
    else if i = 0 then
      let old := s1.getF (Reg.FRM.PT_STAT.ACC_PT c t)
      let s2 := (s1.setF (Reg.FRM.PT_STAT.ACC_PT c t) b).setFlag (Reg.FRM.PT_STAT.PT_VALID c t) true
      if old = b then s2 else s2.raiseFrm c t Ev.FRM.PT_NEW
    else s1.setByte (Reg.FRM.ACC_MSI.addr c t 0) (i - 2) b

/-- The APS/PCC channel of a delivered frame (R183). -/
def Chip.rxAps (s : Chip) (c : Carrier) (t : Nat) (fsn w : Nat) : Chip :=
  let v := s.frmOf c t
  let k := fsn % 8
  let a := (Tab.get {} v.aps k).receive w 0 false
  let s1 := s.setFrm c t { v with aps := Tab.put {} v.aps k a }
  if a.run = 3 ∧ s1.rd (Reg.FRM.APS_RX.addr c t k) ≠ BitVec.ofNat 32 w then
    (s1.wr (Reg.FRM.APS_RX.addr c t k) (BitVec.ofNat 32 w)).raiseFrm c t Ev.FRM.APS_NEW
  else s1

/-- A frame judged (R196, R197): its block, errored where it has a mark or violations; errored frames also count for dDEG. -/
def Chip.judgeFrame (s : Chip) (c : Carrier) (t : Nat) (r : FrmRec) : Chip :=
  s.pmAdd c t r.sec 1 (if r.bad ∨ 0 < r.viol then 1 else 0)

/-- Every frame that can have no BIP-8 count any more is judged: those at or before an FSN (R197). -/
def Chip.judgeUpTo (s : Chip) (c : Carrier) (t : Nat) (fsn : Nat) : Chip :=
  let v := s.frmOf c t
  let due := v.recent.filter fun r => decide ((fsn + 2 ^ 32 - r.fsn) % 2 ^ 32 < 2 ^ 31)
  let keep := v.recent.filter fun r => !decide ((fsn + 2 ^ 32 - r.fsn) % 2 ^ 32 < 2 ^ 31)
  due.foldl (fun u r => u.judgeFrame c t r) (s.setFrm c t { v with recent := keep })

/-- Every frame that waits for its judgement is judged with what is known. -/
def Chip.judgeAll (s : Chip) (c : Carrier) (t : Nat) : Chip :=
  let v := s.frmOf c t
  v.recent.foldl (fun u r => u.judgeFrame c t r) (s.setFrm c t { v with recent := [] })

/-- BIP-8 violations between two parities. -/
def bipViolations (a b : Nat) : Nat := popc (a ^^^ b) 8

/-- The BIP-8 of frame fsn − 2, which this frame carries (R181): violations are counted, returned as BEI and attributed (R447). -/
def Chip.rxBip (s : Chip) (c : Carrier) (t : Nat) (fsn bip : Nat) : Chip :=
  let v := s.frmOf c t
  match v.recent.find? fun r => decide ((r.fsn + 2) % 2 ^ 32 = fsn) with
  | none => s
  | some r =>
    let k := bipViolations r.parity bip
    let back := s.flag (Reg.FRM.CA_CFG.BEI_EN c t) && s.trailTx c t
    let v' := { v with
      recent := v.recent.map fun x => if x = r then { x with viol := k } else x
      beiAcc := if back then v.beiAcc + k else v.beiAcc
      degErr := if k = 0 then v.degErr else Store.set (fun _ => 0) v.degErr r.sec (Store.get (fun _ => 0) v.degErr r.sec + 1) }
    let s1 := (s.setFrm c t v').addPair (Reg.FRM.BIP_ERR_LO.addr c t) k
    (if k = 0 then s1 else s1.addPair (Reg.FRM.BIP_FRM_LO.addr c t) 1).evc (c.evcSrc 33) k

/-- FSN_LOCK and DELIN cleared, as at OOF (R174, R185). -/
def Chip.dropDelivery (s : Chip) (c : Carrier) (t : Nat) : Chip :=
  let s1 := (s.setFlag (Reg.FRM.ALIGN_STAT.DELIN c t) false).setFlag (Reg.FRM.ALIGN_STAT.FSN_LOCK c t) false
  s1.modFrm c t fun v => { v with held := none, discards := 0, badHdr := 0 }

/-- The aligner's state with what follows from leaving or entering IN_FRAME (R177, R178): OOF, IF_CHANGE, the end of delivery. -/
def Chip.setAlign (s : Chip) (c : Carrier) (t : Nat) (st : Nat) : Chip :=
  let was := (s.frmOf c t).align
  let s1 := s.modFrm c t fun v =>
    { v with align := st, outFrame := v.outFrame.put (st != 1) s.wst.sec s.atEdge }
  let s2 := ((s1.setFlag (Reg.FRM.ALIGN_STAT.IN_FRAME c t) (st == 1)).setFlag (Reg.FRM.ALIGN_STAT.OOF c t) (st != 1)).setF
    (Reg.FRM.ALIGN_STAT.CANDS c t) (s1.frmOf c t).cands.length
  if was = 1 ∧ st ≠ 1 then (s2.dropDelivery c t).raiseFrm c t Ev.FRM.IF_CHANGE
  else if was ≠ 1 ∧ st = 1 then (s2.setFlag (Reg.FRM.PT_STAT.PT_VALID c t) false).raiseFrm c t Ev.FRM.IF_CHANGE
  else s2

/-- The aligner restarts in SEARCH at an entry into FRAME_ALIGN, and LOF_ACQ clears (R175, R178). -/
def Chip.alignRestart (s : Chip) (c : Carrier) (t : Nat) : Chip :=
  let s1 := s.modFrm c t fun v => { v with cands := [], badLaw := 0 }
  (s1.setAlign c t 0).setFlag (Reg.FRM.ALIGN_STAT.LOF_ACQ c t) false

end Sys2Proof.Machine
end

