-- ==== Sys2Proof/Machine/Inlet.lean ====
section
/-! DEFINITION. The transmit state machine of a leaf's inlet (R157), as far as a receiver's steps drive it: it follows the home
subcarrier. -/

namespace Sys2Proof.Machine

/-- A carrier's subcarrier block replaced. -/
def Chip.setSubc (s : Chip) (c : Carrier) (v : SubcSt) : Chip := { s with subc := s.subc.put c v }

/-- The inlet of a leaf goes to a state; what waited for the end of a burst is dropped with it (R157). -/
def Chip.setInlet (s : Chip) (c : Carrier) (st : Nat) : Chip :=
  (s.setF (Reg.SUBC.INLET_TX_STAT.STATE c) st).setSubc c { s.subc.get c with ackPend := false, homePend := false }

/-- Whether the inlet of a leaf may run: EN = 1 and ROLE_ACTIVE is leaf (R157). -/
def Chip.inletLeaf (s : Chip) (c : Carrier) : Bool :=
  s.flag (Reg.SUBC.INLET_CFG.EN c) && decide (s.getF (Reg.SUBC.SC_STAT.ROLE_ACTIVE c) = 2)

/-- A delay of 1 to n slots drawn from the random source (R157): a free value in that range. -/
def Chip.drawDelay (s : Chip) (c : Carrier) (n : Nat) : Chip :=
  s.free.2.setSubc c { s.free.2.subc.get c with delay := 1 + s.free.1 % n }

/-- Whether the home subcarrier's receiver is ACQUIRED. -/
def Chip.homeAcquired (s : Chip) (c : Carrier) : Bool :=
  (Tab.get {} s.rcv (17 * c.ix + 1 + (s.subc.get c).home)).state == 8

/-- The rows of R157 that follow the role, the enable and the home subcarrier. -/
def Chip.inletSettle (s : Chip) (c : Carrier) : Chip :=
  let st := s.getF (Reg.SUBC.INLET_TX_STAT.STATE c)
  if st = 0 then s
  else if !s.inletLeaf c then s.setInlet c 0
  else if s.homeAcquired c then (if st = 1 then (s.setInlet c 2).drawDelay c 64 else s)
  else if st = 2 ∨ st = 4 then s.setInlet c 1
  else if st = 3 then s.setSubc c { s.subc.get c with homePend := true }
  else s

end Sys2Proof.Machine
end

