-- ==== Sys2Proof/Machine/XcOps.lean ====
section
/-! DEFINITION. Ports and connections as several steps share them: widths and slots, the checks of a commit, the demapper, the causes of
a port's actions, and what a step-down leaves (R242 to R257). -/

namespace Sys2Proof.Machine

/-- The width w of a port by its rate and its lanes' rate (R242); lane rate 3 behaves as 0 (R217). -/
def portWidth (rate lane : Nat) : Option Nat :=
  match rate, (if lane = 3 then 0 else lane) with
  | 0, 1 => some 1 | 0, 2 => some 2
  | 1, 0 => some 1 | 1, 1 => some 2 | 1, 2 => some 4
  | 2, 0 => some 2 | 2, 1 => some 4 | 2, 2 => some 8
  | 3, 0 => some 4 | 3, 1 => some 8
  | 4, 0 => some 8
  | _, _ => none

/-- The nominal rate R of a port rate in units of 10 kb/s (R246). -/
def portRate (rate : Nat) : Nat :=
  match rate with
  | 0 => 10312500 | 1 => 20078125 | 2 => 40156250 | 3 => 80312500 | _ => 160625000

/-- The slots a connection needs (R247): the smallest s with R × 1.0002 + 0.127296 n ≤ s × 5.23188, in units of 10^-9 Gb/s. -/
def slotsNeeded (rate n : Nat) : Nat := ceilDiv (portRate rate * 10002 + n * 127296000) 5231880000

/-- A connection's entry as its RWS registers spell it (R259). -/
structure XcEntry where
  en : Bool
  port : Nat
  carrier : Carrier
  trail : Nat
  mask : Nat
deriving DecidableEq, Repr

/-- The mask of slots of a connection, read through a function from address to word. -/
def xcMask (rd : Nat → Word) (k : Nat) : Nat :=
  (List.range 10).foldl (fun m i => m + (rd (Reg.XC.XC_MASK.addr k i)).toNat * 2 ^ (32 * i)) 0

/-- A connection's entry, read through a function from address to word. -/
def xcEntry (rd : Nat → Word) (k : Nat) : XcEntry :=
  let w := rd (Reg.XC.XC_CFG.addr k)
  { en := w.bit 31, port := w.field 16 4, carrier := Carrier.ofBit (w.field 12 1), trail := w.field 8 4, mask := xcMask rd k }

/-- A port's EN and RATE, read through a function from address to word. -/
def portCfg (rd : Nat → Word) (p : Nat) : Bool × Nat :=
  let w := rd (Reg.PORT.PORT_CFG.addr p)
  (w.bit 0, w.field 4 3)

/-- The RATE of a lane. -/
def Chip.laneRate (s : Chip) (l : Nat) : Nat := s.getF (Reg.LANE.LANE_CFG.RATE l)

/-- The width of an enabled port, by its own lane's rate. -/
def Chip.widthOf (s : Chip) (rd : Nat → Word) (p : Nat) : Option Nat := portWidth (portCfg rd p).2 (s.laneRate p)

/-- The lanes of an enabled port. -/
def Chip.portLanes (s : Chip) (rd : Nat → Word) (p : Nat) : List Nat :=
  (List.range ((s.widthOf rd p).getD 0)).map fun i => p + i

/-- The rules of R251 for an entry, given the line settings that will be in effect and the mode. -/
def XcEntry.trailOk (e : XcEntry) (l : LineSet) (mode : Nat) : Bool :=
  (if l.cfg.subcEn then l.rxMask.testBit e.trail && l.txMask.testBit e.trail else e.trail == 0) &&
    (mode != 2 || e.carrier == .A)

/-- The OTUC slices of the trail of an entry under line settings. -/
def LineSet.trailN (l : LineSet) : Nat := if l.cfg.subcEn then 1 else l.cfg.otucn

/-- Cause 6 of R253: a slot at or above 20 n, or fewer slots than s. -/
def XcEntry.slotsBad (e : XcEntry) (n rate : Nat) : Bool :=
  decide (2 ^ (20 * n) ≤ e.mask) || decide (popc e.mask 320 < slotsNeeded rate n)

/-- Cause 8 of R253: a slot of the entry whose TX_MSI is not 0x80 | k. -/
def msiBad (rd : Nat → Word) (k : Nat) (e : XcEntry) : Bool :=
  (List.range 320).any fun i =>
    e.mask.testBit i && (rd (Reg.FRM.TX_MSI.addr e.carrier e.trail (i / 4))).field (8 * (i % 4)) 8 != 0x80 + k

/-- The first failing cause of R253 in table order, of those that a test picks, with the port or entry concerned; `rd` reads the values that
will be in effect after the commit event, `mode` the resulting mode. -/
def Chip.xcCheck (s : Chip) (rd : Nat → Word) (mode : Nat) (only : Nat → Bool) : Option (Nat × Nat) :=
  let ports := (List.range 16).filter fun p => (portCfg rd p).1
  let entries := (List.range 32).filter fun k => (xcEntry rd k).en
  let line := fun (k : Nat) => LineSet.ofWords rd (xcEntry rd k).carrier
  let lanes := s.portLanes rd
  let fail := fun (code : Nat) (l : List Nat) (p : Nat → Bool) => (l.find? p).map fun i => (code, i)
  let c1 := fail 1 ports fun p => (s.widthOf rd p).isNone
  let c2 := fail 2 ports fun p =>
    let w := (s.widthOf rd p).getD 1
    decide (p % w ≠ 0) || decide (16 < p + w) || (lanes p).any fun l => s.laneRate l != s.laneRate p
  let c3 := fail 3 ports fun p => ports.any fun q => q != p && (lanes p).any fun l => (lanes q).contains l
  let c4 := fail 4 entries fun k => !ports.contains (xcEntry rd k).port ||
    entries.any fun j => j != k && (xcEntry rd j).port == (xcEntry rd k).port
  let c5 := fail 5 entries fun k => !(xcEntry rd k).trailOk (line k) mode
  let c6 := fail 6 entries fun k => (xcEntry rd k).slotsBad (line k).trailN (portCfg rd (xcEntry rd k).port).2
  let c7 := fail 7 entries fun k => entries.any fun j =>
    let a := xcEntry rd j
    let b := xcEntry rd k
    j != k && a.carrier == b.carrier && a.trail == b.trail && (a.mask &&& b.mask) != 0
  let c8 := fail 8 entries fun k => msiBad rd k (xcEntry rd k)
  ([c1, c2, c3, c4, c5, c6, c7, c8].filterMap id).find? fun p => only p.1

/-- A connection's demapper. -/
def Chip.demOf (s : Chip) (k : Nat) : DemSt := Tab.get {} s.dem k

/-- A connection's demapper replaced. -/
def Chip.setDem (s : Chip) (k : Nat) (v : DemSt) : Chip := { s with dem := Tab.put {} s.dem k v }

/-- NO_SYNC of a connection takes a value; SYNC_CHANGE occurs on a change (R249). -/
def Chip.setNoSync (s : Chip) (k : Nat) (b : Bool) : Chip :=
  if s.flag (Reg.XC.XC_TRIB_STAT.NO_SYNC k) = b then s
  else (s.setFlag (Reg.XC.XC_TRIB_STAT.NO_SYNC k) b).raise Ev.XC.SYNC_CHANGE

/-- Whether the control word's CRC-16 over bytes 0 to 3 is good (R248). -/
def ctlGood (w : List Nat) : Bool :=
  decide (w.length = 6) &&
    decide (crcMsb 16 0x1021 0xFFFF ((w.take 4).flatMap bitsMsb) = w.getD 4 0 * 256 + w.getD 5 0)

/-- The committed receive settings of a connection take effect with a frame (R252): the slots, and EN. -/
def Chip.xcTakeEffect (s : Chip) (k : Nat) : Chip :=
  let e := xcEntry s.act k
  ((s.setDem k { s.demOf k with pend := none }).setFlag (Reg.XC.XC_TRIB_STAT.EN_ACTIVE k) e.en).setF
    (Reg.XC.XC_TRIB_STAT.SLOTS k) (if e.en then popc e.mask 320 else 0)

/-- A demapper after a frame's control word, with whether it is in sync after it, none where that stays (R249): in sync at the second
good word in a row, out of sync at the fifth bad one. -/
def DemSt.word (v : DemSt) (w : List Nat) : DemSt × Option Bool :=
  if ctlGood w then
    ({ v with good := min 2 (v.good + 1), bad := 0, cm := w.getD 0 0 * 256 + w.getD 1 0, bofs := w.getD 2 0 * 256 + w.getD 3 0 },
      if 2 ≤ v.good + 1 then some true else none)
  else ({ v with good := 0, bad := min 5 (v.bad + 1) }, if 5 ≤ v.bad + 1 then some false else none)

/-- A connection's control word in a delivered frame (R249): a bad one in sync counts in GMP_CRC_ERR. -/
def Chip.demapWord (s : Chip) (k : Nat) (w : List Nat) : Chip :=
  let sync := !s.flag (Reg.XC.XC_TRIB_STAT.NO_SYNC k)
  let r := (s.demOf k).word w
  let s1 := s.setDem k r.1
  let s2 := if sync && !ctlGood w then s1.bump (Reg.XC.GMP_CRC_ERR.COUNT k) else s1
  match r.2 with
  | none => s2
  | some b => s2.setNoSync k (!b)

/-- A frame delivered to the connections of a trail (R249, R252): settings whose instant the frame's stamp has reached take effect, then
every enabled connection reads its control word. `a` is the carrier that the entries name. -/
def Chip.demapFrame (s : Chip) (a : Carrier) (t : Nat) (f : RxFrame) : Chip :=
  (List.range 32).foldl (fun u k =>
    let e := xcEntry u.act k
    if e.carrier ≠ a ∨ e.trail ≠ t then u
    else
      let due := (u.demOf k).pend.any fun i => decide (i.1 < f.sec ∨ (i.1 = f.sec ∧ i.2 ≤ f.t16))
      let u1 := if due then u.xcTakeEffect k else u
      if !u1.flag (Reg.XC.XC_TRIB_STAT.EN_ACTIVE k) then u1
      else match f.ctl.find? fun p => p.1 == k with
        | some p => u1.demapWord k p.2
        | none => u1) s

/-- The connections that a commit of group 4, or of a port, changed wait for the next frame stamped at or after the commit; an entry
that is added or changed starts out of sync (R252). `old` reads the active words before the commit. -/
def Chip.xcCommitted (s : Chip) (old : Nat → Word) : Chip :=
  (List.range 32).foldl (fun u k =>
    let e := xcEntry u.act k
    if xcEntry old k = e ∧ (u.demOf k).stepDown = false then u
    else
      let v : DemSt := { pend := some (u.wst.sec, u.wst.t16) }
      (u.setDem k v).setNoSync k true) s

/-- The entries that fail cause 6 after a step-down of a carrier are disabled in effect (R254); the shadow values stand. -/
def Chip.xcStepDown (s : Chip) (c : Carrier) : Chip :=
  let n := (s.lineApplied c).trailN
  let mode := s.getF Reg.TOP.CARRIER_STAT.MODE_ACTIVE
  let hit := (List.range 32).filter fun k =>
    let e := xcEntry s.act k
    e.en && (e.carrier == c || mode == 2) && e.slotsBad n (portCfg s.act e.port).2
  let off := fun (u : Chip) (k : Nat) =>
    let a := Reg.XC.XC_CFG.addr k
    let u1 : Chip := { u with actRegs := Store.set RegMap.reset u.actRegs a ((u.act a) &&& 0x7FFFFFFF#32) }
    ((u1.setDem k { u1.demOf k with stepDown := true, pend := none }).setFlag (Reg.XC.XC_TRIB_STAT.EN_ACTIVE k) false).setF
      (Reg.XC.XC_TRIB_STAT.SLOTS k) 0
  if hit = [] then s else (hit.foldl off s).raise Ev.XC.XC_STEP_DOWN

/-- An event of a port, with its PORT_EVT bit (R261). -/
def Chip.raisePort (s : Chip) (p : Nat) (e : Nat → Ev) : Chip := (s.raise (e p)).setBit Reg.CLI.PORT_EVT.PORT p

/-- Whether a port's ingress is to be replaced (R256). -/
def Chip.ingressCause (s : Chip) (p : Nat) : Bool :=
  let lanes := s.portLanes s.act p
  s.flag (Reg.PORT.PORT_ACT.ING_EN p) &&
    (lanes.any (fun l => s.getF (Reg.LANE.LANE_STAT.STATE l) != 5 || s.flag (Reg.LANE.LANE_STAT.RX_ASLEEP l)) ||
      !s.flag (Reg.PORT.PORT_STAT.ALIGN p) || s.flag (Reg.PORT.PORT_STAT.HI_BER p) || s.flag (Reg.PORT.PORT_ACT.FORCE_ING p))

/-- A committed port configuration takes effect (R242, R258). -/
def Chip.portCommitted (s : Chip) : Chip :=
  (List.range 16).foldl (fun u p =>
    let k := portCfg u.act p
    ((u.setFlag (Reg.PORT.PORT_STAT.EN_ACTIVE p) k.1).setF (Reg.PORT.PORT_STAT.RATE_ACTIVE p) k.2).setF
      (Reg.PORT.PORT_STAT.WIDTH p) (if k.1 then (u.widthOf u.act p).getD 0 else 0)) s

end Sys2Proof.Machine
end

