-- ==== Sys2Proof/Machine/ProtOps.lean ====
section
/-! DEFINITION. Protection groups as several steps share them: their configuration and its checks, signal fail and degrade of the members,
hold-off, requests and selection, the lost-range queue (R310 to R317, R324, R334). -/

namespace Sys2Proof.Machine

/-- A protection group's configuration (R310, R311, R338). -/
structure PgCfg where
  en : Bool
  kind : Nat
  bidir : Bool
  revertive : Bool
  work : Carrier
  base : Nat
  carrier : Carrier
  trail : Nat
  mask : Nat
  desk : Nat
deriving DecidableEq, Repr

/-- A group's configuration as its RWS registers spell it, read through a function from address to word; KIND 5 to 7 behave as 0. -/
def pgCfg (rd : Nat → Word) (g : Nat) : PgCfg :=
  let w := rd (Reg.PROT.PG_CFG.addr g)
  let m := rd (Reg.PROT.MEM_CFG.addr g)
  { en := w.bit 31, kind := if 5 ≤ w.field 28 3 then 0 else w.field 28 3, bidir := w.bit 24, revertive := w.bit 20
    work := Carrier.ofBit (w.field 16 1), base := w.field 8 5, carrier := Carrier.ofBit (m.field 12 1), trail := m.field 8 4
    mask := (List.range 10).foldl (fun k i => k + (rd (Reg.PROT.MEM_MASK.addr g i)).toNat * 2 ^ (32 * i)) 0
    desk := (rd (Reg.PROT.DESK_CFG.addr g)).field 0 9 }

/-- Whether the group switches a line (kinds 1 and 2) or a tributary (kinds 3 and 4). -/
def PgCfg.isLine (k : PgCfg) : Bool := k.kind == 1 || k.kind == 2
/-- Whether the group protects a tributary. -/
def PgCfg.isTrib (k : PgCfg) : Bool := k.kind == 3 || k.kind == 4

/-- The carrier and trail of a member, true = protection (R310, R311). -/
def PgCfg.member (k : PgCfg) (base : XcEntry) (p : Bool) : Carrier × Nat :=
  if k.isLine then (if p then k.work.other else k.work, 0)
  else if p then (k.carrier, k.trail) else (base.carrier, base.trail)

/-- R311: the member tributary of a kind 3 or kind 4 group, by the carrier mode and the line settings. -/
def PgCfg.memberOk (k : PgCfg) (base : XcEntry) (mode : Nat) (line : Carrier → LineSet) : Bool :=
  let other := !(k.carrier == base.carrier && k.trail == base.trail)
  let l := line k.carrier
  let valid := if l.cfg.subcEn then l.rxMask.testBit k.trail && l.txMask.testBit k.trail else k.trail == 0
  match mode, k.kind with
  | 0, 4 => other && k.carrier == base.carrier && l.cfg.subcEn && valid
  | 2, 4 => k.carrier == .B && k.trail == 0
  | 2, _ => false
  | _, _ => other && valid

/-- Whether a member slot overlaps an enabled entry or another member on its trail, other than the mirror (cause 4 of R312). -/
def pgOverlap (rd : Nat → Word) (mode g : Nat) : Bool :=
  let k := pgCfg rd g
  let entry := fun (j : Nat) =>
    let e := xcEntry rd j
    e.en && e.carrier == k.carrier && e.trail == k.trail && (e.mask &&& k.mask) != 0
  let member := fun (h : Nat) =>
    let m := pgCfg rd h
    h != g && m.en && m.isTrib && m.carrier == k.carrier && m.trail == k.trail && (m.mask &&& k.mask) != 0
  mode != 2 && ((List.range 32).any entry || (List.range 16).any member)

/-- Whether a member slot carries another TX_MSI than 0x80 | c (cause 4 of R312). -/
def pgMsiBad (rd : Nat → Word) (g : Nat) : Bool :=
  let k := pgCfg rd g
  (List.range 320).any fun i =>
    k.mask.testBit i && (rd (Reg.FRM.TX_MSI.addr k.carrier k.trail (i / 4))).field (8 * (i % 4)) 8 != 0x80 + k.base

/-- The slots of the enabled kind 4 groups (cause 5 of R312, HL_SLOTS). -/
def hlSlots (rd : Nat → Word) : Nat :=
  (List.range 16).foldl (fun n g =>
    let k := pgCfg rd g
    if k.en && k.kind == 4 then n + popc (xcEntry rd k.base).mask 320 else n) 0

/-- The deskew memory in use in KiB, rounded up: the sum of M_g = S_g × 5.23188 × (DESK_g + 20) × 125 bytes (R321). -/
def deskewKib (rd : Nat → Word) : Nat :=
  let bytes100000 := (List.range 16).foldl (fun n g =>
    let k := pgCfg rd g
    if k.en && k.kind == 4 then n + popc (xcEntry rd k.base).mask 320 * 523188 * (k.desk + 20) * 125 else n) 0
  cdiv bytes100000 (100000 * 1024)

/-- The first failing cause of R312 in table order with the lowest group concerned; `rd` reads the values in effect after the commit
event, `mode` the resulting mode. -/
def protCheck (rd : Nat → Word) (mode : Nat) : Option (Nat × Nat) :=
  let on := (List.range 16).filter fun g => (pgCfg rd g).en && (pgCfg rd g).kind != 0
  let k := pgCfg rd
  let base := fun (g : Nat) => xcEntry rd (k g).base
  let line := fun (c : Carrier) => LineSet.ofWords rd c
  let trib := on.filter fun g => (k g).isTrib
  let fail := fun (code : Nat) (l : List Nat) (p : Nat → Bool) => (l.find? p).map fun g => (code, g)
  let differ := (line .A).cfg.otucn != (line .B).cfg.otucn
  let c1 := fail 1 (List.range 16) fun g =>
    (on.contains g && (k g).isLine && (g != 0 || ((k g).kind == 1 && mode != 2) || ((k g).kind == 2 && (mode != 1 || differ)))) ||
      (g == 0 && mode == 2 && !(on.contains 0 && (k 0).kind == 1))
  let c2 := fail 2 trib fun g => !(base g).en || trib.any fun h => h != g && (k h).base == (k g).base
  let c3 := fail 3 trib fun g => !(k g).memberOk (base g) mode line
  let c4 := fail 4 trib fun g => (k g).mask != (base g).mask || pgOverlap rd mode g || pgMsiBad rd g
  let c5 := fail 5 (trib.filter fun g => (k g).kind == 4) fun g =>
    decide (78 < hlSlots rd) || decide ((k g).desk < 4) || decide (404 < (k g).desk)
  ([c1, c2, c3, c4, c5].find? Option.isSome).join

/-- A protection group's state. -/
def Chip.pgOf (s : Chip) (g : Nat) : PgSt := Tab.get {} s.pg g

/-- A protection group's state replaced. -/
def Chip.setPg (s : Chip) (g : Nat) (v : PgSt) : Chip := { s with pg := Tab.put {} s.pg g v }

/-- A change of a protection group's state. -/
def Chip.modPg (s : Chip) (g : Nat) (f : PgSt → PgSt) : Chip := s.setPg g (f (s.pgOf g))

/-- The configuration of a group in effect. -/
def Chip.pgCfgOf (s : Chip) (g : Nat) : PgCfg := pgCfg s.act g

/-- Whether a group is enabled in effect with a kind that selects. -/
def Chip.pgOn (s : Chip) (g : Nat) : Bool := s.flag (Reg.PROT.PG_STAT.EN_ACTIVE g) && (s.pgCfgOf g).kind != 0

/-- The groups that select. -/
def Chip.pgsOn (s : Chip) : List Nat := (List.range 16).filter s.pgOn

/-- An event of a group, with its PROT_EVT_PG bit (R337). -/
def Chip.raisePg (s : Chip) (g : Nat) (e : Ev) : Chip := (s.raise e).setBit Reg.PROT.PROT_EVT_PG.PG g

/-- Signal fail of a trail at the selector (the rows of R313 that concern a trail): loss of signal (also for want of the converter
clock, R72), ENG_SF or FEC_SF, acquisition (R114), framing, UB, FSN_LOCK, aAIS and the subcarrier's signal fail; none while R152
suppresses the subcarrier's defects. -/
def Chip.trailSf (s : Chip) (c : Carrier) (t : Nat) : Bool :=
  let v := s.trailRcvSt c t
  let w := s.frmOf c t
  !s.hubAsleep c t && (v.los || (s.grpOf c 0).sf || (s.grpOf c 1).sf || v.state != 8 || w.align != 1 || v.ub
    || !s.flag (Reg.FRM.ALIGN_STAT.FSN_LOCK c t) || w.aAis || ((s.lineApplied c).cfg.subcEn && s.bitOf (Reg.SUBC.SC_SF.SF c) t))

/-- Signal fail of a member, true = protection (R313, R324). -/
def Chip.memberSf (s : Chip) (g : Nat) (p : Bool) : Bool :=
  let k := s.pgCfgOf g
  let v := s.pgOf g
  let m := k.member (xcEntry s.act k.base) p
  s.trailSf m.1 m.2 || (k.isTrib &&
    ((if p then v.memNoSync || v.memMsim || v.mismatchHeld
      else s.flag (Reg.XC.XC_TRIB_STAT.NO_SYNC k.base) || s.flag (Reg.XC.XC_TRIB_STAT.MSIM k.base)) || v.deskHeld == some p))

/-- Signal degrade of a member (R314): dDEG of its trail, or the fast criterion while SD_EN is 1; not while it is in signal fail. -/
def Chip.memberSd (s : Chip) (g : Nat) (p : Bool) : Bool :=
  let k := s.pgCfgOf g
  let v := s.pgOf g
  let m := k.member (xcEntry s.act k.base) p
  !s.memberSf g p && (s.bitOf (Reg.FRM.DEF_STAT.STAT m.1 m.2) 9 ||
    (s.flag (Reg.PROT.SD_CFG.SD_EN g) && if p then v.fastP else v.fastW))

/-- The conditions of a group before the hold-off, bits 3 to 0 = SF_W, SF_P, SD_W, SD_P (R313, R314). -/
def Chip.pgRaw (s : Chip) (g : Nat) : Nat :=
  (s.memberSf g false).toNat * 8 + (s.memberSf g true).toNat * 4 + (s.memberSd g false).toNat * 2 + (s.memberSd g true).toNat

/-- SF_W, SF_P, SD_W, SD_P after the hold-off, bits 15 to 12 of PG_STAT (R338). -/
def Reg.PROT.PG_STAT.COND (g : Nat) : Fld := ⟨Reg.PROT.PG_STAT.addr g, 12, 4⟩

/-- The conditions after hold-off take a value: SF_CHANGE, SD_CHANGE, and BOTH_FAIL where both members have come to fail (R335, R339). -/
def Chip.setCond (s : Chip) (g new : Nat) : Chip :=
  let old := s.getF (Reg.PROT.PG_STAT.COND g)
  if new = old then s
  else
    let d := old ^^^ new
    let s1 := s.setF (Reg.PROT.PG_STAT.COND g) new
    let s2 := if d &&& 12 != 0 then s1.raisePg g Ev.PROT.SF_CHANGE else s1
    let s3 := if d &&& 3 != 0 then s2.raisePg g Ev.PROT.SD_CHANGE else s2
    if new &&& 12 = 12 ∧ old &&& 12 ≠ 12 then (s3.modPg g fun v => { v with bothFail := true }).raisePg g Ev.PROT.BOTH_FAIL else s3

/-- The conditions of a group judged anew (R317): one that sets starts its hold-off timer, or is taken at once with HOLD_OFF = 0 and no
timer running; one that clears ends at once; a timer that runs goes on. -/
def Chip.pgConditions (s : Chip) (g : Nat) : Chip :=
  let v := s.pgOf g
  let raw := s.pgRaw g
  let rise := raw - (raw &&& v.raw)
  let start := rise - (rise &&& v.hold)
  let now := if s.getF (Reg.PROT.TIMER_CFG.HOLD_OFF g) = 0 then start else 0
  let taken := s.getF (Reg.PROT.PG_STAT.COND g)
  (s.setPg g { v with raw := raw, hold := v.hold ||| (start - now) }).setCond g ((taken &&& raw) ||| now)

/-- The highest local request above WTR, with the member it selects (R315). -/
def Chip.pgBase (s : Chip) (g : Nat) : Option (Nat × Bool) :=
  let v := s.pgOf g
  let c := s.getF (Reg.PROT.PG_STAT.COND g)
  if v.lo then some (0xF, false)
  else if c.testBit 2 then some (0xE, false)
  else if v.fs then some (0xD, true)
  else if c.testBit 3 then some (0xB, true)
  else if c &&& 3 ≠ 0 then some (0x9, if c &&& 3 = 3 then v.decided else c.testBit 1)
  else if v.ms ∨ v.msW then some (0x7, v.ms)
  else none

/-- The far end's request and the member it selects, where the group takes part in it (R315, R326, R327). -/
def Chip.pgFar (s : Chip) (g : Nat) : Nat × Bool :=
  let k := s.pgCfgOf g
  if (k.bidir || k.kind == 2) && !s.flag (Reg.PROT.PG_STAT.APS_LOSS g) then
    (s.getF (Reg.PROT.PG_STAT.FAR_REQ g), (s.pgOf g).farRsig)
  else (0, false)

/-- A local request with the far one (R315): the higher decides; of two equal ones the one that selects protection. -/
def pgResolve (loc far : Nat × Bool) : Bool :=
  if far.1 < loc.1 then loc.2 else if loc.1 < far.1 then far.2 else loc.2 || far.2

/-- The requests of a group judged anew (R315 to R317): WTR or DNR follows where a condition that had selected protection has cleared, a
higher request ends them and removes the manual switches; the selection follows unless it is frozen (R332). -/
def Chip.pgRequests (s : Chip) (g : Nat) : Chip :=
  let v := s.pgOf g
  let was := s.getF (Reg.PROT.PG_STAT.REQ g)
  let r := s.pgBase g
  let v1 : PgSt := match r with
    | some q => { v with wtr := false, dnr := false, ms := v.ms && q.1 == 7, msW := v.msW && q.1 == 7 }
    | none =>
      if v.decided && (was == 0xB || was == 9) then
        if (s.pgCfgOf g).revertive then { v with wtr := s.getF (Reg.PROT.TIMER_CFG.WTR g) != 0, wtrAt := s.now }
        else { v with dnr := true }
      else v
  let q := r.getD (if v1.wtr then (5, true) else if v1.dnr then (1, true) else (0, false))
  let sel := pgResolve q (s.pgFar g)
  let v2 : PgSt := if s.flag Reg.PROT.PROT_STAT.FROZEN then v1 else { v1 with decided := sel }
  (s.setPg g v2).setF (Reg.PROT.PG_STAT.REQ g) q.1

/-- The alarms of R327 that clear once both ends agree. -/
def Chip.fopClear (s : Chip) (g : Nat) : Chip :=
  let k := s.pgCfgOf g
  let v := s.pgOf g
  let pm := v.farB == (k.kind == 2) && v.farD == k.bidir
  let nr := v.farBsig == v.decided
  let s1 := if s.flag (Reg.PROT.PG_STAT.FOP_PM g) && pm then
      (s.setFlag (Reg.PROT.PG_STAT.FOP_PM g) false).raisePg g Ev.PROT.APS_ALARM else s
  if s1.flag (Reg.PROT.PG_STAT.FOP_NR g) && nr then
    (s1.setFlag (Reg.PROT.PG_STAT.FOP_NR g) false).raisePg g Ev.PROT.APS_ALARM else s1

/-- ALIGNED of a hitless group sets once both members are in demapper sync and |Δ| ≤ DESK − 4 µs; the lead is the member whose frames
arrive earlier (R322). -/
def Chip.pgAlign (s : Chip) (g : Nat) : Chip :=
  let k := s.pgCfgOf g
  let v := s.pgOf g
  let d := s.getS (Reg.PROT.DIFF_DLY.NS g)
  if k.kind = 4 ∧ s.flag (Reg.PROT.PG_STAT.ALIGNED g) = false ∧ v.measured = true ∧ v.deskHeld = none ∧ v.memNoSync = false
      ∧ s.flag (Reg.XC.XC_TRIB_STAT.NO_SYNC k.base) = false ∧ d.natAbs + 4000 ≤ k.desk * 1000 then
    (s.setFlag (Reg.PROT.PG_STAT.ALIGNED g) true).setPg g { v with leadP := decide (d < 0) }
  else s

/-- A group judged anew. -/
def Chip.pgSettle (s : Chip) (g : Nat) : Chip := (((s.pgAlign g).pgConditions g).pgRequests g).fopClear g

/-- Whether a group has decided a switch that has not executed: a kind 2 group goes to protection only once the far end has bridged
(R329). -/
def Chip.switchDue (s : Chip) (g : Nat) : Bool :=
  let v := s.pgOf g
  s.pgOn g && !s.flag Reg.PROT.PROT_STAT.FROZEN && v.decided != s.flag (Reg.PROT.PG_STAT.ACTIVE g) &&
    ((s.pgCfgOf g).kind != 2 || !v.decided || v.farBsig)

/-- A group starts afresh, or stops: both members unproven, no command, no timer (R312, R335). The counters run on. -/
def Chip.pgRestart (s : Chip) (g : Nat) (en : Bool) : Chip :=
  (s.setPg g {}).wr (Reg.PROT.PG_STAT.addr g) (if en then 1 else 0)

/-- A committed group 8 takes effect (R312, R321): the groups that are added or changed in a member start afresh; HL_SLOTS and
DESKEW_USE follow. `old` reads the active words before. -/
def Chip.pgCommitted (s : Chip) (old : Nat → Word) : Chip :=
  let one := fun (u : Chip) (g : Nat) =>
    let a := pgCfg old g
    let b := u.pgCfgOf g
    let same := a.en == b.en && a.kind == b.kind && a.work == b.work && a.base == b.base && a.carrier == b.carrier
      && a.trail == b.trail && a.mask == b.mask
    if same then u else u.pgRestart g b.en
  let s1 := (List.range 16).foldl one s
  (s1.setF Reg.PROT.PROT_STAT.HL_SLOTS (hlSlots s1.act)).setF Reg.PROT.DESKEW_USE.KIB (deskewKib s1.act)

/-- The line group, where group 0 is one in effect. -/
def Chip.lineGroup (s : Chip) : Option PgCfg := if s.pgOn 0 && (s.pgCfgOf 0).isLine then some (s.pgCfgOf 0) else none

/-- The group that a connection is the base entry of. -/
def Chip.tribGroup (s : Chip) (k : Nat) : Option Nat :=
  s.pgsOn.find? fun g => (s.pgCfgOf g).isTrib && (s.pgCfgOf g).base == k

/-- Whether the selector signals failure for a group's tributaries (R255, R335): both members are in signal fail, or the selected one is
and no switch is due. -/
def Chip.pgFails (s : Chip) (g : Nat) : Bool :=
  let c := s.getF (Reg.PROT.PG_STAT.COND g)
  let a := s.flag (Reg.PROT.PG_STAT.ACTIVE g)
  (c.testBit 3 && c.testBit 2) || ((if a then c.testBit 2 else c.testBit 3) && (s.pgOf g).decided == a)

/-- TRIB_FAIL of a connection (R255, R329): what the group that protects it signals; extra traffic fails while the bridge preempts it;
without protection aAIS of its trail. -/
def Chip.tribFail (s : Chip) (k : Nat) : Bool :=
  let e := xcEntry s.act k
  match s.tribGroup k with
  | some g => s.pgFails g
  | none => match s.lineGroup with
    | some l =>
      if l.kind = 1 ∨ e.carrier = l.work then s.pgFails 0 else (s.pgOf 0).bridge || (s.frmOf e.carrier e.trail).aAis
    | none => (s.frmOf e.carrier e.trail).aAis

/-- Whether the demapper that feeds a connection is out of sync, and its MSIM (R249, R250, R311): the selected member's. -/
def Chip.connSync (s : Chip) (k : Nat) : Bool × Bool :=
  match s.tribGroup k with
  | some g =>
    if s.flag (Reg.PROT.PG_STAT.ACTIVE g) then ((s.pgOf g).memNoSync, (s.pgOf g).memMsim)
    else (s.flag (Reg.XC.XC_TRIB_STAT.NO_SYNC k), s.flag (Reg.XC.XC_TRIB_STAT.MSIM k))
  | none => (s.flag (Reg.XC.XC_TRIB_STAT.NO_SYNC k), s.flag (Reg.XC.XC_TRIB_STAT.MSIM k))

/-- The causes of a port's egress action (R255). -/
def Chip.egressCauses (s : Chip) (p : Nat) : Nat :=
  let b := fun (x : Bool) (k : Nat) => x.toNat * 2 ^ k
  let conns := (List.range 32).filter fun k => (xcEntry s.act k).port == p && (xcEntry s.act k).en
  let downs := (List.range 32).any fun k => (xcEntry s.act k).port == p && (s.demOf k).stepDown
  if !s.flag (Reg.PORT.PORT_STAT.EN_ACTIVE p) then b (s.flag (Reg.PORT.PORT_ACT.FORCE_EGR p)) 5
  else b (conns.any s.tribFail) 0 + b (conns.any fun k => (s.connSync k).2) 1 + b (conns.any fun k => (s.connSync k).1) 2
    + b conns.isEmpty 3 + b downs 4 + b (s.flag (Reg.PORT.PORT_ACT.FORCE_EGR p)) 5

/-- The head registers of the lost-range queue follow its head; what they read while the queue is empty is left open (R337). -/
def Chip.lostShow (s : Chip) : Chip :=
  let s0 := s.setF Reg.PROT.LR_STAT.COUNT s.lost.length
  match s.lost with
  | r :: _ =>
    let s1 := (s0.setF Reg.PROT.LR_HEAD_INFO.PG r.pg).setF Reg.PROT.LR_HEAD_INFO.CAUSE r.cause
    let s2 := (s1.setF Reg.PROT.LR_HEAD_FIRST.FSN r.first).setF Reg.PROT.LR_HEAD_LAST.FSN r.last
    (s2.setF Reg.PROT.LR_HEAD_SEC_LO.TS r.sec).setF Reg.PROT.LR_HEAD_NS.TS r.ns
  | [] =>
    [Reg.PROT.LR_HEAD_INFO.PG, Reg.PROT.LR_HEAD_INFO.CAUSE, Reg.PROT.LR_HEAD_FIRST.FSN, Reg.PROT.LR_HEAD_LAST.FSN,
      Reg.PROT.LR_HEAD_SEC_LO.TS, Reg.PROT.LR_HEAD_NS.TS].foldl (fun u f => u.free.2.setF f u.free.1) s0

/-- The connections of a group: its base entry, or the entries of the protected carrier. -/
def Chip.pgConns (s : Chip) (g : Nat) : List Nat :=
  let k := s.pgCfgOf g
  if k.isTrib then [k.base] else (List.range 32).filter fun j => k.kind == 1 || (xcEntry s.act j).carrier == k.work

/-- A lost range of a group (R333, R334): its counters, the connections' gaps (R257), and the queue of 16 entries. -/
def Chip.pgRange (s : Chip) (g first m cause : Nat) : Chip :=
  let last := (first + m - 1) % 2 ^ 32
  let s1 := (s.addPair (Reg.PROT.LOST_FRM_LO.addr g) m).bump (Reg.PROT.LOST_RANGES.COUNT g)
  let s2 := (s1.setF (Reg.PROT.LAST_FIRST.FSN g) first).setF (Reg.PROT.LAST_LAST.FSN g) last
  let s3 := (s.pgConns g).foldl (fun u k =>
    if u.flag (Reg.XC.XC_TRIB_STAT.EN_ACTIVE k) then (u.bump (Reg.XC.LOST_GAPS.COUNT k)).raise Ev.XC.LOST_GAP else u) s2
  let s4 := s3.raisePg g Ev.PROT.LOST_RANGE
  if 16 ≤ s4.lost.length then (s4.bumpSat Reg.PROT.LR_STAT.LR_OVF).raisePg g Ev.PROT.LR_OVF
  else
    let r : LostRange := ⟨g, cause, first % 2 ^ 32, last, s4.wst.sec, s4.wst.t16 / 65536⟩
    { s4 with lost := s4.lost ++ [r] }.lostShow

end Sys2Proof.Machine
end

