-- ==== Sys2Proof/Machine/Islands.lean ====
section
/-! DEFINITION. The islands as several steps share them: which are gated or in reset, and the island of an address (R19, R20, R429, R464 to R468). -/

namespace Sys2Proof.Machine

/-- Whether an island (0 to 5 = DPA, DPB, CLI, SEC, PCI, MON) is gated or held in reset. -/
def Chip.islDown (s : Chip) (i : Nat) : Bool :=
  s.bitOf Reg.CLK.GATE_STAT.GATED i || s.clk.held.testBit i

/-- The gateable island of a register's address (R429), none for MGT, AON and WST. -/
def islandOf (a : Nat) : Option Nat :=
  match a / 0x00100000 with
  | 0x08 => some 3
  | 0x09 => some 5
  | 0x0B => some 4
  | 0x20 | 0x21 | 0x22 | 0x23 | 0x24 => some 2
  | n => if 0x10 ≤ n ∧ n < 0x18 then some 0 else if 0x18 ≤ n ∧ n < 0x20 then some 1 else none

/-- A change of the hidden state of CLK. -/
def Chip.modClk (s : Chip) (f : ClkSt → ClkSt) : Chip := { s with clk := f s.clk }

end Sys2Proof.Machine
end

