-- ==== Sys2Proof/Machine/TstOps.lean ====
section
/-! DEFINITION. Logic BIST as several steps share it: sessions, steps that wait, retests and the power-up sweep (R492 to R498). -/

namespace Sys2Proof.Machine

/-- The status register of a unit (R98, R139, R367). -/
def unitAddr (c : Carrier) (g u : Nat) : Nat :=
  match g with
  | 0 => Reg.RXD.ENG_STAT.addr c u
  | 1 => Reg.FEC.SLICE_STAT.addr c u
  | _ => Reg.LENC.LANE_STAT.addr c u

/-- Whether a receiver of a carrier lies in COARSE_FREQ to FRAME_ALIGN (R496). -/
def Chip.acquiring (s : Chip) (c : Carrier) : Bool :=
  let l := s.lineApplied c
  let rcvs := if l.cfg.subcEn then ((List.range 16).filter l.rxMask.testBit).map fun q => 17 * c.ix + 1 + q else [17 * c.ix]
  rcvs.any fun i => let st := (Tab.get {} s.rcv i).state; decide (2 ≤ st ∧ st ≤ 7)

/-- Whether a step of a group has to wait (R496); one whose last unit still waits for its exchange does, too. -/
def Chip.stepHeld (s : Chip) (c : Carrier) (g : Nat) : Bool :=
  let v := s.grpOf c g
  s.acquiring c || v.reserve.isNone || v.passed.isSome || s.islDown c.ix

/-- A session starts on a unit (R492): its status is captured for reads. -/
def Chip.startSession (s : Chip) (c : Carrier) (g u : Nat) (retest : Bool) : Chip :=
  let v := s.grpOf c g
  let same := s.getF (Reg.TST.GRP_STAT.LAST_UNIT c.ix g) = u
  let v1 := { v with session := some u, retesting := retest, captured := (s.unitStat c g u (unitAddr c g u)).toNat
                     stepDue := retest && v.stepDue, retestDue := if retest then none else v.retestDue
                     retries := if same then v.retries else 0 }
  ((s.setGrp c g v1).setF (Reg.TST.GRP_STAT.SESSION c.ix g) 1).setF (Reg.TST.GRP_STAT.TEST_UNIT c.ix g) u

/-- The share of a group in the power-up sweep (R497): it ends once every unit that is not fenced has its result, or with the units left
INCOMPLETE where the group has no reserve for want of capacity; a unit INCOMPLETE four times is given up and exchanged; else a session starts
on the reserve as soon as nothing holds it. -/
def Chip.sweepGroup (s : Chip) (c : Carrier) (g : Nat) : Chip :=
  let v := s.grpOf c g
  let left := (List.range (Grp.units g)).filter fun u => !v.fenced.testBit u && !v.swept.testBit u
  if v.sweepDone then s
  else if left = [] then s.setGrp c g { v with sweepDone := true }
  else if v.session.isSome then s
  else match v.reserve with
  | none =>
    if s.grpCheck c g then s
    else (s.bump Reg.TST.PU_STAT.INCOMPLETE left.length).setGrp c g { v with sweepDone := true }
  | some u =>
    if 4 ≤ v.retries ∧ s.getF (Reg.TST.GRP_STAT.LAST_UNIT c.ix g) = u ∧ left.contains u then
      (s.bump Reg.TST.PU_STAT.INCOMPLETE).setGrp c g { v with swept := v.swept ||| 2 ^ u, retries := 0, passed := some u }
    else if s.stepHeld c g then s
    else s.startSession c g u false

/-- What a group does once nothing runs on it: a retest that waits, the sweep, a step that was deferred (R496 to R498). -/
def Chip.bistGroup (s : Chip) (c : Carrier) (g : Nat) : Chip :=
  let v := s.grpOf c g
  let s1 := match v.session, v.retestDue with
    | none, some u => if s.islDown c.ix then s else s.startSession c g u true
    | _, _ => s
  let s2 := (s1.sweepGroup c g).sweepGroup c g
  let w := s2.grpOf c g
  match w.session, w.reserve with
  | none, some u => if w.stepDue && !s2.stepHeld c g then s2.startSession c g u false else s2
  | _, _ => s2

/-- The groups of both carriers. -/
def allGroups : List (Carrier × Nat) := [(.A, 0), (.A, 1), (.A, 2), (.B, 0), (.B, 1), (.B, 2)]

/-- Every group of both carriers, and the end of the sweep once each group's share has ended (R497). -/
def Chip.bistSettle (s : Chip) : Chip :=
  let s1 := allGroups.foldl (fun u p => u.bistGroup p.1 p.2) s
  if s1.flag Reg.TST.PU_STAT.BUSY && allGroups.all (fun p => (s1.grpOf p.1 p.2).sweepDone) then
    ((s1.setFlag Reg.TST.PU_STAT.BUSY false).setFlag Reg.TST.PU_STAT.DONE true).raise Ev.TST.PU_DONE
  else s1

/-- A step of a group is due (R495, R496): dropped and counted while a session runs, else started as soon as nothing holds it. -/
def Chip.bistStep (s : Chip) (c : Carrier) (g : Nat) : Chip :=
  let v := s.grpOf c g
  if v.session.isSome then s.bump (Reg.TST.STEP_SKIP.COUNT c.ix g)
  else (s.setGrp c g { v with stepDue := true }).bistSettle

end Sys2Proof.Machine
end

