-- ==== Sys2Proof/Machine/WstOps.lean ====
section
/-! DEFINITION. Wellspring time and the Tamust channel as several steps share them: the counter with its steps and slews, the time state
machine, messages and their transmission, and fixed-latency mode (R279 to R293, R299, R304, R305). -/

namespace Sys2Proof.Machine

/-- A second in units of 2^-16 ns. -/
def secT16 : Nat := 1000000000 * 65536

/-- The present Wellspring time in units of 2^-16 ns. -/
def Chip.wstNow (s : Chip) : Nat := s.wst.sec * secT16 + s.wst.t16

/-- The present Wellspring time in units of 2^-16 ps. -/
def Chip.wstFine (s : Chip) : Nat := s.wstNow * 1000

/-- The instant of a ripple slot in units of 2^-16 ns (R295). -/
def Chip.ripInstant (s : Chip) (k : Nat) : Nat :=
  (s.getF (Reg.WST.RIP_SEC_LO.SEC k) + s.getF (Reg.WST.RIP_SEC_HI.SEC k) * 2 ^ 32) * secT16
    + s.getF (Reg.WST.RIP_NS.NS k) * 65536 + s.getF (Reg.WST.RIP_FRAC.FRAC k)

/-- Whether a ripple slot is ARMED. -/
def Chip.ripArmed (s : Chip) (k : Nat) : Bool := s.getF (Reg.WST.RIP_STAT.STATE k) == 1

/-- The instant of a ripple slot set (R296, R299). -/
def Chip.setInstant (s : Chip) (k t : Nat) : Chip :=
  let sec := t / secT16
  (((s.setF (Reg.WST.RIP_SEC_LO.SEC k) sec).setF (Reg.WST.RIP_SEC_HI.SEC k) (sec / 2 ^ 32)).setF (Reg.WST.RIP_NS.NS k)
    (t % secT16 / 65536)).setF (Reg.WST.RIP_FRAC.FRAC k) (t % 65536)

/-- A step of Wellspring time to a new value (R281, R299): TIME_STEP; every trail sees a change of the seconds other than an increment at
a whole second (R205); armed slots whose instant the step passes are late. -/
def Chip.stepTo (s : Chip) (t : Nat) : Chip :=
  let t := t % (2 ^ 48 * secT16)
  let old := s.wstNow
  let was := s.wst.sec
  let late := (List.range 64).foldl (fun m k =>
    if s.ripArmed k && decide (old < s.ripInstant k) && decide (s.ripInstant k < t) then m ||| 2 ^ k else m) s.wst.late
  let s1 := { s with wst := { s.wst with sec := t / secT16, t16 := t % secT16, late := late } }.raise Ev.WST.TIME_STEP
  let plain := t / secT16 = was ∨ (t / secT16 = was + 1 ∧ t % secT16 = 0)
  if plain then s1
  else (List.range 16).foldl (fun u k => (u.pmStep .A k was (t / secT16)).pmStep .B k was (t / secT16)) s1

/-- A step by a signed amount in 2^-16 ns. -/
def Chip.stepBy (s : Chip) (d : Int) : Chip := s.stepTo (((s.wstNow : Int) + d) % ((2 ^ 48 * secT16 : Nat) : Int)).toNat

/-- One WST clock (R279, R281): 625 ps, with the part of a slew in progress that SLEW ns per second allows. -/
def Chip.wstTick (s : Chip) : Chip :=
  let w := s.wst
  if w.running = false then s
  else
    let acc := w.slewAcc + (if w.slew = 0 then 0 else max 1 (s.getF Reg.WST.SLEW_CFG.SLEW) * 4096)
    let d : Nat := min (acc / 100000000) w.slew.natAbs
    let move : Int := if w.slew < 0 then -(d : Int) else d
    let t := ((w.t16 : Int) + 40960 + move).toNat
    let sec := if secT16 ≤ t then (w.sec + 1) % 2 ^ 48 else w.sec
    { s with wst := { w with sec := sec, t16 := if secT16 ≤ t then t - secT16 else t, slew := w.slew - move
                             slewAcc := if w.slew - move = 0 then 0 else acc % 100000000 } }

/-- SRC of TIME_CFG in effect (R280): 4 to 7 behave as 0. -/
def Chip.timeSrc (s : Chip) : Nat := let k := s.getF Reg.WST.TIME_CFG.SRC; if 3 < k then 0 else k

/-- Whether the phase source is valid (R280). -/
def Chip.srcValid (s : Chip) : Bool :=
  match s.timeSrc with
  | 1 => s.wst.ppsValid.testBit 0
  | 2 => s.wst.ppsValid.testBit 1
  | 3 => s.wst.ttValid
  | _ => true

/-- The device's own node ID, 0x3FFF while none is valid (R301). -/
def Chip.nodeId (s : Chip) : Nat := if s.flag Reg.WST.NODE_ID.VALID then s.getF Reg.WST.NODE_ID.ID else 0x3FFF

/-- The time state takes a value, with STATE_CHANGE on a change; the runs of R293 start anew. -/
def Chip.setTimeState (s : Chip) (st : Nat) : Chip :=
  if s.getF Reg.WST.TIME_STAT.STATE = st then s
  else { (s.setF Reg.WST.TIME_STAT.STATE st).raise Ev.WST.STATE_CHANGE with wst := { s.wst with syncRun := 0, blocked := 0 } }

/-- GM_STAT follows the state and the source (R293). -/
def Chip.gmShow (s : Chip) : Chip :=
  let sync := s.getF Reg.WST.TIME_STAT.STATE = 2
  let gm := if sync ∧ s.timeSrc = 3 then (s.wst.peerGm, s.wst.peerHops + 1)
    else if sync ∧ s.timeSrc ≠ 0 then (s.nodeId, 0) else (0x3FFF, 0)
  (s.setF Reg.WST.GM_STAT.GM gm.1).setF Reg.WST.GM_STAT.GM_HOPS gm.2

/-- The time state judged anew by the first rows of R293: the source and its validity. -/
def Chip.timeSettle (s : Chip) : Chip :=
  let st := s.getF Reg.WST.TIME_STAT.STATE
  let s1 := if s.timeSrc = 0 then s.setTimeState 0
    else if (st = 1 ∨ st = 2) ∧ s.srcValid = false then s.setTimeState 3
    else if (st = 0 ∨ st = 3) ∧ s.srcValid = true then s.setTimeState 1
    else s
  s1.gmShow

/-- An amount in fractions num / den of 2^-16 ps as whole units of 2^-16 ns; its rounding is left open. -/
def Chip.toT16 (s : Chip) (num : Int) (den : Nat) : Int × Chip := s.roundFree num (1000 * den)

/-- A signed report in ps latched in a 32-bit field; what does not fit is left open, as the rounding is. -/
def Chip.latchPs (s : Chip) (f : Fld) (num : Int) (den : Nat) : Chip :=
  let r := s.roundFree num (65536 * den)
  if -(2 ^ 31 : Int) ≤ r.1 ∧ r.1 < 2 ^ 31 then r.2.setS f r.1 else r.2.free.2.setF f r.2.free.1

/-- A correction θ = num / den in 2^-16 ps applied (R281, R293): latched in LAST_OFS; in ACQUIRING stepped above STEP_THR, else slewed in
place of any slew, SYNCED after 16 in a row within SYNC_THR; in SYNCED blocked above STEP_THR, back to ACQUIRING after 8 in a row. -/
def Chip.correct (s : Chip) (num : Int) (den : Nat) : Chip :=
  let st := s.getF Reg.WST.TIME_STAT.STATE
  let s1 := s.latchPs Reg.WST.LAST_OFS.PS num den
  let big := decide (s.getF Reg.WST.SLEW_CFG.STEP_THR * 1000000 * 65536 * den < num.natAbs)
  let fine := decide (num.natAbs ≤ s.getF Reg.WST.SYNC_CFG.SYNC_THR * 1000 * 65536 * den)
  let d := s1.toT16 (-num) den
  let slewed : Chip := { d.2 with wst := { d.2.wst with slew := d.1, slewAcc := 0 } }
  if st = 1 then
    if big then
      let u := d.2.stepBy d.1
      { u with wst := { u.wst with slew := 0, slewAcc := 0, syncRun := 0 } }
    else
      let run := if fine then s.wst.syncRun + 1 else 0
      let u : Chip := { slewed with wst := { slewed.wst with syncRun := run } }
      if 16 ≤ run then (u.setTimeState 2).gmShow else u
  else if st = 2 then
    if big then
      let u := { s1 with wst := { s1.wst with blocked := s1.wst.blocked + 1 } }.raise Ev.WST.STEP_BLOCKED
      if 8 ≤ u.wst.blocked then (u.setTimeState 1).gmShow else u
    else { slewed with wst := { slewed.wst with blocked := 0 } }
  else s1

/-- A Tamust port. -/
def Chip.portOf (s : Chip) (p : Nat) : TtPort := Tab.get {} s.wst.ports p

/-- A Tamust port replaced. -/
def Chip.setPort (s : Chip) (p : Nat) (v : TtPort) : Chip := { s with wst := { s.wst with ports := Tab.put {} s.wst.ports p v } }

/-- A number as n bytes, most significant first. -/
def bytesMsb (n v : Nat) : List Nat := (List.range n).map fun i => v / 256 ^ (n - 1 - i) % 256

/-- The number that bytes spell, most significant first. -/
def ofBytes (l : List Nat) : Nat := l.foldl (fun n b => 256 * n + b) 0

/-- A message's header and payload (R287). -/
def TtMsg.bytes (m : TtMsg) : List Nat :=
  [16 + m.type, m.bcast.toNat * 128 + m.hops] ++ bytesMsb 2 m.dst ++ bytesMsb 2 m.src ++ [m.payload.length, m.seq] ++ m.payload

/-- Octet stuffing of RFC 1662 (R286). -/
def stuff (l : List Nat) : List Nat := l.flatMap fun b => if b = 0x7E ∨ b = 0x7D then [0x7D, b ^^^ 0x20] else [b]

/-- A message on the wire: stuffed with its CRC-32C, and one flag behind it (R286). -/
def TtMsg.wire (m : TtMsg) : List Nat :=
  let b := m.bytes
  stuff (b ++ bytesMsb 4 (crc32c b)) ++ [0x7E]

/-- A message parsed from its destuffed bytes with its CRC, none where it is to be discarded (R286): wrong CRC, wrong length, or a version
other than 1. -/
def TtMsg.parse (l : List Nat) : Option TtMsg :=
  let n := l.length
  let body := l.take (n - 4)
  if n < 12 ∨ 252 < n ∨ l.getD 6 0 + 12 ≠ n ∨ ofBytes (l.drop (n - 4)) ≠ crc32c body ∨ l.getD 0 0 / 16 ≠ 1 then none
  else some
    { type := l.getD 0 0 % 16, bcast := decide (128 ≤ l.getD 1 0), hops := l.getD 1 0 % 128
      dst := (l.getD 2 0 * 256 + l.getD 3 0) % 16384, src := (l.getD 4 0 * 256 + l.getD 5 0) % 16384
      seq := l.getD 7 0, payload := body.drop 8 }

/-- A message of this device with its next sequence number (R287). -/
def Chip.newMsg (s : Chip) (type : Nat) (bcast : Bool) (dst : Nat) (payload : List Nat) : TtMsg × Chip :=
  let q := Tab.get 0 s.wst.seqs type
  ({ type := type, bcast := bcast, hops := 0, dst := dst, src := s.nodeId, seq := q, payload := payload },
    { s with wst := { s.wst with seqs := Tab.put 0 s.wst.seqs type ((q + 1) % 256) } })

/-- An instant in 2^-16 ns as 48-bit seconds, 32-bit ns and 16-bit fraction (R291). -/
def instantBytes (t : Nat) : List Nat :=
  bytesMsb 6 (t / secT16) ++ bytesMsb 4 (t % secT16 / 65536) ++ bytesMsb 2 (t % 65536)

/-- The instant that twelve such bytes spell; the nanoseconds are taken as they stand. -/
def instantOf (l : List Nat) : Nat := ofBytes (l.take 6) * secT16 + ofBytes ((l.drop 6).take 4) * 65536 + ofBytes ((l.drop 10).take 2)

/-- A message put back at the front of its class (R289): 0 = APS, 1 = TIME, 2 = ring. -/
def TtPort.again (v : TtPort) (cls : Nat) (m : TtMsg) : TtPort :=
  match cls with
  | 0 => { v with aps := m :: v.aps }
  | 1 => { v with time := m :: v.time }
  | _ => { v with ring := m :: v.ring }

/-- A message ready to be sent on a port (R289): an APS message aborts the message being sent, which is sent again in full. -/
def TtPort.send (v : TtPort) (cls : Nat) (m : TtMsg) : TtPort :=
  match cls with
  | 0 =>
    match v.cur with
    | some (c, old) =>
      let w := v.again c old
      { w with aps := if c = 0 then w.aps ++ [m] else m :: w.aps, cur := none, rest := [0x7D, 0x7E] }
    | none => { v with aps := v.aps ++ [m] }
  | 1 => { v with time := v.time ++ [m] }
  | _ => { v with ring := v.ring ++ [m] }

/-- A message ready to be sent on a port of the device, where the port is enabled (R285, R289, R306). -/
def Chip.sendOn (s : Chip) (p cls : Nat) (m : TtMsg) : Chip :=
  if s.flag (Reg.WST.TT_PORT_CFG.EN p) then s.setPort p ((s.portOf p).send cls m) else s

/-- The next byte of a port and the port after it: the rest of what is being sent, else the next message by class, else a flag. -/
def TtPort.next (v : TtPort) : Nat × TtPort :=
  match v.rest with
  | b :: r => (b, { v with rest := r, cur := if r = [] then none else v.cur })
  | [] =>
    let start := fun (c : Nat) (m : TtMsg) (w : TtPort) =>
      match m.wire with
      | b :: r => (b, { w with cur := some (c, m), rest := r })
      | [] => (0x7E, w)
    match v.aps, v.time, v.ring with
    | m :: l, _, _ => start 0 m { v with aps := l }
    | [], m :: l, _ => start 1 m { v with time := l }
    | [], [], m :: l => start 2 m { v with ring := l }
    | [], [], [] => (0x7E, v)

/-- The payload of a TIME message of a port (R291): the last TV frame sent with its stamp, the last one received from the peer with its, the
root of the device's time, and STATUS; what no stamp is held for is open. -/
def Chip.timePayload (s : Chip) (p : Nat) : List Nat × Chip :=
  let v := s.portOf p
  let tx := match v.txStamps with
    | a :: _ => let r := s.roundFree (a.2 : Int) 1000; ((a.1, r.1.toNat), r.2)
    | [] => ((s.free.1, s.free.2.free.1), s.free.2.free.2)
  let u := tx.2
  let rx := match v.rxStamps with
    | a :: _ => let r := u.roundFree (a.2 : Int) 1000; ((a.1, r.1.toNat), r.2)
    | [] => ((u.free.1, u.free.2.free.1), u.free.2.free.2)
  let w := rx.2
  let sync := w.getF Reg.WST.TIME_STAT.STATE == 2
  let status := (!v.rxStamps.isEmpty).toNat * 4 + (w.getF Reg.TIM.DPLL_STAT.STATE == 2).toNat * 2 + sync.toNat
  (bytesMsb 4 tx.1.1 ++ instantBytes tx.1.2 ++ bytesMsb 4 rx.1.1 ++ instantBytes rx.1.2
    ++ bytesMsb 2 (w.getF Reg.WST.GM_STAT.GM) ++ [w.getF Reg.WST.GM_STAT.GM_HOPS, status], w)

/-- A TIME message that is to begin on a port gets its payload (R289, R291). -/
def Chip.fillTime (s : Chip) (p : Nat) : Chip :=
  let v := s.portOf p
  match v.rest, v.aps, v.time with
  | [], [], m :: l =>
    let r := s.timePayload p
    r.2.setPort p { r.2.portOf p with time := { m with payload := r.1 } :: l }
  | _, _, _ => s

/-- One Tamust byte of a port; a message that it completes counts as sent (R447). -/
def Chip.tamustByte (s : Chip) (p : Nat) : Nat × Chip :=
  let s1 := s.fillTime p
  let v := s1.portOf p
  let r := v.next
  let s2 := s1.setPort p r.2
  (r.1, if v.cur.isSome && r.2.cur.isNone then s2.evc (65 + p / 16) else s2)

/-- The two Tamust bytes of a TV frame on a port (R184, R285). -/
def Chip.tamustBytes (s : Chip) (p : Nat) : List Nat × Chip :=
  let a := s.tamustByte p
  let b := a.2.tamustByte p
  ([a.1, b.1], b.2)

/-- A port's transmit or receive stamp of a TV frame kept, of the last 256 (R290). -/
def TtPort.stamp (v : TtPort) (tx : Bool) (fsn t : Nat) : TtPort :=
  if tx then { v with txStamps := ((fsn, t) :: v.txStamps).take 256 }
  else { v with rxStamps := ((fsn, t) :: v.rxStamps).take 256, lastRx := some fsn }

/-- The spacing K of TV frames (R285). -/
def Chip.tvSpacing (s : Chip) (c : Carrier) : Nat :=
  let l := s.lineApplied c
  if l.cfg.subcEn then 32 else 2 * l.cfg.otucn

/-- The receive half's bound in ps with the line frame of verify-before-release (R31, R32, R304): T_F / n of T_F in ns added before the
rounding up to a whole nanosecond. -/
def rxBoundPs (l : LineCfg) (vbr : Bool) : Nat :=
  let n := if l.subcEn then 1 else l.otucn
  if !vbr then rxHalfPs n l.lowlat l.subcEn l.nlcSteps
  else
    let fixed := if l.lowlat then 480 else 1060
    let scale := if l.lowlat then 1020 else 1540
    let den := tfDen n * 65536
    1000 * (cdiv ((fixed * n + scale * 16) * den + n * tfNum) (n * den)
      + (if l.lowlat then 0 else 30 * l.nlcSteps) + (if l.subcEn then 80 else 0))

/-- Whether a trail of a carrier carries a connection (R304): an enabled entry names it; in PROTECTED_1P1 carrier B mirrors carrier A. -/
def Chip.trailConnected (s : Chip) (c : Carrier) (t : Nat) : Bool :=
  (List.range 32).any fun k =>
    let e := xcEntry s.act k
    s.flag (Reg.XC.XC_TRIB_STAT.EN_ACTIVE k) && e.trail == t &&
      (e.carrier == c || s.getF Reg.TOP.CARRIER_STAT.MODE_ACTIVE == 2)

/-- The bounds of a trail's halves in ps (R304), 0 where it carries no connection or the carrier is not in fixed-latency mode. -/
def Chip.flBounds (s : Chip) (c : Carrier) (t : Nat) : Nat × Nat :=
  let on := s.bitOf ⟨Reg.WST.FL_CFG.addr, 0, 2⟩ c.ix
  if !on || !s.trailConnected c t then (0, 0)
  else
    let l := (s.lineApplied c).cfg
    (txHalfPs (if l.subcEn then 1 else l.otucn) l.subcEn, rxBoundPs l (s.flag (Reg.LENC.LENC_STAT.VBR_ACTIVE c)))

/-- The bounds of a carrier recomputed (R304, R305): a half whose bound changed clears HELD and moves; one whose bound is unchanged is not
disturbed; without fixed-latency mode all read 0. -/
def Chip.flRecompute (s : Chip) (c : Carrier) : Chip :=
  (List.range 16).foldl (fun u t =>
    let b := u.flBounds c t
    let i := 16 * c.ix + t
    let off := b.1 = 0
    let v := Tab.get {} u.wst.fl i
    let half := fun (x : Chip) (f g : Fld) (n : Nat) =>
      if x.getF f = n then x else (x.setF f n).setFlag g false
    let chT := u.getF (Reg.WST.FL_TX.PS c.ix t) ≠ b.1
    let chR := u.getF (Reg.WST.FL_RX.PS c.ix t) ≠ b.2
    let oldT := u.getF (Reg.WST.FL_TX.PS c.ix t) ≠ 0
    let u1 := half (half u (Reg.WST.FL_TX.PS c.ix t) (Reg.WST.FL_FLAGS.TX_HELD c.ix t) b.1)
      (Reg.WST.FL_RX.PS c.ix t) (Reg.WST.FL_FLAGS.RX_HELD c.ix t) b.2
    let v1 : FlSt := if off then {} else
      { txMoved := v.txMoved || (decide chT && decide oldT), rxMoved := v.rxMoved || (decide chR && decide oldT) }
    { u1 with wst := { u1.wst with fl := Tab.put {} u1.wst.fl i v1 } }) s

end Sys2Proof.Machine
end

