-- ==== Sys2Proof/Machine/Settle.lean ====
section
/-! DEFINITION. What every step that changes a receiver, a framer or a group ends with: signal fail of the subcarriers and the
protection groups judged anew (R162, R313 to R317), self-test sessions that waited (R496 to R498), and the notice of a step-down (R501). -/

namespace Sys2Proof.Machine

/-- Signal fail of a receive-enabled subcarrier (R162), unless R152 suppresses it. -/
def Chip.subcFails (s : Chip) (c : Carrier) (q : Nat) : Bool :=
  let v := s.trailRcvSt c q
  !s.hubAsleep c q && (v.los || v.state != 8 || v.ub || !v.cwLock || (s.txd.get c).pllLol || (s.grpOf c 0).sf || (s.grpOf c 1).sf)

/-- `SUBC.SC_SF` of a carrier judged anew, with SC_SF_CHANGE (R162). -/
def Chip.subcSettle (s : Chip) (c : Carrier) : Chip :=
  let l := s.lineApplied c
  let new := if l.cfg.subcEn then
      (List.range 16).foldl (fun n q => if l.rxMask.testBit q && s.subcFails c q then n + 2 ^ q else n) 0
    else 0
  if new = s.getF (Reg.SUBC.SC_SF.SF c) then s
  else (s.setF (Reg.SUBC.SC_SF.SF c) new).raise (Ev.SUBC.SC_SF_CHANGE c)

/-- The shadow of a carrier's line configuration takes the target of a step-down: an OTUCn, or 0x80 + q to remove subcarrier q, from UP_EN
where `up` holds, else from DN_EN (R499 to R501). -/
def Chip.stepShadow (s : Chip) (c : Carrier) (code : Nat) (up : Bool) : Chip :=
  if code < 0x80 then s.setF (Reg.TXD.LINE_CFG.OTUCN c) code
  else if up then s.clrBit (Reg.SUBC.UP_EN.MASK c) (code - 0x80) else s.clrBit (Reg.SUBC.DN_EN.MASK c) (code - 0x80)

/-- NEED_c of a carrier. -/
def Chip.stepNeeded (s : Chip) (c : Carrier) : Bool := (s.getF ⟨Reg.TST.STEP_STAT.addr, 0, 2⟩).testBit c.ix

/-- Firmware's part of a step-down with AUTO = 1 (R501): the target in the shadow, and a STEP_NOTICE to the peer on trail 0 of the carrier. -/
def Chip.stepNotice (s : Chip) (c : Carrier) : Chip :=
  let bit := 2 ^ c.ix
  if s.stepNeeded c = false then
    { s with tst := { s.tst with noticed := s.tst.noticed - (s.tst.noticed &&& bit) } }
  else if s.tst.noticed.testBit c.ix ∨ s.flag Reg.TST.STEP_CFG.AUTO = false then s
  else
    let l := s.lineApplied c
    let target := s.getF ⟨Reg.TST.STEP_STAT.addr, 16 + 8 * c.ix, 5⟩
    if l.cfg.subcEn = false ∧ target = 0 then s
    else
      let both := s.getF Reg.TOP.CARRIER_STAT.MODE_ACTIVE ≠ 0
      let mask := if both then 3 else bit
      let code := if l.cfg.subcEn then 0x80 + target else target
      let t := s.wstNow + max 50 (s.getF Reg.TST.STEP_CFG.LEAD) * 1000000 * 65536
      let s1 := s.stepShadow c code (l.role == 1)
      let s2 := if both then s1.stepShadow c.other code (l.role == 1) else s1
      let s3 : Chip := { s2 with tst := { s2.tst with noticed := s2.tst.noticed ||| mask, notice := some (mask, code, t) } }
      match s3.wst.peers.find? fun p => p.1 == 16 * c.ix with
      | some p =>
        let m := s3.newMsg 7 false p.2 ([0x53, mask, code, 0] ++ instantBytes t)
        m.2.sendOn (16 * c.ix) 2 m.1
      | none => s3

/-- Signal fail of the subcarriers and the enabled protection groups judged anew; sessions and notices that are due. -/
def Chip.settle (s : Chip) : Chip :=
  let s1 := (s.subcSettle .A).subcSettle .B
  (((s1.pgsOn.foldl Chip.pgSettle s1).bistSettle).stepNotice .A).stepNotice .B

end Sys2Proof.Machine
end

