-- ==== Sys2Proof/Machine/Receivers.lean ====
section
/-! DEFINITION. A receiver's state and the operations on it that several steps share: its lock flags, codeword lock and staircase
window, and the acquisition state machine of R104 to R113 with its transitions. -/

namespace Sys2Proof

/-- The carrier of a receiver. -/
def Rcv.carrier : Rcv → Carrier
  | .car c => c
  | .sub c _ => c

/-- The trail of a receiver: trail 0 of a carrier, trail q of subcarrier q (R192). -/
def Rcv.trail : Rcv → Nat
  | .car _ => 0
  | .sub _ q => q.val

/-- The number of a receiver in State's table. -/
def Rcv.ix : Rcv → Nat
  | .car c => 17 * c.ix
  | .sub c q => 17 * c.ix + 1 + q.val

end Sys2Proof

namespace Sys2Proof.Machine

/-- A receiver's state. -/
def Chip.rcvOf (s : Chip) (r : Rcv) : RcvSt := Tab.get {} s.rcv r.ix

/-- A receiver's state replaced. -/
def Chip.setRcv (s : Chip) (r : Rcv) (v : RcvSt) : Chip := { s with rcv := Tab.put {} s.rcv r.ix v }

/-- A change of a receiver's state. -/
def Chip.modRcv (s : Chip) (r : Rcv) (f : RcvSt → RcvSt) : Chip := s.setRcv r (f (s.rcvOf r))

/-- An event that exists for a carrier's own receiver only. -/
def Chip.raiseCar (s : Chip) (r : Rcv) (e : Carrier → Ev) : Chip :=
  match r with
  | .car c => s.raise (e c)
  | .sub _ _ => s

/-- An event that a carrier's receiver and a subcarrier's receiver raise in their own blocks. -/
def Chip.raiseRcv (s : Chip) (r : Rcv) (car sub : Carrier → Ev) : Chip :=
  match r with
  | .car c => s.raise (car c)
  | .sub c _ => s.raise (sub c)

/-- The receivers of a carrier in use: its own, or in subcarrier mode those of the receive-enabled subcarriers (R149). -/
def Chip.receivers (s : Chip) (c : Carrier) : List Rcv :=
  let l := s.lineApplied c
  if l.cfg.subcEn then ((List.finRange 16).filter fun q => l.rxMask.testBit q.val).map (.sub c) else [.car c]

/-- The active symbol rate of a receiver in 1/16 GBd (R67, R142). -/
def Chip.rcvRs (s : Chip) (r : Rcv) : Nat := s.getF (Reg.TXD.RS_STAT.RS r.carrier)

/-- The dispersion range of the mode in effect, in ps/nm (R76). -/
def Chip.cdRange (s : Chip) (c : Carrier) : Nat := if s.flag (Reg.RXD.RX_STAT.LOWLAT_ACTIVE c) then 20000 else 120000

/-- The staircase decoder leaves in-frame (R132): its window is emptied, the record of counted blocks cleared, and UB clears. -/
def Chip.emptyWindow (s : Chip) (r : Rcv) : Chip :=
  let s1 := s.modRcv r fun v => { v with blocks := 0, last64 := [], ub := false }
  match r with
  | .car c => s1.setLive (Ev.FEC.UB c) false
  | .sub _ _ => s1

/-- Codeword lock takes a value (R128); CW_LOCK_CHANGE occurs on a change. -/
def Chip.setCwLock (s : Chip) (r : Rcv) (b : Bool) : Chip :=
  let v := s.rcvOf r
  if v.cwLock = b then s
  else (s.setRcv r { v with cwLock := b, failRun := 0 }).raiseCar r Ev.FEC.CW_LOCK_CHANGE

/-- Codeword lock ends with the window of the staircase decoder (R128, R132). -/
def Chip.dropCwLock (s : Chip) (r : Rcv) : Chip :=
  if (s.rcvOf r).cwLock then (s.setCwLock r false).emptyWindow r else s

/-- A lock flag of a receiver. -/
def RcvSt.lock (v : RcvSt) : LockFlag → Bool
  | .bflyConv => v.bfly
  | .trLock => v.tr
  | .cfrLock => v.cfr
  | .cprLock => v.cpr

/-- A receiver with one lock flag changed; CPR_LOCK also counts for the quality interval in progress (R95). -/
def RcvSt.setLock (v : RcvSt) (f : LockFlag) (b : Bool) : RcvSt :=
  match f with
  | .bflyConv => { v with bfly := b }
  | .trLock => { v with tr := b }
  | .cfrLock => { v with cfr := b }
  | .cprLock => { v with cpr := b, cprAll := v.cprAll && b, cprAny := v.cprAny || b }

/-- A lock flag takes a value; LOCK_CHANGE occurs on a change (R88). -/
def Chip.setLock (s : Chip) (r : Rcv) (f : LockFlag) (b : Bool) : Chip :=
  let v := s.rcvOf r
  if v.lock f = b then s else (s.setRcv r (v.setLock f b)).raiseCar r Ev.RXD.LOCK_CHANGE

/-- The parameters of ACQ_CFG and WARM_CFG, taken at an entry into DETECT (R113, R115). -/
def Chip.acqCfg (s : Chip) (c : Carrier) : AcqCfg :=
  { sdThr := s.getF (Reg.ACQ.ACQ_CFG.SD_THR c), losThr := s.getF (Reg.ACQ.ACQ_CFG.LOS_THR c)
    sdWins := s.getF (Reg.ACQ.ACQ_CFG.SD_WINS c), losWins := s.getF (Reg.ACQ.ACQ_CFG.LOS_WINS c)
    lolTime := s.getF (Reg.ACQ.WARM_CFG.LOL_TIME c), warmHold := s.getF (Reg.ACQ.WARM_CFG.WARM_HOLD c) }

/-- The warm state discarded (R105, R108): a warm attempt that still waits in DETECT becomes a cold one. -/
def RcvSt.discardWarm (v : RcvSt) : RcvSt :=
  { v with warmValid := false, warmRec := none, warm := v.warm && v.state != 1 }

/-- No partial result of a stage remains (R105). -/
def RcvSt.noPartial (v : RcvSt) : RcvSt := { v with cand := none, confirms := 0, scan := {} }

/-- An acquisition begins at a clock (R110), with the tap count of BFLY_CFG (R85). -/
def Chip.beginAcq (s : Chip) (r : Rcv) (clock : Nat) : Chip :=
  let s1 := s.modRcv r fun v => { v with begun := true, beganAt := clock, failRaised := false, attempts := 0 }
  match r with
  | .car c => s1.setF (Reg.RXD.RX_STAT.TAPS_ACTIVE c) (s1.getF (Reg.RXD.BFLY_CFG.TAPS c))
  | .sub _ _ => s1

/-- Entry into DETECT (R105, R110, R113): the window counts start anew, ACQ_CFG and WARM_CFG take effect, and no warm attempt waits
without a warm state. -/
def Chip.enterDetect (s : Chip) (r : Rcv) (warm : Bool) : Chip :=
  let cfg := s.acqCfg r.carrier
  let s1 := s.modRcv r fun v =>
    let v1 := if cfg.warmHold = 0 then v.discardWarm else v
    { v1.noPartial with
      state := 1, warm := warm && v1.warmValid, present := 0, absent := 0, cfg := cfg, begun := false }
  s1.dropCwLock r

/-- A cold restart (R105). -/
def Chip.coldRestart (s : Chip) (r : Rcv) : Chip :=
  let s1 := s.modRcv r fun v =>
    { v.noPartial with attempts := min 255 (v.attempts + 1), lastFail := v.state, state := 2, warm := false }
  s1.dropCwLock r

/-- A departure from ACQUIRED that loss of signal did not cause (R105, R110): an acquisition begins, warm where a warm state is
valid. -/
def Chip.leaveAcquired (s : Chip) (r : Rcv) : Chip :=
  let v := s.rcvOf r
  let s1 := s.setRcv r { v.noPartial with state := if v.warmValid then 4 else 2, warm := v.warmValid }
  let s2 := match v.warmValid, v.warmRec with
    | true, some w => s1.modRcv r fun v => { v with cd := w.cd, taps := w.taps, fofs := w.fofs, sofs := w.sofs }
    | _, _ => s1
  ((s2.beginAcq r s2.now).dropCwLock r).raiseRcv r Ev.ACQ.LOST Ev.SUBC.SC_LOST

/-- Entry into IDLE (R105): the warm state is discarded; LOST where the state was ACQUIRED. -/
def Chip.enterIdle (s : Chip) (r : Rcv) : Chip :=
  let v := s.rcvOf r
  let s1 := (s.setRcv r { v.noPartial with state := 0, warm := false, warmValid := false, warmRec := none, begun := false })
    |>.dropCwLock r
  if v.state = 8 then s1.raiseRcv r Ev.ACQ.LOST Ev.SUBC.SC_LOST else s1

/-- LOS is declared (R102, R105): every state but IDLE, DETECT returns to DETECT, from ACQUIRED with LOST and the warm state. -/
def Chip.declareLos (s : Chip) (r : Rcv) : Chip :=
  let v := s.rcvOf r
  let s1 := s.setRcv r { v with los := true }
  let s2 := match r with
    | .car c => s1.assert (Ev.ACQ.LOS c)
    | .sub _ _ => s1
  if v.state = 8 then (s2.enterDetect r v.warmValid).raiseRcv r Ev.ACQ.LOST Ev.SUBC.SC_LOST
  else if 2 ≤ v.state ∧ v.state ≤ 7 then s2.enterDetect r v.warm
  else s2

/-- LOS ends at a present window (R102). -/
def Chip.endLos (s : Chip) (r : Rcv) : Chip :=
  let s1 := s.modRcv r fun v => { v with los := false }
  match r with
  | .car c => s1.setLive (Ev.ACQ.LOS c) false
  | .sub _ _ => s1

/-- On a leaf, a receive-enabled subcarrier in ACQUIRED, whose dispersion and frequency offset the others load (R149). -/
def Chip.leafSource (s : Chip) (r : Rcv) : Option RcvSt :=
  match r with
  | .car _ => none
  | .sub c _ =>
    if s.getF (Reg.SUBC.SC_STAT.ROLE_ACTIVE c) ≠ 2 then none
    else ((s.receivers c).map s.rcvOf).find? fun v => v.state == 8

/-- Signal is detected (R103, R105): the acquisition begins with the first present window; a warm attempt loads the warm state
(R109), a leaf's subcarrier the values of one that is acquired (R149). -/
def Chip.signalDetected (s : Chip) (r : Rcv) : Chip :=
  let v := s.rcvOf r
  let s1 := s.beginAcq r v.firstPresent
  match v.warm, v.warmRec with
  | true, some w =>
    s1.modRcv r fun v => { v with state := 4, cd := w.cd, taps := w.taps, fofs := w.fofs, sofs := w.sofs }
  | _, _ =>
    match s.leafSource r with
    | some a => s1.modRcv r fun v => { v with state := 4, warm := false, cd := a.cd, fofs := a.fofs }
    | none => s1.modRcv r fun v => { v with state := 2, warm := false }

/-- On a leaf, once a downstream subcarrier is ACQUIRED, every other receive-enabled one that searches takes its dispersion and
frequency offset and goes to TRAIN_CORR (R149). -/
def Chip.leafPreload (s : Chip) (r : Rcv) : Chip :=
  match r with
  | .car _ => s
  | .sub c _ =>
    if s.getF (Reg.SUBC.SC_STAT.ROLE_ACTIVE c) ≠ 2 then s
    else
      let v := s.rcvOf r
      (s.receivers c).foldl (fun t o =>
        let w := t.rcvOf o
        if o = r ∨ w.state < 2 ∨ 7 < w.state then t
        else (t.setRcv o { w.noPartial with state := 4, cd := v.cd, fofs := v.fofs }).dropCwLock o) s

/-- In-frame declared while the receiver aligns to the frame: entry into ACQUIRED (R105, R110). A subcarrier that the hub marked
asleep raises WAKE_UNEXPECTED (R152). -/
def Chip.acqInFrame (s : Chip) (r : Rcv) : Chip :=
  let v := s.rcvOf r
  if v.state ≠ 7 then s
  else
    let s1 := (s.setRcv r { v.noPartial with state := 8, attempts := 0, begun := false }).raiseRcv r
      Ev.ACQ.ACQUIRED Ev.SUBC.SC_ACQUIRED
    match r with
    | .car c =>
      let t := s1.roundFree ((s1.now - v.beganAt) * 625 : Nat) 1000
      let s2 := t.2.setSat (Reg.ACQ.ACQ_TIME.TIME c) t.1.toNat
      if v.warm then s2.bump (Reg.ACQ.ACQ_COUNT.WARM_OK c) else s2.bump (Reg.ACQ.ACQ_COUNT.COLD_OK c)
    | .sub c q =>
      let asleep := s1.getF (Reg.SUBC.SC_STAT.ROLE_ACTIVE c) = 1 ∧ s1.bitOf (Reg.SUBC.SLEEP.MASK c) q.val
      let woken := fun (t : Chip) => (t.modRcv r fun w => { w with woke := true }).raise (Ev.SUBC.WAKE_UNEXPECTED c)
      (if asleep then woken s1 else s1).leafPreload r

/-- The framer declares loss of frame, or codeword lock is lost (R105, R128): a receiver in ACQUIRED leaves it. -/
def Chip.acqFrameLoss (s : Chip) (r : Rcv) : Chip :=
  if (s.rcvOf r).state = 8 then s.leaveAcquired r else s

/-- A reconfiguration is applied (R105): every receiver but one in IDLE returns to DETECT cold, its warm state discarded. -/
def Chip.acqReconf (s : Chip) (r : Rcv) : Chip :=
  if (s.rcvOf r).state = 0 then s else (s.modRcv r RcvSt.discardWarm).enterDetect r false

/-- The step of the dispersion scan S of a receiver (R106). -/
def Chip.scanStepOf (s : Chip) (r : Rcv) : Nat := scanStep (s.rcvRs r)

/-- The window [CD_SET − CD_SPAN, CD_SET + CD_SPAN], clipped to the mode's range (R77, R106). -/
def Chip.scanWindow (s : Chip) (c : Carrier) : Int × Int :=
  let m : Int := s.cdRange c
  let set := sgn 32 (s.act (Reg.RXD.CD_SET.addr c)).toNat
  let span : Int := s.actF (Reg.RXD.CD_SPAN.SPAN c)
  (max (-m) (min m (set - span)), max (-m) (min m (set + span)))

/-- Subcarrier scans that run on a carrier (at most 4 at once, R149). -/
def Chip.scansRunning (s : Chip) (c : Carrier) : Nat :=
  ((List.finRange 16).filter fun q => (s.rcvOf (.sub c q)).scan.running).length

/-- Waiting scans of a carrier's subcarriers start while fewer than 4 run, the lowest subcarrier first (R149). -/
def Chip.startWaitingScans (s : Chip) (c : Carrier) : Chip :=
  (List.finRange 16).foldl (fun t q =>
    let v := t.rcvOf (.sub c q)
    if v.state = 3 ∧ v.scan.running = false ∧ t.scansRunning c < 4 then
      t.setRcv (.sub c q) { v with scan := { v.scan with running := true } }
    else t) s

/-- What every step of a receiver ends with: scans that waited for a slot start (R149), and the conditions that protection watches
are judged anew. -/
def Chip.rcvEnd (s : Chip) (r : Rcv) : Chip :=
  match r with
  | .car c => (s.trailSettle c 0).settle
  | .sub c q => (((s.startWaitingScans c).inletSettle c).trailSettle c q.val).settle

/-- Entry into CD_SCAN (R106, R149). -/
def Chip.startScan (s : Chip) (r : Rcv) : Chip :=
  let w := s.scanWindow r.carrier
  let st := s.scanStepOf r
  let sc : Scan := { lo := w.1, hi := w.2, step := st, todo := scanCoarse w.1 w.2 st }
  match r with
  | .car c =>
    let s1 := s.modRcv r fun v => { v with state := 3, scan := { sc with running := true } }
    (s1.setF (Reg.ACQ.SCAN_INFO.NC c) (scanCount w.1 w.2 st)).setF (Reg.ACQ.SCAN_INFO.STEP c) st
  | .sub c _ => (s.modRcv r fun v => { v with state := 3, scan := sc }).startWaitingScans c

end Sys2Proof.Machine
end

