-- ==== Sys2Proof/Machine/Acq.lean ====
section
/-! DEFINITION. The meanings of the acquisition commands (R101 to R113). -/

namespace Sys2Proof.Machine

/-- SD_WINS of a receiver's attempt (R103, R115): a warm attempt needs at most 8 windows. -/
def RcvSt.sdNeed (v : RcvSt) : Nat := if v.warm then min 8 (max 1 v.cfg.sdWins) else max 1 v.cfg.sdWins

/-- LOS_WINS in effect: 1 to 6, other values behave as 6 (R115). -/
def RcvSt.losNeed (v : RcvSt) : Nat := if 1 ≤ v.cfg.losWins ∧ v.cfg.losWins ≤ 6 then v.cfg.losWins else 6

/-- The level thresholds of a receiver: SD_THR, and LOS_THR where it is not above SD_THR (R115, R149). -/
def Chip.levelThr (s : Chip) (r : Rcv) : Nat × Nat :=
  match r with
  | .car _ => let v := s.rcvOf r; (v.cfg.sdThr, min v.cfg.losThr v.cfg.sdThr)
  | .sub c _ =>
    let sd := s.getF (Reg.SUBC.SC_LOS_CFG.SD_THR c)
    (sd, min (s.getF (Reg.SUBC.SC_LOS_CFG.LOS_THR c)) sd)

/-- SIGNAL_WINDOW (R72, R101 to R103, R105): a level window ends. -/
def doSignalWindow (r : Rcv) (sum : Nat) (s : Chip) : Chip :=
  let thr := s.levelThr r
  let v := s.rcvOf r
  let lol := (s.txd.get r.carrier).pllLol
  let s1 :=
    if !lol && decide (4 * thr.1 ≤ sum) then
      let first := if v.present = 0 then s.now - 2048 else v.firstPresent
      let s0 := (s.setRcv r { v with present := v.present + 1, absent := 0, firstPresent := first }).endLos r
      if v.state = 1 ∧ v.sdNeed ≤ v.present + 1 then s0.signalDetected r else s0
    else if lol || decide (sum < 4 * thr.2) then
      let s0 := s.setRcv r { v with present := 0, absent := v.absent + 1 }
      if !v.los && decide (v.losNeed ≤ v.absent + 1) then s0.declareLos r else s0
    else s
  s1.rcvEnd r

/-- SIGNAL_WINDOW. -/
def execSignalWindow (r : Rcv) (sum : Nat) (s : State) : Result := s.to (doSignalWindow r sum s.chip)

/-- ACQ_EN_SET (R105): IDLE is left for DETECT with WARM = 0; in subcarrier mode by every receive-enabled subcarrier (R149). -/
def doAcqEnSet (c : Carrier) (s : Chip) : Chip :=
  let s1 := s.setFlag (Reg.ACQ.ACQ_CTRL.ACQ_EN c) true
  (s1.receivers c).foldl (fun t r => if (t.rcvOf r).state = 0 then (t.enterDetect r false).rcvEnd r else t) s1

/-- ACQ_EN_SET. -/
def execAcqEnSet (c : Carrier) (s : State) : Result := s.to (doAcqEnSet c s.chip)

/-- Every receiver of a carrier, in use or not. -/
def Carrier.allReceivers (c : Carrier) : List Rcv := .car c :: (List.finRange 16).map (.sub c)

/-- ACQ_EN_CLEAR (R105): every receiver of the carrier goes to IDLE. -/
def doAcqEnClear (c : Carrier) (s : Chip) : Chip :=
  let s1 := s.setFlag (Reg.ACQ.ACQ_CTRL.ACQ_EN c) false
  (Carrier.allReceivers c).foldl (fun t r => (t.enterIdle r).rcvEnd r) s1

/-- ACQ_EN_CLEAR. -/
def execAcqEnClear (c : Carrier) (s : State) : Result := s.to (doAcqEnClear c s.chip)

/-- A restart of one receiver (R105): DETECT, cold with the warm state discarded, or with WARM = WARM_VALID; LOST where the state was
ACQUIRED. -/
def Chip.restart (s : Chip) (r : Rcv) (cold : Bool) : Chip :=
  let v := s.rcvOf r
  if v.state = 0 then s
  else
    let s1 := if cold then s.modRcv r RcvSt.discardWarm else s
    let s2 := s1.enterDetect r (!cold && v.warmValid)
    if v.state = 8 then s2.raiseRcv r Ev.ACQ.LOST Ev.SUBC.SC_LOST else s2

/-- RESTART_COLD (R105). -/
def doRestartCold (c : Carrier) (s : Chip) : Chip :=
  (s.receivers c).foldl (fun t r => (t.restart r true).rcvEnd r) s

/-- RESTART_COLD. -/
def execRestartCold (c : Carrier) (s : State) : Result := s.to (doRestartCold c s.chip)

/-- RESTART_WARM (R105). -/
def doRestartWarm (c : Carrier) (s : Chip) : Chip :=
  (s.receivers c).foldl (fun t r => (t.restart r false).rcvEnd r) s

/-- RESTART_WARM. -/
def execRestartWarm (c : Carrier) (s : State) : Result := s.to (doRestartWarm c s.chip)

/-- The frequency offset left its range: CFR_RANGE for a carrier, FOFS_RANGE for a subcarrier, and CFR_LOCK clears (R88, R149). -/
def Chip.offRange (s : Chip) (r : Rcv) : Chip :=
  (s.raiseRcv r Ev.RXD.CFR_RANGE Ev.SUBC.FOFS_RANGE).setLock r .cfrLock false

/-- COARSE_FREQ_DONE (R104, R105, R149): out of range restarts cold; otherwise the scan, or in FIXED mode TRAIN_CORR with the filter
at CD_SET. -/
def doCoarseFreqDone (r : Rcv) (mhz : Int) (s : Chip) : Chip :=
  if (s.rcvOf r).state ≠ 2 then s
  else
    let c := r.carrier
    let s1 := match r with
      | .car c => s.setS (Reg.ACQ.COARSE_FOFS.FOFS c) mhz
      | .sub _ _ => s
    let limit : Nat := match r with | .car _ => 5000 | .sub _ _ => 1000
    let s2 :=
      if limit < mhz.natAbs then (s1.offRange r).coldRestart r
      else
        let s3 := s1.modRcv r fun v => { v with fofs := mhz }
        if s3.flag (Reg.RXD.RX_STAT.CD_MODE_ACTIVE c) then
          s3.modRcv r fun v => { v with state := 4, cd := sgn 32 (s3.act (Reg.RXD.CD_SET.addr c)).toNat }
        else s3.startScan r
    s2.rcvEnd r

/-- COARSE_FREQ_DONE. -/
def execCoarseFreqDone (r : Rcv) (mhz : Int) (s : State) : Result := s.to (doCoarseFreqDone r mhz s.chip)

/-- Whether a tested candidate replaces the best so far: a larger metric, or an equal one nearer to CD_SET (R106). -/
def Scan.better (set : Int) (cand : Int × Nat) : Option (Int × Nat) → Bool
  | none => true
  | some b => decide (b.2 < cand.2) || (decide (b.2 = cand.2) && decide ((cand.1 - set).natAbs < (b.1 - set).natAbs))

/-- The scan after a batch (R106): its first candidates are tested in order. -/
def Scan.batch (sc : Scan) (set : Int) (metrics : List Nat) : Scan :=
  let tested := sc.todo.zip metrics
  { sc with todo := sc.todo.drop tested.length
            best := tested.foldl (fun b x => if Scan.better set x b then some x else b) sc.best }

/-- SCAN_BATCH (R106, R149): one candidate per engine in service is tested; the coarse pass is followed by the fine pass, and that by
the result: TRAIN_CORR with the filter at it, or SCAN_FAIL and a cold restart. -/
def doScanBatch (r : Rcv) (metrics : List Nat) (s : Chip) : Chip :=
  let v := s.rcvOf r
  let c := r.carrier
  if v.state ≠ 3 ∨ v.scan.running = false then s
  else
    let set := sgn 32 (s.act (Reg.RXD.CD_SET.addr c)).toNat
    let k := ((s.grpOf c 0).inServiceUnits 0).length
    let sc := v.scan.batch set (metrics.take k)
    let s1 :=
      if sc.todo ≠ [] then s.setRcv r { v with scan := sc }
      else if !sc.fine then
        let best := (sc.best.map Prod.fst).getD set
        s.setRcv r { v with scan := { sc with fine := true, best := none, todo := scanFine sc.lo sc.hi sc.step best } }
      else
        let res := sc.best.getD (set, 0)
        let s2 := match r with
          | .car c => s.setS (Reg.ACQ.SCAN_CD.CD c) res.1
          | .sub _ _ => s
        if s2.getF (Reg.ACQ.TRAIN_CFG.SCAN_THR c) ≤ res.2 then
          s2.setRcv r { v.noPartial with state := 4, cd := res.1 }
        else (s2.raiseCar r Ev.ACQ.SCAN_FAIL).coldRestart r
    s1.rcvEnd r

/-- SCAN_BATCH. -/
def execScanBatch (r : Rcv) (metrics : List Nat) (s : State) : Result := s.to (doScanBatch r metrics s.chip)

/-- TRAIN_PERIOD (R107): a candidate is confirmed once its peak has recurred TRAIN_CONFIRM times; without its peak it is discarded for
the strongest new one. -/
def doTrainPeriod (r : Rcv) (peak : Bool) (strongest : Option Nat) (s : Chip) : Chip :=
  let v := s.rcvOf r
  if v.state ≠ 4 then s
  else
    let need := max 1 (s.getF (Reg.ACQ.TRAIN_CFG.TRAIN_CONFIRM r.carrier))
    let s1 :=
      if v.cand.isNone then s.setRcv r { v with cand := strongest, confirms := 0 }
      else if peak then
        if need ≤ v.confirms + 1 then s.setRcv r { v with state := 5, confirms := v.confirms + 1 }
        else s.setRcv r { v with confirms := v.confirms + 1 }
      else
        let s2 := s.setRcv r { v with cand := strongest, confirms := 0 }
        match r with
        | .car c => (s2.bumpSat (Reg.ACQ.FALSE_TRAIN_CNT.COUNT c)).raise (Ev.ACQ.FALSE_TRAIN c)
        | .sub _ _ => s2
    s1.rcvEnd r

/-- TRAIN_PERIOD. -/
def execTrainPeriod (r : Rcv) (peak : Bool) (strongest : Option Nat) (s : State) : Result :=
  s.to (doTrainPeriod r peak strongest s.chip)

/-- POL_TIMING_LOCK (R104, R105): both flags are 1, and POL_TIMING is left for PILOT_LOCK. -/
def doPolTimingLock (r : Rcv) (s : Chip) : Chip :=
  let s1 := (s.setLock r .bflyConv true).setLock r .trLock true
  (if (s1.rcvOf r).state = 5 then s1.modRcv r fun v => { v with state := 6 } else s1).rcvEnd r

/-- POL_TIMING_LOCK. -/
def execPolTimingLock (r : Rcv) (s : State) : Result := s.to (doPolTimingLock r s.chip)

/-- PILOT_LOCK_DONE (R104, R105, R175, R178): both flags are 1, and PILOT_LOCK is left for FRAME_ALIGN, where the aligner of the trail
restarts. -/
def doPilotLockDone (r : Rcv) (s : Chip) : Chip :=
  let s1 := (s.setLock r .cfrLock true).setLock r .cprLock true
  if (s1.rcvOf r).state = 6 then
    ((s1.modRcv r fun v => { v with state := 7 }).alignRestart r.carrier r.trail).rcvEnd r
  else s1.rcvEnd r

/-- PILOT_LOCK_DONE. -/
def execPilotLockDone (r : Rcv) (s : State) : Result := s.to (doPilotLockDone r s.chip)

/-- STAGE_BOUND_EXPIRED (R104, R105): the stage in progress has failed; a warm attempt raises WARM_FAIL and loses the warm state. -/
def doStageBoundExpired (r : Rcv) (s : Chip) : Chip :=
  let v := s.rcvOf r
  if v.state < 2 ∨ 7 < v.state then s
  else
    let s1 := if v.warm then (s.modRcv r RcvSt.discardWarm).raiseCar r Ev.ACQ.WARM_FAIL else s
    (s1.coldRestart r).rcvEnd r

/-- STAGE_BOUND_EXPIRED. -/
def execStageBoundExpired (r : Rcv) (s : State) : Result := s.to (doStageBoundExpired r s.chip)

/-- LOL_TIME_EXPIRED (R105): BFLY_CONV, TR_LOCK or CPR_LOCK has been 0 for LOL_TIME; ACQUIRED is left. -/
def doLolTimeExpired (r : Rcv) (s : Chip) : Chip :=
  let v := s.rcvOf r
  if v.state = 8 && !(v.bfly && v.tr && v.cpr) then (s.leaveAcquired r).rcvEnd r else s

/-- LOL_TIME_EXPIRED. -/
def execLolTimeExpired (r : Rcv) (s : State) : Result := s.to (doLolTimeExpired r s.chip)

/-- WARM_CAPTURE (R108): in ACQUIRED with all four flags 1 and a WARM_HOLD that is not 0, the warm state is captured. -/
def doWarmCapture (r : Rcv) (taps : Nat) (fofs sofs : Int) (s : Chip) : Chip :=
  let v := s.rcvOf r
  if v.state = 8 && v.bfly && v.tr && v.cfr && v.cpr && !decide (v.cfg.warmHold = 0) then
    let w : WarmRec := { cd := v.cd, bypass := s.flag (Reg.RXD.RX_STAT.NLC_BYPASS r.carrier), taps := taps, fofs := fofs, sofs := sofs }
    s.setRcv r { v with warmValid := true, warmRec := some w, taps := taps, fofs := fofs, sofs := sofs }
  else s

/-- WARM_CAPTURE. -/
def execWarmCapture (r : Rcv) (taps : Nat) (fofs sofs : Int) (s : State) : Result := s.to (doWarmCapture r taps fofs sofs s.chip)

/-- Whether a hub keeps the warm state of a subcarrier that it marked asleep (R152). -/
def Chip.keepsWarm (s : Chip) (r : Rcv) : Bool :=
  match r with
  | .car _ => false
  | .sub c q => decide (s.getF (Reg.SUBC.SC_STAT.ROLE_ACTIVE c) = 1) && s.bitOf (Reg.SUBC.SLEEP.MASK c) q.val
      && s.flag (Reg.SUBC.SC_CFG.KEEP_WARM c)

/-- WARM_HOLD_EXPIRED (R108, R152): WARM_VALID clears, unless ACQUIRED has been entered again or a hub keeps the warm state; a warm
attempt that waits in DETECT becomes cold. -/
def doWarmHoldExpired (r : Rcv) (s : Chip) : Chip :=
  if (s.rcvOf r).state = 8 || s.keepsWarm r then s else s.modRcv r RcvSt.discardWarm

/-- WARM_HOLD_EXPIRED. -/
def execWarmHoldExpired (r : Rcv) (s : State) : Result := s.to (doWarmHoldExpired r s.chip)

/-- ACQ_FAIL (R111): raised once for an acquisition that has not ended. -/
def doAcqFail (r : Rcv) (s : Chip) : Chip :=
  let v := s.rcvOf r
  if v.begun && !v.failRaised then (s.setRcv r { v with failRaised := true }).raiseCar r Ev.ACQ.ACQ_FAIL else s

/-- ACQ_FAIL. -/
def execAcqFail (r : Rcv) (s : State) : Result := s.to (doAcqFail r s.chip)

end Sys2Proof.Machine
end

