-- ==== Sys2Proof/Machine/Cipher.lean ====
section
/-! DEFINITION. The ciphers and digests that the spec takes from outside standards, over bytes as numbers below 256: AES of NIST FIPS 197, GCM of NIST SP 800-38D, the
CMAC of RFC 4493, the key unwrap of RFC 3394 and the SHA-256 of NIST FIPS 180-4. PRESUMED (log entry 4): the spec names them and gives no table. -/

namespace Sys2Proof.Machine

/-- Bytewise exclusive or. -/
def xorBytes (a b : List Nat) : List Nat := List.zipWith (fun x y => x ^^^ y) a b

/-- The bytes of a number, the most significant first. -/
def beBytes (n v : Nat) : List Nat := (List.range n).map fun i => v / 256 ^ (n - 1 - i) % 256

/-- The number that bytes spell, the most significant first. -/
def beNat (l : List Nat) : Nat := l.foldl (fun v b => v * 256 + b) 0

/-- The byte substitution of AES, rows of 16 bytes. -/
def sboxRows : List Nat :=
  [0x637C777BF26B6FC53001672BFED7AB76, 0xCA82C97DFA5947F0ADD4A2AF9CA472C0,
   0xB7FD9326363FF7CC34A5E5F171D83115, 0x04C723C31896059A071280E2EB27B275,
   0x09832C1A1B6E5AA0523BD6B329E32F84, 0x53D100ED20FCB15B6ACBBE394A4C58CF,
   0xD0EFAAFB434D338545F9027F503C9FA8, 0x51A3408F929D38F5BCB6DA2110FFF3D2,
   0xCD0C13EC5F974417C4A77E3D645D1973, 0x60814FDC222A908846EEB814DE5E0BDB,
   0xE0323A0A4906245CC2D3AC629195E479, 0xE7C8376D8DD54EA96C56F4EA657AAE08,
   0xBA78252E1CA6B4C6E8DD741F4BBD8B8A, 0x703EB5664803F60E613557B986C11D9E,
   0xE1F8981169D98E949B1E87E9CE5528DF, 0x8CA1890DBFE6426841992D0FB054BB16]

/-- The inverse substitution. -/
def invSboxRows : List Nat :=
  [0x52096AD53036A538BF40A39E81F3D7FB, 0x7CE339829B2FFF87348E4344C4DEE9CB,
   0x547B9432A6C2233DEE4C950B42FAC34E, 0x082EA16628D924B2765BA2496D8BD125,
   0x72F8F66486689816D4A45CCC5D65B692, 0x6C704850FDEDB9DA5E154657A78D9D84,
   0x90D8AB008CBCD30AF7E45805B8B34506, 0xD02C1E8FCA3F0F02C1AFBD0301138A6B,
   0x3A9111414F67DCEA97F2CFCEF0B4E673, 0x96AC7422E7AD3585E2F937E81C75DF6E,
   0x47F11A711D29C5896FB7620EAA18BE1B, 0xFC563E4BC6D279209ADBC0FE78CD5AF4,
   0x1FDDA8338807C731B11210592780EC5F, 0x60517FA919B54A0D2DE57A9F93C99CEF,
   0xA0E03B4DAE2AF5B0C8EBBB3C83539961, 0x172B047EBA77D626E169146355210C7D]

/-- A byte looked up in rows of 16. -/
def tableByte (rows : List Nat) (x : Nat) : Nat := rows.getD (x / 16) 0 / 256 ^ (15 - x % 16) % 256

/-- A byte times x modulo the polynomial of AES. -/
def xtime (b : Nat) : Nat := if b < 128 then 2 * b else (2 * b) ^^^ 0x11B

/-- A byte times a constant below 16. -/
def gmul (k b : Nat) : Nat :=
  let p := fun (i v : Nat) => if k.testBit i then v else 0
  p 0 b ^^^ p 1 (xtime b) ^^^ p 2 (xtime (xtime b)) ^^^ p 3 (xtime (xtime (xtime b)))

/-- The key schedule: the key of 4 n bytes as words, extended to 4 (n + 7) words of 4 bytes each. -/
def aesSchedule (key : List Nat) : List (List Nat) :=
  let n := key.length / 4
  let first := (List.range n).map fun i => (key.drop (4 * i)).take 4
  let sub := fun (w : List Nat) => w.map (tableByte sboxRows)
  let rcon := fun (i : Nat) => (List.range (i - 1)).foldl (fun v _ => xtime v) 1
  ((List.range (4 * (n + 7) - n)).foldl (fun l k =>
    let i := n + k
    let t := l.headD []
    let t1 := if i % n = 0 then xorBytes (sub (t.drop 1 ++ t.take 1)) [rcon (i / n), 0, 0, 0]
      else if n = 8 ∧ i % n = 4 then sub t else t
    xorBytes (l.getD (n - 1) []) t1 :: l) first.reverse).reverse

/-- The round key of a round. -/
def roundKey (w : List (List Nat)) (r : Nat) : List Nat := ((w.drop (4 * r)).take 4).flatten

/-- Rows shifted left by k times their number, columns of 4 bytes. -/
def shiftRows (k : Nat) (b : List Nat) : List Nat := (List.range 16).map fun i => b.getD ((i + k * 4 * (i % 4)) % 16) 0

/-- Each column multiplied by the circulant matrix of four constants. -/
def mixColumns (m : List Nat) (b : List Nat) : List Nat :=
  (List.range 16).map fun i => (List.range 4).foldl (fun v j => v ^^^ gmul (m.getD ((j + 4 - i % 4) % 4) 0) (b.getD (i / 4 * 4 + j) 0)) 0

/-- AES encryption of a 16-byte block; the key's length, 16, 24 or 32 bytes, chooses the rounds. -/
def aesEncrypt (key block : List Nat) : List Nat :=
  let w := aesSchedule key
  let rounds := key.length / 4 + 6
  (List.range rounds).foldl (fun b i =>
    let c := shiftRows 1 (b.map (tableByte sboxRows))
    let d := if i + 1 = rounds then c else mixColumns [2, 3, 1, 1] c
    xorBytes d (roundKey w (i + 1))) (xorBytes block (roundKey w 0))

/-- AES decryption of a 16-byte block. -/
def aesDecrypt (key block : List Nat) : List Nat :=
  let w := aesSchedule key
  let rounds := key.length / 4 + 6
  (List.range rounds).foldl (fun b i =>
    let c := xorBytes b (roundKey w (rounds - i))
    let d := if i = 0 then c else mixColumns [14, 11, 13, 9] c
    (shiftRows 3 d).map (tableByte invSboxRows)) block |> fun b => xorBytes b (roundKey w 0)

/-- A 128-bit number doubled in the field of the CMAC. -/
def cmacDouble (v : Nat) : Nat := if v < 2 ^ 127 then 2 * v else (2 * v - 2 ^ 128) ^^^ 0x87

/-- The CMAC of a message (RFC 4493), with AES under the key given. -/
def cmac (key msg : List Nat) : List Nat :=
  let k1 := cmacDouble (beNat (aesEncrypt key (List.replicate 16 0)))
  let n := max 1 ((msg.length + 15) / 16)
  let tail := msg.drop (16 * (n - 1))
  let final := if tail.length = 16 then xorBytes tail (beBytes 16 k1)
    else xorBytes (tail ++ [0x80] ++ List.replicate (15 - tail.length) 0) (beBytes 16 (cmacDouble k1))
  let chained := (List.range (n - 1)).foldl (fun x i => aesEncrypt key (xorBytes x ((msg.drop (16 * i)).take 16))) (List.replicate 16 0)
  aesEncrypt key (xorBytes chained final)

/-- The AES key unwrap of RFC 3394 with the default initial value: the bytes recovered, or none where that value does not come out. -/
def keyUnwrap (kek blob : List Nat) : Option (List Nat) :=
  let n := blob.length / 8 - 1
  let semi := fun (i : Nat) => (blob.drop (8 * i)).take 8
  let out := (List.range (6 * n)).foldl (fun (p : List Nat × List (List Nat)) k =>
    let t := 6 * n - k
    let i := (t - 1) % n
    let b := aesDecrypt kek (xorBytes p.1 (beBytes 8 t) ++ p.2.getD i [])
    (b.take 8, p.2.set i (b.drop 8))) (semi 0, (List.range n).map fun i => semi (i + 1))
  if out.1 = List.replicate 8 0xA6 then some out.2.flatten else none

/-- A product in the field of GCM, whose blocks hold the coefficient of x^0 in their most significant bit. -/
def ghashMul (x y : Nat) : Nat :=
  ((List.range 128).foldl (fun (p : Nat × Nat) i =>
    (if x.testBit (127 - i) then p.1 ^^^ p.2 else p.1, if p.2 % 2 = 1 then (p.2 / 2) ^^^ (0xE1 * 2 ^ 120) else p.2 / 2)) (0, y)).1

/-- The blocks of 16 bytes of a string, the last one filled with zeros, as numbers. -/
def blocks16 (l : List Nat) : List Nat :=
  (List.range ((l.length + 15) / 16)).map fun i =>
    let b := (l.drop (16 * i)).take 16
    beNat (b ++ List.replicate (16 - b.length) 0)

/-- The counter blocks' stream XORed onto a string, from the block J0 + 1 on, for an IV of 12 bytes. -/
def gcmCtr (key iv text : List Nat) : List Nat :=
  (List.range ((text.length + 15) / 16)).flatMap fun i =>
    xorBytes ((text.drop (16 * i)).take 16) (aesEncrypt key (iv ++ beBytes 4 (i + 2)))

/-- The tag of a ciphertext and its additional data under GCM (NIST SP 800-38D) with an IV of 12 bytes. -/
def gcmTag (key iv aad text : List Nat) : List Nat :=
  let h := beNat (aesEncrypt key (List.replicate 16 0))
  let g := (blocks16 aad ++ blocks16 text ++ [8 * aad.length * 2 ^ 64 + 8 * text.length]).foldl (fun y x => ghashMul (y ^^^ x) h) 0
  xorBytes (beBytes 16 g) (aesEncrypt key (iv ++ [0, 0, 0, 1]))

/-- The round constants of SHA-256. -/
def shaK : List Nat :=
  [0x428A2F98, 0x71374491, 0xB5C0FBCF, 0xE9B5DBA5, 0x3956C25B, 0x59F111F1, 0x923F82A4, 0xAB1C5ED5] ++
  [0xD807AA98, 0x12835B01, 0x243185BE, 0x550C7DC3, 0x72BE5D74, 0x80DEB1FE, 0x9BDC06A7, 0xC19BF174] ++
  [0xE49B69C1, 0xEFBE4786, 0x0FC19DC6, 0x240CA1CC, 0x2DE92C6F, 0x4A7484AA, 0x5CB0A9DC, 0x76F988DA] ++
  [0x983E5152, 0xA831C66D, 0xB00327C8, 0xBF597FC7, 0xC6E00BF3, 0xD5A79147, 0x06CA6351, 0x14292967] ++
  [0x27B70A85, 0x2E1B2138, 0x4D2C6DFC, 0x53380D13, 0x650A7354, 0x766A0ABB, 0x81C2C92E, 0x92722C85] ++
  [0xA2BFE8A1, 0xA81A664B, 0xC24B8B70, 0xC76C51A3, 0xD192E819, 0xD6990624, 0xF40E3585, 0x106AA070] ++
  [0x19A4C116, 0x1E376C08, 0x2748774C, 0x34B0BCB5, 0x391C0CB3, 0x4ED8AA4A, 0x5B9CCA4F, 0x682E6FF3] ++
  [0x748F82EE, 0x78A5636F, 0x84C87814, 0x8CC70208, 0x90BEFFFA, 0xA4506CEB, 0xBEF9A3F7, 0xC67178F2]

/-- The working variables of SHA-256. -/
structure ShaSt where
  a : Word := 0x6A09E667
  b : Word := 0xBB67AE85
  c : Word := 0x3C6EF372
  d : Word := 0xA54FF53A
  e : Word := 0x510E527F
  f : Word := 0x9B05688C
  g : Word := 0x1F83D9AB
  h : Word := 0x5BE0CD19
deriving DecidableEq, Repr

/-- A word rotated right. -/
def rotr (x : Word) (n : Nat) : Word := (x >>> n) ||| (x <<< (32 - n))

/-- The message schedule of a block of 64 bytes. -/
def shaSchedule (block : List Nat) : List Word :=
  let first := (List.range 16).map fun i => BitVec.ofNat 32 (beNat ((block.drop (4 * i)).take 4))
  ((List.range 48).foldl (fun (l : List Word) _ =>
    let x := l.getD 14 0
    let y := l.getD 1 0
    let s0 := rotr x 7 ^^^ rotr x 18 ^^^ (x >>> 3)
    let s1 := rotr y 17 ^^^ rotr y 19 ^^^ (y >>> 10)
    (l.getD 15 0 + s0 + l.getD 6 0 + s1) :: l) first.reverse).reverse

/-- One round of SHA-256 with its constant and schedule word. -/
def ShaSt.round (v : ShaSt) (k w : Word) : ShaSt :=
  let s1 := rotr v.e 6 ^^^ rotr v.e 11 ^^^ rotr v.e 25
  let ch := (v.e &&& v.f) ^^^ (~~~v.e &&& v.g)
  let t1 := v.h + s1 + ch + k + w
  let s0 := rotr v.a 2 ^^^ rotr v.a 13 ^^^ rotr v.a 22
  let maj := (v.a &&& v.b) ^^^ (v.a &&& v.c) ^^^ (v.b &&& v.c)
  { a := t1 + (s0 + maj), b := v.a, c := v.b, d := v.c, e := v.d + t1, f := v.e, g := v.f, h := v.g }

/-- The digest's state after a block. -/
def ShaSt.block (v : ShaSt) (block : List Nat) : ShaSt :=
  let u := ((shaSchedule block).zip shaK).foldl (fun u p => u.round (BitVec.ofNat 32 p.2) p.1) v
  { a := v.a + u.a, b := v.b + u.b, c := v.c + u.c, d := v.d + u.d, e := v.e + u.e, f := v.f + u.f, g := v.g + u.g, h := v.h + u.h }

/-- The SHA-256 digest of a message, 32 bytes. -/
def sha256 (msg : List Nat) : List Nat :=
  let padded := msg ++ [0x80] ++ List.replicate ((119 - msg.length % 64) % 64) 0 ++ beBytes 8 (8 * msg.length)
  let v := (List.range (padded.length / 64)).foldl (fun v i => ShaSt.block v ((padded.drop (64 * i)).take 64)) ({} : ShaSt)
  [v.a, v.b, v.c, v.d, v.e, v.f, v.g, v.h].flatMap fun x => beBytes 4 x.toNat

end Sys2Proof.Machine
end

