-- ==== Sys2Proof/Machine/FlashOps.lean ====
section
/-! DEFINITION. The flash as the boot controller and firmware read it, and the calibration slots (R374, R376, R507, R508). -/

namespace Sys2Proof.Machine

/-- A byte of the flash; a byte that nothing has programmed reads 0xFF. -/
def Chip.flashByte (s : Chip) (a : Nat) : Nat := Tab.get 0xFF s.boot.flash a

/-- Bytes of the flash from an address. -/
def Chip.flashBytes (s : Chip) (a n : Nat) : List Nat := (List.range n).map fun i => s.flashByte (a + i)

/-- A byte of the flash replaced. -/
def Chip.setFlash (s : Chip) (a b : Nat) : Chip := { s with boot := { s.boot with flash := Tab.put 0xFF s.boot.flash a (b % 256) } }

/-- Bytes of the flash replaced from an address. -/
def Chip.setFlashBytes (s : Chip) (a : Nat) (l : List Nat) : Chip := l.zipIdx.foldl (fun u p => u.setFlash (a + p.2) p.1) s

/-- The number that bytes spell, least significant first (the image and the calibration records are little-endian). -/
def ofLe (l : List Nat) : Nat := l.foldr (fun b n => b + 256 * n) 0

/-- n bytes of a number, least significant first. -/
def toLe (n v : Nat) : List Nat := (List.range n).map fun i => v / 256 ^ i % 256

/-- A little-endian number of n bytes in the flash. -/
def Chip.flashLe (s : Chip) (a n : Nat) : Nat := ofLe (s.flashBytes a n)

/-- Whether an offset may hold a calibration slot (R507). -/
def slotPlace (ofs : Nat) : Bool := ofs % 0x10000 == 0 && decide (0xE00000 ≤ ofs) && decide (ofs + 0x10000 ≤ 0x1000000)

/-- Whether a calibration slot is valid (R508). -/
def Chip.calSlotValid (s : Chip) (ofs : Nat) : Bool :=
  let len := s.flashLe (ofs + 20) 4
  slotPlace ofs && s.flashLe ofs 4 == 0x4C41434B && s.flashLe (ofs + 4) 2 == 1 && s.flashLe (ofs + 6) 2 == 0x3216
    && s.flashLe (ofs + 8) 8 == s.fuse.serial && s.flashLe (ofs + 26) 2 == s.boot.hdr.fwIf / 65536 && decide (len ≤ 65496)
    && s.flashLe (ofs + 36 + len) 4 == crc32c (s.flashBytes ofs (36 + len))

/-- Whether the slots A and B are valid; where CAL_A equals CAL_B, slot B is not (R507). -/
def Chip.calSlots (s : Chip) : Bool × Bool :=
  let a := s.boot.hdr.calA
  let b := s.boot.hdr.calB
  (s.calSlotValid a, a != b && s.calSlotValid b)

/-- Firmware loads the calibration (R373, R508): the valid slot with the higher SEQ modulo 2^32, A where they are equal; else the factory
record, with NO_CAL. -/
def Chip.calLoad (s : Chip) : Chip :=
  let v := s.calSlots
  let qa := s.flashLe (s.boot.hdr.calA + 16) 4
  let qb := s.flashLe (s.boot.hdr.calB + 16) 4
  let d := (qa + 2 ^ 32 - qb) % 2 ^ 32
  let src := if v.1 && (!v.2 || d < 2 ^ 31) then 1 else if v.2 then 2 else 3
  let seq := if src = 1 then qa else if src = 2 then qb else 0
  let s1 := (s.setFlag Reg.TST.CAL_STAT.VALID_A v.1).setFlag Reg.TST.CAL_STAT.VALID_B v.2
  let s2 := ((s1.setF Reg.TST.CAL_STAT.SOURCE src).setF Reg.TST.CAL_SEQ.SEQ seq).setFlag Reg.BOOT.BOOT_STAT.NO_CAL (src == 3)
  { s2 with tst := { s2.tst with calSeq := seq } }

/-- The record that firmware stores (R507, R509). -/
def Chip.calRecord (s : Chip) (seq tj : Nat) (values : List Nat) : List Nat :=
  let body := toLe 4 0x4C41434B ++ toLe 2 1 ++ toLe 2 0x3216 ++ toLe 8 s.fuse.serial ++ toLe 4 seq ++ toLe 4 values.length
    ++ toLe 4 s.boot.hdr.fwIf ++ toLe 2 tj ++ toLe 6 0 ++ values
  body ++ toLe 4 (crc32c body)

end Sys2Proof.Machine
end

