-- ==== Sys2Proof/Machine/PoolOps.lean ====
section
/-! DEFINITION. The pools: words with their error correction, the correction tracker, the memory event queue, reads and writes through
either port, and the error responses of the bus matrix (R397 to R410, R416). -/

namespace Sys2Proof.Machine

/-- The number of bits set in a number below 2^width. -/
def ones (n width : Nat) : Nat := (List.range width).countP n.testBit

/-- The data bits that a mask of byte enables covers. -/
def byteMask (be : Nat) : Nat := (List.range 8).foldl (fun m i => if be.testBit i then m + 255 * 2 ^ (8 * i) else m) 0

/-- The pool that a word index lies in: 131,072 words each (R397). -/
def poolOfWord (w : Nat) : Nat := w / 131072

/-- The internal address of a word (R397). -/
def wordAddr (w : Nat) : Nat := 0x80000000 + 8 * w

/-- A word of the pools. -/
def Chip.poolWord (s : Chip) (w : Nat) : PoolWord := Tab.get {} s.pool.words w

/-- A word of the pools replaced. -/
def Chip.setPoolWord (s : Chip) (w : Nat) (v : PoolWord) : Chip :=
  { s with pool := { s.pool with words := Tab.put {} s.pool.words w v } }

/-- The head registers of the memory event queue follow its head; what they read while it is empty is left open (R410, R418). -/
def Chip.mevShow (s : Chip) : Chip :=
  let s0 := s.setF Reg.POOL.MEV_STAT.COUNT s.pool.mev.length
  match s.pool.mev with
  | e :: _ =>
    let s2 := (s0.setF Reg.POOL.MEV_HEAD_INFO.TYPE e.type).setF Reg.POOL.MEV_HEAD_INFO.POOL e.pool
    (s2.setF Reg.POOL.MEV_HEAD_INFO.MASTER e.master).setF Reg.POOL.MEV_HEAD_ADDR.ADDR e.addr
  | [] =>
    [Reg.POOL.MEV_HEAD_INFO.TYPE, Reg.POOL.MEV_HEAD_INFO.POOL, Reg.POOL.MEV_HEAD_INFO.MASTER, Reg.POOL.MEV_HEAD_ADDR.ADDR].foldl
      (fun u f => u.free.2.setF f u.free.1) s0

/-- A memory event is queued; a full queue of 16 drops it, counts it and raises MEV_OVF (R410). -/
def Chip.mevPush (s : Chip) (type w : Nat) (master : Option Nat) : Chip :=
  if 16 ≤ s.pool.mev.length then (s.bumpSat Reg.POOL.MEV_STAT.OVF).raise Ev.POOL.MEV_OVF
  else
    let e : MemEvent := { type := type, pool := poolOfWord w, addr := wordAddr w, master := master.getD (s.free.1 % 8) }
    let s1 := if master.isNone then s.free.2 else s
    { s1 with pool := { s1.pool with mev := s1.pool.mev ++ [e] } }.mevShow

/-- A correction of a word (R403, R405): CORR with its count and, with LOG_CORR, its entry; a word still in the tracker raises
HARD_SUSPECT; of 17 tracked words the one corrected longest ago leaves. -/
def Chip.corrected (s : Chip) (w : Nat) (master : Option Nat) : Chip :=
  let s1 := ((s.bump (Reg.POOL.CORR_CNT.COUNT (poolOfWord w))).raise Ev.POOL.CORR).evc (40 + poolOfWord w)
  let s2 := if s1.flag Reg.POOL.POOL_CFG.LOG_CORR then s1.mevPush 1 w master else s1
  let s3 := if s2.pool.track.contains w then (s2.raise Ev.POOL.HARD_SUSPECT).mevPush 5 w none else s2
  { s3 with pool := { s3.pool with track := (w :: s3.pool.track.filter fun x => x != w).take 16 } }

/-- What a check of a word finds (R401, R404). -/
inductive WordCheck where
  | good | single | uncorr | poisoned | open_
deriving DecidableEq, Repr

/-- The check of one unit: the number of wrong bits, and whether it holds the poison pattern. A single further error leaves a poisoned
unit UNCORR; more than two wrong bits have no stated result. -/
def unitCheck (wrong : Nat) (poison : Bool) : WordCheck :=
  if poison then (if wrong = 0 then .poisoned else .uncorr)
  else match wrong with
    | 0 => .good
    | 1 => .single
    | 2 => .uncorr
    | _ => .open_

/-- The units of a word: the word in pools 0 to 2, its bytes in pool 3 (R401). -/
def PoolWord.units (v : PoolWord) (pool : Nat) : List WordCheck :=
  if pool = 3 then (List.range 8).map fun i =>
    unitCheck (ones (v.flips / 2 ^ (8 * i)) 8 + ones (v.chk / 2 ^ (5 * i)) 5) (v.poison.testBit i)
  else [unitCheck (ones v.flips 64 + ones v.chk 8) (v.poison != 0)]

/-- The check of a whole word, over every unit of it; a word with a byte never written has no stated result (R400, R401). -/
def PoolWord.check (v : PoolWord) (pool : Nat) : WordCheck :=
  let u := v.units pool
  if v.known ≠ 255 ∨ u.contains .open_ then .open_
  else if u.contains .uncorr then .uncorr
  else if u.contains .poisoned then .poisoned
  else if u.contains .single then .single
  else .good

/-- A word with its poison pattern (R404). -/
def PoolWord.poisonPattern : PoolWord := { data := 0, flips := 0, chk := 0, known := 255, poison := 255 }

/-- What a read of a word finds, with free values where the spec states no result: any of the four outcomes, and any data. -/
def Chip.wordFind (s : Chip) (w : Nat) : WordCheck × Nat × Chip :=
  let v := s.poolWord w
  match v.check (poolOfWord w) with
  | .open_ =>
    let a := s.free
    let b := a.2.free
    let k := match a.1 % 4 with | 0 => WordCheck.good | 1 => .single | 2 => .uncorr | _ => .poisoned
    (k, b.1 % 2 ^ 64, b.2)
  | k => (k, v.data, s)

/-- Bits of a word upset since its last access. -/
def Chip.upset (s : Chip) (w data chk : Nat) : Chip :=
  if data = 0 ∧ chk = 0 then s
  else
    let v := s.poolWord w
    s.setPoolWord w { v with flips := v.flips ^^^ (data % 2 ^ 64), chk := v.chk ^^^ (chk % 2 ^ 40) }

/-- A read of a word through a port by a master (R401, R403, R404): its data, corrected where one bit was wrong; or the cause of an error
response, with the poison pattern written. -/
def Chip.readWord64 (s : Chip) (w m : Nat) : (Nat ⊕ Nat) × Chip :=
  let r := s.wordFind w
  let u := r.2.2
  let v := u.poolWord w
  match r.1 with
  | .good => (.inl r.2.1, u)
  | .single => (.inl r.2.1, (u.setPoolWord w { v with flips := 0, chk := 0 }).corrected w (some m))
  | .poisoned => (.inr 5, (u.raise Ev.POOL.POISON_READ).mevPush 4 w (some m))
  | _ =>
    let u1 := (u.setPoolWord w PoolWord.poisonPattern).bump (Reg.POOL.UNCORR_CNT.COUNT (poolOfWord w))
    (.inr 4, (u1.raise Ev.POOL.UNCORR).mevPush 2 w (some m))

/-- A write of a word by byte enables, with the armed flip mask (R401, R404, R409): it clears the poison and the errors of what it
writes. -/
def Chip.writeWord64 (s : Chip) (w be data : Nat) : Chip :=
  let pool := poolOfWord w
  let v := s.poolWord w
  let m := byteMask be
  let all := 2 ^ 64 - 1
  let armed := s.flag Reg.POOL.ECC_FLIP_CTL.ARM && s.getF Reg.POOL.ECC_FLIP_CTL.POOL == pool
  let mask := if armed then (s.getF Reg.POOL.ECC_FLIP_LO.MASK + s.getF Reg.POOL.ECC_FLIP_HI.MASK * 2 ^ 32) &&& m else 0
  let lane := s.getF Reg.POOL.ECC_FLIP_CTL.BYTE
  let keepChk := if pool = 3 then
      (List.range 8).foldl (fun c i => if be.testBit i then c else c + (v.chk &&& (31 * 2 ^ (5 * i)))) 0
    else 0
  let newChk := if !armed then 0
    else if pool = 3 then (if be.testBit lane then s.getF Reg.POOL.ECC_FLIP_CTL.CHK % 32 * 2 ^ (5 * lane) else 0)
    else s.getF Reg.POOL.ECC_FLIP_CTL.CHK
  let v' : PoolWord :=
    { data := (v.data &&& (all - m)) ||| (data &&& m), flips := (v.flips &&& (all - m)) ||| mask, chk := keepChk ^^^ newChk
      known := v.known ||| be, poison := v.poison - (v.poison &&& be) }
  let s1 := s.setPoolWord w v'
  if armed then s1.setFlag Reg.POOL.ECC_FLIP_CTL.ARM false else s1

/-- Whether a master's pool writes are checked against the owner (R398). -/
def ownerChecked (m : Nat) : Bool := decide (m ≤ 4)

/-- The cause that refuses a write of a word through port A, if any: OWN, then SUBWORD (R399, R401). -/
def Chip.writeRefused (s : Chip) (w be m : Nat) : Option Nat :=
  if ownerChecked m && s.getF (Reg.POOL.POOL_OWN.OWNER (poolOfWord w)) != m then some 3
  else if poolOfWord w ≠ 3 ∧ be ≠ 255 then some 2 else none

/-- An error response delivered to a master (R416, R447): counted, latched if the latch is free, BUS_ERR raised. -/
def Chip.busError (s : Chip) (m target cause addr : Nat) : Chip :=
  let s0 := if m < 4 then s.evc (8 * m + 4) else s
  let s1 := (s0.bump Reg.POOL.BM_ERR_CNT.COUNT).raise Ev.POOL.BUS_ERR
  let s2 := if s1.flag Reg.POOL.BM_ERR_INFO.VALID then s1
    else
      let a := ((s1.setFlag Reg.POOL.BM_ERR_INFO.VALID true).setF Reg.POOL.BM_ERR_INFO.CAUSE cause).setF Reg.POOL.BM_ERR_INFO.TARGET target
      (a.setF Reg.POOL.BM_ERR_INFO.MASTER m).setF Reg.POOL.BM_ERR_ADDR.ADDR addr
  { s2 with resp := Store.set (fun _ => BusResp.done) s2.resp m (.err cause) }

/-- A response without an error. -/
def Chip.respond (s : Chip) (m : Nat) (r : BusResp) : Chip := { s with resp := Store.set (fun _ => BusResp.done) s.resp m r }

/-- The capture engine writes one byte of the pools through port B (R398, R401): a sub-word write of pools 0 to 2 is not written. -/
def Chip.captureWrite (s : Chip) (off byte : Nat) : Chip :=
  let w := off / 8 % 524288
  if poolOfWord w = 3 then s.writeWord64 w (2 ^ (off % 8)) (byte * 2 ^ (8 * (off % 8))) else s

/-- The capture engine reads one byte of the pools through port B as master 5 (R398, R410); the byte of an erroneous word is open. -/
def Chip.captureRead (s : Chip) (off : Nat) : Nat × Chip :=
  let w := off / 8 % 524288
  let r := s.readWord64 w 5
  match r.1 with
  | .inl d => (d / 2 ^ (8 * (off % 8)) % 256, r.2)
  | .inr _ => (r.2.free.1 % 256, r.2.free.2)

end Sys2Proof.Machine
end

