-- ==== Sys2Proof/Machine/Apply.lean ====
section
/-! DEFINITION. The transmit state machine with its ramps, the application of a committed line configuration, the carrier mode with the
shared frame generator, and the subcarrier masks in effect (R36 to R39, R59 to R62, R144 to R153, R254, R305). -/

namespace Sys2Proof.Machine

/-- The state of a carrier's transmitter (R60, R66): 0 = OFF, 1 = RAMP_UP, 2 = ON, 3 = RAMP_DOWN, 4 = MUTED. -/
def Chip.txState (s : Chip) (c : Carrier) : Nat := s.getF (Reg.TXD.LINE_STAT.STATE c)

/-- A change of the transmitter's hidden state. -/
def Chip.modTxd (s : Chip) (c : Carrier) (f : TxdSt → TxdSt) : Chip := { s with txd := s.txd.put c (f (s.txd.get c)) }

/-- The smallest attenuation step reached: the greatest a at most 300 with 10^a × num^100 ≤ den^100, which is the attenuation of the
power num / den in 0.1 dB, rounded down. -/
def attenOfPower (num den : Nat) : Nat :=
  ((List.range 301).reverse.find? fun a => decide (10 ^ a * num ^ 100 ≤ den ^ 100)).getD 0

/-- The attenuation of a ramp (R59) from a level in 0.1 dB, after a number of clocks, in a mode and a full time in units of 10 µs; the level
moves every 64 clocks. What rounding a report between two units takes, and the course of a linear-power ramp that starts between the
ends, are left open (the argument `free`). -/
def rampLevel (up : Bool) (mode time from_ clocks free : Nat) : Nat :=
  let full := time * 16000
  let t := clocks / 64 * 64
  let stop := if up then 0 else 300
  match mode with
  | 0 => stop
  | 2 =>
    if full ≤ t then stop
    else if from_ = 0 ∨ from_ = 300 then
      let num := if up then full + 999 * t else 1000 * full - 999 * t
      min 300 (attenOfPower num (1000 * full) + free % 2)
    else if up then free % (from_ + 1) else from_ + free % (301 - from_)
  | _ =>
    let moved := 300 * t / full
    let part := if 300 * t % full = 0 then 0 else free % 2
    if up then from_ - (moved + part) else min 300 (from_ + moved + part)

/-- RAMP_STAT.ATTEN of a carrier now (R59, R67); the level stands still while the converter PLL is out of lock (R69). -/
def Chip.atten (s : Chip) (c : Carrier) : Nat :=
  let v := s.txd.get c
  let at_ := if v.pllLol then v.lolAt else s.now
  match s.txState c with
  | 1 => rampLevel true v.rampMode v.rampTime v.rampFrom (at_ - v.rampAt) (Config.freeNat s.freeIx)
  | 3 => rampLevel false v.rampMode v.rampTime v.rampFrom (at_ - v.rampAt) (Config.freeNat s.freeIx)
  | 2 => 0
  | _ => 300

/-- MODE and TIME of RAMP_CFG as a ramp takes them (R59, R67). -/
def Chip.rampCfg (s : Chip) (c : Carrier) : Nat × Nat :=
  let m := s.getF (Reg.TXD.RAMP_CFG.MODE c)
  (if m = 3 then 1 else m, max 1 (s.getF (Reg.TXD.RAMP_CFG.TIME c)))

/-- A ramp starts in a state from an attenuation (R59, R60). -/
def Chip.startRamp (s : Chip) (c : Carrier) (st from_ : Nat) : Chip :=
  let k := s.rampCfg c
  (s.setF (Reg.TXD.LINE_STAT.STATE c) st).modTxd c fun v =>
    { v with rampMode := k.1, rampTime := k.2, rampFrom := from_, rampAt := s.now }

/-- The transmitter enters MUTED (R60). -/
def Chip.enterMuted (s : Chip) (c : Carrier) : Chip := (s.setF (Reg.TXD.LINE_STAT.STATE c) 4).raise (Ev.TXD.MUTED c)

/-- Whether both carriers have joined the shared frame generator. -/
def Chip.bothJoined (s : Chip) : Bool := s.txd.a.joined && s.txd.b.joined

/-- The frame generator of a carrier restarts at a phase (R38, R61, R121, R127). -/
def Chip.restartGenerator (s : Chip) (c : Carrier) (phase : Nat) : Chip :=
  s.modTxd c fun v => { v with period := 0, chain := 0, phase := phase }

/-- A carrier joins the shared frame generator (R39): the first gives it its own count and a new phase, the second takes both. -/
def Chip.join (s : Chip) (c : Carrier) : Chip :=
  let other := s.txd.get c.other
  let s1 := s.modTxd c fun v => { v with joined := true, joinPend := false }
  if other.joined then
    let n := (s.frmOf c.other 0).fsnNext
    ((List.range 16).foldl (fun u t => u.modFrm c t fun w => { w with fsnNext := n }) s1).restartGenerator c other.phase
  else s1.restartGenerator c s.now

/-- The committed receive-line settings that take effect with a line configuration, and the report of it (R66, R67, R98, R164). -/
def Chip.showLine (s : Chip) (c : Carrier) : Chip :=
  let l := s.lineCommitted c
  let comp := if l.cfg.format = 3 ∧ l.cfg.subcEn = false then psComposition l.cfg.entropy else (0, 0, 0, 0)
  let s1 := ((s.setF (Reg.TXD.LINE_STAT.OTUCN c) l.cfg.otucn).setF (Reg.TXD.LINE_STAT.FORMAT c) l.cfg.format).setF
    (Reg.TXD.LINE_STAT.ENTROPY c) l.cfg.entropy
  let s2 := ((s1.setF (Reg.TXD.LINE_STAT.ROLLOFF c) l.cfg.rolloff).setFlag (Reg.TXD.LINE_STAT.SUBC_EN c) l.cfg.subcEn).setF
    (Reg.TXD.LINE_STAT.PILOT_BOOST c) l.cfg.pilotBoost
  let s3 := (s2.setFlag (Reg.RXD.RX_STAT.LOWLAT_ACTIVE c) l.cfg.lowlat).setF (Reg.RXD.RX_STAT.NLC_ACTIVE c) l.cfg.nlcSteps
  let s4 := (s3.setF (Reg.TXD.RS_STAT.RS c) l.cfg.rs16).wr (Reg.TXD.RS_MIN.addr c) (BitVec.ofNat 32 l.cfg.rsMin)
  let s5 := ((s4.setF (Reg.TXD.PS_COMP.N1 c) comp.1).setF (Reg.TXD.PS_COMP.N3 c) comp.2.1).setF (Reg.TXD.PS_COMP.N5 c) comp.2.2.1
  s5.setF (Reg.TXD.PS_COMP.N7 c) comp.2.2.2

/-- The committed subcarrier role, masks and home take effect (R146, R164). -/
def Chip.showMasks (s : Chip) (c : Carrier) : Chip :=
  let l := s.lineCommitted c
  let s1 := (s.setF (Reg.SUBC.SC_STAT.ROLE_ACTIVE c) l.role).setF (Reg.SUBC.EN_ACTIVE.DN c) l.dn
  let s2 := (s1.setF (Reg.SUBC.EN_ACTIVE.UP c) l.up).setF (Reg.SUBC.SC_STAT.N_RX c) (if l.cfg.subcEn then popc l.rxMask 16 else 0)
  s2.setSubc c { s2.subc.get c with home := s2.actF (Reg.SUBC.SC_CFG.HOME_SC c), enPend := false }

/-- The receivers of a carrier after a change of the line settings (R105, R149): those that are no longer used go idle, those that are new
start in DETECT where ACQ_EN is 1, and after a reconfiguration the others return to DETECT cold. `old` were in use before. -/
def Chip.receiversChanged (s : Chip) (c : Carrier) (old : List Rcv) (reconf : Bool) : Chip :=
  let now := s.receivers c
  let gone := old.filter fun r => !now.contains r
  let s1 := gone.foldl Chip.enterIdle s
  let s2 := now.foldl (fun u r =>
    if old.contains r then (if reconf then u.acqReconf r else u)
    else if u.flag (Reg.ACQ.ACQ_CTRL.ACQ_EN c) then u.enterDetect r false else u) s1
  (List.range 16).foldl (fun u t => u.trailSettle c t) s2

/-- The pending configuration of a carrier is applied (R61, R62, R254, R305): it is in effect, its generator restarts (in a shared generator
only its training and its chain), its receivers return to DETECT, entries that no longer fit are disabled, groups and fixed-latency
bounds are judged again; a pending join is made. -/
def Chip.lineApply (s : Chip) (c : Carrier) : Chip :=
  let old := s.receivers c
  let n := s.trailN c
  let s1 := ((s.showLine c).showMasks c).setFlag (Reg.TXD.LINE_STAT.RECONF_PEND c) false
  let v := s1.txd.get c
  let s2 := if v.joinPend then s1.join c else s1.restartGenerator c (if v.joined then v.phase else s1.now)
  let s3 := (s2.raise (Ev.TXD.RECONF_DONE c)).receiversChanged c old true
  let s4 := if s3.trailN c < n then s3.xcStepDown c else s3
  ((s4.grpSettle c true).flRecompute c).settle

/-- Entry into RAMP_UP from an attenuation (R39, R60, R61): a pending configuration is applied and a pending join made first. -/
def Chip.enterRampUp (s : Chip) (c : Carrier) (from_ : Nat) : Chip :=
  let s1 := if s.flag (Reg.TXD.LINE_STAT.RECONF_PEND c) then s.lineApply c else s
  let s2 := if (s1.txd.get c).joinPend then s1.join c else s1
  s2.startRamp c 1 from_

/-- The rules of R60 for the transmit enable and the mute bit as they stand: what a change of either, or the return of the converter PLL,
brings about. -/
def Chip.txEval (s : Chip) (c : Carrier) : Chip :=
  let en := s.flag (Reg.TXD.CTRL.TX_EN c)
  let mute := s.flag (Reg.TXD.CTRL.MUTE c)
  if (s.txd.get c).pllLol then s
  else match s.txState c with
    | 0 => if en && !mute then s.enterRampUp c 300 else s
    | 4 => if mute then s else if en then s.enterRampUp c 300 else s.setF (Reg.TXD.LINE_STAT.STATE c) 0
    | 3 =>
      if mute then s.enterMuted c
      else if en && !s.flag (Reg.TXD.LINE_STAT.RECONF_PEND c) then s.enterRampUp c (s.atten c) else s
    | _ => if mute then s.enterMuted c else if en then s else s.startRamp c 3 (s.atten c)

/-- TX_EN falls (R60): as `txEval`, and MUTED with MUTE = 1 becomes OFF. -/
def Chip.txEnFalls (s : Chip) (c : Carrier) : Chip :=
  if s.txState c = 4 ∧ s.flag (Reg.TXD.CTRL.MUTE c) = true ∧ (s.txd.get c).pllLol = false then s.setF (Reg.TXD.LINE_STAT.STATE c) 0
  else s.txEval c

/-- The line group of a carrier has been committed (R61, R146): a reconfiguration is pending from now on, and in ON or RAMP_UP starts the ramp
down where RECONF_RAMP is 1 and it is no step-down; a change of the masks alone waits for the next training period. `old` are the
committed settings before. -/
def Chip.lineCommit (s : Chip) (c : Carrier) (old : LineSet) (oldHome : Nat) : Chip :=
  let new := s.lineCommitted c
  if old.cfg.reconf new.cfg then
    let s1 := s.setFlag (Reg.TXD.LINE_STAT.RECONF_PEND c) true
    let need := s.getF ⟨Reg.TST.STEP_STAT.addr, 0, 2⟩
    let mine := need.testBit c.ix || (s.getF Reg.TOP.CARRIER_STAT.MODE_ACTIVE != 0 && need != 0)
    let step := mine && decide (new.cfg.otucn < old.cfg.otucn)
    let st := s.txState c
    if (st = 1 ∨ st = 2) ∧ s.flag (Reg.TXD.CTRL.RECONF_RAMP c) = true ∧ step = false ∧ (s.txd.get c).pllLol = false then
      s1.startRamp c 3 (s.atten c)
    else s1
  else if old.dn ≠ new.dn ∨ old.up ≠ new.up ∨ old.role ≠ new.role ∨ oldHome ≠ s.actF (Reg.SUBC.SC_CFG.HOME_SC c) then
    s.setSubc c { s.subc.get c with enPend := true }
  else s

/-- The committed carrier mode takes effect (R35, R37 to R39): joins are due at the points of R39; before both have joined a return to
INDEPENDENT gives each its own generator back at its next training block. -/
def Chip.modeCommit (s : Chip) : Chip :=
  let new := s.actF Reg.TOP.CARRIER_CFG.MODE
  let old := s.getF Reg.TOP.CARRIER_STAT.MODE_ACTIVE
  let s1 := s.setF Reg.TOP.CARRIER_STAT.MODE_ACTIVE new
  if new = old then s
  else if old = 0 then
    let f := fun (v : TxdSt) => { v with joined := false, joinPend := true, leavePend := false }
    ((s1.modTxd .A f).modTxd .B f).setFlag Reg.TOP.CARRIER_STAT.PHASE_OK false
  else if new = 0 then
    let both := s.bothJoined
    let f := fun (v : TxdSt) => { v with joinPend := false, leavePend := v.joined && !both, joined := v.joined && !both }
    ((s1.modTxd .A f).modTxd .B f).setFlag Reg.TOP.CARRIER_STAT.PHASE_OK false
  else s1

/-- Words committed: the active words of a set of addresses replaced. -/
def Chip.install (s : Chip) (words : List (Nat × Word)) : Chip :=
  words.foldl (fun u p => { u with actRegs := Store.set RegMap.reset u.actRegs p.1 p.2 }) s

/-- The effects of committed groups 1, 4, 5 and 8 (a mask), once their active words are in place; `old` reads the words before. -/
def Chip.switchedGroups (s : Chip) (groups : Nat) (old : Nat → Word) : Chip :=
  let s1 := if groups.testBit 1 then s.modeCommit else s
  let s2 := if groups.testBit 4 then s1.xcCommitted old else s1
  let s3 := if groups.testBit 8 then s2.pgCommitted old else s2
  s3.settle

/-- Committed groups that waited for the protection switches in progress take effect once none is due (R38, R254, R335). -/
def Chip.takeDeferred (s : Chip) : Chip :=
  if s.top.deferGroups = 0 ∨ (s.pgsOn.any s.switchDue) = true then s
  else
    let old := s.act
    let g := s.top.deferGroups
    let s1 := s.install s.top.deferred
    ({ s1 with top := { s1.top with deferred := [], deferGroups := 0 } }).switchedGroups g old

end Sys2Proof.Machine
end

