-- ==== Sys2Proof/Machine/SecOps.lean ====
section
/-! DEFINITION. The key store as several steps share it: its slots, the copies of the one-time-programmable key and the line registers that
a slot feeds (R343, R344, R357 to R361). -/

namespace Sys2Proof.Machine

/-- A slot of the key store. -/
def Chip.slotOf (s : Chip) (k : Nat) : KsSlot := Tab.get {} s.sec.slots k

/-- A slot of the key store replaced. -/
def Chip.setSlot (s : Chip) (k : Nat) (v : KsSlot) : Chip := { s with sec := { s.sec with slots := Tab.put {} s.sec.slots k v } }

/-- The key of slot 0 that an OTP key gives (R357); the spec states no label for it, the model takes 0. -/
def rootKey (bytes : List Nat) : KsKey := { usage := 0, len := 32, label := 0, bytes := bytes }

/-- The OTP key copied into slot 0, as when SEC leaves reset (R357); a blank or killed field leaves it empty. -/
def Chip.loadRoot (s : Chip) : Chip :=
  match s.fuse.otpKey, s.fuse.otpKilled with
  | some b, false => s.setSlot 0 { s.slotOf 0 with key := some (rootKey b) }
  | _, _ => s

/-- The OTP key copied into the boot key register, as at step 1 of R371. -/
def Chip.loadBootKey (s : Chip) : Chip :=
  { s with sec := { s.sec with bootKey := if s.fuse.otpKilled then none else s.fuse.otpKey } }

/-- The hidden state of a line encryptor changed. -/
def Chip.modLenc (s : Chip) (c : Carrier) (f : LencSt → LencSt) : Chip := { s with lenc := s.lenc.put c (f (s.lenc.get c)) }

/-- The INFO register of a line key register: transmit or receive, phase p (R367). -/
def keyInfo (c : Carrier) (tx : Bool) (p : Nat) : Nat :=
  if tx then Reg.LENC.TX_KEY_INFO.addr c p else Reg.LENC.RX_KEY_INFO.addr c p

/-- Whether a line key register is VALID. -/
def Chip.keyValid (s : Chip) (c : Carrier) (tx : Bool) (p : Nat) : Bool := s.flag ⟨keyInfo c tx p, 31, 1⟩

/-- Whether a line key register is LOADING. -/
def Chip.keyLoading (s : Chip) (c : Carrier) (tx : Bool) (p : Nat) : Bool := s.flag ⟨keyInfo c tx p, 30, 1⟩

/-- The source slot of a line key register that holds or is receiving a key. -/
def Chip.keySlot (s : Chip) (c : Carrier) (tx : Bool) (p : Nat) : Option Nat :=
  if s.keyValid c tx p || s.keyLoading c tx p then some (s.getF ⟨keyInfo c tx p, 16, 6⟩) else none

/-- A line key register replaced in the hidden state. -/
def Chip.setLineKey (s : Chip) (c : Carrier) (tx : Bool) (p : Nat) (k : LineKey) : Chip :=
  s.modLenc c fun v => if tx then { v with tx := Tab.put {} v.tx p k } else { v with rx := Tab.put {} v.rx p k }

/-- A line key register cleared to VALID = 0, its key erased (R344, R360, R361). -/
def Chip.clearKey (s : Chip) (c : Carrier) (tx : Bool) (p : Nat) : Chip :=
  ((s.setF ⟨keyInfo c tx p, 31, 1⟩ 0).setF ⟨keyInfo c tx p, 30, 1⟩ 0).setLineKey c tx p {}

/-- The line key registers: carrier, direction and phase. -/
def lineKeys : List (Carrier × Bool × Nat) :=
  [(.A, true, 0), (.A, true, 1), (.A, false, 0), (.A, false, 1), (.B, true, 0), (.B, true, 1), (.B, false, 0), (.B, false, 1)]

end Sys2Proof.Machine
end

