-- ==== Sys2Proof/Machine/Selector.lean ====
section
/-! DEFINITION. Where delivered frames go: the protection selector with its frame accounting, the demappers of the cross-connect and of the
protection members, the deskew memory, and the GCC receive rings (R183, R249, R257, R318, R320, R323, R325, R333). -/

namespace Sys2Proof

/-- The control word of a connection in a frame. -/
def RxFrame.ctlOf (f : RxFrame) (k : Nat) : List Nat := ((f.ctl.find? fun p => p.1 == k).map Prod.snd).getD []

end Sys2Proof

namespace Sys2Proof.Machine

/-- The size in bytes of a GCC ring in each direction, and the pool offset of its transmit half (R183, R193). -/
def Chip.gccRing (s : Chip) (c : Carrier) (t g : Nat) : Nat × Nat :=
  (2 ^ (min 6 (s.getF (Reg.FRM.GCC_CFG.SIZE c t g)) + 10), s.getF (Reg.FRM.GCC_CFG.BASE c t g) * 4096)

/-- One received GCC byte (R183): written at RX_WP through the capture engine, or dropped with GCC_OVF where the ring is full. -/
def Chip.gccByte (s : Chip) (c : Carrier) (t g byte : Nat) : Chip :=
  let r := s.gccRing c t g
  let wp := s.getF (Reg.FRM.GCC_RX_WP.PTR c t g) % r.1
  let rp := s.getF (Reg.FRM.GCC_RX_RP.PTR c t g) % r.1
  if (wp + 1) % r.1 = rp then s.raiseFrm c t Ev.FRM.GCC_OVF
  else (s.captureWrite (r.2 + r.1 + wp) byte).setF (Reg.FRM.GCC_RX_WP.PTR c t g) ((wp + 1) % r.1)

/-- The GCC bytes of a delivered frame, where the receive ring is enabled (R183). -/
def Chip.gccReceive (s : Chip) (c : Carrier) (t g : Nat) (bytes : List Nat) : Chip :=
  if s.flag (Reg.FRM.GCC_CFG.RX_EN c t g) then bytes.foldl (fun u b => u.gccByte c t g b) s else s

/-- The interruption T_int = t_new − t_last − T_F in ns that ends with a frame delivered now (R320). -/
def Chip.interruption (s : Chip) (n lastIntact : Nat) : Nat × Chip :=
  let den := 1000 * tfDen n * 65536
  let num : Int := ((s.now - lastIntact) * 625 * tfDen n * 65536 : Nat) - (tfNum * 1000 : Nat)
  let r := s.roundFree num den
  (r.1.toNat, r.2)

/-- A frame of the selected member reaches the output of a group (R318, R320, R333): delivered, with the range before it where frames are
missing; or dropped as a duplicate. Answers whether it was delivered. -/
def Chip.account (s : Chip) (g n : Nat) (f : RxFrame) : Bool × Chip :=
  let v := s.pgOf g
  let gap := match v.lastFsn with
    | none => 1
    | some l => if v.newSpace then 1 else (f.fsn + 2 ^ 32 - l) % 2 ^ 32
  if gap = 0 ∨ 2 ^ 31 ≤ gap then (false, s.bump (Reg.PROT.DUP_DROP.COUNT g))
  else
    let cause := if v.switched then 0 else if v.bothFail then 1 else 2
    let s1 := if gap = 1 then s else s.pgRange g ((v.lastFsn.getD 0 + 1) % 2 ^ 32) (gap - 1) cause
    let s2 := match v.switched, v.lastIntact with
      | true, some l => let r := s1.interruption n l; r.2.setSat (Reg.PROT.LAST_INT.NS g) r.1
      | _, _ => s1
    let s3 := (s2.addPair (Reg.PROT.FRM_OUT_LO.addr g) 1).bump (Reg.PROT.UNCORR_OUT.COUNT g) f.uncorr.toNat
    (true, s3.modPg g fun w =>
      { w with lastFsn := some f.fsn, lastIntact := if f.uncorr then w.lastIntact else some s3.now
               switched := false, newSpace := false, bothFail := false })

/-- The member demapper of a group reads its control word (R249, R325). -/
def Chip.memberWord (s : Chip) (g : Nat) (w : List Nat) : Chip :=
  s.modPg g fun v =>
    let r := v.mem.word w
    { v with mem := r.1, memNoSync := match r.2 with | none => v.memNoSync | some b => !b }

/-- A copy arrives in the deskew memory, unless its read time has passed (R321, R323). -/
def Chip.deskStore (s : Chip) (g : Nat) (p : Bool) (f : RxFrame) : Chip :=
  let k := s.pgCfgOf g
  s.modPg g fun v =>
    let late := match v.lastRead with
      | none => false
      | some l => decide ((f.fsn + 2 ^ 32 - l) % 2 ^ 32 = 0 ∨ 2 ^ 31 ≤ (f.fsn + 2 ^ 32 - l) % 2 ^ 32)
    let r : DeskRec := { fsn := f.fsn, uncorr := f.uncorr, ctl := f.ctlOf k.base }
    if late then v else if p then { v with deskP := v.deskP ++ [r] } else { v with deskW := v.deskW ++ [r] }

/-- A frame delivered on a trail seen by one tributary group (R323, R325). -/
def Chip.pgFrame (s : Chip) (c : Carrier) (t g : Nat) (f : RxFrame) : Chip :=
  let k := s.pgCfgOf g
  let base := xcEntry s.act k.base
  let side := fun (u : Chip) (p : Bool) =>
    if k.member base p ≠ (c, t) then u
    else
      let u1 := if p then u.memberWord g (f.ctlOf k.base) else u
      if k.kind = 4 then u1.deskStore g p f
      else if u1.flag (Reg.PROT.PG_STAT.ACTIVE g) = p then (u1.account g (u1.trailN c) f).2 else u1
  side (side s false) true

/-- A frame that a trail's framer delivers, at the selector (R185, R318, R325, R329). -/
def Chip.selDeliver (s : Chip) (c : Carrier) (t : Nat) (f : RxFrame) : Chip :=
  match s.lineGroup with
  | some l =>
    let active := s.flag (Reg.PROT.PG_STAT.ACTIVE 0)
    let sel := if active then l.work.other else l.work
    let owner := if l.kind = 1 then Carrier.A else l.work
    if t ≠ 0 then s.demapFrame c t f
    else if c = sel then
      let r := s.account 0 (s.trailN c) f
      if r.1 then r.2.demapFrame owner 0 f else r.2
    else if l.kind = 2 ∧ c ≠ l.work ∧ (s.pgOf 0).bridge = false then s.demapFrame c 0 f
    else s
  | none => s.pgsOn.foldl (fun u g => u.pgFrame c t g f) (s.demapFrame c t f)

/-- A lost range that a trail's framer reports (R185, R257): the unprotected connections of the trail see it at once; those of a group with
the range that the selector closes (R333). -/
def Chip.selLost (s : Chip) (c : Carrier) (t : Nat) (_first _last : Nat) : Chip :=
  let line := s.lineGroup
  let covered := match line with
    | some l => t == 0 && (l.kind == 1 || c == l.work)
    | none => false
  if covered then s
  else (List.range 32).foldl (fun u k =>
    let e := xcEntry u.act k
    if e.carrier = c ∧ e.trail = t ∧ u.flag (Reg.XC.XC_TRIB_STAT.EN_ACTIVE k) ∧ (line.isSome ∨ (u.tribGroup k).isNone) then
      (u.bump (Reg.XC.LOST_GAPS.COUNT k)).raise Ev.XC.LOST_GAP
    else u) s

/-- A restart of the FSN on a trail (R185, R333): the groups whose selected member it is count it and take the next frame as it comes. -/
def Chip.selRestart (s : Chip) (c : Carrier) (t : Nat) : Chip :=
  s.pgsOn.foldl (fun u g =>
    let k := u.pgCfgOf g
    if k.member (xcEntry u.act k.base) (u.flag (Reg.PROT.PG_STAT.ACTIVE g)) = (c, t) then
      (u.bump (Reg.PROT.RESTARTS.COUNT g)).modPg g fun v => { v with newSpace := true, lastRead := none }
    else u) s

end Sys2Proof.Machine
end

