-- ==== Sys2Proof/Machine/LencOps.lean ====
section
/-! DEFINITION. The line encryptor as several steps share it: which registers a carrier uses, loads, swaps, the loss of the transmit key, and
where received frames go for their tag check (R342 to R356). -/

namespace Sys2Proof.Machine

/-- The carrier whose key registers, phases, SID and AUTO_NEXT a carrier uses: A's for B in PROTECTED_1P1 (R347). -/
def Chip.keyCar (s : Chip) (c : Carrier) : Carrier :=
  if c = .B ∧ s.getF Reg.TOP.CARRIER_STAT.MODE_ACTIVE = 2 then .A else c

/-- The carriers that use the key registers of a carrier. -/
def Chip.keyUsers (s : Chip) (c : Carrier) : List Carrier :=
  if s.getF Reg.TOP.CARRIER_STAT.MODE_ACTIVE = 2 then (if c = .A then [.A, .B] else []) else [c]

/-- The phases that receive-enabled trails last used on the registers of a carrier (R343). -/
def Chip.rxPhases (s : Chip) (c : Carrier) : List Nat :=
  (s.keyUsers c).flatMap fun k =>
    ((List.range 16).filter (s.trailRx k)).map fun t => s.getF (Reg.LENC.RX_TRAIL_STAT.KP_LAST k t)

/-- Whether a line key register is ACTIVE (R360): it holds or receives a key and its phase is the current one, or was last used by a
receive-enabled trail. -/
def Chip.keyActive (s : Chip) (c : Carrier) (tx : Bool) (p : Nat) : Bool :=
  (s.keySlot c tx p).isSome &&
    (if tx then s.getF (Reg.LENC.LENC_STAT.TX_KP c) == p else (s.rxPhases c).contains p)

/-- Whether a slot is the source of an ACTIVE line register; of one that is not (R360, R369). -/
def Chip.slotActive (s : Chip) (k : Nat) : Bool :=
  lineKeys.any fun r => s.keySlot r.1 r.2.1 r.2.2 == some k && s.keyActive r.1 r.2.1 r.2.2
/-- Whether a slot is the source of a line register that is not ACTIVE. -/
def Chip.slotNext (s : Chip) (k : Nat) : Bool :=
  lineKeys.any fun r => s.keySlot r.1 r.2.1 r.2.2 == some k && !s.keyActive r.1 r.2.1 r.2.2

/-- The frames sealed under a transmit register. -/
def Chip.keyUsed (s : Chip) (c : Carrier) (p : Nat) : Nat := (Tab.get {} (s.lenc.get c).tx p).used

/-- Whether a carrier's current transmit register holds a key that has not expired (R342, R353). -/
def Chip.txKeyed (s : Chip) (c : Carrier) : Bool :=
  let k := s.keyCar c
  let p := s.getF (Reg.LENC.LENC_STAT.TX_KP k)
  s.keyValid k true p && decide (s.keyUsed k p < 2 ^ 32)

/-- Whether a carrier's frames are encrypted: TX_ENC in effect; on identical frames (R37, R347) that of carrier A. -/
def Chip.txEnc (s : Chip) (c : Carrier) : Bool := s.flag (Reg.LENC.LENC_STAT.TX_ENC_ACTIVE (s.keyCar c))

/-- TX_KEY_EMPTY of a carrier judged anew (R353). -/
def Chip.lencSettle (s : Chip) (c : Carrier) : Chip :=
  let empty := s.txEnc c && !s.txKeyed c
  let was := s.flag (Reg.LENC.LENC_STAT.TX_KEY_EMPTY c)
  let s1 := s.setFlag (Reg.LENC.LENC_STAT.TX_KEY_EMPTY c) empty
  if empty && !was then s1.assert (Ev.LENC.TX_KEY_EMPTY c) else s1.setLive (Ev.LENC.TX_KEY_EMPTY c) empty

/-- TX_KEY_EMPTY of both carriers judged anew. -/
def Chip.lencSettleAll (s : Chip) : Chip := (s.lencSettle .A).lencSettle .B

/-- A load of a line key register from a slot with an epoch (R343): refused with its cause, or LOADING. -/
def Chip.loadKey (s : Chip) (c : Carrier) (tx : Bool) (slot epoch : Nat) : Chip :=
  let used := s.rxPhases c
  let target : Option Nat :=
    if tx then some (1 - s.getF (Reg.LENC.LENC_STAT.TX_KP c))
    else if used.contains 0 && used.contains 1 then none
    else some (if used.contains 1 then 0 else 1)
  let refuse := fun (n : Nat) => (s.setF (Reg.LENC.LENC_STAT.LOAD_CAUSE c) n).raise (Ev.LENC.LOAD_REFUSED c)
  match (s.slotOf slot).key, target with
  | none, _ => refuse 1
  | some k, t =>
    if k.usage ≠ 1 ∨ k.len ≠ 32 then refuse 2
    else if tx = true ∧ ((s.lenc.get c).maxEpoch.any fun m => decide (epoch ≤ m)) = true then refuse 3
    else match t with
    | none => refuse 4
    | some p =>
      if c ≠ s.keyCar c then refuse 5
      else
        let a := keyInfo c tx p
        let s1 := ((s.setF ⟨a, 31, 1⟩ 0).setF ⟨a, 30, 1⟩ 1).setF ⟨a, 16, 6⟩ slot
        let s2 := (s1.setF ⟨a + 4, 0, 32⟩ epoch).setLineKey c tx p { bytes := k.bytes }
        let s3 := if tx then (s2.setF (Reg.LENC.TX_KEY_FRAMES.FRAMES c p) 0).modLenc c fun v => { v with maxEpoch := some epoch } else s2
        s3.lencSettleAll

/-- A pending swap takes effect on the frame that starts now (R344, R346, R348): the other phase becomes current and the register left behind is
cleared; AUTO_NEXT reloads it. Without a VALID other register nothing changes and SWAP_EMPTY is raised. -/
def Chip.swapKeys (s : Chip) (c : Carrier) : Chip :=
  if (s.lenc.get c).swap = false then s
  else
    let s0 := s.modLenc c fun v => { v with swap := false }
    let old := s.getF (Reg.LENC.LENC_STAT.TX_KP c)
    let new := 1 - old
    if s.keyValid c true new = false ∨ s.keyLoading c true new = true then s0.raise (Ev.LENC.SWAP_EMPTY c)
    else
      let s1 := ((s0.setF (Reg.LENC.LENC_STAT.TX_KP c) new).clearKey c true old).raise (Ev.LENC.KP_SWAP c)
      let s2 := if s1.flag (Reg.LENC.LENC_CFG.AUTO_NEXT c) then
          s1.loadKey c true (s1.getF ⟨keyInfo c true new, 16, 6⟩) ((s1.getF (Reg.LENC.TX_KEY_EPOCH.EPOCH c new) + 1) % 2 ^ 32)
        else s1
      s2.lencSettleAll

/-- A swap of key phases is requested on a carrier; carrier B's own registers are idle in PROTECTED_1P1 (R344, R347). -/
def Chip.requestSwap (s : Chip) (c : Carrier) : Chip :=
  if s.keyCar c = c then s.modLenc c fun v => { v with swap := true } else s

/-- Whether FSN n comes after FSN l, both wrapping. -/
def fsnAfter (n l : Nat) : Bool := decide (0 < (n + 2 ^ 32 - l) % 2 ^ 32 ∧ (n + 2 ^ 32 - l) % 2 ^ 32 < 2 ^ 31)

/-- A frame sealed under the current register (R342): FRAMES counts frame periods; KEY_AGE at 2^31, KEY_EXPIRED at 2^32. -/
def Chip.countSealed (s : Chip) (c : Carrier) (fsn : Nat) : Chip :=
  let v := s.lenc.get c
  if (v.lastFsn.all fun l => fsnAfter fsn l) = false then s
  else
    let p := s.getF (Reg.LENC.LENC_STAT.TX_KP c)
    let k := Tab.get {} v.tx p
    let n := k.used + 1
    let s1 := ((s.setLineKey c true p { k with used := n }).modLenc c fun w => { w with lastFsn := some fsn }).setSat
      (Reg.LENC.TX_KEY_FRAMES.FRAMES c p) n
    let s2 := s1.raiseIf (n == 2 ^ 31) (Ev.LENC.KEY_AGE c)
    if n = 2 ^ 32 then (s2.raise (Ev.LENC.KEY_EXPIRED c)).lencSettleAll else s2

/-- The key phase and the sealing of a frame that starts (R342, R344, R353, R356). -/
def Chip.sealFrame (s : Chip) (c : Carrier) (fsn : Nat) : Nat × Sealing × Chip :=
  let k := s.keyCar c
  let s1 := (s.sfRecheck c 2).swapKeys k
  let kp := s1.getF (Reg.LENC.LENC_STAT.TX_KP k)
  if s1.txEnc c = false then (kp, .plain, s1)
  else if s1.txKeyed c = false then (kp, .keyless, s1.bump (Reg.LENC.TX_EMPTY_FRM.COUNT c))
  else
    let s2 := s1.countSealed k fsn
    if (s2.grpOf c 2).sf then (kp, .voided, s2.bump (Reg.LENC.TX_VOID.COUNT c)) else (kp, .sealed, s2)

/-- A frame that the framer delivers, at the decryptor (R345, R351 to R353): plain frames are delivered at once, or dropped under
REQUIRE_ENC; encrypted ones wait for their tag check. -/
def Chip.toDecryptor (s : Chip) (c : Carrier) (t : Nat) (f : RxFrame) : Chip :=
  let s0 := s.setFlag (Reg.LENC.RX_TRAIL_STAT.ENC_LAST c t) f.enc
  let s1 := s0.modLenc c fun v => { v with spoilt := v.spoilt - (v.spoilt &&& 2 ^ t) }
  if f.enc then
    let w : TagWait :=
      { trail := t, frame := f, keyed := s.keyValid (s.keyCar c) false (f.kp % 2), spoilt := (s.lenc.get c).spoilt.testBit t }
    s1.modLenc c fun v => { v with checks := v.checks ++ [w] }
  else if s1.actFlag (Reg.LENC.LENC_CFG.REQUIRE_ENC c) then
    ((s1.bump (Reg.LENC.PLAIN_DROP.COUNT c t)).raise (Ev.LENC.PLAIN_RX c)).selLost c t f.fsn f.fsn
  else s1.selDeliver c t f

end Sys2Proof.Machine
end

