-- ==== Sys2Proof/Machine/Sec.lean ====
section
/-! DEFINITION. The meanings of the commands of the key store (R357, R358, R361), and the erasure that JTAG and the pin share. -/

namespace Sys2Proof.Machine

/-- A slot with its pending value erased, the line registers loaded from it cleared, and the jobs using it ended at their next block (R361). -/
def Chip.eraseSlot (s : Chip) (k : Nat) : Chip :=
  let s1 := s.setSlot k { s.slotOf k with key := none, pend := none }
  let hit := fun (j : Job) => if j.slot = k then { j with erased := true } else j
  let s2 : Chip :=
    { s1 with sec := { s1.sec with cores := s1.sec.cores.map fun (p : Nat × Job) => (p.1, hit p.2), susp := s1.sec.susp.map hit } }
  (lineKeys.foldl (fun u r => if u.keySlot r.1 r.2.1 r.2.2 = some k then u.clearKey r.1 r.2.1 r.2.2 else u) s2).lencSettleAll

/-- Every slot, line register, lane copy and the boot key register erased (R361). -/
def Chip.eraseAll (s : Chip) : Chip :=
  let s1 := (List.range 64).foldl Chip.eraseSlot s
  let s2 := lineKeys.foldl (fun u r => u.clearKey r.1 r.2.1 r.2.2) s1
  { s2 with sec := { s2.sec with bootKey := none } }.lencSettleAll

/-- The result of a key-store command (R358): a refusal sets RESULT and raises CMD_REFUSED. -/
def Chip.ksResult (s : Chip) (n : Nat) : Chip :=
  let s1 := s.setF Reg.SEC.KS_STAT.RESULT n
  if n = 0 then s1 else s1.raise Ev.SEC.CMD_REFUSED

/-- ZERO_SLOT (R361). -/
def doZeroSlot (k : Fin 64) (s : Chip) : Chip := (s.eraseSlot k.val).ksResult 0

/-- ZERO_SLOT. -/
def execZeroSlot (k : Fin 64) (s : State) : Result := s.to (doZeroSlot k s.chip)

/-- ZERO_ALL (R361): KEY_ZEROIZED, whose cause is over unless ZEROIZE_N is low. -/
def doZeroAll (s : Chip) : Chip :=
  ((s.eraseAll.raiseNM Ev.SEC.KEY_ZEROIZED).setLive Ev.SEC.KEY_ZEROIZED s.sec.pinLow).ksResult 0

/-- ZERO_ALL. -/
def execZeroAll (s : State) : Result := s.to (doZeroAll s.chip)

/-- The key that KS_PROV_DATA holds (R358): byte 0 in bits [7:0] of the first register. -/
def Chip.provKey (s : Chip) : List Nat :=
  (List.range 32).map fun i => Tab.get 0 s.sec.prov (i / 4) / 256 ^ (i % 4) % 256

/-- PROVISION by a master (R358): accepted from the PCIe master while the OTP key is blank. -/
def doProvision (m : Fin 8) (s : Chip) : Chip :=
  let key := s.provKey
  let s0 := { s with sec := { s.sec with prov := [] } }
  let code := if m.val ≠ 4 then 2 else if s.fuse.otpKilled then 4 else if s.fuse.otpKey.isSome then 3 else 0
  let s1 := if code = 0 then ({ s0 with fuse := { s0.fuse with otpKey := some key } }.loadRoot).loadBootKey else s0
  (s1.raise Ev.SEC.PROV_DONE).ksResult code

/-- PROVISION. -/
def execProvision (m : Fin 8) (s : State) : Result := s.to (doProvision m s.chip)

/-- OTP_KILL (R358): the field is never loaded again; what was copied from it stays until the next reset. -/
def doOtpKill (s : Chip) : Chip :=
  if s.fuse.otpKilled then s.ksResult 4 else { s with fuse := { s.fuse with otpKilled := true } }.ksResult 0

/-- OTP_KILL. -/
def execOtpKill (s : State) : Result := s.to (doOtpKill s.chip)

/-- ZEROIZE_PIN (R361): ZEROIZE_N has been low for 1 µs; the cause of KEY_ZEROIZED lasts until it is high. -/
def doZeroizePin (s : Chip) : Chip :=
  ({ s with sec := { s.sec with pinLow := true } }.eraseAll).raiseNM Ev.SEC.KEY_ZEROIZED

/-- ZEROIZE_PIN. -/
def execZeroizePin (s : State) : Result := s.to (doZeroizePin s.chip)

/-- ZEROIZE_PIN_RELEASE (R11, R361). -/
def doZeroizePinRelease (s : Chip) : Chip :=
  { s with sec := { s.sec with pinLow := false } }.setLive Ev.SEC.KEY_ZEROIZED false

/-- ZEROIZE_PIN_RELEASE. -/
def execZeroizePinRelease (s : State) : Result := s.to (doZeroizePinRelease s.chip)

/-- RING_TAIL_WRITE (R364). -/
def doRingTailWrite (k : Fin 4) (v : Nat) (s : Chip) : Chip := s.setF (Reg.SEC.RING_TAIL.TAIL k.val) v

/-- RING_TAIL_WRITE. -/
def execRingTailWrite (k : Fin 4) (v : Nat) (s : State) : Result := s.to (doRingTailWrite k v s.chip)

end Sys2Proof.Machine
end

