-- ==== Sys2Proof/Machine/TimOps.lean ====
section
/-! DEFINITION. Reference slots, reference selection and the DPLL's states as several steps share them (R262 to R273). -/

namespace Sys2Proof.Machine

/-- A change of the hidden state of TIM. -/
def Chip.modTim (s : Chip) (f : TimSt → TimSt) : Chip := { s with tim := f s.tim }

/-- MODE of SEL_CFG in effect (R266): 5 to 7 behave as 0. -/
def Chip.selMode (s : Chip) : Nat := let m := s.getF Reg.TIM.SEL_CFG.MODE; if 4 < m then 0 else m

/-- Whether the source of a slot is valid (R262). -/
def Chip.refSource (s : Chip) (r : Nat) : Bool :=
  let src := s.getF (Reg.TIM.REF_CFG.SRC r)
  let car := fun (c : Carrier) =>
    (Tab.get {} s.rcv (if (s.lineApplied c).cfg.subcEn then 17 * c.ix + 1 + src else 17 * c.ix)).state == 8
  match r with
  | 0 => car .A
  | 1 => car .B
  | 6 | 7 => true
  | _ => s.flag (Reg.LANE.LANE_STAT.RCLK_VALID src)

/-- Whether a slot is qualified. -/
def Chip.refOk (s : Chip) (r : Nat) : Bool := s.flag (Reg.TIM.REF_STAT.QUALIFIED r)

/-- A slot's rank for selection (R267), lower is better: twice its priority, and 1 for MAN_REF in MANUAL. -/
def Chip.refRank (s : Chip) (r : Nat) : Nat :=
  if s.selMode = 1 ∧ s.getF Reg.TIM.SEL_CFG.MAN_REF = r then 1 else 2 * s.getF (Reg.TIM.REF_CFG.PRIO r)

/-- Whether a slot is eligible (R267). -/
def Chip.refEligible (s : Chip) (r : Nat) : Bool := s.refOk r && s.refRank r != 0

/-- Whether two slots disagree (R265): both qualified, of one priority that is not 0, their latched offsets more than 2 ppm apart. -/
def Chip.refDisagree (s : Chip) (a b : Nat) : Bool :=
  let p := fun (r : Nat) => s.getF (Reg.TIM.REF_CFG.PRIO r)
  let off := fun (r : Nat) => s.getS (Reg.TIM.REF_FOFS.FOFS r)
  s.refOk a && s.refOk b && p a != 0 && p a == p b && s.flag (Reg.TIM.REF_STAT.FOFS_VALID a) && s.flag (Reg.TIM.REF_STAT.FOFS_VALID b)
    && decide (2000000 < (off a - off b).natAbs)

/-- ELIGIBLE of every slot and REF_DISAGREE follow; the event occurs where the flag sets (R265, R278). -/
def Chip.refShow (s : Chip) : Chip :=
  let s1 := (List.range 8).foldl (fun u r => u.setFlag (Reg.TIM.REF_STAT.ELIGIBLE r) (u.refEligible r)) s
  let dis := (List.range 8).any fun a => (List.range 8).any fun b => s1.refDisagree a b
  let was := s1.flag Reg.TIM.DPLL_STAT.REF_DISAGREE
  let s2 := s1.setFlag Reg.TIM.DPLL_STAT.REF_DISAGREE dis
  if dis && !was then s2.assert Ev.TIM.REF_DISAGREE else s2.setLive Ev.TIM.REF_DISAGREE dis

/-- Whole seconds that have passed since a clock. -/
def Chip.secsSince (s : Chip) (at_ : Nat) : Nat := (s.now - at_) / 1600000000

/-- HO_ELAPSED as it reads (R271): it counts in HOLDOVER and is held elsewhere. -/
def Chip.hoElapsed (s : Chip) : Nat :=
  if s.getF Reg.TIM.DPLL_STAT.STATE = 3 then min (s.secsSince s.tim.holdAt) (2 ^ 32 - 1) else s.getF Reg.TIM.HO_ELAPSED.SECS

/-- REF_WTR of a slot as it reads (R267): it counts down from WTR at its qualification. -/
def Chip.refWtr (s : Chip) (r : Nat) : Nat :=
  if s.refOk r then s.getF Reg.TIM.QUAL_CFG.WTR - s.secsSince (Tab.get 0 s.tim.qualAt r) else 0

/-- The event of a DPLL state. -/
def dpllEv (st : Nat) : Ev :=
  match st with
  | 0 => Ev.TIM.FREE_RUN | 1 => Ev.TIM.ACQUIRING | 2 => Ev.TIM.LOCKED | 3 => Ev.TIM.HOLDOVER | _ => Ev.TIM.HOLDOVER_OOS

/-- The DPLL enters a state (R269, R271): its bit of DPLL_HIST and its event; LOCKED_TIME starts anew, HO_ELAPSED is held. -/
def Chip.setDpll (s : Chip) (st : Nat) : Chip :=
  let old := s.getF Reg.TIM.DPLL_STAT.STATE
  if old = st then s
  else
    let s1 := (s.setF Reg.TIM.HO_ELAPSED.SECS (if old = 3 then s.hoElapsed else s.getF Reg.TIM.HO_ELAPSED.SECS)).setF
      Reg.TIM.LOCKED_TIME.SECS 0
    let s2 := (s1.setF Reg.TIM.DPLL_STAT.STATE st).setBit Reg.TIM.DPLL_HIST.HIST st
    let s3 := if st = 3 then (s2.setF Reg.TIM.HO_ELAPSED.SECS 0).modTim fun v => { v with holdAt := s2.now } else s2
    s3.raise (dpllEv st)

/-- The DPLL goes to FREE_RUN with a cause (R269). -/
def Chip.freeRun (s : Chip) (cause : Nat) : Chip := (s.setDpll 0).setF Reg.TIM.DPLL_STAT.FREE_CAUSE cause

/-- No reference is selected, and no switch is in progress. -/
def Chip.noRef (s : Chip) : Chip :=
  ((s.setFlag Reg.TIM.DPLL_STAT.SEL_VALID false).setFlag Reg.TIM.DPLL_STAT.SWITCHING false).modTim fun v => { v with target := none }

/-- The slot chosen among candidates of one priority (R267, rule 1): the closest to HO_EST where they disagree and the history is valid,
otherwise the lowest-numbered. -/
def Chip.refPick (s : Chip) (pool : List Nat) : Option Nat :=
  let dis := pool.any fun a => pool.any fun b => s.refDisagree a b
  if dis && s.flag Reg.TIM.DPLL_STAT.HIST_VALID then
    let dist := fun (r : Nat) => (s.getS (Reg.TIM.REF_FOFS.FOFS r) - s.getS Reg.TIM.HO_EST.EST).natAbs
    pool.foldl (fun best r => match best with
      | none => some r
      | some b => if dist r < dist b then some r else some b) none
  else pool.head?

/-- The slot that R267 chooses now, with whether the incumbent works. -/
def Chip.refChoice (s : Chip) : Option Nat × Bool :=
  let inc := s.getF Reg.TIM.DPLL_STAT.SEL_REF
  let works := s.flag Reg.TIM.DPLL_STAT.SEL_VALID && s.refEligible inc
  let cands := (List.range 8).filter fun r => s.refEligible r &&
    (!works || (s.flag Reg.TIM.SEL_CFG.REVERTIVE && decide (s.refRank r < s.refRank inc) && s.tim.wtrDone.testBit r))
  let best := cands.foldl (fun n r => min n (s.refRank r)) 99
  let pool := cands.filter fun r => s.refRank r == best
  (match s.tim.target with
    | some t => if pool.contains t then some t else s.refPick pool
    | none => s.refPick pool, works)

/-- The selector runs in MODE 0 or 1 (R267 to R269): a switch starts, is redirected or ends, or the reference is lost. -/
def Chip.refDecide (s : Chip) : Chip :=
  let c := s.refChoice
  match c.1 with
  | some r =>
    if s.tim.target = some r then s
    else
      let s1 := (s.setFlag Reg.TIM.DPLL_STAT.SWITCHING true).modTim fun v => { v with target := some r }
      if s.tim.target.isSome then s1.raise Ev.TIM.SWITCH_REDIRECT else s1
  | none =>
    if c.2 then (s.setFlag Reg.TIM.DPLL_STAT.SWITCHING false).modTim fun v => { v with target := none }
    else
      let s1 := s.noRef
      let st := s.getF Reg.TIM.DPLL_STAT.STATE
      if st = 1 ∨ st = 2 then (if s.flag Reg.TIM.DPLL_STAT.HIST_VALID then s1.setDpll 3 else s1.freeRun 1) else s1

/-- DCO_NOW takes a value (R272, R273): DCO_LIMIT where it first passes ±50 ppm. -/
def Chip.setDco (s : Chip) (v : Int) : Chip :=
  let old := s.getS Reg.TIM.DCO_NOW.NOW
  (s.setS Reg.TIM.DCO_NOW.NOW v).raiseIf (decide (old.natAbs ≤ 50000000 ∧ 50000000 < v.natAbs)) Ev.TIM.DCO_LIMIT

/-- The first rows of R269 and the selector: what the mode and the statuses of the slots make of the DPLL now. -/
def Chip.timSettle (s : Chip) : Chip :=
  let s1 := s.refShow
  let mode := s1.selMode
  let hist := s1.flag Reg.TIM.DPLL_STAT.HIST_VALID
  let dco := s1.flag Reg.TIM.DPLL_STAT.DCO_MODE
  let s2 := s1.setFlag Reg.TIM.DPLL_STAT.DCO_MODE (mode == 4)
  if (s1.rd 0x001000F0).getLsbD 0 then (s2.noRef.freeRun 2).setFlag Reg.TIM.DPLL_STAT.HIST_VALID false
  else if mode = 3 then s2.noRef.freeRun 0
  else if mode = 2 ∧ hist = false then s2.noRef.freeRun 1
  else if mode = 4 then (if dco then s2.noRef else s2.noRef.setDco (s2.getS Reg.TIM.DPLL_FOFS.FOFS)).freeRun 3
  else if mode = 2 then (if s2.getF Reg.TIM.DPLL_STAT.STATE = 4 then s2.noRef else s2.noRef.setDpll 3)
  else s2.refDecide

/-- A committed DCO target takes effect (R272): in MODE 4 with SLEW = 0 in one step. -/
def Chip.dcoCommitted (s : Chip) : Chip :=
  if s.selMode = 4 ∧ s.getF Reg.TIM.DCO_SLEW.SLEW = 0 then s.setDco (sgn 32 (s.actF Reg.TIM.DCO_FREQ.TARGET)) else s

/-- DISQ_CAUSE of a slot (R264); while the timing root is ROSC it is XTAL_FAIL (R457). -/
def Chip.setDisq (s : Chip) (r cause : Nat) : Chip :=
  s.setF (Reg.TIM.REF_STAT.DISQ_CAUSE r) (if s.flag Reg.CLK.CLK_STAT.TIME_ROOT then 4 else cause)

/-- A slot is disqualified with a cause (R264), or, not qualified, has this cause from now on. -/
def Chip.disqualify (s : Chip) (r cause : Nat) : Chip :=
  let s1 := s.setDisq r cause
  if s.refOk r then
    ((s1.setFlag (Reg.TIM.REF_STAT.QUALIFIED r) false).bump (Reg.TIM.REF_DISQ_CNT.COUNT r)).raise Ev.TIM.QUAL_CHANGE
  else s1

end Sys2Proof.Machine
end

