-- ==== Sys2Proof/Machine/Reset.lean ====
section
/-! DEFINITION. The reset scopes, and the release of islands by the boot sequence (R357, R371, R382, R383, R466 to R468). -/

namespace Sys2Proof.Machine

/-- The island that holds a register's address (R429): DPA, DPB, CLI, SEC, PCI, MON, MGT, WST and AON as 0 to 8. -/
def islandNum (a : Nat) : Nat :=
  match islandOf a with
  | some i => i
  | none =>
    match a / 0x00100000 with
    | 0x01 | 0x02 | 0x0A => 8
    | 0x06 | 0x07 => 7
    | _ => 6

/-- A change of the hidden state of the boot controller. -/
def Chip.modBoot (s : Chip) (f : BootSt → BootSt) : Chip := { s with boot := f s.boot }

/-- The hidden state of a carrier's data path at reset; a carrier of a locked pair joins its shared generator again (R39). -/
def Chip.resetCarrier (s : Chip) (c : Carrier) : Chip :=
  let locked := s.getF Reg.TOP.CARRIER_STAT.MODE_ACTIVE != 0
  let rcv := Store.clear s.rcv fun i => i / 17 == c.ix
  let frm := Store.clear s.frm fun i => i / 16 == c.ix
  let pm := Store.clear s.pm fun i => i / 16 == c.ix
  { s with txd := s.txd.put c { joinPend := locked }, fec := s.fec.put c {}, subc := s.subc.put c {}, lenc := s.lenc.put c {}
           rcv := rcv, frm := frm, pm := pm }

/-- The groups of a carrier at a reset of its island: sessions end INCOMPLETE (R493), the fences and the reserve are kept (R466, R498). -/
def Chip.resetGroups (s : Chip) (c : Carrier) : Chip :=
  [0, 1, 2].foldl (fun u g =>
    let u1 := u.abandonSession c g
    u1.setGrp c g { u1.grpOf c g with passed := none, joining := 0, takeover := none, sf := false }) s

/-- The hidden state of an island at reset, with the registers that fuses fill (R165). -/
def Chip.resetHidden (s : Chip) (i : Nat) : Chip :=
  match i with
  | 0 => (s.resetCarrier .A).setPair (Reg.SUBC.INLET_SERIAL_LO.addr .A) s.fuse.serial
  | 1 => (s.resetCarrier .B).setPair (Reg.SUBC.INLET_SERIAL_LO.addr .B) s.fuse.serial
  | 2 => { s with lane := [], pg := [], lost := [], dem := [] }
  | 3 => { s with sec := { bootKey := s.sec.bootKey, pinLow := s.sec.pinLow } }
  | 4 => { s with pci := {} }
  | 5 => { s with mon := {} }
  | 6 => { s with top := { hi := s.top.hi }, pool := {}, mgmt := {}, evcs := {}, resp := [] }
  | 7 => { s with wst := {}, tim := {} }
  | _ => s

/-- The bridges of R22 as pairs of islands. -/
def bridgeEnds : List (Nat × Nat) :=
  [(0, 2), (1, 2), (6, 0), (6, 1), (6, 2), (6, 7), (6, 3), (6, 4), (6, 5), (6, 8), (0, 7), (1, 7), (2, 7), (3, 0), (3, 1), (0, 1)]

/-- Whether a bridge belongs to an island. -/
def bridgeOf (b i : Nat) : Bool := (bridgeEnds[b]?).any fun p => p.1 == i || p.2 == i

/-- An island restored to its reset values (R466): registers, events, hidden state; transfers in flight over its bridges are discarded. -/
def Chip.resetIsland (s : Chip) (i : Nat) : Chip :=
  let s0 := if i = 0 then s.resetGroups .A else if i = 1 then s.resetGroups .B else s
  let mine := fun (a : Nat) => islandNum a == i
  let regs := Store.clear s0.regs mine
  let act := Store.clear s0.actRegs mine
  let live := Store.clear s0.live mine
  let hi := Store.clear s0.top.hi fun k => islandNum (k / 8) == i
  let waits := Store.clear s0.clk.waits fun k => bridgeOf (k / 2) i
  ({ s0 with regs := regs, actRegs := act, live := live, top := { s0.top with hi := hi } }.modClk fun v => { v with waits := waits }).resetHidden i

/-- What the other islands make of an island's reset (R33, R254, R333, R468). -/
def Chip.afterReset (s : Chip) : Chip := (s.takeDeferred.settle).lencSettleAll

/-- An island reset and held in reset (R468). -/
def Chip.holdIsland (s : Chip) (i : Nat) : Chip := (s.resetIsland i).modClk fun v => { v with held := v.held ||| 2 ^ i }

/-- An island leaves reset: SEC copies the OTP key into slot 0 (R357) and, where ZEROIZE_N is low, keys are erased (R521); the groups of DPA and
DPB apply the rule of R498 to the fences kept. -/
def Chip.releaseIsland (s : Chip) (i : Nat) : Chip :=
  let s1 := s.modClk fun v => { v with held := v.held - (v.held &&& 2 ^ i) }
  let groups := fun (u : Chip) (c : Carrier) =>
    ([0, 1, 2].foldl (fun w g => (w.exchange c g).noteReserve c g false) u).grpSettle c
  if i = 0 then groups s1 .A
  else if i = 1 then groups s1 .B
  else if i = 3 then
    let s2 := s1.loadRoot
    if s2.sec.pinLow then s2.eraseAll.raiseNM Ev.SEC.KEY_ZEROIZED else s2
  else s1

/-- The state after a power-on reset (R466): fuses, the flash, the level of ZEROIZE_N and of PORESET_N are no state of the chip's logic, and the
clock and the count of free values are the model's. -/
def Chip.powerReset (s : Chip) : Chip :=
  let u : Chip := { fuse := s.fuse, boot := { flash := s.boot.flash, released := s.now }, sec := { pinLow := s.sec.pinLow }, now := s.now, freeIx := s.freeIx,
                    clk := { poreset := s.clk.poreset, aonLow := s.clk.aonLow } }
  (u.setPair (Reg.SUBC.INLET_SERIAL_LO.addr .A) s.fuse.serial).setPair (Reg.SUBC.INLET_SERIAL_LO.addr .B) s.fuse.serial

/-- A device reset (R466, R467): as a power-on reset, with PRIM_BAD, GOLD_BAD, NEXT_IMAGE, RST_CAUSE with its new bit, WAKE_CFG and DS_XTAL kept;
ROSC goes on (R461). -/
def Chip.deviceReset (s : Chip) (cause : Fld) : Chip :=
  let keep := [Reg.BOOT.BOOT_STAT.PRIM_BAD, Reg.BOOT.BOOT_STAT.GOLD_BAD, Reg.BOOT.BOOT_CTRL.NEXT_IMAGE, Reg.CLK.PWR_CTRL.DS_XTAL,
    Reg.CLK.CLK_STAT.ROSC_READY]
  let s1 := keep.foldl (fun u f => u.setF f (s.getF f)) s.powerReset
  ((s1.wr Reg.CLK.WAKE_CFG.addr (s.rd Reg.CLK.WAKE_CFG.addr)).wr Reg.CLK.RST_CAUSE.addr (s.rd Reg.CLK.RST_CAUSE.addr)).setFlag cause true

/-- The image area that the boot sequence reads next (R382, R383): 1 = primary, 2 = golden, 0 = none is left. -/
def Chip.bootArea (s : Chip) : Nat :=
  if !s.flag Reg.BOOT.BOOT_STAT.PRIM_BAD && !s.flag Reg.BOOT.BOOT_CTRL.NEXT_IMAGE then 1
  else if s.flag Reg.BOOT.BOOT_STAT.GOLD_BAD then 0 else 2

/-- HALTED (R382): the cores and the data islands are held in reset. -/
def Chip.bootHalt (s : Chip) : Chip :=
  let s1 := [0, 1, 2].foldl (fun u i => if u.clk.held.testBit i then u else u.holdIsland i) s
  let s2 := [0, 1, 2, 3].foldl (fun u k => u.setF (Reg.MGMT.CORE_STAT.STATE k) 0) s1.afterReset
  ((s2.setF Reg.BOOT.BOOT_STAT.PHASE 7).modBoot fun b => { b with recs := [], applying := false }).raise Ev.BOOT.HALTED

/-- A system reset (R466): every island but AON, which keeps its state; gate requests and gates end, since the boot sequence releases the
islands. -/
def Chip.systemReset (s : Chip) (cause : Fld) : Chip :=
  let s1 := (List.range 8).foldl Chip.holdIsland s
  let s2 := (s1.setF Reg.CLK.GATE_CTRL.GATE 0).setF Reg.CLK.GATE_STAT.PENDING 0
  let s3 := (s2.setF Reg.CLK.GATE_STAT.GATED 0).setF Reg.CLK.RST_CTRL.ISL_RST 0
  let s4 := s3.modClk fun v => { v with ungate := 0, failGated := 0, sleepDue := false }
  (s4.modBoot fun b => { b with recs := [], service := [], applying := false, stand := [], confirmDue := false, hdrOk := true
                                area := s.bootArea }).setFlag cause true

/-- The READY flag of the management root's source (R371, R471). -/
def Chip.mgmtRootReady (s : Chip) : Bool :=
  if s.flag Reg.CLK.CLK_STAT.MGMT_ROOT then s.flag Reg.CLK.CLK_STAT.ROSC_READY else s.flag Reg.CLK.CLK_STAT.XTAL_READY

/-- NODE_ID written (R301, R309): the ID 0x3FFF is no node's. -/
def Chip.setNodeId (s : Chip) (valid : Bool) (id : Nat) : Chip :=
  (s.setF Reg.WST.NODE_ID.ID id).setFlag Reg.WST.NODE_ID.VALID (valid && id != 0x3FFF)

/-- Steps 3 and 6 of R371 as far as clocks allow: MGT and PCI are released once ROSC, the management root and its PLL are ready; the other islands
once the LOAD pass has ended and the system PLL has locked, with Wellspring at 0 s (R279) and the node ID of the header (R376). -/
def Chip.bootAdvance (s : Chip) : Chip :=
  let ph := s.getF Reg.BOOT.BOOT_STAT.PHASE
  let ready := s.flag Reg.CLK.CLK_STAT.ROSC_READY && s.flag Reg.CLK.CLK_STAT.MPLL_LOCK && s.mgmtRootReady && !s.clk.asleep
  let s1 := if ready && ((ph == 1 && s.boot.hdrOk) || (ph == 7 && s.clk.held.testBit 6)) then
      let u := (s.releaseIsland 6).releaseIsland 4
      if ph = 1 then u.setF Reg.BOOT.BOOT_STAT.PHASE 2 else u
    else s
  if ph = 4 ∧ s1.boot.applying = false ∧ s1.flag Reg.CLK.CLK_STAT.SPLL_LOCK = true then
    let s2 := [0, 1, 2, 7, 3, 5].foldl Chip.releaseIsland s1
    let s3 : Chip := { s2 with wst := { s2.wst with running := true } }
    let s4 := s3.setNodeId (s3.boot.hdr.node.testBit 15) (s3.boot.hdr.node % 2 ^ 14)
    s4.afterReset.modBoot fun b => { b with applying := true }
  else s1

/-- An image fails with a cause of R378 (R382, R383): before APPLY the golden image is read next; in APPLY every island but AON is reset first;
where the golden image fails or is marked bad, the device halts. -/
def Chip.imageFail (s : Chip) (cause : Nat) : Chip :=
  let apply := s.getF Reg.BOOT.BOOT_STAT.PHASE == 4
  let f := if s.boot.area = 1 then Reg.BOOT.BOOT_STAT.PRIM_CAUSE else Reg.BOOT.BOOT_STAT.GOLD_CAUSE
  let s1 := s.setF f cause
  if s.boot.area = 1 then
    let s2 := s1.raise Ev.BOOT.FALLBACK
    if s2.flag Reg.BOOT.BOOT_STAT.GOLD_BAD then s2.bootHalt
    else if apply then
      let s3 := (((s2.systemReset Reg.CLK.RST_CAUSE.FALLBACK).releaseIsland 6).releaseIsland 4).afterReset
      (s3.setF Reg.BOOT.BOOT_STAT.PHASE 2).modBoot fun b => { b with area := 2 }
    else
      (s2.modBoot fun b => { b with area := 2, recs := [], service := [] }).setF Reg.BOOT.BOOT_STAT.PHASE
        (if s.getF Reg.BOOT.BOOT_STAT.PHASE = 1 then 1 else 3)
  else s1.bootHalt

end Sys2Proof.Machine
end

