-- ==== Sys2Proof/Machine/ImgOps.lean ====
section
/-! DEFINITION. The configuration image: header, records, the LOAD pass and its causes (R374, R376 to R379). -/

namespace Sys2Proof.Machine

/-- Where an image area starts (R374): 1 = primary, 2 = golden. -/
def areaBase (area : Nat) : Nat := if area = 2 then 0x700000 else 0

/-- The first cause of R378 in the header of an area, 0 for none. -/
def Chip.headerCause (s : Chip) (area : Nat) : Nat :=
  let b := areaBase area
  let flags := s.flashByte (b + 9)
  let div := s.flashByte (b + 10)
  let len := s.flashLe (b + 12) 4
  if s.flashLe b 4 ≠ 0x534D4C4B ∨ s.flashLe (b + 4) 2 ≠ 1 then 1
  else if s.flashLe (b + 6) 2 ≠ 0x3216 ∨ s.getF Reg.TOP.ID.STEPPING < s.flashByte (b + 8) then 2
  else if flags / 4 % 4 = 3 ∨ div < 4 ∨ 64 < div ∨ len % 8 ≠ 0 ∨ len < 64 ∨ 7340032 - 48 < len ∨ (flags % 2 = 1) ≠ (area = 2) then 3
  else 0

/-- The header fields of an area (R376). -/
def Chip.readHeader (s : Chip) (area : Nat) : ImgHdr :=
  let b := areaBase area
  { imageLen := s.flashLe (b + 12) 4, seq := s.flashLe (b + 16) 4, node := s.flashLe (b + 20) 2, confirm := s.flashLe (b + 22) 2
    calA := s.flashLe (b + 24) 4, calB := s.flashLe (b + 28) 4, owner := s.flashLe (b + 32) 4, fwIf := s.flashLe (b + 36) 4
    build := s.flashLe (b + 40) 8 }

/-- The header of a record (R376): type, phase, payload length and destination. -/
structure RecHdr where
  type : Nat
  service : Nat
  len : Nat
  dest : Nat
deriving DecidableEq, Repr

/-- The record header that bytes from an address spell, through a reader of bytes. -/
def recHdr (rd : Nat → Nat) (a : Nat) : RecHdr :=
  let le := fun (o n : Nat) => ofLe ((List.range n).map fun i => rd (a + o + i))
  { type := le 0 2, service := le 2 1, len := le 4 4, dest := le 8 4 }

/-- Whether the CRC of a record holds (R376). -/
def recCrcOk (rd : Nat → Nat) (a len : Nat) : Bool :=
  ofLe ((List.range 4).map fun i => rd (a + 16 + len + i)) == crc32c ((List.range (16 + len)).map fun i => rd (a + i))

/-- Bytes written into the pools by the boot controller with 64-bit writes, word by word (R377, R447). -/
def Chip.loadBytes (s : Chip) (off : Nat) (l : List Nat) : Chip :=
  let first := off / 8
  (List.range ((off + l.length + 7) / 8 - first)).foldl (fun u i =>
    let w := first + i
    let part := (List.range 8).filterMap fun k => if off ≤ 8 * w + k then (l[8 * w + k - off]?).map fun b => (k, b) else none
    let be := part.foldl (fun m p => m + 2 ^ p.1) 0
    let data := part.foldl (fun m p => m + p.2 % 256 * 2 ^ (8 * p.1)) 0
    let u1 := (u.evc (32 + poolOfWord w)).evc 55
    if (u1.writeRefused w be 7).isSome then u1 else u1.writeWord64 w be data) s

/-- A pattern of 8 bytes repeated over a length. -/
def fillBytes (n : Nat) (pat : List Nat) : List Nat := (List.range n).map fun i => pat.getD (i % 8) 0

/-- Whether a destination leaves the pool window or reaches into the staging area (R378, cause 7). -/
def badDest (dest n : Nat) : Bool := decide (0x400000 < dest + n) || (decide (0 < n) && decide (dest < 0x340000 ∧ 0x300000 < dest + n))

/-- What the LOAD pass has gathered: the state, where staging stands, the records staged and the SERVICE records, oldest first. -/
structure LoadRun where
  chip : Chip
  staged : Nat := 0
  recs : List ImgRec := []
  service : List ImgRec := []
deriving DecidableEq, Repr

/-- A LOAD or FILL record written to the pools, or the cause LAYOUT (R376 to R378). -/
def LoadRun.place (v : LoadRun) (a : Nat) (h : RecHdr) : Nat × LoadRun :=
  let s := v.chip
  if h.type = 5 then
    if badDest h.dest h.len then (7, v) else (0, { v with chip := s.loadBytes h.dest (s.flashBytes (a + 16) h.len) })
  else
    let entries := (List.range (h.len / 16)).map fun k => a + 16 + 16 * k
    if entries.any fun e => badDest h.dest (s.flashLe e 4) then (7, v)
    else (0, { v with chip := entries.foldl (fun u e => u.loadBytes h.dest (fillBytes (u.flashLe e 4) (u.flashBytes (e + 8) 8))) s })

/-- One record of the LOAD pass (R376 to R378): its cause, 0 for none, and what it adds. -/
def LoadRun.record (v : LoadRun) (idx a : Nat) (h : RecHdr) : Nat × LoadRun :=
  if 0x8000 ≤ h.type then (0, v)
  else if h.type = 0 ∨ 9 < h.type ∨ 1 < h.service ∨ (h.service = 1 ∧ ([1, 2, 3, 4, 7].contains h.type) = false) then (6, v)
  else if h.service = 1 then (0, { v with service := v.service ++ [⟨idx, a, h.len⟩] })
  else if h.type = 5 ∨ h.type = 6 then v.place a h
  else
    let size := 16 + h.len + 8
    if 0x40000 < v.staged + size then (7, v)
    else
      let at_ := 0x300000 + v.staged
      (0, { v with chip := v.chip.loadBytes at_ (v.chip.flashBytes a size), staged := v.staged + size, recs := v.recs ++ [⟨idx, at_, h.len⟩] })

/-- The records of an image from an address on (R377): the first cause with its record's index, or none, and what was gathered. -/
def LoadRun.pass : Nat → LoadRun → Nat → Nat → Nat → Option (Nat × Nat) × LoadRun
  | 0, v, _, _, _ => (none, v)
  | fuel + 1, v, idx, a, end_ =>
    if end_ ≤ a then (none, v)
    else
      let h := recHdr v.chip.flashByte a
      if end_ < a + 16 + h.len + 8 ∨ recCrcOk v.chip.flashByte a h.len = false then (some (5, idx), v)
      else
        let r := v.record idx a h
        if r.1 ≠ 0 then (some (r.1, idx), r.2) else LoadRun.pass fuel r.2 (idx + 1) (a + 24 + h.len) end_

/-- Numbers as bytes, below 256. -/
def asBytes (l : List Nat) : List Nat := l.map fun b => b % 256

/-- The causes DIGEST and AUTH of an image whose records have passed (R377 to R379), 0 for none. -/
def Chip.digestCause (s : Chip) (area : Nat) (len : Nat) : Nat :=
  let b := areaBase area
  let auth := s.flashByte (b + 9) / 2 % 2 = 1
  if sha256 (asBytes (s.flashBytes b len)) ≠ asBytes (s.flashBytes (b + len) 32) then 8
  else if auth then
    match s.sec.bootKey with
    | none => 9
    | some k => if cmac (asBytes k) (asBytes (s.flashBytes b (len + 32))) = asBytes (s.flashBytes (b + len + 32) 16) then 0 else 9
  else if s.fuse.authOnly then 9 else 0

end Sys2Proof.Machine
end

