-- ==== Sys2Proof/Machine/MboxOps.lean ====
section
/-! DEFINITION. The firmware mailbox and the receive ring of firmware as several steps share them (R288, R387, R388). -/

namespace Sys2Proof.Machine

/-- Firmware on a core answers the mailbox command in progress (R387, R447): result words, STATUS, BUSY cleared, MBOX_DONE. -/
def Chip.mboxAnswer (s : Chip) (core status : Nat) (words : List Nat) : Chip :=
  let s1 := (words.take 16).zipIdx.foldl (fun u p => u.setF (Reg.MGMT.H2F_DATA.DATA p.2) p.1) s
  let s2 := (s1.setF Reg.MGMT.H2F_STAT.STATUS status).setFlag Reg.MGMT.H2F_STAT.BUSY false
  ({ s2 with mgmt := { s2.mgmt with mbox := none } }.raise Ev.MGMT.MBOX_DONE).evc (8 * core + 7)

/-- Whether the mailbox command in progress has an opcode that a test accepts. -/
def Chip.mboxIs (s : Chip) (p : Nat → Bool) : Bool := s.mgmt.mbox.any fun c => p c.1

/-- A word of `H2F_DATA`. -/
def Chip.mboxWord (s : Chip) (i : Nat) : Nat := s.getF (Reg.MGMT.H2F_DATA.DATA i)

/-- The oldest message of the receive ring that a test accepts, with its port, taken out of the ring. -/
def Chip.ringTake (s : Chip) (p : TtMsg → Bool) : Option (Nat × TtMsg × Chip) :=
  match s.wst.ring.find? fun x => p x.2 with
  | none => none
  | some x => some (x.1, x.2, { s with wst := { s.wst with ring := s.wst.ring.erase x } })

end Sys2Proof.Machine
end

