-- ==== Sys2Proof/Machine/MgmtOps.lean ====
section
/-! DEFINITION. The management cores as several steps share them: watchdogs, takeover and the extension's windows (R384 to R392). -/

namespace Sys2Proof.Machine

/-- A change of the hidden state of the management cores. -/
def Chip.modMgmt (s : Chip) (f : MgmtSt → MgmtSt) : Chip := { s with mgmt := f s.mgmt }

/-- Whether a core runs. -/
def Chip.coreRuns (s : Chip) (k : Nat) : Bool := s.getF (Reg.MGMT.CORE_STAT.STATE k) == 1

/-- A core's watchdog starts anew (R385): WDT_TIME ticks, 0 behaving as 1. -/
def Chip.wdtRestart (s : Chip) (k : Nat) : Chip := s.setF (Reg.MGMT.WDT_LEFT.TICKS k) (max 1 (s.getF (Reg.MGMT.WDT_CFG.WDT_TIME k)))

/-- A core starts at its entry (R371, R386). -/
def Chip.coreStart (s : Chip) (k : Nat) : Chip := (s.setF (Reg.MGMT.CORE_STAT.STATE k) 1).wdtRestart k

/-- The HOLD bit of a core written (R386): with 1 the core stays in reset; with 0 a core that was held waits for its RESTART. -/
def Chip.coreHold (s : Chip) (k : Nat) (hold : Bool) : Chip :=
  let s1 := s.setFlag (Reg.MGMT.CORE_CTRL.HOLD k) hold
  if s.getF Reg.BOOT.BOOT_STAT.PHASE < 5 then s1
  else if hold then s1.setF (Reg.MGMT.CORE_STAT.STATE k) 3
  else if s.getF (Reg.MGMT.CORE_STAT.STATE k) = 3 then s1.setF (Reg.MGMT.CORE_STAT.STATE k) 0 else s1

/-- The peer of a core that expired (R385): WDT_CFG.PEER where that core runs, else the lowest-numbered running core. -/
def Chip.peerOf (s : Chip) (k : Nat) : Option Nat :=
  let p := s.getF (Reg.MGMT.WDT_CFG.PEER k)
  if p != k && s.coreRuns p then some p else (List.range 4).find? s.coreRuns

/-- A failed core's interrupts, mailbox and pools pass to its peer (R385, R434). -/
def Chip.handOver (s : Chip) (k : Nat) : Chip :=
  match s.peerOf k with
  | none => s
  | some p =>
    let en := s.setF (Reg.TOP.CORE_EN.EN p) (s.getF (Reg.TOP.CORE_EN.EN p) ||| s.getF (Reg.TOP.CORE_EN.EN k))
    let own := (List.range 4).foldl (fun u q => if u.getF (Reg.POOL.POOL_OWN.OWNER q) = k then u.setF (Reg.POOL.POOL_OWN.OWNER q) p else u) en
    own.modMgmt fun v =>
      { v with route := Store.insert k p (Store.erase (v.route.map fun x => (x.1, if x.2 = k then p else x.2)) k) }

/-- Whether the windows of user mode admit an access: 0 = read, 1 = write, 2 = execute (R391, R392). -/
def Chip.extAllows (s : Chip) (a kind : Nat) : Bool :=
  (List.range 8).any fun w =>
    decide (s.getF (Reg.MGMT.EXT_WIN_BASE.BASE w) ≤ a ∧ a ≤ s.getF (Reg.MGMT.EXT_WIN_LIM.LIMIT w))
      && s.bitOf (Reg.MGMT.EXT_WIN_ATTR.ATTR w) kind

/-- The extension is disabled until reset (R391). -/
def Chip.extDisable (s : Chip) : Chip := (s.modMgmt fun v => { v with extOn := false }).raise Ev.MGMT.EXT_DISABLED

/-- The target of the bus matrix that decodes an address (R411), none for DECERR. -/
def busTarget (a : Nat) : Option Nat :=
  let within := fun (lo hi : Nat) => decide (lo ≤ a ∧ a ≤ hi)
  if within 0x80000000 0x803FFFFF then some ((a - 0x80000000) / 0x100000)
  else if within 0 0xFFFF || within 0x00300000 0x005FFFFF then some 4
  else if within 0x01000000 0x017FFFFF then some 5
  else if within 0x01800000 0x01FFFFFF then some 6
  else if within 0x02000000 0x024FFFFF then some 7
  else if within 0x00600000 0x007FFFFF then some 8
  else if within 0x00800400 0x008FFFFF then some 9
  else if within 0x00B00000 0x00BFFFFF then some 10
  else if within 0x00900000 0x009FFFFF then some 11
  else if within 0x00200040 0x0020004F || within 0x00200100 0x002001FF then some 13
  else if within 0x00100000 0x002FFFFF || within 0x00A00000 0x00AFFFFF then some 12
  else if within 0x00800000 0x008003FF then some 14
  else none

/-- An access of extension code outside its windows (R391): refused with an error response, whose cause the spec does not number; the extension
is suspended until the next tick, and disabled by the third fault within 10 s. -/
def Chip.extFault (s : Chip) (core a : Nat) : Chip :=
  let s1 := (s.free.2.busError core ((busTarget a).getD 0xF) (s.free.1 % 16) a).raise Ev.MGMT.EXT_FAULT
  let recent := s.now :: s.mgmt.extFaults.filter fun t => decide (s.now < t + 16000000000)
  let s2 := s1.modMgmt fun v => { v with extSusp := true, extFaults := recent }
  if 3 ≤ recent.length ∧ s.mgmt.extOn = true then s2.extDisable else s2

/-- A management tick (R19, R385, R391): the watchdogs count, and a suspended extension goes on. -/
def Chip.mgmtTick (s : Chip) : Chip :=
  if s.now % 1000000 ≠ 0 then s
  else
    let s1 := (List.range 4).foldl (fun u k =>
      if u.coreRuns k && u.flag (Reg.MGMT.WDT_CFG.EN k) then
        u.setF (Reg.MGMT.WDT_LEFT.TICKS k) (u.getF (Reg.MGMT.WDT_LEFT.TICKS k) - 1)
      else u) s
    if s1.mgmt.extSusp then s1.modMgmt fun v => { v with extSusp := false } else s1

end Sys2Proof.Machine
end

