-- ==== Sys2Proof/Machine/Boot.lean ====
section
/-! DEFINITION. The meanings of the commands of the boot sequence and of the xSPI controller (R371 to R383, R391, R400, R502, R503). -/

namespace Sys2Proof.Machine

/-- OTP_LOADED (R357, R371): step 1 of the boot sequence; where both images are marked bad, it ends at once. -/
def doOtpLoaded (s : Chip) : Chip :=
  if s.getF Reg.BOOT.BOOT_STAT.PHASE ≠ 0 ∨ s.clk.poreset = true ∨ s.clk.aonLow = true ∨ s.flag Reg.CLK.CLK_STAT.ROSC_READY = false then s
  else
    let s1 := (s.loadBootKey.setF Reg.BOOT.BOOT_STAT.PHASE 1).modBoot fun b => { b with area := s.bootArea, hdrOk := false }
    if s.bootArea = 0 then s1.bootHalt.bootAdvance else s1

/-- OTP_LOADED. -/
def execOtpLoaded (s : State) : Result := s.to (doOtpLoaded s.chip)

/-- HEADER_READ (R371, R378): `stuck` = the flash did not complete a read within 100 µs. -/
def doHeaderRead (stuck : Bool) (s : Chip) : Chip :=
  if s.getF Reg.BOOT.BOOT_STAT.PHASE ≠ 1 ∨ s.boot.hdrOk = true then s
  else
    let cause := if stuck then 4 else s.headerCause s.boot.area
    if cause ≠ 0 then (s.imageFail cause).bootAdvance else (s.modBoot fun b => { b with hdrOk := true }).bootAdvance

/-- HEADER_READ. -/
def execHeaderRead (stuck : Bool) (s : State) : Result := s.to (doHeaderRead stuck s.chip)

/-- Rows repaired in one bank of a pool, or a bank that cannot be repaired (R502, R503). -/
def Chip.bankResult (s : Chip) (bank rows : Nat) : Chip :=
  let f : Fld := ⟨if bank < 8 then Reg.POOL.SPARE_LEFT_0.addr else Reg.POOL.SPARE_LEFT_1.addr, 4 * (bank % 8), 4⟩
  if rows ≤ 8 then (s.setF f (8 - rows)).bumpSat Reg.TST.MBIST_STAT.REPAIRED rows
  else
    (((s.setF f 8).setFlag Reg.TST.MBIST_STAT.UNREP true).setF Reg.TST.MBIST_STAT.MEM (bank / 4)).raise Ev.TST.MBIST_FAIL

/-- POOL_BIST_DONE (R371, R400, R502, R503): the failing rows of the banks, by 4 × pool + bank; the contents of the pools are undefined. -/
def doPoolBistDone (rows : List (Fin 16 × Nat)) (s : Chip) : Chip :=
  if s.getF Reg.BOOT.BOOT_STAT.PHASE ≠ 2 then s
  else
    let count := fun (b : Nat) => ((rows.find? fun p => p.1.val == b).map Prod.snd).getD 0
    let s1 := (List.range 16).foldl (fun u b => u.bankResult b (count b)) { s with pool := { s.pool with words := [], track := [] } }
    s1.setF Reg.BOOT.BOOT_STAT.PHASE 3

/-- POOL_BIST_DONE. -/
def execPoolBistDone (rows : List (Fin 16 × Nat)) (s : State) : Result := s.to (doPoolBistDone rows s.chip)

/-- The LOAD pass of an area (R377, R378): its first cause, 0 for none, the record it stands at, and what was gathered. -/
def Chip.loadPass (s : Chip) (area : Nat) : Nat × Nat × LoadRun :=
  let v : LoadRun := { chip := s }
  let cause := s.headerCause area
  if cause ≠ 0 then (cause, 0, v)
  else
    let len := s.flashLe (areaBase area + 12) 4
    let r := LoadRun.pass len v 0 (areaBase area + 64) (areaBase area + len)
    match r.1 with
    | some c => (c.1, c.2, r.2)
    | none => (s.digestCause area len, 0, r.2)

/-- LOAD_PASS_END (R371, R377, R378). -/
def doLoadPassEnd (stuck : Bool) (s : Chip) : Chip :=
  if s.getF Reg.BOOT.BOOT_STAT.PHASE ≠ 3 then s
  else if stuck then s.imageFail 4
  else
    let r := s.loadPass s.boot.area
    let u := r.2.2.chip
    if r.1 = 0 then
      let h := s.readHeader s.boot.area
      let u1 := ((u.setF Reg.BOOT.BOOT_STAT.IMAGE s.boot.area).setF Reg.BOOT.IMAGE_SEQ.SEQ h.seq).setF Reg.BOOT.IMAGE_LEN.LEN h.imageLen
      let u2 := ((u1.setF Reg.BOOT.CAL_A.OFS h.calA).setF Reg.BOOT.CAL_B.OFS h.calB).setF Reg.BOOT.BOOT_STAT.PHASE 4
      (u2.modBoot fun b => { b with hdr := h, recs := r.2.2.recs, service := r.2.2.service, stand := [], applying := false }).bootAdvance
    else
      let u1 := if r.1 ≤ 4 ∨ 8 ≤ r.1 then u else u.setF Reg.BOOT.REC_STAT.FAIL_REC r.2.1
      u1.imageFail r.1

/-- LOAD_PASS_END. -/
def execLoadPassEnd (stuck : Bool) (s : State) : Result := s.to (doLoadPassEnd stuck s.chip)

/-- The extension's windows as EXT_INFO gives them (R391, R392): those that cover SEC, BOOT or MGMT get ATTR = 0; another FW_IF major disables the
extension. -/
def Chip.extLoad (s : Chip) (b : List Nat) : Chip :=
  let le := fun (o n : Nat) => ofLe ((b.drop o).take n)
  let covers := fun (base limit lo hi : Nat) => decide (base ≤ hi ∧ lo ≤ limit)
  let s1 := (List.range 8).foldl (fun u w =>
    let base := le (8 + 16 * w) 4
    let limit := le (12 + 16 * w) 4
    let bad := covers base limit 0x00800000 0x008FFFFF || covers base limit 0x00200000 0x002FFFFF || covers base limit 0x00400000 0x004FFFFF
    ((u.setF (Reg.MGMT.EXT_WIN_BASE.BASE w) base).setF (Reg.MGMT.EXT_WIN_LIM.LIMIT w) limit).setF (Reg.MGMT.EXT_WIN_ATTR.ATTR w)
      (if bad then 0 else le (16 + 16 * w) 4)) s
  if le 0 4 / 65536 = s.boot.hdr.fwIf / 65536 then s1.modMgmt fun v => { v with extOn := true } else s1.extDisable

/-- BOOT_DONE (R371, R373, R383, R399, R471): the records are applied; owners, cores, times, calibration and extension. -/
def doBootDone (s : Chip) : Chip :=
  if s.getF Reg.BOOT.BOOT_STAT.PHASE ≠ 4 ∨ s.boot.applying = false ∨ s.boot.recs ≠ [] then s
  else
    let s1 := (List.range 4).foldl (fun u k => u.setF (Reg.POOL.POOL_OWN.OWNER k) (s.boot.hdr.owner / 256 ^ k % 256)) s
    let s2 := s1.setF Reg.BOOT.BOOT_STAT.PHASE 5
    let s3 := (List.range 4).foldl (fun u k =>
      if u.flag (Reg.MGMT.CORE_CTRL.HOLD k) then u.setF (Reg.MGMT.CORE_STAT.STATE k) 3 else u.coreStart k) s2
    let t := s3.roundFree ((s.now - s.boot.released : Nat) : Int) 1600
    let s4 := (t.2.setF Reg.BOOT.BOOT_TIME.US t.1.toNat).setF Reg.CLK.PWR_STAT.STATE 0
    let s5 := (s4.modBoot fun b => { b with applying := false, confirmDue := b.hdr.confirm != 0 }).calLoad
    let s6 := match s5.mgmt.extInfo with
      | some b => s5.extLoad b
      | none => s5
    s6.raise Ev.BOOT.BOOT_DONE

/-- BOOT_DONE. -/
def execBootDone (s : State) : Result := s.to (doBootDone s.chip)

/-- FULL_SVC (R373). -/
def doFullSvc (s : Chip) : Chip :=
  if s.getF Reg.BOOT.BOOT_STAT.PHASE ≠ 5 then s
  else
    let t := s.roundFree ((s.now - s.boot.released : Nat) : Int) 1600
    ((t.2.setF Reg.BOOT.SERVICE_TIME.US t.1.toNat).setF Reg.BOOT.BOOT_STAT.PHASE 6).raise Ev.BOOT.FULL_SERVICE

/-- FULL_SVC. -/
def execFullSvc (s : State) : Result := s.to (doFullSvc s.chip)

/-- CONFIRM (R383). -/
def doConfirm (s : Chip) : Chip := s.modBoot fun b => { b with confirmDue := false }

/-- CONFIRM. -/
def execConfirm (s : State) : Result := s.to (doConfirm s.chip)

/-- CONFIRM_TMO (R383): the running image is marked bad, and a device reset follows. -/
def doConfirmTmo (s : Chip) : Chip :=
  if s.boot.confirmDue = false then s
  else
    let prim := s.getF Reg.BOOT.BOOT_STAT.IMAGE == 1
    let s1 := s.setF (if prim then Reg.BOOT.BOOT_STAT.PRIM_CAUSE else Reg.BOOT.BOOT_STAT.GOLD_CAUSE) 12
    let s2 := s1.setFlag (if prim then Reg.BOOT.BOOT_STAT.PRIM_BAD else Reg.BOOT.BOOT_STAT.GOLD_BAD) true
    (s2.raise Ev.BOOT.CONFIRM_TMO).deviceReset Reg.CLK.RST_CAUSE.CONFIRM

/-- CONFIRM_TMO. -/
def execConfirmTmo (s : State) : Result := s.to (doConfirmTmo s.chip)

/-- CLR_BAD (R383). -/
def doClrBad (s : Chip) : Chip := (s.setFlag Reg.BOOT.BOOT_STAT.PRIM_BAD false).setFlag Reg.BOOT.BOOT_STAT.GOLD_BAD false

/-- CLR_BAD. -/
def execClrBad (s : State) : Result := s.to (doClrBad s.chip)

/-- AUTH_LOCK by a master (R379): from master 4, while the OTP key is burned. -/
def doAuthLock (m : Fin 8) (s : Chip) : Chip :=
  if m.val = 4 ∧ s.fuse.otpKey.isSome = true then { s with fuse := { s.fuse with authOnly := true } } else s

/-- AUTH_LOCK. -/
def execAuthLock (m : Fin 8) (s : State) : Result := s.to (doAuthLock m s.chip)

/-- Whether a range of the flash touches the golden area (R374, R375). -/
def hitsGolden (a n : Nat) : Bool := decide (a ≤ 0xDFFFFF ∧ 0x700000 < a + n)

/-- The fields of XSPI_CMD written, with the type of the command (R394). -/
def Chip.xspiFields (s : Chip) (type : Nat) (w : Word) : Chip :=
  ((s.setF Reg.BOOT.XSPI_CMD.TYPE type).setF Reg.BOOT.XSPI_CMD.LEN (w.field 8 9)).setF Reg.BOOT.XSPI_CMD.OPCODE (w.field 0 8)

/-- An xSPI command starts, or is refused (R375, R394); a GO while one runs starts none. -/
def Chip.xspiStart (s : Chip) (op : XspiOp) (refused : Bool) : Chip :=
  if s.flag Reg.BOOT.XSPI_STAT.BUSY then s
  else if refused && !s.flag Reg.BOOT.BOOT_CTRL.GOLD_WE then (s.setFlag Reg.BOOT.XSPI_STAT.ERR true).raise Ev.BOOT.XSPI_REFUSED
  else ((s.setFlag Reg.BOOT.XSPI_STAT.BUSY true).setFlag Reg.BOOT.XSPI_STAT.ERR false).modBoot fun b => { b with xspi := some op }

/-- XSPI_READ (R375). -/
def doXspiRead (w : Word) (s : Chip) : Chip :=
  (s.xspiFields 0 w).xspiStart ⟨0, s.getF Reg.BOOT.XSPI_ADDR.ADDR, min (w.field 8 9) 256, []⟩ false

/-- XSPI_READ. -/
def execXspiRead (w : Word) (s : State) : Result := s.to (doXspiRead w s.chip)

/-- The first n bytes of XSPI_DATA, byte 0 in bits [7:0] of the first word (R394). -/
def Chip.xspiData (s : Chip) (n : Nat) : List Nat :=
  (List.range n).map fun i => s.getF (Reg.BOOT.XSPI_DATA.DATA (i / 4)) / 256 ^ (i % 4) % 256

/-- XSPI_PROGRAM (R375). -/
def doXspiProgram (w : Word) (s : Chip) : Chip :=
  let a := s.getF Reg.BOOT.XSPI_ADDR.ADDR
  let n := min (w.field 8 9) 256
  (s.xspiFields 1 w).xspiStart ⟨1, a, n, (s.xspiData n).zipIdx.map fun p => (a + p.2, p.1)⟩ (hitsGolden a n)

/-- XSPI_PROGRAM. -/
def execXspiProgram (w : Word) (s : State) : Result := s.to (doXspiProgram w s.chip)

/-- XSPI_ERASE (R375): the opcode decides the size of the aligned block that the flash erases. -/
def doXspiErase (w : Word) (s : Chip) : Chip :=
  let n := max 1 (Config.xspiEraseSize (w.field 0 8))
  let a := s.getF Reg.BOOT.XSPI_ADDR.ADDR / n * n
  (s.xspiFields 2 w).xspiStart ⟨2, a, n, []⟩ (hitsGolden a n)

/-- XSPI_ERASE. -/
def execXspiErase (w : Word) (s : State) : Result := s.to (doXspiErase w s.chip)

/-- XSPI_OTHER (R375): refused unless GOLD_WE = 1. -/
def doXspiOther (w : Word) (s : Chip) : Chip :=
  (s.xspiFields 3 w).xspiStart ⟨3, s.getF Reg.BOOT.XSPI_ADDR.ADDR, min (w.field 8 9) 256, []⟩ true

/-- XSPI_OTHER. -/
def execXspiOther (w : Word) (s : State) : Result := s.to (doXspiOther w s.chip)

/-- Bytes stored into XSPI_DATA. -/
def Chip.putXspi (s : Chip) (l : List Nat) : Chip :=
  l.zipIdx.foldl (fun u p => u.setF ⟨Reg.BOOT.XSPI_DATA.addr (p.2 / 4), 8 * (p.2 % 4), 8⟩ p.1) s

/-- What a completed xSPI command does (R375, R394): a read fills XSPI_DATA; programming clears bits, as NOR flash does; an erase sets them; of
another command the bytes that the flash sent. -/
def Chip.xspiEffect (s : Chip) (op : XspiOp) (rx : List Nat) : Chip :=
  match op.type with
  | 0 => s.putXspi (s.flashBytes op.addr op.len)
  | 1 => op.bytes.foldl (fun u p => u.setFlash p.1 (u.flashByte p.1 &&& p.2)) s
  | 2 =>
    let l := Store.clear s.boot.flash fun a => decide (op.addr ≤ a ∧ a < op.addr + op.len)
    s.modBoot fun b => { b with flash := l }
  | _ => s.putXspi (rx.take op.len)

/-- XSPI_DONE (R394, R447): a command that timed out has no effect and sets ERR. -/
def doXspiDone (timedOut : Bool) (rx : List (Fin 256)) (s : Chip) : Chip :=
  match s.boot.xspi with
  | none => s
  | some op =>
    let s1 := if timedOut then s.setFlag Reg.BOOT.XSPI_STAT.ERR true else s.xspiEffect op (rx.map fun b => b.val)
    (((s1.setFlag Reg.BOOT.XSPI_STAT.BUSY false).modBoot fun b => { b with xspi := none }).evc 100).raise Ev.BOOT.XSPI_DONE

/-- XSPI_DONE. -/
def execXspiDone (timedOut : Bool) (rx : List (Fin 256)) (s : State) : Result := s.to (doXspiDone timedOut rx s.chip)

end Sys2Proof.Machine
end

