-- ==== Sys2Proof/Machine/CommitOps.lean ====
section
/-! DEFINITION. A commit event: its checks, its refusal as a whole, and its effects in every block (R12, R36, R62, R84, R91, R134, R147, R253,
R281, R312, R355, R438, R541). -/

namespace Sys2Proof.Machine

/-- Whether an address holds RWS fields of a commit group of a mask. -/
def inGroups (groups a : Nat) : Bool := (RegMap.group a).any groups.testBit

/-- The shadows of the groups of a mask, where they do not stand at reset (R440). -/
def Chip.shadows (s : Chip) (groups : Nat) : List (Nat × Word) := s.regs.filter fun p => inGroups groups p.1

/-- The active words that a commit of groups with given shadows leaves, for every address where they may differ from reset (R12). -/
def Chip.newWords (s : Chip) (shadow : List (Nat × Word)) (groups : Nat) : List (Nat × Word) :=
  let old := s.actRegs.filter fun p => inGroups groups p.1
  let addrs := (shadow ++ old).map Prod.fst
  addrs.map fun a =>
    let m := RegMap.rwsMask a
    (a, (s.act a &&& ~~~m) ||| (Store.get RegMap.reset shadow a &&& m))

/-- The value in effect after an event: its new words, then words that wait for a protection switch, then the active words. -/
def Chip.afterEvent (s : Chip) (words : List (Nat × Word)) (a : Nat) : Word :=
  match (words ++ s.top.deferred).find? fun p => p.1 == a with
  | some p => p.2
  | none => s.act a

/-- R36: MODE would be 3, or 1 or 2 with carriers of different OTUCn. -/
def modeBroken (rd : Nat → Word) : Bool :=
  let m := (rd Reg.TOP.CARRIER_CFG.addr).field 0 2
  m == 3 || (m != 0 && (LineSet.ofWords rd .A).cfg.otucn != (LineSet.ofWords rd .B).cfg.otucn)

/-- R91: the first failing cause of the receive side, 0 for none; the engines' check needs A − 1 of them. -/
def Chip.rxCause (s : Chip) (rd : Nat → Word) (c : Carrier) : Nat :=
  let l := LineSet.ofWords rd c
  let cd := sgn 32 (rd (Reg.RXD.CD_SET.addr c)).toNat
  if l.cfg.lowlat && l.cfg.nlcSteps != 0 then 1
  else if decide (4 < l.cfg.nlcSteps) || (l.cfg.nlcSteps != 0 && l.cfg.subcEn) then 2
  else if (rd (Reg.RXD.RX_CFG.addr c)).bit 8 && decide ((if l.cfg.lowlat then 20000 else 120000) < cd.natAbs) then 3
  else if !l.carries 0 ((s.grpOf c 0).healthy 0 - 1) then 4
  else 0

/-- R147: the first failing cause of subcarrier mode, 0 for none. -/
def scCause (rd : Nat → Word) (c : Carrier) : Nat :=
  let l := LineSet.ofWords rd c
  let home := (rd (Reg.SUBC.SC_CFG.addr c)).field 8 4
  let sub := l.cfg.subcEn
  if sub && (l.cfg.format != 2 || l.cfg.otucn != 16) then 1
  else if sub && decide (1 < l.cfg.rolloff) then 2
  else if (sub && (l.role == 0 || l.role == 3)) || (!sub && l.role != 0) then 3
  else if sub && (rd Reg.TOP.CARRIER_CFG.addr).field 0 2 == 2 then 4
  else if (l.role == 2 && !l.dn.testBit home) || (l.role == 1 && l.dn != 0 && !l.dn.testBit home) then 5
  else 0

/-- What a carrier's own checks found: R62 with R36, the cause of R91, R134, the cause of R147, R355. -/
structure LineCheck where
  rate : Bool
  rx : Nat
  fec : Bool
  sc : Nat
  lenc : Bool
deriving DecidableEq, Repr

/-- The checks of a carrier's line configuration group. -/
def Chip.lineCheck (s : Chip) (rd : Nat → Word) (c : Carrier) : LineCheck :=
  let l := LineSet.ofWords rd c
  { rate := !l.cfg.ok || modeBroken rd, rx := s.rxCause rd c, fec := !l.carries 1 ((s.grpOf c 1).healthy 1 - 1)
    sc := scCause rd c, lenc := !l.carries 2 ((s.grpOf c 2).healthy 2 - 1) }

/-- Whether any of a carrier's own checks failed. -/
def LineCheck.bad (k : LineCheck) : Bool := k.rate || k.rx != 0 || k.fec || k.sc != 0 || k.lenc

/-- The carriers whose line configuration group an event holds. -/
def lineCarriers (groups : Nat) : List Carrier := [Carrier.A, Carrier.B].filter fun c => groups.testBit (2 + c.ix)

/-- A refused event that holds a carrier's line group writes its four refusal fields, and raises the events of the checks that failed (R62,
R91, R134, R147, R355). -/
def Chip.refuseLine (s : Chip) (c : Carrier) (k : LineCheck) : Chip :=
  let s1 := (s.setF (Reg.RXD.RX_STAT.REFUSE_CAUSE c) k.rx).setF (Reg.SUBC.SC_STAT.REFUSE_CAUSE c) k.sc
  let s2 := (s1.setFlag (Reg.FEC.FEC_STAT.CAP_REFUSED c) k.fec).setFlag (Reg.LENC.LENC_STAT.CAP_REFUSED c) k.lenc
  let s3 := (s2.raiseIf k.bad (Ev.TXD.CFG_REFUSED c)).raiseIf k.fec (Ev.FEC.CAP_REFUSED c)
  (s3.raiseIf (k.sc != 0) (Ev.SUBC.SC_CFG_REFUSED c)).raiseIf k.lenc (Ev.LENC.CAP_REFUSED c)

/-- What the checks of an event find, all on the values in effect after it: R36, the carriers' line groups, R253, R312, R281. -/
structure EventCheck where
  mode : Bool
  line : List (Carrier × LineCheck)
  xc : Option (Nat × Nat)
  prot : Option (Nat × Nat)
  set_ : Bool
deriving DecidableEq, Repr

/-- The checks of an event (R438): the cross-connect at groups 4 and 5, and for causes 5, 6 and 8 at groups 2 and 3 (R253); the protection
groups at groups 1 to 5 and 8 (R312). -/
def Chip.eventCheck (s : Chip) (rd : Nat → Word) (groups : Nat) : EventCheck :=
  let mode := (rd Reg.TOP.CARRIER_CFG.addr).field 0 2
  { mode := groups.testBit 1 && modeBroken rd
    line := (lineCarriers groups).map fun c => (c, s.lineCheck rd c)
    xc := if groups &&& 0x30 != 0 then s.xcCheck rd mode fun _ => true
      else if groups &&& 0x0C != 0 then s.xcCheck rd mode fun k => k == 5 || k == 6 || k == 8
      else none
    prot := if groups &&& 0x13E != 0 then protCheck rd mode else none
    set_ := groups.testBit 7 && decide (999999999 < (rd Reg.WST.SET_NS.addr).field 0 30) }

/-- Whether a check of an event refuses it. -/
def EventCheck.bad (k : EventCheck) : Bool :=
  k.mode || (k.line.any fun p => p.2.bad) || k.xc.isSome || k.prot.isSome || k.set_

/-- The islands that an event needs and that are gated or in reset (R541), as a mask of DPA, DPB, CLI. -/
def Chip.islandsMissing (s : Chip) (groups : Nat) : Nat :=
  (groups.testBit 2 && s.islDown 0).toNat + 2 * (groups.testBit 3 && s.islDown 1).toNat
    + 4 * (groups &&& 0x130 != 0 && s.islDown 2).toNat

/-- An event that does not take effect is recorded in TOP (R438, R541). -/
def Chip.commitRefused (s : Chip) (groups : Nat) : Chip :=
  ((s.setF Reg.TOP.COMMIT_REFUSED.GROUPS (s.getF Reg.TOP.COMMIT_REFUSED.GROUPS ||| groups)).setF Reg.TOP.COMMIT_LAST.GROUPS groups).raise
    Ev.TOP.COMMIT_REFUSED

/-- The blocks whose check failed record their cause and raise their event (R36, R62, R253, R281, R312). -/
def Chip.refuseBlocks (s : Chip) (k : EventCheck) : Chip :=
  let s1 := if k.mode then s.setFlag Reg.TOP.CARRIER_STAT.MODE_ERR true else s
  let s2 := k.line.foldl (fun u p => u.refuseLine p.1 p.2) s1
  let s3 := match k.xc with
    | some x => ((s2.setF Reg.XC.XC_STAT.REFUSE_CAUSE x.1).setF Reg.XC.XC_STAT.REFUSE_IDX x.2).raise Ev.XC.XC_REFUSED
    | none => s2
  let s4 := match k.prot with
    | some x =>
      (((s3.setF Reg.PROT.PROT_STAT.REFUSE_CAUSE x.1).setF Reg.PROT.PROT_STAT.REFUSE_PG x.2).raise Ev.PROT.PG_REFUSED)
    | none => s3
  s4.raiseIf k.set_ Ev.WST.SET_REFUSED

/-- The committed line group of a carrier takes its place (R61, R77, R92, R340, R350): CD_MODE and the encryptor's settings at once, the line
settings at their point. -/
def Chip.lineGroupCommitted (s : Chip) (c : Carrier) (old : Nat → Word) : Chip :=
  let fixed := s.actFlag (Reg.RXD.RX_CFG.CD_MODE c)
  let set_ := sgn 32 (s.actF (Reg.RXD.CD_SET.CD c))
  let s1 := s.setFlag (Reg.RXD.RX_STAT.CD_MODE_ACTIVE c) fixed
  let s2 := if fixed then
      (s1.receivers c).foldl (fun u r => if 2 < (u.rcvOf r).state then u.modRcv r fun v => { v with cd := set_ } else u) s1
    else s1
  let s3 := s2.setFlag (Reg.LENC.LENC_STAT.TX_ENC_ACTIVE c) (s2.actFlag (Reg.LENC.LENC_CFG.TX_ENC c))
  let vbr := s3.actFlag (Reg.LENC.LENC_CFG.VBR c)
  let s4 := if s3.flag (Reg.LENC.LENC_STAT.VBR_ACTIVE c) = vbr then s3
    else (s3.setFlag (Reg.LENC.LENC_STAT.VBR_ACTIVE c) vbr).flRecompute c
  s4.lineCommit c (LineSet.ofWords old c) ((old (Reg.SUBC.SC_CFG.addr c)).field 8 4)

/-- Groups 1, 4 and 8, which wait for a protection switch in progress (R38, R254, R335). -/
def waitGroups : Nat := 0x112

/-- An event takes effect (R12, R438). -/
def Chip.commitTakes (s : Chip) (words : List (Nat × Word)) (groups : Nat) : Chip :=
  let old := s.act
  let waits := groups &&& waitGroups != 0 && (s.top.deferGroups != 0 || s.pgsOn.any s.switchDue)
  let late := words.filter fun p => waits && inGroups waitGroups p.1
  let s1 := s.install (words.filter fun p => !(waits && inGroups waitGroups p.1))
  let s2 : Chip := if waits then
      { s1 with top := { s1.top with deferGroups := s1.top.deferGroups ||| (groups &&& waitGroups)
                                     deferred := late ++ s1.top.deferred.filter fun p => !late.any fun q => q.1 == p.1 } }
    else s1
  let s3 := (lineCarriers groups).foldl (fun u c => u.lineGroupCommitted c old) s2
  let s4 := if waits then s3 else s3.switchedGroups (groups &&& waitGroups) old
  let s5 := if groups.testBit 5 then s4.portCommitted else s4
  let s6 := if groups.testBit 6 then s5.dcoCommitted else s5
  let s7 := if groups.testBit 7 then
      let t := (s6.actF Reg.WST.SET_SEC_LO.SEC + s6.actF Reg.WST.SET_SEC_HI.SEC * 2 ^ 32) * secT16 + s6.actF Reg.WST.SET_NS.NS * 65536
      let u := s6.stepTo t
      ({ u with wst := { u.wst with slew := 0, slewAcc := 0 } }).setFlag Reg.WST.TIME_STAT.SET_ONCE true
    else s6
  let s8 := if groups &&& 0x12 != 0 && !waits then (s7.flRecompute .A).flRecompute .B else s7
  ((s8.bump Reg.TOP.COMMIT_SEQ.COUNT).setF Reg.TOP.COMMIT_LAST.GROUPS groups).lencSettleAll

/-- A commit event with the shadows of its groups (R438, R447, R541): refused as a whole, or made. Answers the islands it missed. -/
def Chip.commitEvent (s : Chip) (shadow : List (Nat × Word)) (groups : Nat) : Nat × Chip :=
  let miss := s.islandsMissing groups
  let s0 := s.evc 71
  if miss ≠ 0 then (miss, s0.commitRefused groups)
  else
    let words := s0.newWords shadow groups
    let k := s0.eventCheck (s0.afterEvent words) groups
    (0, if k.bad then (s0.refuseBlocks k).commitRefused groups else s0.commitTakes words groups)

/-- The shadows of the groups of a mask take the active values (R440). -/
def Chip.shadowRevert (s : Chip) (groups : Nat) : Chip :=
  let addrs := (s.regs ++ s.actRegs).filter fun p => inGroups groups p.1
  addrs.foldl (fun u p =>
    let m := RegMap.rwsMask p.1
    u.wr p.1 ((u.rd p.1 &&& ~~~m) ||| (u.act p.1 &&& m))) s

end Sys2Proof.Machine
end

