-- ==== Sys2Proof/Machine/Commit.lean ====
section
/-! DEFINITION. The meanings of the commits that a master writes to TOP (R438, R440, R541). -/

namespace Sys2Proof.Machine

/-- COMMIT (R438): the groups written form one event; without a bit there is none. The commands run one after the other, so a later write of an
RWS register goes to the shadow after the copy (R13), and every later request of the master finds the commit done (R439). -/
def doCommit (groups : Fin 4294967296) (s : Chip) : Chip :=
  if groups.val = 0 then s else (s.commitEvent (s.shadows groups.val) groups.val).2

/-- COMMIT. -/
def execCommit (groups : Fin 4294967296) (s : State) : Result := s.to (doCommit groups s.chip)

/-- SHADOW_REVERT (R440). -/
def doShadowRevert (groups : Fin 4294967296) (s : Chip) : Chip := s.shadowRevert groups.val

/-- SHADOW_REVERT. -/
def execShadowRevert (groups : Fin 4294967296) (s : State) : Result := s.to (doShadowRevert groups s.chip)

end Sys2Proof.Machine
end

