-- ==== Sys2Proof/Machine/LaneOps.lean ====
section
/-! DEFINITION. A client lane as several steps share it: its events, what it reports, leaving ACTIVE, the entries into its states, the
capability word and the checker (R217 to R238). -/

namespace Sys2Proof.Machine

/-- The hidden state of a lane. -/
def Chip.laneOf (s : Chip) (l : Nat) : LaneSt := Tab.get {} s.lane l

/-- The hidden state of a lane changed. -/
def Chip.modLane (s : Chip) (l : Nat) (f : LaneSt → LaneSt) : Chip := { s with lane := Tab.put {} s.lane l (f (s.laneOf l)) }

/-- The state of a lane by its code of R221. -/
def Chip.laneState (s : Chip) (l : Nat) : Nat := s.getF (Reg.LANE.LANE_STAT.STATE l)

/-- An event of a lane, with its bit of LANE_EVT (R241). -/
def Chip.raiseLane (s : Chip) (l : Nat) (e : Nat → Ev) : Chip := (s.raise (e l)).setBit Reg.CLI.LANE_EVT.LANE l

/-- Near-end loopback (R238). -/
def Chip.nearLoop (s : Chip) (l : Nat) : Bool := s.getF (Reg.LANE.LANE_CFG.LOOPBACK l) == 1

/-- Far-end loopback (R238). -/
def Chip.farLoop (s : Chip) (l : Nat) : Bool := s.getF (Reg.LANE.LANE_CFG.LOOPBACK l) == 2

/-- Whether the lane trains: TRAIN_EN, which near-end loopback overrides (R238). -/
def Chip.trains (s : Chip) (l : Nat) : Bool := s.flag (Reg.LANE.LANE_CFG.TRAIN_EN l) && !s.nearLoop l

/-- The rate code in effect: 3 behaves as 0 (R217). -/
def Chip.rateCode (s : Chip) (l : Nat) : Nat := s.getF (Reg.LANE.LANE_CFG.RATE l) % 3

/-- What LANE_STAT derives from the rest: the transmitter's sleep (R231, R232), RCLK_VALID (R230) and precoding (R219). -/
def Chip.laneShow (s : Chip) (l : Nat) : Chip :=
  let st := s.laneState l
  let v := s.laneOf l
  let asleep := s.flag (Reg.LANE.LANE_STAT.RX_ASLEEP l)
  let clear := !s.flag (Reg.LANE.LANE_STAT.LOS l) && !s.flag (Reg.LANE.LANE_STAT.LOL l)
  let agreed := fun (b : Bool) => match s.getF (Reg.LANE.LANE_CFG.PRECODE l) with | 1 => false | 2 => true | _ => b && s.rateCode l == 0
  let s1 := s.setFlag (Reg.LANE.LANE_STAT.TX_ASLEEP l)
    (decide (st = 5) && s.flag (Reg.LANE.LANE_SLEEP.TX_SLEEP l) && !s.farLoop l)
  let s2 := s1.setFlag (Reg.LANE.LANE_STAT.RCLK_VALID l) (!asleep && clear && decide (3 ≤ st ∧ st ≤ 5))
  (s2.setFlag (Reg.LANE.LANE_STAT.PRECODE_TX l) (agreed v.preTx)).setFlag (Reg.LANE.LANE_STAT.PRECODE_RX l) (agreed v.preRx)

/-- LOS of a lane: an assertion raises its event and counts (R229, R447). -/
def Chip.setLos (s : Chip) (l : Nat) (b : Bool) : Chip :=
  let had := s.flag (Reg.LANE.LANE_STAT.LOS l)
  let s1 := (s.setFlag (Reg.LANE.LANE_STAT.LOS l) b).setLive (Ev.LANE.LOS l) b
  if b && !had then (s1.raiseLane l Ev.LANE.LOS).evc (385 + 4 * l) else s1

/-- LOL of a lane: an assertion raises its event and counts (R229, R447). -/
def Chip.setLol (s : Chip) (l : Nat) (b : Bool) : Chip :=
  let had := s.flag (Reg.LANE.LANE_STAT.LOL l)
  let s1 := (s.setFlag (Reg.LANE.LANE_STAT.LOL l) b).setLive (Ev.LANE.LOL l) b
  if b && !had then ((s1.raiseLane l Ev.LANE.LOL).evc (386 + 4 * l)).modLane l fun v => { v with passF := 0, passE := 0 } else s1

/-- LOS and LOL as they are reported where the detectors do not report: 0 in sleep (R229), and in DISABLED as at reset. -/
def Chip.quietDetectors (s : Chip) (l : Nat) (los : Bool) : Chip :=
  let s1 := (s.setFlag (Reg.LANE.LANE_STAT.LOS l) los).setFlag (Reg.LANE.LANE_STAT.LOL l) false
  (s1.setLive (Ev.LANE.LOS l) false).setLive (Ev.LANE.LOL l) false

/-- CHK_LOCK changes (R236, R241). -/
def Chip.setChkLock (s : Chip) (l : Nat) (b : Bool) : Chip :=
  if s.flag (Reg.LANE.CHK_STAT.CHK_LOCK l) = b then s
  else (s.setFlag (Reg.LANE.CHK_STAT.CHK_LOCK l) b).raiseLane l Ev.LANE.CHK_LOCK_CHANGE

/-- Bits that the checker has compared while it was locked, and those in error (R236, R447). -/
def Chip.chkCount (s : Chip) (l bits errs : Nat) : Chip :=
  if s.flag (Reg.LANE.CHK_STAT.CHK_LOCK l) then
    ((s.addPair (Reg.LANE.CHK_BITS_LO.addr l) bits).addPair (Reg.LANE.CHK_ERRS_LO.addr l) errs).evc (384 + 4 * l) errs
  else s

/-- Whether the checker runs (R236). -/
def Chip.chkRuns (s : Chip) (l : Nat) : Bool :=
  s.flag (Reg.LANE.PRBS_CFG.CHK_EN l) && decide (s.laneState l = 5) && !s.flag (Reg.LANE.LANE_STAT.RX_ASLEEP l)

/-- What leaving ACTIVE brings (R222, R223, R231, R236, R237): the exit counts, both directions wake, the checker loses lock, pending
injections are discarded; other than by configuration LANE_DOWN is raised. The coefficients are kept. -/
def Chip.laneLeave (s : Chip) (l : Nat) (down : Bool) : Chip :=
  if s.laneState l = 5 then
    let s1 := (s.evc (387 + 4 * l)).setFlag (Reg.LANE.LANE_STAT.RX_ASLEEP l) false
    let s2 := (s1.setChkLock l false).modLane l fun v => { v with waking := false, ones := 0, burst := 0, onesAfter := 0, kept := true }
    if down then (s2.raiseLane l Ev.LANE.LANE_DOWN).bump (Reg.LANE.DOWN_CNT.COUNT l) else s2
  else s

/-- The coefficients and the CDR state are discarded (R223): the written values are in use again. -/
def Chip.coefDiscard (s : Chip) (l : Nat) : Chip :=
  let v := s.laneOf l
  let s1 := (List.range 5).foldl (fun u k => u.setF (Reg.LANE.TX_FFE.TAP l k) (Tab.get 0 v.start k)) s
  s1.modLane l fun v => { v with kept := false, cdr := false, preTx := false, preRx := false }

/-- Entry into TRAIN (R219, R222): unless the coefficients are kept, the taps start from the written values; tap c(−3) is held at 0 at rates 1 and 2. -/
def Chip.enterTrain (s : Chip) (l : Nat) : Chip :=
  let v := s.laneOf l
  let s1 := if v.kept then s
    else (List.range 5).foldl (fun u k => u.setF (Reg.LANE.TX_FFE.TAP l k) (if k = 0 ∧ u.rateCode l ≠ 0 then 0 else Tab.get 0 v.start k)) s
  (s1.setF (Reg.LANE.LANE_STAT.STATE l) 2).modLane l fun v => { v with trained := true }

/-- Entry into DETECT (R222), and straight into TRAIN where LOS is clear and the lane trains; LOL is held while the CDR is not locked and
LOS is clear (R228). -/
def Chip.laneDetect (s : Chip) (l : Nat) (down : Bool) : Chip :=
  let s1 := (s.laneLeave l down).setF (Reg.LANE.LANE_STAT.STATE l) 1
  let s2 := s1.modLane l fun v => { v with detectAt := s.now, trained := false, cdr := false, finished := false, ready := false }
  let s3 := if s2.flag (Reg.LANE.LANE_STAT.LOS l) then s2
    else let t := s2.setLol l true; if t.trains l then t.enterTrain l else t
  s3.laneShow l

/-- DISABLED (R222, R223). -/
def Chip.laneDisable (s : Chip) (l : Nat) : Chip :=
  let s1 := ((s.laneLeave l false).setF (Reg.LANE.LANE_STAT.STATE l) 0).coefDiscard l
  ((s1.quietDetectors l true).modLane l fun v => { v with trained := false, finished := false, ready := false }).laneShow l

/-- Entry into ACTIVE (R222, R223, R231): ACT_TIME in µs from the last entry into DETECT; a stored RX_SLEEP acts. -/
def Chip.enterActive (s : Chip) (l : Nat) : Chip :=
  let r := s.roundFree ((s.now - (s.laneOf l).detectAt : Nat) : Int) 1600
  let s1 := (r.2.setSat (Reg.LANE.ACT_TIME.TIME l) r.1.toNat).setF (Reg.LANE.LANE_STAT.STATE l) 5
  let s2 := s1.raiseLane l Ev.LANE.ACTIVE
  let s3 := if s2.flag (Reg.LANE.LANE_SLEEP.RX_SLEEP l) then
      (s2.setFlag (Reg.LANE.LANE_STAT.RX_ASLEEP l) true).quietDetectors l false else s2
  s3.laneShow l

/-- The exchange is finished and the far end is ready: training frames end (R222). -/
def Chip.capsSettle (s : Chip) (l : Nat) : Chip :=
  let v := s.laneOf l
  if s.laneState l = 4 ∧ v.finished = true ∧ v.ready = true then s.enterActive l else s

/-- Entry into CAPS (R222): with CAPS_EN = 0 the exchange is finished at once. -/
def Chip.enterCaps (s : Chip) (l : Nat) : Chip :=
  let en := s.flag (Reg.LANE.LANE_CFG.CAPS_EN l)
  let s1 := (s.setF (Reg.LANE.LANE_STAT.STATE l) 4).modLane l fun v =>
    { v with finished := !en, ready := false, lastWord := none, accepted := none, ackSeen := false }
  s1.laneShow l

/-- The port whose lanes in effect include a lane, with the width and the lane's position (R225, R242). -/
def Chip.laneGroup (s : Chip) (l : Nat) : Option (Nat × Nat) :=
  ((List.range 16).findSome? fun p =>
    if s.flag (Reg.PORT.PORT_STAT.EN_ACTIVE p) then
      ((s.portLanes s.act p).idxOf? l).map fun i => ((s.portLanes s.act p).length, i)
    else none)

/-- The CRC-8 of a capability word over bits [63:8] (R225). -/
def capsCrc (w : Nat) : Nat := crcMsb 8 7 0xFF ((List.range 56).map fun i => w / 2 ^ (63 - i) % 2)

/-- Whether a capability word is valid (R226). -/
def capsValid (w : Nat) : Bool := w / 2 ^ 60 % 16 == 1 && capsCrc w == w % 256

/-- Whether an accepted word disagrees with the lane (R226): GROUP or POS, or a rate it lacks. The lane's own GROUP and POS are open while it
belongs to no port. -/
def Chip.capsMismatch (s : Chip) (l w : Nat) : Bool × Chip :=
  let own := match s.laneGroup l with
    | some g => ((g.1.log2, g.2), s)
    | none => ((s.free.1 % 5, s.free.2.free.1 % 16), s.free.2.free.2)
  let lacks := (w / 2 ^ 56 % 8).testBit (2 - s.rateCode l) == false
  (decide (w / 2 ^ 47 % 8 ≠ own.1.1) || decide (w / 2 ^ 43 % 16 ≠ own.1.2) || lacks, own.2)

/-- A write of LANE_CFG (R222, R223, R238): LANE_EN first, then a restart where RATE, REACH, TRAIN_EN, CAPS_EN or near-end loopback changes; the
rest takes effect at once. -/
def Chip.laneCfgWrite (s : Chip) (l : Nat) (w : Word) : Chip :=
  let a := Reg.LANE.LANE_CFG.addr l
  let old := s.rd a
  let new := w &&& 0x03033F31#32
  let s1 := s.wr a new
  let fresh := decide (old.field 4 2 ≠ new.field 4 2) || decide (old.bit 8 ≠ new.bit 8)
  let near := fun (x : Word) => x.field 16 2 == 1
  let restart := fresh || decide (old.bit 9 ≠ new.bit 9) || decide (old.bit 10 ≠ new.bit 10) || decide (near old ≠ near new)
  if !new.bit 0 then (if s.laneState l = 0 then s1.laneShow l else s1.laneDisable l)
  else if s.laneState l = 0 then (s1.coefDiscard l).laneDetect l false
  else if restart then (if fresh then ((s1.laneLeave l false).coefDiscard l).laneDetect l false else s1.laneDetect l false)
  else s1.laneShow l

/-- A write of a transmit tap (R219): the start value; with training off, or before any training, the value in use. -/
def Chip.tapWrite (s : Chip) (l k v : Nat) : Chip :=
  let s1 := s.modLane l fun x => { x with start := Tab.put 0 x.start k (v % 256) }
  if s.trains l && (decide (2 ≤ s.laneState l) || (s.laneOf l).kept) then s1 else s1.setF (Reg.LANE.TX_FFE.TAP l k) v

/-- A write of TX_SLEEP (R231, R232). -/
def Chip.txSleepWrite (s : Chip) (l : Nat) (b : Bool) : Chip :=
  let refused := b && s.flag (Reg.LANE.LANE_STAT.CAPS_PEER l) && !(s.getPair (Reg.LANE.CAPS_RX_LO.addr l)).testBit 54
  let s1 := s.setFlag (Reg.LANE.LANE_SLEEP.TX_SLEEP l) (b && !refused)
  (if refused then s1.raiseLane l Ev.LANE.SLEEP_REFUSED else s1).laneShow l

/-- A write of RX_SLEEP (R231, R233): asleep at once in ACTIVE, cancelling a wake; or a wake begins. -/
def Chip.rxSleepWrite (s : Chip) (l : Nat) (b : Bool) : Chip :=
  let s1 := s.setFlag (Reg.LANE.LANE_SLEEP.RX_SLEEP l) b
  if s.laneState l ≠ 5 then s1
  else if b then
    (((s1.setFlag (Reg.LANE.LANE_STAT.RX_ASLEEP l) true).quietDetectors l false).setChkLock l false).modLane l (fun v => { v with waking := false })
      |>.laneShow l
  else s1.modLane l fun v => { v with waking := s.flag (Reg.LANE.LANE_STAT.RX_ASLEEP l) }

/-- A write of PRBS_CFG's settings (R234 to R236): a checker that is switched off holds no lock. -/
def Chip.prbsWrite (s : Chip) (l : Nat) (w : Word) : Chip :=
  let s1 := s.wr (Reg.LANE.PRBS_CFG.addr l) (w &&& 0x00003FF3#32)
  if s1.chkRuns l then s1 else s1.setChkLock l false

/-- The symbols of a lane in the data-plane clock that begins now: 66.40625 at 106.25 GBd, half of it at each lower rate (R15, R217). -/
def Chip.laneSymbols (s : Chip) (l : Nat) : Nat :=
  let d := 32 * 2 ^ s.rateCode l
  (s.now + 1) * 2125 / d - s.now * 2125 / d

/-- The injections that the symbols of a clock take, in the order of their requests (R237). -/
def Chip.laneInject (s : Chip) (l : Nat) : Chip :=
  let v := s.laneOf l
  let n := min (s.laneSymbols l) (v.ones + v.burst + v.onesAfter)
  let a := min n v.ones
  let b := min (n - a) v.burst
  let c := n - a - b
  let v' : LaneSt := { v with ones := v.ones - a, burst := v.burst - b, onesAfter := v.onesAfter - c }
  let v'' : LaneSt := if v'.burst = 0 then { v' with ones := v'.ones + v'.onesAfter, onesAfter := 0 } else v'
  (s.modLane l fun _ => v'').bump (Reg.LANE.INJ_CNT.COUNT l) n

/-- A clock of the lanes that hold injections. -/
def Chip.laneTick (s : Chip) : Chip :=
  ((s.lane.filter fun p => decide (0 < p.2.ones + p.2.burst + p.2.onesAfter)).map Prod.fst).foldl Chip.laneInject s

end Sys2Proof.Machine
end

