-- ==== Sys2Proof/Machine/Lanes.lean ====
section
/-! DEFINITION. The meanings of the commands of the client lanes (R219 to R238). -/

namespace Sys2Proof.Machine

/-- LANE_EN_SET (R222). -/
def doLaneEnSet (l : Fin 16) (s : Chip) : Chip := s.laneCfgWrite l.val (s.rd (Reg.LANE.LANE_CFG.addr l.val) ||| 1)

/-- LANE_EN_SET. -/
def execLaneEnSet (l : Fin 16) (s : State) : Result := s.to (doLaneEnSet l s.chip)

/-- LANE_EN_CLEAR (R222). -/
def doLaneEnClear (l : Fin 16) (s : Chip) : Chip := s.laneCfgWrite l.val (s.rd (Reg.LANE.LANE_CFG.addr l.val) &&& 0xFFFFFFFE#32)

/-- LANE_EN_CLEAR. -/
def execLaneEnClear (l : Fin 16) (s : State) : Result := s.to (doLaneEnClear l s.chip)

/-- LANE_RECONFIG (R222, R223, R238). -/
def doLaneReconfig (l : Fin 16) (w : Word) (s : Chip) : Chip :=
  s.laneCfgWrite l.val ((w &&& 0xFFFFFFFE#32) ||| (s.rd (Reg.LANE.LANE_CFG.addr l.val) &&& 1))

/-- LANE_RECONFIG. -/
def execLaneReconfig (l : Fin 16) (w : Word) (s : State) : Result := s.to (doLaneReconfig l w s.chip)

/-- Whether a lane's detectors report: not in DISABLED, and not while the receive direction sleeps (R229). -/
def Chip.detects (s : Chip) (l : Nat) : Bool := decide (s.laneState l ≠ 0) && !s.flag (Reg.LANE.LANE_STAT.RX_ASLEEP l)

/-- LANE_LOS_ASSERT (R222, R227): in the states 2 to 5 back to DETECT. -/
def doLaneLosAssert (l : Fin 16) (s : Chip) : Chip :=
  if s.detects l.val then
    let s1 := s.setLos l.val true
    if 2 ≤ s.laneState l.val then s1.laneDetect l.val true else s1.laneShow l.val
  else s

/-- LANE_LOS_ASSERT. -/
def execLaneLosAssert (l : Fin 16) (s : State) : Result := s.to (doLaneLosAssert l s.chip)

/-- LANE_LOS_CLEAR (R222, R227, R228). -/
def doLaneLosClear (l : Fin 16) (s : Chip) : Chip :=
  if s.detects l.val then
    let s1 := s.setLos l.val false
    let s2 := if (s1.laneOf l.val).cdr then s1 else s1.setLol l.val true
    (if s2.laneState l.val = 1 ∧ s2.trains l.val = true then s2.enterTrain l.val else s2).laneShow l.val
  else s

/-- LANE_LOS_CLEAR. -/
def execLaneLosClear (l : Fin 16) (s : State) : Result := s.to (doLaneLosClear l s.chip)

/-- LOL is asserted (R222): ACTIVE falls to DETECT, LOCK and CAPS to TRAIN. -/
def Chip.lolAsserted (s : Chip) (l : Nat) : Chip :=
  let had := s.flag (Reg.LANE.LANE_STAT.LOL l)
  let s1 := s.setLol l true
  if had then s1
  else if s.laneState l = 5 then s1.laneDetect l true
  else if s.laneState l = 3 ∨ s.laneState l = 4 then
    let seen := (s.laneOf l).trained
    let s2 := if seen then s1.setF (Reg.LANE.LANE_STAT.STATE l) 2 else s1.enterTrain l
    s2.laneShow l
  else s1.laneShow l

/-- Whether a window fails (R228): LOL_PPM in units of 10 ppm, 0 behaving as 1 and more than 20 as 20; 2^-8 of the 2^16 symbols. -/
def Chip.windowFails (s : Chip) (l : Nat) (errors : Bool) (m : Nat) : Bool :=
  if errors then decide (256 < m) else decide (min (max (s.getF (Reg.LANE.DET_CFG.LOL_PPM l)) 1) 20 * 10000 < m)

/-- LOL_WINDOW (R222, R228, R236). -/
def doLolWindow (l : Fin 16) (errors : Bool) (m bits errs : Nat) (s0 : Chip) : Chip :=
  let s := s0.chkCount l.val bits errs
  if s.detects l.val = false then s
  else if s.windowFails l.val errors m then
    (s.modLane l.val fun v => if errors then { v with passE := 0 } else { v with passF := 0 }).lolAsserted l.val
  else
    let s1 := s.modLane l.val fun v => if errors then { v with passE := v.passE + 1 } else { v with passF := v.passF + 1 }
    let v := s1.laneOf l.val
    let held := !v.cdr && !s1.flag (Reg.LANE.LANE_STAT.LOS l.val)
    if 2 ≤ v.passE ∧ 2 ≤ v.passF ∧ held = false then (s1.setLol l.val false).laneShow l.val else s1

/-- LOL_WINDOW. -/
def execLolWindow (l : Fin 16) (errors : Bool) (m bits errs : Nat) (s : State) : Result := s.to (doLolWindow l errors m bits errs s.chip)

/-- TRAIN_CONVERGED (R219, R222): precoding is agreed at rate 0. -/
def doTrainConverged (l : Fin 16) (preTx preRx : Bool) (s : Chip) : Chip :=
  if s.laneState l.val = 2 then
    ((s.setF (Reg.LANE.LANE_STAT.STATE l.val) 3).modLane l.val fun v => { v with cdr := true, preTx := preTx, preRx := preRx }).laneShow l.val
  else s

/-- TRAIN_CONVERGED. -/
def execTrainConverged (l : Fin 16) (preTx preRx : Bool) (s : State) : Result := s.to (doTrainConverged l preTx preRx s.chip)

/-- LOCK_HOLD_EXPIRED (R222). -/
def doLockHoldExpired (l : Fin 16) (s : Chip) : Chip :=
  if s.laneState l.val = 3 ∧ s.flag (Reg.LANE.LANE_STAT.LOS l.val) = false ∧ s.flag (Reg.LANE.LANE_STAT.LOL l.val) = false then
    if s.trains l.val then s.enterCaps l.val else s.enterActive l.val
  else s

/-- LOCK_HOLD_EXPIRED. -/
def execLockHoldExpired (l : Fin 16) (s : State) : Result := s.to (doLockHoldExpired l s.chip)

/-- TRAIN_FAIL (R222). -/
def doTrainFail (l : Fin 16) (s : Chip) : Chip :=
  if 2 ≤ s.laneState l.val ∧ s.laneState l.val ≤ 4 ∧ (s.laneOf l.val).trained = true then
    ((s.raiseLane l.val Ev.LANE.TRAIN_FAIL).bump (Reg.LANE.TRAIN_FAIL_CNT.COUNT l.val)).laneDetect l.val true
  else s

/-- TRAIN_FAIL. -/
def execTrainFail (l : Fin 16) (s : State) : Result := s.to (doTrainFail l s.chip)

/-- CAPS_TIMEOUT (R222): the lane fails, or the exchange is finished without a peer. -/
def doCapsTimeout (l : Fin 16) (s : Chip) : Chip :=
  if s.laneState l.val = 4 ∧ (s.laneOf l.val).finished = false then
    if s.flag (Reg.LANE.LANE_CFG.CAPS_REQ l.val) then
      ((s.raiseLane l.val Ev.LANE.CAPS_FAIL).bump (Reg.LANE.CAPS_FAIL_CNT.COUNT l.val)).laneDetect l.val true
    else ((s.setFlag (Reg.LANE.LANE_STAT.CAPS_PEER l.val) false).modLane l.val fun v => { v with finished := true }).capsSettle l.val
  else s

/-- CAPS_TIMEOUT. -/
def execCapsTimeout (l : Fin 16) (s : State) : Result := s.to (doCapsTimeout l s.chip)

/-- The exchange completes (R226). -/
def Chip.capsComplete (s : Chip) (l w : Nat) : Chip :=
  let s1 := ((s.setPair (Reg.LANE.CAPS_RX_LO.addr l) w).setFlag (Reg.LANE.LANE_STAT.CAPS_PEER l) true).raiseLane l Ev.LANE.CAPS_DONE
  let r := s1.capsMismatch l w
  let s2 := if r.1 then r.2.raiseLane l Ev.LANE.CAPS_MISMATCH else r.2
  (s2.modLane l fun v => { v with finished := true }).capsSettle l

/-- CAPS_WORD_RX (R226). -/
def doCapsWordRx (l : Fin 16) (word : BitVec 64) (sent : Nat) (s : Chip) : Chip :=
  let v := s.laneOf l.val
  if s.laneState l.val = 4 ∧ v.finished = false then
    let w := word.toNat
    let ok := capsValid w
    let v1 : LaneSt := { v with accepted := if ok && decide (v.lastWord = some w) then some w else v.accepted
                                lastWord := if ok then some w else none
                                ackSeen := v.ackSeen || (ok && w.testBit 59) }
    let s1 := s.modLane l.val fun _ => v1
    match v1.accepted with
    | some x => if 2 ≤ sent ∧ v1.ackSeen = true then s1.capsComplete l.val x else s1
    | none => s1
  else s

/-- CAPS_WORD_RX. -/
def execCapsWordRx (l : Fin 16) (word : BitVec 64) (sent : Nat) (s : State) : Result := s.to (doCapsWordRx l word sent s.chip)

/-- READY_RX (R222): in CAPS; it enters ACTIVE once the exchange is finished. -/
def doReadyRx (l : Fin 16) (s : Chip) : Chip :=
  if s.laneState l.val = 4 then (s.modLane l.val fun v => { v with ready := true }).capsSettle l.val else s

/-- READY_RX. -/
def execReadyRx (l : Fin 16) (s : State) : Result := s.to (doReadyRx l s.chip)

/-- TX_SLEEP (R231, R232). -/
def doTxSleep (l : Fin 16) (s : Chip) : Chip := s.txSleepWrite l.val true

/-- TX_SLEEP. -/
def execTxSleep (l : Fin 16) (s : State) : Result := s.to (doTxSleep l s.chip)

/-- TX_WAKE (R231). -/
def doTxWake (l : Fin 16) (s : Chip) : Chip := s.txSleepWrite l.val false

/-- TX_WAKE. -/
def execTxWake (l : Fin 16) (s : State) : Result := s.to (doTxWake l s.chip)

/-- RX_SLEEP (R231, R233). -/
def doRxSleep (l : Fin 16) (s : Chip) : Chip := s.rxSleepWrite l.val true

/-- RX_SLEEP. -/
def execRxSleep (l : Fin 16) (s : State) : Result := s.to (doRxSleep l s.chip)

/-- RX_WAKE (R233). -/
def doRxWake (l : Fin 16) (s : Chip) : Chip := s.rxSleepWrite l.val false

/-- RX_WAKE. -/
def execRxWake (l : Fin 16) (s : State) : Result := s.to (doRxWake l s.chip)

/-- RX_WAKE_DONE (R233): the receive direction is awake, its CDR locked from its stored state. -/
def doRxWakeDone (l : Fin 16) (s : Chip) : Chip :=
  if (s.laneOf l.val).waking then
    ((s.setFlag (Reg.LANE.LANE_STAT.RX_ASLEEP l.val) false).modLane l.val fun v => { v with waking := false, cdr := true }).laneShow l.val
  else s

/-- RX_WAKE_DONE. -/
def execRxWakeDone (l : Fin 16) (s : State) : Result := s.to (doRxWakeDone l s.chip)

/-- WAKE_FAIL (R222, R233). -/
def doWakeFail (l : Fin 16) (s : Chip) : Chip :=
  if (s.laneOf l.val).waking then (s.raiseLane l.val Ev.LANE.WAKE_FAIL).laneDetect l.val true else s

/-- WAKE_FAIL. -/
def execWakeFail (l : Fin 16) (s : State) : Result := s.to (doWakeFail l s.chip)

/-- CHK_LOCK (R236). -/
def doChkLock (l : Fin 16) (s : Chip) : Chip := if s.chkRuns l.val then s.setChkLock l.val true else s

/-- CHK_LOCK. -/
def execChkLock (l : Fin 16) (s : State) : Result := s.to (doChkLock l s.chip)

/-- CHK_LOCK_LOSS (R236). -/
def doChkLockLoss (l : Fin 16) (bits errs : Nat) (s : Chip) : Chip :=
  if s.flag (Reg.LANE.CHK_STAT.CHK_LOCK l.val) then
    ((s.chkCount l.val bits errs).bumpSat (Reg.LANE.CHK_STAT.LOCK_LOSS l.val)).setChkLock l.val false
  else s

/-- CHK_LOCK_LOSS. -/
def execChkLockLoss (l : Fin 16) (bits errs : Nat) (s : State) : Result := s.to (doChkLockLoss l bits errs s.chip)

/-- CHK_CLR (R236): both counts restart at one boundary; errors before it still count in EVC. -/
def doChkClr (l : Fin 16) (bits errs : Nat) (s : Chip) : Chip :=
  ((s.chkCount l.val bits errs).setPair (Reg.LANE.CHK_BITS_LO.addr l.val) 0).setPair (Reg.LANE.CHK_ERRS_LO.addr l.val) 0

/-- CHK_CLR. -/
def execChkClr (l : Fin 16) (bits errs : Nat) (s : State) : Result := s.to (doChkClr l bits errs s.chip)

/-- INJ_ONE (R237): the 256th request that waits is ignored. -/
def doInjOne (l : Fin 16) (s : Chip) : Chip :=
  let v := s.laneOf l.val
  if s.laneState l.val = 5 ∧ v.ones + v.onesAfter < 255 then
    s.modLane l.val fun v => if 0 < v.burst then { v with onesAfter := v.onesAfter + 1 } else { v with ones := v.ones + 1 }
  else s

/-- INJ_ONE. -/
def execInjOne (l : Fin 16) (s : State) : Result := s.to (doInjOne l s.chip)

/-- INJ_BURST (R237). -/
def doInjBurst (l : Fin 16) (s : Chip) : Chip :=
  if s.laneState l.val = 5 ∧ (s.laneOf l.val).burst = 0 then
    s.modLane l.val fun v => { v with burst := s.getF (Reg.LANE.INJ_CTRL.BURST_LEN l.val) + 1 }
  else s

/-- INJ_BURST. -/
def execInjBurst (l : Fin 16) (s : State) : Result := s.to (doInjBurst l s.chip)

/-- CDR_LOCK (R222, R228): in DETECT with training off and LOS clear the lane moves to LOCK. -/
def doCdrLock (l : Fin 16) (s : Chip) : Chip :=
  if s.detects l.val then
    let s1 := s.modLane l.val fun v => { v with cdr := true }
    (if s.laneState l.val = 1 ∧ s.trains l.val = false ∧ s.flag (Reg.LANE.LANE_STAT.LOS l.val) = false then
      s1.setF (Reg.LANE.LANE_STAT.STATE l.val) 3 else s1).laneShow l.val
  else s

/-- CDR_LOCK. -/
def execCdrLock (l : Fin 16) (s : State) : Result := s.to (doCdrLock l s.chip)

/-- COEFF_REQUEST (R219): in TRAIN; tap c(−3) is held at 0 at rates 1 and 2. -/
def doCoeffRequest (l : Fin 16) (k : Fin 5) (tap : BitVec 8) (s : Chip) : Chip :=
  if s.laneState l.val = 2 ∧ ¬(k.val = 0 ∧ s.rateCode l.val ≠ 0) then s.setF (Reg.LANE.TX_FFE.TAP l.val k.val) tap.toNat else s

/-- COEFF_REQUEST. -/
def execCoeffRequest (l : Fin 16) (k : Fin 5) (tap : BitVec 8) (s : State) : Result := s.to (doCoeffRequest l k tap s.chip)

end Sys2Proof.Machine
end

