-- ==== Sys2Proof/Machine/Frm.lean ====
section
/-! DEFINITION. The meanings of the receive commands of the framer: line blocks, frames, defect timers and integrated failures
(R174, R177, R178, R185 to R189). -/

namespace Sys2Proof.Machine

/-- What every step of a trail's receiver ends with. -/
def Chip.frmEnd (s : Chip) (c : Carrier) (t : Fin 16) : Chip := ((s.trailSettle c t.val).inletSettle c).settle

/-- Whether a block header is good (R174): HCRC over bytes 16 to 21, DCOUNT and PTR in range. -/
def blockHeaderGood (h : List Nat) : Bool :=
  let dcount := h.getD 0 0 * 256 + h.getD 1 0
  let ptr := h.getD 2 0 * 256 + h.getD 3 0
  let crc := h.getD 6 0 * 256 + h.getD 7 0
  decide (h.length = 8) && decide (crcMsb 16 0x1021 0xFFFF ((h.take 6).flatMap bitsMsb) = crc) &&
    decide (13170 ≤ dcount ∧ dcount ≤ 13206) && (decide (ptr = 0xFFFF) || decide (ptr < dcount))

/-- The data byte of the next block at which a frame starts, after a block of dcount data bytes in which one starts at p, or in which
the next start lies at p beyond its end (R174). -/
def nextPhase (p dcount : Nat) : Nat :=
  if p + 13200 < dcount then p + 26400 - dcount else if p < dcount then p + 13200 - dcount else p - dcount

/-- A good header (R174): it starts delineation, agrees with the prediction, or wins over it. -/
def Chip.goodHeader (s : Chip) (c : Carrier) (t : Nat) (dcount ptr : Nat) : Chip :=
  let v := s.frmOf c t
  let delin := s.flag (Reg.FRM.ALIGN_STAT.DELIN c t)
  let predicted := if v.phase < dcount then v.phase else 0xFFFF
  let s0 := s.setFrm c t { v with badHdr := 0, dcount := dcount }
  let start := fun (u : Chip) => (u.modFrm c t fun w => { w with phase := nextPhase ptr dcount }).setFlag (Reg.FRM.ALIGN_STAT.DELIN c t) true
  if !delin then (if ptr = 0xFFFF then s0 else start s0)
  else if ptr = predicted then s0.modFrm c t fun w => { w with phase := nextPhase v.phase dcount }
  else
    let s1 := ((s0.bump (Reg.FRM.DELIN_SLIP.COUNT c t)).raiseFrm c t Ev.FRM.DELIN_SLIP).bump (Reg.FRM.FRM_DISCARD.COUNT c t)
    let s2 := (s1.evc (c.evcSrc 32)).pmAdd c t s1.wst.sec 1 1
    if ptr = 0xFFFF then s2.setFlag (Reg.FRM.ALIGN_STAT.DELIN c t) false else start s2

/-- A bad header (R174): counted, the DCOUNT before it stands, and the third in a row clears DELIN. -/
def Chip.badHeader (s : Chip) (c : Carrier) (t : Nat) : Chip :=
  let v := s.frmOf c t
  let s1 := (s.setFrm c t { v with badHdr := min 3 (v.badHdr + 1), phase := nextPhase v.phase v.dcount }).bump (Reg.FRM.HDR_ERR.COUNT c t)
  let s2 := s1.raiseFrm c t Ev.FRM.HDR_ERR
  if 3 ≤ v.badHdr + 1 then s2.setFlag (Reg.FRM.ALIGN_STAT.DELIN c t) false else s2

/-- The header of a block delivered in IN_FRAME. -/
def Chip.blockHeader (s : Chip) (c : Carrier) (t : Nat) (h : List Nat) : Chip :=
  if blockHeaderGood h then s.goodHeader c t (h.getD 0 0 * 256 + h.getD 1 0) (h.getD 2 0 * 256 + h.getD 3 0)
  else s.badHeader c t

/-- LAW_TOL in effect (R192). -/
def Chip.lawTol (s : Chip) (c : Carrier) (t : Nat) : Nat := min 16 (s.getF (Reg.FRM.ALIGN_CFG.LAW_TOL c t))

/-- The spacing of LAWs in the staircase-coded stream, in bits (R167). -/
def lawSpacing : Nat := 112896

/-- A LAW position in SEARCH or OOF (R177). -/
def Chip.searchLaw (s : Chip) (c : Carrier) (t : Fin 16) (pos : Nat) (good : Bool) (h : List Nat) : Chip :=
  let v := s.frmOf c t.val
  let follows := decide (lawSpacing ≤ pos) && v.cands.contains (pos - lawSpacing)
  if follows && good then
    let s1 := (s.setFrm c t.val { v with cands := [], pos := pos, badLaw := 0 }).setAlign c t.val 1
    ((s1.acqInFrame (s1.trailRcv c t)).blockHeader c t.val h)
  else if follows then
    (s.setFrm c t.val { v with cands := v.cands.filter fun p => p != pos - lawSpacing }).setAlign c t.val v.align
  else if good && !v.cands.contains pos then
    if v.cands.length < 4 then (s.setFrm c t.val { v with cands := v.cands ++ [pos] }).setAlign c t.val v.align
    else s.bump (Reg.FRM.CAND_OVF.COUNT c t.val)
  else s

/-- A LAW position in IN_FRAME (R132, R177): the OOF_N-th bad LAW in a row ends it. -/
def Chip.frameLaw (s : Chip) (c : Carrier) (t : Fin 16) (pos : Nat) (good : Bool) (h : List Nat) : Chip :=
  let v := s.frmOf c t.val
  if pos ≠ v.pos + lawSpacing then s
  else if good then (s.setFrm c t.val { v with pos := pos, badLaw := 0 }).blockHeader c t.val h
  else
    let n := max 2 (s.getF (Reg.FRM.ALIGN_CFG.OOF_N c t.val))
    if n ≤ v.badLaw + 1 then
      let s1 := (s.setFrm c t.val { v with pos := pos, badLaw := 0, cands := [pos] }).setAlign c t.val 2
      (s1.bump (Reg.FRM.OOF_CNT.COUNT c t.val)).emptyWindow (s1.trailRcv c t)
    else (s.setFrm c t.val { v with pos := pos, badLaw := v.badLaw + 1 }).blockHeader c t.val h

/-- LINE_BLOCK_RX (R174, R176, R177): a LAW position with its block; SEARCH and OOF look for one in FRAME_ALIGN and ACQUIRED only (R175). -/
def doLineBlockRx (c : Carrier) (t : Fin 16) (pos errs : Nat) (header : List Nat) (s : Chip) : Chip :=
  let good := decide (errs ≤ s.lawTol c t.val)
  if (s.frmOf c t.val).align = 1 then (s.frameLaw c t pos good header).frmEnd c t
  else if (s.trailRcvSt c t.val).state < 7 then s
  else (s.searchLaw c t pos good header).frmEnd c t

/-- LINE_BLOCK_RX. -/
def execLineBlockRx (c : Carrier) (t : Fin 16) (pos errs : Nat) (header : List Nat) (s : State) : Result :=
  s.to (doLineBlockRx c t pos errs header s.chip)

/-- LOF_ACQ (R105, R178): after 32 block times in OOF the receiver leaves ACQUIRED. -/
def doLofAcq (c : Carrier) (t : Fin 16) (s : Chip) : Chip :=
  if (s.frmOf c t.val).align ≠ 2 then s
  else
    let s1 := (s.setFlag (Reg.FRM.ALIGN_STAT.LOF_ACQ c t.val) true).raiseFrm c t.val Ev.FRM.LOF_ACQ
    (s1.acqFrameLoss (s1.trailRcv c t)).frmEnd c t

/-- LOF_ACQ. -/
def execLofAcq (c : Carrier) (t : Fin 16) (s : State) : Result := s.to (doLofAcq c t s.chip)

/-- A frame delivered (R179 to R186, R191, R196, R290, R447): counters, BIP-8 and BEI, TTI, PSI, APS and GCC, aAIS at its boundary, and the
protection selector. -/
def Chip.deliverFrame (s : Chip) (c : Carrier) (t : Nat) (f : RxFrame) : Chip :=
  let s1 := (s.rxBip c t f.fsn f.bip).judgeUpTo c t ((f.fsn + 2 ^ 32 - 2) % 2 ^ 32)
  let s2 := s1.modFrm c t fun v =>
    { v with recent := v.recent ++ [{ fsn := f.fsn, sec := f.sec, parity := f.parity, bad := f.uncorr }]
             last := some (f.fsn, f.sec, f.t16), aAis := s1.aisTrigger c t }
  let s3 := ((s2.addPair (Reg.FRM.FRM_RX_LO.addr c t) 1).setF (Reg.FRM.RX_FSN.FSN c t) f.fsn).addPair
    (Reg.FRM.FRM_UNCORR_LO.addr c t) f.uncorr.toNat
  let s4 := (s3.evc (c.evcSrc 31)).evc (c.evcSrc (48 + t))
  let bei := if f.bei ≤ 8 then f.bei else 0
  let s5 := (s4.addPair (Reg.FRM.FE_BEI_LO.addr c t) bei).addPair (Reg.FRM.FE_BEI_FRM_LO.addr c t) (if bei = 0 then 0 else 1)
  let s6 := (s5.pmAddFe c t f.sec (bei != 0)).rxTti c t f.fsn f.tti
  let mf := f.fsn / 256
  let i := 2 * (f.fsn % 256)
  let s7 := ((s6.rxPsi c t mf i f.psiA).rxPsi c t mf (i + 1) f.psiB).rxAps c t f.fsn f.aps
  let s8 := (s7.gccReceive c t 0 f.gcc0).gccReceive c t 1 f.gcc12
  let p := 16 * c.ix + t
  let s9 := if f.tv then s8.setPort p ((s8.portOf p).stamp false f.fsn (f.pin - s8.getF (Reg.WST.FE_RX_DLY.PS c.ix) * 65536)) else s8
  s9.toDecryptor c t f

/-- A frame discarded under R185. -/
def Chip.discardFrame (s : Chip) (c : Carrier) (t : Nat) (f : RxFrame) : Chip :=
  ((s.bump (Reg.FRM.FRM_DISCARD.COUNT c t)).evc (c.evcSrc 32)).pmAdd c t f.sec 1 1

/-- A lost range [first, first + m − 1] reported (R185, R196, R197). -/
def Chip.reportRange (s : Chip) (c : Carrier) (t : Nat) (first m : Nat) : Chip :=
  let lastFsn := (first + m - 1) % 2 ^ 32
  let s1 := ((s.setF (Reg.FRM.LOST_FIRST.FSN c t) first).setF (Reg.FRM.LOST_LAST.FSN c t) lastFsn).raiseFrm c t Ev.FRM.FSN_JUMP
  let s2 := s1.judgeUpTo c t ((lastFsn + 2 ^ 32 - 2) % 2 ^ 32)
  let s3 := match (s2.frmOf c t).last with
    | some (_, sec, t16) => s2.pmRange c t (s2.trailN c) sec t16 m
    | none => s2.pmAdd c t s2.wst.sec m m
  s3.selLost c t first lastFsn

/-- Two frames in sequence judged against the expected FSN (R185, steps 3 and 5): no event, a jump with its lost range, or a restart. -/
def Chip.judgeSequence (s : Chip) (c : Carrier) (t : Nat) (fsn : Nat) (e : Option Nat) (relock : Bool) : Chip :=
  match e with
  | none => s
  | some e =>
    let d := (fsn + 2 ^ 32 - e) % 2 ^ 32
    if d = 0 then s
    else if d < 2 ^ 31 ∧ ¬ (relock ∧ s.getF (Reg.SUBC.SC_STAT.ROLE_ACTIVE c) = 1 ∧ s.bitOf (Reg.SUBC.SLEEP.MASK c) t) then
      s.reportRange c t e d
    else ((s.judgeAll c t).raiseFrm c t Ev.FRM.FSN_RESTART).selRestart c t

/-- FRAME_RX before FSN_LOCK (R185, steps 1 and 5). -/
def Chip.frameUnlocked (s : Chip) (c : Carrier) (t : Nat) (f : RxFrame) : Chip :=
  let v := s.frmOf c t
  match v.held with
  | none => s.setFrm c t { v with held := some f }
  | some h =>
    if f.fsn = (h.fsn + 1) % 2 ^ 32 then
      let s1 := s.judgeSequence c t h.fsn v.expected true
      let s2 := ((s1.setFlag (Reg.FRM.ALIGN_STAT.FSN_LOCK c t) true).setFlag (Reg.FRM.ALIGN_STAT.OOM c t) false).modFrm c t fun w =>
        { w with held := none, discards := 0, expected := some ((f.fsn + 1) % 2 ^ 32) }
      (s2.deliverFrame c t h).deliverFrame c t f
    else (s.discardFrame c t h).modFrm c t fun w => { w with held := some f }

/-- FRAME_RX under FSN_LOCK (R185, steps 2 to 4). -/
def Chip.frameLocked (s : Chip) (c : Carrier) (t : Nat) (f : RxFrame) : Chip :=
  let v := s.frmOf c t
  let e := v.expected.getD 0
  let expect := fun (u : Chip) (n : Nat) => u.modFrm c t fun w => { w with held := none, discards := 0, expected := some (n % 2 ^ 32) }
  match v.held with
  | none =>
    if f.fsn = e then (expect s (e + 1)).deliverFrame c t f else s.setFrm c t { v with held := some f }
  | some h =>
    if f.fsn = (e + 1) % 2 ^ 32 then
      let s1 := (expect s (e + 2)).bump (Reg.FRM.FSN_ERR.COUNT c t)
      (s1.deliverFrame c t { h with fsn := e }).deliverFrame c t f
    else if f.fsn = (h.fsn + 1) % 2 ^ 32 then
      let s1 := expect (s.judgeSequence c t h.fsn (some e) false) (h.fsn + 2)
      (s1.deliverFrame c t h).deliverFrame c t f
    else
      let s1 := (s.discardFrame c t h).modFrm c t fun w => { w with held := some f, discards := v.discards + 1 }
      if 5 ≤ v.discards + 1 then
        ((s1.modFrm c t fun w => { w with discards := 0 }).setFlag (Reg.FRM.ALIGN_STAT.OOM c t) true).setFlag
          (Reg.FRM.ALIGN_STAT.FSN_LOCK c t) false
      else s1

/-- The detectors that follow each delineated frame (R187): STAT, BDI, and frames without encryption for dAUTH. -/
def Chip.frameDetectors (s : Chip) (c : Carrier) (t : Nat) (f : RxFrame) : Chip :=
  let clr := max 1 (s.getF (Reg.FRM.AUTH_CFG.AUTH_CLR c t))
  s.modFrm c t fun v =>
    let plain := if f.enc then 0 else min clr (v.authPlain + 1)
    { v with ais := v.ais.frame (f.stat == 7) 3, lck := v.lck.frame (f.stat == 5) 3, oci := v.oci.frame (f.stat == 6) 3
             bdi := v.bdi.frame f.bdi 5, authPlain := plain, authPass := if f.enc then v.authPass else 0
             auth := v.auth && decide (plain < clr) }

/-- FRAME_RX (R185 to R187): a delineated frame while the aligner is in frame. -/
def doFrameRx (c : Carrier) (t : Fin 16) (f : RxFrame) (s : Chip) : Chip :=
  if !(s.flag (Reg.FRM.ALIGN_STAT.IN_FRAME c t.val) && s.flag (Reg.FRM.ALIGN_STAT.DELIN c t.val)) then s
  else
    let s1 := s.frameDetectors c t.val f
    let s2 := if s1.flag (Reg.FRM.ALIGN_STAT.FSN_LOCK c t.val) then s1.frameLocked c t.val f else s1.frameUnlocked c t.val f
    s2.frmEnd c t

/-- FRAME_RX. -/
def execFrameRx (c : Carrier) (t : Fin 16) (f : RxFrame) (s : State) : Result := s.to (doFrameRx c t f s.chip)

/-- DEFECT_TIMER (R187): the condition of dLOF or dLOM, where it still has that value, has had it for LOF_TIME. -/
def doDefectTimer (c : Carrier) (t : Fin 16) (lom : Bool) (v : Bool) (s : Chip) : Chip :=
  let inFrame := s.flag (Reg.FRM.ALIGN_STAT.IN_FRAME c t.val)
  let lock := s.flag (Reg.FRM.ALIGN_STAT.FSN_LOCK c t.val)
  let oom := s.flag (Reg.FRM.ALIGN_STAT.OOM c t.val)
  let s1 :=
    if lom then
      if (v && (oom || (inFrame && !lock))) || (!v && lock) then s.modFrm c t.val fun w => { w with lom := v } else s
    else if v = !inFrame then s.modFrm c t.val fun w => { w with lof := v } else s
  s1.frmEnd c t

/-- DEFECT_TIMER. -/
def execDefectTimer (c : Carrier) (t : Fin 16) (lom v : Bool) (s : State) : Result := s.to (doDefectTimer c t lom v s.chip)

/-- DEG_M in effect (R192). -/
def Chip.degM (s : Chip) (c : Carrier) (t : Nat) : Nat := min 10 (max 2 (s.getF (Reg.FRM.DEG_CFG.DEG_M c t)))

/-- DEG_SECOND (R187): bad with at least DEG_THR errored frames, good where the trail was in frame throughout; dDEG changes after DEG_M
seconds in a row. -/
def doDegSecond (c : Carrier) (t : Fin 16) (sec : Nat) (s : Chip) : Chip :=
  let v := s.frmOf c t.val
  let bad := decide (max 1 (s.getF (Reg.FRM.DEG_THR.THR c t.val)) ≤ Store.get (fun _ => 0) v.degErr sec)
  let good := !bad && !v.outFrame.during sec
  let m := s.degM c t.val
  let w : FrmSt := { v with degErr := v.degErr.filter fun p => decide (sec < p.1), outFrame := v.outFrame.prune sec }
  let w' : FrmSt :=
    if bad then { w with degBad := min m (v.degBad + 1), degGood := 0, deg := v.deg || decide (m ≤ v.degBad + 1) }
    else if good then { w with degGood := min m (v.degGood + 1), degBad := 0, deg := v.deg && decide (v.degGood + 1 < m) }
    else w
  (s.setFrm c t.val w').frmEnd c t

/-- DEG_SECOND. -/
def execDegSecond (c : Carrier) (t : Fin 16) (sec : Nat) (s : State) : Result := s.to (doDegSecond c t sec s.chip)

/-- FAIL_SET (R189): the failure bit of a defect that is still present sets. -/
def doFailSet (c : Carrier) (t : Fin 16) (bit : Fin 11) (s : Chip) : Chip :=
  if s.bitOf (Reg.FRM.DEF_STAT.STAT c t.val) bit.val && !s.bitOf (Reg.FRM.FAIL.FAIL c t.val) bit.val then
    (s.setBit (Reg.FRM.FAIL.FAIL c t.val) bit.val).raiseFrm c t.val Ev.FRM.FAIL_CHANGE
  else s

/-- FAIL_SET. -/
def execFailSet (c : Carrier) (t : Fin 16) (bit : Fin 11) (s : State) : Result := s.to (doFailSet c t bit s.chip)

/-- FAIL_CLEAR (R189): the failure bit of a defect that is still absent clears. -/
def doFailClear (c : Carrier) (t : Fin 16) (bit : Fin 11) (s : Chip) : Chip :=
  if !s.bitOf (Reg.FRM.DEF_STAT.STAT c t.val) bit.val && s.bitOf (Reg.FRM.FAIL.FAIL c t.val) bit.val then
    (s.clrBit (Reg.FRM.FAIL.FAIL c t.val) bit.val).raiseFrm c t.val Ev.FRM.FAIL_CHANGE
  else s

/-- FAIL_CLEAR. -/
def execFailClear (c : Carrier) (t : Fin 16) (bit : Fin 11) (s : State) : Result := s.to (doFailClear c t bit s.chip)

end Sys2Proof.Machine
end

