-- ==== Sys2Proof/Machine/Lenc.lean ====
section
/-! DEFINITION. The meanings of the commands of the line encryptors: key loads, swaps, tag checks and AES lanes (R343 to R356). -/

namespace Sys2Proof.Machine

/-- TX_LOAD (R343). -/
def doTxLoad (c : Carrier) (s : Chip) : Chip :=
  s.loadKey c true (s.getF (Reg.LENC.TX_LOAD_CFG.SLOT c)) (s.getF (Reg.LENC.TX_EPOCH.EPOCH c))

/-- TX_LOAD. -/
def execTxLoad (c : Carrier) (s : State) : Result := s.to (doTxLoad c s.chip)

/-- RX_LOAD (R343). -/
def doRxLoad (c : Carrier) (s : Chip) : Chip :=
  s.loadKey c false (s.getF (Reg.LENC.RX_LOAD_CFG.SLOT c)) (s.getF (Reg.LENC.RX_EPOCH.EPOCH c))

/-- RX_LOAD. -/
def execRxLoad (c : Carrier) (s : State) : Result := s.to (doRxLoad c s.chip)

/-- LOAD_DONE (R343): the key has crossed the key bus, and the register is VALID. -/
def doLoadDone (c : Carrier) (tx : Bool) (p : Fin 2) (s : Chip) : Chip :=
  if s.keyLoading c tx p.val then
    (((s.setF ⟨keyInfo c tx p.val, 30, 1⟩ 0).setF ⟨keyInfo c tx p.val, 31, 1⟩ 1).raise (Ev.LENC.LOAD_DONE c)).lencSettleAll
  else s

/-- LOAD_DONE. -/
def execLoadDone (c : Carrier) (tx : Bool) (p : Fin 2) (s : State) : Result := s.to (doLoadDone c tx p s.chip)

/-- SWAP_NOW (R344). -/
def doSwapNow (c : Carrier) (s : Chip) : Chip := s.requestSwap c

/-- SWAP_NOW. -/
def execSwapNow (c : Carrier) (s : State) : Result := s.to (doSwapNow c s.chip)

/-- The phase of a received encrypted frame (R345, R346): KP_CHANGE where the trail's phase changes; with AUTO_NEXT, once every
receive-enabled trail uses it, the other register is reloaded. -/
def Chip.notePhase (s : Chip) (c : Carrier) (t kp : Nat) : Chip :=
  if s.getF (Reg.LENC.RX_TRAIL_STAT.KP_LAST c t) = kp then s
  else
    let s1 := (s.setF (Reg.LENC.RX_TRAIL_STAT.KP_LAST c t) kp).raise (Ev.LENC.KP_CHANGE c)
    let k := s1.keyCar c
    if s1.flag (Reg.LENC.LENC_CFG.AUTO_NEXT k) && (s1.rxPhases k).all (· == kp) && s1.keyValid k false kp then
      s1.loadKey k false (s1.getF ⟨keyInfo k false kp, 16, 6⟩) ((s1.getF (Reg.LENC.RX_KEY_EPOCH.EPOCH k kp) + 1) % 2 ^ 32)
    else s1

/-- What cut-through has done before a failed check (R350): packets already delivered count on their connections, and those in progress end
with a bad FCS on their ports. -/
def Chip.cutThrough (s : Chip) (unver : List (Fin 32 × Nat)) (cut : List (Fin 16)) : Chip :=
  let s1 := unver.foldl (fun u p => u.bump (Reg.XC.UNVERIFIED_DELIVERED.COUNT p.1.val) p.2) s
  cut.foldl (fun u p => u.bump (Reg.PORT.EGR_FCS_ERR.COUNT p.val)) s1

/-- A frame that is not good is an errored block (R196). -/
def Chip.markBad (s : Chip) (c : Carrier) (t fsn : Nat) : Chip :=
  s.modFrm c t fun v => { v with recent := v.recent.map fun r => if r.fsn = fsn then { r with bad := true } else r }

/-- The copies of a frame with a failed tag in the deskew memory are bad (R323). -/
def Chip.markTag (s : Chip) (c : Carrier) (t fsn : Nat) : Chip :=
  s.pgsOn.foldl (fun u g =>
    let k := u.pgCfgOf g
    let base := xcEntry u.act k.base
    let mark := fun (l : List DeskRec) => l.map fun r => if r.fsn = fsn then { r with tagBad := true } else r
    if k.kind ≠ 4 then u
    else u.modPg g fun v =>
      { v with deskW := if k.member base false = (c, t) then mark v.deskW else v.deskW
               deskP := if k.member base true = (c, t) then mark v.deskP else v.deskP }) s

/-- The result of a tag check towards dAUTH (R187). -/
def Chip.noteAuth (s : Chip) (c : Carrier) (t : Nat) (ok : Bool) : Chip :=
  let clr := max 1 (s.getF (Reg.FRM.AUTH_CFG.AUTH_CLR c t))
  s.modFrm c t fun v =>
    if ok then { v with authPass := min clr (v.authPass + 1), authPlain := 0, auth := v.auth && decide (v.authPass + 1 < clr) }
    else { v with authPass := 0, authPlain := 0, auth := true }

/-- A frame spoilt by a lane fault (R351, R356): not delivered, whatever VBR holds. -/
def Chip.laneDrop (s : Chip) (c : Carrier) (w : TagWait) (unver : List (Fin 32 × Nat)) (cut : List (Fin 16)) : Chip :=
  let s1 := (s.bump (Reg.LENC.LANE_DROP.COUNT c w.trail)).markBad c w.trail w.frame.fsn
  let s2 := if s1.flag (Reg.LENC.LENC_STAT.VBR_ACTIVE c) then s1 else s1.cutThrough unver cut
  s2.selLost c w.trail w.frame.fsn w.frame.fsn

/-- A frame whose check passes (R349). -/
def Chip.tagPass (s : Chip) (c : Carrier) (w : TagWait) : Chip :=
  ((s.addPair (Reg.LENC.TAG_OK_LO.addr c w.trail) 1).noteAuth c w.trail true).selDeliver c w.trail w.frame

/-- A frame whose check fails (R349, R350, R353): cut-through delivers it, verify-before-release does not. -/
def Chip.tagFail (s : Chip) (c : Carrier) (w : TagWait) (unver : List (Fin 32 × Nat)) (cut : List (Fin 16)) : Chip :=
  let t := w.trail
  let s1 := ((s.bump (Reg.LENC.TAG_FAIL.COUNT c t)).raise (Ev.LENC.TAG_FAIL c)).evc (c.evcSrc 34)
  let s2 := if w.keyed then s1 else s1.bump (Reg.LENC.NOKEY.COUNT c t)
  let s3 := (s2.noteAuth c t false).markBad c t w.frame.fsn
  if s3.flag (Reg.LENC.LENC_STAT.VBR_ACTIVE c) then (s3.bump (Reg.LENC.VBR_DROP.COUNT c t)).selLost c t w.frame.fsn w.frame.fsn
  else ((s3.cutThrough unver cut).selDeliver c t w.frame).markTag c t w.frame.fsn

/-- TAG_CHECK (R345, R349 to R353, R356): the oldest frame of a trail that waits for its check. -/
def doTagCheck (c : Carrier) (t : Fin 16) (pass : Bool) (unver : List (Fin 32 × Nat)) (cut : List (Fin 16)) (s : Chip) : Chip :=
  match (s.lenc.get c).checks.find? fun w => w.trail == t.val with
  | none => s
  | some w =>
    let s1 := s.modLenc c fun v => { v with checks := v.checks.erase w }
    let s2 := s1.notePhase c t.val (w.frame.kp % 2)
    let s3 := if w.spoilt || (s2.grpOf c 2).sf then s2.laneDrop c w unver cut
      else if pass && w.keyed then s2.tagPass c w
      else s2.tagFail c w unver cut
    s3.frmEnd c t

/-- TAG_CHECK. -/
def execTagCheck (c : Carrier) (t : Fin 16) (pass : Bool) (unver : List (Fin 32 × Nat)) (cut : List (Fin 16)) (s : State) : Result :=
  s.to (doTagCheck c t pass unver cut s.chip)

/-- The frame in progress on a transmit trail is sent with its tag inverted (R356). -/
def Chip.voidFrame (s : Chip) (c : Carrier) (t : Nat) : Chip :=
  (s.bump (Reg.LENC.TX_VOID.COUNT c)).modFrm c t fun v => { v with hdr := v.hdr.map fun h => { h with sealing := .voided } }

/-- AES_LANE_FAULT (R356): a lane in service is fenced and the reserve takes its place; the frame in progress is sent void, or not
delivered. -/
def doAesLaneFault (c : Carrier) (lane : Fin 17) (tx : Bool) (t : Fin 16) (s : Chip) : Chip :=
  if (s.grpOf c 2).inService lane.val then
    let s1 := ((s.bumpSat (Reg.LENC.LANE_STAT.FAULTS c lane.val)).raise (Ev.LENC.LANE_FAULT c)).takeOver c 2 lane.val
    let s2 := if tx then (if s1.txEnc c && s1.txKeyed c then s1.voidFrame c t.val else s1)
      else s1.modLenc c fun v => { v with spoilt := v.spoilt ||| 2 ^ t.val }
    (s2.stepNeed c false).settle
  else s

/-- AES_LANE_FAULT. -/
def execAesLaneFault (c : Carrier) (lane : Fin 17) (tx : Bool) (t : Fin 16) (s : State) : Result :=
  s.to (doAesLaneFault c lane tx t s.chip)

/-- LANE_TAKEOVER (R356): the reserve that took over completes its first frame. -/
def doLaneTakeover (c : Carrier) (s : Chip) : Chip :=
  let v := s.grpOf c 2
  if v.takeover.isSome then (s.setGrp c 2 { v with takeover := none }).raise (Ev.LENC.LANE_TAKEOVER c) else s

/-- LANE_TAKEOVER. -/
def execLaneTakeover (c : Carrier) (s : State) : Result := s.to (doLaneTakeover c s.chip)

end Sys2Proof.Machine
end

