-- ==== Sys2Proof/Machine/Mgmt.lean ====
section
/-! DEFINITION. The meanings of the commands of the management cores, the mailboxes and the extension (R385 to R392). -/

namespace Sys2Proof.Machine

/-- WDT_KICK by a master (R385, R447): only the core itself. -/
def doWdtKick (m : Fin 8) (k : Fin 4) (s : Chip) : Chip :=
  if m.val = k.val ∧ s.coreRuns k.val = true then (s.wdtRestart k.val).evc (8 * k.val + 6) else s

/-- WDT_KICK. -/
def execWdtKick (m : Fin 8) (k : Fin 4) (s : State) : Result := s.to (doWdtKick m k s.chip)

/-- Whether a core's watchdog counts. -/
def Chip.wdtOn (s : Chip) (k : Nat) : Bool := s.coreRuns k && s.flag (Reg.MGMT.WDT_CFG.EN k)

/-- WDT_WARN (R385). -/
def doWdtWarn (k : Fin 4) (s : Chip) : Chip := s.raiseIf (s.wdtOn k.val) Ev.MGMT.WDT_WARN

/-- WDT_WARN. -/
def execWdtWarn (k : Fin 4) (s : State) : Result := s.to (doWdtWarn k s.chip)

/-- A core halts at the expiry of its watchdog (R385). -/
def Chip.coreExpire (s : Chip) (k : Nat) : Chip :=
  let s1 := (s.setF (Reg.MGMT.CORE_STAT.STATE k) 2).setF (Reg.MGMT.WDT_LEFT.TICKS k) 0
  (s1.bumpSat (Reg.MGMT.CORE_STAT.EXPIRE_CNT k)).raise Ev.MGMT.WDT_EXPIRE

/-- WDT_EXPIRE (R385): cores that expire in one clock take their peers from those still running. -/
def doWdtExpire (cores : Fin 16) (s : Chip) : Chip :=
  let hit := (List.range 4).filter fun k => cores.val.testBit k && s.wdtOn k
  if hit = [] then s
  else
    let s1 := hit.foldl Chip.coreExpire s
    if (List.range 4).any s1.coreRuns then hit.foldl Chip.handOver s1 else s1.raise Ev.MGMT.ALL_CORES_DOWN

/-- WDT_EXPIRE. -/
def execWdtExpire (cores : Fin 16) (s : State) : Result := s.to (doWdtExpire cores s.chip)

/-- TAKEOVER (R385, R389): the peer resumes an expired core's tasks; a mailbox command of that core whose effect was not committed is answered
TAKEOVER. -/
def doTakeover (k : Fin 4) (mbox : Option Bool) (s : Chip) : Chip :=
  match s.getF (Reg.MGMT.CORE_STAT.STATE k.val) == 2, s.mgmt.route.find? fun x => x.1 == k.val with
  | true, some x =>
    let s1 := s.raise Ev.MGMT.TAKEOVER
    if mbox = some false ∧ s.mgmt.mbox.isSome = true then s1.mboxAnswer x.2 6 [] else s1
  | _, _ => s

/-- TAKEOVER. -/
def execTakeover (k : Fin 4) (mbox : Option Bool) (s : State) : Result := s.to (doTakeover k mbox s.chip)

/-- CORE_RESTART (R386): the write carries HOLD; a core that does not run starts at its entry unless it is held. -/
def doCoreRestart (k : Fin 4) (hold : Bool) (s : Chip) : Chip :=
  let s1 := s.coreHold k.val hold
  if hold = true ∨ s1.coreRuns k.val = true ∨ s.getF Reg.BOOT.BOOT_STAT.PHASE < 5 ∨ s.getF Reg.BOOT.BOOT_STAT.PHASE = 7 then s1
  else (s1.coreStart k.val).modMgmt fun v => { v with route := Store.erase v.route k.val }

/-- CORE_RESTART. -/
def execCoreRestart (k : Fin 4) (hold : Bool) (s : State) : Result := s.to (doCoreRestart k hold s.chip)

/-- H2F_GO (R387): a GO while BUSY = 1 starts nothing. -/
def doH2fGo (w : Word) (s : Chip) : Chip :=
  let s1 := ((s.setF Reg.MGMT.H2F_CTRL.LEN (w.field 16 8)).setF Reg.MGMT.H2F_CTRL.TAG (w.field 8 8)).setF Reg.MGMT.H2F_CTRL.OPCODE (w.field 0 8)
  if s.flag Reg.MGMT.H2F_STAT.BUSY then s1.raise Ev.MGMT.MBOX_OVERRUN
  else (s1.setFlag Reg.MGMT.H2F_STAT.BUSY true).modMgmt fun v => { v with mbox := some (w.field 0 8, w.field 8 8, w.field 16 8) }

/-- H2F_GO. -/
def execH2fGo (w : Word) (s : State) : Result := s.to (doH2fGo w s.chip)

/-- MBOX_DONE (R387): firmware on a core answers with a status and at most 16 words. -/
def doMboxDone (core : Fin 4) (status : Fin 256) (words : List Word) (s : Chip) : Chip :=
  if s.mgmt.mbox.isSome then s.mboxAnswer core.val status.val (words.map fun w => w.toNat) else s

/-- MBOX_DONE. -/
def execMboxDone (core : Fin 4) (status : Fin 256) (words : List Word) (s : State) : Result :=
  s.to (doMboxDone core status words s.chip)

/-- MBOX_NOTIFY (R387): firmware sends nothing while a notification waits for its acknowledgement. -/
def doMboxNotify (opcode : Fin 256) (words : List Word) (s : Chip) : Chip :=
  if s.flag Reg.MGMT.F2H_CTRL.VALID then s
  else
    let s1 := (words.take 16).zipIdx.foldl (fun u p => u.setF (Reg.MGMT.F2H_DATA.DATA p.2) p.1.toNat) s
    ((s1.setF Reg.MGMT.F2H_CTRL.OPCODE opcode.val).setFlag Reg.MGMT.F2H_CTRL.VALID true).raise Ev.MGMT.MBOX_NOTIFY

/-- MBOX_NOTIFY. -/
def execMboxNotify (opcode : Fin 256) (words : List Word) (s : State) : Result := s.to (doMboxNotify opcode words s.chip)

/-- F2H_ACK (R387). -/
def doF2hAck (s : Chip) : Chip := s.setFlag Reg.MGMT.F2H_CTRL.VALID false

/-- F2H_ACK. -/
def execF2hAck (s : State) : Result := s.to (doF2hAck s.chip)

/-- VERSION (R388). -/
def doVersion (core : Fin 4) (s : Chip) : Chip :=
  if s.mboxIs (fun o => o == 0x01) then
    s.mboxAnswer core.val 0 [s.boot.hdr.fwIf, s.boot.hdr.build % 2 ^ 32, s.boot.hdr.build / 2 ^ 32]
  else s

/-- VERSION. -/
def execVersion (core : Fin 4) (s : State) : Result := s.to (doVersion core s.chip)

/-- CAL_STORE (R388): the store itself ends with CAL_STORE_END. -/
def doCalStore (core : Fin 4) (s : Chip) : Chip := if s.mboxIs (fun o => o == 0x20) then s.mboxAnswer core.val 0 [] else s

/-- CAL_STORE. -/
def execCalStore (core : Fin 4) (s : State) : Result := s.to (doCalStore core s.chip)

/-- EXT_OPCODE (R388, R391): opcodes 0x80 to 0xFF are answered by extension code; without an enabled extension the opcode is unknown. An overrun
of SHARE counts. -/
def doExtOpcode (core : Fin 4) (status : Fin 256) (words : List Word) (overran : Bool) (s : Chip) : Chip :=
  if s.mboxIs (fun o => decide (0x80 ≤ o)) = false ∨ (s.mgmt.extOn = true ∧ s.mgmt.extSusp = true) then s
  else if s.mgmt.extOn then
    let s1 := if overran then s.bump Reg.MGMT.EXT_OVERRUN.COUNT else s
    s1.mboxAnswer core.val status.val (words.map fun w => w.toNat)
  else s.mboxAnswer core.val 1 []

/-- EXT_OPCODE. -/
def execExtOpcode (core : Fin 4) (status : Fin 256) (words : List Word) (overran : Bool) (s : State) : Result :=
  s.to (doExtOpcode core status words overran s.chip)

/-- EXT_FAULT (R391). -/
def doExtFault (core : Fin 4) (a : Word) (kind : Fin 3) (s : Chip) : Chip :=
  if s.mgmt.extOn = false ∨ s.mgmt.extSusp = true ∨ s.extAllows a.toNat kind.val = true then s else s.extFault core.val a.toNat

/-- EXT_FAULT. -/
def execExtFault (core : Fin 4) (a : Word) (kind : Fin 3) (s : State) : Result := s.to (doExtFault core a kind s.chip)

end Sys2Proof.Machine
end

