-- ==== Sys2Proof/Machine/MonOps.lean ====
section
/-! DEFINITION. The monitor ADC as several steps share it: sequencer, sample codes, result queue, decimators, limit checks, and the access
to the front-end buses (R475 to R487). -/

namespace Sys2Proof.Machine

/-- A change of the hidden state of the monitor. -/
def Chip.modMon (s : Chip) (f : MonSt → MonSt) : Chip := { s with mon := f s.mon }

/-- The hidden state of a channel. -/
def Chip.monCh (s : Chip) (c : Nat) : MonCh := Tab.get {} s.mon.chans c

/-- The hidden state of a channel changed. -/
def Chip.modMonCh (s : Chip) (c : Nat) (f : MonCh → MonCh) : Chip :=
  s.modMon fun v => { v with chans := Tab.put {} v.chans c (f (s.monCh c)) }

/-- Whether a sequence entry takes no conversion: it names the channel after an even channel with DIFF = 1 (R475). -/
def Chip.monSkip (s : Chip) (c : Nat) : Bool := c % 2 == 1 && s.flag (Reg.MON.CH_CFG.DIFF (c - 1))

/-- The channels of the entries of a pass, as the sequence registers give them at its start (R477, R484). -/
def Chip.monPass (s : Chip) : List Nat := (List.range (s.getF Reg.MON.SEQ_CFG.LEN + 1)).map fun k => s.getF (Reg.MON.SEQ.CH k)

/-- The next entry begins with its channel's configuration (R477, R484); after the last one the pass starts again at SEQ_0. -/
def Chip.monNext (s : Chip) : Chip :=
  let left := s.mon.rest.dropWhile s.monSkip
  let todo := if left = [] then s.monPass.dropWhile s.monSkip else left
  match todo with
  | [] => s.modMon fun v => { v with cur := none, rest := [] }
  | c :: r => s.modMon fun v => { v with cur := some (c, s.rd (Reg.MON.CH_CFG.addr c)), rest := r }

/-- Whether a channel measures a difference: DIFF counts on even channels only (R475). -/
def monDiff (c : Nat) (cfg : Word) : Bool := c % 2 == 0 && cfg.bit 30

/-- 2^AVG samples per result; AVG above 8 behaves as 8 (R478). -/
def monSamples (cfg : Word) : Nat := 2 ^ min (cfg.field 8 4) 8

/-- The code of a sample, an input voltage or a difference in nV, and whether it is over range (R475, R479). -/
def monCode (diff : Bool) (v : Int) : Nat × Bool :=
  let full : Int := 1200000000
  let low : Int := if diff then -full else 0
  if full ≤ v then (0xFFF, true)
  else if v < low then (0, true)
  else if diff then ((0x800 + v * 2048 / full).toNat, false)
  else ((v * 4096 / full).toNat, false)

/-- The samples of an entry converted in order (R478, R479): the sum of the codes, OVR and DIST. -/
def Chip.monConvert (s : Chip) (c : Nat) (diff : Bool) : List Int → Nat × Bool × Bool × Chip
  | [] => (0, false, false, s)
  | v :: l =>
    let k := monCode diff v
    let dist := s.mon.last2.any fun x => x.2 && x.1 != c
    let s1 := (s.modMon fun m => { m with last2 := (c, k.2) :: m.last2.take 1 }).evc 96
    let s2 := if k.2 then (s1.bump Reg.MON.OVR_CNT.COUNT).raise Ev.MON.OVR else s1
    let r := s2.monConvert c diff l
    (k.1 + r.1, k.2 || r.2.1, dist || r.2.2.1, r.2.2.2)

/-- Q_COUNT and QUEUE_HEAD show the queue (R480); what QUEUE_HEAD shows beside VALID = 0 is left open. -/
def Chip.monShow (s : Chip) : Chip :=
  let s1 := s.setF Reg.MON.MON_STAT.Q_COUNT s.mon.queue.length
  match s1.mon.queue with
  | [] =>
    s1.free.2.wr Reg.MON.QUEUE_HEAD.addr (BitVec.ofNat 32 s1.free.1 &&& 0xFE00FFFF#32)
  | (c, ovr, dist, v) :: _ =>
    ((((s1.setF Reg.MON.QUEUE_HEAD.TAG c).setFlag Reg.MON.QUEUE_HEAD.OVR ovr).setFlag Reg.MON.QUEUE_HEAD.DIST dist).setFlag
      Reg.MON.QUEUE_HEAD.VALID true).setF Reg.MON.QUEUE_HEAD.VALUE v

/-- A result goes to the queue (R480). -/
def Chip.monQueue (s : Chip) (c : Nat) (ovr dist : Bool) (v : Nat) : Chip :=
  if 256 ≤ s.mon.queue.length then (s.bump Reg.MON.Q_DROP.COUNT).raise Ev.MON.Q_FULL
  else
    let s1 := (s.modMon fun m => { m with queue := m.queue ++ [(c, ovr, dist, v)] }).monShow
    s1.raiseIf (s1.mon.queue.length == s1.getF Reg.MON.QUEUE_CTRL.THR) Ev.MON.Q_THR

/-- Length and decimation factor of a channel (R482). -/
def Chip.monFilter (s : Chip) (c : Nat) : Nat × Nat :=
  let size := fun n => if n = 0 then 1024 else n
  match s.getF (Reg.MON.FILT_CFG.PRESET c) with
  | 0 => (size (s.getF (Reg.MON.FILT_CFG.L c)), size (s.getF (Reg.MON.FILT_CFG.D c)))
  | 1 => (4, 4)
  | 3 => (256, 256)
  | 4 => (1024, 1024)
  | _ => (32, 32)

/-- Convergent rounding of a quotient: halves go to the even number (R481). -/
def roundEven (n d : Nat) : Nat :=
  let q := n / d
  let r := n % d
  if 2 * r < d ∨ (2 * r = d ∧ q % 2 = 0) then q else q + 1

/-- The causes of THERMAL_TRIP and VOLTAGE_FAIL (R483): a channel with the action has its LIM_ACTIVE bit set. -/
def Chip.monLive (s : Chip) : Chip :=
  let has := fun (b : Nat) => (List.range 32).any fun c => s.bitOf Reg.MON.LIM_ACTIVE.ACTIVE c && s.bitOf (Reg.MON.LIM_CFG.ACTION c) b
  (s.setLive Ev.MON.THERMAL_TRIP (has 1)).setLive Ev.MON.VOLTAGE_FAIL (has 2)

/-- The actions of a channel whose LIM_ACTIVE bit sets (R483). -/
def Chip.monActions (s : Chip) (c : Nat) : Chip :=
  let a := s.getF (Reg.MON.LIM_CFG.ACTION c)
  let s1 := s.raiseIf (a.testBit 0) Ev.MON.LIMIT
  let s2 := if a.testBit 1 then s1.raiseNM Ev.MON.THERMAL_TRIP else s1
  if a.testBit 2 then s2.raiseNM Ev.MON.VOLTAGE_FAIL else s2

/-- A filter output is compared with the channel's limits (R483). -/
def Chip.monLimits (s : Chip) (c v : Nat) (ovr : Bool) : Chip :=
  let hi := s.getF (Reg.MON.LIM_THR.HI c)
  let lo := s.getF (Reg.MON.LIM_THR.LO c)
  let h := s.getF (Reg.MON.LIM_CFG.HYST c)
  let n := max 1 (s.getF (Reg.MON.LIM_CFG.N c))
  let on := s.bitOf Reg.MON.LIM_ACTIVE.ACTIVE c
  if ovr = true ∨ hi < v ∨ v < lo then
    let s1 := s.modMonCh c fun m => { m with viol := m.viol + 1, inr := 0 }
    if on = false ∧ n ≤ (s1.monCh c).viol then ((s1.setBit Reg.MON.LIM_ACTIVE.ACTIVE c).monActions c).monLive else s1
  else if lo + h ≤ v ∧ v + h ≤ hi then
    let s1 := s.modMonCh c fun m => { m with viol := 0, inr := m.inr + 1 }
    if on = true ∧ n ≤ (s1.monCh c).inr then (s1.clrBit Reg.MON.LIM_ACTIVE.ACTIVE c).monLive else s1
  else s

/-- A result feeds its channel's filter (R481): an output after every D results, once L have arrived. -/
def Chip.monFeed (s : Chip) (c : Nat) (ovr dist : Bool) (v : Nat) : Chip :=
  let f := s.monFilter c
  let m := s.monCh c
  let win := ((v, ovr, dist) :: m.win).take f.1
  let due := f.2 ≤ m.fresh + 1
  let s1 := s.modMonCh c fun x => { x with win := win, fresh := if due then 0 else m.fresh + 1 }
  if due ∧ f.1 ≤ win.length then
    let out := roundEven (win.foldl (fun n x => n + x.1) 0) f.1
    let o := win.any fun x => x.2.1
    let s2 := (s1.setFlag (Reg.MON.FILT_VAL.VALID c) true).setFlag (Reg.MON.FILT_VAL.OVR c) o
    let s3 := (s2.setFlag (Reg.MON.FILT_VAL.DIST c) (win.any fun x => x.2.2)).setF (Reg.MON.FILT_VAL.VALUE c) out
    (s3.bump (Reg.MON.FILT_CNT.COUNT c)).monLimits c out o
  else s1

/-- A channel's filter is cleared (R481). -/
def Chip.monClear (s : Chip) (c : Nat) : Chip :=
  (s.setFlag (Reg.MON.FILT_VAL.VALID c) false).modMonCh c fun m => { m with win := [], fresh := 0 }

/-- Both consecutive counts of a channel are cleared by a write to its limits (R484). -/
def Chip.monLimitClear (s : Chip) (c : Nat) : Chip := (s.modMonCh c fun m => { m with viol := 0, inr := 0 }).monLive

/-- Whether a master may write the front-end bus registers (R487). -/
def Chip.feAccess (s : Chip) (m : Nat) : Bool := decide (m ≤ 3) || (m == 4 && s.flag Reg.MON.FE_OWN.HOST)

/-- A write to the front-end buses that is not accepted (R487). -/
def Chip.feRefuse (s : Chip) : Chip := (s.bump Reg.MON.FE_REFUSED_CNT.COUNT).raise Ev.MON.FE_REFUSED

/-- Bytes stored from byte 0 of a row of data registers, byte 0 in bits [7:0] of the first word (R485, R486). -/
def Chip.putBytes (s : Chip) (base : Nat) (l : List Nat) : Chip :=
  l.zipIdx.foldl (fun u p => u.setF ⟨base + 4 * (p.2 / 4), 8 * (p.2 % 4), 8⟩ p.1) s

/-- The hidden state of an SPI controller. -/
def Chip.spiOf (s : Chip) (i : Nat) : SpiSt := Tab.get {} s.mon.spi i

/-- The hidden state of an SPI controller changed. -/
def Chip.modSpi (s : Chip) (i : Nat) (f : SpiSt → SpiSt) : Chip :=
  s.modMon fun v => { v with spi := Tab.put {} v.spi i (f (s.spiOf i)) }

end Sys2Proof.Machine
end

