-- ==== Sys2Proof/Machine/Mon.lean ====
section
/-! DEFINITION. The meanings of the commands of the monitor ADC and the front-end buses (R477 to R487). -/

namespace Sys2Proof.Machine

/-- MON_EN_SET (R477): the sequencer starts at SEQ_0; where it runs already it goes on. -/
def doMonEnSet (s : Chip) : Chip :=
  if s.flag Reg.MON.MON_CTRL.EN then s
  else (((s.setFlag Reg.MON.MON_CTRL.EN true).setFlag Reg.MON.MON_STAT.RUNNING true).modMon fun v => { v with rest := [] }).monNext

/-- MON_EN_SET. -/
def execMonEnSet (s : State) : Result := s.to (doMonEnSet s.chip)

/-- MON_EN_CLEAR (R477): the partial average is discarded and every filter cleared. -/
def doMonEnClear (s : Chip) : Chip :=
  let s1 := (s.setFlag Reg.MON.MON_CTRL.EN false).setFlag Reg.MON.MON_STAT.RUNNING false
  (List.range 32).foldl Chip.monClear (s1.modMon fun v => { v with cur := none, rest := [] })

/-- MON_EN_CLEAR. -/
def execMonEnClear (s : State) : Result := s.to (doMonEnClear s.chip)

/-- A result of a channel with the configuration of its entry, from the samples (R478, R480, R481). -/
def Chip.monResult (s : Chip) (c : Nat) (cfg : Word) (v : List Int) : Chip :=
  let r := s.monConvert c (monDiff c cfg) v
  let value := min (r.1 / 2 ^ min (cfg.field 16 4) 8) 0xFFFF
  let s1 := r.2.2.2
  let s2 := if cfg.bit 31 then s1.monQueue c r.2.1 r.2.2.1 value else s1
  s2.monFeed c r.2.1 r.2.2.1 value

/-- MON_RESULT (R478): the samples are those of the entry in progress; while MON is gated or held in reset no conversion is made (R484). -/
def doMonResult (v : List Int) (s : Chip) : Chip :=
  if s.flag Reg.MON.MON_CTRL.EN = false ∨ s.islDown 5 = true then s
  else
    let s0 := if s.mon.cur = none then s.monNext else s
    match s0.mon.cur with
    | none => s0
    | some (c, cfg) => if v.length = monSamples cfg then (s0.monResult c cfg v).monNext else s

/-- MON_RESULT. -/
def execMonResult (v : List Int) (s : State) : Result := s.to (doMonResult v s.chip)

/-- MON_QUEUE_POP (R480). -/
def doMonQueuePop (s : Chip) : Chip :=
  match s.mon.queue with
  | [] => s
  | _ :: l => (s.modMon fun m => { m with queue := l }).monShow

/-- MON_QUEUE_POP. -/
def execMonQueuePop (s : State) : Result := s.to (doMonQueuePop s.chip)

/-- MON_QUEUE_FLUSH (R480). -/
def doMonQueueFlush (s : Chip) : Chip :=
  if s.mon.queue = [] then s else (s.modMon fun m => { m with queue := [] }).monShow

/-- MON_QUEUE_FLUSH. -/
def execMonQueueFlush (s : State) : Result := s.to (doMonQueueFlush s.chip)

/-- SPI_GO (R485, R487, R490): the fields are written; a GO while a transfer runs starts none. -/
def doSpiGo (m : Fin 8) (i : Fin 2) (w : Word) (s : Chip) : Chip :=
  if s.feAccess m.val then
    let s1 := ((s.setF (Reg.MON.SPI_CMD.LEN i.val) (w.field 16 6)).setF (Reg.MON.SPI_CMD.HOLD_CS i.val) (w.field 12 1)).setF
      (Reg.MON.SPI_CMD.CS i.val) (w.field 8 2)
    if s.flag (Reg.MON.SPI_STAT.BUSY i.val) then s1
    else
      let n := min (max 1 (w.field 16 6)) 32
      (s1.setFlag (Reg.MON.SPI_STAT.BUSY i.val) true).modSpi i.val fun v =>
        { v with xfer := some (n, w.field 8 2, w.bit 12), held := v.held ||| 2 ^ w.field 8 2 }
  else s.feRefuse

/-- SPI_GO. -/
def execSpiGo (m : Fin 8) (i : Fin 2) (w : Word) (s : State) : Result := s.to (doSpiGo m i w s.chip)

/-- SPI_DONE (R485): the bytes captured; with HOLD_CS = 1 the chip select stays asserted, and SPI_DONE waits for its release. -/
def doSpiDone (i : Fin 2) (rx : List (Fin 256)) (s : Chip) : Chip :=
  match (s.spiOf i.val).xfer with
  | none => s
  | some (n, _, hold) =>
    if rx.length = n then
      let s1 := (s.putBytes (Reg.MON.SPI_RXDATA.addr i.val 0) (rx.map fun b => b.val)).setFlag (Reg.MON.SPI_STAT.BUSY i.val) false
      if hold then s1.modSpi i.val fun v => { v with xfer := none }
      else (s1.modSpi i.val fun v => { v with xfer := none, held := 0 }).raise Ev.MON.SPI_DONE
    else s

/-- SPI_DONE. -/
def execSpiDone (i : Fin 2) (rx : List (Fin 256)) (s : State) : Result := s.to (doSpiDone i rx s.chip)

/-- I2C_GO (R486, R487, R490). -/
def doI2cGo (m : Fin 8) (w : Word) (s : Chip) : Chip :=
  if s.feAccess m.val then
    let s1 := ((s.setF Reg.MON.I2C_CMD.ADDR (w.field 16 7)).setF Reg.MON.I2C_CMD.WLEN (w.field 8 6)).setF Reg.MON.I2C_CMD.RLEN (w.field 0 6)
    if s.flag Reg.MON.I2C_STAT.BUSY then s1
    else (s1.setFlag Reg.MON.I2C_STAT.BUSY true).modMon fun v => { v with i2c := some (min (w.field 8 6) 32, min (w.field 0 6) 32) }
  else s.feRefuse

/-- I2C_GO. -/
def execI2cGo (m : Fin 8) (w : Word) (s : State) : Result := s.to (doI2cGo m w s.chip)

/-- I2C_DONE (R486): a transaction that ends OK has read RLEN bytes; one that ends otherwise at most as many. NACK_IDX records a byte that was
not acknowledged. -/
def doI2cDone (result : Fin 6) (nack : Fin 256) (rx : List (Fin 256)) (s : Chip) : Chip :=
  match s.mon.i2c with
  | none => s
  | some (_, n) =>
    if (result.val = 0 → rx.length = n) ∧ rx.length ≤ n then
      let s1 := (s.putBytes (Reg.MON.I2C_DATA.addr 0) (rx.map fun b => b.val)).setFlag Reg.MON.I2C_STAT.BUSY false
      let s2 := (s1.modMon fun v => { v with i2c := none }).setF Reg.MON.I2C_STAT.RESULT result.val
      let s3 := if result.val = 1 ∨ result.val = 2 then s2.setF Reg.MON.I2C_STAT.NACK_IDX nack.val else s2
      if result.val = 0 then s3.raise Ev.MON.I2C_DONE else s3.raise Ev.MON.I2C_ERR
    else s

/-- I2C_DONE. -/
def execI2cDone (result : Fin 6) (nack : Fin 256) (rx : List (Fin 256)) (s : State) : Result :=
  s.to (doI2cDone result nack rx s.chip)

end Sys2Proof.Machine
end

