-- ==== Sys2Proof/Machine/Msi.lean ====
section
/-! DEFINITION. MSI-X vectors, their latches, and FAULT_N's board test (R431, R433, R436, R442). -/

namespace Sys2Proof.Machine

/-- A change of the hidden state of the endpoint. -/
def Chip.modPci (s : Chip) (f : PciSt → PciSt) : Chip := { s with pci := f s.pci }

/-- The sources that ask for a vector (R431, R433): enabled, mapped to it, and active or with an occurrence that starts a message. -/
def Chip.vecSources (s : Chip) (v : Nat) : List Nat :=
  (List.range 32).filter fun n =>
    (s.rd Reg.TOP.HOST_EN.addr).bit n && s.getF (Reg.TOP.VEC_MAP.VEC n) == v && (s.srcActive n || s.top.msiDue.testBit n)

/-- Whether the fault-pending flag asks for a vector (R436). -/
def Chip.vecFault (s : Chip) (v : Nat) : Bool := s.top.faultPend && s.getF Reg.TOP.FAULT_VEC.VEC == v

/-- The latch of a vector, a bit of VEC_ACK (R433). -/
def vecLatchFld (v : Nat) : Fld := ⟨if v < 32 then Reg.TOP.VEC_ACK_LO.addr else Reg.TOP.VEC_ACK_HI.addr, v % 32, 1⟩

/-- The PBA bit of a vector (R442). -/
def pbaFld (v : Nat) : Fld := ⟨0x00B09000 + 4 * (v / 32 % 2), v % 32, 1⟩

/-- Whether a vector or the function is masked (R433): bit 0 of the vector control word of its MSI-X table entry. -/
def Chip.vecMasked (s : Chip) (v : Nat) : Bool := s.pci.fmask || (s.rd (0x00B0800C + 16 * v)).bit 0

/-- A message leaves the endpoint (R433, R447). -/
def Chip.msiOut (s : Chip) (v : Nat) : Chip := (s.evc 98).modPci fun p => { p with msi := some v }

/-- Rule 1 of R433 for a vector: its message is sent, or its PBA bit set where it is masked, and its latch set. Without the PCI island nothing
happens, and an unmasked message waits for the link. -/
def Chip.vecSend (s : Chip) (v : Nat) : Chip :=
  let due := s.vecSources v
  let fault := s.vecFault v
  let masked := s.vecMasked v
  if s.vecLatch v || (due.isEmpty && !fault) || s.islDown 4 || (!masked && !s.flag Reg.PCIE.PCIE_STAT.LINK_UP) then s
  else
    let s1 := if masked then s.setFlag (pbaFld v) true else s.msiOut v
    let left := due.foldl (fun m n => m - (m &&& 2 ^ n)) s1.top.msiDue
    { s1.setFlag (vecLatchFld v) true with top := { s1.top with msiDue := left, faultPend := s1.top.faultPend && !fault } }

/-- A pending vector that is masked no longer is sent, as PCI Express defines. -/
def Chip.pbaSend (s : Chip) : Chip :=
  (List.range 64).foldl (fun u v =>
    if u.flag (pbaFld v) && !u.vecMasked v && u.flag Reg.PCIE.PCIE_STAT.LINK_UP && !u.islDown 4 then (u.setFlag (pbaFld v) false).msiOut v else u) s

/-- MSIX_SEND (R433, R436). -/
def doMsixSend (v : Fin 64) (s : Chip) : Chip := s.vecSend v.val

/-- MSIX_SEND. -/
def execMsixSend (v : Fin 64) (s : State) : Result := s.to (doMsixSend v s.chip)

/-- VEC_ACK (R433): the latch clears, and rule 1 applies again at once. -/
def doVecAck (v : Fin 64) (s : Chip) : Chip := (s.setFlag (vecLatchFld v.val) false).vecSend v.val

/-- VEC_ACK. -/
def execVecAck (v : Fin 64) (s : State) : Result := s.to (doVecAck v s.chip)

/-- FAULT_TEST (R436). -/
def doFaultTest (on : Bool) (s : Chip) : Chip := s.setFlag Reg.TOP.FAULT_TEST.TEST on

/-- FAULT_TEST. -/
def execFaultTest (on : Bool) (s : State) : Result := s.to (doFaultTest on s.chip)

end Sys2Proof.Machine
end

