-- ==== Sys2Proof/Machine/Pmon.lean ====
section
/-! DEFINITION. The meanings of the commands of performance monitoring: closing and committing seconds, clearing a bin, starting
(R198, R200 to R211). -/

namespace Sys2Proof.Machine

/-- SECOND_CLOSE (R198, R205): once per second, from the second monitoring started with. -/
def doSecondClose (c : Carrier) (t : Fin 16) (sec : Nat) (s : Chip) : Chip :=
  let v := s.pmOf c t
  match v.started with
  | none => s
  | some st =>
    if sec < st ∨ v.lastClosed.any (fun l => decide (sec ≤ l)) then s
    else s.pmCloseRec c t sec (sec + 1) false

/-- SECOND_CLOSE. -/
def execSecondClose (c : Carrier) (t : Fin 16) (sec : Nat) (s : State) : Result := s.to (doSecondClose c t sec s.chip)

/-- p of R200: 1 to 100. -/
def Chip.sesPct (s : Chip) (c : Carrier) (t : Nat) : Nat := min 100 (max 1 (s.getF (Reg.PMON.PM_CFG.SES_PCT c t)))

/-- SES of the near end (R200). -/
def PmSec.neSes (r : PmSec) (p : Nat) : Bool := r.neDef || decide (0 < r.n ∧ p * r.n ≤ 100 * r.e)

/-- ES of the near end (R200). -/
def PmSec.neEs (r : PmSec) : Bool := r.neDef || decide (1 ≤ r.e)

/-- SES of the far end (R201). -/
def PmSec.feSes (r : PmSec) (p : Nat) : Bool := r.feDef || decide (0 < r.feN ∧ p * r.feN ≤ 100 * r.feE)

/-- ES of the far end (R201). -/
def PmSec.feEs (r : PmSec) : Bool := r.feDef || decide (1 ≤ r.feE)

/-- The availability of a direction after the judgement of the first of the closed seconds (R201, R202, R204): 10 consecutive
seconds, none frozen, no step between them, all SES or all not. -/
def availability (now : Bool) (l : List PmSec) (ses : PmSec → Bool) (evaluable : PmSec → Bool) : Bool :=
  let run := l.take 10
  let whole := decide (run.length = 10) && run.all (fun r => !r.frozen && evaluable r) && (run.take 9).all fun r => !r.brk
  if whole && run.all ses then false
  else if whole && run.all (fun r => !ses r) then true
  else now

/-- What a committed second adds, in the order of the counts of R211 (NE_ES, NE_SES, NE_BBE, NE_UAS, FE_ES, FE_SES, FE_BBE, FE_UAS),
then FROZEN and FE_NEVAL (R200 to R204). -/
def PmSec.adds (r : PmSec) (p : Nat) (ne fe bidir : Bool) : List Nat :=
  if r.frozen then [0, 0, 0, 0, 0, 0, 0, 0, 1, 0]
  else if bidir && !(ne && fe) then [0, 0, 0, 1, 0, 0, 0, 1, 0, 0]
  else
    let n := if ne then [r.neEs.toNat, (r.neSes p).toNat, if r.neSes p then 0 else r.e, 0] else [0, 0, 0, 1]
    let f := if r.neDef then [0, 0, 0, 0]
      else if fe then [r.feEs.toNat, (r.feSes p).toNat, if r.feSes p then 0 else r.feE, 0] else [0, 0, 0, 1]
    n ++ f ++ [0, r.neDef.toNat]

/-- A number added to a 32-bit register, which wraps. -/
def Chip.addReg (s : Chip) (a n : Nat) : Chip := s.wr a (BitVec.ofNat 32 ((s.rd a).toNat + n))

/-- The address of the native current record of a trail (R213). -/
def pmCur (c : Carrier) (t : Nat) : Nat := c.base + 0x01510100 + 0x1000 * t

/-- The address of the compatibility block of a trail (R215). -/
def pmCmp (c : Carrier) (t : Nat) : Nat := c.base + 0x01580000 + 0x1000 * t

/-- A second added to the native current record (R214). -/
def Chip.addNative (s : Chip) (a : Nat) (k : List Nat) (flags : Nat) : Chip :=
  let g := fun (i : Nat) => k.getD i 0
  let s1 := ((s.addReg (a + 0x08) 1).wr (a + 0x0C) (s.rd (a + 0x0C) ||| BitVec.ofNat 32 flags)).addReg (a + 0x10) (g 0)
  let s2 := (((s1.addReg (a + 0x14) (g 1)).addReg (a + 0x18) (g 3)).addReg (a + 0x1C) (g 8)).addPair (a + 0x20) (g 2)
  let s3 := ((s2.addReg (a + 0x28) (g 4)).addReg (a + 0x2C) (g 5)).addReg (a + 0x30) (g 7)
  (s3.addReg (a + 0x34) (g 9)).addPair (a + 0x38) (g 6)

/-- A BBE count of a compatibility record: 32 bits, kept at the highest value with BBE_SAT (R210). -/
def Chip.addBbe (s : Chip) (rec off n : Nat) : Chip :=
  let total := (s.rd (rec + off)).toNat + n
  if total < 2 ^ 32 then s.wr (rec + off) (BitVec.ofNat 32 total)
  else (s.wr (rec + off) 0xFFFFFFFF).wr (rec + 8) ((s.rd (rec + 8)) ||| 4)

/-- A second added to a compatibility record (R215). -/
def Chip.addCompat (s : Chip) (a : Nat) (k : List Nat) (flags : Nat) : Chip :=
  let g := fun (i : Nat) => k.getD i 0
  let s1 := ((s.wr (a + 8) (s.rd (a + 8) ||| BitVec.ofNat 32 (flags &&& 3))).addReg (a + 0x0C) (g 0)).addReg (a + 0x10) (g 1)
  let s2 := ((s1.addBbe a 0x14 (g 2)).addReg (a + 0x18) (g 3)).addReg (a + 0x1C) (g 4)
  ((s2.addReg (a + 0x20) (g 5)).addBbe a 0x24 (g 6)).addReg (a + 0x28) (g 7)

/-- A block of n words copied from one address to another. -/
def Chip.copyWords (s : Chip) (src dst n : Nat) : Chip :=
  (List.range n).foldl (fun t i => t.wr (dst + 4 * i) (t.rd (src + 4 * i))) s

/-- A record of n words emptied, and opened for a bin that starts at a second. -/
def Chip.openRec (s : Chip) (a n start flagsOff flags : Nat) : Chip :=
  let s1 := (List.range n).foldl (fun t i => t.wr (a + 4 * i) 0) s
  (s1.setPair a (start % 2 ^ 48)).wr (a + flagsOff) (BitVec.ofNat 32 flags)

/-- The count c of R211 in the native current record. -/
def Chip.nativeCount (s : Chip) (a i : Nat) : Nat :=
  match i with
  | 0 => (s.rd (a + 0x10)).toNat | 1 => (s.rd (a + 0x14)).toNat | 2 => s.getPair (a + 0x20) | 3 => (s.rd (a + 0x18)).toNat
  | 4 => (s.rd (a + 0x28)).toNat | 5 => (s.rd (a + 0x2C)).toNat | 6 => s.getPair (a + 0x38) | _ => (s.rd (a + 0x30)).toNat

/-- Threshold crossings of one kind of bin (R211): the counts that reach their threshold for the first time in the bin. -/
def Chip.crossings (s : Chip) (thr : Nat → Nat) (count : Nat → Nat) (seen : Nat) : Nat :=
  (List.range 8).foldl (fun m i =>
    let th := (s.rd (thr i)).toNat
    if th ≠ 0 ∧ th ≤ count i ∧ seen.testBit i = false then m + 2 ^ i else m) 0

/-- The checks of R211 at a commit. -/
def Chip.pmThresholds (s : Chip) (c : Carrier) (t : Nat) : Chip :=
  let v := s.pmOf c t
  let cur := pmCur c t
  let cmp := pmCmp c t
  let word := fun (a i : Nat) => (s.rd (a + 0x0C + 4 * i)).toNat
  let n := s.crossings (fun i => Reg.PMON.TCA_THR.addr c t i) (s.nativeCount cur) v.tcaN
  let q := s.crossings (fun i => cmp + 0x40 + 4 * i) (word (cmp + 0x100)) v.tca15
  let d := s.crossings (fun i => cmp + 0x60 + 4 * i) (word (cmp + 0x800)) v.tca24
  let s1 := s.setPm c t { v with tcaN := v.tcaN ||| n, tca15 := v.tca15 ||| q, tca24 := v.tca24 ||| d }
  let s2 := s1.setF (Reg.PMON.TCA_STAT.TCA c t) (s1.getF (Reg.PMON.TCA_STAT.TCA c t) ||| n)
  let s3 := s2.wr (cmp + 0x80) (s2.rd (cmp + 0x80) ||| BitVec.ofNat 32 (d * 256 + q))
  if n + q + d = 0 then s3 else s3.raisePm c t Ev.PMON.TCA

/-- The native bin is finalised (R208): the history moves, a new record opens. -/
def Chip.finaliseNative (s : Chip) (c : Carrier) (t : Nat) (start : Nat) : Chip :=
  let cur := pmCur c t
  let s1 := ((List.range 15).map fun k => 15 - k).foldl
    (fun u k => u.copyWords (cur + 0x40 + 0x40 * (k - 1)) (cur + 0x40 + 0x40 * k) 16) s
  let s2 := (s1.copyWords cur (cur + 0x40) 16).openRec cur 16 start 0x0C 1
  ((s2.setPm c t { s2.pmOf c t with tcaN := 0 }).bump (Reg.PMON.BIN_SEQ.SEQ c t)).raisePm c t Ev.PMON.BIN_DONE

/-- The 15-minute bin is finalised (R209). -/
def Chip.finalise15 (s : Chip) (c : Carrier) (t : Nat) (start : Nat) : Chip :=
  let a := pmCmp c t
  let hist := fun (k : Nat) => a + 0x160 + 0x30 * (k - 1)
  let s1 := ((List.range 31).map fun k => 32 - k).foldl (fun u k => u.copyWords (hist (k - 1)) (hist k) 12) s
  let s2 := ((s1.copyWords (a + 0x130) (hist 1) 12).copyWords (a + 0x100) (a + 0x130) 12).openRec (a + 0x100) 12 start 8 1
  ((s2.setPm c t { s2.pmOf c t with tca15 := 0 }).bump (Reg.PMON.CMP_SEQ.B15_SEQ c t)).raisePm c t Ev.PMON.CMP15_DONE

/-- The 24-hour bin is finalised (R209). -/
def Chip.finalise24 (s : Chip) (c : Carrier) (t : Nat) (start : Nat) : Chip :=
  let a := pmCmp c t
  let s2 := (s.copyWords (a + 0x800) (a + 0x830) 12).openRec (a + 0x800) 12 start 8 1
  ((s2.setPm c t { s2.pmOf c t with tca24 := 0 }).bump (Reg.PMON.CMP_SEQ.B24_SEQ c t)).raisePm c t Ev.PMON.CMP24_DONE

/-- The counts of the native current record zeroed, with CLEARED and SUSPECT (R208). -/
def Chip.clearNative (s : Chip) (a : Nat) : Chip :=
  let s1 := ((List.range 12).map fun i => 0x10 + 4 * i).foldl (fun u o => u.wr (a + o) 0) (s.wr (a + 0x08) 0)
  s1.wr (a + 0x0C) (s1.rd (a + 0x0C) ||| 6)

/-- The availability after a commit, and what follows from it (R202, R203). -/
def Chip.pmAvail (s : Chip) (c : Carrier) (t : Nat) (ne fe : Bool) : Chip :=
  let ne0 := s.flag (Reg.PMON.PM_STAT.AV_NE c t)
  let fe0 := s.flag (Reg.PMON.PM_STAT.AV_FE c t)
  let s1 := ((s.setFlag (Reg.PMON.PM_STAT.AV_NE c t) ne).setFlag (Reg.PMON.PM_STAT.AV_FE c t) fe).setFlag
    (Reg.PMON.PM_STAT.AV_BIDIR c t) (ne && fe)
  let bidir := s.flag (Reg.PMON.PM_CFG.BIDIR c t)
  let enter := if bidir then (ne0 && fe0) && !(ne && fe) else (ne0 && !ne) || (fe0 && !fe)
  let exit := if bidir then !(ne0 && fe0) && (ne && fe) else (!ne0 && ne) || (!fe0 && fe)
  let s2 := if enter then s1.raisePm c t Ev.PMON.UAS_ENTER else s1
  if exit then s2.raisePm c t Ev.PMON.UAS_EXIT else s2

/-- SECOND_COMMIT (R200 to R212): the oldest closed second is judged and added to every bin; bins whose last second it is are
finalised; thresholds are checked. -/
def doSecondCommit (c : Carrier) (t : Fin 16) (s : Chip) : Chip :=
  let v := s.pmOf c t
  match v.closed with
  | [] => s
  | r :: rest =>
    let p := s.sesPct c t
    let ne0 := s.flag (Reg.PMON.PM_STAT.AV_NE c t)
    let fe0 := s.flag (Reg.PMON.PM_STAT.AV_FE c t)
    let ne := if r.frozen then ne0 else availability ne0 v.closed (·.neSes p) fun _ => true
    let fe := if r.frozen then fe0 else availability fe0 v.closed (·.feSes p) fun x => !x.neDef
    let k := r.adds p ne fe (s.flag (Reg.PMON.PM_CFG.BIDIR c t))
    let suspect := r.late || r.frozen || r.step
    let cur := pmCur c t
    let s1 := s.setPm c t { v with closed := rest, clearPend := false }
    let s2 := if v.clearPend then s1.clearNative cur else s1
    let flags := (if suspect then 2 else 0) ||| (if r.step then 8 else 0)
    let s3 := s2.addNative cur k (flags ||| (if r.short then 2 else 0) ||| (if r.ripple then 16 else 0))
    let s4 := (s3.addCompat (pmCmp c t + 0x100) k flags).addCompat (pmCmp c t + 0x800) k flags
    let s5 := (s4.pmAvail c t ne fe).pmThresholds c t
    let s6 := match r.end_ with | some b => s5.finaliseNative c t b | none => s5
    let s7 := match r.end15 with | some b => s6.finalise15 c t b | none => s6
    let s8 := match r.end24 with | some b => s7.finalise24 c t b | none => s7
    (s8.bump (Reg.PMON.COMMIT_SEQ.SEQ c t)).setF (Reg.PMON.PM_STAT.PEND c t) (min 10 rest.length)

/-- SECOND_COMMIT. -/
def execSecondCommit (c : Carrier) (t : Fin 16) (s : State) : Result := s.to (doSecondCommit c t s.chip)

/-- PM_CLEAR (R208): takes effect at the next commit. -/
def doPmClear (c : Carrier) (t : Fin 16) (s : Chip) : Chip := s.setPm c t { s.pmOf c t with clearPend := true }

/-- PM_CLEAR. -/
def execPmClear (c : Carrier) (t : Fin 16) (s : State) : Result := s.to (doPmClear c t s.chip)

/-- PM_ENABLE (R208): the first setting of EN starts monitoring with the next whole second, where the first bins start; a bin that does
not start there by its own rule is SUSPECT. -/
def doPmEnable (c : Carrier) (t : Fin 16) (s : Chip) : Chip :=
  let s1 := s.setFlag (Reg.PMON.PM_CFG.EN c t) true
  let v := s1.pmOf c t
  if v.started.isSome then s1
  else
    let first := s1.wst.sec + 1
    let len := s1.binLen c t
    let whole := !s1.flag (Reg.PMON.PM_CFG.BIN_MODE c t) && binStartsAt first len (s1.getF (Reg.PMON.BIN_OFS.OFS c t) % len)
    let s2 := s1.setPm c t { v with started := some first, binStart := first, binLen := len }
    let fl := fun (b : Bool) => if b then 1 else 3
    let s3 := s2.openRec (pmCur c t) 16 first 0x0C (fl whole)
    let s4 := s3.openRec (pmCmp c t + 0x100) 12 first 8 (fl (decide (first % 900 = 0)))
    s4.openRec (pmCmp c t + 0x800) 12 first 8 (fl (binStartsAt first 86400 (s1.dayOfs c t)))

/-- PM_ENABLE. -/
def execPmEnable (c : Carrier) (t : Fin 16) (s : State) : Result := s.to (doPmEnable c t s.chip)

end Sys2Proof.Machine
end

