-- ==== Sys2Proof/Machine/Pool.lean ====
section
/-! DEFINITION. The meanings of the commands of the pools (R399 to R410). -/

namespace Sys2Proof.Machine

/-- POOL_OWN_WRITE (R399): accepted from the owner and from master 4. -/
def doPoolOwnWrite (k : Fin 4) (m v : Fin 8) (s : Chip) : Chip :=
  let f := Reg.POOL.POOL_OWN.OWNER k.val
  if m.val = s.getF f ∨ m.val = 4 then s.setF f v.val else s.raise Ev.POOL.OWN_REFUSED

/-- POOL_OWN_WRITE. -/
def execPoolOwnWrite (k : Fin 4) (m v : Fin 8) (s : State) : Result := s.to (doPoolOwnWrite k m v s.chip)

/-- The bytes of a 64-bit word, least significant first. -/
def bytes64 (d : Nat) : List Nat := (List.range 8).map fun i => d / 256 ^ i % 256

/-- An access of a pool counted (R447): port A or B of the pool, and the grant of the bus matrix for port A. -/
def Chip.poolCount (s : Chip) (m w : Nat) : Chip :=
  if m = 5 then s.evc (36 + poolOfWord w) else (s.evc (32 + poolOfWord w)).evc (48 + m)

/-- An error response of a pool access: through port A it is one of the bus matrix; through port B the capture engine alone sees it. -/
def Chip.poolError (s : Chip) (m w cause : Nat) : Chip :=
  if m = 5 then s.respond 5 (.err cause) else s.busError m (poolOfWord w) cause (wordAddr w)

/-- A read of a word by a master with its response (R401, R403, R404). -/
def Chip.poolRead (s : Chip) (m w : Nat) : Chip :=
  let r := (s.poolCount m w).readWord64 w m
  match r.1 with
  | .inl d => r.2.respond m (.data (bytes64 d))
  | .inr c => r.2.poolError m w c

/-- POOL_READ (R404). -/
def doPoolRead (m : Fin 8) (w : Fin 524288) (upset upsetChk : Nat) (s : Chip) : Chip :=
  (s.upset w.val upset upsetChk).poolRead m.val w.val

/-- POOL_READ. -/
def execPoolRead (m : Fin 8) (w : Fin 524288) (upset upsetChk : Nat) (s : State) : Result :=
  s.to (doPoolRead m w upset upsetChk s.chip)

/-- A write of a word by a master with its response (R399, R401). -/
def Chip.poolWrite (s : Chip) (m w be data : Nat) : Chip :=
  let s1 := s.poolCount m w
  match s1.writeRefused w be m with
  | some c => s1.poolError m w c
  | none => (s1.writeWord64 w be data).respond m .done

/-- POOL_WRITE (R399, R401, R402): of two writes of one word in a clock, port B's is discarded. -/
def doPoolWrite (m : Fin 8) (w : Fin 524288) (be : Fin 256) (data : BitVec 64) (collide : Bool) (s : Chip) : Chip :=
  if m.val = 5 ∧ collide = true then
    ((((s.poolCount 5 w.val).bump Reg.POOL.COLLIDE_CNT.COUNT).raise Ev.POOL.WR_COLLIDE).mevPush 6 w.val (some 5)).respond 5 .done
  else s.poolWrite m.val w.val be.val data.toNat

/-- POOL_WRITE. -/
def execPoolWrite (m : Fin 8) (w : Fin 524288) (be : Fin 256) (data : BitVec 64) (collide : Bool) (s : State) : Result :=
  s.to (doPoolWrite m w be data collide s.chip)

/-- TRACKER_EXPIRE (R405). -/
def doTrackerExpire (w : Fin 524288) (s : Chip) : Chip :=
  { s with pool := { s.pool with track := s.pool.track.filter fun x => x != w.val } }

/-- TRACKER_EXPIRE. -/
def execTrackerExpire (w : Fin 524288) (s : State) : Result := s.to (doTrackerExpire w s.chip)

/-- The spares left in a bank of a pool (R418). -/
def spareFld (pool bank : Nat) : Fld :=
  ⟨if pool < 2 then Reg.POOL.SPARE_LEFT_0.addr else Reg.POOL.SPARE_LEFT_1.addr, 4 * bank + 16 * (pool % 2), 4⟩

/-- The words of a row of a bank (R397). -/
def rowWords (pool bank row : Nat) : List Nat := (List.range 64).map fun col => 131072 * pool + 4 * (row * 64 + col) + bank

/-- REPAIR_GO (R406): refused while a repair runs, or without a spare. -/
def doRepairGo (pool bank : Fin 4) (row : Fin 512) (s : Chip) : Chip :=
  let s1 := ((s.setF Reg.POOL.REPAIR_CTRL.POOL pool.val).setF Reg.POOL.REPAIR_CTRL.BANK bank.val).setF Reg.POOL.REPAIR_CTRL.ROW row.val
  if s.flag Reg.POOL.REPAIR_STAT.BUSY then (s1.setF Reg.POOL.REPAIR_STAT.RESULT 2).raise Ev.POOL.REPAIR_DONE
  else if s.getF (spareFld pool.val bank.val) = 0 then (s1.setF Reg.POOL.REPAIR_STAT.RESULT 1).raise Ev.POOL.REPAIR_DONE
  else
    let s2 := s1.setFlag Reg.POOL.REPAIR_STAT.BUSY true
    { s2 with pool := { s2.pool with repair := some (pool.val, bank.val, row.val) } }

/-- REPAIR_GO. -/
def execRepairGo (pool bank : Fin 4) (row : Fin 512) (s : State) : Result := s.to (doRepairGo pool bank row s.chip)

/-- A word copied into the spare row (R403, R406): corrected, or written as poison where it is uncorrectable or poisoned. -/
def Chip.copyWord (s : Chip) (w : Nat) : Chip :=
  let v := s.poolWord w
  match v.check (poolOfWord w) with
  | .single => (s.setPoolWord w { v with flips := 0, chk := 0 }).corrected w none
  | .uncorr => s.setPoolWord w PoolWord.poisonPattern
  | .poisoned => s.setPoolWord w PoolWord.poisonPattern
  | _ => s

/-- REPAIR_DONE (R406). -/
def doRepairDone (s : Chip) : Chip :=
  match s.pool.repair with
  | none => s
  | some (p, b, r) =>
    let s1 := (rowWords p b r).foldl Chip.copyWord s
    let s2 : Chip := { s1 with pool := { s1.pool with repair := none } }
    let s3 := s2.setF (spareFld p b) (s2.getF (spareFld p b) - 1)
    ((s3.setFlag Reg.POOL.REPAIR_STAT.BUSY false).setF Reg.POOL.REPAIR_STAT.RESULT 0).raise Ev.POOL.REPAIR_DONE

/-- REPAIR_DONE. -/
def execRepairDone (s : State) : Result := s.to (doRepairDone s.chip)

/-- The bounds of a scrub pass as word indexes, none where the range is refused (R407). -/
def Chip.scrubRange (s : Chip) : Option (Nat × Nat) :=
  let a := s.getF Reg.POOL.SCRUB_START.ADDR * 8
  let b := s.getF Reg.POOL.SCRUB_END.ADDR * 8
  if 0x80000000 ≤ a ∧ a < b ∧ b ≤ 0x80400000 ∧ (a - 0x80000000) / 0x100000 = (b - 8 - 0x80000000) / 0x100000 then
    some ((a - 0x80000000) / 8, (b - 0x80000000) / 8)
  else none

/-- SCRUB_GO (R407). -/
def doScrubGo (s : Chip) : Chip :=
  if s.flag Reg.POOL.SCRUB_STAT.BUSY then s
  else match s.scrubRange with
  | none => s.setFlag Reg.POOL.SCRUB_STAT.RANGE_ERR true
  | some (a, b) =>
    let s1 := [Reg.POOL.SCRUB_READ.COUNT, Reg.POOL.SCRUB_CORR.COUNT, Reg.POOL.SCRUB_UNCORR.COUNT, Reg.POOL.SCRUB_POISON_SEEN.COUNT].foldl
      (fun u f => u.setF f 0) s
    let s2 := ((s1.setF Reg.POOL.SCRUB_FIRST.ADDR 0xFFFFFFFF).setFlag Reg.POOL.SCRUB_STAT.BUSY true).setFlag Reg.POOL.SCRUB_STAT.STOPPED false
    { s2.setFlag Reg.POOL.SCRUB_STAT.RANGE_ERR false with pool := { s2.pool with scrubAt := a, scrubEnd := b, scrubStop := false } }

/-- SCRUB_GO. -/
def execScrubGo (s : State) : Result := s.to (doScrubGo s.chip)

/-- SCRUB_STOP (R407). -/
def doScrubStop (s : Chip) : Chip :=
  if s.flag Reg.POOL.SCRUB_STAT.BUSY then { s with pool := { s.pool with scrubStop := true } } else s

/-- SCRUB_STOP. -/
def execScrubStop (s : State) : Result := s.to (doScrubStop s.chip)

/-- SCRUB_FIRST takes the first word that was not good (R407). -/
def Chip.scrubFirst (s : Chip) (w : Nat) : Chip :=
  if s.getF Reg.POOL.SCRUB_FIRST.ADDR = 0xFFFFFFFF then s.setF Reg.POOL.SCRUB_FIRST.ADDR (wordAddr w) else s

/-- The scrubber reads a word (R407, R408); where a port writes the word in the same clock, what the scrubber would write is dropped. -/
def Chip.scrubRead (s : Chip) (w : Nat) (hit : Bool) : Chip :=
  let r := s.wordFind w
  let u := r.2.2.bump Reg.POOL.SCRUB_READ.COUNT
  let v := u.poolWord w
  match r.1 with
  | .single =>
    let u1 := if hit then u else u.setPoolWord w { v with flips := 0, chk := 0 }
    ((u1.corrected w none).bump Reg.POOL.SCRUB_CORR.COUNT).scrubFirst w
  | .poisoned => (u.bump Reg.POOL.SCRUB_POISON_SEEN.COUNT).scrubFirst w
  | .uncorr =>
    let u1 := if hit then u
      else ((u.setPoolWord w PoolWord.poisonPattern).raise Ev.POOL.POISONED).mevPush 3 w none
    (u1.bump Reg.POOL.SCRUB_UNCORR.COUNT).scrubFirst w
  | _ => u

/-- Whether a word lies in the row under repair (R417). -/
def Chip.underRepair (s : Chip) (w : Nat) : Bool := s.pool.repair.any fun x => (rowWords x.1 x.2.1 x.2.2).contains w

/-- SCRUB_WORD (R408): the scrubber waits at a row under repair. -/
def doScrubWord (upset upsetChk : Nat) (hit : Bool) (s : Chip) : Chip :=
  let w := s.pool.scrubAt
  if s.flag Reg.POOL.SCRUB_STAT.BUSY = true ∧ w < s.pool.scrubEnd ∧ s.underRepair w = false then
    let u := (s.upset w upset upsetChk).scrubRead w hit
    { u with pool := { u.pool with scrubAt := w + 1 } }
  else s

/-- SCRUB_WORD. -/
def execScrubWord (upset upsetChk : Nat) (hit : Bool) (s : State) : Result := s.to (doScrubWord upset upsetChk hit s.chip)

/-- SCRUB_DONE (R407). -/
def doScrubDone (s : Chip) : Chip :=
  if s.flag Reg.POOL.SCRUB_STAT.BUSY = true ∧ (s.pool.scrubEnd ≤ s.pool.scrubAt ∨ s.pool.scrubStop = true) then
    let s1 := (s.setFlag Reg.POOL.SCRUB_STAT.BUSY false).setFlag Reg.POOL.SCRUB_STAT.STOPPED s.pool.scrubStop
    { s1.raise Ev.POOL.SCRUB_DONE with pool := { s1.pool with scrubStop := false } }
  else s

/-- SCRUB_DONE. -/
def execScrubDone (s : State) : Result := s.to (doScrubDone s.chip)

/-- ECC_FLIP_ARM (R409). -/
def doEccFlipArm (pool : Fin 4) (byte : Fin 8) (chk : Fin 256) (s : Chip) : Chip :=
  (((s.setF Reg.POOL.ECC_FLIP_CTL.POOL pool.val).setF Reg.POOL.ECC_FLIP_CTL.BYTE byte.val).setF Reg.POOL.ECC_FLIP_CTL.CHK chk.val).setFlag
    Reg.POOL.ECC_FLIP_CTL.ARM true

/-- ECC_FLIP_ARM. -/
def execEccFlipArm (pool : Fin 4) (byte : Fin 8) (chk : Fin 256) (s : State) : Result := s.to (doEccFlipArm pool byte chk s.chip)

/-- MEV_POP (R410). -/
def doMevPop (s : Chip) : Chip :=
  match s.pool.mev with
  | [] => s
  | _ :: l => { s with pool := { s.pool with mev := l } }.mevShow

/-- MEV_POP. -/
def execMevPop (s : State) : Result := s.to (doMevPop s.chip)

end Sys2Proof.Machine
end

