-- ==== Sys2Proof/Machine/Subc.lean ====
section
/-! DEFINITION. The meanings of the commands of subcarrier mode: frequency pre-compensation, the hub's sleep marks, the inlet of a
leaf and of a hub, and the registration queue (R150 to R160). -/

namespace Sys2Proof.Machine

/-- UP_FCOMP_UPDATE (R150): a leaf with UP_FCOMP = 1 moves F toward the offset of its home subcarrier by at most 10 MHz. -/
def doUpFcompUpdate (c : Carrier) (fofs : Int) (s : Chip) : Chip :=
  let v := s.subc.get c
  if s.flag (Reg.SUBC.SC_CFG.UP_FCOMP c) && decide (s.getF (Reg.SUBC.SC_STAT.ROLE_ACTIVE c) = 2) then
    s.setSubc c { v with fcomp := v.fcomp + max (-10) (min 10 (fofs - v.fcomp)) }
  else s

/-- UP_FCOMP_UPDATE. -/
def execUpFcompUpdate (c : Carrier) (fofs : Int) (s : State) : Result := s.to (doUpFcompUpdate c fofs s.chip)

/-- HUB_SLEEP_MARK (R152, R153): the mark; a new mark suppresses the subcarrier's defects again. -/
def doHubSleepMark (c : Carrier) (q : Fin 16) (v : Bool) (s : Chip) : Chip :=
  let was := s.bitOf (Reg.SUBC.SLEEP.MASK c) q.val
  let s1 := s.putBit (Reg.SUBC.SLEEP.MASK c) q.val v
  (if v && !was then s1.modRcv (.sub c q) fun w => { w with woke := false } else s1).settle

/-- HUB_SLEEP_MARK. -/
def execHubSleepMark (c : Carrier) (q : Fin 16) (v : Bool) (s : State) : Result := s.to (doHubSleepMark c q v s.chip)

/-- INLET_SEND (R157): with EN = 1 on a leaf, IDLE, DONE and GIVEUP are left for WAIT_HOME with ATTEMPTS cleared. -/
def doInletSend (c : Carrier) (s : Chip) : Chip :=
  let st := s.getF (Reg.SUBC.INLET_TX_STAT.STATE c)
  if s.inletLeaf c && (st == 0 || st == 5 || st == 6) then
    ((s.setInlet c 1).setF (Reg.SUBC.INLET_TX_STAT.ATTEMPTS c) 0).inletSettle c
  else s

/-- INLET_SEND. -/
def execInletSend (c : Carrier) (s : State) : Result := s.to (doInletSend c s.chip)

/-- INLET_ACK (R157): DONE, from SEND after the burst and its guard. -/
def doInletAck (c : Carrier) (s : Chip) : Chip :=
  let st := s.getF (Reg.SUBC.INLET_TX_STAT.STATE c)
  if st = 3 then s.setSubc c { s.subc.get c with ackPend := true }
  else if st = 2 ∨ st = 4 then s.setInlet c 5
  else s

/-- INLET_ACK. -/
def execInletAck (c : Carrier) (s : State) : Result := s.to (doInletAck c s.chip)

/-- INLET_EN_CLEAR (R157, R165): the leaf inlet goes to IDLE; a hub's receiver stops. -/
def doInletEnClear (c : Carrier) (s : Chip) : Chip :=
  let s1 := s.setFlag (Reg.SUBC.INLET_CFG.EN c) false
  (s1.setSubc c { s1.subc.get c with inlet := .search }).inletSettle c

/-- INLET_EN_CLEAR. -/
def execInletEnClear (c : Carrier) (s : State) : Result := s.to (doInletEnClear c s.chip)

/-- BACKOFF_EXPIRED (R157). -/
def doBackoffExpired (c : Carrier) (s : Chip) : Chip :=
  if s.getF (Reg.SUBC.INLET_TX_STAT.STATE c) = 2 then s.setInlet c 3 else s

/-- BACKOFF_EXPIRED. -/
def execBackoffExpired (c : Carrier) (s : State) : Result := s.to (doBackoffExpired c s.chip)

/-- INLET_SENT (R157): WAIT_RESP; DONE where ACK was written during the burst, else WAIT_HOME where the home subcarrier left
ACQUIRED. -/
def doInletSent (c : Carrier) (s : Chip) : Chip :=
  if s.getF (Reg.SUBC.INLET_TX_STAT.STATE c) ≠ 3 then s
  else
    let v := s.subc.get c
    let next := if v.ackPend then 5 else if v.homePend then 1 else 4
    ((s.setInlet c next).raise (Ev.SUBC.INLET_SENT c)).inletSettle c

/-- INLET_SENT. -/
def execInletSent (c : Carrier) (s : State) : Result := s.to (doInletSent c s.chip)

/-- RESP_TIMEOUT (R157): another backoff of 1 to min(64, 2^(k+1)) slots, or GIVEUP after MAX_TRY bursts. -/
def doRespTimeout (c : Carrier) (s : Chip) : Chip :=
  if s.getF (Reg.SUBC.INLET_TX_STAT.STATE c) ≠ 4 then s
  else
    let k := s.getF (Reg.SUBC.INLET_TX_STAT.ATTEMPTS c) + 1
    let s1 := s.setSat (Reg.SUBC.INLET_TX_STAT.ATTEMPTS c) k
    if max 1 (s.getF (Reg.SUBC.INLET_TRY.MAX_TRY c)) ≤ k then (s1.setInlet c 6).raise (Ev.SUBC.INLET_GIVEUP c)
    else (s1.setInlet c 2).drawDelay c (min 64 (2 ^ (k + 1)))

/-- RESP_TIMEOUT. -/
def execRespTimeout (c : Carrier) (s : State) : Result := s.to (doRespTimeout c s.chip)

/-- Whether a hub's inlet receiver runs (R148, R165). -/
def Chip.inletHub (s : Chip) (c : Carrier) : Bool :=
  s.flag (Reg.SUBC.INLET_CFG.EN c) && decide (s.getF (Reg.SUBC.SC_STAT.ROLE_ACTIVE c) = 1)

/-- The inlet receiver of a hub replaced. -/
def Chip.setInletRx (s : Chip) (c : Carrier) (v : InletRx) : Chip := s.setSubc c { s.subc.get c with inlet := v }

/-- PREAMBLE_DETECTED (R158): a reception starts, replaces an unconfirmed one, or replaces a confirmed one at least 6 dB weaker. -/
def doPreambleDetected (c : Carrier) (level fofs : Int) (sec ns : Nat) (s : Chip) : Chip :=
  if !s.inletHub c then s
  else
    let b : Burst := { level := level, fofs := fofs, sec := sec, ns := ns }
    match (s.subc.get c).inlet with
    | .search => s.setInletRx c (.header b)
    | .header _ => (s.setInletRx c (.header b)).bump (Reg.SUBC.INLET_UNCONF_PREEMPT.COUNT c)
    | .payload cur =>
      if cur.level + 60 ≤ level then (s.setInletRx c (.header b)).bump (Reg.SUBC.INLET_PREEMPTED.COUNT c)
      else s.bump (Reg.SUBC.INLET_COLLISION.COUNT c)

/-- PREAMBLE_DETECTED. -/
def execPreambleDetected (c : Carrier) (level fofs : Int) (sec ns : Nat) (s : State) : Result :=
  s.to (doPreambleDetected c level fofs sec ns s.chip)

/-- The words of payload bytes, byte 0 in bits [7:0] of the first (R165). -/
def packWords : Nat → List Nat → List Word
  | 0, _ => []
  | n + 1, l => BitVec.ofNat 32 (l.getD 0 0 + l.getD 1 0 * 256 + l.getD 2 0 * 65536 + l.getD 3 0 * 16777216) :: packWords n (l.drop 4)

/-- A queue entry's registers written from a burst (R165). -/
def Chip.writeEntry (s : Chip) (c : Carrier) (e : Nat) (b : Burst) (data : List Nat) (dup : Bool) : Chip :=
  let a := Reg.SUBC.Q_SERIAL_LO.addr c e
  let s1 := (s.setPair a b.serial).wr (a + 8)
    (BitVec.ofNat 32 (b.type * 2 ^ 28 + b.home * 2 ^ 24 + b.length * 2 ^ 16 + unsgn 16 b.level))
  let s2 := ((s1.wr (a + 0xC) (BitVec.ofNat 32 (unsgn 16 b.fofs))).setPair (a + 0x10) (b.sec % 2 ^ 48)).wr (a + 0x18) (BitVec.ofNat 32 b.ns)
  let s3 := s2.wr (a + 0x1C) (if dup then 1 else 0)
  ((packWords (min 255 (data.length / 4)) data).zipIdx).foldl (fun t p => t.wr (a + 0x20 + 4 * p.2) p.1) s3

/-- A received burst enters the registration queue (R160): over the entry of the same serial number, behind the last one, or nowhere
where 32 are held. -/
def Chip.queueBurst (s : Chip) (c : Carrier) (b : Burst) (data : List Nat) : Chip :=
  let head := s.getF (Reg.SUBC.QUEUE_STAT.HEAD c)
  let count := s.getF (Reg.SUBC.QUEUE_STAT.COUNT c)
  let slots := (List.range count).map fun k => (head + k) % 32
  match slots.find? fun e => s.getPair (Reg.SUBC.Q_SERIAL_LO.addr c e) == b.serial with
  | some e => ((s.writeEntry c e b data true).bump (Reg.SUBC.INLET_DUP.COUNT c)).raise (Ev.SUBC.INLET_RX c)
  | none =>
    if 32 ≤ count then (s.bump (Reg.SUBC.INLET_QUEUE_DROP.COUNT c)).raise (Ev.SUBC.QUEUE_FULL c)
    else
      ((s.writeEntry c ((head + count) % 32) b data false).setF (Reg.SUBC.QUEUE_STAT.COUNT c) (count + 1)).raise
        (Ev.SUBC.INLET_RX c)

/-- Whether the CRC of a header of 128 bits is good (R155). -/
def headerGood (bits : List Nat) : Bool :=
  decide (bits.length = 128) && decide (crcMsb 16 0x1021 0xFFFF (bits.take 112) = ofBits (bits.drop 112))

/-- HEADER_COMPLETE (R155, R158): a good header confirms the burst, and queues it where it has no payload; a bad one is counted. -/
def doHeaderComplete (c : Carrier) (header : List Bool) (otherPeak : Bool) (s : Chip) : Chip :=
  match (s.subc.get c).inlet with
  | .header b =>
    let bits := header.map Bool.toNat
    if headerGood bits then
      let f := fun (lo n : Nat) => ofBits ((bits.drop lo).take n)
      let b' := { b with type := f 4 4, serial := f 8 64, length := f 72 6, home := f 78 4 }
      if b'.length = 0 then (s.setInletRx c .search).queueBurst c b' [] else s.setInletRx c (.payload b')
    else if otherPeak then (s.setInletRx c .search).bump (Reg.SUBC.INLET_COLLISION.COUNT c)
    else (s.setInletRx c .search).bump (Reg.SUBC.INLET_HDR_FAIL.COUNT c)
  | _ => s

/-- HEADER_COMPLETE. -/
def execHeaderComplete (c : Carrier) (header : List Bool) (otherPeak : Bool) (s : State) : Result :=
  s.to (doHeaderComplete c header otherPeak s.chip)

/-- The payload bytes of a burst after descrambling (R156). -/
def descramble (bytes : List Nat) : List Nat :=
  let mask := lfsrBits (8 * bytes.length) 0x6B1D 15 14
  let bits := bytes.flatMap bitsMsb
  bytesOfBits bytes.length ((bits.zip mask).map fun p => (p.1 + p.2) % 2)

/-- PAYLOAD_COMPLETE (R156, R158, R160): a burst of its announced length whose CRC-32C, sent most significant bit first, is good is
counted and queued. -/
def doPayloadComplete (c : Carrier) (bytes : List Byte) (s : Chip) : Chip :=
  match (s.subc.get c).inlet with
  | .payload b =>
    let plain := descramble (bytes.map BitVec.toNat)
    let data := plain.take (32 * b.length - 4)
    let crc := ofBits ((plain.drop (32 * b.length - 4)).flatMap bitsMsb)
    let s1 := s.setInletRx c .search
    if plain.length = 32 * b.length ∧ crc32c data = crc then
      (s1.bump (Reg.SUBC.INLET_GOOD.COUNT c)).queueBurst c b data
    else s1.bump (Reg.SUBC.INLET_PAY_FAIL.COUNT c)
  | _ => s

/-- PAYLOAD_COMPLETE. -/
def execPayloadComplete (c : Carrier) (bytes : List Byte) (s : State) : Result := s.to (doPayloadComplete c bytes s.chip)

/-- QUEUE_POP (R160): the head entry is removed. -/
def doQueuePop (c : Carrier) (s : Chip) : Chip :=
  let n := s.getF (Reg.SUBC.QUEUE_STAT.COUNT c)
  if n = 0 then s
  else (s.bump (Reg.SUBC.QUEUE_STAT.HEAD c)).setF (Reg.SUBC.QUEUE_STAT.COUNT c) (n - 1)

/-- QUEUE_POP. -/
def execQueuePop (c : Carrier) (s : State) : Result := s.to (doQueuePop c s.chip)

/-- QUEUE_FLUSH (R160): every entry is removed. -/
def doQueueFlush (c : Carrier) (s : Chip) : Chip :=
  let n := s.getF (Reg.SUBC.QUEUE_STAT.COUNT c)
  (s.bump (Reg.SUBC.QUEUE_STAT.HEAD c) n).setF (Reg.SUBC.QUEUE_STAT.COUNT c) 0

/-- QUEUE_FLUSH. -/
def execQueueFlush (c : Carrier) (s : State) : Result := s.to (doQueueFlush c s.chip)

end Sys2Proof.Machine
end

