-- ==== Sys2Proof/Machine/Tim.lean ====
section
/-! DEFINITION. The meanings of the commands of the reference slots, the selector, the DPLL, the DCO and the reference outputs (R263 to
R274). -/

namespace Sys2Proof.Machine

/-- REF_ACTIVITY_LOSS (R263, R264): a slot whose source is valid by R262 stays active, REFIN slots apart. -/
def doRefActivityLoss (r : Fin 8) (s : Chip) : Chip :=
  if r.val < 6 ∧ s.refSource r.val = true then s
  else ((s.setFlag (Reg.TIM.REF_STAT.ACTIVE r.val) false).disqualify r.val 1).timSettle

/-- REF_ACTIVITY_LOSS. -/
def execRefActivityLoss (r : Fin 8) (s : State) : Result := s.to (doRefActivityLoss r s.chip)

/-- The end of a frequency window for one slot (R263, R264): its offset, none where it was not active throughout. -/
def Chip.fmonSlot (s : Chip) (r : Nat) (off : Option Int) : Chip :=
  match off with
  | none => s.setFlag (Reg.TIM.REF_STAT.FOFS_VALID r) false
  | some v =>
    let s1 := (s.setS (Reg.TIM.REF_FOFS.FOFS r) v).setFlag (Reg.TIM.REF_STAT.FOFS_VALID r) true
    if 12000000 < v.natAbs then s1.disqualify r 2
    else if s1.refOk r ∨ s1.flag (Reg.TIM.REF_STAT.ACTIVE r) = false then s1
    else s1.setDisq r (if 9200000 < v.natAbs then 2 else 3)

/-- FMON_WINDOW (R263): the offsets of the slots that were active throughout the window. -/
def doFmonWindow (offs : List (Fin 8 × Int)) (s : Chip) : Chip :=
  ((List.finRange 8).foldl (fun u r => u.fmonSlot r.val ((offs.find? fun p => p.1 == r).map Prod.snd)) s).timSettle

/-- FMON_WINDOW. -/
def execFmonWindow (offs : List (Fin 8 × Int)) (s : State) : Result := s.to (doFmonWindow offs s.chip)

/-- The gross check of one slot (R263): a slot whose source is valid is active; beyond ±50 ppm it is disqualified. -/
def Chip.grossSlot (s : Chip) (r : Nat) (edges : Bool) (off : Option Int) : Chip :=
  let on := s.refSource r && (decide (r < 6) || edges)
  let was := s.flag (Reg.TIM.REF_STAT.ACTIVE r)
  let s1 := if on && !was then (s.setFlag (Reg.TIM.REF_STAT.ACTIVE r) true).setDisq r 3 else s
  match off with
  | some v => if s1.flag (Reg.TIM.REF_STAT.ACTIVE r) && decide (50000000 < v.natAbs) then s1.disqualify r 2 else s1
  | none => s1

/-- GROSS_CHECK (R263). -/
def doGrossCheck (edges : List (Fin 8)) (offs : List (Fin 8 × Int)) (s : Chip) : Chip :=
  ((List.finRange 8).foldl (fun u r =>
    u.grossSlot r.val (edges.contains r) ((offs.find? fun p => p.1 == r).map Prod.snd)) s).timSettle

/-- GROSS_CHECK. -/
def execGrossCheck (edges : List (Fin 8)) (offs : List (Fin 8 × Int)) (s : State) : Result := s.to (doGrossCheck edges offs s.chip)

/-- REF_QUALIFIED (R264, R267): an active slot whose latched offset lies within ±9.2 ppm qualifies, and its WTR starts. -/
def doRefQualified (r : Fin 8) (s : Chip) : Chip :=
  if s.refOk r.val ∨ s.flag (Reg.TIM.REF_STAT.ACTIVE r.val) = false ∨ s.flag Reg.CLK.CLK_STAT.TIME_ROOT = true ∨
      (s.flag (Reg.TIM.REF_STAT.FOFS_VALID r.val) = true ∧ 9200000 < (s.getS (Reg.TIM.REF_FOFS.FOFS r.val)).natAbs) then s
  else
    let s1 := ((s.setFlag (Reg.TIM.REF_STAT.QUALIFIED r.val) true).setF (Reg.TIM.REF_STAT.DISQ_CAUSE r.val) 0).raise Ev.TIM.QUAL_CHANGE
    let bit := 2 ^ r.val
    let done := s.getF Reg.TIM.QUAL_CFG.WTR == 0
    (s1.modTim fun v =>
      { v with qualAt := Tab.put 0 v.qualAt r.val s1.now
               wtrDone := if done then v.wtrDone ||| bit else v.wtrDone - (v.wtrDone &&& bit) }).timSettle

/-- REF_QUALIFIED. -/
def execRefQualified (r : Fin 8) (s : State) : Result := s.to (doRefQualified r s.chip)

/-- REF_WTR_EXPIRED (R267): the slot has been qualified for WTR seconds without a break. -/
def doRefWtrExpired (r : Fin 8) (s : Chip) : Chip :=
  if s.refOk r.val then (s.modTim fun v => { v with wtrDone := v.wtrDone ||| 2 ^ r.val }).timSettle else s

/-- REF_WTR_EXPIRED. -/
def execRefWtrExpired (r : Fin 8) (s : State) : Result := s.to (doRefWtrExpired r s.chip)

/-- SEL_CFG_WRITE (R266, R268). -/
def doSelCfgWrite (mode : Fin 8) (manRef : Fin 8) (revertive : Bool) (s : Chip) : Chip :=
  (((s.setF Reg.TIM.SEL_CFG.MODE mode.val).setF Reg.TIM.SEL_CFG.MAN_REF manRef.val).setFlag Reg.TIM.SEL_CFG.REVERTIVE revertive).timSettle

/-- SEL_CFG_WRITE. -/
def execSelCfgWrite (mode manRef : Fin 8) (revertive : Bool) (s : State) : Result := s.to (doSelCfgWrite mode manRef revertive s.chip)

/-- SWITCH_COMMIT_POINT (R268, R269): the DPLL tracks the target, and the switch completes. -/
def doSwitchCommitPoint (s : Chip) : Chip :=
  match s.tim.target with
  | none => s
  | some r =>
    let s1 := ((s.setF Reg.TIM.DPLL_STAT.SEL_REF r).setFlag Reg.TIM.DPLL_STAT.SEL_VALID true).setFlag Reg.TIM.DPLL_STAT.SWITCHING false
    let s2 := (((s1.modTim fun v => { v with target := none }).bump Reg.TIM.SW_COUNT.COUNT).raise Ev.TIM.REF_SWITCH).evc 70
    let st := s.getF Reg.TIM.DPLL_STAT.STATE
    (if st = 1 ∨ st = 2 then s2 else s2.setDpll 1).timSettle

/-- SWITCH_COMMIT_POINT. -/
def execSwitchCommitPoint (s : State) : Result := s.to (doSwitchCommitPoint s.chip)

/-- DPLL_LOCKED (R269). -/
def doDpllLocked (s : Chip) : Chip := if s.getF Reg.TIM.DPLL_STAT.STATE = 1 then s.setDpll 2 else s

/-- DPLL_LOCKED. -/
def execDpllLocked (s : State) : Result := s.to (doDpllLocked s.chip)

/-- DPLL_LOCK_LOSS (R269). -/
def doDpllLockLoss (s : Chip) : Chip := if s.getF Reg.TIM.DPLL_STAT.STATE = 2 then s.setDpll 1 else s

/-- DPLL_LOCK_LOSS. -/
def execDpllLockLoss (s : State) : Result := s.to (doDpllLockLoss s.chip)

/-- HOLDOVER_OOS (R269). -/
def doHoldoverOos (s : Chip) : Chip :=
  let n := s.getF Reg.TIM.HO_TIMER.TIMER
  if s.getF Reg.TIM.DPLL_STAT.STATE = 3 ∧ n ≠ 0 then (s.setDpll 4).setF Reg.TIM.HO_ELAPSED.SECS n else s

/-- HOLDOVER_OOS. -/
def execHoldoverOos (s : State) : Result := s.to (doHoldoverOos s.chip)

/-- HO_AVG in effect (R275). -/
def Chip.hoAvg (s : Chip) : Nat := min 3600 (max 1 (s.getF Reg.TIM.HO_CFG.HO_AVG))

/-- The estimate of R271: the mean of the last HO_AVG stored seconds without the most recent HO_GUARD; its rounding is left open. -/
def Chip.hoEstimate (s : Chip) : Chip :=
  let l := (s.tim.history.drop (s.getF Reg.TIM.HO_CFG.HO_GUARD)).take s.hoAvg
  if l.isEmpty then s
  else
    let r := s.roundFree l.sum l.length
    r.2.setS Reg.TIM.HO_EST.EST r.1

/-- HISTORY_RECORD (R271): a Wellspring second in LOCKED ends, with its mean output frequency. -/
def doHistoryRecord (ppt : Int) (s : Chip) : Chip :=
  if s.getF Reg.TIM.DPLL_STAT.STATE ≠ 2 then s
  else
    let s1 := s.bumpSat Reg.TIM.LOCKED_TIME.SECS
    let s2 := if s1.flag Reg.TIM.DPLL_STAT.SWITCHING then s1
      else s1.modTim fun v => { v with history := (ppt :: v.history).take 3615 }
    if max 300 (s2.hoAvg + s2.getF Reg.TIM.HO_CFG.HO_GUARD) ≤ s2.getF Reg.TIM.LOCKED_TIME.SECS then
      s2.hoEstimate.setFlag Reg.TIM.DPLL_STAT.HIST_VALID true
    else s2

/-- HISTORY_RECORD. -/
def execHistoryRecord (ppt : Int) (s : State) : Result := s.to (doHistoryRecord ppt s.chip)

/-- HIST_CLR (R271). -/
def doHistClr (s : Chip) : Chip :=
  let s1 := (s.setFlag Reg.TIM.DPLL_STAT.HIST_VALID false).modTim fun v => { v with history := [] }
  (if s.getF Reg.TIM.DPLL_STAT.STATE = 3 then s1.freeRun 1 else s1).timSettle

/-- HIST_CLR. -/
def execHistClr (s : State) : Result := s.to (doHistClr s.chip)

/-- DCO_SLEW_STEP (R272, R275): a millisecond ends: DCO_NOW moves toward its target, and the output offset is reported: `fofs` while a
reference is tracked, HO_EST in holdover, DCO_NOW under the DCO, else 0. -/
def doDcoSlewStep (fofs : Int) (s : Chip) : Chip :=
  let slew := s.getF Reg.TIM.DCO_SLEW.SLEW
  let now := s.getS Reg.TIM.DCO_NOW.NOW
  let gap := sgn 32 (s.actF Reg.TIM.DCO_FREQ.TARGET) - now
  let move := if slew = 0 then gap else if gap < 0 then max gap (-(slew : Int)) else min gap slew
  let s1 := if s.selMode = 4 then s.setDco (now + move) else s
  let st := s1.getF Reg.TIM.DPLL_STAT.STATE
  let out := if s1.selMode = 4 then s1.getS Reg.TIM.DCO_NOW.NOW
    else if st = 0 then 0 else if st = 3 ∨ st = 4 then s1.getS Reg.TIM.HO_EST.EST else fofs
  s1.setS Reg.TIM.DPLL_FOFS.FOFS out

/-- DCO_SLEW_STEP. -/
def execDcoSlewStep (fofs : Int) (s : State) : Result := s.to (doDcoSlewStep fofs s.chip)

/-- DCO_FREQ_WRITE (R272): with AUTO_COMMIT = 1 the write commits group 6 in the same clock. -/
def doDcoFreqWrite (v : Word) (s : Chip) : Chip :=
  let s1 := s.wr Reg.TIM.DCO_FREQ.addr v
  if s1.flag Reg.TIM.DCO_CTRL.AUTO_COMMIT then
    { s1 with actRegs := Store.set RegMap.reset s1.actRegs Reg.TIM.DCO_FREQ.addr v }.dcoCommitted
  else s1

/-- DCO_FREQ_WRITE. -/
def execDcoFreqWrite (v : Word) (s : State) : Result := s.to (doDcoFreqWrite v s.chip)

/-- REFOUT_CHANGE (R274): at a Wellspring second the source and frequency of an output take effect. -/
def doRefoutChange (o : Fin 2) (s : Chip) : Chip :=
  let src := s.getF (Reg.TIM.REFOUT_CFG.SRC o.val)
  let khz := min 800000 (max 8 (s.getF (Reg.TIM.REFOUT_FREQ.KHZ o.val)))
  s.modTim fun v => { v with refout := Tab.put (0, 10000) v.refout o.val (if 8 < src then 0 else src, khz) }

/-- REFOUT_CHANGE. -/
def execRefoutChange (o : Fin 2) (s : State) : Result := s.to (doRefoutChange o s.chip)

end Sys2Proof.Machine
end

