-- ==== Sys2Proof/Machine/Txd.lean ====
section
/-! DEFINITION. The meanings of the commands of the transmit line: enable and mute, ramps, reconfiguration, the spectral mask, clipping, the
converter PLL, the shared frame generator and the subcarriers' transmit side (R36 to R39, R55, R56, R58 to R64, R69, R146, R151, R153). -/

namespace Sys2Proof.Machine

/-- TX_EN_SET (R60). -/
def doTxEnSet (c : Carrier) (s : Chip) : Chip := (s.setFlag (Reg.TXD.CTRL.TX_EN c) true).txEval c

/-- TX_EN_SET. -/
def execTxEnSet (c : Carrier) (s : State) : Result := s.to (doTxEnSet c s.chip)

/-- TX_EN_CLEAR (R60). -/
def doTxEnClear (c : Carrier) (s : Chip) : Chip :=
  let s1 := s.setFlag (Reg.TXD.CTRL.TX_EN c) false
  if s.flag (Reg.TXD.CTRL.TX_EN c) then s1.txEnFalls c else s1

/-- TX_EN_CLEAR. -/
def execTxEnClear (c : Carrier) (s : State) : Result := s.to (doTxEnClear c s.chip)

/-- MUTE_SET (R60). -/
def doMuteSet (c : Carrier) (s : Chip) : Chip := (s.setFlag (Reg.TXD.CTRL.MUTE c) true).txEval c

/-- MUTE_SET. -/
def execMuteSet (c : Carrier) (s : State) : Result := s.to (doMuteSet c s.chip)

/-- MUTE_CLEAR (R60). -/
def doMuteClear (c : Carrier) (s : Chip) : Chip := (s.setFlag (Reg.TXD.CTRL.MUTE c) false).txEval c

/-- MUTE_CLEAR. -/
def execMuteClear (c : Carrier) (s : State) : Result := s.to (doMuteClear c s.chip)

/-- RECONF_RAMP_WRITE (R64). -/
def doReconfRampWrite (c : Carrier) (v : Bool) (s : Chip) : Chip := s.setFlag (Reg.TXD.CTRL.RECONF_RAMP c) v

/-- RECONF_RAMP_WRITE. -/
def execReconfRampWrite (c : Carrier) (v : Bool) (s : State) : Result := s.to (doReconfRampWrite c v s.chip)

/-- RAMP_UP_DONE (R60): full scale is reached; the state stands still without the converter PLL (R69). -/
def doRampUpDone (c : Carrier) (s : Chip) : Chip :=
  if s.txState c = 1 ∧ (s.txd.get c).pllLol = false then
    (s.setF (Reg.TXD.LINE_STAT.STATE c) 2).raise (Ev.TXD.RAMP_DONE c)
  else s

/-- RAMP_UP_DONE. -/
def execRampUpDone (c : Carrier) (s : State) : Result := s.to (doRampUpDone c s.chip)

/-- RAMP_DOWN_DONE (R60): the floor is reached: OFF with TX_EN = 0; with TX_EN = 1 a pending configuration is applied and the ramp up
starts. -/
def doRampDownDone (c : Carrier) (s : Chip) : Chip :=
  if s.txState c ≠ 3 ∨ (s.txd.get c).pllLol = true then s
  else if s.flag (Reg.TXD.CTRL.TX_EN c) then s.enterRampUp c 300
  else (s.setF (Reg.TXD.LINE_STAT.STATE c) 0).raise (Ev.TXD.RAMP_DONE c)

/-- RAMP_DOWN_DONE. -/
def execRampDownDone (c : Carrier) (s : State) : Result := s.to (doRampDownDone c s.chip)

/-- RECONF_APPLY (R61): in ON or RAMP_UP the pending configuration is applied at the start of the next training block; the ramp goes
on. -/
def doReconfApply (c : Carrier) (s : Chip) : Chip :=
  if s.flag (Reg.TXD.LINE_STAT.RECONF_PEND c) ∧ (s.txState c = 1 ∨ s.txState c = 2) then s.lineApply c else s

/-- RECONF_APPLY. -/
def execReconfApply (c : Carrier) (s : State) : Result := s.to (doReconfApply c s.chip)

/-- The active entries of the mask (R55, R68): offsets in 1/16 GHz and limits in 0.1 dB. -/
def Chip.maskTable (s : Chip) (c : Carrier) : List (Nat × Int) :=
  (List.range (s.getF (Reg.TXD.MASK_CFG.ENTRIES c) + 1)).map fun k =>
    (s.getF (Reg.TXD.MASK.OFFSET c k), s.getS (Reg.TXD.MASK.LIMIT c k))

/-- Whether offsets rise strictly (R56). -/
def maskRises : List (Nat × Int) → Bool
  | a :: b :: l => decide (a.1 < b.1) && maskRises (b :: l)
  | _ => true

/-- The segment of an offset given in 1/128 GHz (that is, 9 × bin), and the limit there as a fraction num / den of 0.1 dB (R55): none below
the first entry. -/
def maskLimit (x : Nat) : Nat → List (Nat × Int) → Option (Nat × Int × Nat)
  | k, [a] => if 8 * a.1 ≤ x then some (k, a.2, 1) else none
  | k, a :: b :: l =>
    if x < 8 * a.1 then none
    else if x < 8 * b.1 then
      let den := 8 * (b.1 - a.1)
      some (k, a.2 * (den : Int) + (b.2 - a.2) * ((x - 8 * a.1 : Nat) : Int), den)
    else maskLimit x (k + 1) (b :: l)
  | _, [] => none

/-- The smallest margin of the checked bins with its segment (R55): the limit less the level. A bin's distance from the carrier counts in
units of 70.3125 MHz, which is 9/8 of 1/16 GHz. -/
def worstMargin (table : List (Nat × Int)) (spectrum : List (Nat × Int)) : Option (Nat × Int × Nat) :=
  spectrum.foldl (fun best p =>
    match maskLimit (9 * p.1) 0 table with
    | none => best
    | some (k, num, den) =>
      let m := num - p.2 * (den : Int)
      match best with
      | none => some (k, m, den)
      | some (_, bn, bd) => if m * (bd : Int) < bn * (den : Int) then some (k, m, den) else best) none

/-- MASK_CHECK (R55, R56): the worst margin of an averaged spectrum, or BAD_TABLE; a negative margin raises MASK_VIOL and with ACTION = 1
sets MUTE. -/
def doMaskCheck (c : Carrier) (spectrum : List (Nat × Int)) (s : Chip) : Chip :=
  let st := s.txState c
  if s.flag (Reg.TXD.MASK_CFG.EN c) = false ∨ st = 0 ∨ st = 4 then s
  else
    let table := s.maskTable c
    if maskRises table = false then s.setFlag (Reg.TXD.MASK_STAT.BAD_TABLE c) true
    else
      let s0 := s.setFlag (Reg.TXD.MASK_STAT.BAD_TABLE c) false
      match worstMargin table spectrum with
      | none => s0
      | some (k, num, den) =>
        let r := s0.roundFree num den
        let s1 := (r.2.setS (Reg.TXD.MASK_STAT.WORST_MARGIN c) r.1).setF (Reg.TXD.MASK_STAT.WORST_ENTRY c) k
        if num < 0 then
          let s2 := s1.raise (Ev.TXD.MASK_VIOL c)
          if s2.flag (Reg.TXD.MASK_CFG.ACTION c) then (s2.setFlag (Reg.TXD.CTRL.MUTE c) true).txEval c else s2
        else s1

/-- MASK_CHECK. -/
def execMaskCheck (c : Carrier) (spectrum : List (Nat × Int)) (s : State) : Result := s.to (doMaskCheck c spectrum s.chip)

/-- DAC_CLIP_WINDOW (R58). -/
def doDacClipWindow (c : Carrier) (clipped : Nat) (s : Chip) : Chip :=
  let s1 := (s.addPair (Reg.TXD.CLIP_CNT_LO.addr c) clipped).evc (c.evcSrc 45) clipped
  s1.raiseIf (decide (s.getF (Reg.TXD.CLIP_THR.THR c) < clipped)) (Ev.TXD.DAC_CLIP c)

/-- DAC_CLIP_WINDOW. -/
def execDacClipWindow (c : Carrier) (clipped : Nat) (s : State) : Result := s.to (doDacClipWindow c clipped s.chip)

/-- DAC_PLL_LOL (R69, R72, R102): the transmitter stands still, and every receiver of the carrier has lost its signal from this clock. -/
def doDacPllLol (c : Carrier) (s : Chip) : Chip :=
  let s1 := (s.modTxd c fun v => if v.pllLol then v else { v with pllLol := true, lolAt := s.now }).assert (Ev.TXD.DAC_PLL_LOL c)
  (s1.receivers c).foldl (fun u r => if (u.rcvOf r).los then u.rcvEnd r else (u.declareLos r).rcvEnd r) s1

/-- DAC_PLL_LOL. -/
def execDacPllLol (c : Carrier) (s : State) : Result := s.to (doDacPllLol c s.chip)

/-- DAC_PLL_RELOCK (R69): the state machine resumes, a ramp from where it stood. -/
def doDacPllRelock (c : Carrier) (s : Chip) : Chip :=
  let s1 := (s.modTxd c fun v => if v.pllLol then { v with pllLol := false, rampAt := v.rampAt + (s.now - v.lolAt) } else v).setLive
    (Ev.TXD.DAC_PLL_LOL c) false
  (s1.txEval c).settle

/-- DAC_PLL_RELOCK. -/
def execDacPllRelock (c : Carrier) (s : State) : Result := s.to (doDacPllRelock c s.chip)

/-- CARRIER_JOIN (R38, R39): a carrier in ON or RAMP_UP without a pending reconfiguration joins, or returns to its own generator. -/
def doCarrierJoin (c : Carrier) (s : Chip) : Chip :=
  let v := s.txd.get c
  let s1 := if v.leavePend then (s.modTxd c fun w => { w with joined := false, leavePend := false }).restartGenerator c s.now else s
  if v.joinPend ∧ (s.txState c = 1 ∨ s.txState c = 2) ∧ s.flag (Reg.TXD.LINE_STAT.RECONF_PEND c) = false then s1.join c else s1

/-- CARRIER_JOIN. -/
def execCarrierJoin (c : Carrier) (s : State) : Result := s.to (doCarrierJoin c s.chip)

/-- PHASE_OK (R37, R39): once both carriers have joined the shared generator. -/
def doPhaseOk (s : Chip) : Chip :=
  if s.getF Reg.TOP.CARRIER_STAT.MODE_ACTIVE ≠ 0 ∧ s.bothJoined = true then s.setFlag Reg.TOP.CARRIER_STAT.PHASE_OK true else s

/-- PHASE_OK. -/
def execPhaseOk (s : State) : Result := s.to (doPhaseOk s.chip)

/-- SC_EN_APPLY (R145, R146): committed masks take effect at a training period boundary; the subcarriers that stay are not disturbed. -/
def doScEnApply (c : Carrier) (s : Chip) : Chip :=
  if (s.subc.get c).enPend = false then s
  else
    let old := s.receivers c
    let s1 := (s.showMasks c).receiversChanged c old false
    ((s1.grpSettle c true).flRecompute c).settle

/-- SC_EN_APPLY. -/
def execScEnApply (c : Carrier) (s : State) : Result := s.to (doScEnApply c s.chip)

/-- A subcarrier's transmit state. -/
def Chip.scTxOf (s : Chip) (c : Carrier) (q : Nat) : ScTx := Tab.get {} (s.subc.get c).tx q

/-- A subcarrier's transmit state replaced. -/
def Chip.setScTx (s : Chip) (c : Carrier) (q : Nat) (v : ScTx) : Chip :=
  let w := s.subc.get c
  s.setSubc c { w with tx := Tab.put {} w.tx q v }

/-- The attenuation of a subcarrier's own ramp now (R151). -/
def Chip.scAtten (s : Chip) (c : Carrier) (q : Nat) : Nat :=
  let v := s.scTxOf c q
  rampLevel (!v.down) v.mode v.time v.from_ (s.now - v.at_) (Config.freeNat s.freeIx)

/-- UPSTREAM_SLEEP (R151): a leaf's subcarrier ramps down from where it is, with the carrier's profile; its generator stops at the floor. -/
def doUpstreamSleep (c : Carrier) (q : Fin 16) (s : Chip) : Chip :=
  let s1 := s.setBit (Reg.SUBC.SLEEP.MASK c) q.val
  let v := s.scTxOf c q.val
  if s.bitOf (Reg.SUBC.SLEEP.MASK c) q.val ∨ v.down then s1
  else
    let k := s.rampCfg c
    s1.setScTx c q.val { down := true, from_ := if v.time = 0 then 0 else s.scAtten c q.val, at_ := s.now, mode := k.1, time := k.2 }

/-- UPSTREAM_SLEEP. -/
def execUpstreamSleep (c : Carrier) (q : Fin 16) (s : State) : Result := s.to (doUpstreamSleep c q s.chip)

/-- UPSTREAM_WAKE (R151, R153): during the ramp down it reverses and the generator has not stopped; from the floor the generator and the
chain restart at the next training period boundary and the ramp up follows. -/
def doUpstreamWake (c : Carrier) (q : Fin 16) (s : Chip) : Chip :=
  let s1 := s.clrBit (Reg.SUBC.SLEEP.MASK c) q.val
  let v := s.scTxOf c q.val
  if v.down then
    let k := s.rampCfg c
    let a := s.scAtten c q.val
    s1.setScTx c q.val { down := false, from_ := a, at_ := s.now, mode := k.1, time := k.2, restart := decide (300 ≤ a) }
  else s1

/-- UPSTREAM_WAKE. -/
def execUpstreamWake (c : Carrier) (q : Fin 16) (s : State) : Result := s.to (doUpstreamWake c q s.chip)

end Sys2Proof.Machine
end

