-- ==== Sys2Proof/Machine/ClkOps.lean ====
section
/-! DEFINITION. Clock roots, the clock monitor's trip and island gating as several steps share them (R23, R24, R456 to R465). -/

namespace Sys2Proof.Machine

/-- What a move of the timing root brings (R457): the history is cleared, and on ROSC every slot is disqualified. -/
def Chip.timeRootMoved (s : Chip) : Chip :=
  let s1 := s.setFlag Reg.TIM.DPLL_STAT.HIST_VALID false
  if s1.flag Reg.CLK.CLK_STAT.TIME_ROOT then ((List.range 8).foldl (fun u r => u.disqualify r 4) s1).timSettle else s1.timSettle

/-- A root change starts (R457): the roots' reference inputs move, and relock is in progress. -/
def Chip.moveRoots (s : Chip) (mgmt time : Bool) : Chip :=
  let moved := s.flag Reg.CLK.CLK_STAT.TIME_ROOT != time
  let s1 := (s.setFlag Reg.CLK.CLK_STAT.MGMT_ROOT mgmt).setFlag Reg.CLK.CLK_STAT.TIME_ROOT time
  let s2 := (s1.setF Reg.CLK.SW_STAT.RESULT 3).modClk fun v => { v with moving := some (mgmt.toNat, time.toNat) }
  if moved then s2.timeRootMoved else s2

/-- An island is gated (R464, step 4): sessions on its units end (R493). -/
def Chip.gateNow (s : Chip) (i : Nat) : Chip :=
  let s1 := s.setBit Reg.CLK.GATE_STAT.GATED i
  let cut := fun (u : Chip) (c : Carrier) => [0, 1, 2].foldl (fun w g => w.abandonSession c g) u
  if i = 0 then cut s1 .A else if i = 1 then cut s1 .B else s1

/-- The gateable islands that run from a root that is XTAL (R456): SEC and MON, DPA, DPB and CLI. -/
def Chip.xtalIslands (s : Chip) : List Nat :=
  (if s.flag Reg.CLK.CLK_STAT.MGMT_ROOT then [] else [3, 5]) ++ (if s.flag Reg.CLK.CLK_STAT.TIME_ROOT then [] else [0, 1, 2])

/-- A trip of the clock monitor (R459, R462). -/
def Chip.clkTrip (s : Chip) : Chip :=
  let s1 := (s.raiseNM Ev.CLK.CLK_FAIL).setFlag Reg.CLK.CLK_STAT.XTAL_READY false
  let s2 := (s1.modClk fun v => { v with learnLeft := 0 }).timSettle
  let roots := s2.flag Reg.CLK.CLK_STAT.MGMT_ROOT && s2.flag Reg.CLK.CLK_STAT.TIME_ROOT
  if s2.flag Reg.CLK.CLK_STAT.ROSC_READY then (if roots then s2 else s2.moveRoots true true)
  else if roots then s2
  else
    let fresh := s2.xtalIslands.filter fun i => !s2.bitOf Reg.CLK.GATE_STAT.GATED i
    let s3 := fresh.foldl Chip.gateNow ((s2.setF Reg.CLK.SW_STAT.RESULT 1).raise Ev.CLK.SW_REFUSED)
    s3.modClk fun v => { v with failWait := true, failGated := v.failGated ||| fresh.foldl (fun m i => m + 2 ^ i) 0 }

/-- The islands that the failover gated run again, those of a mask (R462). -/
def Chip.failUngate (s : Chip) (mask : Nat) : Chip :=
  let todo := s.clk.failGated &&& mask
  if s.clk.failWait || todo == 0 then s
  else
    let s1 := (List.range 6).foldl (fun u i => if todo.testBit i then u.clrBit Reg.CLK.GATE_STAT.GATED i else u) s
    (s1.modClk fun v => { v with failGated := v.failGated - todo }).settle

/-- The action bits of a ripple slot whose action points lie in an island (R297, R541). -/
def Chip.ripHolds (s : Chip) (k i : Nat) : Bool :=
  let act := s.getF (Reg.WST.RIP_ACT.ACT k)
  let groups := s.getF (Reg.WST.RIP_GROUPS.GROUPS k)
  let has := act.testBit
  match i with
  | 0 => (has 0 && groups.testBit 2) || has 1 || has 3 || has 5
  | 1 => (has 0 && groups.testBit 3) || has 2 || has 3 || has 5
  | 2 => (has 0 && groups &&& 0x130 != 0) || has 4
  | _ => false

/-- Whether an island is in use (R464, cause 3). -/
def Chip.islInUse (s : Chip) (i : Nat) : Bool :=
  let car := fun (c : Carrier) =>
    s.txState c != 0 || s.flag (Reg.ACQ.ACQ_CTRL.ACQ_EN c) || s.getF Reg.TOP.CARRIER_STAT.MODE_ACTIVE != 0
  match i with
  | 0 => car .A
  | 1 => car .B
  | 2 => (List.range 16).any fun l => s.flag (Reg.LANE.LANE_CFG.LANE_EN l) || s.actFlag (Reg.PORT.PORT_CFG.EN l)
  | 5 => s.flag Reg.MON.MON_CTRL.EN &&
      s.monPass.any fun c => s.bitOf (Reg.MON.LIM_CFG.ACTION c) 1 || s.bitOf (Reg.MON.LIM_CFG.ACTION c) 2
  | _ => false

/-- The cause that refuses a gate request of a master at step 1 (R464), 0 for none. -/
def Chip.gateCause (s : Chip) (m i : Nat) : Nat :=
  if (List.range 64).any fun k => s.ripArmed k && s.ripHolds k i then 1
  else if i = 2 ∧ s.pgsOn ≠ [] then 2
  else if s.islInUse i then 3
  else if (i = 4 ∧ m = 4) ∨ (i = 3 ∧ m = 6) then 4
  else if s.getF Reg.CLK.GATE_STAT.PENDING ≠ 0 ∨ s.clk.ungate ≠ 0 then 7
  else 0

/-- A gate request is refused (R464): the request bit and PENDING clear, cause and island are recorded. -/
def Chip.gateRefuse (s : Chip) (i cause : Nat) : Chip :=
  let s1 := (s.clrBit Reg.CLK.GATE_CTRL.GATE i).clrBit Reg.CLK.GATE_STAT.PENDING i
  ((s1.setF Reg.CLK.GATE_STAT.CAUSE cause).setF Reg.CLK.GATE_STAT.REF_ISL i).raise Ev.CLK.GATE_REFUSED

/-- A gate request has been carried out (R464). -/
def Chip.gateClose (s : Chip) (i : Nat) : Chip :=
  (((s.gateNow i).clrBit Reg.CLK.GATE_STAT.PENDING i).raise Ev.CLK.GATE_DONE).settle

/-- Whether every bridge of an island is quiescent (R23, R24, R464). -/
def Chip.bridgesQuiet (s : Chip) (i : Nat) : Bool :=
  (List.range 16).all fun b => !bridgeOf b i || s.bitOf Reg.CLK.BRG_QUIET.QUIET b

/-- A bridge carries a transfer: it is not quiescent (R24). -/
def Chip.bridgeUsed (s : Chip) (b : Nat) : Chip := s.clrBit Reg.CLK.BRG_QUIET.QUIET b

end Sys2Proof.Machine
end

