-- ==== Sys2Proof/Machine/Figures.lean ====
section
/-! DEFINITION. Square roots, logarithms and field widths for the reported figures (R93): exact integer arithmetic, with the
rounding that the spec does not state left free between the two neighbours. -/

namespace Sys2Proof.Machine

/-- The largest k below 2^fuel with p k, found bit by bit; p must hold of every number up to that k. -/
def bisect (p : Nat → Bool) : Nat → Nat → Nat
  | 0, acc => acc
  | fuel + 1, acc => if p (acc + 2 ^ fuel) then bisect p fuel (acc + 2 ^ fuel) else bisect p fuel acc

/-- The whole part of the square root of num / den. -/
def rootFloor (num den : Nat) : Nat := bisect (fun k => decide (k * k * den ≤ num)) 40 0

/-- The whole part of 1000 × log10(p / q), for p and q above 0: a level in 0.01 dB. -/
def centibelFloor (p q : Nat) : Int :=
  (bisect (fun k => decide (10 ^ k * q ^ 1000 ≤ p ^ 1000 * 10 ^ 32768)) 17 0 : Int) - 32768

/-- A number as a field of a width holds it; the spec states no value for one that does not fit. -/
def Chip.fit (s : Chip) (width v : Nat) : Nat × Chip := if v < 2 ^ width then (v, s) else s.free

/-- A signed number as a field of a width holds it; the spec states no value for one that does not fit. -/
def Chip.fitS (s : Chip) (width : Nat) (i : Int) : Nat × Chip :=
  if -(2 ^ (width - 1) : Nat) ≤ i ∧ i < (2 ^ (width - 1) : Nat) then (unsgn width i, s) else s.free

/-- EVM in 0.01 % (R93): 10^4 × √(perr / pref); free where there is no reference power. -/
def Chip.evm (s : Chip) (prefPow perr : Nat) : Nat × Chip :=
  if prefPow = 0 then s.free
  else
    let k := rootFloor (10 ^ 8 * perr) prefPow
    if k * k * prefPow = 10 ^ 8 * perr then s.fit 16 k
    else s.free.2.fit 16 (k + s.free.1 % 2)

/-- SNR in 0.01 dB (R93): 1000 × log10(pref / perr); free where a power is 0. -/
def Chip.snr (s : Chip) (prefPow perr : Nat) : Nat × Chip :=
  if prefPow = 0 ∨ perr = 0 then s.free
  else if prefPow = perr then (0, s)
  else
    let k := centibelFloor prefPow perr
    s.free.2.fitS 16 (k + (s.free.1 % 2 : Nat))

end Sys2Proof.Machine
end

