-- ==== Sys2Proof/Machine/Clk.lean ====
section
/-! DEFINITION. The meanings of the commands of clocks, gating, resets and power states (R454 to R471, R514, R519). -/

namespace Sys2Proof.Machine

/-- PORESET_ASSERT (R466, R521): PORESET_N goes low, or VDD_AON rises. -/
def doPoresetAssert (vdd : Bool) (s : Chip) : Chip :=
  let s1 := s.powerReset
  if vdd then s1.modClk fun v => { v with aonLow := false }
  else (s1.setFlag Reg.CLK.RST_CAUSE.PIN true).modClk fun v => { v with poreset := true }

/-- PORESET_ASSERT. -/
def execPoresetAssert (vdd : Bool) (s : State) : Result := s.to (doPoresetAssert vdd s.chip)

/-- PORESET_RELEASE (R371, R382): the whole sequence starts from step 1. -/
def doPoresetRelease (s : Chip) : Chip :=
  if s.clk.poreset then (s.modClk fun v => { v with poreset := false }).modBoot fun b => { b with released := s.now } else s

/-- PORESET_RELEASE. -/
def execPoresetRelease (s : State) : Result := s.to (doPoresetRelease s.chip)

/-- VDD_AON_LOW (R519): AON holds itself in reset. -/
def doVddAonLow (s : Chip) : Chip := s.powerReset.modClk fun v => { v with aonLow := true }

/-- VDD_AON_LOW. -/
def execVddAonLow (s : State) : Result := s.to (doVddAonLow s.chip)

/-- The exit from deep sleep goes on once ROSC is ready (R471): STATE is WAKING, a system reset, R371 from step 3. -/
def Chip.wakeOn (s : Chip) : Chip :=
  if s.getF Reg.CLK.PWR_STAT.STATE = 1 ∧ s.clk.asleep = false then
    let s1 := (s.setF Reg.CLK.PWR_STAT.STATE 2).systemReset Reg.CLK.RST_CAUSE.SLEEP_EXIT
    let s2 := s1.setF Reg.BOOT.BOOT_STAT.PHASE 1
    if s2.boot.area = 0 then s2.bootHalt else s2
  else s

/-- ROSC_READY (R455, R462, R471). -/
def doRoscReady (s : Chip) : Chip :=
  if s.flag Reg.CLK.CLK_STAT.ROSC_READY = true ∨ s.clk.asleep = true ∨ s.clk.aonLow = true then s
  else
    let s1 := s.setFlag Reg.CLK.CLK_STAT.ROSC_READY true
    let s2 := if s1.clk.failWait then (s1.modClk fun v => { v with failWait := false }).moveRoots true true else s1
    s2.wakeOn.bootAdvance

/-- ROSC_READY. -/
def execRoscReady (s : State) : Result := s.to (doRoscReady s.chip)

/-- XTAL_READY (R455, R458): the monitor learns REF_CNT over the next 16 windows. -/
def doXtalReady (s : Chip) : Chip :=
  if s.flag Reg.CLK.CLK_STAT.XTAL_READY then s
  else
    let s1 := (s.setFlag Reg.CLK.CLK_STAT.XTAL_READY true).raise Ev.CLK.XTAL_READY
    (s1.modClk fun v => { v with learnLeft := 16, learnX := 0, learnS := 0, ratioX := 0 }).bootAdvance

/-- XTAL_READY. -/
def execXtalReady (s : State) : Result := s.to (doXtalReady s.chip)

/-- REFCLK_READY (R455): the flag of SDREFCLK or of PCIE_REFCLK sets or clears. -/
def doRefclkReady (pcie on : Bool) (s : Chip) : Chip :=
  s.setFlag (if pcie then Reg.CLK.CLK_STAT.PCIEREF_READY else Reg.CLK.CLK_STAT.SDREF_READY) on

/-- REFCLK_READY. -/
def execRefclkReady (pcie on : Bool) (s : State) : Result := s.to (doRefclkReady pcie on s.chip)

/-- PLL_LOCK (R371, R455, R462). -/
def doPllLock (sys : Bool) (s : Chip) : Chip :=
  let s1 := s.setFlag (if sys then Reg.CLK.CLK_STAT.SPLL_LOCK else Reg.CLK.CLK_STAT.MPLL_LOCK) true
  (s1.failUngate (if sys then 7 else 40)).bootAdvance

/-- PLL_LOCK. -/
def execPllLock (sys : Bool) (s : State) : Result := s.to (doPllLock sys s.chip)

/-- PLL_LOL (R474): outside a root change. -/
def doPllLol (sys : Bool) (s : Chip) : Chip :=
  if s.clk.moving.isSome then s
  else (s.setFlag (if sys then Reg.CLK.CLK_STAT.SPLL_LOCK else Reg.CLK.CLK_STAT.MPLL_LOCK) false).raise Ev.CLK.PLL_LOL

/-- PLL_LOL. -/
def execPllLol (sys : Bool) (s : State) : Result := s.to (doPllLol sys s.chip)

/-- ROOT_CFG_WRITE (R457): refused BUSY before NOT_READY. -/
def doRootCfgWrite (w : Word) (s : Chip) : Chip :=
  let mgmt := w.bit 0
  let time := w.bit 1
  let notReady := fun (root : Fld) (to_ : Bool) =>
    s.flag root != to_ && !s.flag (if to_ then Reg.CLK.CLK_STAT.ROSC_READY else Reg.CLK.CLK_STAT.XTAL_READY)
  let refuse := fun (code : Nat) => (s.setF Reg.CLK.SW_STAT.RESULT code).raise Ev.CLK.SW_REFUSED
  if s.clk.moving.isSome then refuse 2
  else if notReady Reg.CLK.CLK_STAT.MGMT_ROOT mgmt || notReady Reg.CLK.CLK_STAT.TIME_ROOT time then refuse 1
  else
    let s1 := (s.setFlag Reg.CLK.ROOT_CFG.MGMT_ROOT mgmt).setFlag Reg.CLK.ROOT_CFG.TIME_ROOT time
    if s.flag Reg.CLK.CLK_STAT.MGMT_ROOT = mgmt ∧ s.flag Reg.CLK.CLK_STAT.TIME_ROOT = time then s1 else s1.moveRoots mgmt time

/-- ROOT_CFG_WRITE. -/
def execRootCfgWrite (w : Word) (s : State) : Result := s.to (doRootCfgWrite w s.chip)

/-- SW_DONE (R457, R462). -/
def doSwDone (s : Chip) : Chip :=
  if s.clk.moving.isNone then s
  else
    let s1 := ((s.setF Reg.CLK.SW_STAT.RESULT 0).modClk fun v => { v with moving := none }).raise Ev.CLK.SW_DONE
    (s1.failUngate 0x3F).bootAdvance

/-- SW_DONE. -/
def execSwDone (s : State) : Result := s.to (doSwDone s.chip)

/-- XTAL_ACTIVITY_TRIP (R458, R459, R462); in deep sleep with DS_XTAL = 0 the crystal is stopped on purpose (R470). -/
def doXtalActivityTrip (s : Chip) : Chip :=
  if s.clk.asleep = true ∧ s.flag Reg.CLK.PWR_CTRL.DS_XTAL = false then s else s.clkTrip

/-- XTAL_ACTIVITY_TRIP. -/
def execXtalActivityTrip (s : State) : Result := s.to (doXtalActivityTrip s.chip)

/-- A window while the monitor learns (R458, R460): after the sixteenth REF_CNT and the ratio are known, and the cause of CLK_FAIL is over. -/
def Chip.monLearn (s : Chip) (x sd : Nat) : Chip :=
  let v := s.clk
  let withSd := s.flag Reg.CLK.CLK_STAT.SDREF_READY
  let total := v.learnX + x
  let v1 := { v with learnLeft := v.learnLeft - 1, learnX := total, learnS := v.learnS + (if withSd then sd else 0)
                     ratioX := v.ratioX + (if withSd then x else 0) }
  if v.learnLeft = 1 then
    let r := ({ s with clk := { v1 with learnX := 0, learnS := 0, ratioS := v1.learnS } }).roundFree total 16
    (r.2.setF Reg.CLK.MON_STAT.REF_CNT r.1.toNat).setLive Ev.CLK.CLK_FAIL false
  else { s with clk := v1 }

/-- A window judged against REF_CNT (R458): out by more than REF_CNT / 50; with SDREFCLK ready, ROSC is at fault unless the count also departs
from the learned ratio by more than 2 %. -/
def Chip.monJudge (s : Chip) (x sd : Nat) : Chip :=
  let ref := s.getF Reg.CLK.MON_STAT.REF_CNT
  let out := decide (ref < 50 * ((x : Int) - ref).natAbs)
  let want := sd * s.clk.ratioX
  let cross := decide (want < 50 * ((x * s.clk.ratioS : Nat) - (want : Int)).natAbs)
  if !out then s
  else if !s.flag Reg.CLK.CLK_STAT.SDREF_READY || s.clk.ratioS == 0 || cross then s.clkTrip
  else (s.raise Ev.CLK.ROSC_BAD).modClk fun v => { v with learnLeft := 16, learnX := 0, learnS := 0, ratioX := 0 }

/-- CLK_MON_WINDOW (R458): the counts of XTAL and SDREFCLK cycles of a window of 100,000 ROSC cycles. -/
def doClkMonWindow (x sd : Nat) (s : Chip) : Chip :=
  if s.flag Reg.CLK.CLK_STAT.ROSC_READY = false then s
  else
    let k := s.fit 16 x
    let s1 := k.2.setF Reg.CLK.MON_STAT.LAST_CNT k.1
    if s1.flag Reg.CLK.CLK_STAT.XTAL_READY = false then s1
    else if s1.clk.learnLeft ≠ 0 then s1.monLearn x sd
    else s1.monJudge x sd

/-- CLK_MON_WINDOW. -/
def execClkMonWindow (x sd : Nat) (s : State) : Result := s.to (doClkMonWindow x sd s.chip)

/-- GATE_REQUEST by a master (R464, R465). -/
def doGateRequest (m : Fin 8) (i : Fin 6) (s : Chip) : Chip :=
  let k := i.val
  if s.bitOf Reg.CLK.GATE_CTRL.GATE k then s
  else if s.bitOf Reg.CLK.GATE_STAT.GATED k && !s.clk.ungate.testBit k then
    (s.setBit Reg.CLK.GATE_CTRL.GATE k).modClk fun v => { v with failGated := v.failGated - (v.failGated &&& 2 ^ k) }
  else
    let cause := s.gateCause m.val k
    if cause ≠ 0 then s.gateRefuse k cause
    else
      let s1 := (s.setBit Reg.CLK.GATE_CTRL.GATE k).setBit Reg.CLK.GATE_STAT.PENDING k
      if s.clk.held.testBit k then s1.gateClose k else s1

/-- GATE_REQUEST. -/
def execGateRequest (m : Fin 8) (i : Fin 6) (s : State) : Result := s.to (doGateRequest m i s.chip)

/-- GATE_CANCEL (R464). -/
def doGateCancel (i : Fin 6) (s : Chip) : Chip :=
  if s.bitOf Reg.CLK.GATE_STAT.PENDING i.val then s.gateRefuse i.val 6 else s

/-- GATE_CANCEL. -/
def execGateCancel (i : Fin 6) (s : State) : Result := s.to (doGateCancel i s.chip)

/-- GATE_DONE (R464): every bridge of the island is quiescent. -/
def doGateDone (i : Fin 6) (s : Chip) : Chip :=
  if s.bitOf Reg.CLK.GATE_STAT.PENDING i.val && s.bridgesQuiet i.val then s.gateClose i.val else s

/-- GATE_DONE. -/
def execGateDone (i : Fin 6) (s : State) : Result := s.to (doGateDone i s.chip)

/-- GATE_TIMEOUT (R464). -/
def doGateTimeout (i : Fin 6) (s : Chip) : Chip :=
  if s.bitOf Reg.CLK.GATE_STAT.PENDING i.val && !s.bridgesQuiet i.val then s.gateRefuse i.val 5 else s

/-- GATE_TIMEOUT. -/
def execGateTimeout (i : Fin 6) (s : State) : Result := s.to (doGateTimeout i s.chip)

/-- UNGATE (R465). -/
def doUngate (i : Fin 6) (s : Chip) : Chip :=
  if s.bitOf Reg.CLK.GATE_CTRL.GATE i.val && s.bitOf Reg.CLK.GATE_STAT.GATED i.val then
    (s.clrBit Reg.CLK.GATE_CTRL.GATE i.val).modClk fun v => { v with ungate := v.ungate ||| 2 ^ i.val }
  else s

/-- UNGATE. -/
def execUngate (i : Fin 6) (s : State) : Result := s.to (doUngate i s.chip)

/-- UNGATE_DONE (R465): the groups go on with what waited for the island. -/
def doUngateDone (i : Fin 6) (s : Chip) : Chip :=
  if s.clk.ungate.testBit i.val then
    let s1 := (s.clrBit Reg.CLK.GATE_STAT.GATED i.val).modClk fun v => { v with ungate := v.ungate - 2 ^ i.val }
    (s1.raise Ev.CLK.GATE_DONE).settle
  else s

/-- UNGATE_DONE. -/
def execUngateDone (i : Fin 6) (s : State) : Result := s.to (doUngateDone i s.chip)

/-- The key of `RST_CTRL` and `PWR_CTRL` (R467, R470). -/
def resetKey : Nat := 0x5EE9

/-- DEVICE_RESET by a master (R467): from master 4 only, with the key. -/
def doDeviceReset (m : Fin 8) (w : Word) (s : Chip) : Chip :=
  if m.val = 4 ∧ w.field 16 16 = resetKey ∧ w.bit 0 = true then s.deviceReset Reg.CLK.RST_CAUSE.HOST else s

/-- DEVICE_RESET. -/
def execDeviceReset (m : Fin 8) (w : Word) (s : State) : Result := s.to (doDeviceReset m w s.chip)

/-- SYSTEM_RESET (R466, R467, R473): with the key; the boot goes on from step 4. -/
def doSystemReset (w : Word) (s : Chip) : Chip :=
  if w.field 16 16 = resetKey ∧ w.bit 1 = true then
    let s1 := (((s.systemReset Reg.CLK.RST_CAUSE.HOST).releaseIsland 6).releaseIsland 4).afterReset
    if s1.boot.area = 0 then s1.bootHalt else s1.setF Reg.BOOT.BOOT_STAT.PHASE 2
  else s

/-- SYSTEM_RESET. -/
def execSystemReset (w : Word) (s : State) : Result := s.to (doSystemReset w s.chip)

/-- ISL_RST_SET (R468): a gate request pending on the island is carried out at once after the reset. -/
def doIslRstSet (i : Fin 6) (s : Chip) : Chip :=
  let k := i.val
  if s.bitOf Reg.CLK.RST_CTRL.ISL_RST k then s
  else
    let s1 := ((s.setBit Reg.CLK.RST_CTRL.ISL_RST k).holdIsland k).afterReset
    if s1.bitOf Reg.CLK.GATE_STAT.PENDING k then s1.gateClose k else s1

/-- ISL_RST_SET. -/
def execIslRstSet (i : Fin 6) (s : State) : Result := s.to (doIslRstSet i s.chip)

/-- ISL_RST_RELEASE (R468): the island leaves reset at its reset values. -/
def doIslRstRelease (i : Fin 6) (s : Chip) : Chip :=
  let k := i.val
  if s.bitOf Reg.CLK.RST_CTRL.ISL_RST k then
    ((s.clrBit Reg.CLK.RST_CTRL.ISL_RST k).resetIsland k).releaseIsland k |>.afterReset
  else s

/-- ISL_RST_RELEASE. -/
def execIslRstRelease (i : Fin 6) (s : State) : Result := s.to (doIslRstRelease i s.chip)

/-- DEEP_SLEEP (R470): ignored below PHASE 5 and without the key; the transmitters ramp down as if TX_EN were cleared. -/
def doDeepSleep (w : Word) (s : Chip) : Chip :=
  if w.field 16 16 ≠ resetKey ∨ w.bit 0 = false ∨ s.getF Reg.BOOT.BOOT_STAT.PHASE < 5 then s
  else
    let s1 := (s.setFlag Reg.CLK.PWR_CTRL.DS_XTAL (w.bit 1)).modClk fun v => { v with sleepDue := true }
    let down := fun (u : Chip) (c : Carrier) => (u.setFlag (Reg.TXD.CTRL.TX_EN c) false).txEnFalls c
    down (down s1 .A) .B

/-- DEEP_SLEEP. -/
def execDeepSleep (w : Word) (s : State) : Result := s.to (doDeepSleep w s.chip)

/-- DEEP_SLEEP_ENTERED (R461, R469, R470): once both transmitters are OFF the islands are gated and held in reset, the PLLs and ROSC stop, and
XTAL with DS_XTAL = 0. -/
def doDeepSleepEntered (s : Chip) : Chip :=
  if s.clk.sleepDue = false ∨ s.txState .A ≠ 0 ∨ s.txState .B ≠ 0 then s
  else
    let s1 := [0, 1, 2, 3, 5, 7, 6, 4].foldl Chip.holdIsland s
    let s2 := (s1.setF Reg.CLK.GATE_STAT.GATED 0x3F).setF Reg.CLK.GATE_STAT.PENDING 0
    let off := [Reg.CLK.CLK_STAT.MPLL_LOCK, Reg.CLK.CLK_STAT.SPLL_LOCK, Reg.CLK.CLK_STAT.ROSC_READY] ++
      (if s2.flag Reg.CLK.PWR_CTRL.DS_XTAL then [] else [Reg.CLK.CLK_STAT.XTAL_READY])
    let s3 := off.foldl (fun u f => u.setFlag f false) s2
    (s3.setF Reg.CLK.PWR_STAT.STATE 1).modClk fun v => { v with sleepDue := false, asleep := true, moving := none, ungate := 0 }

/-- DEEP_SLEEP_ENTERED. -/
def execDeepSleepEntered (s : State) : Result := s.to (doDeepSleepEntered s.chip)

/-- WAKE (R361, R471): levels of the GPIOs, or ZEROIZE_N low, which also erases; ROSC restarts. -/
def doWake (gpio : BitVec 16) (zeroize : Bool) (s : Chip) : Chip :=
  let hit := (List.range 16).foldl (fun m g =>
    if s.bitOf Reg.CLK.WAKE_CFG.MASK g && gpio.getLsbD g == s.bitOf Reg.CLK.WAKE_CFG.POL g then m + 2 ^ g else m) 0
  if s.clk.asleep = false ∨ (hit = 0 ∧ zeroize = false) then s
  else
    let s1 := (s.setF Reg.CLK.WAKE_STAT.GPIO hit).setFlag Reg.CLK.WAKE_STAT.ZEROIZE zeroize
    let s2 := if zeroize then { s1 with sec := { s1.sec with pinLow := true } }.eraseAll else s1
    (s2.modClk fun v => { v with asleep := false }).raise Ev.CLK.WAKE

/-- WAKE. -/
def execWake (gpio : BitVec 16) (zeroize : Bool) (s : State) : Result := s.to (doWake gpio zeroize s.chip)

/-- A VID code moved toward another by at most ten steps, one per 100 µs (R514). -/
def vidToward (v want : Nat) : Nat := if v ≤ want then min want (v + 10) else max want (v - 10)

/-- AVS_UPDATE (R514, R515): the code that the speed monitors ask for, at most 30; with EN = 0 the code moves to FIXED. -/
def doAvsUpdate (want : Fin 31) (s : Chip) : Chip :=
  let goal := if s.flag Reg.CLK.AVS_CFG.EN then want.val else min 30 (s.getF Reg.CLK.AVS_CFG.FIXED)
  s.setF Reg.CLK.AVS_STAT.VID (vidToward (s.getF Reg.CLK.AVS_STAT.VID) goal)

/-- AVS_UPDATE. -/
def execAvsUpdate (want : Fin 31) (s : State) : Result := s.to (doAvsUpdate want s.chip)

/-- JTAG_DEVICE_RESET (R466, R531). -/
def doJtagDeviceReset (s : Chip) : Chip := s.deviceReset Reg.CLK.RST_CAUSE.JTAG

/-- JTAG_DEVICE_RESET. -/
def execJtagDeviceReset (s : State) : Result := s.to (doJtagDeviceReset s.chip)

/-- JTAG_INTSCAN (R366, R531): ZERO_ALL before internal scan is entered. -/
def doJtagIntscan (s : Chip) : Chip := let u := doZeroAll s; { u with top := { u.top with jtag := 1 } }

/-- JTAG_INTSCAN. -/
def execJtagIntscan (s : State) : Result := s.to (doJtagIntscan s.chip)

/-- JTAG_MEMBIST (R366, R531): ZERO_ALL first; what memory BIST leaves in the pools is undefined (R400). -/
def doJtagMembist (s : Chip) : Chip :=
  let u := doZeroAll s
  { u with top := { u.top with jtag := 2 }, pool := { u.pool with words := [], track := [] } }

/-- JTAG_MEMBIST. -/
def execJtagMembist (s : State) : Result := s.to (doJtagMembist s.chip)

end Sys2Proof.Machine
end

