-- ==== Sys2Proof/Machine/Fec.lean ====
section
/-! DEFINITION. The meanings of the commands of the FEC: codeword dispatch, decoding and release over the slice group, codeword lock
and the staircase window (R128 to R138). -/

namespace Sys2Proof.Machine

/-- The receivers' decoder stage of a carrier replaced. -/
def Chip.setFec (s : Chip) (c : Carrier) (v : FecSt) : Chip := { s with fec := s.fec.put c v }

/-- CODEWORD_DISPATCH (R133): the next slice in service after the one dispatched last takes the codeword. -/
def doCodewordDispatch (r : Rcv) (s : Chip) : Chip :=
  let c := r.carrier
  let v := s.fec.get c
  match Grp.nextUnit 1 v.lastSlice (s.grpOf c 1).inService with
  | none => s
  | some k => s.setFec c { flight := v.flight ++ [{ rcv := r, slice := k, at_ := s.now }], lastSlice := k }

/-- CODEWORD_DISPATCH. -/
def execCodewordDispatch (r : Rcv) (s : State) : Result := s.to (doCodewordDispatch r s.chip)

/-- The iteration limit in effect (R130, R139): ITER_MAX between 2 and 12, at most 6 in low-latency mode. -/
def Chip.iterLimit (s : Chip) (c : Carrier) : Nat :=
  let m := s.getF (Reg.FEC.FEC_CFG.ITER_MAX c)
  let m' := if m < 2 then 2 else min m 12
  if s.flag (Reg.RXD.RX_STAT.LOWLAT_ACTIVE c) then min m' 6 else m'

/-- The staircase window W in effect (R130). -/
def Chip.stairWindow (s : Chip) (c : Carrier) : Nat := if s.flag (Reg.RXD.RX_STAT.LOWLAT_ACTIVE c) then 10 else 16

/-- A decoded codeword in the counters of the carrier and of its subcarrier, in the run of failures and in the quality interval
(R128, R129, R140, R165, R447). -/
def Chip.countCodeword (s : Chip) (r : Rcv) (slice iters : Nat) (ok : Bool) (corr : Nat) : Chip :=
  let c := r.carrier
  let fails := if ok then 0 else 1
  let s1 := ((s.addPair (Reg.FEC.LDPC_CW_LO.addr c) 1).addPair (Reg.FEC.LDPC_FAIL_LO.addr c) fails).addPair
    (Reg.FEC.ITER_SUM_LO.addr c) iters
  let s2 := s1.addPair (Reg.FEC.LDPC_CORR_LO.addr c) (if ok then corr else 0)
  let s3 := ((s2.evc (c.evcSrc slice)).evc (c.evcSrc (14 + slice)) iters).evc (c.evcSrc 28) fails
  let s4 := match r with
    | .car _ => s3
    | .sub _ q => (s3.addPair (Reg.SUBC.SC_LDPC_CW_LO.addr c q.val) 1).addPair (Reg.SUBC.SC_LDPC_FAIL_LO.addr c q.val) fails
  s4.modRcv r fun v =>
    { v with failRun := if ok then 0 else v.failRun + 1, iters := v.iters + iters, cws := v.cws + 1 }

/-- DECODE_DONE (R129, R140): a slice stops, and its codeword has a result; every stop counts, that of a re-decode too. -/
def doDecodeDone (c : Carrier) (slice : Fin 14) (iters : Nat) (ok : Bool) (corrected : Nat) (s : Chip) : Chip :=
  let v := s.fec.get c
  match v.flight.find? fun w => decide (w.slice = slice.val) && w.result.isNone && !w.lost with
  | none => s
  | some w =>
    let it := min iters (s.iterLimit c)
    let flight := v.flight.map fun x => if x = w then { x with result := some (it, ok, corrected) } else x
    (s.setFec c { v with flight := flight }).countCodeword w.rcv slice.val it ok corrected

/-- DECODE_DONE. -/
def execDecodeDone (c : Carrier) (slice : Fin 14) (iters : Nat) (ok : Bool) (corrected : Nat) (s : State) : Result :=
  s.to (doDecodeDone c slice iters ok corrected s.chip)

/-- CODEWORD_RELEASE (R138): the oldest codeword leaves the stage once it has a result, or is lost under R136. -/
def doCodewordRelease (c : Carrier) (s : Chip) : Chip :=
  let v := s.fec.get c
  match v.flight with
  | w :: rest => if w.result.isSome || w.lost then s.setFec c { v with flight := rest } else s
  | [] => s

/-- CODEWORD_RELEASE. -/
def execCodewordRelease (c : Carrier) (s : State) : Result := s.to (doCodewordRelease c s.chip)

/-- A codeword in flight on a slice that failed: the slice that takes over decodes it again; without one it is lost (R135, R136). -/
def FecSt.retarget (v : FecSt) (slice : Nat) (to_ : Option Nat) : FecSt :=
  { v with flight := v.flight.map fun w =>
      if w.slice = slice then
        match to_ with
        | some k => { w with slice := k, result := none, redecode := true }
        | none => { w with lost := true }
      else w }

/-- SLICE_FAULT (R135, R136): each slice in service that fails is fenced, the lowest-numbered first; the reserve takes its place and its
codeword, and a failure without a reserve raises FEC_SF. -/
def doSliceFault (c : Carrier) (slices : List (Fin 14)) (s : Chip) : Chip :=
  let one := fun (t : Chip) (k : Fin 14) =>
    if (t.grpOf c 1).inService k.val then
      let t1 := (t.bumpSat (Reg.FEC.SLICE_STAT.FAULTS c k.val)).raise (Ev.FEC.SLICE_FAULT c)
      let res := (t.grpOf c 1).reserve
      (t1.takeOver c 1 k.val).setFec c ((t1.fec.get c).retarget k.val res)
    else t
  let sorted := (List.finRange 14).filter fun k => slices.contains k
  ((sorted.foldl one s).stepNeed c false).settle

/-- SLICE_FAULT. -/
def execSliceFault (c : Carrier) (slices : List (Fin 14)) (s : State) : Result := s.to (doSliceFault c slices s.chip)

/-- SLICE_TAKEOVER (R135): the re-decoded codeword leaves the slice that took over. -/
def doSliceTakeover (c : Carrier) (s : Chip) : Chip :=
  let v := s.grpOf c 1
  if v.takeover.isSome then (s.setGrp c 1 { v with takeover := none }).raise (Ev.FEC.SLICE_TAKEOVER c) else s

/-- SLICE_TAKEOVER. -/
def execSliceTakeover (c : Carrier) (s : State) : Result := s.to (doSliceTakeover c s.chip)

/-- FEC_SF_CLEAR (R136). -/
def doFecSfClear (c : Carrier) (s : Chip) : Chip := (s.sfRecheck c 1).settle

/-- FEC_SF_CLEAR. -/
def execFecSfClear (c : Carrier) (s : State) : Result := s.to (doFecSfClear c s.chip)

/-- CW_LOCK (R128): in FRAME_ALIGN the lowest candidate phase both of whose codewords decoded is accepted. -/
def doCwLock (r : Rcv) (passed : List Bool) (s : Chip) : Chip :=
  let v := s.rcvOf r
  if v.state ≠ 7 ∨ v.cwLock then s
  else
    match (List.range 5).find? fun k => passed.getD k false with
    | none => s
    | some k => ((s.setRcv r { v with cwPhase := k }).setCwLock r true).settle

/-- CW_LOCK. -/
def execCwLock (r : Rcv) (passed : List Bool) (s : State) : Result := s.to (doCwLock r passed s.chip)

/-- CW_LOCK_LOSS (R128, R132, R105): after 32 failed codewords in a row lock clears, the staircase window is emptied, and ACQUIRED is
left as at a loss of frame. -/
def doCwLockLoss (r : Rcv) (s : Chip) : Chip :=
  let v := s.rcvOf r
  if v.cwLock && decide (32 ≤ v.failRun) then ((s.dropCwLock r).acqFrameLoss r).rcvEnd r else s

/-- CW_LOCK_LOSS. -/
def execCwLockLoss (r : Rcv) (s : State) : Result := s.to (doCwLockLoss r s.chip)

/-- UB_THR in effect (R139): 1 to 64. -/
def Chip.ubThr (s : Chip) (c : Carrier) : Nat := min 64 (max 1 (s.getF (Reg.FEC.UB_CFG.UB_THR c)))

/-- UB after a counted block left (R132): it sets at UB_THR uncorrectable blocks in the last 64, and clears when there is none. -/
def Chip.judgeUb (s : Chip) (r : Rcv) : Chip :=
  let v := s.rcvOf r
  let n := v.last64.countP id
  let ub := decide (s.ubThr r.carrier ≤ n) || (v.ub && decide (0 < n))
  let s1 := s.setRcv r { v with ub := ub }
  match r with
  | .car c => if ub && !v.ub then s1.assert (Ev.FEC.UB c) else s1.setLive (Ev.FEC.UB c) ub
  | .sub _ _ => s1

/-- A counted block in the counters of R140, R165 and R447; an uncorrectable one raises STAIR_UNCORR. -/
def Chip.countStair (s : Chip) (r : Rcv) (corr : Nat) (bad : Bool) : Chip :=
  let c := r.carrier
  let n := bad.toNat
  let s1 := ((s.addPair (Reg.FEC.STAIR_BLK_LO.addr c) 1).addPair (Reg.FEC.STAIR_CORR_LO.addr c) corr).addPair
    (Reg.FEC.STAIR_UNCORR_LO.addr c) n
  let s2 := (s1.evc (c.evcSrc 29)).evc (c.evcSrc 30) n
  let s3 := match r with
    | .car _ => s2
    | .sub _ q => s2.addPair (Reg.SUBC.SC_STAIR_UNCORR_LO.addr c q.val) n
  s3.raiseIf bad (Ev.FEC.STAIR_UNCORR c)

/-- STAIR_BLOCK (R131, R132): a block enters; once W blocks have entered since in-frame, the block that leaves is counted and judged. -/
def doStairBlock (r : Rcv) (corrected : Nat) (uncorrectable : Bool) (s : Chip) : Chip :=
  let v := s.rcvOf r
  let w := s.stairWindow r.carrier
  let s1 := s.setRcv r { v with blocks := v.blocks + 1 }
  if v.blocks + 1 < w then s1
  else
    let s2 := s1.modRcv r fun v => { v with last64 := (uncorrectable :: v.last64).take 64 }
    ((s2.countStair r corrected uncorrectable).judgeUb r).settle

/-- STAIR_BLOCK. -/
def execStairBlock (r : Rcv) (corrected : Nat) (uncorrectable : Bool) (s : State) : Result :=
  s.to (doStairBlock r corrected uncorrectable s.chip)

end Sys2Proof.Machine
end

