-- ==== Sys2Proof/Machine/Evc.lean ====
section
/-! DEFINITION. The meanings of the commands of the event counters and of the sampler (R446, R448 to R451), with the snapshot that a ripple also
takes. -/

namespace Sys2Proof.Machine

/-- A snapshot of all 512 counters at an instant in 2^-16 ns (R448). -/
def Chip.snapshot (s : Chip) (at_ : Nat) : Chip :=
  let s1 := (List.range 512).foldl (fun u k => u.setF (Reg.EVC.EVC_SNAP.COUNT k) (u.getF (Reg.EVC.EVC_CNT.COUNT k))) s
  let sec := at_ / secT16
  let s2 := ((s1.setF Reg.EVC.SNAP_SEC_LO.SEC sec).setF Reg.EVC.SNAP_SEC_HI.SEC (sec / 2 ^ 32)).setF Reg.EVC.SNAP_NS.NS
    (at_ % secT16 / 65536)
  (s2.bump Reg.EVC.SNAP_SEQ.SEQ).raise Ev.EVC.SNAP_DONE

/-- SNAP_NOW (R448): the instant is the arrival of the write. -/
def doSnapNow (s : Chip) : Chip := s.snapshot s.wstNow

/-- SNAP_NOW. -/
def execSnapNow (s : State) : Result := s.to (doSnapNow s.chip)

/-- The counters k+1 to j that follow counter k in its chain (R446). -/
def Chip.chainRest (s : Chip) : Nat → Nat → List Nat
  | 0, _ => []
  | fuel + 1, k => if s.chained k then (k + 1) :: s.chainRest fuel (k + 1) else []

/-- CHAIN_READ (R446): the read of the first counter of a chain latches the rest of the chain into the master's shadows. -/
def doChainRead (m : Fin 8) (k : Fin 512) (s : Chip) : Chip :=
  if 0 < k.val ∧ s.chained (k.val - 1) = true then s
  else
    let put := fun (t : List (Nat × Word)) (j : Nat) =>
      Tab.put 0 t (512 * m.val + j) (BitVec.ofNat 32 (s.getF (Reg.EVC.EVC_CNT.COUNT j)))
    { s with evcs := { s.evcs with chain := (s.chainRest 512 k.val).foldl put s.evcs.chain } }

/-- CHAIN_READ. -/
def execChainRead (m : Fin 8) (k : Fin 512) (s : State) : Result := s.to (doChainRead m k s.chip)

/-- DITHER in effect for a period N (R449, R452): at most 8, and the largest k with 2^k ≤ N. -/
def ditherOf (n k : Nat) : Nat := ((List.range (min k 8 + 1)).filter fun j => decide (2 ^ j ≤ n)).foldl max 0

/-- A sampling interval starts (R449): its length, drawn where DITHER is not 0. -/
def Chip.smpStart (s : Chip) : Chip :=
  let n := max 64 (s.getF Reg.EVC.SMP_PERIOD.N)
  let k := ditherOf n (s.getF Reg.EVC.SMP_CFG.DITHER)
  if k = 0 then { s with evcs := { s.evcs with smpLen := n } }
  else
    let u := s.free.2
    { u with evcs := { u.evcs with smpLen := n - 2 ^ (k - 1) + s.free.1 % (2 ^ k + 1) } }

/-- SMP_CONFIG_WRITE (R449, R452): the write, and a new interval. -/
def doSmpConfigWrite (period : Bool) (v : Word) (s : Chip) : Chip :=
  let a := if period then Reg.EVC.SMP_PERIOD.addr else Reg.EVC.SMP_CFG.addr
  match RegMap.row? a with
  | some r => (s.wr a (r.write (s.rd a) v)).smpStart
  | none => s

/-- SMP_CONFIG_WRITE. -/
def execSmpConfigWrite (period : Bool) (v : Word) (s : State) : Result := s.to (doSmpConfigWrite period v s.chip)

/-- COUNT of SMP_STAT follows the pointers (R451, R452). -/
def Chip.smpShow (s : Chip) : Chip :=
  s.setF Reg.EVC.SMP_STAT.COUNT (s.getF Reg.EVC.SMP_WP.WP + 4096 - s.getF Reg.EVC.SMP_RP.RP)

/-- SMP_RP_WRITE (R451). -/
def doSmpRpWrite (v : Nat) (s : Chip) : Chip := (s.setF Reg.EVC.SMP_RP.RP v).smpShow

/-- SMP_RP_WRITE. -/
def execSmpRpWrite (v : Nat) (s : State) : Result := s.to (doSmpRpWrite v s.chip)

/-- Whether the sampler counts an occurrence (R449). -/
def Chip.smpCounts (s : Chip) (o : SampleOcc) : Bool :=
  let src := s.getF Reg.EVC.SMP_CFG.SRC
  let k := s.getF Reg.EVC.SMP_CFG.CLASS
  s.flag Reg.EVC.SMP_CFG.EN && match o with
    | .codeword c .. => k == 1 && src.testBit c.ix
    | .instruction core .. => k == 2 && src.testBit core.val

/-- The first four words of a record (R450), its SEQ apart, with the GAP bit; the FSN of a trail that has delivered no frame and a
latency beyond its field are open. -/
def Chip.smpWords (s : Chip) (o : SampleOcc) : List Nat × Nat × Nat × Chip :=
  let gap := s.evcs.gap.toNat * 2 ^ 16
  match o with
  | .codeword c slice trail fail redo iters latency index sec t16 =>
    let f := match (s.frmOf c trail.val).last with
      | some p => (p.1, s)
      | none => s.free
    let t := if (s.lineApplied c).cfg.subcEn then trail.val else 0
    let w0 := 2 ^ 28 + slice.val * 2 ^ 24 + t * 2 ^ 20 + c.ix * 2 ^ 19 + fail.toNat * 2 ^ 18 + redo.toNat * 2 ^ 17 + gap + iters % 256
    let l := f.2.fit 16 latency
    ([w0, l.1, index, f.1], sec, t16, l.2)
  | .instruction core user latency pc sec t16 =>
    ([2 * 2 ^ 28 + core.val * 2 ^ 24 + user.toNat * 2 ^ 17 + gap, min latency 65535, pc, 0], sec, t16, s)

/-- SAMPLE (R449 to R451): the occurrence is recorded at WP, or dropped where the ring is full; the next interval starts. -/
def doSample (o : SampleOcc) (s : Chip) : Chip :=
  if s.smpCounts o = false then s
  else
    let seq := s.evcs.smpSeq + 1
    let s0 := ({ s with evcs := { s.evcs with smpSeq := seq % 2 ^ 32 } }).smpStart
    let wp := s0.getF Reg.EVC.SMP_WP.WP
    let n := (wp + 4096 - s0.getF Reg.EVC.SMP_RP.RP) % 4096
    if 2048 ≤ n then
      ({ s0 with evcs := { s0.evcs with gap := true } }.bump Reg.EVC.SMP_DROP.COUNT).raise Ev.EVC.SMP_FULL
    else
      let r := s0.smpWords o
      let words := r.1 ++ [r.2.2.1 / 65536, r.2.1, r.2.1 / 2 ^ 32 % 2 ^ 16 * 2 ^ 16 + r.2.2.1 % 65536, seq]
      let base := 0x00510000 + 32 * (wp % 2048)
      let s1 := (List.range 8).foldl (fun u i => u.wr (base + 4 * i) (BitVec.ofNat 32 (words.getD i 0))) r.2.2.2
      let s2 := ({ s1 with evcs := { s1.evcs with gap := false } }.setF Reg.EVC.SMP_WP.WP (wp + 1)).smpShow
      s2.raiseIf (decide (n + 1 = s2.getF Reg.EVC.SMP_STAT.THR)) Ev.EVC.SMP_THR

/-- SAMPLE. -/
def execSample (o : SampleOcc) (s : State) : Result := s.to (doSample o s.chip)

end Sys2Proof.Machine
end

