-- ==== Sys2Proof/Machine/Prot.lean ====
section
/-! DEFINITION. The meanings of the commands of protection: degrade windows, timers, operator commands, switches, hitless reads, APS
messages, the selector's own faults and the lost-range queue (R310 to R335). -/

namespace Sys2Proof.Machine

/-- SD_WINDOW (R314): the fast criterion of each member sets or clears. -/
def doSdWindow (g : Fin 16) (nW nP : Nat) (s : Chip) : Chip :=
  let thr := max 1 (s.getF (Reg.PROT.SD_CFG.SD_THR g))
  if s.pgOn g then (s.modPg g fun v => { v with fastW := decide (thr ≤ nW), fastP := decide (thr ≤ nP) }).settle else s

/-- SD_WINDOW. -/
def execSdWindow (g : Fin 16) (nW nP : Nat) (s : State) : Result := s.to (doSdWindow g nW nP s.chip)

/-- HOLD_OFF_EXPIRED (R317): a condition still present is taken into the request logic. -/
def doHoldOffExpired (g : Fin 16) (k : Fin 4) (s : Chip) : Chip :=
  let v := s.pgOf g
  if s.pgOn g && v.hold.testBit k then
    let s1 := s.setPg g { v with hold := v.hold - 2 ^ k.val }
    (if v.raw.testBit k then s1.setCond g (s1.getF (Reg.PROT.PG_STAT.COND g) ||| 2 ^ k.val) else s1).settle
  else s

/-- HOLD_OFF_EXPIRED. -/
def execHoldOffExpired (g : Fin 16) (k : Fin 4) (s : State) : Result := s.to (doHoldOffExpired g k s.chip)

/-- WTR_EXPIRED (R317): the request becomes NR. -/
def doWtrExpired (g : Fin 16) (s : Chip) : Chip :=
  if s.pgOn g && (s.pgOf g).wtr then (s.modPg g fun v => { v with wtr := false }).settle else s

/-- WTR_EXPIRED. -/
def execWtrExpired (g : Fin 16) (s : State) : Result := s.to (doWtrExpired g s.chip)

/-- A command of a priority (R316): below the request in effect it is rejected; else it changes the group's commands. -/
def Chip.pgCommand (s : Chip) (g code : Nat) (f : PgSt → PgSt) : Chip :=
  if s.pgOn g = false then s
  else if code < s.getF (Reg.PROT.PG_STAT.REQ g) then s.raisePg g Ev.PROT.CMD_REJECT
  else (s.modPg g f).settle

/-- CMD_CLEAR (R316): LO, FS, MS and MS_W are cleared. -/
def doCmdClear (g : Fin 16) (s : Chip) : Chip :=
  if s.pgOn g then (s.modPg g fun v => { v with lo := false, fs := false, ms := false, msW := false }).settle else s

/-- CMD_CLEAR. -/
def execCmdClear (g : Fin 16) (s : State) : Result := s.to (doCmdClear g s.chip)

/-- CMD_LO (R316). -/
def doCmdLo (g : Fin 16) (s : Chip) : Chip := s.pgCommand g 0xF fun v => { v with lo := true }

/-- CMD_LO. -/
def execCmdLo (g : Fin 16) (s : State) : Result := s.to (doCmdLo g s.chip)

/-- CMD_FS (R316). -/
def doCmdFs (g : Fin 16) (s : Chip) : Chip := s.pgCommand g 0xD fun v => { v with fs := true }

/-- CMD_FS. -/
def execCmdFs (g : Fin 16) (s : State) : Result := s.to (doCmdFs g s.chip)

/-- CMD_MS (R316): it takes the place of MS_W. -/
def doCmdMs (g : Fin 16) (s : Chip) : Chip := s.pgCommand g 0x7 fun v => { v with ms := true, msW := false }

/-- CMD_MS. -/
def execCmdMs (g : Fin 16) (s : State) : Result := s.to (doCmdMs g s.chip)

/-- CMD_MS_W (R316): it takes the place of MS. -/
def doCmdMsW (g : Fin 16) (s : Chip) : Chip := s.pgCommand g 0x7 fun v => { v with ms := false, msW := true }

/-- CMD_MS_W. -/
def execCmdMsW (g : Fin 16) (s : State) : Result := s.to (doCmdMsW g s.chip)

/-- A command code of R316 given to a group: CLEAR, LO, FS, MS, MS_W; other codes are no command. -/
def Chip.pgWrite (s : Chip) (g : Fin 16) (code : Nat) : Chip :=
  match code with
  | 0 => doCmdClear g s
  | 1 => doCmdLo g s
  | 2 => doCmdFs g s
  | 3 => doCmdMs g s
  | 4 => doCmdMsW g s
  | _ => s

/-- Whether the members of a tributary group share one FSN counter (R311, R325): they lie on one carrier, or the carriers are locked. -/
def Chip.sharedFsn (s : Chip) (g : Nat) : Bool :=
  let k := s.pgCfgOf g
  let base := xcEntry s.act k.base
  base.carrier == k.carrier || s.getF Reg.TOP.CARRIER_STAT.MODE_ACTIVE != 0

/-- SWITCH (R318, R325, R329, R335): a switch that is due executes; between members without a common FSN counter it closes a range in the
old member's space. Groups that a commit held back for it take effect. -/
def doSwitch (g : Fin 16) (last : Nat) (s : Chip) : Chip :=
  if s.switchDue g = false then s.takeDeferred
  else
    let v := s.pgOf g
    let s1 := ((s.setFlag (Reg.PROT.PG_STAT.ACTIVE g) v.decided).bump (Reg.PROT.SWITCH_CNT.COUNT g)).raisePg g Ev.PROT.SWITCH
    let s2 := if (s.pgCfgOf g).kind = 4 then s1 else s1.modPg g fun w => { w with switched := true }
    let s3 :=
      if (s.pgCfgOf g).kind = 3 ∧ s.sharedFsn g = false then
        let u := match v.lastFsn with
          | none => s2
          | some l =>
            let m := (last + 2 ^ 32 - l) % 2 ^ 32
            if m = 0 ∨ 2 ^ 31 ≤ m then s2 else s2.pgRange g ((l + 1) % 2 ^ 32) m 3
        (u.bump (Reg.PROT.RESTARTS.COUNT g)).modPg g fun w => { w with newSpace := true }
      else s2
    (s3.settle).takeDeferred

/-- SWITCH. -/
def execSwitch (g : Fin 16) (last : Nat) (s : State) : Result := s.to (doSwitch g last s.chip)

/-- DESKEW_EXCEEDED (R324): |Δ| above DESK − 4 µs clears ALIGNED and holds the later member in signal fail. -/
def Chip.deskCheck (s : Chip) (g : Nat) : Chip :=
  let d := s.getS (Reg.PROT.DIFF_DLY.NS g)
  let v := s.pgOf g
  if (s.pgCfgOf g).kind = 4 ∧ (s.pgCfgOf g).desk * 1000 < d.natAbs + 4000 ∧ v.deskHeld = none then
    ((s.setFlag (Reg.PROT.PG_STAT.ALIGNED g) false).setPg g { v with deskHeld := some (decide (0 < d)) }).raisePg g
      Ev.PROT.DESKEW_EXCEEDED
  else s

/-- DIFF_DELAY_UPDATE (R319, R324): the measured Δ; only while both members are IN_FRAME with FSN_LOCK. -/
def doDiffDelayUpdate (g : Fin 16) (ns : Int) (s : Chip) : Chip :=
  let k := s.pgCfgOf g
  let base := xcEntry s.act k.base
  let locked := fun (p : Bool) =>
    let m := k.member base p
    s.flag (Reg.FRM.ALIGN_STAT.IN_FRAME m.1 m.2) && s.flag (Reg.FRM.ALIGN_STAT.FSN_LOCK m.1 m.2)
  if s.pgOn g && locked false && locked true then
    (((s.setS (Reg.PROT.DIFF_DLY.NS g) ns).modPg g fun v => { v with measured := true }).deskCheck g).settle
  else s

/-- DIFF_DELAY_UPDATE. -/
def execDiffDelayUpdate (g : Fin 16) (ns : Int) (s : State) : Result := s.to (doDiffDelayUpdate g ns s.chip)

/-- DESKEW_RECOVER (R324): the later member is released. -/
def doDeskewRecover (g : Fin 16) (s : Chip) : Chip :=
  let d := s.getS (Reg.PROT.DIFF_DLY.NS g)
  if s.pgOn g && decide (d.natAbs + 4000 ≤ (s.pgCfgOf g).desk * 1000) then
    (s.modPg g fun v => { v with deskHeld := none }).settle
  else s

/-- DESKEW_RECOVER. -/
def execDeskewRecover (g : Fin 16) (s : State) : Result := s.to (doDeskewRecover g s.chip)

/-- Whether a copy is good (R323): present, its member not in signal fail, without UNCORR, with a good control word, its tag not failed and
no uncorrectable deskew word in it. -/
def DeskRec.good (r : Option DeskRec) (sf badWord : Bool) : Bool :=
  match r with
  | none => false
  | some r => !sf && !r.uncorr && ctlGood r.ctl && !r.tagBad && !badWord

/-- The control words of two good copies compared (R324): a mismatch after 8 frames in a row, agreement after 8. -/
def Chip.pgCompare (s : Chip) (g : Nat) (agree : Bool) : Chip :=
  let v := s.pgOf g
  if agree then
    let n := min 8 (v.agreeRun + 1)
    s.setPg g { v with mismatchRun := 0, agreeRun := n, mismatchHeld := v.mismatchHeld && decide (n < 8) }
  else
    let n := min 8 (v.mismatchRun + 1)
    let s1 := s.setPg g { v with mismatchRun := n, agreeRun := 0, mismatchHeld := v.mismatchHeld || decide (8 ≤ n) }
    if 8 ≤ n ∧ v.mismatchHeld = false then s1.raisePg g Ev.PROT.MEMBER_MISMATCH else s1

/-- HITLESS_READ (R321 to R324, R333): the group takes the selected copy, else the other one where it is good and no command forbids it;
where both are bad it delivers the selected copy with UNCORR or a failed tag; otherwise the frame is lost. -/
def doHitlessRead (g : Fin 16) (fsn corr : Nat) (badW badP : Bool) (s : Chip) : Chip :=
  let k := s.pgCfgOf g
  if s.pgOn g = false ∨ k.kind ≠ 4 then s
  else
    let v := s.pgOf g
    let w := v.deskW.find? fun r => r.fsn == fsn
    let p := v.deskP.find? fun r => r.fsn == fsn
    let goodW := DeskRec.good w (s.memberSf g false) badW
    let goodP := DeskRec.good p (s.memberSf g true) badP
    let later := fun (r : DeskRec) => decide (0 < (r.fsn + 2 ^ 32 - fsn) % 2 ^ 32 ∧ (r.fsn + 2 ^ 32 - fsn) % 2 ^ 32 < 2 ^ 31)
    let s1 := (s.bump Reg.PROT.DSK_CORR.COUNT corr).setPg g
      { v with deskW := v.deskW.filter later, deskP := v.deskP.filter later, lastRead := some fsn }
    let s2 := match w, p with
      | some a, some b => if goodW && goodP then s1.pgCompare g (a.ctl == b.ctl) else s1
      | _, _ => s1
    let active := s.flag (Reg.PROT.PG_STAT.ACTIVE g)
    let own := if active then p else w
    let goodOwn := if active then goodP else goodW
    let goodOther := if active then goodW else goodP
    let forbidden := if active then v.fs && !v.lo else v.lo
    let n := s.trailN (k.member (xcEntry s.act k.base) active).1
    let frame := fun (uncorr : Bool) => ({ fsn := fsn, tti := 0, bip := 0, bei := 0, bdi := false, stat := 0, kp := 0, enc := false
                                           tv := false, psiA := 0, psiB := 0, aps := 0, gcc0 := [], gcc12 := [], parity := 0
                                           uncorr := uncorr, sec := 0, t16 := 0, pin := 0, ctl := [] } : RxFrame)
    let s3 :=
      if goodOwn then (s2.account g n (frame false)).2
      else if goodOther && !forbidden then ((s2.account g n (frame false)).2).addPair (Reg.PROT.SUBST_LO.addr g) 1
      else match own with
        | some r => if r.uncorr || r.tagBad then (s2.account g n (frame true)).2 else s2.modPg g fun x => { x with bothFail := true }
        | none => s2.modPg g fun x => { x with bothFail := true }
    s3.settle

/-- HITLESS_READ. -/
def execHitlessRead (g : Fin 16) (fsn corr : Nat) (badW badP : Bool) (s : State) : Result :=
  s.to (doHitlessRead g fsn corr badW badP s.chip)

/-- The payload of a group's APS message (R326). -/
def Chip.apsPayload (s : Chip) (g : Nat) : List Nat :=
  let k := s.pgCfgOf g
  let v := s.pgOf g
  [g, s.getF (Reg.PROT.PG_STAT.REQ g) * 16 + 8 + (k.kind == 2).toNat * 4 + k.bidir.toNat * 2 + k.revertive.toNat, v.decided.toNat
    , v.bridge.toNat]

/-- APS_MSG_TX (R289, R326, R327): the group's message is sent on the ports of both member trails. -/
def doApsMsgTx (g : Fin 16) (s : Chip) : Chip :=
  if s.pgOn g = false then s
  else
    let k := s.pgCfgOf g
    let base := xcEntry s.act k.base
    let m := s.newMsg 2 false (s.getF (Reg.PROT.APS_PEER.NODE g)) (s.apsPayload g)
    let put := fun (u : Chip) (p : Bool) =>
      let t := k.member base p
      let i := 16 * t.1.ix + t.2
      u.sendOn i 0 m.1
    (put (put m.2 false) true).modPg g fun v => { v with apsSent := some (ofBytes (s.apsPayload g)) }

/-- APS_MSG_TX. -/
def execApsMsgTx (g : Fin 16) (s : State) : Result := s.to (doApsMsgTx g s.chip)

/-- An accepted APS message (R315, R326 to R329): a copy of the last one is ignored; APS_LOSS clears and the far request takes part. -/
def Chip.apsAccept (s : Chip) (src seq b0 b1 b2 b3 : Nat) : Chip :=
  if 16 ≤ b0 ∨ s.pgOn b0 = false ∨ (s.pgOf b0).apsLast = some (src, seq) then s
  else
    let s1 := (s.setF (Reg.PROT.PG_STAT.FAR_REQ b0) (b1 / 16 % 16)).modPg b0 fun v =>
      { v with apsLast := some (src, seq), farB := b1.testBit 2, farD := b1.testBit 1, farRsig := b2 == 1, farBsig := b3 == 1 }
    let s2 := if s1.flag (Reg.PROT.PG_STAT.APS_LOSS b0) then
        (s1.setFlag (Reg.PROT.PG_STAT.APS_LOSS b0) false).raisePg b0 Ev.PROT.APS_ALARM else s1
    s2.settle

/-- APS_MSG_RX. -/
def doApsMsgRx (src seq b0 b1 b2 b3 : Nat) (s : Chip) : Chip := s.apsAccept src seq b0 b1 b2 b3

/-- APS_MSG_RX. -/
def execApsMsgRx (src seq b0 b1 b2 b3 : Nat) (s : State) : Result := s.to (doApsMsgRx src seq b0 b1 b2 b3 s.chip)

/-- APS_BRIDGE (R328, R329): the bridge follows the far request; after NR it is released once the selector is back on working. -/
def doApsBridge (g : Fin 16) (s : Chip) : Chip :=
  let v := s.pgOf g
  let far := s.pgFar g
  if s.pgOn g = false then s
  else if far.2 then s.modPg g fun w => { w with bridge := true }
  else if v.bridge && !s.flag (Reg.PROT.PG_STAT.ACTIVE g) then s.modPg g fun w => { w with bridge := false }
  else s

/-- APS_BRIDGE. -/
def execApsBridge (g : Fin 16) (s : State) : Result := s.to (doApsBridge g s.chip)

/-- APS_LOSS (R327): from now on the group acts on local requests alone. -/
def doApsLoss (g : Fin 16) (s : Chip) : Chip :=
  if s.pgOn g && !s.flag (Reg.PROT.PG_STAT.APS_LOSS g) then
    ((s.setFlag (Reg.PROT.PG_STAT.APS_LOSS g) true).raisePg g Ev.PROT.APS_ALARM).settle
  else s

/-- APS_LOSS. -/
def execApsLoss (g : Fin 16) (s : State) : Result := s.to (doApsLoss g s.chip)

/-- FOP_TIMER (R327): a disagreement that still holds has lasted 50 ms. -/
def doFopTimer (g : Fin 16) (nr : Bool) (s : Chip) : Chip :=
  let k := s.pgCfgOf g
  let v := s.pgOf g
  let f := if nr then Reg.PROT.PG_STAT.FOP_NR g else Reg.PROT.PG_STAT.FOP_PM g
  let differ := if nr then k.bidir && v.farBsig != v.decided else v.farB != (k.kind == 2) || v.farD != k.bidir
  if s.pgOn g && differ && !s.flag f then (s.setFlag f true).raisePg g Ev.PROT.APS_ALARM else s

/-- FOP_TIMER. -/
def execFopTimer (g : Fin 16) (nr : Bool) (s : State) : Result := s.to (doFopTimer g nr s.chip)

/-- SEL_MISCOMPARE (R332): the selection and every active member freeze. -/
def doSelMiscompare (g : Fin 16) (s : Chip) : Chip :=
  (s.setFlag Reg.PROT.PROT_STAT.FROZEN true).raisePg g Ev.PROT.SEL_MISCOMPARE

/-- SEL_MISCOMPARE. -/
def execSelMiscompare (g : Fin 16) (s : State) : Result := s.to (doSelMiscompare g s.chip)

/-- UNFREEZE (R332). -/
def doUnfreeze (s : Chip) : Chip := (s.setFlag Reg.PROT.PROT_STAT.FROZEN false).settle

/-- UNFREEZE. -/
def execUnfreeze (s : State) : Result := s.to (doUnfreeze s.chip)

/-- LR_POP (R334): the head of the lost-range queue is removed. -/
def doLrPop (s : Chip) : Chip := if s.lost = [] then s else { s with lost := s.lost.tail }.lostShow

/-- LR_POP. -/
def execLrPop (s : State) : Result := s.to (doLrPop s.chip)

end Sys2Proof.Machine
end

