-- ==== Sys2Proof/Machine/Ripple.lean ====
section
/-! DEFINITION. Ripple slots: arming, firing and the combined actions of one edge (R295 to R300, R541). -/

namespace Sys2Proof.Machine

/-- A slot is armed, or the arming is refused (R295). -/
def Chip.armSlot (s : Chip) (k : Nat) : Chip :=
  let per := s.getPair (Reg.WST.RIP_PERIOD_LO.addr k)
  if s.ripArmed k then s.raise Ev.WST.RIP_BUSY
  else if 999999999 < s.getF (Reg.WST.RIP_NS.NS k) ∨ s.ripInstant k < s.wstNow + 1000 * 65536 ∨ (0 < per ∧ per < 1000) then
    s.raise Ev.WST.ARM_REFUSED
  else
    let s1 := ((s.setF (Reg.WST.RIP_STAT.STATE k) 1).setF (Reg.WST.RIP_STAT.LATE k) 0).setF (Reg.WST.RIP_STAT.DROP k) 0
    let s2 := s1.setF (Reg.WST.DROP_ISL.ISL k) 0
    { s2 with wst := { s2.wst with late := s2.wst.late - (s2.wst.late &&& 2 ^ k) } }

/-- ARM (R295). -/
def doArm (k : Fin 64) (s : Chip) : Chip := s.armSlot k.val

/-- ARM. -/
def execArm (k : Fin 64) (s : State) : Result := s.to (doArm k s.chip)

/-- An armed slot returns to IDLE (R295). -/
def Chip.disarmSlot (s : Chip) (k : Nat) : Chip := if s.ripArmed k then s.setF (Reg.WST.RIP_STAT.STATE k) 0 else s

/-- DISARM (R295). -/
def doDisarm (k : Fin 64) (s : Chip) : Chip := s.disarmSlot k.val

/-- DISARM. -/
def execDisarm (k : Fin 64) (s : State) : Result := s.to (doDisarm k s.chip)

/-- The first slot at or above DOM_SLOT.BASE that is not armed (R302). -/
def Chip.freeSlot (s : Chip) : Option Nat :=
  (List.range 64).find? fun k => decide (s.getF Reg.WST.DOM_SLOT.BASE ≤ k) && !s.ripArmed k

/-- A slot's one-shot configuration written by firmware (R302). -/
def Chip.fillSlot (s : Chip) (k t act groups gpio : Nat) : Chip :=
  let s1 := ((s.setInstant k t).setF (Reg.WST.RIP_ACT.ACT k) act).setF (Reg.WST.RIP_GROUPS.GROUPS k) groups
  (s1.wr (Reg.WST.RIP_GPIO.addr k) (BitVec.ofNat 32 gpio)).setPair (Reg.WST.RIP_PERIOD_LO.addr k) 0

/-- A slot fires at the present edge (R296, R299, R440). -/
def Chip.fireSlot (s : Chip) (k : Nat) : Chip :=
  let now := s.wstNow
  let late := s.wst.late.testBit k
  let s1 := ((s.setF (Reg.WST.FIRED_SEC_LO.SEC k) (now / secT16)).setF (Reg.WST.FIRED_NS.NS k) (now % secT16 / 65536)).setF
    (Reg.WST.FIRED_FRAC.FRAC k) (now % 65536)
  let s2 := ((s1.bump (Reg.WST.RIP_STAT.FIRE_CNT k)).evc 64).raise Ev.WST.RIPPLE_FIRED
  let s3 := if late then (s2.setF (Reg.WST.RIP_STAT.LATE k) 1).raise Ev.WST.RIPPLE_LATE else s2
  let per := s3.getPair (Reg.WST.RIP_PERIOD_LO.addr k) * 65536
  let t := s3.ripInstant k
  let n := (now - t) / per + 1
  let s4 := if per = 0 then s3.setF (Reg.WST.RIP_STAT.STATE k) 2
    else (s3.setInstant k (t + n * per)).bump (Reg.WST.SKIP_CNT.COUNT k) (n - 1)
  let act := s.getF (Reg.WST.RIP_ACT.ACT k)
  let groups := if act.testBit 0 then s.getF (Reg.WST.RIP_GROUPS.GROUPS k) else 0
  let d : DueRipple := { slot := k, sec := now / secT16, t16 := now % secT16, act := act, groups := groups
                         gpio := (s.rd (Reg.WST.RIP_GPIO.addr k)).toNat, words := s.shadows groups }
  { s4 with wst := { s4.wst with late := s4.wst.late - (s4.wst.late &&& 2 ^ k), due := s4.wst.due ++ [d] } }

/-- RIPPLE_FIRED (R296): taken for an armed slot whose instant has come. -/
def doRippleFired (k : Fin 64) (s : Chip) : Chip :=
  if s.ripArmed k.val ∧ s.wst.running = true ∧ s.ripInstant k.val ≤ s.wstNow then s.fireSlot k.val else s

/-- RIPPLE_FIRED. -/
def execRippleFired (k : Fin 64) (s : State) : Result := s.to (doRippleFired k s.chip)

/-- Actions of a slot dropped at action points, as a mask of DROP_ISL (R300, R541). -/
def Chip.dropAt (s : Chip) (k isl : Nat) : Chip :=
  if isl = 0 then s
  else ((s.setF (Reg.WST.RIP_STAT.DROP k) 1).setF (Reg.WST.DROP_ISL.ISL k) (s.getF (Reg.WST.DROP_ISL.ISL k) ||| isl)).raise
    Ev.WST.RIPPLE_DROP

/-- An action of some slots at one gateable action point, made once where the point runs, else dropped for each of them (R298, R300). -/
def Chip.actAt (s : Chip) (slots : List DueRipple) (isl : Nat) (f : Chip → Chip) : Chip :=
  if slots = [] then s
  else if s.islDown isl then slots.foldl (fun u d => u.dropAt d.slot (2 ^ isl)) s
  else f s

/-- The command held for ripple use is applied to its group (R335). -/
def Chip.ripCommand (s : Chip) : Chip :=
  s.pgWrite (Fin.ofNat 16 (s.getF Reg.PROT.RIP_REQ.PG)) (s.getF Reg.PROT.RIP_REQ.CMD)

/-- The commit of the slots of one edge as one event, with the shadows of the firing (R298, R438, R440, R541). -/
def Chip.ripCommit (s : Chip) (slots : List DueRipple) : Chip :=
  let groups := slots.foldl (fun m d => m ||| d.groups) 0
  let words := slots.foldl (fun l d => l ++ d.words.filter fun p => !l.any fun q => q.1 == p.1) []
  if groups = 0 then s
  else
    let r := s.commitEvent words groups
    if r.1 = 0 then r.2 else slots.foldl (fun u d => u.dropAt d.slot r.1) r.2

/-- The GPIO levels that the slots of one edge write, the lowest-numbered slot deciding each (R298, R529). -/
def Chip.ripGpio (s : Chip) (slots : List DueRipple) : Chip :=
  let level := fun (w : Nat) (g : Nat) =>
    match slots.find? fun d => (d.gpio / 65536).testBit g with
    | some d => if d.gpio.testBit g then w ||| 2 ^ g else w - (w &&& 2 ^ g)
    | none => w
  s.setF Reg.TOP.GPIO_OUT.LEVEL ((List.range 16).foldl level (s.getF Reg.TOP.GPIO_OUT.LEVEL))

/-- Steps of in-service rotation by ripple on one carrier (R495). -/
def Chip.ripStep (s : Chip) (c : Carrier) : Chip :=
  if s.flag Reg.TST.BIST_CFG.ROT_EN && s.flag Reg.TST.BIST_CFG.PACE then
    (((s.bistStep c 0).bistStep c 1).bistStep c 2)
  else s

/-- The end of a bin on every trail of a carrier (R207). -/
def Chip.ripBins (s : Chip) (c : Carrier) (t : Nat) : Chip :=
  (List.range 16).foldl (fun u k => u.pmRipple c k (t / secT16) (t % secT16 == 0)) s

/-- The slots that fired on one edge act together, in slot order; `t` is the action instant (R296 to R298, R300). -/
def Chip.actTogether (s : Chip) (slots : List DueRipple) (t : Nat) : Chip :=
  let has := fun (b : Nat) => slots.filter fun d => d.act.testBit b
  let s0 := s.ripCommit (has 0)
  let s1 := s0.actAt (has 1) 0 fun u => u.requestSwap .A
  let s2 := s1.actAt (has 2) 1 fun u => u.requestSwap .B
  let s3 := (s2.actAt (has 3) 0 fun u => u.ripBins .A t).actAt (has 3) 1 fun u => u.ripBins .B t
  let s4 := s3.actAt (has 4) 2 fun u => u.ripCommand.bump Reg.WST.RIP_CONFLICT.COUNT ((has 4).length - 1)
  let s5 := (s4.actAt (has 5) 0 fun u => u.ripStep .A).actAt (has 5) 1 fun u => u.ripStep .B
  let s6 := if has 6 = [] then s5 else s5.snapshot t
  if has 7 = [] then s6 else s6.ripGpio (has 7)

/-- Due ripples in slot order. -/
def bySlot (l : List DueRipple) : List DueRipple := (List.range 64).flatMap fun k => l.filter fun d => d.slot == k

/-- RIPPLE_ACTION (R296): the slots of the oldest edge that waits act, 5.0 ns after it. -/
def doRippleAction (s : Chip) : Chip :=
  match s.wst.due with
  | [] => s
  | d :: _ =>
    let same := fun (e : DueRipple) => e.sec == d.sec && e.t16 == d.t16
    let s1 : Chip := { s with wst := { s.wst with due := s.wst.due.filter fun e => !same e } }
    s1.actTogether (bySlot (s.wst.due.filter same)) (d.sec * secT16 + d.t16 + 5 * 65536)

/-- RIPPLE_ACTION. -/
def execRippleAction (s : State) : Result := s.to (doRippleAction s.chip)

end Sys2Proof.Machine
end

