-- ==== Sys2Proof/Machine/Tst.lean ====
section
/-! DEFINITION. The meanings of the commands of self-test, step-down and calibration (R492 to R509). -/

namespace Sys2Proof.Machine

/-- BIST_STEP_TIMER (R495): the pace timer counts with ROT_EN = 1 and PACE = 0. -/
def doBistStepTimer (c : Carrier) (g : Fin 3) (s : Chip) : Chip :=
  if s.flag Reg.TST.BIST_CFG.ROT_EN && !s.flag Reg.TST.BIST_CFG.PACE then s.bistStep c g.val else s

/-- BIST_STEP_TIMER. -/
def execBistStepTimer (c : Carrier) (g : Fin 3) (s : State) : Result := s.to (doBistStepTimer c g s.chip)

/-- The expected signature of a group type (R493). -/
def Chip.sigExp (s : Chip) (g : Nat) : Nat := s.fuse.sigExp.getD g 0

/-- A unit's share of the power-up sweep has its result (R497). -/
def Chip.sweepResult (s : Chip) (c : Carrier) (g u : Nat) (f : Fld) : Chip :=
  let v := s.grpOf c g
  if s.flag Reg.TST.PU_STAT.BUSY && !v.sweepDone && !v.swept.testBit u then
    (s.bump f).setGrp c g { v with swept := v.swept ||| 2 ^ u, retries := 0 }
  else s

/-- A session ends PASS (R493, R495, R498): a retest lifts the fence, and the unit becomes the reserve or waits to join service; a rotation's unit
waits for its exchange. -/
def Chip.sessionPass (s : Chip) (c : Carrier) (g u misr : Nat) : Chip :=
  let v := s.grpOf c g
  let s1 := (s.setGrp c g { v with session := none, retesting := false, retries := 0 }).sessionResult c g u 1 16384 misr
  let s2 := s1.bump (Reg.TST.PASS_CNT.COUNT c.ix g)
  let w := s2.grpOf c g
  if v.retesting then
    let s3 := (s2.setF (Reg.TST.RETEST.BUSY c.ix g) 0).setF (Reg.TST.RETEST.RESULT c.ix g) 1
    let w1 := { w with fenced := w.fenced - (w.fenced &&& 2 ^ u) }
    let s4 := if w.reserve.isSome then s3.setGrp c g { w1 with joining := w1.joining ||| 2 ^ u }
      else (s3.setGrp c g { w1 with reserve := some u }).noteReserve c g false
    s4.grpSettle c
  else (s2.setGrp c g { w with passed := some u }).sweepResult c g u Reg.TST.PU_STAT.PASSED

/-- A session ends FAIL (R493, R498): the unit is fenced, or stays so. -/
def Chip.sessionFail (s : Chip) (c : Carrier) (g u misr : Nat) : Chip :=
  let v := s.grpOf c g
  let s1 := (s.setGrp c g { v with session := none, retesting := false, retries := 0 }).sessionResult c g u 2 16384 misr
  let s2 := (s1.bump (Reg.TST.FAIL_CNT.COUNT c.ix g)).raise Ev.TST.BIST_FAIL
  if v.retesting then (s2.setF (Reg.TST.RETEST.BUSY c.ix g) 0).setF (Reg.TST.RETEST.RESULT c.ix g) 2
  else ((s2.sweepResult c g u Reg.TST.PU_STAT.FAILED).fenceIdle c g u).grpSettle c

/-- BIST_SESSION_END (R493): the patterns completed and the MISR. -/
def doBistSessionEnd (c : Carrier) (g : Fin 3) (patterns : Fin 16385) (misr : BitVec 64) (s : Chip) : Chip :=
  match (s.grpOf c g.val).session with
  | none => s
  | some u =>
    if patterns.val < 16384 then (s.sessionIncomplete c g.val patterns.val misr.toNat).settle
    else if misr.toNat = s.sigExp g.val then (s.sessionPass c g.val u misr.toNat).settle
    else (s.sessionFail c g.val u misr.toNat).settle

/-- BIST_SESSION_END. -/
def execBistSessionEnd (c : Carrier) (g : Fin 3) (patterns : Fin 16385) (misr : BitVec 64) (s : State) : Result :=
  s.to (doBistSessionEnd c g patterns misr s.chip)

/-- PU_GO (R497): ignored while a sweep runs; the counts of the sweep start from 0. -/
def doPuGo (s : Chip) : Chip :=
  if s.flag Reg.TST.PU_STAT.BUSY then s
  else
    let s1 := (s.wr Reg.TST.PU_STAT.addr 0).setFlag Reg.TST.PU_STAT.BUSY true
    (allGroups.foldl (fun u p => u.setGrp p.1 p.2 { u.grpOf p.1 p.2 with swept := 0, retries := 0, sweepDone := false }) s1).bistSettle

/-- PU_GO. -/
def execPuGo (s : State) : Result := s.to (doPuGo s.chip)

/-- RETEST (R498): ignored while one is pending or running; refused on a unit that is not fenced. -/
def doRetest (c : Carrier) (g : Fin 3) (u : Fin 32) (s : Chip) : Chip :=
  if s.flag (Reg.TST.RETEST.BUSY c.ix g.val) then s
  else
    let s1 := s.setF (Reg.TST.RETEST.UNIT c.ix g.val) u.val
    let v := s1.grpOf c g.val
    if v.fenced.testBit u.val then
      ((s1.setFlag (Reg.TST.RETEST.BUSY c.ix g.val) true).setGrp c g.val { v with retestDue := some u.val }).bistSettle
    else s1.setF (Reg.TST.RETEST.RESULT c.ix g.val) 3

/-- RETEST. -/
def execRetest (c : Carrier) (g : Fin 3) (u : Fin 32) (s : State) : Result := s.to (doRetest c g u s.chip)

/-- The carriers that a notice of the far end names here: both, or the carrier of the port it came in on (R501). -/
def noticeCarriers (port mask : Nat) : List Carrier := if mask % 4 = 3 then [.A, .B] else [Carrier.ofBit (port / 16)]

/-- The line groups of carriers as a mask. -/
def lineGroups (l : List Carrier) : Nat := l.foldl (fun m c => m ||| 2 ^ (2 + c.ix)) 0

/-- A ripple armed at an instant that commits groups (R295, R501), where a slot is free. -/
def Chip.armCommit (s : Chip) (t groups : Nat) : Option Chip :=
  s.freeSlot.map fun k => (s.fillSlot k t 1 groups 0).armSlot k

/-- The peer's judgement of a notice (R501): its own commit checks on the named configuration, and an instant at least 1 ms ahead. -/
def Chip.noticeJudge (s : Chip) (port : Nat) (b : List Nat) : Option Chip :=
  let t := instantOf (b.drop 4)
  let l := noticeCarriers port (b.getD 1 0)
  let s1 := l.foldl (fun u c => u.stepShadow c (b.getD 2 0) ((u.lineApplied c).role == 2)) s
  let g := lineGroups l
  let bad := (s1.eventCheck (s1.afterEvent (s1.newWords (s1.shadows g) g)) g).bad
  if bad = true ∨ t < s.wstNow + 1000000 * 65536 then none else s1.armCommit t g

/-- STEP_NOTICE (R501). -/
def doStepNotice (s : Chip) : Chip :=
  match s.ringTake fun m => m.type == 7 && m.payload.length == 16 && m.payload.head? == some 0x53 with
  | none => s
  | some x =>
    let b := x.2.1.payload
    let r := x.2.2.noticeJudge x.1 b
    let s1 := r.getD x.2.2
    let m := s1.newMsg 7 false x.2.1.src ([0x54, b.getD 1 0, b.getD 2 0, if r.isSome then 0 else 1] ++ b.drop 4)
    m.2.sendOn x.1 2 m.1

/-- STEP_NOTICE. -/
def execStepNotice (s : State) : Result := s.to (doStepNotice s.chip)

/-- STEP_ANSWER (R501): an ACCEPT that echoes the notice makes firmware arm its ripple. -/
def doStepAnswer (s : Chip) : Chip :=
  match s.ringTake fun m => m.type == 7 && m.payload.length == 16 && m.payload.head? == some 0x54 with
  | none => s
  | some x =>
    let b := x.2.1.payload
    let u := x.2.2
    match u.tst.notice with
    | some (mask, code, t) =>
      if b.getD 1 0 = mask ∧ b.getD 2 0 = code ∧ b.getD 3 1 = 0 ∧ instantOf (b.drop 4) = t then
        let u1 : Chip := { u with tst := { u.tst with notice := none } }
        (u1.armCommit t (mask % 4 * 4)).getD u1
      else u
    | none => u

/-- STEP_ANSWER. -/
def execStepAnswer (s : State) : Result := s.to (doStepAnswer s.chip)

/-- STEP_FAIL (R501): 20 ms without an ACCEPT. -/
def doStepFail (s : Chip) : Chip :=
  if s.tst.notice.isSome then { s with tst := { s.tst with notice := none } }.raise Ev.TST.STEP_FAIL else s

/-- STEP_FAIL. -/
def execStepFail (s : State) : Result := s.to (doStepFail s.chip)

/-- CAL_RUN (R506). -/
def doCalRun (s : Chip) : Chip := s.setFlag Reg.TST.CAL_STAT.RUNNING true

/-- CAL_RUN. -/
def execCalRun (s : State) : Result := s.to (doCalRun s.chip)

/-- The plausible ranges of an item's values (R504). -/
def calPlausible (k : CalItem) : Bool :=
  let within := fun (lo hi : Int) (l : List Int) => l.all fun v => decide (lo ≤ v ∧ v ≤ hi)
  match k.item.val % 4 with
  | 0 => within 2700 4800 k.figs
  | 1 => within 500 990 k.figs
  | _ => within (-160) 160 k.skew

/-- An item accepted: every value plausible and within its largest change (R505). -/
def calAccepted (k : CalItem) : Bool := calPlausible k && k.near

/-- The figures of an item that the registers report (R510). -/
def Chip.calFigs (s : Chip) (k : CalItem) : Chip :=
  let c := k.item.val / 4
  (k.figs.take 4).zipIdx.foldl (fun u p =>
    match k.item.val % 4 with
    | 0 => u.setS (Reg.TST.ADC_SNDR.SNDR c p.2) p.1
    | 1 => u.setS (Reg.TST.DAC_EYE.WIDTH c p.2) p.1
    | _ => u) s

/-- An accepted item applied (R504, R505): PEQ and PD_LUT, the calibrated receive skews, or TXD.SKEW. -/
def Chip.calApply (s : Chip) (k : CalItem) : Chip :=
  let c := Carrier.ofBit (k.item.val / 4)
  match k.item.val % 4 with
  | 1 =>
    let s1 := k.peq.foldl (fun u p => u.setF (Reg.TXD.PEQ.GAIN c (p.1 / 32 % 4) (p.1 % 32)) p.2.toNat) s
    k.pd.foldl (fun u p => u.setF (Reg.TXD.PD_LUT.OUT c (p.1 / 33 % 4) (p.1 % 33)) p.2.toNat) s1
  | 2 =>
    let l := (k.skew.take 4).zipIdx.foldl (fun t p => Tab.put 0 t (4 * c.ix + p.2) p.1) s.tst.rxSkew
    { s with tst := { s.tst with rxSkew := l } }
  | 3 =>
    let f := [Reg.TXD.SKEW_XI.DELAY c, Reg.TXD.SKEW_XQ.DELAY c, Reg.TXD.SKEW_YI.DELAY c, Reg.TXD.SKEW_YQ.DELAY c]
    (f.zip k.skew).foldl (fun u p => u.setS p.1 p.2) s
  | _ => s

/-- A lane's result accepted (R504, R505): eye width and height in range, trims within their largest change. -/
def calLaneAccepted (k : CalLane) : Bool := decide (250 ≤ k.width ∧ k.width ≤ 900 ∧ 200 ≤ k.height) && k.near

/-- CAL_DONE (R504 to R506): accepted items are applied, rejected ones keep what was loaded. -/
def doCalDone (items : List CalItem) (lanes : List CalLane) (skipped : Fin 256) (s : Chip) : Chip :=
  let s1 := items.foldl (fun u k => if calAccepted k then (u.calFigs k).calApply k else u.calFigs k) s
  let s2 := lanes.foldl (fun u k => (u.setF (Reg.TST.SD_EYE.WIDTH k.lane.val) k.width).setF (Reg.TST.SD_EYE.HEIGHT k.lane.val) k.height) s1
  let fails := (items.filter fun k => !calAccepted k).foldl (fun m k => m ||| 2 ^ k.item.val) 0
  let sd := (lanes.filter fun k => !calLaneAccepted k).foldl (fun m k => m ||| 2 ^ k.lane.val) 0
  let s3 := ((s2.setF Reg.TST.CAL_STAT.FAIL_ITEMS fails).setF Reg.TST.CAL_STAT.SKIPPED skipped.val).setF Reg.TST.SD_FAIL.FAIL sd
  ((s3.setFlag Reg.TST.CAL_STAT.RUNNING false).raiseIf (fails != 0 || sd != 0) Ev.TST.CAL_REJECT).raise Ev.TST.CAL_DONE

/-- CAL_DONE. -/
def execCalDone (items : List CalItem) (lanes : List CalLane) (skipped : Fin 256) (s : State) : Result :=
  s.to (doCalDone items lanes skipped s.chip)

/-- CAL_STORE_END (R509): the slot that was not loaded is erased and the record programmed; a store that fails leaves in the slot what `left`
gives. -/
def doCalStoreEnd (values : List (Fin 256)) (tj : BitVec 16) (left : Option (List (Fin 256))) (s : Chip) : Chip :=
  let toB := s.getF Reg.TST.CAL_STAT.SOURCE == 1
  let ofs := if toB then s.boot.hdr.calB else s.boot.hdr.calA
  let seq := (s.tst.calSeq + 1) % 2 ^ 32
  let fits := slotPlace ofs && !(toB && s.boot.hdr.calA == s.boot.hdr.calB) && decide (values.length ≤ 65496)
  match fits, left with
  | false, _ => s.raise Ev.TST.CAL_STORE_FAIL
  | true, some l =>
    let s1 := (s.setFlashBytes ofs (List.replicate 0x10000 0xFF)).setFlashBytes ofs ((l.take 0x10000).map fun b => b.val)
    (s1.setFlag (if toB then Reg.TST.CAL_STAT.VALID_B else Reg.TST.CAL_STAT.VALID_A) false).raise Ev.TST.CAL_STORE_FAIL
  | true, none =>
    let s1 := (s.setFlashBytes ofs (List.replicate 0x10000 0xFF)).setFlashBytes ofs (s.calRecord seq tj.toNat (values.map fun b => b.val))
    let s2 := s1.setFlag (if toB then Reg.TST.CAL_STAT.VALID_B else Reg.TST.CAL_STAT.VALID_A) true
    ((s2.setF Reg.TST.CAL_SEQ.SEQ seq).setFlag Reg.BOOT.BOOT_STAT.NO_CAL false).raise Ev.TST.CAL_STORED

/-- CAL_STORE_END. -/
def execCalStoreEnd (values : List (Fin 256)) (tj : BitVec 16) (left : Option (List (Fin 256))) (s : State) : Result :=
  s.to (doCalStoreEnd values tj left s.chip)

/-- MBIST_DONE (R502, R503): rows repaired, memories with an unrepairable bank (4 to 7 of MBIST_STAT.MEM), and units fenced for theirs. -/
def doMbistDone (rows : Nat) (mems : List (Fin 4)) (units : List (Carrier × Fin 3 × Fin 17)) (s : Chip) : Chip :=
  let s1 := (s.setFlag Reg.TST.MBIST_STAT.DONE true).bumpSat Reg.TST.MBIST_STAT.REPAIRED rows
  let s2 := mems.foldl (fun u m =>
    ((u.setFlag Reg.TST.MBIST_STAT.UNREP true).setF Reg.TST.MBIST_STAT.MEM (4 + m.val)).raise Ev.TST.MBIST_FAIL) s1
  let s3 := units.foldl (fun u p =>
    if p.2.2.val < Grp.units p.2.1.val ∧ (u.grpOf p.1 p.2.1.val).fenced.testBit p.2.2.val = false then
      u.fenceIdle p.1 p.2.1.val p.2.2.val
    else u) s2
  ((s3.grpSettle .A).grpSettle .B).settle

/-- MBIST_DONE. -/
def execMbistDone (rows : Nat) (mems : List (Fin 4)) (units : List (Carrier × Fin 3 × Fin 17)) (s : State) : Result :=
  s.to (doMbistDone rows mems units s.chip)

end Sys2Proof.Machine
end

