-- ==== Sys2Proof/Machine/Views.lean ====
section
/-! DEFINITION. What a read of a register returns (R4 to R9): the stored word, with the fields that the model derives from other state,
and the HI shadows of 64-bit pairs. -/

namespace Sys2Proof.Machine

/-- The bases of the blocks and sub-blocks that have event registers (R430, R432). -/
def evtBases : List Nat := (List.range 32).flatMap srcBases

/-- The block whose event register an address is, at an offset from its base. -/
def evtBlock (a off : Nat) : Option Nat := if off ≤ a ∧ evtBases.contains (a - off) = true then some (a - off) else none

/-- The base of the block or sub-block (R430) that an address lies in: the lanes and the ports are sub-blocks of their own. -/
def blockBase (a : Nat) : Nat :=
  if 0x02000000 ≤ a ∧ a < 0x02100000 then a / 0x10000 * 0x10000
  else if 0x02200000 ≤ a ∧ a < 0x02210000 then a / 0x1000 * 0x1000
  else a / 0x100000 * 0x100000

/-- The carrier whose block an address lies in. -/
def carrierOf (a : Nat) : Carrier := if 0x01800000 ≤ a ∧ a < 0x02000000 then .B else .A

/-- A bit of a word set to a truth value. -/
def Word.putBit (w : Word) (b : Nat) (v : Bool) : Word := Word.setField w b 1 v.toNat

/-- ACQ_STAT of a receiver (R116). -/
def RcvSt.acqWord (v : RcvSt) : Word :=
  BitVec.ofNat 32 (v.lastFail * 2 ^ 16 + v.attempts * 2 ^ 8 + v.warmValid.toNat * 32 + v.warm.toNat * 16 + v.state)

/-- The derived fields of the registers of a carrier (R67, R98, R116, R139, R164, R367), by the address `b` of carrier A. -/
def Chip.viewLine (s : Chip) (c : Carrier) (a b : Nat) : Word :=
  let raw := s.rd a
  let v := s.rcvOf (.car c)
  if b = 0x01000024 then Word.setField raw 0 10 (s.atten c)
  else if b = 0x01100004 then
    Word.setField raw 0 4 (v.cpr.toNat * 8 + v.cfr.toNat * 4 + v.tr.toNat * 2 + v.bfly.toNat)
  else if b = 0x01100080 then s.grpStat c 0
  else if 0x01100090 ≤ b ∧ b < 0x011000B4 then s.unitStat c 0 ((b - 0x01100090) / 4) a
  else if b = 0x01200010 then v.acqWord
  else if b = 0x01300008 then
    let w := Word.setField (Word.setField (Word.putBit raw 24 v.ub) 16 3 v.cwPhase) 0 4 (s.iterLimit c)
    Word.putBit (Word.putBit (Word.setField w 8 5 (s.stairWindow c)) 20 v.cwLock) 21 (decide (s.stairWindow c ≤ v.blocks))
  else if b = 0x01300010 then s.grpStat c 1
  else if 0x01300040 ≤ b ∧ b < 0x01300078 then s.unitStat c 1 ((b - 0x01300040) / 4) a
  else if 0x01600100 ≤ b ∧ b < 0x01600140 then
    let q : Fin 16 := Fin.ofNat 16 ((b - 0x01600100) / 4)
    let x := s.rcvOf (.sub c q)
    BitVec.ofNat 32 (x.ub.toNat * 256 + x.los.toNat * 128 + (s.bitOf (Reg.SUBC.SC_SF.SF c) q.val).toNat * 64 + x.warmValid.toNat * 32 + x.state)
  else if b = 0x01700020 ∨ b = 0x01700030 then Word.putBit raw 29 (s.keyActive c true ((b - 0x01700020) / 16))
  else if b = 0x01700040 ∨ b = 0x01700050 then Word.putBit raw 29 (s.keyActive c false ((b - 0x01700040) / 16))
  else if b = 0x01700060 then BitVec.ofNat 32 (s.grpOf c 2).fenced
  else if b = 0x01700064 then
    BitVec.ofNat 32 (((s.grpOf c 2).inServiceUnits 2).length * 2 ^ 16 + (s.grpOf c 2).reserve.getD 0x1F)
  else if 0x01700080 ≤ b ∧ b < 0x017000C4 then s.unitStat c 2 ((b - 0x01700080) / 4) a
  else raw

/-- The service jobs running or suspended on a slot (R357). -/
def Chip.slotUses (s : Chip) (k : Nat) : Nat :=
  ((s.sec.cores.map Prod.snd) ++ s.sec.susp).countP fun j => j.slot == k

/-- KS_SLOT of a slot (R369). -/
def Chip.slotWord (s : Chip) (k : Nat) : Word :=
  let v := s.slotOf k
  let attr := match v.key with
    | some x => 2 ^ 31 + x.usage * 2 ^ 24 + (x.len - 16) / 8 * 2 ^ 20
    | none => 0
  BitVec.ofNat 32 (attr + v.pend.isSome.toNat * 2 ^ 30 + (s.slotActive k).toNat * 2 ^ 29 + (s.slotNext k).toNat * 2 ^ 28 + s.slotUses k % 256)

/-- The derived fields of the registers of the blocks that are not a carrier's (R3, R260, R267, R271, R317, R358, R369, R379, R422, R431, R436,
R493). -/
def Chip.viewChip (s : Chip) (a : Nat) : Word :=
  let raw := s.rd a
  if a = 0 then Word.setField raw 4 4 s.fuse.grade
  else if a = 0x10 then Word.putBit s.faultBits 8 s.faultDriven
  else if a = 0x80 then s.evtSum
  else if a = 0x00200000 then Word.putBit raw 20 s.fuse.authOnly
  else if a = 0x00600030 then BitVec.ofNat 32 (min s.hoElapsed (2 ^ 32 - 1))
  else if 0x00600110 ≤ a ∧ a < 0x00600210 ∧ (a - 0x00600110) % 32 = 0 then BitVec.ofNat 32 (s.refWtr ((a - 0x00600110) / 32))
  else if a = 0x00800004 then Word.putBit (Word.putBit raw 31 s.fuse.otpKey.isSome) 30 s.fuse.otpKilled
  else if 0x00800100 ≤ a ∧ a < 0x00800300 then
    let k := (a - 0x00800100) / 8
    if a % 8 = 0 then s.slotWord k
    else match (s.slotOf k).key with | some x => BitVec.ofNat 32 x.label | none => 0
  else if a = 0x00800400 then
    BitVec.ofNat 32 (s.sec.susp.length * 2 ^ 24 + s.sec.cores.foldl (fun n p => n + 2 ^ p.1) 0)
  else if 0x00A00100 ≤ a ∧ a < 0x00A00280 ∧ ((a - 0x00A00100) % 64 = 0x0C ∨ (a - 0x00A00100) % 64 = 0x10) then
    let sig := s.sigExp ((a - 0x00A00100) / 64 % 3)
    if (a - 0x00A00100) % 64 = 0x0C then BitVec.ofNat 32 sig else BitVec.ofNat 32 (sig / 2 ^ 32)
  else if a = 0x00B00000 then Word.setField raw 0 16 s.fuse.vendor
  else if a = 0x00B00020 then BitVec.ofNat 32 (s.fuse.ssid % 2 ^ 16 * 2 ^ 16 + s.fuse.ssvid % 2 ^ 16)
  else if 0x02200000 ≤ a ∧ a < 0x02210000 ∧ a % 0x1000 = 8 then Word.setField raw 10 6 (s.egressCauses ((a - 0x02200000) / 0x1000))
  else if 0x02301000 ≤ a ∧ a < 0x02301200 ∧ a % 16 = Reg.XC.XC_TRIB_STAT.addr 0 % 16 then Word.putBit raw 24 (s.tribFail ((a - 0x02301000) / 16))
  else if 0x02401000 ≤ a ∧ a < 0x02402000 ∧ a % 256 = 0x48 then
    let g := (a - 0x02401000) / 256
    let v := s.pgOf g
    if v.wtr then BitVec.ofNat 32 (s.getF (Reg.PROT.TIMER_CFG.WTR g) - s.secsSince v.wtrAt) else 0
  else raw

/-- The levels of the GPIO pins (R529, R530): those that the device drives, and for the others what the board sets, which is left open. -/
def Chip.gpioLevels (s : Chip) : Word × Chip :=
  let out := s.rd Reg.TOP.GPIO_OUT.addr
  let driven := s.rd Reg.TOP.GPIO_DIR.addr &&& ~~~(s.rd Reg.TOP.GPIO_OD.addr &&& out)
  (((out &&& driven) ||| (BitVec.ofNat 32 s.free.1 &&& ~~~driven)) &&& 0xFFFF#32, s.free.2)

/-- The word at a register address without the HI shadows. What an eye register measures is left open; `TX_FFE_4` shares its address. -/
def Chip.readWord (s : Chip) (a : Nat) : Word × Chip :=
  match evtBlock a 0xF0 with
  | some base => (s.evtStat base, s)
  | none =>
    if a = 0x30C then s.gpioLevels
    else if 0x02000000 ≤ a ∧ a < 0x02100000 ∧ a % 0x10000 = 0x30 ∧ Config.readOfEyeIsTap = false then (BitVec.ofNat 32 s.free.1, s.free.2)
    else if RegMap.inCarrier a then (s.viewLine (carrierOf a) a (RegMap.toA a), s)
    else (s.viewChip a, s)

/-- The LO registers of the 64-bit pairs (R7), by block as the register map has them; the 64 latches of VEC_ACK are no value. -/
def loRows : List (Nat × List (Nat × Nat)) := [
  (0x01000048, []), (0x01100038, []), (0x01100120, []), (0x01100128, []), (0x01300100, []), (0x01300108, []), (0x01300110, []),
  (0x01300118, []), (0x01300120, []), (0x01300128, []), (0x01300130, []), (0x01600028, []), (0x01610000, [(32, 0x800)]),
  (0x01610010, [(32, 0x800)]), (0x01601020, [(16, 0x100)]), (0x01601028, [(16, 0x100)]), (0x01601050, [(16, 0x100)]),
  (0x01601058, [(16, 0x100)]), (0x01601060, [(16, 0x100)]), (0x01410800, [(16, 0x1000)]), (0x01410808, [(16, 0x1000)]),
  (0x01410810, [(16, 0x1000)]), (0x01410818, [(16, 0x1000)]), (0x01410820, [(16, 0x1000)]), (0x01410828, [(16, 0x1000)]),
  (0x01510100, [(16, 0x1000)]), (0x01510120, [(16, 0x1000)]), (0x01510138, [(16, 0x1000)]),
  (0x01510140, [(16, 0x1000), (16, 64)]), (0x01510160, [(16, 0x1000), (16, 64)]), (0x01510178, [(16, 0x1000), (16, 64)]),
  (0x02000018, [(16, 0x10000)]), (0x02000050, [(16, 0x10000)]), (0x02000058, [(16, 0x10000)]), (0x02200040, [(16, 0x1000)]),
  (0x02200048, [(16, 0x1000)]), (0x02200050, [(16, 0x1000)]), (0x02200058, [(16, 0x1000)]), (0x02200060, [(16, 0x1000)]),
  (0x02200070, [(16, 0x1000)]), (0x00700010, []), (0x00700020, []), (0x00701000, [(64, 64)]), (0x0070101C, [(64, 64)]),
  (0x02401058, [(16, 0x100)]), (0x02401060, [(16, 0x100)]), (0x02401070, [(16, 0x100)]), (0x01710008, [(16, 0x100)]),
  (0x00300020, []), (0x00500008, []), (0x00A00104, [(2, 192), (3, 64)]), (0x00A0010C, [(2, 192), (3, 64)])]

/-- Whether an address is the LO register of a pair. -/
def isLo (a : Nat) : Bool :=
  loRows.any fun r => decide (r.1 ≤ RegMap.toA a) && RegRow.hits (RegMap.toA a - r.1) r.2

/-- A read of a register by a master (R6 to R8, R446): LO latches HI into the master's shadow of the block, HI returns the shadow; the first
counter of a chain latches the rest, which read from the master's shadows. -/
def Chip.readReg (s : Chip) (m a : Nat) : Word × Chip :=
  let key := 8 * blockBase a + m
  if isLo a then
    let r := s.readWord a
    let hi := (r.2.readWord (a + 4)).1
    (r.1, { r.2 with top := { r.2.top with hi := Tab.put 0 r.2.top.hi key hi } })
  else if 4 ≤ a ∧ isLo (a - 4) = true then (Tab.get 0 s.top.hi key, s)
  else if 0x00501000 ≤ a ∧ a < 0x00501800 then
    let k := (a - 0x00501000) / 4
    if 0 < k ∧ s.chained (k - 1) = true then (Tab.get 0 s.evcs.chain (512 * m + k), s)
    else ((s.readWord a).1, doChainRead (Fin.ofNat 8 m) (Fin.ofNat 512 k) s)
  else s.readWord a

end Sys2Proof.Machine
end

