-- ==== Sys2Proof/Machine/Wst.lean ====
section
/-! DEFINITION. The meanings of the commands of Wellspring time, PPS, the Tamust channel and fixed-latency mode (R280 to R293, R301, R304,
R305). -/

namespace Sys2Proof.Machine

/-- CAPTURE (R282). -/
def doCapture (s : Chip) : Chip :=
  let s1 := (s.setF Reg.WST.CAP_SEC_LO.SEC s.wst.sec).setF Reg.WST.CAP_SEC_HI.SEC (s.wst.sec / 2 ^ 32)
  (s1.setF Reg.WST.CAP_NS.NS (s.wst.t16 / 65536)).setF Reg.WST.CAP_FRAC.FRAC (s.wst.t16 % 65536)

/-- CAPTURE. -/
def execCapture (s : State) : Result := s.to (doCapture s.chip)

/-- PHASE_ADJ (R281): a step above STEP_THR, else added to the slew in progress. -/
def doPhaseAdj (v : Word) (s : Chip) : Chip :=
  let d := sgn 32 v.toNat
  if s.getF Reg.WST.SLEW_CFG.STEP_THR * 1000 < d.natAbs then s.stepBy (d * 65536)
  else { s with wst := { s.wst with slew := s.wst.slew + d * 65536 } }

/-- PHASE_ADJ. -/
def execPhaseAdj (v : Word) (s : State) : Result := s.to (doPhaseAdj v s.chip)

/-- The signed distance of an instant from the nearest whole second, in 2^-16 ps; half-way between two it is either. -/
def Chip.fromSecond (s : Chip) (t : Int) : Int × Chip :=
  let sec : Int := (secT16 * 1000 : Nat)
  let r := t % sec
  if 2 * r < sec then (r, s)
  else if sec < 2 * r then (r - sec, s)
  else (if s.free.1 % 2 = 0 then r else r - sec, s.free.2)

/-- PPS_EDGE (R280, R283, R293): the distance is latched, validity begins with the second edge of a run, and the selected source corrects. -/
def doPpsEdge (i : Fin 2) (s : Chip) : Chip :=
  let bit := 2 ^ i.val
  let d := s.fromSecond ((s.wstFine : Int) - ((s.getF (Reg.WST.PPSIN_DLY.PS i.val) * 65536 : Nat) : Int))
  let r := d.2.roundFree d.1 65536
  let ps : Int := if (2 ^ 31 - 1 : Int) < r.1 then 2 ^ 31 - 1 else if r.1 < -(2 ^ 31 : Int) then -(2 ^ 31 : Int) else r.1
  let s1 := r.2.setS (Reg.WST.PPSIN_ERR.PS i.val) ps
  let seen := s.wst.ppsSeen.testBit i.val
  let s2 : Chip := { s1 with wst := { s1.wst with ppsSeen := s1.wst.ppsSeen ||| bit
                                                  ppsValid := if seen then s1.wst.ppsValid ||| bit else s1.wst.ppsValid } }
  let s3 := s2.timeSettle
  if s3.timeSrc = i.val + 1 ∧ s3.srcValid = true then s3.correct d.1 1 else s3

/-- PPS_EDGE. -/
def execPpsEdge (i : Fin 2) (s : State) : Result := s.to (doPpsEdge i s.chip)

/-- PPS_TIMEOUT (R280). -/
def doPpsTimeout (i : Fin 2) (s : Chip) : Chip :=
  let off := fun (m : Nat) => m - (m &&& 2 ^ i.val)
  { s with wst := { s.wst with ppsSeen := off s.wst.ppsSeen, ppsValid := off s.wst.ppsValid } }.timeSettle

/-- PPS_TIMEOUT. -/
def execPpsTimeout (i : Fin 2) (s : State) : Result := s.to (doPpsTimeout i s.chip)

/-- Whether PPSOUT is high: for WIDTH µs of elapsed WST clocks after its rise (R284). -/
def Chip.ppsOut (s : Chip) : Bool :=
  s.wst.ppsRise.any fun r => decide (s.now < r + max 1 (s.getF Reg.WST.PPSOUT_CFG.WIDTH) * 1600)

/-- PPSOUT_PULSE (R284). -/
def doPpsoutPulse (s : Chip) : Chip :=
  if s.flag Reg.WST.PPSOUT_CFG.EN then { s with wst := { s.wst with ppsRise := some s.now } } else s

/-- PPSOUT_PULSE. -/
def execPpsoutPulse (s : State) : Result := s.to (doPpsoutPulse s.chip)

/-- TT_SOURCE_TIMEOUT (R280, R293). -/
def doTtSourceTimeout (s : Chip) : Chip := { s with wst := { s.wst with ttValid := false } }.timeSettle

/-- TT_SOURCE_TIMEOUT. -/
def execTtSourceTimeout (s : State) : Result := s.to (doTtSourceTimeout s.chip)

/-- A stamp of a frame that a port still holds. -/
def stampOf (l : List (Nat × Nat)) (fsn : Nat) : Option Nat := (l.find? fun p => p.1 == fsn).map Prod.snd

/-- An exchange that the path check discards (R293): after 8 in a row the mean is reloaded from the last one. -/
def Chip.pathJump (s : Chip) (pd2 : Int) : Chip :=
  let s1 := (s.bump Reg.WST.PATH_JUMP_CNT.COUNT).raise Ev.WST.PATH_JUMP
  let n := s1.wst.jumps + 1
  if 8 ≤ n then
    ({ s1 with wst := { s1.wst with jumps := 0 } }.latchPs Reg.WST.MEAN_PD.PS pd2 2).raise Ev.WST.PATH_CHANGE
  else { s1 with wst := { s1.wst with jumps := n } }

/-- An accepted exchange (R280, R293): 2 θ joins the average, and the last of TT_AVG corrects. How the running mean moves is left open. -/
def Chip.acceptExchange (s : Chip) (theta2 pd2 : Int) (gm hops : Nat) : Chip :=
  let s0 := if s.wst.pdLoaded then s.free.2.setF Reg.WST.MEAN_PD.PS s.free.1 else s.latchPs Reg.WST.MEAN_PD.PS pd2 2
  let s1 := (s0.bump Reg.WST.EXCH_CNT.COUNT).evc 69
  let n := s1.wst.ttN + 1
  let sum := s1.wst.ttSum + theta2
  let done := decide (max 1 (s1.getF Reg.WST.TIME_CFG.TT_AVG) ≤ n)
  let s2 : Chip := { s1 with wst := { s1.wst with pdLoaded := true, jumps := 0, ttValid := true, peerGm := gm, peerHops := hops
                                                  ttN := if done then 0 else n, ttSum := if done then 0 else sum } }
  let s3 := s2.timeSettle
  if done then s3.correct sum (2 * n) else s3

/-- A TIME message received on a port (R292, R293): on TT_PORT with SRC = 3 it forms an exchange. -/
def Chip.timeExchange (s : Chip) (p : Nat) (l : List Nat) : Chip :=
  if s.timeSrc ≠ 3 ∨ s.getF Reg.WST.TIME_CFG.TT_PORT ≠ p ∨ l.length ≠ 36 then s
  else
    let v := s.portOf p
    let status := l.getD 35 0
    let synced := status.testBit 0
    let t1 : Int := (instantOf ((l.drop 4).take 12) * 1000 : Nat)
    let t4 : Int := (instantOf ((l.drop 20).take 12) * 1000 : Nat)
    match stampOf v.rxStamps (ofBytes (l.take 4)), stampOf v.txStamps (ofBytes ((l.drop 16).take 4)), synced && status.testBit 2 with
    | some t2, some t3, true =>
      let asym := s.getS (Reg.WST.ASYM.PS (p / 16)) * 65536
      let theta2 := ((t2 : Int) - t1) - (t4 - (t3 : Int)) - asym
      let pd2 := ((t2 : Int) - t1) + (t4 - (t3 : Int))
      let mean := s.getS Reg.WST.MEAN_PD.PS * 65536
      if s.wst.pdLoaded && decide (2 * s.getF Reg.WST.SYNC_CFG.PD_THR * 1000 * 65536 < (pd2 - 2 * mean).natAbs) then s.pathJump pd2
      else s.acceptExchange theta2 pd2 (ofBytes ((l.drop 32).take 2) % 16384) (l.getD 34 0)
    | _, _, _ =>
      let s1 := s.bump Reg.WST.TT_STALE.COUNT
      if synced then s1 else { s1 with wst := { s1.wst with ttValid := false } }.timeSettle

/-- TIME_MSG_RX (R292). -/
def doTimeMsgRx (p : Fin 32) (payload : List Nat) (s : Chip) : Chip := s.timeExchange p.val payload

/-- TIME_MSG_RX. -/
def execTimeMsgRx (p : Fin 32) (payload : List Nat) (s : State) : Result := s.to (doTimeMsgRx p payload s.chip)

/-- A message consumed (R288): TIME and APS by hardware, the others by firmware, through its receive ring; a HELLO names the peer. -/
def Chip.consume (s : Chip) (p : Nat) (m : TtMsg) : Chip :=
  match m.type with
  | 1 => s.timeExchange p m.payload
  | 2 => match m.payload with
    | [b0, b1, b2, b3] => s.apsAccept m.src m.seq b0 b1 b2 b3
    | _ => s
  | n =>
    let peer := n == 0 && m.hops == 0
    { s with wst := { s.wst with ring := s.wst.ring ++ [(p, m)]
                                 peers := if peer then Tab.put 0x10000 s.wst.peers p m.src else s.wst.peers } }

/-- A message sent on by firmware (R301): HOPS advances; a broadcast goes to every enabled port but its own, once per source and sequence number
in 10 s. -/
def Chip.forward (s : Chip) (p : Nat) (m : TtMsg) (route : Option Nat) : Chip :=
  let m' := { m with hops := m.hops + 1 }
  if m.bcast then
    let seen := s.wst.casts.any fun k => k.1 == m.src && k.2.1 == m.seq && decide (s.now < k.2.2 + 16000000000)
    if seen then s
    else
      let kept := s.wst.casts.filter fun k => decide (s.now < k.2.2 + 16000000000)
      let s1 : Chip := { s with wst := { s.wst with casts := (m.src, m.seq, s.now) :: kept } }
      (List.range 32).foldl (fun u q => if q = p then u else u.sendOn q 2 m') s1
  else match route with
    | some q => s.sendOn q 2 m'
    | none => s

/-- A message received whole on a port (R286, R288, R301): discarded, dropped, consumed, forwarded. -/
def Chip.tamustReceive (s : Chip) (p : Nat) (bytes : List Nat) (aborted : Bool) (route : Option Nat) : Chip :=
  match (if aborted then none else TtMsg.parse bytes) with
  | none => s.bump Reg.WST.RX_BAD.COUNT
  | some m =>
    let s1 := s.evc (67 + p / 16)
    if 64 ≤ m.hops then s1
    else
      let own := s1.flag Reg.WST.NODE_ID.VALID && s1.nodeId == m.dst
      let s2 := if m.bcast || own then s1.consume p m else s1
      let hard := m.type == 1 || m.type == 2 || m.type == 6
      if (m.bcast && !hard) || (!m.bcast && !own && s1.flag Reg.WST.NODE_ID.VALID) then s2.forward p m route else s2

/-- TAMUST_MSG_RX (R286, R288, R301). -/
def doTamustMsgRx (p : Fin 32) (bytes : List Nat) (aborted : Bool) (route : Option (Fin 32)) (s : Chip) : Chip :=
  if s.flag (Reg.WST.TT_PORT_CFG.EN p.val) then s.tamustReceive p.val bytes aborted (route.map Fin.val) else s

/-- TAMUST_MSG_RX. -/
def execTamustMsgRx (p : Fin 32) (bytes : List Nat) (aborted : Bool) (route : Option (Fin 32)) (s : State) : Result :=
  s.to (doTamustMsgRx p bytes aborted route s.chip)

/-- TIME_MSG_TX (R289, R291): a TIME message waits for its turn; its payload is taken when it begins. -/
def doTimeMsgTx (p : Fin 32) (s : Chip) : Chip :=
  if s.flag (Reg.WST.TT_PORT_CFG.TIME_EN p.val) then
    let m := s.newMsg 1 true 0x3FFF []
    m.2.sendOn p.val 1 m.1
  else s

/-- TIME_MSG_TX. -/
def execTimeMsgTx (p : Fin 32) (s : State) : Result := s.to (doTimeMsgTx p s.chip)

/-- HELLO_TX (R288): node ID, port and device serial. -/
def doHelloTx (p : Fin 32) (s : Chip) : Chip :=
  let m := s.newMsg 0 true 0x3FFF (bytesMsb 2 s.nodeId ++ [p.val] ++ bytesMsb 8 s.fuse.serial)
  if s.flag (Reg.WST.TT_PORT_CFG.EN p.val) then m.2.sendOn p.val 2 m.1 else s

/-- HELLO_TX. -/
def execHelloTx (p : Fin 32) (s : State) : Result := s.to (doHelloTx p s.chip)

/-- FL_ENABLE (R304): the bounds of the carrier's trails are computed. -/
def doFlEnable (c : Carrier) (s : Chip) : Chip := (s.setBit ⟨Reg.WST.FL_CFG.addr, 0, 2⟩ c.ix).flRecompute c

/-- FL_ENABLE. -/
def execFlEnable (c : Carrier) (s : State) : Result := s.to (doFlEnable c s.chip)

/-- FL_DISABLE (R304): every bound and flag of the carrier reads 0. -/
def doFlDisable (c : Carrier) (s : Chip) : Chip := (s.clrBit ⟨Reg.WST.FL_CFG.addr, 0, 2⟩ c.ix).flRecompute c

/-- FL_DISABLE. -/
def execFlDisable (c : Carrier) (s : State) : Result := s.to (doFlDisable c s.chip)

/-- FL_HELD (R304, R305): HELD sets; after a move to a new bound FL_CHANGE is raised. -/
def doFlHeld (c : Carrier) (t : Fin 16) (rx : Bool) (s : Chip) : Chip :=
  let f := if rx then Reg.WST.FL_FLAGS.RX_HELD c.ix t.val else Reg.WST.FL_FLAGS.TX_HELD c.ix t.val
  let bound := s.getF (if rx then Reg.WST.FL_RX.PS c.ix t.val else Reg.WST.FL_TX.PS c.ix t.val)
  let i := 16 * c.ix + t.val
  let v := Tab.get {} s.wst.fl i
  let moved := if rx then v.rxMoved else v.txMoved
  if bound = 0 ∨ s.flag f = true then s
  else
    let v' : FlSt := if rx then { v with rxMoved := false } else { v with txMoved := false }
    let s1 := s.setFlag f true
    { s1 with wst := { s1.wst with fl := Tab.put {} s1.wst.fl i v' } }.raiseIf moved Ev.WST.FL_CHANGE

/-- FL_HELD. -/
def execFlHeld (c : Carrier) (t : Fin 16) (rx : Bool) (s : State) : Result := s.to (doFlHeld c t rx s.chip)

/-- FL_SLIP (R305). -/
def doFlSlip (c : Carrier) (t : Fin 16) (rx : Bool) (s : Chip) : Chip :=
  let f := if rx then Reg.WST.FL_FLAGS.RX_HELD c.ix t.val else Reg.WST.FL_FLAGS.TX_HELD c.ix t.val
  if s.flag f then (s.bump (Reg.WST.FL_SLIP_CNT.COUNT c.ix t.val)).raise Ev.WST.FL_SLIP else s

/-- FL_SLIP. -/
def execFlSlip (c : Carrier) (t : Fin 16) (rx : Bool) (s : State) : Result := s.to (doFlSlip c t rx s.chip)

end Sys2Proof.Machine
end

