-- ==== Sys2Proof/Machine/Access.lean ====
section
/-! DEFINITION. What a write of a register does, whoever writes it (R4 to R6, R9 to R11, R430): the field updates of its access types, and the
steps that a write of a command bit or of an enable starts. -/

namespace Sys2Proof.Machine

/-- A write that only sets, shadows or clears fields by their access types (R4, R5); an address that no chapter assigns ignores it (R430). -/
def Chip.plainWrite (s : Chip) (a : Nat) (w : Word) : Chip :=
  match RegMap.row? a with
  | some r => s.wr a (r.write (s.rd a) w)
  | none => s

/-- A write of EVT_STAT of a block (R9 to R11): 1s clear latched bits but those whose event occurs in the same clock; a non-maskable bit clears
only once its cause has ended; bits in level behaviour ignore it. -/
def Chip.evtClear (s : Chip) (base : Nat) (w now : Word) : Chip :=
  let nm := nmMask base
  let may := (s.rd (base + 0xF8) &&& ~~~nm) ||| (nm &&& ~~~(s.liveWord base))
  let s1 := s.wr (base + 0xF0) (s.rd (base + 0xF0) &&& ~~~(w &&& may &&& ~~~now))
  if base = 0x00100000 then s1.timSettle else s1

/-- A write of EVT_STICKY of a block (R9): bits that go to level behaviour hold no record. -/
def Chip.evtSticky (s : Chip) (base : Nat) (w : Word) : Chip :=
  let s1 := s.plainWrite (base + 0xF8) w
  s1.wr (base + 0xF0) (s1.rd (base + 0xF0) &&& (s1.rd (base + 0xF8) ||| nmMask base))

/-- The bits set in the low n bits of a word. -/
def Word.bitsOf (w : Word) (n : Nat) : List Nat := (List.range n).filter w.bit

/-- A register of TOP written (R433, R436, R438, R440). -/
def Chip.writeTop (s : Chip) (a : Nat) (w : Word) : Chip :=
  if a = 0x20 then doCommit (Fin.ofNat _ w.toNat) s
  else if a = 0x24 then s.shadowRevert w.toNat
  else if a = 0x200 ∨ a = 0x204 then
    (Word.bitsOf w 32).foldl (fun u b => doVecAck (Fin.ofNat 64 (32 * ((a - 0x200) / 4) + b)) u) s
  else s.plainWrite a w

/-- GATE_CTRL written (R464, R465): each bit requests a gate, withdraws a pending request or ungates. -/
def Chip.writeGate (s : Chip) (m : Fin 8) (w : Word) : Chip :=
  (List.range 6).foldl (fun u k =>
    let i := Fin.ofNat 6 k
    if w.bit k then doGateRequest m i u
    else if u.bitOf Reg.CLK.GATE_STAT.PENDING k then doGateCancel i u
    else doUngate i u) s

/-- RST_CTRL written (R467, R468): the island bits, then a system or device reset with the key. -/
def Chip.writeReset (s : Chip) (m : Fin 8) (w : Word) : Chip :=
  let s1 := (List.range 6).foldl (fun u k =>
    let i := Fin.ofNat 6 k
    if w.bit (8 + k) then doIslRstSet i u else doIslRstRelease i u) s
  if m.val = 4 ∧ w.field 16 16 = resetKey ∧ w.bit 0 = true then doDeviceReset m w s1 else doSystemReset w s1

/-- A register of CLK written (R457, R463 to R470). -/
def Chip.writeClk (s : Chip) (m : Fin 8) (a : Nat) (w : Word) : Chip :=
  if a = Reg.CLK.ROOT_CFG.addr then doRootCfgWrite w s
  else if a = Reg.CLK.GATE_CTRL.addr then s.writeGate m w
  else if a = Reg.CLK.RST_CTRL.addr then s.writeReset m w
  else if a = Reg.CLK.PWR_CTRL.addr then
    if w.bit 0 then doDeepSleep w s else s.plainWrite a w
  else s.plainWrite a w

/-- BOOT_CTRL written (R373, R375, R379, R383): GOLD_WE from the PCIe master only. -/
def Chip.writeBootCtrl (s : Chip) (m : Fin 8) (w : Word) : Chip :=
  let s1 := s.setFlag Reg.BOOT.BOOT_CTRL.NEXT_IMAGE (w.bit 5)
  let s2 := if m.val = 4 then s1.setFlag Reg.BOOT.BOOT_CTRL.GOLD_WE (w.bit 8) else s1
  let s3 := if w.bit 4 then doClrBad s2 else s2
  let s4 := if w.bit 0 then doConfirm s3 else s3
  let s5 := if w.bit 1 then doFullSvc s4 else s4
  if w.bit 12 then doAuthLock m s5 else s5

/-- A register of BOOT written (R375, R394). -/
def Chip.writeBoot (s : Chip) (m : Fin 8) (a : Nat) (w : Word) : Chip :=
  if a = Reg.BOOT.BOOT_CTRL.addr then s.writeBootCtrl m w
  else if a = Reg.BOOT.XSPI_CMD.addr ∧ w.bit 31 = true then
    match w.field 24 2 with
    | 0 => doXspiRead w s
    | 1 => doXspiProgram w s
    | 2 => doXspiErase w s
    | _ => doXspiOther w s
  else s.plainWrite a w

/-- A register of POOL written (R399, R406, R407, R409, R410). -/
def Chip.writePool (s : Chip) (m : Fin 8) (a : Nat) (w : Word) : Chip :=
  if 0x00300000 ≤ a ∧ a < 0x00300010 then doPoolOwnWrite (Fin.ofNat 4 ((a - 0x00300000) / 4)) m (Fin.ofNat 8 (w.field 0 3)) s
  else if a = Reg.POOL.SCRUB_CTRL.addr then
    let s1 := if w.bit 0 then doScrubGo s else s
    if w.bit 1 then doScrubStop s1 else s1
  else if a = Reg.POOL.REPAIR_CTRL.addr ∧ w.bit 31 = true then
    doRepairGo (Fin.ofNat 4 (w.field 24 2)) (Fin.ofNat 4 (w.field 16 2)) (Fin.ofNat 512 (w.field 0 9)) s
  else if a = Reg.POOL.MEV_CTRL.addr then (if w.bit 0 then doMevPop s else s)
  else s.plainWrite a w

/-- A register of MGMT written (R385 to R387, R391): the extension's windows by privileged writes only. -/
def Chip.writeMgmt (s : Chip) (m : Fin 8) (user : Bool) (a : Nat) (w : Word) : Chip :=
  if a < 0x00400100 then
    let k := Fin.ofNat 4 ((a - 0x00400000) / 0x40)
    if a % 0x40 = 0 then (if w.bit 1 then doCoreRestart k (w.bit 0) s else s.coreHold k.val (w.bit 0))
    else if a % 0x40 = 0x10 then doWdtKick m k s
    else s.plainWrite a w
  else if a = Reg.MGMT.H2F_CTRL.addr ∧ w.bit 31 = true then doH2fGo w s
  else if 0x00400300 ≤ a ∧ a < 0x00400380 ∧ user = true then s
  else s.plainWrite a w

/-- A register of EVC written (R448, R449, R451). -/
def Chip.writeEvc (s : Chip) (a : Nat) (w : Word) : Chip :=
  if a = Reg.EVC.EVC_CTRL.addr then (if w.bit 0 then doSnapNow s else s)
  else if a = Reg.EVC.SMP_CFG.addr then doSmpConfigWrite false w s
  else if a = Reg.EVC.SMP_PERIOD.addr then doSmpConfigWrite true w s
  else if a = Reg.EVC.SMP_RP.addr then doSmpRpWrite (w.field 0 12) s
  else s.plainWrite a w

/-- A register of TIM written (R266, R271, R272). -/
def Chip.writeTim (s : Chip) (a : Nat) (w : Word) : Chip :=
  if a = Reg.TIM.HO_CTRL.addr then (if w.bit 0 then doHistClr s else s)
  else if a = Reg.TIM.DCO_FREQ.addr then doDcoFreqWrite w s
  else (s.plainWrite a w).timSettle

/-- A register of a ripple slot written (R295). -/
def Chip.writeSlot (s : Chip) (k : Nat) (a : Nat) (w : Word) : Chip :=
  let off := a % 0x40
  if off = 0x24 then
    if w.bit 0 && w.bit 1 then s else if w.bit 0 then s.armSlot k else if w.bit 1 then s.disarmSlot k else s
  else if off < 0x24 ∧ s.ripArmed k = true then s.raise Ev.WST.RIP_BUSY
  else s.plainWrite a w

/-- FL_CFG written (R304). -/
def Chip.writeFl (s : Chip) (w : Word) : Chip :=
  [Carrier.A, Carrier.B].foldl (fun u c =>
    if w.bit c.ix == u.bitOf ⟨Reg.WST.FL_CFG.addr, 0, 2⟩ c.ix then u else if w.bit c.ix then doFlEnable c u else doFlDisable c u) s

/-- A register of WST written (R279 to R305). -/
def Chip.writeWst (s : Chip) (a : Nat) (w : Word) : Chip :=
  if a = Reg.WST.TIME_CTRL.addr then (if w.bit 0 then doCapture s else s)
  else if a = Reg.WST.PHASE_ADJ.addr then doPhaseAdj w s
  else if a = Reg.WST.NODE_ID.addr then (s.setNodeId (w.bit 31) (w.field 0 14)).timeSettle
  else if 0x00701000 ≤ a ∧ a < 0x00702000 then s.writeSlot ((a - 0x00701000) / 0x40) a w
  else if a = Reg.WST.FL_CFG.addr then s.writeFl w
  else (s.plainWrite a w).timeSettle

/-- A register of SEC written (R358, R364). -/
def Chip.writeSec (s : Chip) (m : Fin 8) (a : Nat) (w : Word) : Chip :=
  if a = Reg.SEC.KS_CMD.addr then
    match w.field 28 4 with
    | 1 => doZeroSlot (Fin.ofNat 64 (w.field 0 6)) s
    | 2 => (doZeroAll s).ksResult 0
    | 3 => doProvision m s
    | 4 => doOtpKill s
    | _ => s.ksResult 1
  else if 0x00800020 ≤ a ∧ a < 0x00800040 then
    { s with sec := { s.sec with prov := Tab.put 0 s.sec.prov ((a - 0x00800020) / 4) w.toNat } }
  else s.plainWrite a w

/-- A register of the SPI or I2C controllers written by a master (R485 to R487). -/
def Chip.writeFront (s : Chip) (m : Fin 8) (a : Nat) (w : Word) : Chip :=
  if a = Reg.MON.SPI_CMD.addr 0 ∧ w.bit 31 = true then doSpiGo m 0 w s
  else if a = Reg.MON.SPI_CMD.addr 1 ∧ w.bit 31 = true then doSpiGo m 1 w s
  else if a = Reg.MON.I2C_CMD.addr ∧ w.bit 31 = true then doI2cGo m w s
  else if s.feAccess m.val then s.plainWrite a w else s.feRefuse

/-- A register of MON written (R477, R480, R484, R487). -/
def Chip.writeMon (s : Chip) (m : Fin 8) (a : Nat) (w : Word) : Chip :=
  if a = Reg.MON.MON_CTRL.addr then
    if w.bit 0 then doMonEnSet s else if s.flag Reg.MON.MON_CTRL.EN then doMonEnClear s else s
  else if a = Reg.MON.QUEUE_CTRL.addr then
    let s1 := s.plainWrite a w
    if w.bit 1 then doMonQueueFlush s1 else if w.bit 0 then doMonQueuePop s1 else s1
  else if a = Reg.MON.FE_OWN.addr then (if m.val ≤ 3 then s.plainWrite a w else s.feRefuse)
  else if 0x00900100 ≤ a ∧ a < 0x00900500 then
    let c := (a - 0x00900100) / 32
    if a % 32 = 0 ∨ a % 32 = 4 then (s.plainWrite a w).monClear c
    else if a % 32 = 0x10 ∨ a % 32 = 0x14 then (s.plainWrite a w).monLimitClear c
    else s.plainWrite a w
  else if 0x00901000 ≤ a ∧ a < 0x00901300 then s.writeFront m a w
  else s.plainWrite a w

/-- A register of TST written (R493 to R498, R504): ROT_EN written 0 ends the sessions in progress. -/
def Chip.writeTst (s : Chip) (a : Nat) (w : Word) : Chip :=
  if a = Reg.TST.BIST_CFG.addr then
    let s1 := s.plainWrite a w
    let s2 := if w.bit 31 then s1 else allGroups.foldl (fun u p => u.abandonSession p.1 p.2) s1
    s2.bistSettle
  else if a = Reg.TST.PU_CTRL.addr then (if w.bit 0 then doPuGo s else s)
  else if a = Reg.TST.CAL_CTRL.addr then (if w.bit 0 then doCalRun s else s)
  else if 0x00A00120 ≤ a ∧ a < 0x00A002A0 ∧ a % 0x40 = 0x20 ∧ w.bit 31 = true then
    let k := (a - 0x00A00120) / 0x40
    doRetest (Carrier.ofBit (k / 3)) (Fin.ofNat 3 (k % 3)) (Fin.ofNat 32 (w.field 0 5)) s
  else s.plainWrite a w

/-- A register of PCIE written (R433, R442): an unmasked vector that is pending is sent. -/
def Chip.writePcie (s : Chip) (a : Nat) (w : Word) : Chip :=
  let s1 := s.plainWrite a w
  if 0x00B08000 ≤ a ∧ a < 0x00B08400 then s1.pbaSend else s1

/-- CTRL of TXD written (R60, R61): its three bits together. -/
def Chip.writeTxCtrl (s : Chip) (c : Carrier) (w : Word) : Chip :=
  let was := s.flag (Reg.TXD.CTRL.TX_EN c)
  let s1 := s.plainWrite (Reg.TXD.CTRL.addr c) w
  if was && !w.bit 0 then s1.txEnFalls c else s1.txEval c

/-- ACQ_CTRL written (R105). -/
def Chip.writeAcqCtrl (s : Chip) (c : Carrier) (w : Word) : Chip :=
  let on := s.flag (Reg.ACQ.ACQ_CTRL.ACQ_EN c)
  let s1 := if w.bit 0 && !on then doAcqEnSet c s else if !w.bit 0 && on then doAcqEnClear c s else s
  if w.bit 4 then (if w.bit 5 then doRestartCold c s1 else doRestartWarm c s1) else s1

/-- SLEEP of SUBC written (R151, R152): marks of a hub's downstream receivers; upstream subcarriers of a leaf. -/
def Chip.writeSleep (s : Chip) (c : Carrier) (w : Word) : Chip :=
  let role := s.getF (Reg.SUBC.SC_STAT.ROLE_ACTIVE c)
  (List.range 16).foldl (fun u q =>
    let was := u.bitOf (Reg.SUBC.SLEEP.MASK c) q
    let i := Fin.ofNat 16 q
    if was == w.bit q then u
    else if role = 1 then doHubSleepMark c i (w.bit q) u
    else if role = 2 then (if w.bit q then doUpstreamSleep c i u else doUpstreamWake c i u)
    else u.putBit (Reg.SUBC.SLEEP.MASK c) q (w.bit q)) s

/-- INLET_TX_CTRL written (R157): of SEND and ACK, the one whose row of the table applies in the state. -/
def Chip.writeInletTx (s : Chip) (c : Carrier) (w : Word) : Chip :=
  let s1 := s.plainWrite (Reg.SUBC.INLET_TX_CTRL.addr c) w
  let st := s1.getF (Reg.SUBC.INLET_TX_STAT.STATE c)
  if st = 0 ∨ st = 5 ∨ st = 6 then (if w.bit 1 then doInletSend c s1 else s1)
  else if w.bit 2 then doInletAck c s1 else s1

/-- A register of SUBC written (R146 to R165). -/
def Chip.writeSubc (s : Chip) (c : Carrier) (a : Nat) (w : Word) : Chip :=
  if a = Reg.SUBC.SLEEP.addr c then s.writeSleep c w
  else if a = Reg.SUBC.INLET_CFG.addr c then
    let was := s.flag (Reg.SUBC.INLET_CFG.EN c)
    let s1 := s.plainWrite a w
    if was && !w.bit 0 then doInletEnClear c s1 else s1.inletSettle c
  else if a = Reg.SUBC.INLET_TX_CTRL.addr c then s.writeInletTx c w
  else if a = Reg.SUBC.QUEUE_CTRL.addr c then (if w.bit 1 then doQueueFlush c s else if w.bit 0 then doQueuePop c s else s)
  else s.plainWrite a w

/-- Every trail of a carrier judged anew. -/
def Chip.trailsSettle (s : Chip) (c : Carrier) : Chip := (List.range 16).foldl (fun u t => u.trailSettle c t) s

/-- A register of PMON written (R199, R208). -/
def Chip.writePmon (s : Chip) (c : Carrier) (a : Nat) (w : Word) : Chip :=
  let t := RegMap.toA a % 0x80000 / 0x1000 % 16
  let s1 := s.plainWrite a w
  let s2 := if a = Reg.PMON.PM_CFG.addr c t ∧ w.bit 0 = true then doPmEnable c (Fin.ofNat 16 t) s1 else s1
  let s3 := if a = Reg.PMON.PM_CTRL.addr c t ∧ w.bit 0 = true then doPmClear c (Fin.ofNat 16 t) s2 else s2
  s3.trailSettle c t

/-- A register of LENC written (R343, R344). -/
def Chip.writeLenc (s : Chip) (c : Carrier) (a : Nat) (w : Word) : Chip :=
  if a = Reg.LENC.KEY_CTRL.addr c then
    let s1 := if w.bit 0 then doTxLoad c s else s
    let s2 := if w.bit 1 then doRxLoad c s1 else s1
    if w.bit 4 then doSwapNow c s2 else s2
  else (s.plainWrite a w).lencSettle c

/-- A register of a carrier written. -/
def Chip.writeLine (s : Chip) (c : Carrier) (a : Nat) (w : Word) : Chip :=
  match RegMap.toA a / 0x00100000 with
  | 0x10 => if a = Reg.TXD.CTRL.addr c then s.writeTxCtrl c w else s.plainWrite a w
  | 0x12 => if a = Reg.ACQ.ACQ_CTRL.addr c then s.writeAcqCtrl c w else s.plainWrite a w
  | 0x14 => ((s.plainWrite a w).trailsSettle c).settle
  | 0x15 => s.writePmon c a w
  | 0x16 => s.writeSubc c a w
  | 0x17 => s.writeLenc c a w
  | _ => s.plainWrite a w

/-- A register of a client lane written (R219, R222, R231 to R237). -/
def Chip.writeLane (s : Chip) (l : Nat) (a : Nat) (w : Word) : Chip :=
  let off := a % 0x10000
  if off = 0 then s.laneCfgWrite l w
  else if off = 0x0C then
    let s1 := s.setF (Reg.LANE.LANE_SLEEP.RX_WAKE_TMO l) (w.field 8 8)
    let s2 := if w.bit 0 == s1.flag (Reg.LANE.LANE_SLEEP.TX_SLEEP l) then s1 else s1.txSleepWrite l (w.bit 0)
    if w.bit 1 == s2.flag (Reg.LANE.LANE_SLEEP.RX_SLEEP l) then s2 else s2.rxSleepWrite l (w.bit 1)
  else if 0x20 ≤ off ∧ off < 0x34 then s.tapWrite l ((off - 0x20) / 4) (w.field 0 8)
  else if off = 0x40 then
    let s1 := s.prbsWrite l w
    if w.bit 16 then doChkClr (Fin.ofNat 16 l) 0 0 s1 else s1
  else if off = 0x44 then
    let s1 := s.setF (Reg.LANE.INJ_CTRL.BURST_LEN l) (w.field 16 12)
    let s2 := if w.bit 0 then doInjOne (Fin.ofNat 16 l) s1 else s1
    if w.bit 1 then doInjBurst (Fin.ofNat 16 l) s2 else s2
  else s.plainWrite a w

/-- A register of PROT written (R316, R334, R336). -/
def Chip.writeProt (s : Chip) (a : Nat) (w : Word) : Chip :=
  if a = Reg.PROT.PROT_CTRL.addr then (if w.bit 0 then doUnfreeze s else s)
  else if a = Reg.PROT.LR_CTRL.addr then (if w.bit 0 then doLrPop s else s)
  else if 0x02401000 ≤ a ∧ a < 0x02402000 ∧ a % 0x100 = 0x3C then s.pgWrite (Fin.ofNat 16 ((a - 0x02401000) / 0x100)) (w.field 0 3)
  else (s.plainWrite a w).settle

/-- A register written by a master with all four byte enables: the event registers of any block, then the blocks' own. -/
def Chip.writeReg (s : Chip) (m : Fin 8) (user : Bool) (a : Nat) (w : Word) : Chip :=
  match evtBlock a 0xF0, evtBlock a 0xF8 with
  | some base, _ => s.evtClear base w 0
  | none, some base => s.evtSticky base w
  | none, none =>
    match a / 0x00100000 with
    | 0x00 => s.writeTop a w
    | 0x01 => s.writeClk m a w
    | 0x02 => s.writeBoot m a w
    | 0x03 => s.writePool m a w
    | 0x04 => s.writeMgmt m user a w
    | 0x05 => s.writeEvc a w
    | 0x06 => s.writeTim a w
    | 0x07 => s.writeWst a w
    | 0x08 => s.writeSec m a w
    | 0x09 => s.writeMon m a w
    | 0x0A => s.writeTst a w
    | 0x0B => s.writePcie a w
    | 0x20 => s.writeLane ((a - 0x02000000) / 0x10000) a w
    | 0x24 => s.writeProt a w
    | _ => if RegMap.inCarrier a then s.writeLine (carrierOf a) a w else s.plainWrite a w

/-- A write with byte enables (R6): with fewer than four it is discarded and sets BAD_ACCESS. -/
def Chip.writeHalf (s : Chip) (m : Fin 8) (user : Bool) (a be : Nat) (w : Word) : Chip :=
  if be % 16 = 15 then s.writeReg m user a w else s.raise Ev.TOP.BAD_ACCESS

/-- Whether the clock ratios lie within the limits of R463. -/
def Chip.ratiosOk (s : Chip) : Bool :=
  let w := s.rd Reg.CLK.DIV_CFG.addr
  decide (2 ≤ w.field 0 4 ∧ w.field 0 4 ≤ 6) && [12, 14, 16, 18].all fun b => decide (w.field b 2 ≤ 2)

/-- The outcome of a command that may write DIV_CFG: R463 calls what follows a setting outside its limits undefined. -/
def State.guarded (s : State) (c : Chip) : Result := if c.ratiosOk then s.to c else .fault .clockRatioOutOfLimits

/-- REGISTER_WRITE (R4 to R6): by a master, in user mode or not (R391). -/
def doRegisterWrite (m : Fin 8) (user : Bool) (a w : Word) (be : Fin 16) (s : Chip) : Chip := s.writeHalf m user (a.toNat / 4 * 4) be.val w

/-- REGISTER_WRITE. -/
def execRegisterWrite (m : Fin 8) (user : Bool) (a w : Word) (be : Fin 16) (s : State) : Result :=
  s.guarded (doRegisterWrite m user a w be s.chip)

/-- LO_READ (R7, R8): a read of a register by a master; of NAME_LO it latches NAME_HI. -/
def doLoRead (m : Fin 8) (a : Word) (s : Chip) : Chip :=
  let r := s.readReg m.val (a.toNat / 4 * 4)
  r.2.respond m.val (.data (toLe 4 r.1.toNat))

/-- LO_READ. -/
def execLoRead (m : Fin 8) (a : Word) (s : State) : Result := s.to (doLoRead m a s.chip)

/-- The base of a block that has event registers, by its place in the order of the sources of R432. -/
def evtBase (k : Nat) : Nat := evtBases.getD k 0

/-- EVT_STAT_WRITE (R9 to R11): `now` = the bits whose event occurs in the same clock. -/
def doEvtStatWrite (k : Fin 62) (w now : Word) (s : Chip) : Chip := s.evtClear (evtBase k.val) w now

/-- EVT_STAT_WRITE. -/
def execEvtStatWrite (k : Fin 62) (w now : Word) (s : State) : Result := s.to (doEvtStatWrite k w now s.chip)

/-- EVT_MASK_WRITE (R9). -/
def doEvtMaskWrite (k : Fin 62) (w : Word) (s : Chip) : Chip := s.plainWrite (evtBase k.val + 0xF4) w

/-- EVT_MASK_WRITE. -/
def execEvtMaskWrite (k : Fin 62) (w : Word) (s : State) : Result := s.to (doEvtMaskWrite k w s.chip)

end Sys2Proof.Machine
end

