-- ==== Sys2Proof/Machine/Bus.lean ====
section
/-! DEFINITION. The bridges (R22 to R24) and the bus matrix: how a master's request is performed at its target and answered (R6, R381, R411 to
R416, R427, R531). Each request is performed whole within one command, so none is outstanding between commands. -/

namespace Sys2Proof.Machine

/-- BRIDGE_TRANSFER (R24): a transfer over bridge b, back or forth; `reg` = the master and address of a register request, none for data. A data
transfer waits for an island that is gated or in reset; once the island runs, what waited has crossed before it. -/
def doBridgeTransfer (b : Fin 16) (back : Bool) (reg : Option (Fin 8 × Word)) (s : Chip) : Chip :=
  let ends := bridgeEnds.getD b.val (0, 0)
  let to_ := if back then ends.1 else ends.2
  let key := 2 * b.val + back.toNat
  let s1 := s.bridgeUsed b.val
  if s.islDown to_ then
    match reg with
    | some (m, a) => s1.busError m.val ((busTarget a.toNat).getD 0xF) 7 a.toNat
    | none => s1.modClk fun v => { v with waits := Tab.put 0 v.waits key (Tab.get 0 v.waits key + 1) }
  else s1.modClk fun v => { v with waits := Store.erase v.waits key }

/-- BRIDGE_TRANSFER. -/
def execBridgeTransfer (b : Fin 16) (back : Bool) (reg : Option (Fin 8 × Word)) (s : State) : Result :=
  s.to (doBridgeTransfer b back reg s.chip)

/-- BRIDGE_QUIESCENT (R24): nothing waits at either side. -/
def doBridgeQuiescent (b : Fin 16) (s : Chip) : Chip :=
  if Tab.get 0 s.clk.waits (2 * b.val) = 0 ∧ Tab.get 0 s.clk.waits (2 * b.val + 1) = 0 then s.setBit Reg.CLK.BRG_QUIET.QUIET b.val else s

/-- BRIDGE_QUIESCENT. -/
def execBridgeQuiescent (b : Fin 16) (s : State) : Result := s.to (doBridgeQuiescent b s.chip)

/-- The bridge between a master outside MGT and the matrix (R22, R398). -/
def masterBridge (m : Nat) : Option Nat := if m = 4 then some 7 else if m = 6 then some 6 else if m = 7 then some 9 else none

/-- The bridge to a register target outside MGT (R22, R411). -/
def targetBridge (t : Nat) : Option Nat :=
  match t with
  | 5 => some 2 | 6 => some 3 | 7 => some 4 | 8 => some 5 | 9 => some 6 | 10 => some 7 | 11 => some 8 | 12 => some 9 | 13 => some 9
  | 14 => some 6
  | _ => none

/-- A bridge, where there is one, carries a transfer. -/
def Chip.bridgeMark (s : Chip) (b : Option Nat) : Chip := match b with | some k => s.bridgeUsed k | none => s

/-- Whether the island of a register answers ISL_GATED (R411, R427, R464, R468): gated, in reset, or past step 2 of its handshake. -/
def Chip.regDown (s : Chip) (a : Nat) : Bool :=
  s.islDown (islandNum a) || s.bitOf Reg.CLK.GATE_STAT.PENDING (islandNum a)

/-- What performing a request answers: the cause and address of an error, the bytes of a read (those enabled, in address order), the state. -/
structure BusRun where
  err : Option (Nat × Nat) := none
  bytes : List Nat := []
  chip : Chip
deriving DecidableEq, Repr

/-- An error found by a part of a request; the first one is reported. -/
def BusRun.fail (v : BusRun) (cause a : Nat) : BusRun := { v with err := some (v.err.getD (cause, a)) }

/-- The bytes that an access's enables select. -/
def enabled (be : Nat) (l : List Nat) : List Nat := (l.zipIdx.filter fun p => be.testBit p.2).map Prod.fst

/-- A beat at a pool (R399, R401, R404, R447). -/
def BusRun.poolBeat (v : BusRun) (m : Nat) (write : Bool) (w be data : Nat) : BusRun :=
  let s := v.chip.evc (32 + poolOfWord w)
  if write then
    match s.writeRefused w be m with
    | some c => ({ v with chip := s }).fail c (wordAddr w)
    | none => { v with chip := s.writeWord64 w be data }
  else
    let r := s.readWord64 w m
    match r.1 with
    | .inl d => { v with chip := r.2, bytes := v.bytes ++ enabled be (bytes64 d) }
    | .inr c => ({ v with chip := r.2 }).fail c (wordAddr w)

/-- The halves of a register access and their byte enables (R6): both of a 64-bit access, LO before HI; else the one that the address names. -/
def regHalves (r : BusReq) (a be : Nat) : List (Nat × Nat) :=
  if r.wide then [(0, be % 16), (4, be / 16 % 16)]
  else if a % 8 < 4 then [(0, be % 16)] else [(4, be / 16 % 16)]

/-- A beat at a register target (R6, R7). -/
def BusRun.regBeat (v : BusRun) (m : Fin 8) (r : BusReq) (a be data : Nat) : BusRun :=
  (regHalves r a be).foldl (fun u h =>
    let at_ := a / 8 * 8 + h.1
    if r.write then { u with chip := u.chip.writeHalf m r.user at_ h.2 (BitVec.ofNat 32 (data / 2 ^ (8 * h.1))) }
    else
      let x := u.chip.readReg m.val at_
      { u with chip := x.2, bytes := u.bytes ++ enabled h.2 (toLe 4 x.1.toNat) }) v

/-- The beats of a request with their addresses. -/
def busSteps (r : BusReq) : List (Nat × Nat × Nat) :=
  r.beats.zipIdx.map fun p => (if p.2 = 0 then r.addr else r.addr / 8 * 8 + 8 * p.2, p.1.1, p.1.2)

/-- Whether a request is a burst that R415 refuses: more than 16 beats, or across a 4 KiB boundary. -/
def badBurst (r : BusReq) : Bool :=
  decide (16 < r.beats.length) || decide (r.addr / 4096 ≠ (r.addr / 8 * 8 + 8 * (r.beats.length - 1)) / 4096)

/-- Whether a host write is discarded below PHASE 5 (R381): outside BOOT and PCIE, and not into a pool. -/
def Chip.hostDrop (s : Chip) (m : Nat) (r : BusReq) : Bool :=
  m == 4 && r.write && decide (s.getF Reg.BOOT.BOOT_STAT.PHASE < 5) && decide (r.addr < 0x80000000)
    && r.addr / 0x100000 != 0x02 && r.addr / 0x100000 != 0x0B

/-- A request performed at its target (R411, R415, R427, in the order of R427). -/
def Chip.busServe (s : Chip) (m : Fin 8) (r : BusReq) : BusRun :=
  if s.hostDrop m.val r then { chip := s.bump Reg.BOOT.HOST_WR_DROP.COUNT }
  else match busTarget r.addr with
  | none => { chip := s, err := some (1, r.addr) }
  | some t =>
    if badBurst r then { chip := s, err := some (6, r.addr) }
    else if t < 4 then
      (busSteps r).foldl (fun v p => v.poolBeat m.val r.write ((p.1 - 0x80000000) / 8) p.2.1 p.2.2) { chip := s }
    else
      let s1 := s.bridgeMark (targetBridge t)
      if s.regDown r.addr then { chip := s1, err := some (7, r.addr) }
      else (busSteps r).foldl (fun v p => v.regBeat m r p.1 p.2.1 p.2.2) { chip := s1 }

/-- The answer to a request: an error response or a response without an error (R412, R416). -/
def BusRun.answer (v : BusRun) (m : Nat) (r : BusReq) : Chip :=
  match v.err with
  | some (c, a) => v.chip.busError m ((busTarget r.addr).getD 0xF) c a
  | none => v.chip.respond m (if r.write then .done else .data v.bytes)

/-- Whether a master of the matrix, or the matrix itself, is in reset or gated: then no request is made. -/
def Chip.masterDown (s : Chip) (m : Nat) : Bool :=
  s.clk.held.testBit 6 || (m == 4 && s.islDown 4) || (m == 6 && s.islDown 3)

/-- Whether the windows of user mode refuse a request (R391). -/
def Chip.userRefused (s : Chip) (m : Nat) (r : BusReq) : Bool :=
  decide (m < 4) && r.user && !(s.extAllows r.addr r.write.toNat && s.extAllows (r.addr / 8 * 8 + 8 * r.beats.length - 1) r.write.toNat)

/-- A request of a master performed and answered, with the state of what it found (R391, R411 to R416, R447). -/
def Chip.busRequest (s : Chip) (m : Fin 8) (r : BusReq) : BusRun :=
  if s.userRefused m.val r then { chip := s.extFault m.val r.addr, err := some (0, r.addr) }
  else
    let v := ((s.evc (48 + m.val)).bridgeMark (masterBridge m.val)).busServe m r
    { v with chip := v.answer m.val r }

/-- Hold-backs of a master counted (R413, R414, R447). -/
def Chip.holdBacks (s : Chip) (m n : Nat) : Chip := (s.bump Reg.POOL.BM_HOLD_CNT.COUNT n).evc (56 + m) n

/-- A register of the endpoint that it serves itself: the MSI-X table and the PBA (R427). -/
def isMsix (a : Nat) : Bool := decide (0x00B08000 ≤ a ∧ a < 0x00B09008)

/-- A request of the host's queue performed (R424, R427): without a beat it is answered DECERR; the MSI-X table and the PBA are the endpoint's own. -/
def Chip.hostPerform (s : Chip) (p : HostPiece) : BusRun :=
  if p.req.beats = [] then { chip := s.busError 4 0xF 1 p.req.addr, err := some (1, p.req.addr) }
  else if isMsix p.req.addr then
    let v : BusRun := (busSteps p.req).foldl (fun v x => v.regBeat 4 p.req x.1 x.2.1 x.2.2) { chip := s }
    { v with chip := v.chip.respond 4 (if p.req.write then .done else .data v.bytes) }
  else s.busRequest 4 p.req

/-- The oldest request in the host's queue that has not been performed is performed. -/
def Chip.hostNext (s : Chip) : Chip :=
  match s.pci.queue.span fun p => p.done.isSome with
  | (_, []) => s
  | (l, p :: rest) =>
    let v := s.hostPerform p
    let p1 := { p with done := (v.chip.resp.find? fun x => x.1 == 4).elim (some .done) fun x => some x.2, errAt := (v.err.getD (0, 0)).2 }
    v.chip.modPci fun q => if v.chip.pci.queue = [] then q else { q with queue := l ++ p1 :: rest }

/-- BUS_REQUEST (R412 to R416): the request of a master, held back some times; the PCIe master's is the next one of the host's queue. -/
def doBusRequest (m : Fin 8) (r : BusReq) (held : Nat) (s : Chip) : Chip :=
  if s.masterDown m.val then s
  else
    let s1 := s.holdBacks m.val held
    if m.val = 4 then s1.hostNext else (s1.busRequest m r).chip

/-- BUS_REQUEST. -/
def execBusRequest (m : Fin 8) (r : BusReq) (held : Nat) (s : State) : Result := s.guarded (doBusRequest m r held s.chip)

/-- JTAG_REG_ACCESS (R6, R531): a register access as bus master 7. -/
def doJtagRegAccess (a : Word) (write : Bool) (be : Fin 16) (w : Word) (s : Chip) : Chip :=
  let k := a.toNat / 4 % 2
  let r : BusReq := { addr := a.toNat / 4 * 4, write := write, beats := [(be.val * 16 ^ k, w.toNat * 2 ^ (32 * k))], wide := false, user := false }
  if s.masterDown 7 then s else (s.busRequest 7 r).chip

/-- JTAG_REG_ACCESS. -/
def execJtagRegAccess (a : Word) (write : Bool) (be : Fin 16) (w : Word) (s : State) : Result :=
  s.guarded (doJtagRegAccess a write be w s.chip)

end Sys2Proof.Machine
end

