-- ==== Sys2Proof/Machine/Domain.lean ====
section
/-! DEFINITION. The meanings of the commands of domain ripples and grants (R288, R301 to R303, R388). -/

namespace Sys2Proof.Machine

/-- The domain ripple of an ID that this device submitted last. -/
def Chip.originOf (s : Chip) (id : Nat) : Option DomOrigin := s.wst.origin.find? fun o => o.id == id

/-- A message of this device sent on every enabled port. -/
def Chip.sendAll (s : Chip) (type : Nat) (payload : List Nat) : Chip :=
  let m := s.newMsg type true 0x3FFF payload
  (List.range 32).foldl (fun u p => u.sendOn p 2 m.1) m.2

/-- A domain ripple submitted at this device (R302, R388): armed here, broadcast, its answers counted from now on. -/
def Chip.domSubmit (s : Chip) (core k id t act groups gpio : Nat) : Chip :=
  let s1 := (s.fillSlot k t act groups gpio).armSlot k
  let o : DomOrigin := { id := id, slot := some k, at_ := t }
  let s2 : Chip := { s1 with wst := { s1.wst with origin := o :: s1.wst.origin.filter fun x => x.id != id
                                                  dom := (s.nodeId, id, some k) :: s1.wst.dom } }
  let body := bytesMsb 2 id ++ bytesMsb 2 s.nodeId ++ instantBytes t ++ [act % 256] ++ bytesMsb 4 groups ++ bytesMsb 4 gpio
  (s2.sendAll 3 body).mboxAnswer core 0 []

/-- DOM_RIPPLE (R302, R388): the arguments stand in one word for each field, the instant in the four words of R307. -/
def doDomRipple (core : Fin 4) (s : Chip) : Chip :=
  if s.mboxIs (fun o => o == 0x10) then
    let a := s.mboxWord
    let t := (a 1 + a 2 % 2 ^ 16 * 2 ^ 32) * secT16 + a 3 * 65536 + a 4 % 65536
    if s.flag Reg.WST.NODE_ID.VALID = false then s.mboxAnswer core.val 5 []
    else if 999999999 < a 3 then s.mboxAnswer core.val 2 []
    else if t < s.wstNow + 50000000 * 65536 then s.mboxAnswer core.val 3 []
    else match s.freeSlot with
      | none => s.mboxAnswer core.val 4 []
      | some k => s.domSubmit core.val k (a 0 % 65536) t (a 5 % 256) (a 6) (a 7)
  else s

/-- DOM_RIPPLE. -/
def execDomRipple (core : Fin 4) (s : State) : Result := s.to (doDomRipple core s.chip)

/-- A local slot armed for a domain ripple is disarmed where at least 1 ms remains (R303). -/
def Chip.domDisarm (s : Chip) (k : Nat) : Bool × Chip :=
  if s.ripArmed k && decide (s.wstNow + 1000000 * 65536 ≤ s.ripInstant k) then (true, s.disarmSlot k) else (false, s)

/-- DOM_CANCEL (R303, R388): the broadcast, and the origin's own slot; an ID that was never submitted is a bad argument. -/
def doDomCancel (core : Fin 4) (s : Chip) : Chip :=
  if s.mboxIs (fun o => o == 0x11) then
    let id := s.mboxWord 0 % 65536
    match s.originOf id with
    | none => s.mboxAnswer core.val 2 []
    | some o =>
      let s1 := match o.slot with | some k => (s.domDisarm k).2 | none => s
      (s1.sendAll 5 (bytesMsb 2 id ++ bytesMsb 2 s.nodeId)).mboxAnswer core.val 0 []
  else s

/-- DOM_CANCEL. -/
def execDomCancel (core : Fin 4) (s : State) : Result := s.to (doDomCancel core s.chip)

/-- DOM_STATUS (R388). -/
def doDomStatus (core : Fin 4) (s : Chip) : Chip :=
  if s.mboxIs (fun o => o == 0x12) then
    match s.originOf (s.mboxWord 0 % 65536) with
    | none => s.mboxAnswer core.val 2 []
    | some o => s.mboxAnswer core.val 0 [o.armed, o.late, o.noSlot, o.cancelled]
  else s

/-- DOM_STATUS. -/
def execDomStatus (core : Fin 4) (s : State) : Result := s.to (doDomStatus core s.chip)

/-- The answer to a domain message (R288, R303), sent towards the origin on the port the message came in on. -/
def Chip.domAnswer (s : Chip) (p id origin status : Nat) : Chip :=
  let m := s.newMsg 4 false origin (bytesMsb 2 id ++ bytesMsb 2 origin ++ [status])
  m.2.sendOn p 2 m.1

/-- A domain ripple noted under its origin and ID. -/
def Chip.domNote (s : Chip) (origin id : Nat) (slot : Option Nat) : Chip :=
  { s with wst := { s.wst with dom := (origin, id, slot) :: s.wst.dom.filter fun x => !(x.1 == origin && x.2.1 == id) } }

/-- A RIPPLE_SCHED received (R303): LATE below 1 ms, NO_SLOT without an idle slot, else armed; a duplicate is ignored. -/
def Chip.domSched (s : Chip) (p : Nat) (b : List Nat) : Chip :=
  let id := ofBytes (b.take 2)
  let origin := ofBytes ((b.drop 2).take 2)
  let t := instantOf (b.drop 4)
  let rest := b.drop 16
  if s.wst.dom.any fun x => x.1 == origin && x.2.1 == id then s
  else if t < s.wstNow + 1000000 * 65536 then ((s.domNote origin id none).raise Ev.WST.DOM_FAIL).domAnswer p id origin 1
  else match s.freeSlot with
    | none => ((s.domNote origin id none).raise Ev.WST.DOM_FAIL).domAnswer p id origin 2
    | some k =>
      let s1 := (s.fillSlot k t (rest.getD 0 0) (ofBytes ((rest.drop 1).take 4)) (ofBytes ((rest.drop 5).take 4))).armSlot k
      (s1.domNote origin id (some k)).domAnswer p id origin 0

/-- RIPPLE_SCHED (R303). -/
def doRippleSched (s : Chip) : Chip :=
  match s.ringTake fun m => m.type == 3 && m.payload.length == 25 with
  | some x => x.2.2.domSched x.1 x.2.1.payload
  | none => s

/-- RIPPLE_SCHED. -/
def execRippleSched (s : State) : Result := s.to (doRippleSched s.chip)

/-- RIPPLE_CANCEL (R303): CANCELLED where at least 1 ms remains, else ignored. -/
def doRippleCancel (s : Chip) : Chip :=
  match s.ringTake fun m => m.type == 5 && m.payload.length == 4 with
  | none => s
  | some x =>
    let b := x.2.1.payload
    let id := ofBytes (b.take 2)
    let origin := ofBytes (b.drop 2)
    match x.2.2.wst.dom.find? fun y => y.1 == origin && y.2.1 == id with
    | some (_, _, some k) =>
      let r := x.2.2.domDisarm k
      if r.1 then (r.2.domNote origin id none).domAnswer x.1 id origin 3 else r.2
    | _ => x.2.2

/-- RIPPLE_CANCEL. -/
def execRippleCancel (s : State) : Result := s.to (doRippleCancel s.chip)

/-- An answer counted under its status (R302, R388). -/
def DomOrigin.count (o : DomOrigin) (status : Nat) : DomOrigin :=
  match status with
  | 0 => { o with armed := o.armed + 1 }
  | 1 => { o with late := o.late + 1 }
  | 2 => { o with noSlot := o.noSlot + 1 }
  | 3 => { o with cancelled := o.cancelled + 1 }
  | _ => o

/-- RIPPLE_ACK (R302). -/
def doRippleAck (s : Chip) : Chip :=
  match s.ringTake fun m => m.type == 4 && m.payload.length == 5 with
  | none => s
  | some x =>
    let b := x.2.1.payload
    let u := x.2.2
    let id := ofBytes (b.take 2)
    let one := fun (o : DomOrigin) => if o.id = id then o.count (b.getD 4 4) else o
    if ofBytes ((b.drop 2).take 2) = u.nodeId then { u with wst := { u.wst with origin := u.wst.origin.map one } } else u

/-- RIPPLE_ACK. -/
def execRippleAck (s : State) : Result := s.to (doRippleAck s.chip)

/-- The grant for this leaf applied (R157, R288, R301): node ID, masks written and committed, ACK written. -/
def Chip.applyGrant (s : Chip) (c : Carrier) (node dn up : Nat) : Chip :=
  let s1 := (s.setF Reg.WST.NODE_ID.ID node).setFlag Reg.WST.NODE_ID.VALID (decide (node ≠ 0x3FFF))
  let s2 := (s1.setF (Reg.SUBC.DN_EN.MASK c) dn).setF (Reg.SUBC.UP_EN.MASK c) up
  doInletAck c (s2.commitEvent (s2.shadows (2 ^ (2 + c.ix))) (2 ^ (2 + c.ix))).2

/-- GRANT (R288): on the carrier of the port it came in on, for its serial number. -/
def doGrant (s : Chip) : Chip :=
  match s.ringTake fun m => m.type == 6 && m.payload.length == 14 with
  | none => s
  | some x =>
    let b := x.2.1.payload
    let c := Carrier.ofBit (x.1 / 16)
    if ofBytes (b.take 8) = x.2.2.getPair (Reg.SUBC.INLET_SERIAL_LO.addr c) then
      x.2.2.applyGrant c (ofBytes ((b.drop 8).take 2) % 16384) (ofBytes ((b.drop 10).take 2)) (ofBytes (b.drop 12))
    else x.2.2

/-- GRANT. -/
def execGrant (s : State) : Result := s.to (doGrant s.chip)

end Sys2Proof.Machine
end

