-- ==== Sys2Proof/Machine/FrmTx.lean ====
section
/-! DEFINITION. The meaning of a frame start: the overhead of the frame that a trail's generator starts (R171, R172, R179 to R184, R191,
R285, R290, R340 to R353). -/

namespace Sys2Proof.Machine

/-- One GCC byte to send (R183): from the transmit ring through the capture engine, or IDLE where the ring is empty or not enabled. -/
def Chip.gccNext (s : Chip) (c : Carrier) (t g : Nat) : Nat × Chip :=
  let r := s.gccRing c t g
  let wp := s.getF (Reg.FRM.GCC_TX_WP.PTR c t g) % r.1
  let rp := s.getF (Reg.FRM.GCC_TX_RP.PTR c t g) % r.1
  if s.flag (Reg.FRM.GCC_CFG.TX_EN c t g) = false ∨ rp = wp then (s.getF (Reg.FRM.GCC_CFG.IDLE c t g), s)
  else
    let b := s.captureRead (r.2 + rp)
    (b.1, b.2.setF (Reg.FRM.GCC_TX_RP.PTR c t g) ((rp + 1) % r.1))

/-- n GCC bytes to send. -/
def Chip.gccTake (s : Chip) (c : Carrier) (t g : Nat) : Nat → List Nat × Chip
  | 0 => ([], s)
  | n + 1 =>
    let r := s.gccTake c t g n
    let b := r.2.gccNext c t g
    (r.1 ++ [b.1], b.2)

/-- Byte i of the PSI sent (R180). -/
def Chip.psiByte (s : Chip) (c : Carrier) (t i : Nat) : Nat :=
  if i = 0 then s.getF (Reg.FRM.TX_OH_CFG.TX_PT c t)
  else if i = 1 ∨ 2 + 20 * s.trailN c ≤ i then 0
  else
    let k := i - 2
    (s.act (Reg.FRM.TX_MSI.addr c t (k / 4))).field (8 * (k % 4)) 8

/-- The STAT that FORCE_STAT gives (R182). -/
def statOf (force : Nat) : Nat := match force with | 0 => 1 | 1 => 5 | 2 => 6 | _ => 7

/-- Whether an upstream subcarrier of a leaf is asleep at the floor of its ramp: its periods pass without a frame (R151, R172). -/
def Chip.txAsleep (s : Chip) (c : Carrier) (t : Nat) : Bool :=
  let v := Tab.get {} (s.subc.get c).tx t
  v.down && decide (300 ≤ rampLevel false v.mode v.time v.from_ (s.now - v.at_) (Config.freeNat s.freeIx))

/-- The overhead of frame fsn of a trail, and the chip after its channels have been served. -/
def Chip.frameHeader (s : Chip) (c : Carrier) (t fsn parity pin : Nat) : Chip :=
  let v := s.frmOf c t
  let sealed := s.sealFrame c fsn
  let s1 := sealed.2.2
  let bip := match v.parities with
    | _ :: p :: _ => (p, s1)
    | _ => (s1.free.1 % 256, s1.free.2)
  let bei := if s1.flag (Reg.FRM.CA_CFG.BEI_EN c t) then min v.beiAcc 8 else 0
  let acc := if s1.flag (Reg.FRM.CA_CFG.BEI_EN c t) then v.beiAcc - bei else 0
  let g0 := bip.2.gccTake c t 0 2
  let g1 := g0.2.gccTake c t 1 4
  let tv := fsn % g1.2.tvSpacing c == 0
  let p := 16 * c.ix + t
  let tm := if tv then g1.2.tamustBytes p else ([], g1.2)
  let lock := tm.2.flag (Reg.FRM.ALIGN_STAT.IN_FRAME c t) && tm.2.flag (Reg.FRM.ALIGN_STAT.FSN_LOCK c t)
  let s2 := if tv && lock then
      tm.2.setPort p ((tm.2.portOf p).stamp true fsn (pin + tm.2.getF (Reg.WST.FE_TX_DLY.PS c.ix) * 65536))
    else tm.2
  let i := 2 * (fsn % 256)
  let h : TxHdr :=
    { fsn := fsn, tti := s2.getByte (Reg.FRM.TTI_TX.addr c t 0) (fsn % 64), bip := bip.1, bei := bei
      bdi := s2.bdiTrigger c t || s2.flag (Reg.FRM.TX_OH_CFG.BDI_FORCE c t)
      stat := statOf (s2.getF (Reg.FRM.TX_OH_CFG.FORCE_STAT c t)), kp := sealed.1, sealing := sealed.2.1, tv := tv, tamust := tm.1
      psiA := s2.psiByte c t i, psiB := s2.psiByte c t (i + 1), aps := s2.getF (Reg.FRM.APS_TX.APS c t (fsn % 8))
      gcc0 := g0.1, gcc12 := g1.1 }
  (s2.setF (Reg.FRM.TX_FSN.FSN c t) fsn).modFrm c t fun w => { w with hdr := some h, beiAcc := acc, parities := [parity % 256] ++ w.parities.take 1 }

/-- FRAME_START_TX (R172): the trail's next frame period begins; a trail that sends carries a frame in it. -/
def doFrameStartTx (c : Carrier) (t : Fin 16) (parity pin : Nat) (s : Chip) : Chip :=
  let fsn := (s.frmOf c t.val).fsnNext
  let s1 := if s.trailTx c t.val && !s.txAsleep c t.val then s.frameHeader c t.val fsn parity pin else s
  s1.modFrm c t.val fun w => { w with fsnNext := (fsn + 1) % 2 ^ 32 }

/-- FRAME_START_TX. -/
def execFrameStartTx (c : Carrier) (t : Fin 16) (parity pin : Nat) (s : State) : Result :=
  s.to (doFrameStartTx c t parity pin s.chip)

end Sys2Proof.Machine
end

