-- ==== Sys2Proof/Machine/HostIf.lean ====
section
/-! DEFINITION. The meanings of the commands of the PCI Express endpoint (R421 to R428, R443). -/

namespace Sys2Proof.Machine

/-- The bytes of a request from an offset, as beats of 64 bits from the aligned word that the offset lies in (R424). -/
def toBeats (ofs : Nat) (l : List (Bool × Nat)) : List (Nat × Nat) :=
  (List.range ((ofs + l.length + 7) / 8 - ofs / 8)).map fun i =>
    (List.range 8).foldl (fun acc k =>
      let at_ := 8 * (ofs / 8 + i) + k
      match if ofs ≤ at_ then l[at_ - ofs]? else none with
      | some (true, b) => (acc.1 + 2 ^ k, acc.2 + b * 256 ^ k)
      | _ => acc) (0, 0)

/-- The request of a BAR0 access: 4 or 8 bytes and naturally aligned, else without a beat (R424). -/
def bar0Piece (write : Bool) (ofs : Nat) (l : List (Bool × Nat)) : HostPiece :=
  let ok := (l.length = 4 ∨ l.length = 8) ∧ ofs % l.length = 0
  { bar2 := false
    req := { addr := ofs, write := write, beats := if ok then toBeats ofs l else [], wide := decide (l.length = 8), user := false } }

/-- The pieces of a BAR2 access, split at 128-byte boundaries (R424). -/
def bar2Pieces (write : Bool) (ofs : Nat) (l : List (Bool × Nat)) : List HostPiece :=
  (List.range ((ofs + l.length + 127) / 128 - ofs / 128)).map fun i =>
    let a := max ofs (128 * (ofs / 128 + i))
    let e := min (ofs + l.length) (128 * (ofs / 128 + i + 1))
    { bar2 := true
      req := { addr := 0x80000000 + a, write := write, beats := toBeats a ((l.drop (a - ofs)).take (e - a)), wide := false, user := false } }

/-- Whether the link is in DL_Active and the endpoint runs. -/
def Chip.linkUp (s : Chip) : Bool := s.flag Reg.PCIE.PCIE_STAT.LINK_UP && !s.islDown 4

/-- HOST_REQUEST (R421, R423, R424): a request that reaches a BAR of the function in D0 is queued, the queue holding 32 requests. -/
def doHostRequest (bar2 write : Bool) (ofs : Nat) (bytes : List (Bool × Fin 256)) (s : Chip) : Chip :=
  let l := bytes.map fun p => (p.1, p.2.val)
  let size := if bar2 then 0x400000 else 0x4000000
  let new := if bar2 then bar2Pieces write ofs l else [bar0Piece write ofs l]
  if !s.linkUp || s.getF Reg.PCIE.PCIE_STAT.DSTATE != 0 || l.isEmpty || decide (size < ofs + l.length)
      || (!s.pci.queue.isEmpty && decide (32 < s.pci.queue.length + new.length)) then s
  else (s.evc 97).modPci fun q => { q with queue := q.queue ++ new }

/-- HOST_REQUEST. -/
def execHostRequest (bar2 write : Bool) (ofs : Nat) (bytes : List (Bool × Fin 256)) (s : State) : Result :=
  s.to (doHostRequest bar2 write ofs bytes s.chip)

/-- An error response of a cause reported to the host's error registers (R425, R447). -/
def Chip.hostErr (s : Chip) (p : HostPiece) (cause : Nat) : Chip :=
  let s1 := ((s.evc 99).bump Reg.PCIE.HERR_CNT.COUNT).raise Ev.PCIE.HOST_ERR
  if s1.flag Reg.PCIE.HERR_INFO.VALID then s1
  else
    let s2 := (s1.setFlag Reg.PCIE.HERR_INFO.VALID true).setF Reg.PCIE.HERR_INFO.CAUSE cause
    ((s2.setFlag Reg.PCIE.HERR_INFO.WRITE p.req.write).setFlag Reg.PCIE.HERR_INFO.BAR p.bar2).setF Reg.PCIE.HERR_ADDR.ADDR p.errAt

/-- The completion of a request that ended in an error of a cause (R425). -/
def errCpl (p : HostPiece) (cause : Nat) (mode : Bool) : HostCpl :=
  let n := (p.req.beats.map fun b => ones b.1 8).sum
  let data := if p.req.write then [] else List.replicate n 0xFF
  if mode || p.req.write then { status := 0, ep := false, bytes := data, write := p.req.write }
  else if cause = 1 then { status := 1, ep := false, bytes := [], write := false }
  else if cause = 4 ∨ cause = 5 then { status := 0, ep := true, bytes := data, write := false }
  else { status := 4, ep := false, bytes := [], write := false }

/-- The AER status bit that a write's error of a cause sets (R425): Unsupported Request or Completer Abort. -/
def aerBit (cause : Nat) : Word := if cause = 1 then 0x00100000#32 else if cause = 4 ∨ cause = 5 then 0 else 0x00008000#32

/-- HOST_COMPLETION (R425, R426): the oldest request, once performed, leaves the queue. -/
def doHostCompletion (s : Chip) : Chip :=
  match s.pci.queue with
  | [] => s
  | p :: rest =>
    match p.done with
    | none => s
    | some d =>
      let s1 := s.modPci fun q => { q with queue := rest }
      match d with
      | .err cause =>
        let mode := s1.flag Reg.PCIE.PCIE_CFG.ERR_MODE
        let aer : Word := if p.req.write && !mode then aerBit cause else 0
        (s1.hostErr p cause).modPci fun q => { q with cpl := some (errCpl p cause mode), aerStatus := q.aerStatus ||| aer }
      | .data l => s1.modPci fun q => { q with cpl := some { status := 0, ep := false, bytes := l, write := false } }
      | .done => s1.modPci fun q => { q with cpl := some { status := 0, ep := false, bytes := [], write := true } }

/-- HOST_COMPLETION. -/
def execHostCompletion (s : State) : Result := s.to (doHostCompletion s.chip)

/-- The identifiers of the configuration header (R422). -/
structure PciIds where
  device : Nat
  vendor : Nat
  revision : Nat
  classCode : Nat
  subsystemVendor : Nat
  subsystem : Nat
  serial : Nat
deriving DecidableEq, Repr

/-- What the configuration header shows (R422). -/
def Chip.pciIds (s : Chip) : PciIds :=
  { device := 0x3216, vendor := s.fuse.vendor, revision := s.getF Reg.TOP.ID.STEPPING, classCode := 0x028000
    subsystemVendor := s.fuse.ssvid, subsystem := s.fuse.ssid, serial := s.fuse.serial }

/-- The endpoint's state that a link down, a Hot Reset or a Function Level Reset resets (R428), the host's HI shadows among it (R437). -/
def Chip.endpointReset (s : Chip) : Chip :=
  let mine := fun (a : Nat) => isMsix a || a == Reg.TOP.VEC_ACK_LO.addr || a == Reg.TOP.VEC_ACK_HI.addr
  let regs := Store.clear s.regs mine
  let hi := Store.clear s.top.hi fun k => k % 8 == 4
  let chain := Store.clear s.evcs.chain fun k => k / 512 == 4
  { s with regs := regs, top := { s.top with hi := hi }, evcs := { s.evcs with chain := chain }, pci := {} }.setF Reg.PCIE.PCIE_STAT.DSTATE 0

/-- Speed code and width of the link as PCIE_STAT has them. -/
def Chip.setLink (s : Chip) (speed width : Nat) : Chip := (s.setF Reg.PCIE.PCIE_STAT.SPEED speed).setF Reg.PCIE.PCIE_STAT.WIDTH width

/-- LINK_UP (R442, R443). -/
def doLinkUp (speed width : Fin 8) (s : Chip) : Chip :=
  if s.islDown 4 || s.flag Reg.PCIE.PCIE_STAT.LINK_UP then s
  else ((s.setFlag Reg.PCIE.PCIE_STAT.LINK_UP true).setLink speed.val width.val).raise Ev.PCIE.LINK_UP

/-- LINK_UP. -/
def execLinkUp (speed width : Fin 8) (s : State) : Result := s.to (doLinkUp speed width s.chip)

/-- LINK_DOWN (R428, R442, R443). -/
def doLinkDown (s : Chip) : Chip :=
  if s.linkUp then
    let s1 := ((s.endpointReset.setFlag Reg.PCIE.PCIE_STAT.LINK_UP false).setLink 0 0).bump Reg.PCIE.LINK_DOWN_CNT.COUNT
    s1.raise Ev.PCIE.LINK_DOWN
  else s

/-- LINK_DOWN. -/
def execLinkDown (s : State) : Result := s.to (doLinkDown s.chip)

/-- FLR (R428, R443). -/
def doFlr (s : Chip) : Chip := if s.linkUp then s.endpointReset.raise Ev.PCIE.FLR else s

/-- FLR. -/
def execFlr (s : State) : Result := s.to (doFlr s.chip)

/-- CONFIG_REQUEST (R421, R425, R433). -/
def doConfigRequest (r : CfgReq) (s : Chip) : Chip :=
  if s.linkUp then
    match r with
    | .dState d3 => s.setF Reg.PCIE.PCIE_STAT.DSTATE (if d3 then 3 else 0)
    | .functionMask on => (s.modPci fun q => { q with fmask := on }).pbaSend
    | .aerSettings mask sev => s.modPci fun q => { q with aerMask := mask, aerSev := sev }
    | .aerClear w => s.modPci fun q => { q with aerStatus := q.aerStatus &&& ~~~w }
  else s

/-- CONFIG_REQUEST. -/
def execConfigRequest (r : CfgReq) (s : State) : Result := s.to (doConfigRequest r s.chip)

/-- SPEED_CHANGE (R443): the event where speed or width changed. -/
def doSpeedChange (speed width : Fin 8) (s : Chip) : Chip :=
  if s.linkUp then
    let same := s.getF Reg.PCIE.PCIE_STAT.SPEED == speed.val && s.getF Reg.PCIE.PCIE_STAT.WIDTH == width.val
    (s.setLink speed.val width.val).raiseIf (!same) Ev.PCIE.SPEED_CHANGE
  else s

/-- SPEED_CHANGE. -/
def execSpeedChange (speed width : Fin 8) (s : State) : Result := s.to (doSpeedChange speed width s.chip)

end Sys2Proof.Machine
end

