-- ==== Sys2Proof/Machine/Jobs.lean ====
section
/-! DEFINITION. Unwrapping into the key store, and the jobs of the service engine (R359, R360, R362 to R365). -/

namespace Sys2Proof.Machine

/-- Bytes read over the bus by a master in bursts of at most 128 bytes, aligned to 128 (R415): none where a read got an error response. -/
def Chip.busBytes (s : Chip) (m : Fin 8) (a n : Nat) : Option (List Nat) × Chip :=
  (List.range ((a + n + 127) / 128 - a / 128)).foldl (fun acc i =>
    match acc.1 with
    | none => acc
    | some l =>
      let lo := max a (128 * (a / 128 + i))
      let hi := min (a + n) (128 * (a / 128 + i + 1))
      let beats := (List.range ((hi + 7) / 8 - lo / 8)).map fun k =>
        ((List.range 8).foldl (fun e b => let at_ := 8 * (lo / 8 + k) + b; if lo ≤ at_ ∧ at_ < hi then e + 2 ^ b else e) 0, 0)
      let v := acc.2.busRequest m { addr := lo, write := false, beats := beats, wide := true, user := false }
      (if v.err.isSome then none else some (l ++ v.bytes), v.chip)) (some [], s)

/-- Bytes written over the bus by a master in bursts of at most 16 words; both ends lie on word boundaries. False where a write got an error
response. -/
def Chip.busStore (s : Chip) (m : Fin 8) (a : Nat) (l : List Nat) : Bool × Chip :=
  (List.range ((a + l.length + 127) / 128 - a / 128)).foldl (fun acc i =>
    if acc.1 then
      let lo := max a (128 * (a / 128 + i))
      let hi := min (a + l.length) (128 * (a / 128 + i + 1))
      let beats := (List.range ((hi - lo) / 8)).map fun k => (255, ofLe ((l.drop (lo - a + 8 * k)).take 8))
      let v := acc.2.busRequest m { addr := lo, write := true, beats := beats, wide := true, user := false }
      (v.err.isNone, v.chip)
    else acc) (true, s)

/-- The key that an unwrap recovers (R359), none where it fails: the integrity check, the fields and the slots. -/
def Chip.unwrapKey (s : Chip) (kek target : Nat) (blob : List Nat) : Option KsKey :=
  match (s.slotOf kek).key with
  | none => none
  | some k =>
    if 3 < kek ∨ k.usage ≠ 0 ∨ target = 0 ∨ 63 < target then none
    else match keyUnwrap (asBytes (k.bytes.take k.len)) (asBytes blob) with
    | none => none
    | some out =>
      let b := fun (i : Nat) => out.getD i 0
      let len := b 2
      let key := (List.range 32).map fun i => b (8 + i)
      let bad := b 0 ≠ 1 ∨ 2 < b 1 ∨ ¬(len = 16 ∨ len = 24 ∨ len = 32) ∨ b 3 ≠ 0 ∨ (key.drop len).any (fun x => x != 0) = true
      let place := if target ≤ 3 then b 1 = 0 ∧ kek = 0 else b 1 ≠ 0
      if bad ∨ ¬place then none
      else some { usage := b 1, len := len, label := ((b 4 * 256 + b 5) * 256 + b 6) * 256 + b 7, bytes := key }

/-- The line registers loaded from a slot cleared, with NEXT_LOST of their carriers (R360). -/
def Chip.loseNext (s : Chip) (slot : Nat) : Chip :=
  (lineKeys.foldl (fun u r =>
    if u.keySlot r.1 r.2.1 r.2.2 = some slot then (u.clearKey r.1 r.2.1 r.2.2).raise (Ev.LENC.NEXT_LOST r.1) else u) s).lencSettleAll

/-- An unwrap into a slot (R359, R360): its status code of R364 and the state. -/
def Chip.unwrapInto (s : Chip) (kek target : Nat) (blob : List Nat) : Nat × Chip :=
  match s.unwrapKey kek target blob with
  | none => (7, s)
  | some k =>
    let v := s.slotOf target
    if s.slotActive target then (8, s)
    else if s.slotNext target then (1, (s.setSlot target { v with key := some k }).loseNext target)
    else if 0 < s.slotUses target then (2, s.setSlot target { v with pend := some k })
    else (1, s.setSlot target { v with key := some k })

/-- A slot's pending value replaces its key once no job uses the slot (R360). -/
def Chip.pendCommit (s : Chip) (slot : Nat) : Chip :=
  let v := s.slotOf slot
  if v.pend.isSome && s.slotUses slot == 0 then (s.setSlot slot { key := v.pend, pend := none }).raise Ev.SEC.SLOT_COMMIT else s

/-- The entries of a ring (R369): 2^SIZE, SIZE from 2 to 10, other values behaving as 4. -/
def Chip.ringSize (s : Chip) (r : Nat) : Nat :=
  let n := s.getF (Reg.SEC.RING_CFG.SIZE r)
  2 ^ (if 2 ≤ n ∧ n ≤ 10 then n else 4)

/-- The bus address of the descriptor at a ring's head, none where the ring is empty (R364). -/
def Chip.ringHead (s : Chip) (r : Nat) : Option Nat :=
  let n := s.ringSize r
  let h := s.getF (Reg.SEC.RING_HEAD.HEAD r) % n
  if h = s.getF (Reg.SEC.RING_TAIL.TAIL r) % n then none else some (32 * s.getF (Reg.SEC.RING_BASE.BASE r) + 32 * h)

/-- A 32-bit word of the pools as it stands, without an access. -/
def Chip.poolPeek (s : Chip) (a : Nat) : Nat := (s.poolWord ((a - 0x80000000) / 8)).data / 2 ^ (8 * (a % 8)) % 2 ^ 32

/-- Whether the head of a ring can start (R360): a descriptor whose slot has a pending value waits. -/
def Chip.headReady (s : Chip) (r : Nat) : Bool :=
  match s.ringHead r with
  | none => false
  | some a => (s.slotOf (s.poolPeek a / 256 % 64)).pend.isNone

/-- The status that a descriptor's fields and its key give in place of work (R364), none where the job can work. -/
def startFault (op count src dst : Nat) (key : Option KsKey) : Option Nat :=
  let crypt := op = 1 ∨ op = 2
  if ¬(1 ≤ op ∧ op ≤ 3) ∨ src % 16 ≠ 0 ∨ (crypt ∧ (count = 0 ∨ 256 < count ∨ dst % 16 ≠ 0)) then some 6
  else if op = 3 then none
  else match key with
  | none => some 4
  | some k => if k.usage = 2 then none else some 5

/-- The job that a fetched descriptor describes; an error response on the fetch is the job's BUS_ERROR. -/
def Chip.makeJob (s : Chip) (ring desc : Nat) (bytes : Option (List Nat)) : Job :=
  let le := fun (o : Nat) => ofLe (((bytes.getD []).drop o).take 4)
  let w := le 0
  let slot := w / 2 ^ 8 % 64
  let key := (s.slotOf slot).key
  { ring := ring, desc := desc, op := w % 16, slot := slot, target := w / 2 ^ 16 % 64, count := le 4, src := le 8, dst := le 12
    irq := w.testBit 31, key := key, order := s.sec.started
    fault := if bytes.isNone then some 9 else startFault (w % 16) (le 4) (le 8) (le 12) key }

/-- The head of a ring fetched and started on a core (R364, R365, R447). -/
def Chip.startHead (s : Chip) (core ring a : Nat) : Chip :=
  let r := s.busBytes 6 a 32
  let s1 := r.2
  let j := s1.makeJob ring a r.1
  let head := (s1.getF (Reg.SEC.RING_HEAD.HEAD ring) + 1) % s1.ringSize ring
  let cores := Store.insert core j (Store.erase s1.sec.cores core)
  let s2 : Chip := { s1 with sec := { s1.sec with cores := cores, started := s1.sec.started + 1 } }
  (s2.setF (Reg.SEC.RING_HEAD.HEAD ring) head).evc (80 + ring)

/-- A suspended job resumed on a core (R365). -/
def Chip.resume (s : Chip) (core : Nat) (j : Job) : Chip :=
  let cores := Store.insert core j (Store.erase s.sec.cores core)
  { s with sec := { s.sec with cores := cores, susp := s.sec.susp.erase j } }

/-- Whether a core of the engine is free. -/
def Chip.coreFree (s : Chip) (k : Nat) : Bool := !(s.sec.cores.any fun p => p.1 == k)

/-- The best work of R365: by ring, a suspended job before the ring's head; none where nothing can start. -/
def Chip.bestWork (s : Chip) : Option (Nat × Option Job) :=
  (List.range 4).findSome? fun r =>
    match s.sec.susp.find? fun j => j.ring == r with
    | some j => some (r, some j)
    | none => if s.headReady r then some (r, none) else none

/-- JOB_START (R365): the free core `core` takes the best work. -/
def doJobStart (core : Fin 8) (s : Chip) : Chip :=
  if s.islDown 3 || !s.coreFree core.val then s
  else match s.bestWork with
  | none => s
  | some (_, some j) => s.resume core.val j
  | some (r, none) => match s.ringHead r with
    | none => s
    | some a => s.startHead core.val r a

/-- JOB_START. -/
def execJobStart (core : Fin 8) (s : State) : Result := s.to (doJobStart core s.chip)

/-- Blocks counted with their dummy rounds, 0 to 7 for each (R363, R447). -/
def Chip.countBlocks (s : Chip) (n : Nat) : Chip := if n = 0 then s else ((s.evc 84 n).free.2).evc 86 ((s.evc 84 n).free.1 % (7 * n + 1))

/-- The running job that gives way to the head of a higher ring (R365): of the lowest priority, and of those the one started last. -/
def Chip.victim (s : Chip) : Option (Nat × Job) :=
  s.sec.cores.foldl (fun best p =>
    match best with
    | none => some p
    | some q => if q.2.ring < p.2.ring ∨ (q.2.ring = p.2.ring ∧ q.2.order < p.2.order) then some p else some q) none

/-- JOB_SUSPEND (R365): all cores are busy, fewer than 4 jobs are suspended and the head of a higher ring can start; `done` = the blocks that the
suspended job has done by then. -/
def doJobSuspend (done : Fin 257) (s : Chip) : Chip :=
  match s.victim with
  | none => s
  | some (k, j) =>
    if s.islDown 3 || decide (s.sec.cores.length < 8) || decide (4 ≤ s.sec.susp.length) || !((List.range j.ring).any s.headReady) then s
    else
      let d := max j.done (min done.val j.count)
      let cores := Store.erase s.sec.cores k
      let s1 : Chip := { s with sec := { s.sec with cores := cores, susp := s.sec.susp ++ [{ j with done := d }] } }
      (s1.countBlocks (d - j.done)).evc 85

/-- JOB_SUSPEND. -/
def execJobSuspend (done : Fin 257) (s : State) : Result := s.to (doJobSuspend done s.chip)

/-- A job's blocks through AES with its key (R362). -/
def jobBlocks (op : Nat) (key : List Nat) (input : List Nat) : List Nat :=
  (List.range (input.length / 16)).flatMap fun i =>
    let b := asBytes ((input.drop (16 * i)).take 16)
    if op = 1 then aesEncrypt (asBytes key) b else aesDecrypt (asBytes key) b

/-- What a job does at its end (R359 to R364): its status code and the state; the input is read, and the output written, after the last block. -/
def Chip.jobWork (s : Chip) (j : Job) : Nat × Chip :=
  if j.erased then (3, s)
  else match j.fault with
  | some c => (c, s)
  | none =>
    let r := s.busBytes 6 j.src (if j.op = 3 then 48 else 16 * j.count)
    match r.1 with
    | none => (9, r.2)
    | some input =>
      if j.op = 3 then
        let u := r.2.unwrapInto j.slot j.target input
        (u.1, u.2.evc 87)
      else match j.key with
      | none => (4, r.2)
      | some k =>
        let w := r.2.busStore 6 j.dst (jobBlocks j.op (k.bytes.take k.len) input)
        (if w.1 then 1 else 9, w.2)

/-- JOB_END (R360, R361, R364): the job of a core ends; `done` = the blocks done where it ends with an error. -/
def doJobEnd (core : Fin 8) (done : Fin 257) (s : Chip) : Chip :=
  match s.sec.cores.find? fun p => p.1 == core.val with
  | none => s
  | some (_, j) =>
    if s.islDown 3 then s
    else
      let r := s.jobWork j
      let ok := r.1 == 1 || r.1 == 2
      let blocks := if j.op = 3 ∨ j.fault.isSome = true then 0 else if ok then j.count else max j.done (min done.val j.count)
      let s1 := r.2.countBlocks (blocks - j.done)
      let s2 := (s1.busStore 6 (j.desc + 16) (toLe 2 r.1 ++ toLe 2 blocks ++ toLe 4 0)).2
      let cores := Store.erase s2.sec.cores core.val
      let s3 := ({ s2 with sec := { s2.sec with cores := cores } } : Chip).pendCommit j.slot
      if ok then (s3.bump Reg.SEC.JOBS_DONE.COUNT).raiseIf j.irq Ev.SEC.JOB_DONE
      else ((s3.bump Reg.SEC.JOBS_ERR.COUNT).raiseIf j.irq Ev.SEC.JOB_DONE).raise Ev.SEC.JOB_ERR

/-- JOB_END. -/
def execJobEnd (core : Fin 8) (done : Fin 257) (s : State) : Result := s.guarded (doJobEnd core done s.chip)

end Sys2Proof.Machine
end

