-- ==== Sys2Proof/Machine/Ports.lean ====
section
/-! DEFINITION. The meanings of the commands of the client ports and of the cross-connect (R243 to R246, R250, R255, R256). -/

namespace Sys2Proof.Machine

/-- Whether the accepted MSI of every slot of a mask on a trail agrees with connection k (R250). -/
def Chip.msiAgrees (s : Chip) (c : Carrier) (t k mask : Nat) : Bool :=
  (List.range 320).all fun i => !mask.testBit i || s.getByte (Reg.FRM.ACC_MSI.addr c t 0) i == 0x80 + k

/-- MSIM_TIMER (R250): the disagreement, or agreement, that still holds has lasted MSIM_TIME; judged only while PT_VALID is 1. A member's
MSIM is the selector's alone (R313). -/
def doMsimTimer (k : Fin 32) (mem : Bool) (v : Bool) (s : Chip) : Chip :=
  let e := xcEntry s.act k
  if mem then
    match s.tribGroup k.val with
    | none => s
    | some g =>
      let m := s.pgCfgOf g
      if s.flag (Reg.FRM.PT_STAT.PT_VALID m.carrier m.trail) && (s.msiAgrees m.carrier m.trail k.val m.mask != v) then
        (s.modPg g fun w => { w with memMsim := v }).settle
      else s
  else if e.en && s.flag (Reg.FRM.PT_STAT.PT_VALID e.carrier e.trail) && (s.msiAgrees e.carrier e.trail k.val e.mask != v)
      && (s.flag (Reg.XC.XC_TRIB_STAT.MSIM k.val) != v) then
    ((s.setFlag (Reg.XC.XC_TRIB_STAT.MSIM k.val) v).raise Ev.XC.MSIM_CHANGE).settle
  else s

/-- MSIM_TIMER. -/
def execMsimTimer (k : Fin 32) (mem v : Bool) (s : State) : Result := s.to (doMsimTimer k mem v s.chip)

/-- EGR_ACTING of a port takes a value, with EGR_ACT on a change. -/
def Chip.setEgress (s : Chip) (p : Nat) (b : Bool) : Chip :=
  if s.flag (Reg.PORT.PORT_STAT.EGR_ACTING p) = b then s
  else (s.setFlag (Reg.PORT.PORT_STAT.EGR_ACTING p) b).raisePort p Ev.PORT.EGR_ACT

/-- EGRESS_ACTION_START (R255): taken while a cause holds. -/
def doEgressActionStart (p : Fin 16) (s : Chip) : Chip := if s.egressCauses p.val = 0 then s else s.setEgress p.val true

/-- EGRESS_ACTION_START. -/
def execEgressActionStart (p : Fin 16) (s : State) : Result := s.to (doEgressActionStart p s.chip)

/-- EGRESS_ACTION_END (R255): once no cause holds. -/
def doEgressActionEnd (p : Fin 16) (s : Chip) : Chip := if s.egressCauses p.val = 0 then s.setEgress p.val false else s

/-- EGRESS_ACTION_END. -/
def execEgressActionEnd (p : Fin 16) (s : State) : Result := s.to (doEgressActionEnd p s.chip)

/-- ING_REPL of a port takes a value, with ING_REPL on a change. -/
def Chip.setIngress (s : Chip) (p : Nat) (b : Bool) : Chip :=
  if s.flag (Reg.PORT.PORT_STAT.ING_REPL p) = b then s
  else (s.setFlag (Reg.PORT.PORT_STAT.ING_REPL p) b).raisePort p Ev.PORT.ING_REPL

/-- ING_REPL_START (R256). -/
def doIngReplStart (p : Fin 16) (s : Chip) : Chip := if s.ingressCause p.val then s.setIngress p.val true else s

/-- ING_REPL_START. -/
def execIngReplStart (p : Fin 16) (s : State) : Result := s.to (doIngReplStart p s.chip)

/-- ING_REPL_END (R256). -/
def doIngReplEnd (p : Fin 16) (s : Chip) : Chip := if s.ingressCause p.val then s else s.setIngress p.val false

/-- ING_REPL_END. -/
def execIngReplEnd (p : Fin 16) (s : State) : Result := s.to (doIngReplEnd p s.chip)

/-- The counters of a codeword (R243, R245, R246, R258, R447). -/
def Chip.portCounters (s : Chip) (p : Nat) (w : ClientRx) : Chip :=
  let n := w.corrected.getD 0
  let s1 := (s.addPair (Reg.PORT.FEC_CW_LO.addr p) 1).addPair (Reg.PORT.FEC_CORR_LO.addr p) (if 0 < n then 1 else 0)
  let s2 := (s1.addPair (Reg.PORT.FEC_UNCORR_LO.addr p) w.corrected.isNone.toNat).addPair (Reg.PORT.FEC_SYM_LO.addr p) n
  let s3 := (s2.addPair (Reg.PORT.ING_PKT_LO.addr p) w.ingPkts).bump (Reg.PORT.ING_FCS_ERR.COUNT p) w.ingFcs
  let s4 := (s3.addPair (Reg.PORT.EGR_PKT_LO.addr p) w.egrPkts).bump (Reg.PORT.EGR_FCS_ERR.COUNT p) w.egrFcs
  let s5 := (s4.bump (Reg.PORT.ING_IDLE_ADJ.COUNT p) w.ingIdle).bump (Reg.PORT.EGR_IDLE_ADJ.COUNT p) w.egrIdle
  (s5.evc (448 + 2 * p) w.ingPkts).evc (449 + 2 * p) w.egrPkts

/-- A port's receive status with the events of its changes (R243, R261). -/
def Chip.portStatus (s : Chip) (p : Nat) (w : ClientRx) : Chip :=
  let was := fun (f : Nat → Fld) => s.flag (f p)
  let s1 := ((s.setFlag (Reg.PORT.PORT_STAT.ALIGN p) w.align).setFlag (Reg.PORT.PORT_STAT.HI_BER p) w.hiBer)
  let s2 := ((s1.setFlag (Reg.PORT.PORT_STAT.RX_LF p) w.rxLf).setFlag (Reg.PORT.PORT_STAT.RX_RF p) w.rxRf).setLive
    (Ev.PORT.HI_BER p) w.hiBer
  let s3 := if was Reg.PORT.PORT_STAT.ALIGN != w.align then s2.raisePort p Ev.PORT.ALIGN_CHANGE else s2
  let s4 := if w.hiBer && !was Reg.PORT.PORT_STAT.HI_BER then s3.raisePort p Ev.PORT.HI_BER else s3
  if was Reg.PORT.PORT_STAT.RX_LF != w.rxLf || was Reg.PORT.PORT_STAT.RX_RF != w.rxRf then s4.raisePort p Ev.PORT.RX_FAULT else s4

/-- CLIENT_CODEWORD_RX (R243 to R246): an enabled port's codeword is counted and its status follows. -/
def doClientCodewordRx (p : Fin 16) (w : ClientRx) (s : Chip) : Chip :=
  if s.flag (Reg.PORT.PORT_STAT.EN_ACTIVE p.val) then (s.portCounters p.val w).portStatus p.val w else s

/-- CLIENT_CODEWORD_RX. -/
def execClientCodewordRx (p : Fin 16) (w : ClientRx) (s : State) : Result := s.to (doClientCodewordRx p w s.chip)

end Sys2Proof.Machine
end

