-- ==== Sys2Proof/Machine/Records.lean ====
section
/-! DEFINITION. Applying the records of an image: the APPLY pass and the SERVICE records (R376, R378, R380). -/

namespace Sys2Proof.Machine

/-- Where the entries of a record stand: the state; the bytes from a POLL that waits on; whether an access got an error response. -/
structure ApplyRun where
  chip : Chip
  stand : List Nat := []
  err : Bool := false
deriving DecidableEq, Repr

/-- A 32-bit register access of a record, by a master of the bus matrix: whether it got an error response, the word read, the state. -/
def Chip.recAccess (s : Chip) (m : Fin 8) (a : Nat) (write : Bool) (w : Nat) : Bool × Nat × Chip :=
  let k := a / 4 % 2
  let v := s.busRequest m { addr := a, write := write, beats := [(15 * 16 ^ k, w * 2 ^ (32 * k))], wide := false, user := false }
  (v.err.isSome, ofLe v.bytes, v.chip)

/-- A KEYBLOB entry (R376, R380): target slot, KEK slot, 6 bytes of 0, the blob. -/
def Chip.applyBlob (s : Chip) (b : List Nat) : Chip :=
  let r := s.unwrapInto (b.getD 1 0) (b.getD 0 0) (b.drop 8)
  let f := if r.1 = 1 ∨ r.1 = 2 then Reg.BOOT.KEY_STAT.KEY_OK else Reg.BOOT.KEY_STAT.KEY_FAIL
  let n := r.2.fit 8 (r.2.getF f + 1)
  (n.2.setF f n.1).raiseIf (r.1 != 1 && r.1 != 2) Ev.BOOT.KEY_FAIL

/-- The bytes of an entry of a record, by its type (R376, R392). -/
def entrySize (type : Nat) : Nat :=
  match type with
  | 2 => 16 | 3 => 16 | 7 => 56 | 9 => 136
  | _ => 8

/-- One entry of a record applied (R376): the state, whether a POLL waits, whether an access got an error response. -/
def Chip.applyEntry (s : Chip) (m : Fin 8) (type : Nat) (b : List Nat) : Chip × Bool × Bool :=
  let le := fun (o : Nat) => ofLe ((b.drop o).take 4)
  match type with
  | 1 => let r := s.recAccess m (le 0) true (le 4); (r.2.2, false, r.1)
  | 2 =>
    let r := s.recAccess m (le 0) false 0
    if r.1 then (r.2.2, false, true)
    else
      let v := BitVec.ofNat 32 r.2.1
      let mask := BitVec.ofNat 32 (le 4)
      let x := r.2.2.recAccess m (le 0) true ((v &&& ~~~mask) ||| (BitVec.ofNat 32 (le 8) &&& mask)).toNat
      (x.2.2, false, x.1)
  | 3 =>
    let r := s.recAccess m (le 0) false 0
    (r.2.2, !r.1 && (r.2.1 &&& le 4) != le 8, r.1)
  | 4 => (doCommit (Fin.ofNat _ (le 0)) s, false, false)
  | 7 => (s.applyBlob b, false, false)
  | 8 => ((List.range 4).foldl (fun u k => if (le 0).testBit k then u.setF (Reg.MGMT.CORE_ENTRY.OFS k) (le 4) else u) s, false, false)
  | 9 => (s.modMgmt fun v => { v with extInfo := some b }, false, false)
  | _ => (s, false, false)

/-- The entries of a record applied in order, up to a POLL that waits or an error response. -/
def Chip.applyEntries : Nat → Chip → Fin 8 → Nat → List Nat → ApplyRun
  | 0, s, _, _, _ => { chip := s }
  | fuel + 1, s, m, type, b =>
    let n := entrySize type
    if b.length < n then { chip := s }
    else
      let r := s.applyEntry m type (b.take n)
      if r.2.2 then { chip := r.1, err := true }
      else if r.2.1 then { chip := r.1, stand := b }
      else Chip.applyEntries fuel r.1 m type (b.drop n)

/-- A record's bytes applied from its header on, or its cause REC_CRC (R378). -/
def Chip.applyBytes (s : Chip) (m : Fin 8) (l : List Nat) : Option ApplyRun :=
  let rd := fun (i : Nat) => l.getD i 0
  let h := recHdr rd 0
  if recCrcOk rd 0 h.len then some (s.applyEntries (h.len + 1) m h.type ((l.drop 16).take h.len)) else none

/-- The record that is next to apply, or the rest of the one whose POLL waits; none = its check failed. A staged record is read from the pools as
master 7; a SERVICE record from the flash. -/
def Chip.applyNext (s : Chip) (m : Fin 8) (r : ImgRec) (service : Bool) : Option ApplyRun × Chip :=
  if s.boot.stand ≠ [] then
    let u := s.modBoot fun b => { b with stand := [] }
    (some (u.applyEntries (s.boot.stand.length + 1) m 3 s.boot.stand), u)
  else if service then (s.applyBytes m (s.flashBytes r.at_ (24 + r.len)), s)
  else
    let v := s.busBytes 7 (0x80000000 + r.at_) (24 + r.len)
    (v.1.bind fun l => v.2.applyBytes m l, v.2)

/-- The image fails in the APPLY pass at a record (R378, R382). -/
def Chip.recFail (s : Chip) (r : ImgRec) (cause : Nat) : Chip :=
  (((s.setF Reg.BOOT.REC_STAT.FAIL_REC r.idx).modBoot fun b => { b with stand := [] }).imageFail cause).bootAdvance

/-- A SERVICE record fails (R380): the device stays in EARLY_LIGHT. -/
def Chip.svcFail (s : Chip) : Chip := (s.setFlag Reg.BOOT.BOOT_STAT.SVC_ERR true).modBoot fun b => { b with service := [], stand := [] }

/-- A record has been applied. -/
def Chip.recDone (s : Chip) : Chip := s.bumpSat Reg.BOOT.REC_STAT.APPLIED

/-- A staged EARLY record applied (R380). -/
def Chip.applyEarly (s : Chip) (r : ImgRec) : Chip :=
  let v := s.applyNext 7 r false
  match v.1 with
  | none => v.2.recFail r 5
  | some x =>
    if x.err then x.chip.recFail r 11
    else if x.stand ≠ [] then x.chip.modBoot fun b => { b with stand := x.stand }
    else x.chip.recDone.modBoot fun b => { b with recs := b.recs.drop 1 }

/-- A SERVICE record applied by firmware on a core (R373, R380). -/
def Chip.applyService (s : Chip) (core : Fin 8) (r : ImgRec) : Chip :=
  let v := s.applyNext core r true
  match v.1 with
  | none => v.2.svcFail
  | some x =>
    if x.err then x.chip.svcFail
    else if x.stand ≠ [] then x.chip.modBoot fun b => { b with stand := x.stand }
    else x.chip.recDone.modBoot fun b => { b with service := b.service.drop 1 }

/-- APPLY_RECORD (R380): the next staged record in the APPLY pass; in EARLY_LIGHT the next SERVICE record, by firmware on a core. -/
def doApplyRecord (core : Fin 4) (s : Chip) : Chip :=
  let ph := s.getF Reg.BOOT.BOOT_STAT.PHASE
  match s.boot.recs, s.boot.service with
  | r :: _, _ => if ph = 4 ∧ s.boot.applying = true then s.applyEarly r else s
  | [], r :: _ => if ph = 5 then s.applyService (Fin.ofNat 8 core.val) r else s
  | [], [] => s

/-- APPLY_RECORD. -/
def execApplyRecord (core : Fin 4) (s : State) : Result := s.guarded (doApplyRecord core s.chip)

/-- POLL_TIMEOUT (R376, R378): the POLL that waits runs out. -/
def doPollTimeout (s : Chip) : Chip :=
  let ph := s.getF Reg.BOOT.BOOT_STAT.PHASE
  if s.boot.stand = [] then s
  else match s.boot.recs with
  | r :: _ => if ph = 4 then s.recFail r 10 else s
  | [] => if ph = 5 then s.svcFail else s

/-- POLL_TIMEOUT. -/
def execPollTimeout (s : State) : Result := s.to (doPollTimeout s.chip)

end Sys2Proof.Machine
end

