-- ==== Sys2Proof/Machine/Rxd.lean ====
section
/-! DEFINITION. The meanings of the commands of receive equalisation: converter levels, dispersion tracking, the engine group, lock
flags and quality figures (R70 to R97), and the exchanges of every redundant group (R495). -/

namespace Sys2Proof.Machine

/-- ADC_TICK (R70, R72): the RMS level of each lane; 0 while the converter PLL is unlocked. -/
def doAdcTick (c : Carrier) (xi xq yi yq : Nat) (s : Chip) : Chip :=
  let ok := !(s.txd.get c).pllLol
  let put := fun (t : Chip) (l v : Nat) => t.setSat (Reg.RXD.ADC_STAT.RMS c l) (if ok then v else 0)
  put (put (put (put s 0 xi) 1 xq) 2 yi) 3 yq

/-- ADC_TICK. -/
def execAdcTick (c : Carrier) (xi xq yi yq : Nat) (s : State) : Result := s.to (doAdcTick c xi xq yi yq s.chip)

/-- ADC_CLIP_WINDOW (R71, R72): the window's clipped samples are counted, each lane's flag follows, and ADC_CLIP is raised above
ADC_CLIP_THR. -/
def doAdcClipWindow (c : Carrier) (xi xq yi yq : Nat) (s : Chip) : Chip :=
  let ok := !(s.txd.get c).pllLol
  let total := if ok then xi + xq + yi + yq else 0
  let put := fun (t : Chip) (l v : Nat) => t.setFlag (Reg.RXD.ADC_STAT.CLIPPED c l) (ok && decide (0 < v))
  let s1 := put (put (put (put s 0 xi) 1 xq) 2 yi) 3 yq
  let s2 := (s1.addPair (Reg.RXD.ADC_CLIP_CNT_LO.addr c) total).evc (c.evcSrc 44) total
  s2.raiseIf (decide (s2.getF (Reg.RXD.ADC_CLIP_THR.THR c) < total)) (Ev.RXD.ADC_CLIP c)

/-- ADC_CLIP_WINDOW. -/
def execAdcClipWindow (c : Carrier) (xi xq yi yq : Nat) (s : State) : Result := s.to (doAdcClipWindow c xi xq yi yq s.chip)

/-- CD_TRACK_UPDATE (R78): in AUTO mode with EN = 1, an acquired receiver's filter moves toward the line by at most STEP where the
residual is at least THR; CD_LIMIT is raised where it reaches the end of the mode's range. -/
def doCdTrackUpdate (r : Rcv) (residual : Int) (s : Chip) : Chip :=
  let c := r.carrier
  let v := s.rcvOf r
  if v.state = 8 && s.flag (Reg.RXD.CD_TRACK.EN c) && !s.flag (Reg.RXD.RX_STAT.CD_MODE_ACTIVE c)
      && decide (s.getF (Reg.RXD.CD_TRACK.THR c) ≤ residual.natAbs) then
    let m : Int := s.cdRange c
    let step := min residual.natAbs (max 1 (s.getF (Reg.RXD.CD_TRACK.STEP c)))
    let cd := max (-m) (min m (v.cd + residual.sign * step))
    (s.setRcv r { v with cd := cd }).raiseIf (decide (cd.natAbs = m.natAbs ∧ cd ≠ v.cd)) (Ev.RXD.CD_LIMIT c)
  else s

/-- CD_TRACK_UPDATE. -/
def execCdTrackUpdate (r : Rcv) (residual : Int) (s : State) : Result := s.to (doCdTrackUpdate r residual s.chip)

/-- Whether the non-linear steps are bypassed (R79): the DISP values of the steps in effect sum to more than the magnitude of the
filter value. -/
def Chip.nlcBypassed (s : Chip) (c : Carrier) : Bool :=
  let n := s.getF (Reg.RXD.RX_STAT.NLC_ACTIVE c)
  let total := ((List.range n).map fun k => s.actF (Reg.RXD.NLC_SPAN.DISP c k)).foldl (· + ·) 0
  decide ((s.rcvOf (.car c)).cd.natAbs < total)

/-- NLC_BYPASS_CHANGE (R79). -/
def doNlcBypassChange (c : Carrier) (s : Chip) : Chip := s.setFlag (Reg.RXD.RX_STAT.NLC_BYPASS c) (s.nlcBypassed c)

/-- NLC_BYPASS_CHANGE. -/
def execNlcBypassChange (c : Carrier) (s : State) : Result := s.to (doNlcBypassChange c s.chip)

/-- ENG_FAULT (R83, R84): each engine in service that fails is fenced; the reserve takes over for the first, and a failure without a
reserve raises ENG_SF. -/
def doEngFault (c : Carrier) (engines : List (Fin 9)) (s : Chip) : Chip :=
  let one := fun (t : Chip) (e : Fin 9) =>
    if (t.grpOf c 0).inService e.val then
      ((t.bumpSat (Reg.RXD.ENG_STAT.BLOCK_ERR c e.val)).raise (Ev.RXD.ENG_FAULT c)).takeOver c 0 e.val
    else t
  ((engines.foldl one s).stepNeed c false).settle

/-- ENG_FAULT. -/
def execEngFault (c : Carrier) (engines : List (Fin 9)) (s : State) : Result := s.to (doEngFault c engines s.chip)

/-- ENG_TAKEOVER (R83): the engine that took over delivers its first block. -/
def doEngTakeover (c : Carrier) (s : Chip) : Chip :=
  let v := s.grpOf c 0
  if v.takeover.isSome then (s.setGrp c 0 { v with takeover := none }).raise (Ev.RXD.ENG_TAKEOVER c) else s

/-- ENG_TAKEOVER. -/
def execEngTakeover (c : Carrier) (s : State) : Result := s.to (doEngTakeover c s.chip)

/-- ENG_SF_CLEAR (R84): at a block boundary ENG_SF ends if the engines not fenced carry the configuration. -/
def doEngSfClear (c : Carrier) (s : Chip) : Chip := (s.sfRecheck c 0).settle

/-- ENG_SF_CLEAR. -/
def execEngSfClear (c : Carrier) (s : State) : Result := s.to (doEngSfClear c s.chip)

/-- Whether the exchanges of a group are held (R106, R128): engines while the carrier searches, from COARSE_FREQ to FRAME_ALIGN; slices
in FRAME_ALIGN until codeword lock. -/
def Chip.exchangeHeld (s : Chip) (c : Carrier) (g : Nat) : Bool :=
  ((s.receivers c).map s.rcvOf).any fun v =>
    match g with
    | 0 => decide (2 ≤ v.state ∧ v.state ≤ 7)
    | 1 => decide (v.state = 7) && !v.cwLock
    | _ => false

/-- ROTATION_EXCHANGE (R81, R133, R354, R495, R498). -/
def doRotationExchange (c : Carrier) (g : Fin 3) (s : Chip) : Chip :=
  if s.exchangeHeld c g.val then s else ((s.exchange c g.val).stepNeed c false).settle

/-- ROTATION_EXCHANGE. -/
def execRotationExchange (c : Carrier) (g : Fin 3) (s : State) : Result := s.to (doRotationExchange c g s.chip)

/-- LOCK_CHANGE (R86, R88). -/
def doLockChange (r : Rcv) (flag : LockFlag) (v : Bool) (s : Chip) : Chip := s.setLock r flag v

/-- LOCK_CHANGE. -/
def execLockChange (r : Rcv) (flag : LockFlag) (v : Bool) (s : State) : Result := s.to (doLockChange r flag v s.chip)

/-- CFR_RANGE (R88, R105, R149): CFR_LOCK clears; from ACQUIRED the state goes to COARSE_FREQ with LOST and without the warm state,
from COARSE_FREQ it restarts cold. -/
def doCfrRange (r : Rcv) (s : Chip) : Chip :=
  let v := s.rcvOf r
  let s1 := s.raiseRcv r Ev.RXD.CFR_RANGE Ev.SUBC.FOFS_RANGE |>.setLock r .cfrLock false
  if v.state = 8 then ((s1.modRcv r RcvSt.discardWarm).leaveAcquired r).rcvEnd r
  else if v.state = 2 then (s1.coldRestart r).rcvEnd r
  else s1

/-- CFR_RANGE. -/
def execCfrRange (r : Rcv) (s : State) : Result := s.to (doCfrRange r s.chip)

/-- The quality registers latched from an interval's figures (R94, R95, R99): `base` stands 4 below QUAL_SEQ, `cd` is the dispersion
figure. -/
def Chip.latchQual (s : Chip) (base : Nat) (valid : Bool) (f : QualFig) (cd : Int) : Chip :=
  let seq := (s.rd (base + 4)).toNat % 2 ^ 31 + 1
  let s0 := s.wr (base + 4) (BitVec.ofNat 32 (seq % 2 ^ 31 + (if valid then 2 ^ 31 else 0)))
  let ex := s0.evm f.prefX f.perrX
  let ey := ex.2.evm f.prefY f.perrY
  let e := ey.2.evm (f.prefX + f.prefY) (f.perrX + f.perrY)
  let sx := e.2.snr f.prefX f.perrX
  let sy := sx.2.snr f.prefY f.perrY
  let n := sy.2.snr (f.prefX + f.prefY) (f.perrX + f.perrY)
  let g := n.2.fit 16 f.gmi
  let d := g.2.fit 16 f.dgd
  let p := d.2.fit 16 f.pdl
  let o := p.2.fitS 16 f.fofs
  let w := fun (hi lo : Nat) => BitVec.ofNat 32 (hi % 65536 * 65536 + lo % 65536)
  let s1 := (((o.2.wr (base + 0x10) (w ey.1 ex.1)).wr (base + 0x14) (w 0 e.1)).wr (base + 0x18) (w 0 n.1)).wr (base + 0x1C) (w sy.1 sx.1)
  let s2 := ((s1.setPair (base + 0x20) f.bits).setPair (base + 0x28) f.errs).wr (base + 0x30) (w 0 g.1)
  let s3 := ((s2.wr (base + 0x34) (BitVec.ofInt 32 cd)).wr (base + 0x38) (w p.1 d.1)).wr (base + 0x3C) (w 0 o.1)
  s3.wr (base + 0x40) (w 0 (min f.slips 0xFFFF))

/-- The quality registers of an interval in which CPR_LOCK was never 1: every figure reads 0 (R95). -/
def Chip.latchNoQual (s : Chip) (base : Nat) : Chip :=
  let seq := (s.rd (base + 4)).toNat % 2 ^ 31 + 1
  let s1 := s.wr (base + 4) (BitVec.ofNat 32 (seq % 2 ^ 31))
  ([0x10, 0x14, 0x18, 0x1C, 0x20, 0x24, 0x28, 0x2C, 0x30, 0x34, 0x38, 0x3C, 0x40] : List Nat).foldl
    (fun t o => t.wr (base + o) 0) s1

/-- AVG_ITER of an interval in 1/256 iteration (R139, R140); without a codeword 0 where CPR_LOCK was never 1 (R95), else a value the
spec does not state. -/
def Chip.avgIter (s : Chip) (any : Bool) (iters cws : Nat) : Nat × Chip :=
  if cws = 0 then (if any then s.free else (0, s))
  else let t := s.roundFree (256 * iters : Nat) cws; (t.1.toNat, t.2)

/-- A receiver begins its next quality interval. -/
def RcvSt.nextInterval (v : RcvSt) : RcvSt := { v with cprAll := v.cpr, cprAny := v.cpr, iters := 0, cws := 0 }

/-- The mean of a list of numbers weighted by weights, 0 for no weight; its rounding is free. -/
def Chip.meanOf (s : Chip) (l : List (Int × Nat)) : Int × Chip :=
  let den := (l.map Prod.snd).foldl (· + ·) 0
  if den = 0 then (0, s) else s.roundFree ((l.map fun p => p.1 * (p.2 : Int)).foldl (· + ·) 0) den

/-- The carrier's figures combined from its active subcarriers (R97). -/
def Chip.combineQual (s : Chip) (l : List (Rcv × QualFig)) : (QualFig × Int) × Chip :=
  let sum := fun (g : QualFig → Nat) => (l.map fun p => g p.2).foldl (· + ·) 0
  let gmi := s.meanOf (l.map fun p => ((p.2.gmi : Int), p.2.bits / 15360))
  let cd := gmi.2.meanOf (l.map fun p => ((s.rcvOf p.1).cd + p.2.cdResidual, 1))
  let dgd := cd.2.meanOf (l.map fun p => ((p.2.dgd : Int), 1))
  let pdl := dgd.2.meanOf (l.map fun p => ((p.2.pdl : Int), 1))
  let f : QualFig :=
    { prefX := sum (·.prefX), prefY := sum (·.prefY), perrX := sum (·.perrX), perrY := sum (·.perrY), bits := sum (·.bits)
      errs := sum (·.errs), gmi := gmi.1.toNat, cdResidual := 0, dgd := dgd.1.toNat, pdl := pdl.1.toNat
      fofs := (l.head?.map fun p => p.2.fofs).getD 0, slips := sum (·.slips) }
  ((f, cd.1), pdl.2)

/-- The quality registers of one subcarrier latched (R97, R165). -/
def Chip.latchSub (s : Chip) (c : Carrier) (q : Fin 16) (f : QualFig) : Chip :=
  let v := s.rcvOf (.sub c q)
  let base := c.base + 0x01601000 + 0x100 * q.val
  let s1 := if v.cprAny then s.latchQual base v.cprAll f (v.cd + f.cdResidual) else s.latchNoQual base
  let a := s1.avgIter v.cprAny v.iters v.cws
  (a.2.setSat (Reg.SUBC.SC_AVG_ITER.AVG c q.val) a.1).setRcv (.sub c q) v.nextInterval

/-- What a snapshot of the carrier's figures raises (R89, R94, R95): SNR_LOW, SLIP, QUAL_READY; phase slips also count (R447). -/
def Chip.qualEvents (s : Chip) (c : Carrier) (valid : Bool) (slips : Nat) : Chip :=
  let thr := s.getF (Reg.RXD.QUAL_CFG.SNR_THR c)
  let low := valid && decide (thr ≠ 0) && decide (s.getS (Reg.RXD.QUAL_SNR.SNR c) < thr)
  (((s.raiseIf low (Ev.RXD.SNR_LOW c)).raiseIf (decide (0 < slips)) (Ev.RXD.SLIP c)).raise (Ev.RXD.QUAL_READY c)).evc
    (c.evcSrc 46) slips

/-- QUAL_BOUNDARY (R93 to R97, R139): every figure is latched, SEQ advances, QUAL_READY is raised. -/
def doQualBoundary (c : Carrier) (car : QualFig) (subs : List (Fin 16 × QualFig)) (s : Chip) : Chip :=
  let base := c.base + 0x01100100
  let l := s.lineApplied c
  if l.cfg.subcEn then
    let active := subs.filter fun p => l.rxMask.testBit p.1.val
    let counted := (active.map fun p => (Rcv.sub c p.1, p.2)).filter fun p => (s.rcvOf p.1).cprAny
    let all := active.all fun p => (s.rcvOf (.sub c p.1)).cprAll
    let iters := (active.map fun p => (s.rcvOf (.sub c p.1)).iters).foldl (· + ·) 0
    let cws := (active.map fun p => (s.rcvOf (.sub c p.1)).cws).foldl (· + ·) 0
    let m := s.combineQual counted
    let s1 := if counted.isEmpty then s.latchNoQual base else m.2.latchQual base all m.1.1 m.1.2
    let s2 := active.foldl (fun t p => t.latchSub c p.1 p.2) s1
    let a := s2.avgIter (!counted.isEmpty) iters cws
    (a.2.setSat (Reg.FEC.AVG_ITER.AVG c) a.1).qualEvents c (!counted.isEmpty && all) (if counted.isEmpty then 0 else m.1.1.slips)
  else
    let v := s.rcvOf (.car c)
    let s1 := if v.cprAny then s.latchQual base v.cprAll car (v.cd + car.cdResidual) else s.latchNoQual base
    let a := s1.avgIter v.cprAny v.iters v.cws
    let s2 := (a.2.setSat (Reg.FEC.AVG_ITER.AVG c) a.1).setRcv (.car c) v.nextInterval
    s2.qualEvents c v.cprAll (if v.cprAny then car.slips else 0)

/-- QUAL_BOUNDARY. -/
def execQualBoundary (c : Carrier) (car : QualFig) (subs : List (Fin 16 × QualFig)) (s : State) : Result :=
  s.to (doQualBoundary c car subs s.chip)

end Sys2Proof.Machine
end

