-- ==== Sys2Proof/Machine/Families.lean ====
section
/-! DEFINITION. The meanings of every family of commands, gathered for the dispatch. -/
end

