-- ==== Sys2Proof/Machine/Dispatch.lean ====
section
/-! DEFINITION. The dispatch: one arm per command, each a direct call of its meaning. -/

namespace Sys2Proof.Machine

/-- The effect of a command on everything but the queue. -/
def exec (i : Instr) (s : State) : Host.Outcome State Fault Refusal :=
  match i with
  | .registerWrite m user a w be => Sys2Proof.Machine.execRegisterWrite m user a w be s
  | .loRead m a => Sys2Proof.Machine.execLoRead m a s
  | .evtStatWrite k w now => Sys2Proof.Machine.execEvtStatWrite k w now s
  | .evtMaskWrite k w => Sys2Proof.Machine.execEvtMaskWrite k w s
  | .commit groups => Sys2Proof.Machine.execCommit groups s
  | .shadowRevert groups => Sys2Proof.Machine.execShadowRevert groups s
  | .bridgeTransfer b back reg => Sys2Proof.Machine.execBridgeTransfer b back reg s
  | .bridgeQuiescent b => Sys2Proof.Machine.execBridgeQuiescent b s
  | .phaseOk => Sys2Proof.Machine.execPhaseOk s
  | .carrierJoin c => Sys2Proof.Machine.execCarrierJoin c s
  | .txEnSet c => Sys2Proof.Machine.execTxEnSet c s
  | .txEnClear c => Sys2Proof.Machine.execTxEnClear c s
  | .muteSet c => Sys2Proof.Machine.execMuteSet c s
  | .muteClear c => Sys2Proof.Machine.execMuteClear c s
  | .reconfRampWrite c v => Sys2Proof.Machine.execReconfRampWrite c v s
  | .rampUpDone c => Sys2Proof.Machine.execRampUpDone c s
  | .rampDownDone c => Sys2Proof.Machine.execRampDownDone c s
  | .reconfApply c => Sys2Proof.Machine.execReconfApply c s
  | .maskCheck c spectrum => Sys2Proof.Machine.execMaskCheck c spectrum s
  | .dacClipWindow c clipped => Sys2Proof.Machine.execDacClipWindow c clipped s
  | .dacPllLol c => Sys2Proof.Machine.execDacPllLol c s
  | .dacPllRelock c => Sys2Proof.Machine.execDacPllRelock c s
  | .adcTick c xi xq yi yq => Sys2Proof.Machine.execAdcTick c xi xq yi yq s
  | .adcClipWindow c xi xq yi yq => Sys2Proof.Machine.execAdcClipWindow c xi xq yi yq s
  | .cdTrackUpdate r residual => Sys2Proof.Machine.execCdTrackUpdate r residual s
  | .nlcBypassChange c => Sys2Proof.Machine.execNlcBypassChange c s
  | .engFault c engines => Sys2Proof.Machine.execEngFault c engines s
  | .engTakeover c => Sys2Proof.Machine.execEngTakeover c s
  | .engSfClear c => Sys2Proof.Machine.execEngSfClear c s
  | .rotationExchange c g => Sys2Proof.Machine.execRotationExchange c g s
  | .lockChange r flag v => Sys2Proof.Machine.execLockChange r flag v s
  | .cfrRange r => Sys2Proof.Machine.execCfrRange r s
  | .qualBoundary c car subs => Sys2Proof.Machine.execQualBoundary c car subs s
  | .signalWindow r sum => Sys2Proof.Machine.execSignalWindow r sum s
  | .acqEnSet c => Sys2Proof.Machine.execAcqEnSet c s
  | .acqEnClear c => Sys2Proof.Machine.execAcqEnClear c s
  | .restartCold c => Sys2Proof.Machine.execRestartCold c s
  | .restartWarm c => Sys2Proof.Machine.execRestartWarm c s
  | .coarseFreqDone r mhz => Sys2Proof.Machine.execCoarseFreqDone r mhz s
  | .scanBatch r metrics => Sys2Proof.Machine.execScanBatch r metrics s
  | .trainPeriod r peak strongest => Sys2Proof.Machine.execTrainPeriod r peak strongest s
  | .polTimingLock r => Sys2Proof.Machine.execPolTimingLock r s
  | .pilotLockDone r => Sys2Proof.Machine.execPilotLockDone r s
  | .stageBoundExpired r => Sys2Proof.Machine.execStageBoundExpired r s
  | .lolTimeExpired r => Sys2Proof.Machine.execLolTimeExpired r s
  | .warmCapture r taps fofs sofs => Sys2Proof.Machine.execWarmCapture r taps fofs sofs s
  | .warmHoldExpired r => Sys2Proof.Machine.execWarmHoldExpired r s
  | .acqFail r => Sys2Proof.Machine.execAcqFail r s
  | .codewordDispatch r => Sys2Proof.Machine.execCodewordDispatch r s
  | .decodeDone c slice iters ok corrected => Sys2Proof.Machine.execDecodeDone c slice iters ok corrected s
  | .codewordRelease c => Sys2Proof.Machine.execCodewordRelease c s
  | .sliceFault c slices => Sys2Proof.Machine.execSliceFault c slices s
  | .sliceTakeover c => Sys2Proof.Machine.execSliceTakeover c s
  | .fecSfClear c => Sys2Proof.Machine.execFecSfClear c s
  | .cwLock r passed => Sys2Proof.Machine.execCwLock r passed s
  | .cwLockLoss r => Sys2Proof.Machine.execCwLockLoss r s
  | .stairBlock r corrected uncorrectable => Sys2Proof.Machine.execStairBlock r corrected uncorrectable s
  | .upFcompUpdate c fofs => Sys2Proof.Machine.execUpFcompUpdate c fofs s
  | .upstreamSleep c q => Sys2Proof.Machine.execUpstreamSleep c q s
  | .upstreamWake c q => Sys2Proof.Machine.execUpstreamWake c q s
  | .hubSleepMark c q v => Sys2Proof.Machine.execHubSleepMark c q v s
  | .inletSend c => Sys2Proof.Machine.execInletSend c s
  | .inletAck c => Sys2Proof.Machine.execInletAck c s
  | .inletEnClear c => Sys2Proof.Machine.execInletEnClear c s
  | .backoffExpired c => Sys2Proof.Machine.execBackoffExpired c s
  | .inletSent c => Sys2Proof.Machine.execInletSent c s
  | .respTimeout c => Sys2Proof.Machine.execRespTimeout c s
  | .preambleDetected c level fofs sec ns => Sys2Proof.Machine.execPreambleDetected c level fofs sec ns s
  | .headerComplete c header otherPeak => Sys2Proof.Machine.execHeaderComplete c header otherPeak s
  | .payloadComplete c bytes => Sys2Proof.Machine.execPayloadComplete c bytes s
  | .queuePop c => Sys2Proof.Machine.execQueuePop c s
  | .queueFlush c => Sys2Proof.Machine.execQueueFlush c s
  | .frameStartTx c t parity pin => Sys2Proof.Machine.execFrameStartTx c t parity pin s
  | .lineBlockRx c t pos errs header => Sys2Proof.Machine.execLineBlockRx c t pos errs header s
  | .lofAcq c t => Sys2Proof.Machine.execLofAcq c t s
  | .frameRx c t f => Sys2Proof.Machine.execFrameRx c t f s
  | .defectTimer c t lom v => Sys2Proof.Machine.execDefectTimer c t lom v s
  | .degSecond c t sec => Sys2Proof.Machine.execDegSecond c t sec s
  | .failSet c t bit => Sys2Proof.Machine.execFailSet c t bit s
  | .failClear c t bit => Sys2Proof.Machine.execFailClear c t bit s
  | .secondClose c t sec => Sys2Proof.Machine.execSecondClose c t sec s
  | .secondCommit c t => Sys2Proof.Machine.execSecondCommit c t s
  | .pmClear c t => Sys2Proof.Machine.execPmClear c t s
  | .pmEnable c t => Sys2Proof.Machine.execPmEnable c t s
  | .laneEnSet l => Sys2Proof.Machine.execLaneEnSet l s
  | .laneEnClear l => Sys2Proof.Machine.execLaneEnClear l s
  | .laneReconfig l w => Sys2Proof.Machine.execLaneReconfig l w s
  | .laneLosAssert l => Sys2Proof.Machine.execLaneLosAssert l s
  | .laneLosClear l => Sys2Proof.Machine.execLaneLosClear l s
  | .lolWindow l errors m bits errs => Sys2Proof.Machine.execLolWindow l errors m bits errs s
  | .trainConverged l preTx preRx => Sys2Proof.Machine.execTrainConverged l preTx preRx s
  | .lockHoldExpired l => Sys2Proof.Machine.execLockHoldExpired l s
  | .trainFail l => Sys2Proof.Machine.execTrainFail l s
  | .capsTimeout l => Sys2Proof.Machine.execCapsTimeout l s
  | .capsWordRx l word sent => Sys2Proof.Machine.execCapsWordRx l word sent s
  | .readyRx l => Sys2Proof.Machine.execReadyRx l s
  | .txSleep l => Sys2Proof.Machine.execTxSleep l s
  | .txWake l => Sys2Proof.Machine.execTxWake l s
  | .rxSleep l => Sys2Proof.Machine.execRxSleep l s
  | .rxWake l => Sys2Proof.Machine.execRxWake l s
  | .rxWakeDone l => Sys2Proof.Machine.execRxWakeDone l s
  | .wakeFail l => Sys2Proof.Machine.execWakeFail l s
  | .chkLock l => Sys2Proof.Machine.execChkLock l s
  | .chkLockLoss l bits errs => Sys2Proof.Machine.execChkLockLoss l bits errs s
  | .chkClr l bits errs => Sys2Proof.Machine.execChkClr l bits errs s
  | .injOne l => Sys2Proof.Machine.execInjOne l s
  | .injBurst l => Sys2Proof.Machine.execInjBurst l s
  | .msimTimer k mem v => Sys2Proof.Machine.execMsimTimer k mem v s
  | .egressActionStart p => Sys2Proof.Machine.execEgressActionStart p s
  | .egressActionEnd p => Sys2Proof.Machine.execEgressActionEnd p s
  | .ingReplStart p => Sys2Proof.Machine.execIngReplStart p s
  | .ingReplEnd p => Sys2Proof.Machine.execIngReplEnd p s
  | .refActivityLoss r => Sys2Proof.Machine.execRefActivityLoss r s
  | .fmonWindow offs => Sys2Proof.Machine.execFmonWindow offs s
  | .grossCheck edges offs => Sys2Proof.Machine.execGrossCheck edges offs s
  | .refQualified r => Sys2Proof.Machine.execRefQualified r s
  | .refWtrExpired r => Sys2Proof.Machine.execRefWtrExpired r s
  | .selCfgWrite mode manRef revertive => Sys2Proof.Machine.execSelCfgWrite mode manRef revertive s
  | .switchCommitPoint => Sys2Proof.Machine.execSwitchCommitPoint s
  | .dpllLocked => Sys2Proof.Machine.execDpllLocked s
  | .dpllLockLoss => Sys2Proof.Machine.execDpllLockLoss s
  | .holdoverOos => Sys2Proof.Machine.execHoldoverOos s
  | .historyRecord ppt => Sys2Proof.Machine.execHistoryRecord ppt s
  | .histClr => Sys2Proof.Machine.execHistClr s
  | .dcoSlewStep fofs => Sys2Proof.Machine.execDcoSlewStep fofs s
  | .dcoFreqWrite v => Sys2Proof.Machine.execDcoFreqWrite v s
  | .refoutChange o => Sys2Proof.Machine.execRefoutChange o s
  | .capture => Sys2Proof.Machine.execCapture s
  | .phaseAdj v => Sys2Proof.Machine.execPhaseAdj v s
  | .ppsEdge k => Sys2Proof.Machine.execPpsEdge k s
  | .ppsTimeout k => Sys2Proof.Machine.execPpsTimeout k s
  | .ppsoutPulse => Sys2Proof.Machine.execPpsoutPulse s
  | .ttSourceTimeout => Sys2Proof.Machine.execTtSourceTimeout s
  | .tamustMsgRx p bytes aborted route => Sys2Proof.Machine.execTamustMsgRx p bytes aborted route s
  | .timeMsgTx p => Sys2Proof.Machine.execTimeMsgTx p s
  | .timeMsgRx p payload => Sys2Proof.Machine.execTimeMsgRx p payload s
  | .helloTx p => Sys2Proof.Machine.execHelloTx p s
  | .arm k => Sys2Proof.Machine.execArm k s
  | .disarm k => Sys2Proof.Machine.execDisarm k s
  | .rippleFired k => Sys2Proof.Machine.execRippleFired k s
  | .rippleAction => Sys2Proof.Machine.execRippleAction s
  | .domRipple core => Sys2Proof.Machine.execDomRipple core s
  | .domCancel core => Sys2Proof.Machine.execDomCancel core s
  | .domStatus core => Sys2Proof.Machine.execDomStatus core s
  | .rippleSched => Sys2Proof.Machine.execRippleSched s
  | .rippleCancel => Sys2Proof.Machine.execRippleCancel s
  | .rippleAck => Sys2Proof.Machine.execRippleAck s
  | .grant => Sys2Proof.Machine.execGrant s
  | .flEnable c => Sys2Proof.Machine.execFlEnable c s
  | .flDisable c => Sys2Proof.Machine.execFlDisable c s
  | .flHeld c t rx => Sys2Proof.Machine.execFlHeld c t rx s
  | .flSlip c t rx => Sys2Proof.Machine.execFlSlip c t rx s
  | .sdWindow g nW nP => Sys2Proof.Machine.execSdWindow g nW nP s
  | .holdOffExpired g k => Sys2Proof.Machine.execHoldOffExpired g k s
  | .wtrExpired g => Sys2Proof.Machine.execWtrExpired g s
  | .cmdClear g => Sys2Proof.Machine.execCmdClear g s
  | .cmdLo g => Sys2Proof.Machine.execCmdLo g s
  | .cmdFs g => Sys2Proof.Machine.execCmdFs g s
  | .cmdMs g => Sys2Proof.Machine.execCmdMs g s
  | .cmdMsW g => Sys2Proof.Machine.execCmdMsW g s
  | .switch g last => Sys2Proof.Machine.execSwitch g last s
  | .diffDelayUpdate g ns => Sys2Proof.Machine.execDiffDelayUpdate g ns s
  | .deskewRecover g => Sys2Proof.Machine.execDeskewRecover g s
  | .hitlessRead g fsn corr badW badP => Sys2Proof.Machine.execHitlessRead g fsn corr badW badP s
  | .apsMsgTx g => Sys2Proof.Machine.execApsMsgTx g s
  | .apsMsgRx src seq b0 b1 b2 b3 => Sys2Proof.Machine.execApsMsgRx src seq b0 b1 b2 b3 s
  | .apsBridge g => Sys2Proof.Machine.execApsBridge g s
  | .apsLoss g => Sys2Proof.Machine.execApsLoss g s
  | .fopTimer g nr => Sys2Proof.Machine.execFopTimer g nr s
  | .selMiscompare g => Sys2Proof.Machine.execSelMiscompare g s
  | .unfreeze => Sys2Proof.Machine.execUnfreeze s
  | .lrPop => Sys2Proof.Machine.execLrPop s
  | .txLoad c => Sys2Proof.Machine.execTxLoad c s
  | .rxLoad c => Sys2Proof.Machine.execRxLoad c s
  | .loadDone c tx p => Sys2Proof.Machine.execLoadDone c tx p s
  | .swapNow c => Sys2Proof.Machine.execSwapNow c s
  | .tagCheck c t pass unver cut => Sys2Proof.Machine.execTagCheck c t pass unver cut s
  | .aesLaneFault c lane tx t => Sys2Proof.Machine.execAesLaneFault c lane tx t s
  | .laneTakeover c => Sys2Proof.Machine.execLaneTakeover c s
  | .zeroSlot k => Sys2Proof.Machine.execZeroSlot k s
  | .zeroAll => Sys2Proof.Machine.execZeroAll s
  | .provision m => Sys2Proof.Machine.execProvision m s
  | .otpKill => Sys2Proof.Machine.execOtpKill s
  | .zeroizePin => Sys2Proof.Machine.execZeroizePin s
  | .zeroizePinRelease => Sys2Proof.Machine.execZeroizePinRelease s
  | .ringTailWrite k v => Sys2Proof.Machine.execRingTailWrite k v s
  | .jobStart core => Sys2Proof.Machine.execJobStart core s
  | .jobSuspend done => Sys2Proof.Machine.execJobSuspend done s
  | .jobEnd core done => Sys2Proof.Machine.execJobEnd core done s
  | .poresetAssert vdd => Sys2Proof.Machine.execPoresetAssert vdd s
  | .poresetRelease => Sys2Proof.Machine.execPoresetRelease s
  | .otpLoaded => Sys2Proof.Machine.execOtpLoaded s
  | .headerRead stuck => Sys2Proof.Machine.execHeaderRead stuck s
  | .poolBistDone rows => Sys2Proof.Machine.execPoolBistDone rows s
  | .loadPassEnd stuck => Sys2Proof.Machine.execLoadPassEnd stuck s
  | .applyRecord core => Sys2Proof.Machine.execApplyRecord core s
  | .pollTimeout => Sys2Proof.Machine.execPollTimeout s
  | .bootDone => Sys2Proof.Machine.execBootDone s
  | .fullSvc => Sys2Proof.Machine.execFullSvc s
  | .confirm => Sys2Proof.Machine.execConfirm s
  | .confirmTmo => Sys2Proof.Machine.execConfirmTmo s
  | .clrBad => Sys2Proof.Machine.execClrBad s
  | .authLock m => Sys2Proof.Machine.execAuthLock m s
  | .xspiRead w => Sys2Proof.Machine.execXspiRead w s
  | .xspiProgram w => Sys2Proof.Machine.execXspiProgram w s
  | .xspiErase w => Sys2Proof.Machine.execXspiErase w s
  | .xspiOther w => Sys2Proof.Machine.execXspiOther w s
  | .xspiDone timedOut rx => Sys2Proof.Machine.execXspiDone timedOut rx s
  | .wdtKick m k => Sys2Proof.Machine.execWdtKick m k s
  | .wdtWarn k => Sys2Proof.Machine.execWdtWarn k s
  | .wdtExpire cores => Sys2Proof.Machine.execWdtExpire cores s
  | .takeover k mbox => Sys2Proof.Machine.execTakeover k mbox s
  | .coreRestart k hold => Sys2Proof.Machine.execCoreRestart k hold s
  | .h2fGo w => Sys2Proof.Machine.execH2fGo w s
  | .mboxDone core status words => Sys2Proof.Machine.execMboxDone core status words s
  | .mboxNotify opcode words => Sys2Proof.Machine.execMboxNotify opcode words s
  | .f2hAck => Sys2Proof.Machine.execF2hAck s
  | .version core => Sys2Proof.Machine.execVersion core s
  | .calStore core => Sys2Proof.Machine.execCalStore core s
  | .extOpcode core status words overran => Sys2Proof.Machine.execExtOpcode core status words overran s
  | .extFault core a kind => Sys2Proof.Machine.execExtFault core a kind s
  | .poolOwnWrite k m v => Sys2Proof.Machine.execPoolOwnWrite k m v s
  | .poolRead m w upset upsetChk => Sys2Proof.Machine.execPoolRead m w upset upsetChk s
  | .poolWrite m w be data collide => Sys2Proof.Machine.execPoolWrite m w be data collide s
  | .trackerExpire w => Sys2Proof.Machine.execTrackerExpire w s
  | .repairGo pool bank row => Sys2Proof.Machine.execRepairGo pool bank row s
  | .repairDone => Sys2Proof.Machine.execRepairDone s
  | .scrubGo => Sys2Proof.Machine.execScrubGo s
  | .scrubStop => Sys2Proof.Machine.execScrubStop s
  | .scrubWord upset upsetChk hit => Sys2Proof.Machine.execScrubWord upset upsetChk hit s
  | .scrubDone => Sys2Proof.Machine.execScrubDone s
  | .eccFlipArm pool byte chk => Sys2Proof.Machine.execEccFlipArm pool byte chk s
  | .mevPop => Sys2Proof.Machine.execMevPop s
  | .busRequest m r held => Sys2Proof.Machine.execBusRequest m r held s
  | .hostRequest bar2 write ofs bytes => Sys2Proof.Machine.execHostRequest bar2 write ofs bytes s
  | .hostCompletion => Sys2Proof.Machine.execHostCompletion s
  | .linkUp speed width => Sys2Proof.Machine.execLinkUp speed width s
  | .linkDown => Sys2Proof.Machine.execLinkDown s
  | .flr => Sys2Proof.Machine.execFlr s
  | .msixSend v => Sys2Proof.Machine.execMsixSend v s
  | .vecAck v => Sys2Proof.Machine.execVecAck v s
  | .faultTest on => Sys2Proof.Machine.execFaultTest on s
  | .snapNow => Sys2Proof.Machine.execSnapNow s
  | .chainRead m k => Sys2Proof.Machine.execChainRead m k s
  | .sample o => Sys2Proof.Machine.execSample o s
  | .smpConfigWrite period v => Sys2Proof.Machine.execSmpConfigWrite period v s
  | .smpRpWrite v => Sys2Proof.Machine.execSmpRpWrite v s
  | .roscReady => Sys2Proof.Machine.execRoscReady s
  | .xtalReady => Sys2Proof.Machine.execXtalReady s
  | .refclkReady pcie on => Sys2Proof.Machine.execRefclkReady pcie on s
  | .pllLock sys => Sys2Proof.Machine.execPllLock sys s
  | .pllLol sys => Sys2Proof.Machine.execPllLol sys s
  | .rootCfgWrite w => Sys2Proof.Machine.execRootCfgWrite w s
  | .swDone => Sys2Proof.Machine.execSwDone s
  | .xtalActivityTrip => Sys2Proof.Machine.execXtalActivityTrip s
  | .clkMonWindow x sd => Sys2Proof.Machine.execClkMonWindow x sd s
  | .gateRequest m k => Sys2Proof.Machine.execGateRequest m k s
  | .gateCancel k => Sys2Proof.Machine.execGateCancel k s
  | .gateDone k => Sys2Proof.Machine.execGateDone k s
  | .gateTimeout k => Sys2Proof.Machine.execGateTimeout k s
  | .ungate k => Sys2Proof.Machine.execUngate k s
  | .ungateDone k => Sys2Proof.Machine.execUngateDone k s
  | .deviceReset m w => Sys2Proof.Machine.execDeviceReset m w s
  | .systemReset w => Sys2Proof.Machine.execSystemReset w s
  | .islRstSet k => Sys2Proof.Machine.execIslRstSet k s
  | .islRstRelease k => Sys2Proof.Machine.execIslRstRelease k s
  | .deepSleep w => Sys2Proof.Machine.execDeepSleep w s
  | .deepSleepEntered => Sys2Proof.Machine.execDeepSleepEntered s
  | .wake gpio zeroize => Sys2Proof.Machine.execWake gpio zeroize s
  | .vddAonLow => Sys2Proof.Machine.execVddAonLow s
  | .avsUpdate want => Sys2Proof.Machine.execAvsUpdate want s
  | .monEnSet => Sys2Proof.Machine.execMonEnSet s
  | .monEnClear => Sys2Proof.Machine.execMonEnClear s
  | .monResult v => Sys2Proof.Machine.execMonResult v s
  | .monQueuePop => Sys2Proof.Machine.execMonQueuePop s
  | .monQueueFlush => Sys2Proof.Machine.execMonQueueFlush s
  | .spiGo m k w => Sys2Proof.Machine.execSpiGo m k w s
  | .spiDone k rx => Sys2Proof.Machine.execSpiDone k rx s
  | .i2cGo m w => Sys2Proof.Machine.execI2cGo m w s
  | .i2cDone result nack rx => Sys2Proof.Machine.execI2cDone result nack rx s
  | .bistStepTimer c g => Sys2Proof.Machine.execBistStepTimer c g s
  | .bistSessionEnd c g patterns misr => Sys2Proof.Machine.execBistSessionEnd c g patterns misr s
  | .puGo => Sys2Proof.Machine.execPuGo s
  | .retest c g u => Sys2Proof.Machine.execRetest c g u s
  | .stepNotice => Sys2Proof.Machine.execStepNotice s
  | .stepAnswer => Sys2Proof.Machine.execStepAnswer s
  | .stepFail => Sys2Proof.Machine.execStepFail s
  | .calRun => Sys2Proof.Machine.execCalRun s
  | .calDone items lanes skipped => Sys2Proof.Machine.execCalDone items lanes skipped s
  | .calStoreEnd values tj left => Sys2Proof.Machine.execCalStoreEnd values tj left s
  | .jtagRegAccess a write be w => Sys2Proof.Machine.execJtagRegAccess a write be w s
  | .jtagDeviceReset => Sys2Proof.Machine.execJtagDeviceReset s
  | .jtagIntscan => Sys2Proof.Machine.execJtagIntscan s
  | .jtagMembist => Sys2Proof.Machine.execJtagMembist s
  | .cdrLock l => Sys2Proof.Machine.execCdrLock l s
  | .coeffRequest l k tap => Sys2Proof.Machine.execCoeffRequest l k tap s
  | .clientCodewordRx p w => Sys2Proof.Machine.execClientCodewordRx p w s
  | .scEnApply c => Sys2Proof.Machine.execScEnApply c s
  | .configRequest r => Sys2Proof.Machine.execConfigRequest r s
  | .speedChange speed width => Sys2Proof.Machine.execSpeedChange speed width s
  | .mbistDone rows mems units => Sys2Proof.Machine.execMbistDone rows mems units s

end Sys2Proof.Machine
end

