-- ==== Sys2Proof/Machine/Idle.lean ====
section
/-! DEFINITION. What a clock without a command does. -/

namespace Sys2Proof.Machine

/-- One data-plane clock of 625 ps without a command (R15, R19): Wellspring time, the injections of the lanes, the management ticks. -/
def Chip.idle (s : Chip) : Chip :=
  let s1 := s.wstTick.laneTick
  ({ s1 with now := s1.now + 1 } : Chip).mgmtTick

end Sys2Proof.Machine
end

