-- ==== Sys2Proof/WellFormed.lean ====
section
/-! DEFINITION. Commands whose operands lie in the ranges that the spec gives them, where their types leave more room. -/

namespace Sys2Proof

/-- Whether numbers are bytes. -/
def isBytes (l : List Nat) : Bool := l.all fun b => decide (b < 256)

/-- Whether a request of a bus master has at least one beat, byte enables of 8 bits, data of 64 bits and an address of 32 bits (R412, R415). -/
def busReqWf (r : BusReq) : Bool :=
  !r.beats.isEmpty && decide (r.addr < 2 ^ 32) && r.beats.all fun b => decide (b.1 < 256 ∧ b.2 < 2 ^ 64)

/-- Whether a host request has a length that the endpoint supports and lies in its BAR (R421, R423): writes of at most 256 bytes, reads of at
most 4,096. -/
def hostReqWf (bar2 write : Bool) (ofs n : Nat) : Bool :=
  decide (0 < n ∧ n ≤ if write then 256 else 4096) && decide (ofs + n ≤ if bar2 then 0x400000 else 0x4000000)

/-- Whether a speed code and a width are among those of PCIE_STAT (R421, R442). -/
def linkWf (speed width : Nat) : Bool := decide (1 ≤ speed ∧ speed ≤ 5) && [1, 2, 4].contains width

/-- Whether the overhead of a received frame fits its fields (R171, R174, R186). -/
def rxFrameWf (f : RxFrame) : Bool :=
  isBytes [f.bip, f.parity, f.psiA, f.psiB] && isBytes f.gcc0 && isBytes f.gcc12 && decide (f.t16 < 1000000000 * 65536)

/-- Whether a command's operands lie in their ranges. -/
def Instr.wf (i : Instr) : Bool :=
  match i with
  | .registerWrite _ _ a _ _ => a.toNat % 4 == 0
  | .loRead _ a => a.toNat % 4 == 0
  | .frameRx _ _ f => rxFrameWf f
  | .tamustMsgRx _ l _ _ => isBytes l
  | .timeMsgRx _ l => isBytes l
  | .apsMsgRx src seq b0 b1 b2 b3 => decide (src < 2 ^ 14 ∧ seq < 256) && isBytes [b0, b1, b2, b3]
  | .ringTailWrite _ v => decide (v < 1024)
  | .xspiDone _ l => decide (l.length ≤ 256)
  | .mboxDone _ _ l => decide (l.length ≤ 16)
  | .mboxNotify _ l => decide (l.length ≤ 16)
  | .extOpcode _ _ l _ => decide (l.length ≤ 16)
  | .poolRead _ _ u k => decide (u < 2 ^ 64 ∧ k < 2 ^ 40)
  | .scrubWord u k _ => decide (u < 2 ^ 64 ∧ k < 2 ^ 40)
  | .busRequest _ r _ => busReqWf r
  | .hostRequest bar2 write ofs l => hostReqWf bar2 write ofs l.length
  | .linkUp speed width => linkWf speed.val width.val
  | .smpRpWrite v => decide (v < 4096)
  | .spiDone _ l => decide (l.length ≤ 32)
  | .i2cDone _ _ l => decide (l.length ≤ 32)
  | .jtagRegAccess a _ _ _ => a.toNat % 4 == 0
  | .speedChange speed width => linkWf speed.val width.val
  | .evtStatWrite _ _ _ | .evtMaskWrite _ _ | .commit _ | .shadowRevert _ | .bridgeTransfer _ _ _ | .bridgeQuiescent _ | .phaseOk
  | .carrierJoin _ | .txEnSet _ | .txEnClear _ | .muteSet _ | .muteClear _ | .reconfRampWrite _ _ | .rampUpDone _ | .rampDownDone _
  | .reconfApply _ | .maskCheck _ _ | .dacClipWindow _ _ | .dacPllLol _ | .dacPllRelock _ | .adcTick _ _ _ _ _ | .adcClipWindow _ _ _ _ _
  | .cdTrackUpdate _ _ | .nlcBypassChange _ | .engFault _ _ | .engTakeover _ | .engSfClear _ | .rotationExchange _ _ | .lockChange _ _ _
  | .cfrRange _ | .qualBoundary _ _ _ | .signalWindow _ _ | .acqEnSet _ | .acqEnClear _ | .restartCold _ | .restartWarm _
  | .coarseFreqDone _ _ | .scanBatch _ _ | .trainPeriod _ _ _ | .polTimingLock _ | .pilotLockDone _ | .stageBoundExpired _
  | .lolTimeExpired _ | .warmCapture _ _ _ _ | .warmHoldExpired _ | .acqFail _ | .codewordDispatch _ | .decodeDone _ _ _ _ _
  | .codewordRelease _ | .sliceFault _ _ | .sliceTakeover _ | .fecSfClear _ | .cwLock _ _ | .cwLockLoss _ | .stairBlock _ _ _
  | .upFcompUpdate _ _ | .upstreamSleep _ _ | .upstreamWake _ _ | .hubSleepMark _ _ _ | .inletSend _ | .inletAck _ | .inletEnClear _
  | .backoffExpired _ | .inletSent _ | .respTimeout _ | .preambleDetected _ _ _ _ _ | .headerComplete _ _ _ | .payloadComplete _ _
  | .queuePop _ | .queueFlush _ | .frameStartTx _ _ _ _ | .lineBlockRx _ _ _ _ _ | .lofAcq _ _ | .defectTimer _ _ _ _ | .degSecond _ _ _
  | .failSet _ _ _ | .failClear _ _ _ | .secondClose _ _ _ | .secondCommit _ _ | .pmClear _ _ | .pmEnable _ _ | .laneEnSet _
  | .laneEnClear _ | .laneReconfig _ _ | .laneLosAssert _ | .laneLosClear _ | .lolWindow _ _ _ _ _ | .trainConverged _ _ _
  | .lockHoldExpired _ | .trainFail _ | .capsTimeout _ | .capsWordRx _ _ _ | .readyRx _ | .txSleep _ | .txWake _ | .rxSleep _ | .rxWake _
  | .rxWakeDone _ | .wakeFail _ | .chkLock _ | .chkLockLoss _ _ _ | .chkClr _ _ _ | .injOne _ | .injBurst _ | .msimTimer _ _ _
  | .egressActionStart _ | .egressActionEnd _ | .ingReplStart _ | .ingReplEnd _ | .refActivityLoss _ | .fmonWindow _ | .grossCheck _ _
  | .refQualified _ | .refWtrExpired _ | .selCfgWrite _ _ _ | .switchCommitPoint | .dpllLocked | .dpllLockLoss | .holdoverOos
  | .historyRecord _ | .histClr | .dcoSlewStep _ | .dcoFreqWrite _ | .refoutChange _ | .capture | .phaseAdj _ | .ppsEdge _ | .ppsTimeout _
  | .ppsoutPulse | .ttSourceTimeout | .timeMsgTx _ | .helloTx _ | .arm _ | .disarm _ | .rippleFired _ | .rippleAction | .domRipple _
  | .domCancel _ | .domStatus _ | .rippleSched | .rippleCancel | .rippleAck | .grant | .flEnable _ | .flDisable _ | .flHeld _ _ _
  | .flSlip _ _ _ | .sdWindow _ _ _ | .holdOffExpired _ _ | .wtrExpired _ | .cmdClear _ | .cmdLo _ | .cmdFs _ | .cmdMs _ | .cmdMsW _
  | .switch _ _ | .diffDelayUpdate _ _ | .deskewRecover _ | .hitlessRead _ _ _ _ _ | .apsMsgTx _ | .apsBridge _ | .apsLoss _
  | .fopTimer _ _ | .selMiscompare _ | .unfreeze | .lrPop | .txLoad _ | .rxLoad _ | .loadDone _ _ _ | .swapNow _ | .tagCheck _ _ _ _ _
  | .aesLaneFault _ _ _ _ | .laneTakeover _ | .zeroSlot _ | .zeroAll | .provision _ | .otpKill | .zeroizePin | .zeroizePinRelease
  | .jobStart _ | .jobSuspend _ | .jobEnd _ _ | .poresetAssert _ | .poresetRelease | .otpLoaded | .headerRead _ | .poolBistDone _
  | .loadPassEnd _ | .applyRecord _ | .pollTimeout | .bootDone | .fullSvc | .confirm | .confirmTmo | .clrBad | .authLock _ | .xspiRead _
  | .xspiProgram _ | .xspiErase _ | .xspiOther _ | .wdtKick _ _ | .wdtWarn _ | .wdtExpire _ | .takeover _ _ | .coreRestart _ _ | .h2fGo _
  | .f2hAck | .version _ | .calStore _ | .extFault _ _ _ | .poolOwnWrite _ _ _ | .poolWrite _ _ _ _ _ | .trackerExpire _ | .repairGo _ _ _
  | .repairDone | .scrubGo | .scrubStop | .scrubDone | .eccFlipArm _ _ _ | .mevPop | .hostCompletion | .linkDown | .flr | .msixSend _
  | .vecAck _ | .faultTest _ | .snapNow | .chainRead _ _ | .sample _ | .smpConfigWrite _ _ | .roscReady | .xtalReady | .refclkReady _ _
  | .pllLock _ | .pllLol _ | .rootCfgWrite _ | .swDone | .xtalActivityTrip | .clkMonWindow _ _ | .gateRequest _ _ | .gateCancel _
  | .gateDone _ | .gateTimeout _ | .ungate _ | .ungateDone _ | .deviceReset _ _ | .systemReset _ | .islRstSet _ | .islRstRelease _
  | .deepSleep _ | .deepSleepEntered | .wake _ _ | .vddAonLow | .avsUpdate _ | .monEnSet | .monEnClear | .monResult _ | .monQueuePop
  | .monQueueFlush | .spiGo _ _ _ | .i2cGo _ _ | .bistStepTimer _ _ | .bistSessionEnd _ _ _ _ | .puGo | .retest _ _ _ | .stepNotice
  | .stepAnswer | .stepFail | .calRun | .calDone _ _ _ | .calStoreEnd _ _ _ | .jtagDeviceReset | .jtagIntscan | .jtagMembist | .cdrLock _
  | .coeffRequest _ _ _ | .clientCodewordRx _ _ | .scEnApply _ | .configRequest _ | .mbistDone _ _ _ => true

end Sys2Proof
end

