-- ==== Sys2Proof/Safety.lean ====
section
/-! DEFINITION. What counts as a safe run: every step answers a next state, and the stores stay in their canonical form. -/

namespace Sys2Proof.Machine

/-- The canonical form of a state: the stores of the registers, of their active copies and of the events' live conditions list rising addresses
and nothing that an unlisted address reads as, so that equal contents are equal data. -/
def State.canonical (s : State) : Bool :=
  Store.wf RegMap.reset s.chip.regs && Store.wf RegMap.reset s.chip.actRegs && Store.wf Live.reset s.chip.live

/-- The canonical form of the pools and the flash: rising addresses, no word that was never written, no byte that reads as erased. -/
def State.memoryCanonical (s : State) : Bool :=
  Store.wf (fun _ => ({} : PoolWord)) s.chip.pool.words && Store.wf (fun _ => 0xFF) s.chip.boot.flash

/-- Whether an outcome is a next state. -/
def goesOn (r : Result) : Bool :=
  match r with
  | .next _ => true
  | .fault _ => false
  | .refused _ => false

/-- A command answers a next state: the queue is as the command found it, and the chip has a property. -/
def Answers (i : Instr) (s : State) (P : Chip → Prop) : Prop :=
  ∃ t : Chip, exec i s = .next { s with chip := t } ∧ P t

/-- The EVT_STAT bit of an event, as a field. -/
def evtBit (e : Ev) : Fld := ⟨e.base + 0xF0, e.bit, 1⟩

/-- An event is recorded between two chips: where its EVT_STICKY bit is 1, its EVT_STAT bit holds a 1 afterwards (R9). -/
def Recorded (e : Ev) (s t : Chip) : Prop :=
  (s.rd (e.base + 0xF8)).getLsbD e.bit = true → (t.rd (e.base + 0xF0)).getLsbD e.bit = true

/-- Two fields share no bit of a register. -/
def Apart (f g : Fld) : Prop := f.addr ≠ g.addr ∨ f.lo + f.width ≤ g.lo ∨ g.lo + g.width ≤ f.lo

/-- Every field that shares no bit with those of a list reads as before, and so does every register outside the lists' blocks of
0x10_0000 addresses; every active word is as before. -/
def KeptBut (blocks : List Nat) (fs : List Fld) (s t : Chip) : Prop :=
  (∀ g : Fld, g.lo + g.width ≤ 32 → g.addr / 0x100000 ∉ blocks → (∀ f ∈ fs, Apart f g) → t.getF g = s.getF g) ∧
  t.actRegs = s.actRegs

/-- Every field that shares no bit with those of a list reads as before, and every active word is as before. -/
def Kept (fs : List Fld) (s t : Chip) : Prop := KeptBut [] fs s t

/-- Nothing but registers and the notices of events in level behaviour differs between two chips: the live conditions, the memories
and the hidden state of every block are as before. -/
def Quiet (s t : Chip) : Prop := t = { s with regs := t.regs, top := { s.top with msiDue := t.top.msiDue } }

/-- The memories, clocks, keys, processors, monitor and endpoint are as before: what no command of the line, of the clients or of time touches. -/
def Elsewhere (s t : Chip) : Prop :=
  t.fuse = s.fuse ∧ t.clk = s.clk ∧ t.pool = s.pool ∧ t.boot = s.boot ∧ t.mgmt = s.mgmt ∧ t.sec = s.sec ∧ t.mon = s.mon ∧ t.pci = s.pci

/-- The blocks that a change on the line reaches, itself or through the conditions that depend on it: EVC, WST, TST, every block of both carriers, XC
and PROT. -/
def lineBlocks : List Nat := [0x05, 0x07, 0x0A, 0x23, 0x24] ++ (List.range 16).map (16 + ·)

/-- The rest of the chip stands while the line changes: the registers outside its blocks, every active word, and the blocks of `Elsewhere`. -/
def LineFrame (s t : Chip) : Prop := KeptBut lineBlocks [] s t ∧ Elsewhere s t

/-- What a command to client lane l leaves: the registers of the other lanes and of every block but EVC and CLI, every active word, the hidden state of the
other lanes, and the blocks of `Elsewhere`. -/
def LaneFrame (l : Nat) (s t : Chip) : Prop :=
  (∀ a, a / 0x10000 ≠ 0x200 + l → a / 0x100000 ∉ [0x05, 0x21] → t.rd a = s.rd a) ∧ t.actRegs = s.actRegs ∧
  (∀ k : Fin 16, k.val ≠ l → t.laneOf k.val = s.laneOf k.val) ∧ Elsewhere s t

/-- What a command of the references, of time or of the ripples leaves: every register but those of EVC, TIM and WST, every active word, the receivers, the
framers, the lanes and the blocks of `Elsewhere`. -/
def TimeFrame (s t : Chip) : Prop :=
  KeptBut [0x05, 0x06, 0x07] [] s t ∧ Elsewhere s t ∧ t.rcv = s.rcv ∧ t.frm = s.frm ∧ t.lane = s.lane

/-- The response that a master of the bus matrix received last (R412). -/
def lastResp (s : Chip) (m : Nat) : BusResp := Store.get (fun _ => BusResp.done) s.resp m

/-- A run of n steps in which every step answers a next state. -/
def safeRun : Nat → State → Bool
  | 0, _ => true
  | n + 1, s =>
    match step s with
    | .next t => safeRun n t
    | .fault _ => false
    | .refused _ => false

end Sys2Proof.Machine
end

