-- ==== Sys2Proof/Certificates/Slice0/Obligations.lean ====
section
/-! DEFINITION. The statements about the model for the provers, by the chapters of the spec. -/

section

open Sys2Proof Sys2Proof.Machine

/-! ## The machine as a whole -/

/-- A step with command `i` at the front of the queue is the command's effect on the state with the rest of the queue. -/
def Obligations.StepRunsFront : Prop :=
  ∀ (s : State) (i : Instr) (rest : List Instr), s.pending = i :: rest → step s = exec i { s with pending := rest }

/-- With no command waiting, a step is one data-plane clock: it answers a next state with an empty queue, the model's clock one further, and no fuse,
flash, pool, key or monitor changed. The model's choice (log entry 2): the spec has no row for a clock. -/
def Obligations.IdleStepIsAClock : Prop :=
  ∀ s : State, s.pending = [] →
    ∃ t : State, step s = .next t ∧ t.pending = [] ∧ t.chip.now = s.chip.now + 1 ∧ t.chip.fuse = s.chip.fuse ∧
      t.chip.pool = s.chip.pool ∧ t.chip.boot = s.chip.boot ∧ t.chip.sec = s.chip.sec ∧ t.chip.mon = s.chip.mon

/-- The queue is first in, first out, and no command adds to it: every step that answers a next state takes away its front and nothing else. -/
def Obligations.QueueIsFifo : Prop :=
  ∀ s t : State, step s = .next t → t.pending = s.pending.tail

/-- The stores of the registers, of the active words and of the live conditions keep their canonical form over every step, from every state. -/
def Obligations.CanonicalKept : Prop :=
  ∀ s t : State, s.canonical = true → step s = .next t → t.canonical = true

/-- The pools and the flash keep their canonical form over every step, from every state. -/
def Obligations.MemoryCanonicalKept : Prop :=
  ∀ s t : State, s.memoryCanonical = true → step s = .next t → t.memoryCanonical = true

/-- Right after reset no command waits, no register is listed (so each reads as its table states: the device identifier, the empty commit record, the
acquisition and transmit states of both carriers), every island is held in reset, and no time runs. Both canonical forms hold right after reset.
Where the rules leave a choice, the model's stands: log entries 3, 14, 39. -/
def Obligations.ResetState : Prop :=
  (State.reset.pending = [] ∧ (∀ a, State.reset.chip.rd a = RegMap.reset a) ∧ (∀ a, State.reset.chip.act a = RegMap.reset a) ∧
  (∀ c, State.reset.chip.txState c = 0 ∧ (State.reset.chip.rcvOf (.car c)).state = 0 ∧ (State.reset.chip.rcvOf (.car c)).los = true) ∧
  State.reset.chip.getF Reg.TOP.COMMIT_SEQ.COUNT = 0 ∧ State.reset.chip.wst.running = false ∧ State.reset.chip.pool.words = [] ∧
  State.reset.chip.boot.flash = []) ∧
  (State.reset.canonical = true ∧ State.reset.memoryCanonical = true)

/-! ## Registers, events and commits -/

/-- A write with all four byte enables to a register of TXD, RXD or FEC that starts no step of its own (R4, R5): RW and RWS bits take the word, a 1
clears a W1C bit and sets a W1S bit, every bit of no such field keeps its value, and no other register, active word or hidden state changes. -/
def Obligations.PlainRegisterWrite : Prop :=
  ∀ (s : State) (m : Fin 8) (user : Bool) (a w : Word) (r : RegRow), s.chip.ratiosOk = true →
    RegMap.row? (a.toNat / 4 * 4) = some r → RegMap.inCarrier (a.toNat / 4 * 4) = true →
    RegMap.toA (a.toNat / 4 * 4) / 0x100000 ∈ [0x10, 0x11, 0x13] →
    (∀ c, a.toNat / 4 * 4 ≠ Reg.TXD.CTRL.addr c) → evtBlock (a.toNat / 4 * 4) 0xF0 = none → evtBlock (a.toNat / 4 * 4) 0xF8 = none →
    Answers (.registerWrite m user a w 15) s fun t =>
      (∀ b, b ≠ a.toNat / 4 * 4 → t.rd b = s.chip.rd b) ∧ t = { s.chip with regs := t.regs } ∧
      (∀ i, i < 32 →
        let set := (r.mask fun x => x == .rw || x == .rws).getLsbD i
        let w1c := (r.mask fun x => x == .w1c).getLsbD i
        let w1s := (r.mask fun x => x == .w1s).getLsbD i
        let old := (s.chip.rd (a.toNat / 4 * 4)).getLsbD i
        (set = true → w1c = false → w1s = false → (t.rd (a.toNat / 4 * 4)).getLsbD i = w.getLsbD i) ∧
        (set = false → w1c = true → w1s = false → (t.rd (a.toNat / 4 * 4)).getLsbD i = (old && !w.getLsbD i)) ∧
        (set = false → w1c = false → w1s = true → (t.rd (a.toNat / 4 * 4)).getLsbD i = (old || w.getLsbD i)) ∧
        (set = false → w1c = false → w1s = false → (t.rd (a.toNat / 4 * 4)).getLsbD i = old))

/-- A register write with fewer than four byte enables is discarded, at every address: it sets BAD_ACCESS of TOP and changes nothing else (R6). A
write of the divider register that leaves the ratios outside the limits of R463 stops: the spec calls the results of such a setting undefined.
Where the rules leave a choice, the model's stands: log entries 18, 20. -/
def Obligations.WritesWithoutEffect : Prop :=
  (∀ (s : State) (m : Fin 8) (user : Bool) (a w : Word) (be : Fin 16), be.val ≠ 15 → s.chip.ratiosOk = true →
    Answers (.registerWrite m user a w be) s fun t =>
      Recorded Ev.TOP.BAD_ACCESS s.chip t ∧ Kept [evtBit Ev.TOP.BAD_ACCESS] s.chip t ∧ Quiet s.chip t) ∧
  (∀ (s : State) (m : Fin 8) (user : Bool) (a w : Word) (be : Fin 16),
    (doRegisterWrite m user a w be s.chip).ratiosOk = false → exec (.registerWrite m user a w be) s = .fault .clockRatioOutOfLimits)

/-- A read of the LO register of a pair answers its word and latches HI for the master and the block, and the master's next read of HI answers the
value latched, whatever the pair has become meanwhile (R7, R8).
Where the rules leave a choice, the model's stands: log entry 19. -/
def Obligations.PairReadLatchesHi : Prop :=
  ∀ (s u : State) (m : Fin 8) (a : Word), a.toNat % 4 = 0 → isLo a.toNat = true → isLo (a.toNat + 4) = false → a.toNat + 4 < 2 ^ 32 →
    blockBase (a.toNat + 4) = blockBase a.toNat →
    Answers (.loRead m a) s fun t =>
      lastResp t m.val = .data (toLe 4 (s.chip.readWord a.toNat).1.toNat) ∧ t.regs = s.chip.regs ∧
      (u.chip.top.hi = t.top.hi →
        Answers (.loRead m (a + 4)) u fun v =>
          lastResp v m.val = .data (toLe 4 ((s.chip.readWord a.toNat).2.readWord (a.toNat + 4)).1.toNat) ∧ v.regs = u.chip.regs)

/-- A write of EVT_STAT (R9 to R11): in the order of R432, for each block and each bit, a 1 clears a latched maskable bit unless its event occurs in
the same clock; a 0 leaves it; a bit in level behaviour keeps its record; and a non-maskable bit whose cause persists stays. No other register of the
chip changes where the block is not CLK. A write of EVT_MASK (R9, R430) takes the word in the bits that have events, and changes no other register
and nothing else. -/
def Obligations.EventRegisterWrites : Prop :=
  (∀ (s : State) (k : Fin 62) (w now : Word), evtBase k.val ≠ 0x00100000 →
    Answers (.evtStatWrite k w now) s fun t =>
      (∀ i, i < 32 →
        let old := (s.chip.rd (evtBase k.val + 0xF0)).getLsbD i
        let sticky := (s.chip.rd (evtBase k.val + 0xF8)).getLsbD i
        let nm := (nmMask (evtBase k.val)).getLsbD i
        (nm = false → sticky = true → w.getLsbD i = true → now.getLsbD i = false → (t.rd (evtBase k.val + 0xF0)).getLsbD i = false) ∧
        (w.getLsbD i = true → now.getLsbD i = true → (t.rd (evtBase k.val + 0xF0)).getLsbD i = old) ∧
        (w.getLsbD i = false → (t.rd (evtBase k.val + 0xF0)).getLsbD i = old) ∧
        (nm = false → sticky = false → (t.rd (evtBase k.val + 0xF0)).getLsbD i = old) ∧
        (nm = true → (s.chip.liveWord (evtBase k.val)).getLsbD i = true → (t.rd (evtBase k.val + 0xF0)).getLsbD i = old)) ∧
      (∀ b, b ≠ evtBase k.val + 0xF0 → t.rd b = s.chip.rd b) ∧ t = { s.chip with regs := t.regs }) ∧
  (∀ (s : State) (k : Fin 62) (w : Word) (r : RegRow), RegMap.row? (evtBase k.val + 0xF4) = some r →
    Answers (.evtMaskWrite k w) s fun t =>
      t.rd (evtBase k.val + 0xF4) = r.write (s.chip.rd (evtBase k.val + 0xF4)) w ∧
      (∀ b, b ≠ evtBase k.val + 0xF4 → t.rd b = s.chip.rd b) ∧ t = { s.chip with regs := t.regs })

/-- If an event occurs in the same clock as a write of 1 to its EVT_STAT bit, the bit remains set (R10), in every block that has event registers. -/
def Obligations.NoOccurrenceIsLostToAClear : Prop :=
  ∀ (s : State) (k : Fin 62) (w now : Word) (i : Nat), i < 32 → (s.chip.rd (evtBase k.val + 0xF0)).getLsbD i = true →
    w.getLsbD i = true → now.getLsbD i = true →
    Answers (.evtStatWrite k w now) s fun t => (t.rd (evtBase k.val + 0xF0)).getLsbD i = true

/-- A commit event that passes its checks, with every island there and no protection switch in progress, takes effect whole (R12, R438): COMMIT_SEQ
advances, COMMIT_LAST holds the groups, every RWS field of a group of the mask takes its shadow, and every other active word stands. A commit event
that misses an island of one of its groups, or fails a check, is refused as a whole (R438, R541): no active word changes, the groups join
COMMIT_REFUSED and stand in COMMIT_LAST, COMMIT_SEQ stands, and COMMIT_REFUSED occurs; for a missing island nothing else changes but the counters. A
write without a bit makes no event.
Where the rules leave a choice, the model's stands: log entry 26. -/
def Obligations.Commits : Prop :=
  (∀ (s : State) (g : Fin 4294967296), g.val ≠ 0 → s.chip.islandsMissing g.val = 0 → s.chip.top.deferGroups = 0 →
    s.chip.pgsOn.any s.chip.switchDue = false →
    ((s.chip.evc 71).eventCheck ((s.chip.evc 71).afterEvent ((s.chip.evc 71).newWords (s.chip.shadows g.val) g.val)) g.val).bad = false →
    Answers (.commit g) s fun t =>
      t.getF Reg.TOP.COMMIT_SEQ.COUNT = (s.chip.getF Reg.TOP.COMMIT_SEQ.COUNT + 1) % 2 ^ 32 ∧ t.getF Reg.TOP.COMMIT_LAST.GROUPS = g.val ∧
      (∀ a, inGroups g.val a = true →
        t.act a = (s.chip.act a &&& ~~~(RegMap.rwsMask a)) ||| (s.chip.rd a &&& RegMap.rwsMask a)) ∧
      (∀ a, inGroups g.val a = false → t.act a = s.chip.act a)) ∧
  (∀ (s : State) (g : Fin 4294967296),
    (g.val ≠ 0 → s.chip.islandsMissing g.val ≠ 0 →
      Answers (.commit g) s fun t =>
        t.getF Reg.TOP.COMMIT_REFUSED.GROUPS = s.chip.getF Reg.TOP.COMMIT_REFUSED.GROUPS ||| g.val ∧ t.getF Reg.TOP.COMMIT_LAST.GROUPS = g.val ∧
        Recorded Ev.TOP.COMMIT_REFUSED s.chip t ∧
        KeptBut [0x05] [Reg.TOP.COMMIT_REFUSED.GROUPS, Reg.TOP.COMMIT_LAST.GROUPS, evtBit Ev.TOP.COMMIT_REFUSED] s.chip t ∧ Quiet s.chip t) ∧
    (g.val ≠ 0 → s.chip.islandsMissing g.val = 0 →
      ((s.chip.evc 71).eventCheck ((s.chip.evc 71).afterEvent ((s.chip.evc 71).newWords (s.chip.shadows g.val) g.val)) g.val).bad = true →
      Answers (.commit g) s fun t =>
        t.getF Reg.TOP.COMMIT_REFUSED.GROUPS = s.chip.getF Reg.TOP.COMMIT_REFUSED.GROUPS ||| g.val ∧ t.getF Reg.TOP.COMMIT_LAST.GROUPS = g.val ∧
        Recorded Ev.TOP.COMMIT_REFUSED s.chip t ∧ t.actRegs = s.chip.actRegs ∧
        t.getF Reg.TOP.COMMIT_SEQ.COUNT = s.chip.getF Reg.TOP.COMMIT_SEQ.COUNT ∧ Elsewhere s.chip t) ∧
    (g.val = 0 → exec (.commit g) s = .next s))

/-- A write of SHADOW_REVERT (R440): in every register of a group of the mask the RWS fields take the active value and its other bits stand; every
other register, every active word and every other piece of state is as before. -/
def Obligations.ShadowRevert : Prop :=
  ∀ (s : State) (g : Fin 4294967296),
    Answers (.shadowRevert g) s fun t =>
      (∀ a, inGroups g.val a = true →
        t.rd a = (s.chip.rd a &&& ~~~(RegMap.rwsMask a)) ||| (s.chip.act a &&& RegMap.rwsMask a)) ∧
      (∀ a, inGroups g.val a = false → t.rd a = s.chip.rd a) ∧ t = { s.chip with regs := t.regs }

/-! ## Bridges and the bus matrix -/

/-- A bridge (R24): a transfer clears its quiet bit; a register request towards an island that is gated or in reset ends in an error response of
cause ISL_GATED to its master, a data transfer waits, and a transfer towards a running island takes with it what waited in its direction. A bridge
with nothing waiting that has been idle long enough is quiescent. -/
def Obligations.Bridges : Prop :=
  ∀ (s : State) (b : Fin 16) (back : Bool),
    let toIsl := if back then (bridgeEnds.getD b.val (0, 0)).1 else (bridgeEnds.getD b.val (0, 0)).2
    (∀ m a, s.chip.islDown toIsl = true →
      Answers (.bridgeTransfer b back (some (m, a))) s fun t => t.bitOf Reg.CLK.BRG_QUIET.QUIET b.val = false ∧
        lastResp t m.val = .err 7 ∧ Recorded Ev.POOL.BUS_ERR s.chip t ∧ t.clk = s.chip.clk ∧
        KeptBut [0x03, 0x05] [Reg.CLK.BRG_QUIET.QUIET] s.chip t) ∧
    (s.chip.islDown toIsl = true →
      Answers (.bridgeTransfer b back none) s fun t => t.bitOf Reg.CLK.BRG_QUIET.QUIET b.val = false ∧
        Tab.get 0 t.clk.waits (2 * b.val + back.toNat) = Tab.get 0 s.chip.clk.waits (2 * b.val + back.toNat) + 1 ∧
        Kept [Reg.CLK.BRG_QUIET.QUIET] s.chip t ∧ t = { s.chip with regs := t.regs, clk := t.clk }) ∧
    (s.chip.islDown toIsl = false →
      Answers (.bridgeTransfer b back none) s fun t => t.bitOf Reg.CLK.BRG_QUIET.QUIET b.val = false ∧
        Tab.get 0 t.clk.waits (2 * b.val + back.toNat) = 0 ∧
        Kept [Reg.CLK.BRG_QUIET.QUIET] s.chip t ∧ t = { s.chip with regs := t.regs, clk := t.clk }) ∧
    (Tab.get 0 s.chip.clk.waits (2 * b.val) = 0 → Tab.get 0 s.chip.clk.waits (2 * b.val + 1) = 0 →
      Answers (.bridgeQuiescent b) s fun t => t.bitOf Reg.CLK.BRG_QUIET.QUIET b.val = true ∧
        Kept [⟨Reg.CLK.BRG_QUIET.addr, b.val, 1⟩] s.chip t ∧ Quiet s.chip t)

/-- Requests that the matrix itself refuses (R415, R416, R427): from a master that is up, an address of no target answers DECERR and a burst across 4
KiB BAD_BURST; each counts as an error response, occurs as BUS_ERR, and is latched with its cause, master and address where the latch is free. A
request of the bus matrix at a pool (R381, R399, R401, R412): an aligned write of a whole word by the pool's owner, no flip armed, writes the word
and nothing else of the pool and answers completion; by a checked master that is not the owner it answers OWN and writes nothing. A register access
through the test port is a request of bus master 7 (R531): with the matrix up, a read of the device identifier answers its word, and a write there
with fewer than four byte enables is discarded with BAD_ACCESS.
Where the rules leave a choice, the model's stands: log entries 20, 27. -/
def Obligations.BusAndJtag : Prop :=
  (∀ (s : State) (m : Fin 8) (r : BusReq), m.val ≠ 4 → s.chip.masterDown m.val = false → s.chip.userRefused m.val r = false →
    s.chip.ratiosOk = true →
    (busTarget r.addr = none → r.addr < 2 ^ 32 →
      Answers (.busRequest m r 0) s fun t => lastResp t m.val = .err 1 ∧ Recorded Ev.POOL.BUS_ERR s.chip t ∧
        (s.chip.flag Reg.POOL.BM_ERR_INFO.VALID = false → t.flag Reg.POOL.BM_ERR_INFO.VALID = true ∧
          t.getF Reg.POOL.BM_ERR_INFO.CAUSE = 1 ∧ t.getF Reg.POOL.BM_ERR_INFO.MASTER = m.val ∧ t.getF Reg.POOL.BM_ERR_ADDR.ADDR = r.addr) ∧
        (s.chip.flag Reg.POOL.BM_ERR_INFO.VALID = true → t.rd Reg.POOL.BM_ERR_ADDR.addr = s.chip.rd Reg.POOL.BM_ERR_ADDR.addr)) ∧
    (∀ k, busTarget r.addr = some k → badBurst r = true → r.addr < 2 ^ 32 →
      Answers (.busRequest m r 0) s fun t => lastResp t m.val = .err 6 ∧ Recorded Ev.POOL.BUS_ERR s.chip t ∧ t.pool = s.chip.pool)) ∧
  (∀ (s : State) (m : Fin 8) (w : Fin 524288) (d : BitVec 64), m.val ≤ 3 → s.chip.masterDown m.val = false → s.chip.ratiosOk = true →
    s.chip.flag Reg.POOL.ECC_FLIP_CTL.ARM = false →
    let r : BusReq := { addr := wordAddr w.val, write := true, beats := [(255, d.toNat)], wide := true, user := false }
    (s.chip.getF (Reg.POOL.POOL_OWN.OWNER (poolOfWord w.val)) = m.val →
      Answers (.busRequest m r 0) s fun t => lastResp t m.val = .done ∧
        (t.poolWord w.val).data = d.toNat ∧ (t.poolWord w.val).flips = 0 ∧ (t.poolWord w.val).chk = 0 ∧
        (t.poolWord w.val).known &&& 255 = 255 ∧ (t.poolWord w.val).poison &&& 255 = 0 ∧
        (∀ x, x ≠ w.val → t.poolWord x = s.chip.poolWord x)) ∧
    (s.chip.getF (Reg.POOL.POOL_OWN.OWNER (poolOfWord w.val)) ≠ m.val →
      Answers (.busRequest m r 0) s fun t => lastResp t m.val = .err 3 ∧ t.pool = s.chip.pool)) ∧
  (∀ s : State, s.chip.masterDown 7 = false → s.chip.ratiosOk = true → s.chip.regDown 0 = false →
    (∀ w, Answers (.jtagRegAccess 0#32 false 15 w) s fun t =>
        lastResp t 7 = .data (toLe 4 (s.chip.readWord 0).1.toNat) ∧ KeptBut [0x01, 0x05] [] s.chip t) ∧
    (∀ w (be : Fin 16), be.val ≠ 15 → Answers (.jtagRegAccess 0#32 true be w) s fun t =>
        lastResp t 7 = .done ∧ Recorded Ev.TOP.BAD_ACCESS s.chip t ∧ KeptBut [0x01, 0x05] [evtBit Ev.TOP.BAD_ACCESS] s.chip t))

/-! ## The transmit line -/

/-- The host's commands to a transmitter whose converter PLL is locked (R60, R64): TX_EN set in OFF without MUTE and with nothing pending starts the
ramp up from the floor; TX_EN cleared in ON starts the ramp down; MUTE set in RAMP_UP, ON and RAMP_DOWN enters MUTED with its event; MUTE cleared in
MUTED with TX_EN starts the ramp up from the floor; RECONF_RAMP takes the value written. Nothing else changes but the ramp's own state. The ends of
the ramps (R60): at full scale RAMP_UP becomes ON, at the floor RAMP_DOWN without TX_EN becomes OFF, each with RAMP_DONE, and RAMP_DOWN with TX_EN
and nothing pending becomes RAMP_UP from the floor. A ramp stands still, and the command changes nothing, while the converter PLL is out of lock. The
converter PLL (R69): its loss is held, raises DAC_PLL_LOL with its live condition, and puts a carrier's receiver that was in ACQUIRED back to DETECT
with loss of signal; its return, with nothing else due, lets the transmitter's state stand. -/
def Obligations.TransmitControl : Prop :=
  (∀ (s : State) (c : Carrier), (s.chip.txd.get c).pllLol = false → s.chip.flag (Reg.TXD.LINE_STAT.RECONF_PEND c) = false →
    (s.chip.txd.get c).joinPend = false →
    (s.chip.txState c = 0 → s.chip.flag (Reg.TXD.CTRL.MUTE c) = false →
      Answers (.txEnSet c) s fun t => t.flag (Reg.TXD.CTRL.TX_EN c) = true ∧ t.txState c = 1 ∧ (t.txd.get c).rampFrom = 300 ∧
        (t.txd.get c).rampAt = s.chip.now ∧ t.txd.get c.other = s.chip.txd.get c.other ∧
        Kept [Reg.TXD.CTRL.TX_EN c, Reg.TXD.LINE_STAT.STATE c] s.chip t ∧ t = { s.chip with regs := t.regs, txd := t.txd }) ∧
    (s.chip.txState c = 2 → s.chip.flag (Reg.TXD.CTRL.TX_EN c) = true → s.chip.flag (Reg.TXD.CTRL.MUTE c) = false →
      Answers (.txEnClear c) s fun t => t.flag (Reg.TXD.CTRL.TX_EN c) = false ∧ t.txState c = 3 ∧ (t.txd.get c).rampFrom = 0 ∧
        Kept [Reg.TXD.CTRL.TX_EN c, Reg.TXD.LINE_STAT.STATE c] s.chip t ∧ t = { s.chip with regs := t.regs, txd := t.txd }) ∧
    (1 ≤ s.chip.txState c → s.chip.txState c ≤ 3 →
      Answers (.muteSet c) s fun t => t.flag (Reg.TXD.CTRL.MUTE c) = true ∧ t.txState c = 4 ∧ Recorded (Ev.TXD.MUTED c) s.chip t ∧
        Kept [Reg.TXD.CTRL.MUTE c, Reg.TXD.LINE_STAT.STATE c, evtBit (Ev.TXD.MUTED c)] s.chip t ∧ Quiet s.chip t) ∧
    (s.chip.txState c = 4 → s.chip.flag (Reg.TXD.CTRL.TX_EN c) = true →
      Answers (.muteClear c) s fun t => t.flag (Reg.TXD.CTRL.MUTE c) = false ∧ t.txState c = 1 ∧ (t.txd.get c).rampFrom = 300 ∧
        Kept [Reg.TXD.CTRL.MUTE c, Reg.TXD.LINE_STAT.STATE c] s.chip t ∧ t = { s.chip with regs := t.regs, txd := t.txd }) ∧
    (∀ v, Answers (.reconfRampWrite c v) s fun t => t.flag (Reg.TXD.CTRL.RECONF_RAMP c) = v ∧
        Kept [Reg.TXD.CTRL.RECONF_RAMP c] s.chip t ∧ Quiet s.chip t)) ∧
  (∀ (s : State) (c : Carrier),
    (s.chip.txState c = 1 → (s.chip.txd.get c).pllLol = false →
      Answers (.rampUpDone c) s fun t => t.txState c = 2 ∧ Recorded (Ev.TXD.RAMP_DONE c) s.chip t ∧
        Kept [Reg.TXD.LINE_STAT.STATE c, evtBit (Ev.TXD.RAMP_DONE c)] s.chip t ∧ Quiet s.chip t) ∧
    (s.chip.txState c = 3 → (s.chip.txd.get c).pllLol = false → s.chip.flag (Reg.TXD.CTRL.TX_EN c) = false →
      Answers (.rampDownDone c) s fun t => t.txState c = 0 ∧ Recorded (Ev.TXD.RAMP_DONE c) s.chip t ∧
        Kept [Reg.TXD.LINE_STAT.STATE c, evtBit (Ev.TXD.RAMP_DONE c)] s.chip t ∧ Quiet s.chip t) ∧
    (s.chip.txState c = 3 → (s.chip.txd.get c).pllLol = false → s.chip.flag (Reg.TXD.CTRL.TX_EN c) = true →
      s.chip.flag (Reg.TXD.LINE_STAT.RECONF_PEND c) = false → (s.chip.txd.get c).joinPend = false →
      Answers (.rampDownDone c) s fun t => t.txState c = 1 ∧ (t.txd.get c).rampFrom = 300 ∧
        Kept [Reg.TXD.LINE_STAT.STATE c] s.chip t ∧ t = { s.chip with regs := t.regs, txd := t.txd }) ∧
    ((s.chip.txd.get c).pllLol = true →
      exec (.rampUpDone c) s = .next s ∧ exec (.rampDownDone c) s = .next s)) ∧
  (∀ (s : State) (c : Carrier),
    (s.chip.receivers c = [.car c] → (s.chip.rcvOf (.car c)).los = false → (s.chip.rcvOf (.car c)).state = 8 →
      Answers (.dacPllLol c) s fun t => (t.txd.get c).pllLol = true ∧ (t.liveWord (Ev.TXD.base c)).getLsbD 5 = true ∧
        (t.rcvOf (.car c)).los = true ∧ (t.rcvOf (.car c)).state = 1 ∧ t.txState c = s.chip.txState c ∧ Elsewhere s.chip t) ∧
    (s.chip.txState c = 2 → s.chip.flag (Reg.TXD.CTRL.TX_EN c) = true → s.chip.flag (Reg.TXD.CTRL.MUTE c) = false →
      Answers (.dacPllRelock c) s fun t => (t.txd.get c).pllLol = false ∧ (t.liveWord (Ev.TXD.base c)).getLsbD 5 = false ∧
        t.txState c = 2 ∧ t.rcv = s.chip.rcv ∧ Elsewhere s.chip t))

/-- A pending configuration that reaches its point in ON (R61, R66): the line settings in effect become the committed ones, the report of R66
follows, nothing is pending any more, and RECONF_DONE occurs; the subcarriers' masks that wait in carrier mode take effect at their own point. -/
def Obligations.ReconfigurationApplied : Prop :=
  ∀ (s : State) (c : Carrier),
    (s.chip.flag (Reg.TXD.LINE_STAT.RECONF_PEND c) = true → s.chip.txState c = 2 →
      Answers (.reconfApply c) s fun t => t.flag (Reg.TXD.LINE_STAT.RECONF_PEND c) = false ∧
        t.getF (Reg.TXD.LINE_STAT.OTUCN c) = ((s.chip.act (Reg.TXD.LINE_CFG.addr c)).field 0 5) ∧
        t.getF (Reg.TXD.LINE_STAT.FORMAT c) = ((s.chip.act (Reg.TXD.LINE_CFG.addr c)).field 8 2) ∧
        t.getF (Reg.TXD.LINE_STAT.ROLLOFF c) = ((s.chip.act (Reg.TXD.LINE_CFG.addr c)).field 24 3) ∧
        t.txState c = 2 ∧ Recorded (Ev.TXD.RECONF_DONE c) s.chip t ∧ Elsewhere s.chip t) ∧
    ((s.chip.subc.get c).enPend = true →
      Answers (.scEnApply c) s fun t => (t.subc.get c).enPend = false ∧
        t.getF (Reg.SUBC.EN_ACTIVE.DN c) = (s.chip.act (Reg.SUBC.DN_EN.addr c)).field 0 16 ∧
        t.getF (Reg.SUBC.EN_ACTIVE.UP c) = (s.chip.act (Reg.SUBC.UP_EN.addr c)).field 0 16 ∧ Elsewhere s.chip t)

/-- The checks of the transmitted signal (R55, R58): a clip window adds its samples to the 64-bit count and raises DAC_CLIP above the threshold; a
mask check of a transmitter in ON with a table that does not rise sets BAD_TABLE, and with a rising one clears it and, at a negative margin with
ACTION, mutes the carrier. The shared frame generator (R37 to R39): PHASE_OK sets once both carriers of a joint mode have joined; a carrier in ON
with nothing pending makes a due join; a carrier whose return to its own generator is due leaves the shared one. -/
def Obligations.TransmitChecksAndModes : Prop :=
  (∀ (s : State) (c : Carrier),
    (∀ n, Answers (.dacClipWindow c n) s fun t =>
        t.getPair (Reg.TXD.CLIP_CNT_LO.addr c) = (s.chip.getPair (Reg.TXD.CLIP_CNT_LO.addr c) + n) % 2 ^ 64 ∧
        (s.chip.getF (Reg.TXD.CLIP_THR.THR c) < n → Recorded (Ev.TXD.DAC_CLIP c) s.chip t) ∧
        KeptBut [0x05] [⟨Reg.TXD.CLIP_CNT_LO.addr c, 0, 32⟩, ⟨Reg.TXD.CLIP_CNT_LO.addr c + 4, 0, 32⟩, evtBit (Ev.TXD.DAC_CLIP c)] s.chip t ∧
        Quiet s.chip t) ∧
    (∀ spectrum, s.chip.flag (Reg.TXD.MASK_CFG.EN c) = true → s.chip.txState c = 2 → maskRises (s.chip.maskTable c) = false →
      Answers (.maskCheck c spectrum) s fun t => t.flag (Reg.TXD.MASK_STAT.BAD_TABLE c) = true ∧
        Kept [Reg.TXD.MASK_STAT.BAD_TABLE c] s.chip t ∧ Quiet s.chip t) ∧
    (∀ spectrum k num den, s.chip.flag (Reg.TXD.MASK_CFG.EN c) = true → s.chip.txState c = 2 → maskRises (s.chip.maskTable c) = true →
      worstMargin (s.chip.maskTable c) spectrum = some (k, num, den) → num < 0 → k < 16 → (s.chip.txd.get c).pllLol = false →
      s.chip.flag (Reg.TXD.MASK_CFG.ACTION c) = true →
      Answers (.maskCheck c spectrum) s fun t => t.flag (Reg.TXD.MASK_STAT.BAD_TABLE c) = false ∧
        t.flag (Reg.TXD.CTRL.MUTE c) = true ∧ t.txState c = 4 ∧ Recorded (Ev.TXD.MASK_VIOL c) s.chip t ∧ Recorded (Ev.TXD.MUTED c) s.chip t ∧
        t.getF (Reg.TXD.MASK_STAT.WORST_ENTRY c) = k)) ∧
  (∀ (s : State) (c : Carrier),
    (s.chip.getF Reg.TOP.CARRIER_STAT.MODE_ACTIVE ≠ 0 → s.chip.bothJoined = true →
      Answers .phaseOk s fun t => t.flag Reg.TOP.CARRIER_STAT.PHASE_OK = true ∧ Kept [Reg.TOP.CARRIER_STAT.PHASE_OK] s.chip t ∧ Quiet s.chip t) ∧
    ((s.chip.txd.get c).joinPend = true → (s.chip.txd.get c).leavePend = false → s.chip.txState c = 2 →
      s.chip.flag (Reg.TXD.LINE_STAT.RECONF_PEND c) = false →
      Answers (.carrierJoin c) s fun t => (t.txd.get c).joined = true ∧ (t.txd.get c).joinPend = false ∧
        ((s.chip.txd.get c.other).joined = true → (t.txd.get c).phase = (s.chip.txd.get c.other).phase) ∧ t.regs = s.chip.regs ∧ Elsewhere s.chip t) ∧
    ((s.chip.txd.get c).leavePend = true → (s.chip.txd.get c).joinPend = false →
      Answers (.carrierJoin c) s fun t => (t.txd.get c).joined = false ∧ (t.txd.get c).leavePend = false ∧ t.regs = s.chip.regs))

/-! ## Receive equalisation -/

/-- The converter levels (R70 to R72): with the converter PLL locked each lane's RMS level is reported, the highest code standing for more; a clip
window adds the clipped samples of the four lanes to the 64-bit count, shows which lanes clipped, and raises ADC_CLIP above the threshold; while the
PLL is out of lock every lane reads 0. Dispersion (R78, R79): in AUTO mode an acquired receiver's filter moves toward the line by the residual, at
most by STEP and not beyond the range of the mode, where the residual reaches THR, and CD_LIMIT is raised where it comes to the end of the range;
below THR nothing changes. At a block boundary the non-linear steps are bypassed exactly while their spans sum to more than the filter's dispersion.
Lock flags (R88): a flag takes its value, with LOCK_CHANGE on a change of a carrier's own receiver, and nothing changes where it has the value
already; an offset out of range clears CFR_LOCK with its event, and in ACQUIRED the receiver goes to COARSE_FREQ without its warm state, with LOST. A
quality boundary in carrier mode (R93 to R95): the sequence number advances modulo 2^31 and QUAL_READY occurs; after an interval in which CPR_LOCK
was never 1 VALID reads 0 and so does every figure, else the bits and errors of the interval stand in their pairs. -/
def Obligations.ReceiverFigures : Prop :=
  (∀ (s : State) (c : Carrier) (xi xq yi yq : Nat),
    ((s.chip.txd.get c).pllLol = false →
      Answers (.adcTick c xi xq yi yq) s fun t =>
        t.getF (Reg.RXD.ADC_STAT.RMS c 0) = min xi (2 ^ (Reg.RXD.ADC_STAT.RMS c 0).width - 1) ∧
        t.getF (Reg.RXD.ADC_STAT.RMS c 3) = min yq (2 ^ (Reg.RXD.ADC_STAT.RMS c 3).width - 1) ∧
        Kept ((List.range 4).map (Reg.RXD.ADC_STAT.RMS c)) s.chip t ∧ Quiet s.chip t) ∧
    ((s.chip.txd.get c).pllLol = true →
      Answers (.adcTick c xi xq yi yq) s fun t => ∀ l, l < 4 → t.getF (Reg.RXD.ADC_STAT.RMS c l) = 0) ∧
    ((s.chip.txd.get c).pllLol = false →
      Answers (.adcClipWindow c xi xq yi yq) s fun t =>
        t.getPair (Reg.RXD.ADC_CLIP_CNT_LO.addr c) = (s.chip.getPair (Reg.RXD.ADC_CLIP_CNT_LO.addr c) + (xi + xq + yi + yq)) % 2 ^ 64 ∧
        t.flag (Reg.RXD.ADC_STAT.CLIPPED c 0) = decide (0 < xi) ∧ t.flag (Reg.RXD.ADC_STAT.CLIPPED c 2) = decide (0 < yi) ∧
        (s.chip.getF (Reg.RXD.ADC_CLIP_THR.THR c) < xi + xq + yi + yq → Recorded (Ev.RXD.ADC_CLIP c) s.chip t) ∧ Quiet s.chip t)) ∧
  (∀ (s : State) (c : Carrier) (residual : Int),
    let v := s.chip.rcvOf (.car c)
    let m : Int := s.chip.cdRange c
    let cd := max (-m) (min m (v.cd + residual.sign * (min residual.natAbs (max 1 (s.chip.getF (Reg.RXD.CD_TRACK.STEP c))) : Nat)))
    (v.state = 8 → s.chip.flag (Reg.RXD.CD_TRACK.EN c) = true → s.chip.flag (Reg.RXD.RX_STAT.CD_MODE_ACTIVE c) = false →
      s.chip.getF (Reg.RXD.CD_TRACK.THR c) ≤ residual.natAbs →
      Answers (.cdTrackUpdate (.car c) residual) s fun t => t.rcvOf (.car c) = { v with cd := cd } ∧
        (cd.natAbs = m.natAbs → cd ≠ v.cd → Recorded (Ev.RXD.CD_LIMIT c) s.chip t) ∧ Kept [evtBit (Ev.RXD.CD_LIMIT c)] s.chip t) ∧
    (residual.natAbs < s.chip.getF (Reg.RXD.CD_TRACK.THR c) → exec (.cdTrackUpdate (.car c) residual) s = .next s) ∧
    Answers (.nlcBypassChange c) s fun t => t.flag (Reg.RXD.RX_STAT.NLC_BYPASS c) = s.chip.nlcBypassed c ∧
      Kept [Reg.RXD.RX_STAT.NLC_BYPASS c] s.chip t ∧ Quiet s.chip t) ∧
  (∀ (s : State) (c : Carrier) (f : LockFlag) (b : Bool),
    ((s.chip.rcvOf (.car c)).lock f ≠ b →
      Answers (.lockChange (.car c) f b) s fun t => (t.rcvOf (.car c)).lock f = b ∧
        (∀ g, g ≠ f → (t.rcvOf (.car c)).lock g = (s.chip.rcvOf (.car c)).lock g) ∧
        (∀ r, r ≠ .car c → t.rcvOf r = s.chip.rcvOf r) ∧
        Recorded (Ev.RXD.LOCK_CHANGE c) s.chip t ∧ Kept [evtBit (Ev.RXD.LOCK_CHANGE c)] s.chip t) ∧
    (∀ r, (s.chip.rcvOf r).lock f = b → exec (.lockChange r f b) s = .next s) ∧
    ((s.chip.rcvOf (.car c)).state = 8 →
      Answers (.cfrRange (.car c)) s fun t => (t.rcvOf (.car c)).cfr = false ∧ (t.rcvOf (.car c)).state = 2 ∧
        (t.rcvOf (.car c)).warmValid = false ∧ Recorded (Ev.RXD.CFR_RANGE c) s.chip t ∧ Recorded (Ev.ACQ.LOST c) s.chip t ∧ LineFrame s.chip t)) ∧
  (∀ (s : State) (c : Carrier) (car : QualFig) (subs : List (Fin 16 × QualFig)), (s.chip.lineApplied c).cfg.subcEn = false →
    let seq := ((s.chip.rd (c.base + 0x01100104)).toNat % 2 ^ 31 + 1) % 2 ^ 31
    Answers (.qualBoundary c car subs) s fun t =>
      (t.rd (c.base + 0x01100104)).toNat % 2 ^ 31 = seq ∧ Recorded (Ev.RXD.QUAL_READY c) s.chip t ∧
      ((s.chip.rcvOf (.car c)).cprAny = false →
        (t.rd (c.base + 0x01100104)).toNat = seq ∧ t.getPair (c.base + 0x01100120) = 0 ∧ t.getPair (c.base + 0x01100128) = 0) ∧
      ((s.chip.rcvOf (.car c)).cprAny = true →
        t.getPair (c.base + 0x01100120) = car.bits % 2 ^ 64 ∧ t.getPair (c.base + 0x01100128) = car.errs % 2 ^ 64 ∧
        (t.rd (c.base + 0x01100104)).getLsbD 31 = (s.chip.rcvOf (.car c)).cprAll) ∧
      Elsewhere s.chip t)

/-- A fault of a unit in service (R83, R84, R135, R136, R356): the unit is fenced and its event occurs; with a reserve the reserve takes over and the
group has none left; without one, signal fail begins (for AES lanes: every frame is void). What follows a takeover, and rotation (R83, R84, R135,
R136, R495): a unit's first block or codeword ends its takeover with the event; signal fail of a group ends once the units not fenced carry the load;
at an exchange boundary that nothing holds, the unit that passed its session goes into service and the next unit becomes the reserve. -/
def Obligations.ReceiverUnits : Prop :=
  (∀ (s : State) (c : Carrier),
    (∀ (e : Fin 9), (s.chip.grpOf c 0).inService e.val = true →
      Answers (.engFault c [e]) s fun t => (t.grpOf c 0).fenced.testBit e.val = true ∧ (t.grpOf c 0).reserve = none ∧
        (∀ k, (s.chip.grpOf c 0).reserve = some k → (t.grpOf c 0).takeover = some k) ∧
        ((s.chip.grpOf c 0).reserve = none → (t.grpOf c 0).sf = true) ∧
        Recorded (Ev.RXD.ENG_FAULT c) s.chip t ∧ LineFrame s.chip t) ∧
    (∀ (k : Fin 14), (s.chip.grpOf c 1).inService k.val = true →
      Answers (.sliceFault c [k]) s fun t => (t.grpOf c 1).fenced.testBit k.val = true ∧ (t.grpOf c 1).reserve = none ∧
        (∀ r, (s.chip.grpOf c 1).reserve = some r → (t.grpOf c 1).takeover = some r) ∧
        ((s.chip.grpOf c 1).reserve = none → (t.grpOf c 1).sf = true) ∧
        Recorded (Ev.FEC.SLICE_FAULT c) s.chip t ∧ LineFrame s.chip t)) ∧
  (∀ (s : State) (c : Carrier),
    ((s.chip.grpOf c 0).takeover.isSome = true →
      Answers (.engTakeover c) s fun t => (t.grpOf c 0).takeover = none ∧ Recorded (Ev.RXD.ENG_TAKEOVER c) s.chip t ∧
        Kept [evtBit (Ev.RXD.ENG_TAKEOVER c)] s.chip t) ∧
    ((s.chip.grpOf c 1).takeover.isSome = true →
      Answers (.sliceTakeover c) s fun t => (t.grpOf c 1).takeover = none ∧ Recorded (Ev.FEC.SLICE_TAKEOVER c) s.chip t ∧
        Kept [evtBit (Ev.FEC.SLICE_TAKEOVER c)] s.chip t) ∧
    ((s.chip.grpOf c 0).sf = true → (s.chip.lineApplied c).carries 0 ((s.chip.grpOf c 0).healthy 0) = true →
      Answers (.engSfClear c) s fun t => (t.grpOf c 0).sf = false ∧ LineFrame s.chip t) ∧
    ((s.chip.grpOf c 1).sf = true → (s.chip.lineApplied c).carries 1 ((s.chip.grpOf c 1).healthy 1) = true →
      Answers (.fecSfClear c) s fun t => (t.grpOf c 1).sf = false ∧ LineFrame s.chip t) ∧
    (∀ (g : Fin 3) (u w : Nat), s.chip.exchangeHeld c g.val = false → (s.chip.grpOf c g.val).passed = some u →
      (s.chip.grpOf c g.val).reserve = some u →
      Grp.nextUnit g.val u (fun x => GrpSt.inService { s.chip.grpOf c g.val with joining := 0 } x) = some w →
      Answers (.rotationExchange c g) s fun t => (t.grpOf c g.val).reserve = some w ∧ LineFrame s.chip t))

/-! ## Acquisition -/

/-- Signal and enables (R101 to R105): a window at or above SD_THR ends loss of signal; the LOS_WINS-th absent window in a row declares it, and a
receiver in ACQUIRED goes to DETECT with LOST; ACQ_EN set takes the carrier's receiver from IDLE to DETECT; ACQ_EN cleared takes every receiver of
the carrier to IDLE; a restart takes a receiver that is not in IDLE to DETECT, cold without its warm state. -/
def Obligations.AcquisitionEntry : Prop :=
  ∀ (s : State) (c : Carrier),
    let v := s.chip.rcvOf (.car c)
    (∀ sum, (s.chip.txd.get c).pllLol = false → v.state ≠ 1 → 4 * v.cfg.sdThr ≤ sum →
      Answers (.signalWindow (.car c) sum) s fun t => (t.rcvOf (.car c)).los = false ∧ (t.rcvOf (.car c)).state = v.state ∧
        (t.liveWord (Ev.ACQ.base c)).getLsbD 2 = false ∧ LineFrame s.chip t) ∧
    (∀ sum, sum < 4 * min v.cfg.losThr v.cfg.sdThr → v.los = false → v.losNeed ≤ v.absent + 1 → v.state = 8 →
      Answers (.signalWindow (.car c) sum) s fun t => (t.rcvOf (.car c)).los = true ∧ (t.rcvOf (.car c)).state = 1 ∧
        Recorded (Ev.ACQ.LOS c) s.chip t ∧ Recorded (Ev.ACQ.LOST c) s.chip t ∧ LineFrame s.chip t) ∧
    (s.chip.receivers c = [.car c] → v.state = 0 →
      Answers (.acqEnSet c) s fun t => t.flag (Reg.ACQ.ACQ_CTRL.ACQ_EN c) = true ∧ (t.rcvOf (.car c)).state = 1 ∧
        (t.rcvOf (.car c)).warm = false ∧ LineFrame s.chip t) ∧
    Answers (.acqEnClear c) s (fun t => t.flag (Reg.ACQ.ACQ_CTRL.ACQ_EN c) = false ∧ (∀ r : Rcv, r.carrier = c → (t.rcvOf r).state = 0) ∧
        (∀ r : Rcv, r.carrier ≠ c → (t.rcvOf r).state = (s.chip.rcvOf r).state) ∧ (v.state = 8 → Recorded (Ev.ACQ.LOST c) s.chip t) ∧
        LineFrame s.chip t) ∧
    (s.chip.receivers c = [.car c] → v.state ≠ 0 →
      Answers (.restartCold c) s fun t => (t.rcvOf (.car c)).state = 1 ∧ (t.rcvOf (.car c)).warmValid = false ∧
        (v.state = 8 → Recorded (Ev.ACQ.LOST c) s.chip t) ∧ LineFrame s.chip t) ∧
    (s.chip.receivers c = [.car c] → v.state ≠ 0 → (s.chip.acqCfg c).warmHold ≠ 0 →
      Answers (.restartWarm c) s fun t => (t.rcvOf (.car c)).state = 1 ∧ (t.rcvOf (.car c)).warm = v.warmValid ∧ LineFrame s.chip t)

/-- The stages of an acquisition (R104 to R107): the coarse frequency estimate leads to the scan, in FIXED mode to TRAIN_CORR at CD_SET, and out of
range to a cold restart; the end of the fine pass leads to TRAIN_CORR at the best candidate where it reaches SCAN_THR; a confirmed peak leads to
POL_TIMING, its locks to PILOT_LOCK, and its locks to FRAME_ALIGN. Failures and the warm state (R105, R108, R111): a stage whose bound expires
restarts cold and notes the stage, a warm attempt also losing the warm state with WARM_FAIL; LOL_TIME without all of BFLY_CONV, TR_LOCK and CPR_LOCK
leaves ACQUIRED with LOST, warm where a warm state is valid; the warm state is captured in ACQUIRED with all four flags, and is discarded once
WARM_HOLD has expired outside it; ACQ_FAIL is raised once for an acquisition. -/
def Obligations.AcquisitionRuns : Prop :=
  (∀ (s : State) (c : Carrier),
    let v := s.chip.rcvOf (.car c)
    (∀ mhz : Int, v.state = 2 → mhz.natAbs ≤ 5000 → s.chip.flag (Reg.RXD.RX_STAT.CD_MODE_ACTIVE c) = true →
      Answers (.coarseFreqDone (.car c) mhz) s fun t => (t.rcvOf (.car c)).state = 4 ∧ (t.rcvOf (.car c)).fofs = mhz ∧
        (t.rcvOf (.car c)).cd = sgn 32 (s.chip.act (Reg.RXD.CD_SET.addr c)).toNat ∧ LineFrame s.chip t) ∧
    (∀ mhz : Int, v.state = 2 → mhz.natAbs ≤ 5000 → s.chip.flag (Reg.RXD.RX_STAT.CD_MODE_ACTIVE c) = false →
      Answers (.coarseFreqDone (.car c) mhz) s fun t => (t.rcvOf (.car c)).state = 3 ∧ (t.rcvOf (.car c)).scan.running = true ∧ LineFrame s.chip t) ∧
    (∀ mhz : Int, v.state = 2 → 5000 < mhz.natAbs →
      Answers (.coarseFreqDone (.car c) mhz) s fun t => (t.rcvOf (.car c)).state = 2 ∧ (t.rcvOf (.car c)).attempts = min 255 (v.attempts + 1) ∧
        Recorded (Ev.RXD.CFR_RANGE c) s.chip t ∧ LineFrame s.chip t) ∧
    (∀ metrics,
      let sc := v.scan.batch (sgn 32 (s.chip.act (Reg.RXD.CD_SET.addr c)).toNat) (metrics.take ((s.chip.grpOf c 0).inServiceUnits 0).length)
      v.state = 3 → v.scan.running = true → sc.todo = [] → sc.fine = true →
      (s.chip.getF (Reg.ACQ.TRAIN_CFG.SCAN_THR c) ≤ (sc.best.getD (sgn 32 (s.chip.act (Reg.RXD.CD_SET.addr c)).toNat, 0)).2 →
        Answers (.scanBatch (.car c) metrics) s fun t => (t.rcvOf (.car c)).state = 4 ∧
          (t.rcvOf (.car c)).cd = (sc.best.getD (sgn 32 (s.chip.act (Reg.RXD.CD_SET.addr c)).toNat, 0)).1 ∧ LineFrame s.chip t) ∧
      ((sc.best.getD (sgn 32 (s.chip.act (Reg.RXD.CD_SET.addr c)).toNat, 0)).2 < s.chip.getF (Reg.ACQ.TRAIN_CFG.SCAN_THR c) →
        Answers (.scanBatch (.car c) metrics) s fun t => (t.rcvOf (.car c)).state = 2 ∧ Recorded (Ev.ACQ.SCAN_FAIL c) s.chip t)) ∧
    (∀ str, v.state = 4 → v.cand.isSome = true → max 1 (s.chip.getF (Reg.ACQ.TRAIN_CFG.TRAIN_CONFIRM c)) ≤ v.confirms + 1 →
      Answers (.trainPeriod (.car c) true str) s fun t => (t.rcvOf (.car c)).state = 5 ∧ LineFrame s.chip t) ∧
    (v.state = 5 → Answers (.polTimingLock (.car c)) s fun t => (t.rcvOf (.car c)).state = 6 ∧ (t.rcvOf (.car c)).bfly = true ∧
        (t.rcvOf (.car c)).tr = true ∧ LineFrame s.chip t) ∧
    (v.state = 6 → Answers (.pilotLockDone (.car c)) s fun t => (t.rcvOf (.car c)).state = 7 ∧ (t.rcvOf (.car c)).cfr = true ∧
        (t.rcvOf (.car c)).cpr = true ∧ (t.frmOf c 0).align = 0 ∧ LineFrame s.chip t)) ∧
  (∀ (s : State) (c : Carrier),
    let v := s.chip.rcvOf (.car c)
    (2 ≤ v.state → v.state ≤ 7 →
      Answers (.stageBoundExpired (.car c)) s fun t => (t.rcvOf (.car c)).state = 2 ∧ (t.rcvOf (.car c)).lastFail = v.state ∧
        (t.rcvOf (.car c)).attempts = min 255 (v.attempts + 1) ∧
        (v.warm = true → (t.rcvOf (.car c)).warmValid = false ∧ Recorded (Ev.ACQ.WARM_FAIL c) s.chip t) ∧ LineFrame s.chip t) ∧
    (v.state = 8 → (v.bfly && v.tr && v.cpr) = false →
      Answers (.lolTimeExpired (.car c)) s fun t => (t.rcvOf (.car c)).state = (if v.warmValid then 4 else 2) ∧
        Recorded (Ev.ACQ.LOST c) s.chip t ∧ LineFrame s.chip t) ∧
    (∀ taps (fofs sofs : Int), v.state = 8 → (v.bfly && v.tr && v.cfr && v.cpr) = true → v.cfg.warmHold ≠ 0 →
      Answers (.warmCapture (.car c) taps fofs sofs) s fun t => (t.rcvOf (.car c)).warmValid = true ∧
        (t.rcvOf (.car c)).warmRec = some ⟨v.cd, s.chip.flag (Reg.RXD.RX_STAT.NLC_BYPASS c), taps, fofs, sofs⟩ ∧ t.regs = s.chip.regs) ∧
    (v.state ≠ 8 →
      Answers (.warmHoldExpired (.car c)) s fun t => (t.rcvOf (.car c)).warmValid = false ∧ (t.rcvOf (.car c)).warmRec = none ∧ t.regs = s.chip.regs) ∧
    (v.begun = true → v.failRaised = false →
      Answers (.acqFail (.car c)) s fun t => (t.rcvOf (.car c)).failRaised = true ∧ Recorded (Ev.ACQ.ACQ_FAIL c) s.chip t ∧
        Kept [evtBit (Ev.ACQ.ACQ_FAIL c)] s.chip t))

/-! ## Error correction -/

/-- The decoder stage (R129, R133, R138, R140): a codeword goes to the next slice in service after the last; a slice's result is kept with its
codeword and counted, its iterations cut to the limit; the oldest codeword leaves once it has a result. Codeword lock and the staircase window (R128,
R131, R132): in FRAME_ALIGN the lowest phase whose codewords both decoded is locked; 32 failures in a row end lock, empty the window, and take a
receiver in ACQUIRED out of it with LOST; a block beyond the first W in-frame is counted, and an uncorrectable one raises STAIR_UNCORR. -/
def Obligations.Decoder : Prop :=
  (∀ (s : State) (c : Carrier),
    (∀ k, Grp.nextUnit 1 (s.chip.fec.get c).lastSlice (s.chip.grpOf c 1).inService = some k →
      Answers (.codewordDispatch (.car c)) s fun t => (t.fec.get c).lastSlice = k ∧
        (t.fec.get c).flight = (s.chip.fec.get c).flight ++ [{ rcv := .car c, slice := k, at_ := s.chip.now }] ∧
        t.fec.get c.other = s.chip.fec.get c.other ∧ t.regs = s.chip.regs) ∧
    (∀ (slice : Fin 14) (iters corr : Nat) (ok : Bool) (rest : List Codeword),
      (s.chip.fec.get c).flight = { rcv := .car c, slice := slice.val, at_ := s.chip.now } :: rest →
      Answers (.decodeDone c slice iters ok corr) s fun t =>
        (t.fec.get c).flight.head?.bind Codeword.result = some (min iters (s.chip.iterLimit c), ok, corr) ∧
        t.getPair (Reg.FEC.LDPC_CW_LO.addr c) = (s.chip.getPair (Reg.FEC.LDPC_CW_LO.addr c) + 1) % 2 ^ 64 ∧
        t.getPair (Reg.FEC.LDPC_FAIL_LO.addr c) = (s.chip.getPair (Reg.FEC.LDPC_FAIL_LO.addr c) + (if ok then 0 else 1)) % 2 ^ 64 ∧
        t.getPair (Reg.FEC.ITER_SUM_LO.addr c) = (s.chip.getPair (Reg.FEC.ITER_SUM_LO.addr c) + min iters (s.chip.iterLimit c)) % 2 ^ 64 ∧
        (t.rcvOf (.car c)).failRun = (if ok then 0 else (s.chip.rcvOf (.car c)).failRun + 1)) ∧
    (∀ w rest, (s.chip.fec.get c).flight = w :: rest → (w.result.isSome || w.lost) = true →
      Answers (.codewordRelease c) s fun t => (t.fec.get c).flight = rest ∧ t.regs = s.chip.regs)) ∧
  (∀ (s : State) (c : Carrier),
    let v := s.chip.rcvOf (.car c)
    (∀ passed k, v.state = 7 → v.cwLock = false → (List.range 5).find? (fun k => passed.getD k false) = some k →
      Answers (.cwLock (.car c) passed) s fun t => (t.rcvOf (.car c)).cwLock = true ∧ (t.rcvOf (.car c)).cwPhase = k ∧
        Recorded (Ev.FEC.CW_LOCK_CHANGE c) s.chip t ∧ LineFrame s.chip t) ∧
    (v.cwLock = true → 32 ≤ v.failRun → v.state = 8 →
      Answers (.cwLockLoss (.car c)) s fun t => (t.rcvOf (.car c)).cwLock = false ∧ (t.rcvOf (.car c)).blocks = 0 ∧
        (t.rcvOf (.car c)).state = (if v.warmValid then 4 else 2) ∧ Recorded (Ev.FEC.CW_LOCK_CHANGE c) s.chip t ∧
        Recorded (Ev.ACQ.LOST c) s.chip t ∧ LineFrame s.chip t) ∧
    (∀ corr bad, s.chip.stairWindow c ≤ v.blocks + 1 →
      Answers (.stairBlock (.car c) corr bad) s fun t => (t.rcvOf (.car c)).blocks = v.blocks + 1 ∧
        (t.rcvOf (.car c)).last64 = (bad :: v.last64).take 64 ∧
        t.getPair (Reg.FEC.STAIR_BLK_LO.addr c) = (s.chip.getPair (Reg.FEC.STAIR_BLK_LO.addr c) + 1) % 2 ^ 64 ∧
        t.getPair (Reg.FEC.STAIR_CORR_LO.addr c) = (s.chip.getPair (Reg.FEC.STAIR_CORR_LO.addr c) + corr) % 2 ^ 64 ∧
        (bad = true → Recorded (Ev.FEC.STAIR_UNCORR c) s.chip t) ∧ LineFrame s.chip t))

/-! ## Subcarriers -/

/-- Upstream subcarriers of a leaf and marks of a hub (R150 to R153): the frequency pre-compensation moves toward the home subcarrier's offset by at
most 10 MHz; a subcarrier put to sleep starts its ramp down, one woken during it starts its ramp up; a hub's new mark stands in SLEEP and suppresses
the subcarrier's defects again.
Where the rules leave a choice, the model's stands: log entry 40. -/
def Obligations.SubcarrierSleep : Prop :=
  ∀ (s : State) (c : Carrier) (q : Fin 16),
    (∀ f : Int, s.chip.flag (Reg.SUBC.SC_CFG.UP_FCOMP c) = true → s.chip.getF (Reg.SUBC.SC_STAT.ROLE_ACTIVE c) = 2 →
      Answers (.upFcompUpdate c f) s fun t => (t.subc.get c).fcomp - (s.chip.subc.get c).fcomp ≤ 10 ∧ (s.chip.subc.get c).fcomp - (t.subc.get c).fcomp ≤ 10 ∧
        ((f - (s.chip.subc.get c).fcomp).natAbs ≤ 10 → (t.subc.get c).fcomp = f) ∧ t.regs = s.chip.regs) ∧
    (s.chip.bitOf (Reg.SUBC.SLEEP.MASK c) q.val = false → (s.chip.scTxOf c q.val).down = false →
      Answers (.upstreamSleep c q) s fun t => t.bitOf (Reg.SUBC.SLEEP.MASK c) q.val = true ∧ (t.scTxOf c q.val).down = true ∧
        (t.scTxOf c q.val).at_ = s.chip.now ∧ (∀ p : Fin 16, p ≠ q → t.scTxOf c p.val = s.chip.scTxOf c p.val) ∧
        Kept [Reg.SUBC.SLEEP.MASK c] s.chip t) ∧
    ((s.chip.scTxOf c q.val).down = true →
      Answers (.upstreamWake c q) s fun t => t.bitOf (Reg.SUBC.SLEEP.MASK c) q.val = false ∧ (t.scTxOf c q.val).down = false ∧
        (t.scTxOf c q.val).at_ = s.chip.now ∧ (∀ p : Fin 16, p ≠ q → t.scTxOf c p.val = s.chip.scTxOf c p.val) ∧
        Kept [Reg.SUBC.SLEEP.MASK c] s.chip t) ∧
    (∀ v, Answers (.hubSleepMark c q v) s fun t => t.bitOf (Reg.SUBC.SLEEP.MASK c) q.val = v ∧
        (v = true → s.chip.bitOf (Reg.SUBC.SLEEP.MASK c) q.val = false → (t.rcvOf (.sub c q)).woke = false) ∧ LineFrame s.chip t)

/-- The inlet of a leaf (R157): SEND in IDLE waits for the home subcarrier, and where that is acquired draws a backoff of 1 to 64 slots; ACK in
WAIT_RESP is DONE; the disabled inlet is in IDLE; the backoff's end sends, the burst's end waits for the response with INLET_SENT, and a response
that does not come draws the next backoff, or gives up after MAX_TRY bursts with INLET_GIVEUP. The inlet receiver of a hub and its queue (R158,
R160): a preamble starts a reception, replaces a confirmed burst only where it is at least 6 dB stronger and is a collision otherwise; a bad header
is counted and ends the reception; a payload whose check fails is counted and not queued; POP removes the head entry and FLUSH every entry.
Where the rules leave a choice, the model's stands: log entries 8, 40. -/
def Obligations.Inlet : Prop :=
  (∀ (s : State) (c : Carrier),
    let st := s.chip.getF (Reg.SUBC.INLET_TX_STAT.STATE c)
    let k := s.chip.getF (Reg.SUBC.INLET_TX_STAT.ATTEMPTS c) + 1
    (st = 0 → s.chip.inletLeaf c = true → s.chip.homeAcquired c = false →
      Answers (.inletSend c) s fun t => t.getF (Reg.SUBC.INLET_TX_STAT.STATE c) = 1 ∧ t.getF (Reg.SUBC.INLET_TX_STAT.ATTEMPTS c) = 0 ∧
        Kept [Reg.SUBC.INLET_TX_STAT.STATE c, Reg.SUBC.INLET_TX_STAT.ATTEMPTS c] s.chip t) ∧
    (st = 0 → s.chip.inletLeaf c = true → s.chip.homeAcquired c = true →
      Answers (.inletSend c) s fun t => t.getF (Reg.SUBC.INLET_TX_STAT.STATE c) = 2 ∧ 1 ≤ (t.subc.get c).delay ∧ (t.subc.get c).delay ≤ 64 ∧
        Kept [Reg.SUBC.INLET_TX_STAT.STATE c, Reg.SUBC.INLET_TX_STAT.ATTEMPTS c] s.chip t) ∧
    (st = 4 → Answers (.inletAck c) s fun t => t.getF (Reg.SUBC.INLET_TX_STAT.STATE c) = 5 ∧
        Kept [Reg.SUBC.INLET_TX_STAT.STATE c] s.chip t) ∧
    Answers (.inletEnClear c) s (fun t => t.flag (Reg.SUBC.INLET_CFG.EN c) = false ∧ t.getF (Reg.SUBC.INLET_TX_STAT.STATE c) = 0 ∧
        (t.subc.get c).inlet = .search ∧ Kept [Reg.SUBC.INLET_CFG.EN c, Reg.SUBC.INLET_TX_STAT.STATE c] s.chip t) ∧
    (st = 2 → Answers (.backoffExpired c) s fun t => t.getF (Reg.SUBC.INLET_TX_STAT.STATE c) = 3 ∧
        Kept [Reg.SUBC.INLET_TX_STAT.STATE c] s.chip t) ∧
    (st = 3 → (s.chip.subc.get c).ackPend = false → (s.chip.subc.get c).homePend = false → s.chip.inletLeaf c = true →
      s.chip.homeAcquired c = true →
      Answers (.inletSent c) s fun t => t.getF (Reg.SUBC.INLET_TX_STAT.STATE c) = 4 ∧ Recorded (Ev.SUBC.INLET_SENT c) s.chip t ∧
        Kept [Reg.SUBC.INLET_TX_STAT.STATE c, evtBit (Ev.SUBC.INLET_SENT c)] s.chip t) ∧
    (st = 4 → max 1 (s.chip.getF (Reg.SUBC.INLET_TRY.MAX_TRY c)) ≤ k →
      Answers (.respTimeout c) s fun t => t.getF (Reg.SUBC.INLET_TX_STAT.STATE c) = 6 ∧ Recorded (Ev.SUBC.INLET_GIVEUP c) s.chip t) ∧
    (st = 4 → k < max 1 (s.chip.getF (Reg.SUBC.INLET_TRY.MAX_TRY c)) →
      Answers (.respTimeout c) s fun t => t.getF (Reg.SUBC.INLET_TX_STAT.STATE c) = 2 ∧ 1 ≤ (t.subc.get c).delay ∧
        (t.subc.get c).delay ≤ min 64 (2 ^ (k + 1)))) ∧
  (∀ (s : State) (c : Carrier) (level fofs : Int) (sec ns : Nat),
    (s.chip.inletHub c = true → (s.chip.subc.get c).inlet = .search →
      Answers (.preambleDetected c level fofs sec ns) s fun t => (t.subc.get c).inlet = .header { level := level, fofs := fofs, sec := sec, ns := ns } ∧
        t.regs = s.chip.regs) ∧
    (∀ b, s.chip.inletHub c = true → (s.chip.subc.get c).inlet = .payload b → level < b.level + 60 →
      Answers (.preambleDetected c level fofs sec ns) s fun t => t.subc = s.chip.subc ∧
        t.getF (Reg.SUBC.INLET_COLLISION.COUNT c) = (s.chip.getF (Reg.SUBC.INLET_COLLISION.COUNT c) + 1) % 2 ^ (Reg.SUBC.INLET_COLLISION.COUNT c).width ∧
        Kept [Reg.SUBC.INLET_COLLISION.COUNT c] s.chip t) ∧
    (∀ b header, (s.chip.subc.get c).inlet = .header b → headerGood (header.map Bool.toNat) = false →
      Answers (.headerComplete c header false) s fun t => (t.subc.get c).inlet = .search ∧
        t.getF (Reg.SUBC.INLET_HDR_FAIL.COUNT c) = (s.chip.getF (Reg.SUBC.INLET_HDR_FAIL.COUNT c) + 1) % 2 ^ (Reg.SUBC.INLET_HDR_FAIL.COUNT c).width ∧
        Kept [Reg.SUBC.INLET_HDR_FAIL.COUNT c] s.chip t) ∧
    (∀ b bytes, (s.chip.subc.get c).inlet = .payload b → bytes.length ≠ 32 * b.length →
      Answers (.payloadComplete c bytes) s fun t => (t.subc.get c).inlet = .search ∧
        t.getF (Reg.SUBC.INLET_PAY_FAIL.COUNT c) = (s.chip.getF (Reg.SUBC.INLET_PAY_FAIL.COUNT c) + 1) % 2 ^ (Reg.SUBC.INLET_PAY_FAIL.COUNT c).width ∧
        Kept [Reg.SUBC.INLET_PAY_FAIL.COUNT c] s.chip t) ∧
    (s.chip.getF (Reg.SUBC.QUEUE_STAT.COUNT c) ≠ 0 →
      Answers (.queuePop c) s fun t => t.getF (Reg.SUBC.QUEUE_STAT.COUNT c) = s.chip.getF (Reg.SUBC.QUEUE_STAT.COUNT c) - 1 ∧
        t.getF (Reg.SUBC.QUEUE_STAT.HEAD c) = (s.chip.getF (Reg.SUBC.QUEUE_STAT.HEAD c) + 1) % 2 ^ (Reg.SUBC.QUEUE_STAT.HEAD c).width ∧
        Kept [Reg.SUBC.QUEUE_STAT.COUNT c, Reg.SUBC.QUEUE_STAT.HEAD c] s.chip t ∧ Quiet s.chip t) ∧
    Answers (.queueFlush c) s (fun t => t.getF (Reg.SUBC.QUEUE_STAT.COUNT c) = 0 ∧
        Kept [Reg.SUBC.QUEUE_STAT.COUNT c, Reg.SUBC.QUEUE_STAT.HEAD c] s.chip t ∧ Quiet s.chip t))

/-! ## The line frame and performance monitoring -/

/-- The transmit framer (R171, R172): every frame period takes the next FSN modulo 2^32; a trail that sends carries it in its frame and reports it in
TX_FSN; a trail that is not transmit-enabled sends nothing and no register changes. The aligner (R177, R178): a good LAW that follows a candidate
puts it in IN_FRAME; the OOF_N-th bad LAW in a row in IN_FRAME puts it in OOF, counts it, and ends FSN lock; 32 block times in OOF set LOF_ACQ with
its event and take a carrier's receiver out of ACQUIRED.
Where the rules leave a choice, the model's stands: log entry 39. -/
def Obligations.FrameAlignment : Prop :=
  (∀ (s : State) (c : Carrier) (t : Fin 16) (parity pin : Nat),
    Answers (.frameStartTx c t parity pin) s fun u =>
      (u.frmOf c t.val).fsnNext = ((s.chip.frmOf c t.val).fsnNext + 1) % 2 ^ 32 ∧
      (s.chip.trailTx c t.val = false → u.regs = s.chip.regs) ∧
      (s.chip.trailTx c t.val = true → s.chip.txAsleep c t.val = false →
        u.getF (Reg.FRM.TX_FSN.FSN c t.val) = (s.chip.frmOf c t.val).fsnNext % 2 ^ 32 ∧
        (u.frmOf c t.val).hdr.map TxHdr.fsn = some (s.chip.frmOf c t.val).fsnNext ∧
        (u.frmOf c t.val).parities.head? = some (parity % 256)) ∧
      u.rcv = s.chip.rcv ∧ u.clk = s.chip.clk ∧ u.boot = s.chip.boot) ∧
  (∀ (s : State) (c : Carrier) (t : Fin 16),
    let v := s.chip.frmOf c t.val
    (∀ pos errs header, v.align = 0 → 7 ≤ (s.chip.trailRcvSt c t.val).state → errs ≤ s.chip.lawTol c t.val → lawSpacing ≤ pos →
      v.cands.contains (pos - lawSpacing) = true →
      Answers (.lineBlockRx c t pos errs header) s fun u => (u.frmOf c t.val).align = 1 ∧ (u.frmOf c t.val).pos = pos ∧
        u.flag (Reg.FRM.ALIGN_STAT.IN_FRAME c t.val) = true ∧ Recorded (Ev.FRM.IF_CHANGE c) s.chip u ∧ LineFrame s.chip u) ∧
    (∀ errs header, v.align = 1 → s.chip.lawTol c t.val < errs → max 2 (s.chip.getF (Reg.FRM.ALIGN_CFG.OOF_N c t.val)) ≤ v.badLaw + 1 →
      Answers (.lineBlockRx c t (v.pos + lawSpacing) errs header) s fun u => (u.frmOf c t.val).align = 2 ∧
        u.flag (Reg.FRM.ALIGN_STAT.IN_FRAME c t.val) = false ∧ u.flag (Reg.FRM.ALIGN_STAT.FSN_LOCK c t.val) = false ∧
        u.getF (Reg.FRM.OOF_CNT.COUNT c t.val) = (s.chip.getF (Reg.FRM.OOF_CNT.COUNT c t.val) + 1) % 2 ^ (Reg.FRM.OOF_CNT.COUNT c t.val).width ∧
        Recorded (Ev.FRM.IF_CHANGE c) s.chip u ∧ LineFrame s.chip u) ∧
    (v.align = 2 →
      Answers (.lofAcq c t) s fun u => u.flag (Reg.FRM.ALIGN_STAT.LOF_ACQ c t.val) = true ∧ Recorded (Ev.FRM.LOF_ACQ c) s.chip u ∧
        ((s.chip.lineApplied c).cfg.subcEn = false → (s.chip.rcvOf (.car c)).state = 8 →
          (u.rcvOf (.car c)).state = if (s.chip.rcvOf (.car c)).warmValid then 4 else 2) ∧ LineFrame s.chip u))

/-- Frame accounting (R185): under FSN lock the frame with the expected number is delivered, counted, and shown in RX_FSN; another one is held back
and not delivered; a frame outside IN_FRAME changes nothing. Defects and failures of a trail (R187, R189): dLOF and dLOM take the value that has
lasted LOF_TIME; a second with DEG_THR errored frames is bad, and dDEG sets with the DEG_M-th in a row; the failure of a defect that is present sets,
that of one that is absent clears, each with FAIL_CHANGE. Performance monitoring (R198, R202, R204, R208): monitoring enabled for the first time
starts with the next whole second; a second closes once, in its turn; the oldest closed second is committed, with the commit's number, and a frozen
one adds to FROZEN and to no error count; CLEAR takes effect at the next commit.
Where the rules leave a choice, the model's stands: log entries 41, 42. -/
def Obligations.TrailsAndPerformance : Prop :=
  (∀ (s : State) (c : Carrier) (t : Fin 16) (f : RxFrame),
    let v := s.chip.frmOf c t.val
    (s.chip.flag (Reg.FRM.ALIGN_STAT.IN_FRAME c t.val) = true → s.chip.flag (Reg.FRM.ALIGN_STAT.DELIN c t.val) = true →
      s.chip.flag (Reg.FRM.ALIGN_STAT.FSN_LOCK c t.val) = true → v.held = none →
      (v.expected = some f.fsn →
        Answers (.frameRx c t f) s fun u => u.getPair (Reg.FRM.FRM_RX_LO.addr c t.val) = (s.chip.getPair (Reg.FRM.FRM_RX_LO.addr c t.val) + 1) % 2 ^ 64 ∧
          u.getF (Reg.FRM.RX_FSN.FSN c t.val) = f.fsn % 2 ^ 32 ∧ (u.frmOf c t.val).expected = some ((f.fsn + 1) % 2 ^ 32)) ∧
      (v.expected.getD 0 ≠ f.fsn →
        Answers (.frameRx c t f) s fun u => (u.frmOf c t.val).held = some f ∧
          u.getPair (Reg.FRM.FRM_RX_LO.addr c t.val) = s.chip.getPair (Reg.FRM.FRM_RX_LO.addr c t.val) ∧ LineFrame s.chip u)) ∧
    (s.chip.flag (Reg.FRM.ALIGN_STAT.IN_FRAME c t.val) = false → exec (.frameRx c t f) s = .next s)) ∧
  (∀ (s : State) (c : Carrier) (t : Fin 16),
    let v := s.chip.frmOf c t.val
    (∀ b, b = !(s.chip.flag (Reg.FRM.ALIGN_STAT.IN_FRAME c t.val)) →
      Answers (.defectTimer c t false b) s fun u => (u.frmOf c t.val).lof = b ∧ (u.frmOf c t.val).lom = v.lom ∧ LineFrame s.chip u) ∧
    (s.chip.flag (Reg.FRM.ALIGN_STAT.OOM c t.val) = true →
      Answers (.defectTimer c t true true) s fun u => (u.frmOf c t.val).lom = true ∧ (u.frmOf c t.val).lof = v.lof ∧ LineFrame s.chip u) ∧
    (∀ sec, max 1 (s.chip.getF (Reg.FRM.DEG_THR.THR c t.val)) ≤ Store.get (fun _ => 0) v.degErr sec → s.chip.degM c t.val ≤ v.degBad + 1 →
      Answers (.degSecond c t sec) s fun u => (u.frmOf c t.val).deg = true ∧ (u.frmOf c t.val).degGood = 0 ∧ LineFrame s.chip u) ∧
    (∀ bit : Fin 11, s.chip.bitOf (Reg.FRM.DEF_STAT.STAT c t.val) bit.val = true → s.chip.bitOf (Reg.FRM.FAIL.FAIL c t.val) bit.val = false →
      Answers (.failSet c t bit) s fun u => u.bitOf (Reg.FRM.FAIL.FAIL c t.val) bit.val = true ∧ Recorded (Ev.FRM.FAIL_CHANGE c) s.chip u ∧
        u.bitOf (Reg.FRM.EVT_TRAIL.TRAIL c) t.val = true ∧
        Kept [Reg.FRM.FAIL.FAIL c t.val, Reg.FRM.EVT_TRAIL.TRAIL c, evtBit (Ev.FRM.FAIL_CHANGE c)] s.chip u ∧ Quiet s.chip u) ∧
    (∀ bit : Fin 11, s.chip.bitOf (Reg.FRM.DEF_STAT.STAT c t.val) bit.val = false → s.chip.bitOf (Reg.FRM.FAIL.FAIL c t.val) bit.val = true →
      Answers (.failClear c t bit) s fun u => u.bitOf (Reg.FRM.FAIL.FAIL c t.val) bit.val = false ∧ Recorded (Ev.FRM.FAIL_CHANGE c) s.chip u ∧
        Kept [Reg.FRM.FAIL.FAIL c t.val, Reg.FRM.EVT_TRAIL.TRAIL c, evtBit (Ev.FRM.FAIL_CHANGE c)] s.chip u ∧ Quiet s.chip u)) ∧
  (∀ (s : State) (c : Carrier) (t : Fin 16),
    let v := s.chip.pmOf c t.val
    (v.started = none →
      Answers (.pmEnable c t) s fun u => u.flag (Reg.PMON.PM_CFG.EN c t.val) = true ∧ (u.pmOf c t.val).started = some (s.chip.wst.sec + 1) ∧
        KeptBut [0x15, 0x1D] [] s.chip u ∧ Elsewhere s.chip u) ∧
    (∀ st sec, v.started = some st → st ≤ sec → (v.lastClosed = none ∨ ∃ l, v.lastClosed = some l ∧ l < sec) →
      Answers (.secondClose c t sec) s fun u => (u.pmOf c t.val).lastClosed = some sec ∧ (u.pmOf c t.val).closed.length = v.closed.length + 1 ∧
        u.getF (Reg.PMON.PM_STAT.PEND c t.val) = min 10 (v.closed.length + 1) ∧ Kept [Reg.PMON.PM_STAT.PEND c t.val] s.chip u) ∧
    (∀ r rest, v.closed = r :: rest →
      Answers (.secondCommit c t) s fun u => (u.pmOf c t.val).closed = rest ∧
        u.getF (Reg.PMON.COMMIT_SEQ.SEQ c t.val) = (s.chip.getF (Reg.PMON.COMMIT_SEQ.SEQ c t.val) + 1) % 2 ^ (Reg.PMON.COMMIT_SEQ.SEQ c t.val).width ∧
        u.getF (Reg.PMON.PM_STAT.PEND c t.val) = min 10 rest.length ∧
        (r.frozen = true → r.end_ = none → v.clearPend = false →
          (u.rd (pmCur c t.val + 0x1C)).toNat = ((s.chip.rd (pmCur c t.val + 0x1C)).toNat + 1) % 2 ^ 32 ∧
          u.rd (pmCur c t.val + 0x10) = s.chip.rd (pmCur c t.val + 0x10) ∧ u.rd (pmCur c t.val + 0x14) = s.chip.rd (pmCur c t.val + 0x14)) ∧
        KeptBut [0x15, 0x1D] [] s.chip u ∧ Elsewhere s.chip u) ∧
    Answers (.pmClear c t) s (fun u => (u.pmOf c t.val).clearPend = true ∧ u.regs = s.chip.regs))

/-! ## Client lanes and ports -/

/-- The enables of a client lane (R222, R223): enabled with loss of signal it goes from DISABLED to DETECT; disabled it goes to DISABLED, where LOS
reads 1 and LOL 0; a change of its rate in ACTIVE without training restarts it in DETECT with LOL held. The detectors of a client lane (R222, R227 to
R229): loss of signal in ACTIVE takes it to DETECT with LOS and LANE_DOWN, and counts; its end in DETECT starts training; a failed window in ACTIVE
asserts LOL with LANE_DOWN; two windows of each kind passed in a row with the CDR locked clear it; CDR lock in DETECT without training leads to LOCK.
Where the rules leave a choice, the model's stands: log entry 43. -/
def Obligations.LaneStates : Prop :=
  (∀ (s : State) (l : Fin 16),
    (s.chip.laneState l.val = 0 → s.chip.flag (Reg.LANE.LANE_STAT.LOS l.val) = true →
      Answers (.laneEnSet l) s fun t => t.flag (Reg.LANE.LANE_CFG.LANE_EN l.val) = true ∧ t.laneState l.val = 1 ∧ LaneFrame l.val s.chip t) ∧
    (s.chip.laneState l.val ≠ 0 →
      Answers (.laneEnClear l) s fun t => t.flag (Reg.LANE.LANE_CFG.LANE_EN l.val) = false ∧ t.laneState l.val = 0 ∧
        t.flag (Reg.LANE.LANE_STAT.LOS l.val) = true ∧ t.flag (Reg.LANE.LANE_STAT.LOL l.val) = false ∧ LaneFrame l.val s.chip t) ∧
    (∀ w : Word, s.chip.laneState l.val = 5 → s.chip.flag (Reg.LANE.LANE_CFG.LANE_EN l.val) = true →
      s.chip.flag (Reg.LANE.LANE_STAT.LOS l.val) = false → w.field 4 2 ≠ s.chip.getF (Reg.LANE.LANE_CFG.RATE l.val) → w.bit 9 = false →
      Answers (.laneReconfig l w) s fun t => t.laneState l.val = 1 ∧ t.getF (Reg.LANE.LANE_CFG.RATE l.val) = w.field 4 2 ∧
        t.flag (Reg.LANE.LANE_CFG.LANE_EN l.val) = true ∧ t.flag (Reg.LANE.LANE_STAT.LOL l.val) = true ∧ LaneFrame l.val s.chip t)) ∧
  (∀ (s : State) (l : Fin 16), s.chip.detects l.val = true →
    (s.chip.laneState l.val = 5 → s.chip.flag (Reg.LANE.LANE_STAT.LOS l.val) = false →
      Answers (.laneLosAssert l) s fun t => t.flag (Reg.LANE.LANE_STAT.LOS l.val) = true ∧ t.laneState l.val = 1 ∧
        t.getF (Reg.LANE.DOWN_CNT.COUNT l.val) = (s.chip.getF (Reg.LANE.DOWN_CNT.COUNT l.val) + 1) % 2 ^ (Reg.LANE.DOWN_CNT.COUNT l.val).width ∧
        Recorded (Ev.LANE.LOS l.val) s.chip t ∧ Recorded (Ev.LANE.LANE_DOWN l.val) s.chip t ∧ LaneFrame l.val s.chip t) ∧
    (s.chip.laneState l.val = 1 → s.chip.trains l.val = true →
      Answers (.laneLosClear l) s fun t => t.flag (Reg.LANE.LANE_STAT.LOS l.val) = false ∧ t.laneState l.val = 2 ∧ LaneFrame l.val s.chip t) ∧
    (∀ errors m bits errs, s.chip.windowFails l.val errors m = true → s.chip.laneState l.val = 5 → s.chip.trains l.val = false →
      s.chip.flag (Reg.LANE.LANE_STAT.LOS l.val) = false → s.chip.flag (Reg.LANE.LANE_STAT.LOL l.val) = false →
      Answers (.lolWindow l errors m bits errs) s fun t => t.flag (Reg.LANE.LANE_STAT.LOL l.val) = true ∧ t.laneState l.val = 1 ∧
        Recorded (Ev.LANE.LOL l.val) s.chip t ∧ Recorded (Ev.LANE.LANE_DOWN l.val) s.chip t ∧ LaneFrame l.val s.chip t) ∧
    (∀ m bits errs, s.chip.windowFails l.val true m = false → (s.chip.laneOf l.val).cdr = true → 1 ≤ (s.chip.laneOf l.val).passE →
      2 ≤ (s.chip.laneOf l.val).passF →
      Answers (.lolWindow l true m bits errs) s fun t => t.flag (Reg.LANE.LANE_STAT.LOL l.val) = false ∧ t.laneState l.val = s.chip.laneState l.val ∧
        LaneFrame l.val s.chip t) ∧
    (s.chip.laneState l.val = 1 → s.chip.trains l.val = false → s.chip.flag (Reg.LANE.LANE_STAT.LOS l.val) = false →
      Answers (.cdrLock l) s fun t => t.laneState l.val = 3 ∧ (t.laneOf l.val).cdr = true ∧ LaneFrame l.val s.chip t))

/-- Training and the capability exchange of a client lane (R219, R222, R226): convergence leads to LOCK, and LOCK_HOLD with LOS and LOL clear to CAPS
or, without training, to ACTIVE; a training that fails is counted and starts again; an exchange that times out fails where it is required; a word
received twice with the lane's own words acknowledged completes it; with the far end ready a finished exchange leads to ACTIVE; a coefficient request
in TRAIN sets its tap.
Where the rules leave a choice, the model's stands: log entries 17, 44. -/
def Obligations.LaneTraining : Prop :=
  ∀ (s : State) (l : Fin 16),
    let st := s.chip.laneState l.val
    let again := if s.chip.flag (Reg.LANE.LANE_STAT.LOS l.val) then 1 else if s.chip.trains l.val then 2 else 1
    (∀ tx rx, st = 2 → Answers (.trainConverged l tx rx) s fun t => t.laneState l.val = 3 ∧ (t.laneOf l.val).cdr = true ∧
        (t.laneOf l.val).preTx = tx ∧ (t.laneOf l.val).preRx = rx ∧ LaneFrame l.val s.chip t) ∧
    (st = 3 → s.chip.flag (Reg.LANE.LANE_STAT.LOS l.val) = false → s.chip.flag (Reg.LANE.LANE_STAT.LOL l.val) = false →
      Answers (.lockHoldExpired l) s fun t => t.laneState l.val = (if s.chip.trains l.val then 4 else 5) ∧
        (s.chip.trains l.val = false → Recorded (Ev.LANE.ACTIVE l.val) s.chip t) ∧ LaneFrame l.val s.chip t) ∧
    (2 ≤ st → st ≤ 4 → (s.chip.laneOf l.val).trained = true →
      Answers (.trainFail l) s fun t => t.laneState l.val = again ∧ Recorded (Ev.LANE.TRAIN_FAIL l.val) s.chip t ∧
        t.getF (Reg.LANE.TRAIN_FAIL_CNT.COUNT l.val) =
          (s.chip.getF (Reg.LANE.TRAIN_FAIL_CNT.COUNT l.val) + 1) % 2 ^ (Reg.LANE.TRAIN_FAIL_CNT.COUNT l.val).width ∧ LaneFrame l.val s.chip t) ∧
    (st = 4 → (s.chip.laneOf l.val).finished = false → s.chip.flag (Reg.LANE.LANE_CFG.CAPS_REQ l.val) = true →
      Answers (.capsTimeout l) s fun t => t.laneState l.val = again ∧ Recorded (Ev.LANE.CAPS_FAIL l.val) s.chip t ∧ LaneFrame l.val s.chip t) ∧
    (∀ w sent, st = 4 → (s.chip.laneOf l.val).finished = false → (s.chip.laneOf l.val).ready = false → capsValid w.toNat = true →
      (s.chip.laneOf l.val).lastWord = some w.toNat → w.getLsbD 59 = true → 2 ≤ sent →
      Answers (.capsWordRx l w sent) s fun t => t.laneState l.val = 4 ∧ (t.laneOf l.val).finished = true ∧
        t.flag (Reg.LANE.LANE_STAT.CAPS_PEER l.val) = true ∧ t.getPair (Reg.LANE.CAPS_RX_LO.addr l.val) = w.toNat ∧
        Recorded (Ev.LANE.CAPS_DONE l.val) s.chip t ∧ LaneFrame l.val s.chip t) ∧
    (st = 4 → (s.chip.laneOf l.val).finished = true →
      Answers (.readyRx l) s fun t => t.laneState l.val = 5 ∧ Recorded (Ev.LANE.ACTIVE l.val) s.chip t ∧ LaneFrame l.val s.chip t) ∧
    (∀ (k : Fin 5) (tap : BitVec 8), st = 2 → s.chip.rateCode l.val = 0 →
      Answers (.coeffRequest l k tap) s fun t => t.getF (Reg.LANE.TX_FFE.TAP l.val k.val) = tap.toNat ∧
        Kept [Reg.LANE.TX_FFE.TAP l.val k.val] s.chip t ∧ Quiet s.chip t)

/-- Sleep of a client lane (R231 to R233): TX_SLEEP in ACTIVE takes the transmitter to sleep unless a peer without the capability refuses it, and its
clearing wakes it; RX_SLEEP in ACTIVE takes the receiver to sleep with LOS and LOL at 0, its clearing starts a wake, whose end leaves the receiver
awake with its CDR locked; a wake that fails takes the lane out of ACTIVE with its event. The checker and the injector of a client lane (R236, R237):
lock of a running checker with its event; its loss counted, with the bits compared till then; both counts cleared together; a single error and a
burst of BURST_LEN + 1 symbols wait to be injected in ACTIVE.
Where the rules leave a choice, the model's stands: log entries 21, 43. -/
def Obligations.LaneSleepAndTests : Prop :=
  (∀ (s : State) (l : Fin 16), s.chip.laneState l.val = 5 →
    (s.chip.flag (Reg.LANE.LANE_STAT.CAPS_PEER l.val) = false → s.chip.farLoop l.val = false →
      Answers (.txSleep l) s fun t => t.flag (Reg.LANE.LANE_SLEEP.TX_SLEEP l.val) = true ∧ t.flag (Reg.LANE.LANE_STAT.TX_ASLEEP l.val) = true ∧
        t.laneState l.val = 5 ∧ LaneFrame l.val s.chip t) ∧
    (s.chip.flag (Reg.LANE.LANE_STAT.CAPS_PEER l.val) = true → (s.chip.getPair (Reg.LANE.CAPS_RX_LO.addr l.val)).testBit 54 = false →
      Answers (.txSleep l) s fun t => t.flag (Reg.LANE.LANE_SLEEP.TX_SLEEP l.val) = false ∧ Recorded (Ev.LANE.SLEEP_REFUSED l.val) s.chip t ∧
        LaneFrame l.val s.chip t) ∧
    Answers (.txWake l) s (fun t => t.flag (Reg.LANE.LANE_SLEEP.TX_SLEEP l.val) = false ∧ t.flag (Reg.LANE.LANE_STAT.TX_ASLEEP l.val) = false ∧
        LaneFrame l.val s.chip t) ∧
    Answers (.rxSleep l) s (fun t => t.flag (Reg.LANE.LANE_SLEEP.RX_SLEEP l.val) = true ∧ t.flag (Reg.LANE.LANE_STAT.RX_ASLEEP l.val) = true ∧
        t.flag (Reg.LANE.LANE_STAT.LOS l.val) = false ∧ t.flag (Reg.LANE.LANE_STAT.LOL l.val) = false ∧ LaneFrame l.val s.chip t) ∧
    Answers (.rxWake l) s (fun t => t.flag (Reg.LANE.LANE_SLEEP.RX_SLEEP l.val) = false ∧
        (t.laneOf l.val).waking = s.chip.flag (Reg.LANE.LANE_STAT.RX_ASLEEP l.val) ∧ LaneFrame l.val s.chip t) ∧
    ((s.chip.laneOf l.val).waking = true →
      Answers (.rxWakeDone l) s fun t => t.flag (Reg.LANE.LANE_STAT.RX_ASLEEP l.val) = false ∧ (t.laneOf l.val).cdr = true ∧
        (t.laneOf l.val).waking = false ∧ t.laneState l.val = 5 ∧ LaneFrame l.val s.chip t) ∧
    ((s.chip.laneOf l.val).waking = true →
      Answers (.wakeFail l) s fun t => t.laneState l.val < 3 ∧ Recorded (Ev.LANE.WAKE_FAIL l.val) s.chip t ∧
        Recorded (Ev.LANE.LANE_DOWN l.val) s.chip t ∧ LaneFrame l.val s.chip t)) ∧
  (∀ (s : State) (l : Fin 16),
    (s.chip.chkRuns l.val = true → s.chip.flag (Reg.LANE.CHK_STAT.CHK_LOCK l.val) = false →
      Answers (.chkLock l) s fun t => t.flag (Reg.LANE.CHK_STAT.CHK_LOCK l.val) = true ∧ Recorded (Ev.LANE.CHK_LOCK_CHANGE l.val) s.chip t ∧
        LaneFrame l.val s.chip t) ∧
    (∀ bits errs, s.chip.flag (Reg.LANE.CHK_STAT.CHK_LOCK l.val) = true →
      Answers (.chkLockLoss l bits errs) s fun t => t.flag (Reg.LANE.CHK_STAT.CHK_LOCK l.val) = false ∧
        t.getPair (Reg.LANE.CHK_BITS_LO.addr l.val) = (s.chip.getPair (Reg.LANE.CHK_BITS_LO.addr l.val) + bits) % 2 ^ 64 ∧
        t.getPair (Reg.LANE.CHK_ERRS_LO.addr l.val) = (s.chip.getPair (Reg.LANE.CHK_ERRS_LO.addr l.val) + errs) % 2 ^ 64 ∧
        Recorded (Ev.LANE.CHK_LOCK_CHANGE l.val) s.chip t ∧ LaneFrame l.val s.chip t) ∧
    (∀ bits errs, Answers (.chkClr l bits errs) s fun t => t.getPair (Reg.LANE.CHK_BITS_LO.addr l.val) = 0 ∧
        t.getPair (Reg.LANE.CHK_ERRS_LO.addr l.val) = 0 ∧ LaneFrame l.val s.chip t) ∧
    (s.chip.laneState l.val = 5 → (s.chip.laneOf l.val).ones + (s.chip.laneOf l.val).onesAfter < 255 → (s.chip.laneOf l.val).burst = 0 →
      Answers (.injOne l) s fun t => (t.laneOf l.val).ones = (s.chip.laneOf l.val).ones + 1 ∧ t.regs = s.chip.regs ∧ LaneFrame l.val s.chip t) ∧
    (s.chip.laneState l.val = 5 → (s.chip.laneOf l.val).burst = 0 →
      Answers (.injBurst l) s fun t => (t.laneOf l.val).burst = s.chip.getF (Reg.LANE.INJ_CTRL.BURST_LEN l.val) + 1 ∧ t.regs = s.chip.regs ∧
        LaneFrame l.val s.chip t))

/-- The client ports and the cross-connect (R243 to R246, R250, R255, R256): a disagreement of the MSI that still holds sets MSIM with its event; the
egress action of a port starts while a cause holds and ends once none does, ingress replacement likewise; a codeword of an enabled port is counted,
and its status follows. -/
def Obligations.ClientPorts : Prop :=
  ∀ (s : State) (p : Fin 16),
    (∀ k : Fin 32, (xcEntry s.chip.act k.val).en = true →
      s.chip.flag (Reg.FRM.PT_STAT.PT_VALID (xcEntry s.chip.act k.val).carrier (xcEntry s.chip.act k.val).trail) = true →
      s.chip.msiAgrees (xcEntry s.chip.act k.val).carrier (xcEntry s.chip.act k.val).trail k.val (xcEntry s.chip.act k.val).mask = false →
      s.chip.flag (Reg.XC.XC_TRIB_STAT.MSIM k.val) = false →
      Answers (.msimTimer k false true) s fun t => t.flag (Reg.XC.XC_TRIB_STAT.MSIM k.val) = true ∧ Recorded Ev.XC.MSIM_CHANGE s.chip t ∧
        LineFrame s.chip t) ∧
    (s.chip.egressCauses p.val ≠ 0 → s.chip.flag (Reg.PORT.PORT_STAT.EGR_ACTING p.val) = false →
      Answers (.egressActionStart p) s fun t => t.flag (Reg.PORT.PORT_STAT.EGR_ACTING p.val) = true ∧ Recorded (Ev.PORT.EGR_ACT p.val) s.chip t ∧
        Quiet s.chip t) ∧
    (s.chip.egressCauses p.val = 0 → s.chip.flag (Reg.PORT.PORT_STAT.EGR_ACTING p.val) = true →
      Answers (.egressActionEnd p) s fun t => t.flag (Reg.PORT.PORT_STAT.EGR_ACTING p.val) = false ∧ Recorded (Ev.PORT.EGR_ACT p.val) s.chip t ∧
        Quiet s.chip t) ∧
    (s.chip.ingressCause p.val = true → s.chip.flag (Reg.PORT.PORT_STAT.ING_REPL p.val) = false →
      Answers (.ingReplStart p) s fun t => t.flag (Reg.PORT.PORT_STAT.ING_REPL p.val) = true ∧ Recorded (Ev.PORT.ING_REPL p.val) s.chip t ∧
        Quiet s.chip t) ∧
    (s.chip.ingressCause p.val = false → s.chip.flag (Reg.PORT.PORT_STAT.ING_REPL p.val) = true →
      Answers (.ingReplEnd p) s fun t => t.flag (Reg.PORT.PORT_STAT.ING_REPL p.val) = false ∧ Recorded (Ev.PORT.ING_REPL p.val) s.chip t ∧
        Quiet s.chip t) ∧
    (∀ w : ClientRx, s.chip.flag (Reg.PORT.PORT_STAT.EN_ACTIVE p.val) = true →
      Answers (.clientCodewordRx p w) s fun t =>
        t.getPair (Reg.PORT.FEC_CW_LO.addr p.val) = (s.chip.getPair (Reg.PORT.FEC_CW_LO.addr p.val) + 1) % 2 ^ 64 ∧
        t.getPair (Reg.PORT.FEC_UNCORR_LO.addr p.val) = (s.chip.getPair (Reg.PORT.FEC_UNCORR_LO.addr p.val) + w.corrected.isNone.toNat) % 2 ^ 64 ∧
        t.flag (Reg.PORT.PORT_STAT.ALIGN p.val) = w.align ∧ t.flag (Reg.PORT.PORT_STAT.HI_BER p.val) = w.hiBer ∧
        KeptBut [0x05, 0x21, 0x22] [] s.chip t ∧ Elsewhere s.chip t)

/-! ## References and the DPLL -/

/-- The monitors of the reference slots (R263, R264, R267): a slot that loses its activity is disqualified with cause ACTIVITY (XTAL_FAIL while the
timing root is ROSC), its event and its count; a frequency window latches a slot's offset and disqualifies it beyond 12 ppm; a gross check makes a
slot with a valid source active and disqualifies an active one beyond 50 ppm; an active slot within 9.2 ppm qualifies; one that stays qualified for
WTR may be returned to. -/
def Obligations.ReferenceSlots : Prop :=
  ∀ (s : State) (r : Fin 8),
    let src := if s.chip.flag Reg.CLK.CLK_STAT.TIME_ROOT then 4 else 1
    (¬(r.val < 6 ∧ s.chip.refSource r.val = true) →
      Answers (.refActivityLoss r) s fun t => t.flag (Reg.TIM.REF_STAT.ACTIVE r.val) = false ∧ t.refOk r.val = false ∧
        t.getF (Reg.TIM.REF_STAT.DISQ_CAUSE r.val) = src ∧
        (s.chip.refOk r.val = true → Recorded Ev.TIM.QUAL_CHANGE s.chip t ∧
          t.getF (Reg.TIM.REF_DISQ_CNT.COUNT r.val) = (s.chip.getF (Reg.TIM.REF_DISQ_CNT.COUNT r.val) + 1) % 2 ^ 32) ∧ TimeFrame s.chip t) ∧
    (∀ (offs : List (Fin 8 × Int)) (v : Int), (offs.find? fun p => p.1 == r).map Prod.snd = some v →
      Answers (.fmonWindow offs) s fun t => t.getF (Reg.TIM.REF_FOFS.FOFS r.val) = unsgn 32 v ∧ t.flag (Reg.TIM.REF_STAT.FOFS_VALID r.val) = true ∧
        t.refOk r.val = (s.chip.refOk r.val && decide (v.natAbs ≤ 12000000)) ∧
        (s.chip.refOk r.val = true → t.refOk r.val = false → Recorded Ev.TIM.QUAL_CHANGE s.chip t) ∧ TimeFrame s.chip t) ∧
    (∀ offs : List (Fin 8 × Int), (offs.find? fun p => p.1 == r) = none →
      Answers (.fmonWindow offs) s fun t => t.flag (Reg.TIM.REF_STAT.FOFS_VALID r.val) = false ∧ t.refOk r.val = s.chip.refOk r.val ∧
        t.getF (Reg.TIM.REF_FOFS.FOFS r.val) = s.chip.getF (Reg.TIM.REF_FOFS.FOFS r.val)) ∧
    (∀ (edges : List (Fin 8)) (offs : List (Fin 8 × Int)), s.chip.refSource r.val = true → (r.val < 6 ∨ r ∈ edges) →
      Answers (.grossCheck edges offs) s fun t => t.flag (Reg.TIM.REF_STAT.ACTIVE r.val) = true ∧
        (∀ v, (offs.find? fun p => p.1 == r).map Prod.snd = some v →
          t.refOk r.val = (s.chip.refOk r.val && decide (v.natAbs ≤ 50000000))) ∧ TimeFrame s.chip t) ∧
    (s.chip.refOk r.val = false → s.chip.flag (Reg.TIM.REF_STAT.ACTIVE r.val) = true → s.chip.flag Reg.CLK.CLK_STAT.TIME_ROOT = false →
      (s.chip.flag (Reg.TIM.REF_STAT.FOFS_VALID r.val) = true → (s.chip.getS (Reg.TIM.REF_FOFS.FOFS r.val)).natAbs ≤ 9200000) →
      Answers (.refQualified r) s fun t => t.refOk r.val = true ∧ t.getF (Reg.TIM.REF_STAT.DISQ_CAUSE r.val) = 0 ∧
        Recorded Ev.TIM.QUAL_CHANGE s.chip t ∧ Tab.get 0 t.tim.qualAt r.val = s.chip.now ∧ TimeFrame s.chip t) ∧
    (s.chip.refOk r.val = true →
      Answers (.refWtrExpired r) s fun t => t.tim.wtrDone.testBit r.val = true ∧ t.refOk r.val = true ∧ TimeFrame s.chip t)

/-- The selector and the DPLL (R266 to R269): a write of SEL_CFG takes its fields, and FORCED_FREE_RUN leaves no reference and FREE_RUN; at the
commit point the selected reference is the switch's target, the switch is counted and occurs, and with that slot eligible and no reversion the switch
is over and the DPLL acquires, or keeps its lock; lock and its loss move it between ACQUIRING and LOCKED; a holdover of HO_TIMER seconds goes out of
specification. History, DCO and reference outputs (R271 to R274): a second in LOCKED counts and, with no switch in progress, joins the history, which
is valid once it is long enough; clearing it ends HOLDOVER in FREE_RUN; in DCO mode DCO_NOW moves toward its active target by at most DCO_SLEW, and
in FREE_RUN the output offset reads 0; a write of DCO_FREQ stays a shadow unless AUTO_COMMIT makes it active; a reference output takes its source and
its frequency within bounds. -/
def Obligations.ReferenceSelection : Prop :=
  (∀ s : State,
    let st := s.chip.getF Reg.TIM.DPLL_STAT.STATE
    (∀ (mode manRef : Fin 8) (revertive : Bool),
      Answers (.selCfgWrite mode manRef revertive) s fun t => t.getF Reg.TIM.SEL_CFG.MODE = mode.val ∧ t.getF Reg.TIM.SEL_CFG.MAN_REF = manRef.val ∧
        t.flag Reg.TIM.SEL_CFG.REVERTIVE = revertive ∧
        (mode.val = 3 → t.getF Reg.TIM.DPLL_STAT.STATE = 0 ∧ t.flag Reg.TIM.DPLL_STAT.SEL_VALID = false ∧ t.tim.target = none) ∧
        TimeFrame s.chip t) ∧
    (∀ r : Fin 8, s.chip.tim.target = some r.val →
      Answers .switchCommitPoint s fun t => t.getF Reg.TIM.DPLL_STAT.SEL_REF = r.val ∧ Recorded Ev.TIM.REF_SWITCH s.chip t ∧
        t.getF Reg.TIM.SW_COUNT.COUNT = (s.chip.getF Reg.TIM.SW_COUNT.COUNT + 1) % 2 ^ 32 ∧
        (s.chip.getF Reg.TIM.SEL_CFG.MODE < 2 → (s.chip.rd 0x001000F0).getLsbD 0 = false → s.chip.refEligible r.val = true →
          s.chip.flag Reg.TIM.SEL_CFG.REVERTIVE = false →
          t.flag Reg.TIM.DPLL_STAT.SEL_VALID = true ∧ t.flag Reg.TIM.DPLL_STAT.SWITCHING = false ∧ t.tim.target = none ∧
            t.getF Reg.TIM.DPLL_STAT.STATE = (if st = 2 then 2 else 1)) ∧ TimeFrame s.chip t) ∧
    (st = 1 → Answers .dpllLocked s fun t => t.getF Reg.TIM.DPLL_STAT.STATE = 2 ∧ t.bitOf Reg.TIM.DPLL_HIST.HIST 2 = true ∧
        t.getF Reg.TIM.LOCKED_TIME.SECS = 0 ∧ Recorded Ev.TIM.LOCKED s.chip t ∧ TimeFrame s.chip t) ∧
    (st = 2 → Answers .dpllLockLoss s fun t => t.getF Reg.TIM.DPLL_STAT.STATE = 1 ∧ t.bitOf Reg.TIM.DPLL_HIST.HIST 1 = true ∧
        t.getF Reg.TIM.LOCKED_TIME.SECS = 0 ∧ Recorded Ev.TIM.ACQUIRING s.chip t ∧ TimeFrame s.chip t) ∧
    (st = 3 → s.chip.getF Reg.TIM.HO_TIMER.TIMER ≠ 0 →
      Answers .holdoverOos s fun t => t.getF Reg.TIM.DPLL_STAT.STATE = 4 ∧ t.getF Reg.TIM.HO_ELAPSED.SECS = s.chip.getF Reg.TIM.HO_TIMER.TIMER ∧
        Recorded Ev.TIM.HOLDOVER_OOS s.chip t ∧ TimeFrame s.chip t)) ∧
  (∀ s : State,
    let now := s.chip.getS Reg.TIM.DCO_NOW.NOW
    let gap := sgn 32 (s.chip.actF Reg.TIM.DCO_FREQ.TARGET) - now
    let slew := s.chip.getF Reg.TIM.DCO_SLEW.SLEW
    (∀ ppt : Int, s.chip.getF Reg.TIM.DPLL_STAT.STATE = 2 →
      Answers (.historyRecord ppt) s fun t => t.getF Reg.TIM.LOCKED_TIME.SECS = min (s.chip.getF Reg.TIM.LOCKED_TIME.SECS + 1) (2 ^ 32 - 1) ∧
        t.tim.history = (if s.chip.flag Reg.TIM.DPLL_STAT.SWITCHING then s.chip.tim.history else (ppt :: s.chip.tim.history).take 3615) ∧
        (max 300 (s.chip.hoAvg + s.chip.getF Reg.TIM.HO_CFG.HO_GUARD) ≤ t.getF Reg.TIM.LOCKED_TIME.SECS →
          t.flag Reg.TIM.DPLL_STAT.HIST_VALID = true) ∧ t.getF Reg.TIM.DPLL_STAT.STATE = 2 ∧ TimeFrame s.chip t) ∧
    Answers .histClr s (fun t => t.flag Reg.TIM.DPLL_STAT.HIST_VALID = false ∧ t.tim.history = [] ∧
        (s.chip.getF Reg.TIM.DPLL_STAT.STATE = 3 → t.getF Reg.TIM.DPLL_STAT.STATE = 0) ∧ TimeFrame s.chip t) ∧
    (∀ fofs : Int, s.chip.selMode = 4 →
      Answers (.dcoSlewStep fofs) s fun t =>
        t.getS Reg.TIM.DCO_NOW.NOW = (if slew = 0 ∨ gap.natAbs ≤ slew then now + gap else if gap < 0 then now - slew else now + slew) ∧
        t.getS Reg.TIM.DPLL_FOFS.FOFS = t.getS Reg.TIM.DCO_NOW.NOW ∧ TimeFrame s.chip t) ∧
    (∀ fofs : Int, s.chip.selMode ≠ 4 → s.chip.getF Reg.TIM.DPLL_STAT.STATE = 0 →
      Answers (.dcoSlewStep fofs) s fun t => t.getF Reg.TIM.DPLL_FOFS.FOFS = 0 ∧ Kept [Reg.TIM.DPLL_FOFS.FOFS] s.chip t ∧ Quiet s.chip t) ∧
    (∀ v : Word, s.chip.flag Reg.TIM.DCO_CTRL.AUTO_COMMIT = false →
      Answers (.dcoFreqWrite v) s fun t => t.rd Reg.TIM.DCO_FREQ.addr = v ∧ Kept [Reg.TIM.DCO_FREQ.TARGET] s.chip t ∧ Quiet s.chip t) ∧
    (∀ v : Word, s.chip.flag Reg.TIM.DCO_CTRL.AUTO_COMMIT = true →
      Answers (.dcoFreqWrite v) s fun t => t.rd Reg.TIM.DCO_FREQ.addr = v ∧ t.act Reg.TIM.DCO_FREQ.addr = v ∧
        (∀ a, a ≠ Reg.TIM.DCO_FREQ.addr → t.act a = s.chip.act a) ∧ t.tim = s.chip.tim ∧ Elsewhere s.chip t) ∧
    (∀ o : Fin 2, Answers (.refoutChange o) s fun t =>
        Tab.get (0, 10000) t.tim.refout o.val =
          (if 8 < s.chip.getF (Reg.TIM.REFOUT_CFG.SRC o.val) then 0 else s.chip.getF (Reg.TIM.REFOUT_CFG.SRC o.val),
            min 800000 (max 8 (s.chip.getF (Reg.TIM.REFOUT_FREQ.KHZ o.val)))) ∧
        (∀ x, x ≠ o.val → Tab.get (0, 10000) t.tim.refout x = Tab.get (0, 10000) s.chip.tim.refout x) ∧ t = { s.chip with tim := t.tim }))

/-! ## Wellspring time, Tamust and ripples -/

/-- Wellspring time (R280 to R284, R293): a capture takes the time; an adjustment within STEP_THR joins the slew and a larger one steps with
TIME_STEP; an edge of a PPS input latches its distance from the whole second, whole in ps, and its second edge makes the selected source valid, which
starts acquiring; without edges, or without exchanges, the source in use is lost to HOLDOVER; PPSOUT rises. Fixed latency (R304, R305): enabled, the
bounds of each trail of the carrier read as computed, and disabled they read 0; a half that reaches its bound is held, with FL_CHANGE after a move; a
slip of a half that is held counts.
Where the rules leave a choice, the model's stands: log entries 6, 16. -/
def Obligations.WellspringTime : Prop :=
  (∀ s : State, let w := s.chip.wst
    let st := s.chip.getF Reg.WST.TIME_STAT.STATE
    Answers .capture s (fun t => t.getF Reg.WST.CAP_SEC_LO.SEC = w.sec % 2 ^ 32 ∧ t.getF Reg.WST.CAP_SEC_HI.SEC = w.sec / 2 ^ 32 % 2 ^ 16 ∧
        t.getF Reg.WST.CAP_NS.NS = w.t16 / 65536 % 2 ^ 30 ∧ t.getF Reg.WST.CAP_FRAC.FRAC = w.t16 % 65536 ∧
        Kept [Reg.WST.CAP_SEC_LO.SEC, Reg.WST.CAP_SEC_HI.SEC, Reg.WST.CAP_NS.NS, Reg.WST.CAP_FRAC.FRAC] s.chip t ∧ Quiet s.chip t) ∧
    (∀ v : Word, (sgn 32 v.toNat).natAbs ≤ s.chip.getF Reg.WST.SLEW_CFG.STEP_THR * 1000 →
      Answers (.phaseAdj v) s fun t => t = { s.chip with wst := { w with slew := w.slew + sgn 32 v.toNat * 65536 } }) ∧
    (∀ v : Word, s.chip.getF Reg.WST.SLEW_CFG.STEP_THR * 1000 < (sgn 32 v.toNat).natAbs →
      Answers (.phaseAdj v) s fun t => (t.wstNow : Int) = ((s.chip.wstNow : Int) + sgn 32 v.toNat * 65536) % (2 ^ 48 * secT16 : Nat) ∧
        Recorded Ev.WST.TIME_STEP s.chip t ∧ KeptBut [0x05, 0x07, 0x15, 0x1D] [] s.chip t ∧ Elsewhere s.chip t) ∧
    (∀ i : Fin 2,
      (∀ (n : Nat) (e : Int), e.natAbs < 2 ^ 31 →
        (s.chip.wstFine : Int) - ((s.chip.getF (Reg.WST.PPSIN_DLY.PS i.val) * 65536 : Nat) : Int) = (n * (secT16 * 1000) : Nat) + e * 65536 →
        Answers (.ppsEdge i) s fun t => t.getS (Reg.WST.PPSIN_ERR.PS i.val) = e ∧ t.wst.ppsSeen.testBit i.val = true ∧
          (s.chip.timeSrc ≠ i.val + 1 → t.wstNow = s.chip.wstNow ∧ t.wst.slew = w.slew) ∧
          KeptBut [0x05, 0x07, 0x15, 0x1D] [] s.chip t ∧ Elsewhere s.chip t) ∧
      (s.chip.timeSrc = i.val + 1 → st = 0 → w.ppsSeen.testBit i.val = true →
        Answers (.ppsEdge i) s fun t => t.wst.ppsValid.testBit i.val = true ∧ t.getF Reg.WST.TIME_STAT.STATE = 1 ∧
          Recorded Ev.WST.STATE_CHANGE s.chip t) ∧
      (s.chip.timeSrc = i.val + 1 → (st = 1 ∨ st = 2) →
        Answers (.ppsTimeout i) s fun t => t.wst.ppsSeen.testBit i.val = false ∧ t.wst.ppsValid.testBit i.val = false ∧
          t.getF Reg.WST.TIME_STAT.STATE = 3 ∧ Recorded Ev.WST.STATE_CHANGE s.chip t ∧ TimeFrame s.chip t)) ∧
    (s.chip.timeSrc = 3 → (st = 1 ∨ st = 2) →
      Answers .ttSourceTimeout s fun t => t.wst.ttValid = false ∧ t.getF Reg.WST.TIME_STAT.STATE = 3 ∧ t.getF Reg.WST.GM_STAT.GM = 0x3FFF ∧
        Recorded Ev.WST.STATE_CHANGE s.chip t ∧ TimeFrame s.chip t) ∧
    (s.chip.flag Reg.WST.PPSOUT_CFG.EN = true →
      Answers .ppsoutPulse s fun t => t.ppsOut = true ∧ t = { s.chip with wst := { w with ppsRise := some s.chip.now } })) ∧
  (∀ (s : State) (c : Carrier),
    Answers (.flEnable c) s (fun t => t.bitOf ⟨Reg.WST.FL_CFG.addr, 0, 2⟩ c.ix = true ∧
      (∀ k : Fin 16, t.getF (Reg.WST.FL_TX.PS c.ix k.val) = (t.flBounds c k.val).1 % 2 ^ 32 ∧
        t.getF (Reg.WST.FL_RX.PS c.ix k.val) = (t.flBounds c k.val).2 % 2 ^ 32) ∧ TimeFrame s.chip t) ∧
    Answers (.flDisable c) s (fun t => t.bitOf ⟨Reg.WST.FL_CFG.addr, 0, 2⟩ c.ix = false ∧
      (∀ k : Fin 16, t.getF (Reg.WST.FL_TX.PS c.ix k.val) = 0 ∧ t.getF (Reg.WST.FL_RX.PS c.ix k.val) = 0 ∧
        (s.chip.getF (Reg.WST.FL_TX.PS c.ix k.val) ≠ 0 → t.flag (Reg.WST.FL_FLAGS.TX_HELD c.ix k.val) = false) ∧
        (s.chip.getF (Reg.WST.FL_RX.PS c.ix k.val) ≠ 0 → t.flag (Reg.WST.FL_FLAGS.RX_HELD c.ix k.val) = false)) ∧ TimeFrame s.chip t) ∧
    (∀ (k : Fin 16) (rx : Bool),
      let held := if rx then Reg.WST.FL_FLAGS.RX_HELD c.ix k.val else Reg.WST.FL_FLAGS.TX_HELD c.ix k.val
      let half := Tab.get {} s.chip.wst.fl (16 * c.ix + k.val)
      (s.chip.getF (if rx then Reg.WST.FL_RX.PS c.ix k.val else Reg.WST.FL_TX.PS c.ix k.val) ≠ 0 → s.chip.flag held = false →
        Answers (.flHeld c k rx) s fun t => t.flag held = true ∧
          ((if rx then half.rxMoved else half.txMoved) = true → Recorded Ev.WST.FL_CHANGE s.chip t) ∧
          Kept [held, evtBit Ev.WST.FL_CHANGE] s.chip t) ∧
      (s.chip.flag held = true →
        Answers (.flSlip c k rx) s fun t =>
          t.getF (Reg.WST.FL_SLIP_CNT.COUNT c.ix k.val) = (s.chip.getF (Reg.WST.FL_SLIP_CNT.COUNT c.ix k.val) + 1) % 2 ^ 32 ∧
          Recorded Ev.WST.FL_SLIP s.chip t ∧ Kept [Reg.WST.FL_SLIP_CNT.COUNT c.ix k.val, evtBit Ev.WST.FL_SLIP] s.chip t ∧ Quiet s.chip t)))

/-- Messages (R286 to R293, R301): bytes that spell no message are counted in RX_BAD, a HELLO from the peer goes to the receive ring and names the
peer, and a message that has travelled 64 hops is dropped; a TIME message waits for its turn with the next sequence number, a HELLO carries node ID,
port and serial; a first good exchange of the selected port is accepted, and a message from a peer that is not synced is stale and ends the source's
validity.
Where the rules leave a choice, the model's stands: log entry 46. -/
def Obligations.TamustMessages : Prop :=
  ∀ (s : State) (p : Fin 32), let w := s.chip.wst
    (∀ bytes aborted route, s.chip.flag (Reg.WST.TT_PORT_CFG.EN p.val) = true → (if aborted then none else TtMsg.parse bytes) = none →
      Answers (.tamustMsgRx p bytes aborted route) s fun t =>
        t.getF Reg.WST.RX_BAD.COUNT = (s.chip.getF Reg.WST.RX_BAD.COUNT + 1) % 2 ^ 32 ∧ Kept [Reg.WST.RX_BAD.COUNT] s.chip t ∧ Quiet s.chip t) ∧
    (∀ bytes route m, s.chip.flag (Reg.WST.TT_PORT_CFG.EN p.val) = true → TtMsg.parse bytes = some m → m.type = 0 → m.bcast = true → m.hops = 0 →
      Answers (.tamustMsgRx p bytes false route) s fun t => t.wst.ring = w.ring ++ [(p.val, m)] ∧ Tab.get 0x10000 t.wst.peers p.val = m.src ∧
        t.getF Reg.WST.RX_BAD.COUNT = s.chip.getF Reg.WST.RX_BAD.COUNT ∧ TimeFrame s.chip t) ∧
    (∀ bytes route m, s.chip.flag (Reg.WST.TT_PORT_CFG.EN p.val) = true → TtMsg.parse bytes = some m → 64 ≤ m.hops →
      Answers (.tamustMsgRx p bytes false route) s fun t => t.wst = w ∧ KeptBut [0x05] [] s.chip t ∧ Quiet s.chip t) ∧
    (s.chip.flag (Reg.WST.TT_PORT_CFG.TIME_EN p.val) = true → s.chip.flag (Reg.WST.TT_PORT_CFG.EN p.val) = true →
      Answers (.timeMsgTx p) s fun t =>
        (∃ m : TtMsg, (t.portOf p.val).time = (s.chip.portOf p.val).time ++ [m] ∧ m.type = 1 ∧ m.hops = 0 ∧ m.src = s.chip.nodeId ∧
          m.seq = Tab.get 0 w.seqs 1) ∧
        Tab.get 0 t.wst.seqs 1 = (Tab.get 0 w.seqs 1 + 1) % 256 ∧ t = { s.chip with wst := t.wst }) ∧
    (s.chip.flag (Reg.WST.TT_PORT_CFG.EN p.val) = true →
      Answers (.helloTx p) s fun t =>
        (∃ m : TtMsg, (t.portOf p.val).ring = (s.chip.portOf p.val).ring ++ [m] ∧ m.type = 0 ∧ m.bcast = true ∧ m.src = s.chip.nodeId ∧
          m.payload = bytesMsb 2 s.chip.nodeId ++ [p.val] ++ bytesMsb 8 s.chip.fuse.serial) ∧
        Tab.get 0 t.wst.seqs 0 = (Tab.get 0 w.seqs 0 + 1) % 256 ∧ t = { s.chip with wst := t.wst }) ∧
    (∀ l : List Nat, s.chip.timeSrc = 3 → s.chip.getF Reg.WST.TIME_CFG.TT_PORT = p.val → l.length = 36 →
      ((l.getD 35 0).testBit 0 = false →
        Answers (.timeMsgRx p l) s fun t => t.getF Reg.WST.TT_STALE.COUNT = (s.chip.getF Reg.WST.TT_STALE.COUNT + 1) % 2 ^ 32 ∧
          t.wst.ttValid = false ∧ t.getF Reg.WST.EXCH_CNT.COUNT = s.chip.getF Reg.WST.EXCH_CNT.COUNT ∧ TimeFrame s.chip t) ∧
      ((l.getD 35 0).testBit 0 = true → (l.getD 35 0).testBit 2 = true → w.pdLoaded = false →
        (stampOf (s.chip.portOf p.val).rxStamps (ofBytes (l.take 4))).isSome = true →
        (stampOf (s.chip.portOf p.val).txStamps (ofBytes ((l.drop 16).take 4))).isSome = true →
        Answers (.timeMsgRx p l) s fun t => t.getF Reg.WST.EXCH_CNT.COUNT = (s.chip.getF Reg.WST.EXCH_CNT.COUNT + 1) % 2 ^ 32 ∧
          t.wst.ttValid = true ∧ t.wst.pdLoaded = true ∧ t.wst.peerGm = ofBytes ((l.drop 32).take 2) % 16384 ∧ t.wst.peerHops = l.getD 34 0 ∧
          t.getF Reg.WST.TT_STALE.COUNT = s.chip.getF Reg.WST.TT_STALE.COUNT ∧ Elsewhere s.chip t))

/-- Ripple slots (R295, R296, R298 to R300): arming with a good instant arms the slot and clears its flags, an armed slot answers RIP_BUSY, a bad
setting is refused; disarming returns it to IDLE; firing records the time, counts, and leaves a one-shot slot DONE and a periodic one armed for its
next instant; the actions of an edge write the GPIO levels, and one at an island that is down is dropped with its flag.
Where the rules leave a choice, the model's stands: log entry 47. -/
def Obligations.RippleSlots : Prop :=
  ∀ (s : State) (k : Fin 64),
    let per := s.chip.getPair (Reg.WST.RIP_PERIOD_LO.addr k.val)
    let bad := 999999999 < s.chip.getF (Reg.WST.RIP_NS.NS k.val) ∨ s.chip.ripInstant k.val < s.chip.wstNow + 1000 * 65536 ∨ (0 < per ∧ per < 1000)
    (s.chip.ripArmed k.val = false → ¬bad →
      Answers (.arm k) s fun t => t.ripArmed k.val = true ∧ t.getF (Reg.WST.RIP_STAT.LATE k.val) = 0 ∧ t.getF (Reg.WST.RIP_STAT.DROP k.val) = 0 ∧
        t.getF (Reg.WST.DROP_ISL.ISL k.val) = 0 ∧ t.wst.late.testBit k.val = false ∧
        Kept [Reg.WST.RIP_STAT.STATE k.val, Reg.WST.RIP_STAT.LATE k.val, Reg.WST.RIP_STAT.DROP k.val, Reg.WST.DROP_ISL.ISL k.val] s.chip t) ∧
    (s.chip.ripArmed k.val = true →
      Answers (.arm k) s fun t => Recorded Ev.WST.RIP_BUSY s.chip t ∧ Kept [evtBit Ev.WST.RIP_BUSY] s.chip t ∧ Quiet s.chip t) ∧
    (s.chip.ripArmed k.val = false → bad →
      Answers (.arm k) s fun t => Recorded Ev.WST.ARM_REFUSED s.chip t ∧ Kept [evtBit Ev.WST.ARM_REFUSED] s.chip t ∧ Quiet s.chip t) ∧
    (s.chip.ripArmed k.val = true →
      Answers (.disarm k) s fun t => t.getF (Reg.WST.RIP_STAT.STATE k.val) = 0 ∧ Kept [Reg.WST.RIP_STAT.STATE k.val] s.chip t ∧ Quiet s.chip t) ∧
    (s.chip.ripArmed k.val = true → s.chip.wst.running = true → s.chip.ripInstant k.val ≤ s.chip.wstNow →
      Answers (.rippleFired k) s fun t => t.getF (Reg.WST.FIRED_SEC_LO.SEC k.val) = s.chip.wstNow / secT16 % 2 ^ 32 ∧
        t.getF (Reg.WST.FIRED_NS.NS k.val) = s.chip.wstNow % secT16 / 65536 % 2 ^ 30 ∧ t.getF (Reg.WST.FIRED_FRAC.FRAC k.val) = s.chip.wstNow % 65536 ∧
        t.getF (Reg.WST.RIP_STAT.FIRE_CNT k.val) = (s.chip.getF (Reg.WST.RIP_STAT.FIRE_CNT k.val) + 1) % 2 ^ 16 ∧
        Recorded Ev.WST.RIPPLE_FIRED s.chip t ∧ (∃ d : DueRipple, d.slot = k.val ∧ t.wst.due = s.chip.wst.due ++ [d]) ∧
        (per = 0 → t.getF (Reg.WST.RIP_STAT.STATE k.val) = 2) ∧
        (per ≠ 0 → t.ripArmed k.val = true ∧
          (s.chip.ripInstant k.val + ((s.chip.wstNow - s.chip.ripInstant k.val) / (per * 65536) + 1) * (per * 65536) < 2 ^ 48 * secT16 →
            t.ripInstant k.val = s.chip.ripInstant k.val + ((s.chip.wstNow - s.chip.ripInstant k.val) / (per * 65536) + 1) * (per * 65536))) ∧
        TimeFrame s.chip t) ∧
    (∀ d : DueRipple, d.slot = k.val → s.chip.wst.due = [d] →
      (d.act = 128 → Answers .rippleAction s fun t => t.wst.due = [] ∧
          (∀ g, g < 16 → t.bitOf Reg.TOP.GPIO_OUT.LEVEL g =
            (if (d.gpio / 65536).testBit g then d.gpio.testBit g else s.chip.bitOf Reg.TOP.GPIO_OUT.LEVEL g)) ∧
          Kept [Reg.TOP.GPIO_OUT.LEVEL] s.chip t) ∧
      (d.act = 2 → s.chip.islDown 0 = true →
        Answers .rippleAction s fun t => t.wst.due = [] ∧ t.getF (Reg.WST.RIP_STAT.DROP k.val) = 1 ∧ t.bitOf (Reg.WST.DROP_ISL.ISL k.val) 0 = true ∧
          Recorded Ev.WST.RIPPLE_DROP s.chip t ∧
          Kept [Reg.WST.RIP_STAT.DROP k.val, Reg.WST.DROP_ISL.ISL k.val, evtBit Ev.WST.RIPPLE_DROP] s.chip t))

/-- Domain ripples and grants (R157, R288, R301 to R303, R388): a submission is refused with its status or armed at this device and noted as its
origin; a cancellation disarms the origin's own slot while 1 ms remains; the answers are reported and counted; a scheduled ripple from another device
takes an idle slot, and its cancellation frees it; a grant for this leaf sets its node ID and commits its carrier's group.
Where the rules leave a choice, the model's stands: log entries 45, 46. -/
def Obligations.DomainRipples : Prop :=
  ∀ (s : State) (core : Fin 4),
    let a := s.chip.mboxWord
    let at_ := (a 1 + a 2 % 2 ^ 16 * 2 ^ 32) * secT16 + a 3 * 65536 + a 4 % 65536
    let answered := fun (status : Nat) (t : Chip) => t.getF Reg.MGMT.H2F_STAT.STATUS = status ∧ t.flag Reg.MGMT.H2F_STAT.BUSY = false ∧
      t.mgmt.mbox = none ∧ Recorded Ev.MGMT.MBOX_DONE s.chip t
    let own := fun (k : Nat) => k < 64 ∧ s.chip.ripArmed k = true ∧ s.chip.wstNow + 1000000 * 65536 ≤ s.chip.ripInstant k
    (s.chip.mboxIs (fun o => o == 0x10) = true →
      (s.chip.flag Reg.WST.NODE_ID.VALID = false →
        Answers (.domRipple core) s fun t => answered 5 t ∧ t.wst = s.chip.wst ∧ KeptBut [0x04, 0x05] [] s.chip t) ∧
      (∀ k, s.chip.flag Reg.WST.NODE_ID.VALID = true → a 3 ≤ 999999999 → s.chip.wstNow + 50000000 * 65536 ≤ at_ → s.chip.freeSlot = some k →
        Answers (.domRipple core) s fun t => answered 0 t ∧ t.ripArmed k = true ∧ t.ripInstant k = at_ ∧
          t.getF (Reg.WST.RIP_ACT.ACT k) = a 5 % 256 ∧ t.getF (Reg.WST.RIP_GROUPS.GROUPS k) = a 6 ∧
          (∃ o, t.originOf (a 0 % 65536) = some o ∧ o.slot = some k ∧ o.at_ = at_ ∧ o.armed = 0) ∧ KeptBut [0x04, 0x05, 0x07] [] s.chip t)) ∧
    (∀ o k, s.chip.mboxIs (fun o => o == 0x11) = true → s.chip.originOf (a 0 % 65536) = some o → o.slot = some k → own k →
      Answers (.domCancel core) s fun t => answered 0 t ∧ t.getF (Reg.WST.RIP_STAT.STATE k) = 0 ∧ KeptBut [0x04, 0x05, 0x07] [] s.chip t) ∧
    (∀ o, s.chip.mboxIs (fun o => o == 0x12) = true → s.chip.originOf (a 0 % 65536) = some o →
      Answers (.domStatus core) s fun t => answered 0 t ∧ t.mboxWord 0 = o.armed % 2 ^ 32 ∧ t.mboxWord 1 = o.late % 2 ^ 32 ∧
        t.mboxWord 2 = o.noSlot % 2 ^ 32 ∧ t.mboxWord 3 = o.cancelled % 2 ^ 32 ∧ t.wst = s.chip.wst) ∧
    (∀ p m k, s.chip.wst.ring.find? (fun x => x.2.type == 3 && x.2.payload.length == 25) = some (p, m) →
      let id := ofBytes (m.payload.take 2)
      let origin := ofBytes ((m.payload.drop 2).take 2)
      let t0 := instantOf (m.payload.drop 4)
      (s.chip.wst.dom.any fun x => x.1 == origin && x.2.1 == id) = false → s.chip.wstNow + 1000000 * 65536 ≤ t0 → t0 < 2 ^ 48 * secT16 →
      s.chip.freeSlot = some k →
      Answers .rippleSched s fun t => t.wst.ring = s.chip.wst.ring.erase (p, m) ∧ t.ripArmed k = true ∧ t.ripInstant k = t0 ∧
        (origin, id, some k) ∈ t.wst.dom ∧ TimeFrame s.chip t) ∧
    (∀ p m x k, s.chip.wst.ring.find? (fun x => x.2.type == 5 && x.2.payload.length == 4) = some (p, m) →
      s.chip.wst.dom.find? (fun y => y.1 == ofBytes (m.payload.drop 2) && y.2.1 == ofBytes (m.payload.take 2)) = some x → x.2.2 = some k → own k →
      Answers .rippleCancel s fun t => t.wst.ring = s.chip.wst.ring.erase (p, m) ∧ t.getF (Reg.WST.RIP_STAT.STATE k) = 0 ∧
        (x.1, x.2.1, none) ∈ t.wst.dom ∧ TimeFrame s.chip t) ∧
    (∀ p m, s.chip.wst.ring.find? (fun x => x.2.type == 4 && x.2.payload.length == 5) = some (p, m) →
      ofBytes ((m.payload.drop 2).take 2) = s.chip.nodeId →
      Answers .rippleAck s fun t => t.wst.origin = s.chip.wst.origin.map (fun o =>
          if o.id = ofBytes (m.payload.take 2) then o.count (m.payload.getD 4 4) else o) ∧ t.regs = s.chip.regs) ∧
    (∀ p m, s.chip.wst.ring.find? (fun x => x.2.type == 6 && x.2.payload.length == 14) = some (p, m) →
      ofBytes (m.payload.take 8) = s.chip.getPair (Reg.SUBC.INLET_SERIAL_LO.addr (Carrier.ofBit (p / 16))) →
      let node := ofBytes ((m.payload.drop 8).take 2) % 16384
      Answers .grant s fun t => t.wst.ring = s.chip.wst.ring.erase (p, m) ∧ t.getF Reg.WST.NODE_ID.ID = node ∧
        t.flag Reg.WST.NODE_ID.VALID = decide (node ≠ 0x3FFF) ∧
        t.getF Reg.TOP.COMMIT_LAST.GROUPS = 2 ^ (2 + (Carrier.ofBit (p / 16)).ix))

/-! ## Protection -/

/-- Operator commands (R316): CLEAR removes them all; LO, FS, MS and MS_W are taken where no higher request is in effect, give their request unless a
condition or command above them stands, and select their member unless the selection is frozen or the far end asks for more; a command below the
request in effect is rejected. Degrade windows, timers, switches and the selector's own faults (R314, R317, R318, R329, R332, R334): the fast
criterion follows the window; a condition whose hold-off ends is taken while it is present; WTR ends in NR; a switch that is due takes the decided
member and is counted; a miscompare freezes the selection and an unfreeze ends that; a pop takes the head off the lost-range queue and shows the
next. -/
def Obligations.Protection : Prop :=
  (∀ (s : State) (g : Fin 16), s.chip.pgOn g.val = true →
    let v := s.chip.pgOf g.val
    let req := s.chip.getF (Reg.PROT.PG_STAT.REQ g.val)
    let selects := fun (code : Nat) (p : Bool) (t : Chip) => t.getF (Reg.PROT.PG_STAT.REQ g.val) = code ∧
      (s.chip.flag Reg.PROT.PROT_STAT.FROZEN = false → (s.chip.pgFar g.val).1 < code → (t.pgOf g.val).decided = p)
    let calm := fun (t : Chip) => v.lo = false ∧ v.fs = false ∧ t.getF (Reg.PROT.PG_STAT.COND g.val) = 0
    Answers (.cmdClear g) s (fun t => (t.pgOf g.val).lo = false ∧ (t.pgOf g.val).fs = false ∧ (t.pgOf g.val).ms = false ∧
      (t.pgOf g.val).msW = false ∧ LineFrame s.chip t) ∧
    Answers (.cmdLo g) s (fun t => (t.pgOf g.val).lo = true ∧ selects 0xF false t ∧ LineFrame s.chip t) ∧
    (req ≤ 0xD → Answers (.cmdFs g) s fun t => (t.pgOf g.val).fs = true ∧
      (v.lo = false → t.flag (Reg.PROT.PG_STAT.SF_P g.val) = false → selects 0xD true t) ∧ LineFrame s.chip t) ∧
    (req ≤ 7 → Answers (.cmdMs g) s fun t =>
      (calm t → (t.pgOf g.val).ms = true ∧ (t.pgOf g.val).msW = false ∧ selects 7 true t) ∧ LineFrame s.chip t) ∧
    (req ≤ 7 → Answers (.cmdMsW g) s fun t =>
      (calm t → (t.pgOf g.val).ms = false ∧ (t.pgOf g.val).msW = true ∧ selects 7 false t) ∧ LineFrame s.chip t) ∧
    (∀ i code, (i, code) ∈ [(Instr.cmdFs g, 0xD), (Instr.cmdMs g, 7), (Instr.cmdMsW g, 7)] → code < req →
      Answers i s fun t => Recorded Ev.PROT.CMD_REJECT s.chip t ∧ t.bitOf Reg.PROT.PROT_EVT_PG.PG g.val = true ∧ t.pg = s.chip.pg ∧
        Kept [evtBit Ev.PROT.CMD_REJECT, Reg.PROT.PROT_EVT_PG.PG] s.chip t ∧ Quiet s.chip t)) ∧
  (∀ (s : State) (g : Fin 16),
    let v := s.chip.pgOf g.val
    (∀ nW nP, s.chip.pgOn g.val = true →
      let thr := max 1 (s.chip.getF (Reg.PROT.SD_CFG.SD_THR g.val))
      Answers (.sdWindow g nW nP) s fun t => (t.pgOf g.val).fastW = decide (thr ≤ nW) ∧ (t.pgOf g.val).fastP = decide (thr ≤ nP) ∧
        LineFrame s.chip t) ∧
    (∀ k : Fin 4, s.chip.pgOn g.val = true → v.hold.testBit k.val = true → v.raw.testBit k.val = true →
      Answers (.holdOffExpired g k) s fun t => (t.pgOf g.val).hold.testBit k.val = false ∧
        ((t.pgOf g.val).raw.testBit k.val = true → t.bitOf (Reg.PROT.PG_STAT.COND g.val) k.val = true) ∧ LineFrame s.chip t) ∧
    (s.chip.pgOn g.val = true → v.wtr = true → s.chip.getF (Reg.PROT.PG_STAT.REQ g.val) = 5 →
      Answers (.wtrExpired g) s fun t => (t.pgOf g.val).wtr = false ∧
        (v.lo = false → v.fs = false → v.ms = false → v.msW = false → v.dnr = false → t.getF (Reg.PROT.PG_STAT.COND g.val) = 0 →
          t.getF (Reg.PROT.PG_STAT.REQ g.val) = 0) ∧ LineFrame s.chip t) ∧
    (∀ last, s.chip.switchDue g.val = true → s.chip.top.deferGroups = 0 →
      Answers (.switch g last) s fun t => t.flag (Reg.PROT.PG_STAT.ACTIVE g.val) = v.decided ∧
        t.getF (Reg.PROT.SWITCH_CNT.COUNT g.val) = (s.chip.getF (Reg.PROT.SWITCH_CNT.COUNT g.val) + 1) % 2 ^ 32 ∧
        Recorded Ev.PROT.SWITCH s.chip t ∧ t.bitOf Reg.PROT.PROT_EVT_PG.PG g.val = true ∧ LineFrame s.chip t) ∧
    Answers (.selMiscompare g) s (fun t => t.flag Reg.PROT.PROT_STAT.FROZEN = true ∧ Recorded Ev.PROT.SEL_MISCOMPARE s.chip t ∧
      t.bitOf Reg.PROT.PROT_EVT_PG.PG g.val = true ∧
      Kept [Reg.PROT.PROT_STAT.FROZEN, evtBit Ev.PROT.SEL_MISCOMPARE, Reg.PROT.PROT_EVT_PG.PG] s.chip t ∧ Quiet s.chip t) ∧
    Answers .unfreeze s (fun t => t.flag Reg.PROT.PROT_STAT.FROZEN = false ∧ LineFrame s.chip t) ∧
    (∀ r rest, s.chip.lost = r :: rest →
      Answers .lrPop s fun t => t.lost = rest ∧ t.getF Reg.PROT.LR_STAT.COUNT = rest.length % 2 ^ 5 ∧
        (∀ n tail, rest = n :: tail → t.getF Reg.PROT.LR_HEAD_INFO.PG = n.pg % 2 ^ 4 ∧ t.getF Reg.PROT.LR_HEAD_INFO.CAUSE = n.cause % 2 ^ 2 ∧
          t.getF Reg.PROT.LR_HEAD_FIRST.FSN = n.first % 2 ^ 32 ∧ t.getF Reg.PROT.LR_HEAD_LAST.FSN = n.last % 2 ^ 32) ∧
        KeptBut [0x24] [] s.chip t ∧ Elsewhere s.chip t))

/-- Hitless groups and APS (R319 to R329, R333): a measured difference is reported, and one beyond the deskew range holds the later member; in range
it is released; a read delivers a good copy of the selected member, and without a copy delivers nothing; a message is sent with its payload on the
working member's port; a new message is accepted with the far request, a copy ignored; the bridge follows the far request; the loss of APS and a
disagreement raise their alarm. -/
def Obligations.HitlessAndAps : Prop :=
  ∀ (s : State) (g : Fin 16), s.chip.pgOn g.val = true →
    let v := s.chip.pgOf g.val
    let k := s.chip.pgCfgOf g.val
    let base := xcEntry s.chip.act k.base
    let locked := fun (p : Bool) => s.chip.flag (Reg.FRM.ALIGN_STAT.IN_FRAME (k.member base p).1 (k.member base p).2) = true ∧
      s.chip.flag (Reg.FRM.ALIGN_STAT.FSN_LOCK (k.member base p).1 (k.member base p).2) = true
    let port := fun (p : Bool) => 16 * (k.member base p).1.ix + (k.member base p).2
    (∀ ns : Int, locked false → locked true → ns.natAbs < 2 ^ 31 →
      Answers (.diffDelayUpdate g ns) s fun t => t.getS (Reg.PROT.DIFF_DLY.NS g.val) = ns ∧ (t.pgOf g.val).measured = true ∧
        (k.kind = 4 → k.desk * 1000 < ns.natAbs + 4000 → v.deskHeld = none →
          t.flag (Reg.PROT.PG_STAT.ALIGNED g.val) = false ∧ (t.pgOf g.val).deskHeld = some (decide (0 < ns)) ∧
            Recorded Ev.PROT.DESKEW_EXCEEDED s.chip t) ∧ LineFrame s.chip t) ∧
    ((s.chip.getS (Reg.PROT.DIFF_DLY.NS g.val)).natAbs + 4000 ≤ k.desk * 1000 →
      Answers (.deskewRecover g) s fun t => (t.pgOf g.val).deskHeld = none ∧ LineFrame s.chip t) ∧
    (∀ fsn corr badW badP, k.kind = 4 →
      (∀ r, s.chip.flag (Reg.PROT.PG_STAT.ACTIVE g.val) = false → v.lastFsn = none → v.deskW.find? (fun r => r.fsn == fsn) = some r →
        DeskRec.good (some r) (s.chip.memberSf g.val false) badW = true →
        Answers (.hitlessRead g fsn corr badW badP) s fun t => (t.pgOf g.val).lastFsn = some fsn ∧ (t.pgOf g.val).lastRead = some fsn ∧
          t.getPair (Reg.PROT.FRM_OUT_LO.addr g.val) = (s.chip.getPair (Reg.PROT.FRM_OUT_LO.addr g.val) + 1) % 2 ^ 64 ∧
          t.getF Reg.PROT.DSK_CORR.COUNT = (s.chip.getF Reg.PROT.DSK_CORR.COUNT + corr) % 2 ^ 32 ∧ LineFrame s.chip t) ∧
      (v.deskW.find? (fun r => r.fsn == fsn) = none → v.deskP.find? (fun r => r.fsn == fsn) = none →
        Answers (.hitlessRead g fsn corr badW badP) s fun t => (t.pgOf g.val).lastFsn = v.lastFsn ∧ (t.pgOf g.val).lastRead = some fsn ∧
          t.getPair (Reg.PROT.FRM_OUT_LO.addr g.val) = s.chip.getPair (Reg.PROT.FRM_OUT_LO.addr g.val) % 2 ^ 64 ∧ LineFrame s.chip t)) ∧
    Answers (.apsMsgTx g) s (fun t => (t.pgOf g.val).apsSent = some (ofBytes (s.chip.apsPayload g.val)) ∧
      Tab.get 0 t.wst.seqs 2 = (Tab.get 0 s.chip.wst.seqs 2 + 1) % 256 ∧
      (s.chip.flag (Reg.WST.TT_PORT_CFG.EN (port false)) = true → port true ≠ port false → (s.chip.portOf (port false)).cur = none →
        ∃ m : TtMsg, (t.portOf (port false)).aps = (s.chip.portOf (port false)).aps ++ [m] ∧ m.type = 2 ∧ m.payload = s.chip.apsPayload g.val) ∧
      t.regs = s.chip.regs) ∧
    (∀ src seq b1 b2 b3 : Nat,
      (v.apsLast ≠ some (src, seq) →
        Answers (.apsMsgRx src seq g.val b1 b2 b3) s fun t => t.getF (Reg.PROT.PG_STAT.FAR_REQ g.val) = b1 / 16 % 16 ∧
          (t.pgOf g.val).apsLast = some (src, seq) ∧ (t.pgOf g.val).farRsig = (b2 == 1) ∧ (t.pgOf g.val).farBsig = (b3 == 1) ∧
          t.flag (Reg.PROT.PG_STAT.APS_LOSS g.val) = false ∧ LineFrame s.chip t) ∧
      (v.apsLast = some (src, seq) → Answers (.apsMsgRx src seq g.val b1 b2 b3) s fun t => t = s.chip)) ∧
    ((s.chip.pgFar g.val).2 = true →
      Answers (.apsBridge g) s fun t => (t.pgOf g.val).bridge = true ∧ t = { s.chip with pg := t.pg }) ∧
    ((s.chip.pgFar g.val).2 = false → v.bridge = true → s.chip.flag (Reg.PROT.PG_STAT.ACTIVE g.val) = false →
      Answers (.apsBridge g) s fun t => (t.pgOf g.val).bridge = false ∧ t = { s.chip with pg := t.pg }) ∧
    (s.chip.flag (Reg.PROT.PG_STAT.APS_LOSS g.val) = false →
      Answers (.apsLoss g) s fun t => t.flag (Reg.PROT.PG_STAT.APS_LOSS g.val) = true ∧ Recorded Ev.PROT.APS_ALARM s.chip t ∧ LineFrame s.chip t) ∧
    (∀ nr : Bool, (if nr then k.bidir && v.farBsig != v.decided else v.farB != (k.kind == 2) || v.farD != k.bidir) = true →
      s.chip.flag (if nr then Reg.PROT.PG_STAT.FOP_NR g.val else Reg.PROT.PG_STAT.FOP_PM g.val) = false →
      Answers (.fopTimer g nr) s fun t => t.flag (if nr then Reg.PROT.PG_STAT.FOP_NR g.val else Reg.PROT.PG_STAT.FOP_PM g.val) = true ∧
        Recorded Ev.PROT.APS_ALARM s.chip t ∧ t.bitOf Reg.PROT.PROT_EVT_PG.PG g.val = true ∧ t.pg = s.chip.pg)

/-! ## Line encryption, the key store and the service engine -/

/-- Key loads and swaps (R343, R344, R347): an empty slot refuses the load with cause 1 and changes nothing else; a 32-byte line key with a fresh
epoch starts loading into the transmit register not in use, with its slot and epoch and no frames, and into a receive register no trail uses; with
both phases in use the receive load is refused; the end of a load makes the register valid; a swap waits for a frame. Tag checks and AES lanes (R349
to R353, R356): the oldest frame of the trail leaves the queue; a good one is counted, a failed one counted with its event and dropped under
verify-before-release, one without a key counted as such, and one spoilt by a lane is dropped; a lane in service that faults is fenced, counted, and
the reserve takes over; the takeover ends with its event.
Where the rules leave a choice, the model's stands: log entry 32. -/
def Obligations.LineEncryption : Prop :=
  (∀ (s : State) (c : Carrier),
    let slot := fun (tx : Bool) => if tx then s.chip.getF (Reg.LENC.TX_LOAD_CFG.SLOT c) else s.chip.getF (Reg.LENC.RX_LOAD_CFG.SLOT c)
    let epoch := fun (tx : Bool) => if tx then s.chip.getF (Reg.LENC.TX_EPOCH.EPOCH c) else s.chip.getF (Reg.LENC.RX_EPOCH.EPOCH c)
    let used := s.chip.rxPhases c
    let loads := fun (tx : Bool) (p : Nat) (k : KsKey) (t : Chip) => t.keyLoading c tx p = true ∧ t.keyValid c tx p = false ∧
      t.getF ⟨keyInfo c tx p, 16, 6⟩ = slot tx ∧ t.getF ⟨keyInfo c tx p + 4, 0, 32⟩ = epoch tx ∧
      (Tab.get {} (if tx then (t.lenc.get c).tx else (t.lenc.get c).rx) p).bytes = k.bytes ∧ KeptBut [0x17, 0x1F] [] s.chip t ∧ t.sec = s.chip.sec
    let refused := fun (cause : Nat) (t : Chip) => t.getF (Reg.LENC.LENC_STAT.LOAD_CAUSE c) = cause ∧ Recorded (Ev.LENC.LOAD_REFUSED c) s.chip t ∧
      Kept [Reg.LENC.LENC_STAT.LOAD_CAUSE c, evtBit (Ev.LENC.LOAD_REFUSED c)] s.chip t ∧ Quiet s.chip t
    ((s.chip.slotOf (slot true)).key = none → Answers (.txLoad c) s (refused 1)) ∧
    ((s.chip.slotOf (slot false)).key = none → Answers (.rxLoad c) s (refused 1)) ∧
    (∀ k, (s.chip.slotOf (slot true)).key = some k → k.usage = 1 → k.len = 32 → (∀ m, (s.chip.lenc.get c).maxEpoch = some m → m < epoch true) →
      s.chip.keyCar c = c →
      Answers (.txLoad c) s fun t => loads true (1 - s.chip.getF (Reg.LENC.LENC_STAT.TX_KP c)) k t ∧
        t.getF (Reg.LENC.TX_KEY_FRAMES.FRAMES c (1 - s.chip.getF (Reg.LENC.LENC_STAT.TX_KP c))) = 0 ∧
        (t.lenc.get c).maxEpoch = some (epoch true)) ∧
    (∀ k, (s.chip.slotOf (slot false)).key = some k → k.usage = 1 → k.len = 32 →
      (used.contains 0 = true → used.contains 1 = true → Answers (.rxLoad c) s (refused 4)) ∧
      (¬(used.contains 0 = true ∧ used.contains 1 = true) → s.chip.keyCar c = c →
        Answers (.rxLoad c) s (loads false (if used.contains 1 then 0 else 1) k))) ∧
    (∀ (tx : Bool) (p : Fin 2), s.chip.keyLoading c tx p.val = true →
      Answers (.loadDone c tx p) s fun t => t.keyValid c tx p.val = true ∧ t.keyLoading c tx p.val = false ∧
        Recorded (Ev.LENC.LOAD_DONE c) s.chip t ∧ KeptBut [0x17, 0x1F] [] s.chip t) ∧
    (s.chip.keyCar c = c → Answers (.swapNow c) s fun t => (t.lenc.get c).swap = true ∧ t = { s.chip with lenc := t.lenc })) ∧
  (∀ (s : State) (c : Carrier),
    (∀ (t : Fin 16) (w : TagWait) pass unver cut, ((s.chip.lenc.get c).checks.find? fun w => w.trail == t.val) = some w →
      let plus := fun (f : Fld) (u : Chip) => u.getF f = (s.chip.getF f + 1) % 2 ^ 32
      Answers (.tagCheck c t pass unver cut) s fun u => (u.lenc.get c).checks = (s.chip.lenc.get c).checks.erase w ∧ u.sec = s.chip.sec ∧
        (w.spoilt = true → plus (Reg.LENC.LANE_DROP.COUNT c t.val) u) ∧
        (w.spoilt = false → (s.chip.grpOf c 2).sf = false → pass = true → w.keyed = true →
          u.getPair (Reg.LENC.TAG_OK_LO.addr c t.val) = (s.chip.getPair (Reg.LENC.TAG_OK_LO.addr c t.val) + 1) % 2 ^ 64) ∧
        (w.spoilt = false → (s.chip.grpOf c 2).sf = false → (pass && w.keyed) = false →
          plus (Reg.LENC.TAG_FAIL.COUNT c t.val) u ∧ Recorded (Ev.LENC.TAG_FAIL c) s.chip u ∧
          (w.keyed = false → plus (Reg.LENC.NOKEY.COUNT c t.val) u) ∧
          (s.chip.flag (Reg.LENC.LENC_STAT.VBR_ACTIVE c) = true → plus (Reg.LENC.VBR_DROP.COUNT c t.val) u))) ∧
    (∀ (lane : Fin 17) (tx : Bool) (t : Fin 16), (s.chip.grpOf c 2).inService lane.val = true →
      Answers (.aesLaneFault c lane tx t) s fun u =>
        u.getF (Reg.LENC.LANE_STAT.FAULTS c lane.val) = min (s.chip.getF (Reg.LENC.LANE_STAT.FAULTS c lane.val) + 1) (2 ^ 16 - 1) ∧
        Recorded (Ev.LENC.LANE_FAULT c) s.chip u ∧ (u.grpOf c 2).fenced.testBit lane.val = true ∧ (u.grpOf c 2).reserve = none ∧
        (∀ r, (s.chip.grpOf c 2).reserve = some r → (u.grpOf c 2).takeover = some r) ∧
        ((s.chip.grpOf c 2).reserve = none → (u.grpOf c 2).sf = true) ∧ LineFrame s.chip u) ∧
    (∀ r, (s.chip.grpOf c 2).takeover = some r →
      Answers (.laneTakeover c) s fun u => (u.grpOf c 2).takeover = none ∧ Recorded (Ev.LENC.LANE_TAKEOVER c) s.chip u ∧
        Kept [evtBit (Ev.LENC.LANE_TAKEOVER c)] s.chip u))

/-- The key store (R357, R358, R361): zeroizing a slot empties it with its pending value and every line register loaded from it; zeroizing all, by
command or by the pin, empties every slot, line register and the boot key with KEY_ZEROIZED, whose cause lasts while the pin is low; PROVISION is
accepted once, from PCIe, and fills slot 0 and the boot key; OTP_KILL kills the field and leaves the slots.
Where the rules leave a choice, the model's stands: log entry 31. -/
def Obligations.KeyStore : Prop :=
  ∀ s : State,
    let zeroed := fun (t : Chip) => (∀ k : Fin 64, t.slotOf k.val = {}) ∧ (∀ r ∈ lineKeys, t.keySlot r.1 r.2.1 r.2.2 = none) ∧
      t.sec.bootKey = none ∧ (t.rd (Ev.SEC.base + 0xF0)).getLsbD 0 = true ∧ t.fuse = s.chip.fuse ∧ KeptBut [0x08, 0x17, 0x1F] [] s.chip t
    let result := fun (n : Nat) (t : Chip) => t.getF Reg.SEC.KS_STAT.RESULT = n
    (∀ k : Fin 64, Answers (.zeroSlot k) s fun t => t.slotOf k.val = {} ∧ (∀ r ∈ lineKeys, t.keySlot r.1 r.2.1 r.2.2 ≠ some k.val) ∧
      (∀ x, x ≠ k.val → t.slotOf x = s.chip.slotOf x) ∧ t.sec.bootKey = s.chip.sec.bootKey ∧ t.fuse = s.chip.fuse ∧ result 0 t ∧
      KeptBut [0x08, 0x17, 0x1F] [] s.chip t) ∧
    Answers .zeroAll s (fun t => zeroed t ∧ result 0 t ∧ t.sec.pinLow = s.chip.sec.pinLow) ∧
    Answers .zeroizePin s (fun t => zeroed t ∧ t.sec.pinLow = true ∧ (t.liveWord Ev.SEC.base).getLsbD 0 = true) ∧
    Answers .zeroizePinRelease s (fun t => t.sec.pinLow = false ∧ (t.liveWord Ev.SEC.base).getLsbD 0 = false ∧ t.regs = s.chip.regs) ∧
    (s.chip.fuse.otpKilled = false → s.chip.fuse.otpKey = none →
      Answers (.provision 4) s fun t => t.fuse.otpKey = some s.chip.provKey ∧ (t.slotOf 0).key = some (rootKey s.chip.provKey) ∧
        t.sec.bootKey = some s.chip.provKey ∧ t.sec.prov = [] ∧ result 0 t ∧ Recorded Ev.SEC.PROV_DONE s.chip t ∧ KeptBut [0x08] [] s.chip t) ∧
    (∀ m : Fin 8, (m.val ≠ 4 ∨ s.chip.fuse.otpKilled = true ∨ s.chip.fuse.otpKey.isSome = true) →
      Answers (.provision m) s fun t => t.fuse = s.chip.fuse ∧ t.sec = { s.chip.sec with prov := [] } ∧ t.getF Reg.SEC.KS_STAT.RESULT ≠ 0 ∧
        (m.val ≠ 4 → result 2 t) ∧ Recorded Ev.SEC.CMD_REFUSED s.chip t ∧ KeptBut [0x08] [] s.chip t) ∧
    (s.chip.fuse.otpKilled = false →
      Answers .otpKill s fun t => t.fuse = { s.chip.fuse with otpKilled := true } ∧ t.sec = s.chip.sec ∧ result 0 t ∧
        Kept [Reg.SEC.KS_STAT.RESULT] s.chip t)

/-- The fuses only ever gain: no step, no reset and no erasure brings a killed key field back, changes a key once provisioned, or lifts the demand
for authentic images. -/
def Obligations.FusesAreForever : Prop :=
  ∀ s t : State, step s = .next t →
    (s.chip.fuse.otpKilled = true → t.chip.fuse.otpKilled = true) ∧ (∀ k, s.chip.fuse.otpKey = some k → t.chip.fuse.otpKey = some k) ∧
    (s.chip.fuse.authOnly = true → t.chip.fuse.authOnly = true)

/-- Jobs of the service engine (R360, R364, R365): a write of a tail is its register's; a free core takes the oldest suspended job of the best ring,
or fetches the head of the ring, which advances; the victim of a higher ring is suspended with the blocks it has done; a job in the pools that ends
frees its core and is counted as done or, with JOB_ERR, as failed.
Where the rules leave a choice, the model's stands: log entry 30. -/
def Obligations.ServiceJobs : Prop :=
  ∀ (s : State),
    let pooled := fun (a : Nat) => 0x80000000 ≤ a ∧ a + 4096 ≤ 0x80400000
    (∀ (r : Fin 4) (v : Nat), Answers (.ringTailWrite r v) s fun t => t.getF (Reg.SEC.RING_TAIL.TAIL r.val) = v % 2 ^ 10 ∧
      Kept [Reg.SEC.RING_TAIL.TAIL r.val] s.chip t ∧ Quiet s.chip t) ∧
    (∀ core : Fin 8, s.chip.islDown 3 = false → s.chip.coreFree core.val = true →
      (∀ r j, s.chip.bestWork = some (r, some j) →
        Answers (.jobStart core) s fun t => (t.sec.cores.find? fun p => p.1 == core.val) = some (core.val, j) ∧
          t.sec.susp = s.chip.sec.susp.erase j ∧ t.regs = s.chip.regs) ∧
      (∀ r a, s.chip.bestWork = some (r, none) → s.chip.ringHead r = some a → pooled a →
        Answers (.jobStart core) s fun t => t.coreFree core.val = false ∧ t.sec.started = s.chip.sec.started + 1 ∧
          t.getF (Reg.SEC.RING_HEAD.HEAD r) = (s.chip.getF (Reg.SEC.RING_HEAD.HEAD r) + 1) % s.chip.ringSize r ∧
          KeptBut [0x01, 0x03, 0x05, 0x08] [] s.chip t)) ∧
    (∀ k j (done : Fin 257), s.chip.victim = some (k, j) → s.chip.islDown 3 = false → 8 ≤ s.chip.sec.cores.length → s.chip.sec.susp.length < 4 →
      (List.range j.ring).any s.chip.headReady = true →
      Answers (.jobSuspend done) s fun t => t.sec.cores = Store.erase s.chip.sec.cores k ∧
        t.sec.susp = s.chip.sec.susp ++ [{ j with done := max j.done (min done.val j.count) }] ∧ KeptBut [0x05] [] s.chip t) ∧
    (∀ (core : Fin 8) (done : Fin 257) (j : Job), s.chip.islDown 3 = false → s.chip.ratiosOk = true →
      s.chip.sec.cores.find? (fun p => p.1 == core.val) = some (core.val, j) → pooled j.desc → pooled j.src → pooled j.dst → j.count ≤ 256 →
      let code := (s.chip.jobWork j).1
      Answers (.jobEnd core done) s fun t => t.sec.cores = Store.erase s.chip.sec.cores core.val ∧
        ((code = 1 ∨ code = 2) →
          t.getF Reg.SEC.JOBS_DONE.COUNT = (s.chip.getF Reg.SEC.JOBS_DONE.COUNT + 1) % 2 ^ 32 ∧
          t.getF Reg.SEC.JOBS_ERR.COUNT = s.chip.getF Reg.SEC.JOBS_ERR.COUNT) ∧
        (¬(code = 1 ∨ code = 2) →
          t.getF Reg.SEC.JOBS_ERR.COUNT = (s.chip.getF Reg.SEC.JOBS_ERR.COUNT + 1) % 2 ^ 32 ∧ Recorded Ev.SEC.JOB_ERR s.chip t ∧
          t.getF Reg.SEC.JOBS_DONE.COUNT = s.chip.getF Reg.SEC.JOBS_DONE.COUNT) ∧
        (j.irq = true → Recorded Ev.SEC.JOB_DONE s.chip t))

/-! ## Boot, flash and the management cores -/

/-- The boot sequence up to LOAD (R357, R371, R374, R382, R400, R466, R502, R519, R521): PORESET_N low, or VDD_AON, restores every register, keeping
fuses and flash; its release starts the sequence; step 1 copies the key and chooses the image area, or halts where both are bad; a good header lets
the sequence go on once its clocks are there, a bad one falls back to the golden image; pool BIST leaves the pools undefined and gives each bank's
spare rows.
Where the rules leave a choice, the model's stands: log entry 33. -/
def Obligations.BootSequence : Prop :=
  ∀ s : State,
    let phase := s.chip.getF Reg.BOOT.BOOT_STAT.PHASE
    let serials := [Reg.SUBC.INLET_SERIAL_LO.addr .A, Reg.SUBC.INLET_SERIAL_LO.addr .A + 4, Reg.SUBC.INLET_SERIAL_LO.addr .B,
      Reg.SUBC.INLET_SERIAL_LO.addr .B + 4]
    let fresh := fun (more : List Nat) (t : Chip) => (∀ a, a ∉ serials → a ∉ more → t.rd a = RegMap.reset a) ∧ (∀ a, t.act a = RegMap.reset a) ∧
      (∀ c, t.getPair (Reg.SUBC.INLET_SERIAL_LO.addr c) = s.chip.fuse.serial % 2 ^ 64) ∧ t.fuse = s.chip.fuse ∧
      t.boot.flash = s.chip.boot.flash ∧ t.pool.words = [] ∧ t.sec.slots = [] ∧ t.clk.held = 0xFF
    let fallback := fun (cause : Nat) (t : Chip) => t.getF Reg.BOOT.BOOT_STAT.PRIM_CAUSE = cause ∧ Recorded Ev.BOOT.FALLBACK s.chip t ∧
      t.boot.area = 2
    let ready := s.chip.flag Reg.CLK.CLK_STAT.ROSC_READY && s.chip.flag Reg.CLK.CLK_STAT.MPLL_LOCK && s.chip.mgmtRootReady && !s.chip.clk.asleep
    Answers (.poresetAssert false) s (fun t => fresh [Reg.CLK.RST_CAUSE.addr] t ∧ t.flag Reg.CLK.RST_CAUSE.PIN = true ∧ t.clk.poreset = true) ∧
    Answers (.poresetAssert true) s (fun t => fresh [] t ∧ t.clk.aonLow = false) ∧
    Answers .vddAonLow s (fun t => fresh [] t ∧ t.clk.aonLow = true) ∧
    (s.chip.clk.poreset = true →
      Answers .poresetRelease s fun t => t.clk.poreset = false ∧ t.boot.released = s.chip.now ∧ t.regs = s.chip.regs) ∧
    (phase = 0 → s.chip.clk.poreset = false → s.chip.clk.aonLow = false → s.chip.flag Reg.CLK.CLK_STAT.ROSC_READY = true →
      Answers .otpLoaded s fun t => t.sec.bootKey = (if s.chip.fuse.otpKilled then none else s.chip.fuse.otpKey) ∧
        (s.chip.bootArea ≠ 0 → t.getF Reg.BOOT.BOOT_STAT.PHASE = 1 ∧ t.boot.area = s.chip.bootArea ∧ t.boot.hdrOk = false ∧
          Kept [Reg.BOOT.BOOT_STAT.PHASE] s.chip t) ∧
        (s.chip.bootArea = 0 → t.getF Reg.BOOT.BOOT_STAT.PHASE = 7 ∧ Recorded Ev.BOOT.HALTED s.chip t)) ∧
    (∀ stuck : Bool, phase = 1 → s.chip.boot.hdrOk = false →
      let cause := if stuck then 4 else s.chip.headerCause s.chip.boot.area
      (cause = 0 → Answers (.headerRead stuck) s fun t => t.boot.hdrOk = true ∧
        t.getF Reg.BOOT.BOOT_STAT.PHASE = (if ready then 2 else 1) ∧ (ready = true → t.clk.held.testBit 6 = false ∧ t.clk.held.testBit 4 = false)) ∧
      (cause ≠ 0 → s.chip.boot.area = 1 → s.chip.flag Reg.BOOT.BOOT_STAT.GOLD_BAD = false →
        Answers (.headerRead stuck) s fun t => fallback cause t ∧ t.getF Reg.BOOT.BOOT_STAT.PHASE = 1)) ∧
    (∀ rows : List (Fin 16 × Nat), phase = 2 →
      Answers (.poolBistDone rows) s fun t => t.getF Reg.BOOT.BOOT_STAT.PHASE = 3 ∧ t.pool.words = [] ∧
        (∀ b : Fin 16, let n := ((rows.find? fun p => p.1.val == b.val).map Prod.snd).getD 0
          n ≤ 8 → t.getF ⟨if b.val < 8 then Reg.POOL.SPARE_LEFT_0.addr else Reg.POOL.SPARE_LEFT_1.addr, 4 * (b.val % 8), 4⟩ = 8 - n) ∧
        KeptBut [0x02, 0x03, 0x0A] [] s.chip t)

/-- The image from LOAD on (R371 to R373, R376 to R380, R382, R383): a pass without a cause records the image and goes on to APPLY, a read that hangs
falls back; a record whose entries all apply is counted and the next one follows; a POLL that runs out fails the image in APPLY and only the service
records in EARLY_LIGHT; at the end owners, cores and confirmation are set up; FULL_SERVICE, CONFIRM, its timeout, CLR_BAD and AUTH_LOCK do as they
say.
Where the rules leave a choice, the model's stands: log entries 33, 56. -/
def Obligations.ImageLoading : Prop :=
  ∀ s : State,
    let phase := s.chip.getF Reg.BOOT.BOOT_STAT.PHASE
    let b := s.chip.boot
    (phase = 3 → b.area = 1 → s.chip.flag Reg.BOOT.BOOT_STAT.GOLD_BAD = false →
      Answers (.loadPassEnd true) s fun t => t.getF Reg.BOOT.BOOT_STAT.PRIM_CAUSE = 4 ∧ t.boot.area = 2 ∧ t.getF Reg.BOOT.BOOT_STAT.PHASE = 3 ∧
        Recorded Ev.BOOT.FALLBACK s.chip t ∧ t.pool = s.chip.pool) ∧
    (phase = 3 → (s.chip.loadPass b.area).1 = 0 →
      Answers (.loadPassEnd false) s fun t => t.getF Reg.BOOT.BOOT_STAT.PHASE = 4 ∧ t.getF Reg.BOOT.BOOT_STAT.IMAGE = b.area % 4 ∧
        t.getF Reg.BOOT.IMAGE_SEQ.SEQ = (s.chip.readHeader b.area).seq % 2 ^ 32 ∧ t.boot.recs = (s.chip.loadPass b.area).2.2.recs ∧
        t.boot.service = (s.chip.loadPass b.area).2.2.service ∧ t.boot.applying = s.chip.flag Reg.CLK.CLK_STAT.SPLL_LOCK) ∧
    (∀ (core : Fin 4) r rest x u, b.recs = r :: rest → phase = 4 → b.applying = true → s.chip.applyNext 7 r false = (some x, u) → x.err = false →
      x.stand = [] → x.chip.ratiosOk = true →
      Answers (.applyRecord core) s fun t => t.boot.recs = x.chip.boot.recs.drop 1 ∧
        t.getF Reg.BOOT.REC_STAT.APPLIED = min (x.chip.getF Reg.BOOT.REC_STAT.APPLIED + 1) (2 ^ 16 - 1) ∧
        Kept [Reg.BOOT.REC_STAT.APPLIED] x.chip t ∧ t.pool = x.chip.pool ∧ t.sec = x.chip.sec) ∧
    (∀ r rest, b.stand ≠ [] → b.recs = r :: rest → phase = 4 → b.area = 1 → s.chip.flag Reg.BOOT.BOOT_STAT.GOLD_BAD = false →
      Answers .pollTimeout s fun t => t.getF Reg.BOOT.BOOT_STAT.PRIM_CAUSE = 10 ∧ t.getF Reg.BOOT.REC_STAT.FAIL_REC = r.idx % 2 ^ 16 ∧
        t.getF Reg.BOOT.BOOT_STAT.PHASE = 2 ∧ t.boot.area = 2 ∧ t.flag Reg.CLK.RST_CAUSE.FALLBACK = true ∧ t.boot.recs = []) ∧
    (b.stand ≠ [] → b.recs = [] → phase = 5 →
      Answers .pollTimeout s fun t => t.flag Reg.BOOT.BOOT_STAT.SVC_ERR = true ∧ t.boot.service = [] ∧ t.boot.stand = [] ∧
        Kept [Reg.BOOT.BOOT_STAT.SVC_ERR] s.chip t) ∧
    (phase = 4 → b.applying = true → b.recs = [] →
      Answers .bootDone s fun t => t.getF Reg.BOOT.BOOT_STAT.PHASE = 5 ∧
        (∀ k : Fin 4, t.getF (Reg.POOL.POOL_OWN.OWNER k.val) = b.hdr.owner / 256 ^ k.val % 256 % 2 ^ (Reg.POOL.POOL_OWN.OWNER k.val).width ∧
          t.getF (Reg.MGMT.CORE_STAT.STATE k.val) = (if s.chip.flag (Reg.MGMT.CORE_CTRL.HOLD k.val) then 3 else 1)) ∧
        t.boot.applying = false ∧ t.boot.confirmDue = (b.hdr.confirm != 0) ∧ t.getF Reg.CLK.PWR_STAT.STATE = 0 ∧
        Recorded Ev.BOOT.BOOT_DONE s.chip t ∧ t.pool.words = s.chip.pool.words) ∧
    (phase = 5 → Answers .fullSvc s fun t => t.getF Reg.BOOT.BOOT_STAT.PHASE = 6 ∧ Recorded Ev.BOOT.FULL_SERVICE s.chip t ∧
        KeptBut [0x02] [] s.chip t) ∧
    Answers .confirm s (fun t => t.boot.confirmDue = false ∧ t.regs = s.chip.regs) ∧
    (b.confirmDue = true → s.chip.getF Reg.BOOT.BOOT_STAT.IMAGE = 1 →
      Answers .confirmTmo s fun t => t.flag Reg.BOOT.BOOT_STAT.PRIM_BAD = true ∧
        t.flag Reg.BOOT.BOOT_STAT.GOLD_BAD = s.chip.flag Reg.BOOT.BOOT_STAT.GOLD_BAD ∧ t.flag Reg.CLK.RST_CAUSE.CONFIRM = true ∧
        t.getF Reg.BOOT.BOOT_STAT.PHASE = 0 ∧ t.pool.words = [] ∧ t.boot.flash = b.flash) ∧
    Answers .clrBad s (fun t => t.flag Reg.BOOT.BOOT_STAT.PRIM_BAD = false ∧ t.flag Reg.BOOT.BOOT_STAT.GOLD_BAD = false ∧
        Kept [Reg.BOOT.BOOT_STAT.PRIM_BAD, Reg.BOOT.BOOT_STAT.GOLD_BAD] s.chip t ∧ Quiet s.chip t) ∧
    (s.chip.fuse.otpKey.isSome = true →
      Answers (.authLock 4) s fun t => t = { s.chip with fuse := { s.chip.fuse with authOnly := true } })

/-- The xSPI controller (R374, R375, R394): a command starts with its fields while none runs; one that touches the golden area, and any that is
neither a read, a program nor an erase, is refused unless GOLD_WE is 1; a completed program only clears bits, an erase sets its block to ones, a read
fills XSPI_DATA; one that timed out has no effect.
Where the rules leave a choice, the model's stands: log entry 35. -/
def Obligations.FlashCommands : Prop :=
  ∀ (s : State) (w : Word),
    let a := s.chip.getF Reg.BOOT.XSPI_ADDR.ADDR
    let n := min (w.field 8 9) 256
    let size := max 1 (Config.xspiEraseSize (w.field 0 8))
    let we := s.chip.flag Reg.BOOT.BOOT_CTRL.GOLD_WE
    let starts := fun (type addr len : Nat) (t : Chip) => t.flag Reg.BOOT.XSPI_STAT.BUSY = true ∧ t.flag Reg.BOOT.XSPI_STAT.ERR = false ∧
      t.getF Reg.BOOT.XSPI_CMD.TYPE = type ∧ (∃ op : XspiOp, t.boot.xspi = some op ∧ op.type = type ∧ op.addr = addr ∧ op.len = len) ∧
      t.boot.flash = s.chip.boot.flash ∧ KeptBut [0x02] [] s.chip t
    let refused := fun (t : Chip) => t.flag Reg.BOOT.XSPI_STAT.ERR = true ∧ Recorded Ev.BOOT.XSPI_REFUSED s.chip t ∧ t.boot = s.chip.boot ∧
      KeptBut [0x02] [] s.chip t
    (s.chip.flag Reg.BOOT.XSPI_STAT.BUSY = false →
      Answers (.xspiRead w) s (starts 0 a n) ∧
      ((hitsGolden a n && !we) = false → Answers (.xspiProgram w) s (starts 1 a n)) ∧
      ((hitsGolden a n && !we) = true → Answers (.xspiProgram w) s refused) ∧
      ((hitsGolden (a / size * size) size && !we) = false → Answers (.xspiErase w) s (starts 2 (a / size * size) size)) ∧
      ((hitsGolden (a / size * size) size && !we) = true → Answers (.xspiErase w) s refused) ∧
      (we = true → Answers (.xspiOther w) s (starts 3 a n)) ∧ (we = false → Answers (.xspiOther w) s refused)) ∧
    (∀ op timedOut rx, s.chip.boot.xspi = some op → op.len ≤ 256 →
      Answers (.xspiDone timedOut rx) s fun t => t.flag Reg.BOOT.XSPI_STAT.BUSY = false ∧ t.boot.xspi = none ∧
        Recorded Ev.BOOT.XSPI_DONE s.chip t ∧
        (timedOut = true → t.flag Reg.BOOT.XSPI_STAT.ERR = true ∧ t.boot.flash = s.chip.boot.flash) ∧
        (timedOut = false → op.type = 0 → 1 ≤ op.len → t.getF ⟨Reg.BOOT.XSPI_DATA.addr 0, 0, 8⟩ = s.chip.flashByte op.addr % 2 ^ 8 ∧
          t.boot.flash = s.chip.boot.flash) ∧
        (∀ x v, timedOut = false → op.type = 1 → op.bytes = [(x, v)] → t.flashByte x = (s.chip.flashByte x &&& v) % 256 ∧
          (∀ y, y ≠ x → t.flashByte y = s.chip.flashByte y)) ∧
        (timedOut = false → op.type = 2 → ∀ y, t.flashByte y = if op.addr ≤ y ∧ y < op.addr + op.len then 0xFF else s.chip.flashByte y) ∧
        KeptBut [0x02, 0x05] [] s.chip t)

/-- Watchdogs and takeovers (R385, R386, R389): a running core kicks its own watchdog; a warning occurs; a core whose watchdog expires stops and its
pools and interrupts pass to its peer, and without a running core ALL_CORES_DOWN occurs; the takeover answers an uncommitted mailbox command; a
restart starts a core that is not held. Mailboxes and the extension (R387, R388, R391): a GO while none is in progress starts a command and sets
BUSY, another overruns; an answer gives the status and words and clears BUSY; a notification waits for its acknowledgement; VERSION and CAL_STORE are
answered; extension opcodes are answered by the enabled extension, else with status 1; a fault suspends the extension, and the third in 10 s disables
it.
Where the rules leave a choice, the model's stands: log entries 15, 34, 45. -/
def Obligations.ManagementCores : Prop :=
  (∀ (s : State) (k : Fin 4),
    let phase := s.chip.getF Reg.BOOT.BOOT_STAT.PHASE
    let ticks := max 1 (s.chip.getF (Reg.MGMT.WDT_CFG.WDT_TIME k.val))
    (s.chip.coreRuns k.val = true →
      Answers (.wdtKick (Fin.ofNat 8 k.val) k) s fun t => t.getF (Reg.MGMT.WDT_LEFT.TICKS k.val) = ticks ∧
        KeptBut [0x05] [Reg.MGMT.WDT_LEFT.TICKS k.val] s.chip t) ∧
    (s.chip.wdtOn k.val = true →
      Answers (.wdtWarn k) s fun t => Recorded Ev.MGMT.WDT_WARN s.chip t ∧ Kept [evtBit Ev.MGMT.WDT_WARN] s.chip t ∧ Quiet s.chip t) ∧
    (∀ cores : Fin 16, cores.val = 2 ^ k.val → s.chip.wdtOn k.val = true →
      Answers (.wdtExpire cores) s fun t => t.getF (Reg.MGMT.CORE_STAT.STATE k.val) = 2 ∧ t.getF (Reg.MGMT.WDT_LEFT.TICKS k.val) = 0 ∧
        t.getF (Reg.MGMT.CORE_STAT.EXPIRE_CNT k.val) = min (s.chip.getF (Reg.MGMT.CORE_STAT.EXPIRE_CNT k.val) + 1) (2 ^ 8 - 1) ∧
        Recorded Ev.MGMT.WDT_EXPIRE s.chip t ∧
        (∀ p : Fin 4, s.chip.getF (Reg.MGMT.WDT_CFG.PEER k.val) = p.val → p ≠ k → s.chip.coreRuns p.val = true →
          (∀ q : Fin 4, s.chip.getF (Reg.POOL.POOL_OWN.OWNER q.val) = k.val → t.getF (Reg.POOL.POOL_OWN.OWNER q.val) = p.val) ∧
          (∀ q : Fin 4, s.chip.getF (Reg.POOL.POOL_OWN.OWNER q.val) ≠ k.val →
            t.getF (Reg.POOL.POOL_OWN.OWNER q.val) = s.chip.getF (Reg.POOL.POOL_OWN.OWNER q.val)) ∧
          t.getF (Reg.TOP.CORE_EN.EN p.val) = s.chip.getF (Reg.TOP.CORE_EN.EN p.val) ||| s.chip.getF (Reg.TOP.CORE_EN.EN k.val)) ∧
        ((∀ p : Fin 4, p ≠ k → s.chip.coreRuns p.val = false) → Recorded Ev.MGMT.ALL_CORES_DOWN s.chip t) ∧
        KeptBut [0x00, 0x03, 0x04] [] s.chip t) ∧
    (∀ mbox x, s.chip.getF (Reg.MGMT.CORE_STAT.STATE k.val) = 2 → (s.chip.mgmt.route.find? fun x => x.1 == k.val) = some x →
      Answers (.takeover k mbox) s fun t => Recorded Ev.MGMT.TAKEOVER s.chip t ∧
        (mbox = some false → s.chip.mgmt.mbox.isSome = true → t.getF Reg.MGMT.H2F_STAT.STATUS = 6 ∧ t.mgmt.mbox = none) ∧
        (mbox ≠ some false → t.mgmt = s.chip.mgmt) ∧ KeptBut [0x04, 0x05] [] s.chip t) ∧
    ((phase = 5 ∨ phase = 6) →
      (s.chip.coreRuns k.val = false →
        Answers (.coreRestart k false) s fun t => t.flag (Reg.MGMT.CORE_CTRL.HOLD k.val) = false ∧ t.coreRuns k.val = true ∧
          t.getF (Reg.MGMT.WDT_LEFT.TICKS k.val) = ticks ∧ KeptBut [0x04] [] s.chip t) ∧
      Answers (.coreRestart k true) s (fun t => t.flag (Reg.MGMT.CORE_CTRL.HOLD k.val) = true ∧ t.getF (Reg.MGMT.CORE_STAT.STATE k.val) = 3 ∧
        Kept [Reg.MGMT.CORE_CTRL.HOLD k.val, Reg.MGMT.CORE_STAT.STATE k.val] s.chip t ∧ Quiet s.chip t))) ∧
  (∀ (s : State) (core : Fin 4),
    let answered := fun (status : Nat) (t : Chip) => t.getF Reg.MGMT.H2F_STAT.STATUS = status ∧ t.flag Reg.MGMT.H2F_STAT.BUSY = false ∧
      t.mgmt = { s.chip.mgmt with mbox := none } ∧ Recorded Ev.MGMT.MBOX_DONE s.chip t ∧ KeptBut [0x04, 0x05] [] s.chip t
    let m := s.chip.mgmt
    (∀ w : Word, s.chip.flag Reg.MGMT.H2F_STAT.BUSY = false →
      Answers (.h2fGo w) s fun t => t.flag Reg.MGMT.H2F_STAT.BUSY = true ∧ t.mgmt.mbox = some (w.field 0 8, w.field 8 8, w.field 16 8) ∧
        t.getF Reg.MGMT.H2F_CTRL.OPCODE = w.field 0 8 ∧ t.getF Reg.MGMT.H2F_CTRL.TAG = w.field 8 8 ∧ t.getF Reg.MGMT.H2F_CTRL.LEN = w.field 16 8 ∧
        Kept [Reg.MGMT.H2F_STAT.BUSY, Reg.MGMT.H2F_CTRL.OPCODE, Reg.MGMT.H2F_CTRL.TAG, Reg.MGMT.H2F_CTRL.LEN] s.chip t) ∧
    (∀ w : Word, s.chip.flag Reg.MGMT.H2F_STAT.BUSY = true →
      Answers (.h2fGo w) s fun t => Recorded Ev.MGMT.MBOX_OVERRUN s.chip t ∧ t.mgmt = m ∧ t.flag Reg.MGMT.H2F_STAT.BUSY = true) ∧
    (∀ (status : Fin 256) (words : List Word), m.mbox.isSome = true →
      Answers (.mboxDone core status words) s fun t => answered status.val t ∧ ∀ i w, i < 16 → words[i]? = some w → t.mboxWord i = w.toNat) ∧
    (∀ (opcode : Fin 256) (words : List Word), s.chip.flag Reg.MGMT.F2H_CTRL.VALID = false →
      Answers (.mboxNotify opcode words) s fun t => t.flag Reg.MGMT.F2H_CTRL.VALID = true ∧ t.getF Reg.MGMT.F2H_CTRL.OPCODE = opcode.val ∧
        (∀ i w, i < 16 → words[i]? = some w → t.getF (Reg.MGMT.F2H_DATA.DATA i) = w.toNat) ∧ Recorded Ev.MGMT.MBOX_NOTIFY s.chip t ∧
        KeptBut [0x04] [] s.chip t ∧ t.mgmt = m) ∧
    Answers .f2hAck s (fun t => t.flag Reg.MGMT.F2H_CTRL.VALID = false ∧ Kept [Reg.MGMT.F2H_CTRL.VALID] s.chip t ∧ Quiet s.chip t) ∧
    (s.chip.mboxIs (fun o => o == 0x01) = true →
      Answers (.version core) s fun t => answered 0 t ∧ t.mboxWord 0 = s.chip.boot.hdr.fwIf % 2 ^ 32 ∧
        t.mboxWord 1 = s.chip.boot.hdr.build % 2 ^ 32 ∧ t.mboxWord 2 = s.chip.boot.hdr.build / 2 ^ 32 % 2 ^ 32) ∧
    (s.chip.mboxIs (fun o => o == 0x20) = true → Answers (.calStore core) s (answered 0)) ∧
    (∀ (status : Fin 256) words overran, s.chip.mboxIs (fun o => decide (0x80 ≤ o)) = true →
      (m.extOn = true → m.extSusp = false →
        Answers (.extOpcode core status words overran) s fun t => answered status.val t ∧
          t.getF Reg.MGMT.EXT_OVERRUN.COUNT = (s.chip.getF Reg.MGMT.EXT_OVERRUN.COUNT + overran.toNat) % 2 ^ 32) ∧
      (m.extOn = false → Answers (.extOpcode core status words overran) s (answered 1))) ∧
    (∀ (a : Word) (kind : Fin 3), m.extOn = true → m.extSusp = false → s.chip.extAllows a.toNat kind.val = false →
      Answers (.extFault core a kind) s fun t => t.mgmt.extSusp = true ∧ Recorded Ev.MGMT.EXT_FAULT s.chip t ∧
        t.mgmt.extOn = decide ((m.extFaults.filter fun x => decide (s.chip.now < x + 16000000000)).length < 2) ∧
        (t.mgmt.extOn = false → Recorded Ev.MGMT.EXT_DISABLED s.chip t) ∧ KeptBut [0x03, 0x04, 0x05] [] s.chip t))

/-! ## The pools -/

/-- Pool ownership, reads and writes (R399 to R405, R409): the owner and master 4 hand a pool over, others are refused; a good word is read, a single
wrong bit is corrected in the answer and in the word, an uncorrectable word answers cause 4 and is poisoned, a poisoned one answers cause 5; a write
replaces the enabled bytes with the armed flips and is refused with OWN or SUBWORD; of two writes at once port B's is discarded; words leave the
tracker; a flip is armed. Repair, scrubbing and the event queue of the pools (R406 to R408, R410): a repair runs with a spare and ends with one spare
less and the row's good words as they were; without a spare, or while one runs, it is refused; a scrub pass starts on a valid range, reads its next
word, correcting or poisoning it, and ends at its end or after a stop; a pop takes the head off the queue and shows the next.
Where the rules leave a choice, the model's stands: log entries 14, 50. -/
def Obligations.Pools : Prop :=
  (∀ s : State,
    (∀ (k : Fin 4) (m v : Fin 8),
      ((m.val = s.chip.getF (Reg.POOL.POOL_OWN.OWNER k.val) ∨ m.val = 4) →
        Answers (.poolOwnWrite k m v) s fun t => t.getF (Reg.POOL.POOL_OWN.OWNER k.val) = v.val ∧
          Kept [Reg.POOL.POOL_OWN.OWNER k.val] s.chip t ∧ Quiet s.chip t) ∧
      (¬(m.val = s.chip.getF (Reg.POOL.POOL_OWN.OWNER k.val) ∨ m.val = 4) →
        Answers (.poolOwnWrite k m v) s fun t => Recorded Ev.POOL.OWN_REFUSED s.chip t ∧ Kept [evtBit Ev.POOL.OWN_REFUSED] s.chip t ∧ Quiet s.chip t)) ∧
    (∀ (m : Fin 8) (w : Fin 524288) (up upc : Nat),
      let u := s.chip.upset w.val up upc
      let found := (u.poolWord w.val).check (poolOfWord w.val)
      let others := fun (t : Chip) => (∀ x, x ≠ w.val → t.poolWord x = s.chip.poolWord x) ∧ KeptBut [0x03, 0x05] [] s.chip t
      (found = .good → Answers (.poolRead m w up upc) s fun t => lastResp t m.val = .data (bytes64 (u.poolWord w.val).data) ∧
        t.pool = u.pool ∧ others t) ∧
      (found = .single → Answers (.poolRead m w up upc) s fun t => lastResp t m.val = .data (bytes64 (u.poolWord w.val).data) ∧
        t.poolWord w.val = { u.poolWord w.val with flips := 0, chk := 0 } ∧ Recorded Ev.POOL.CORR s.chip t ∧ w.val ∈ t.pool.track ∧
        t.getF (Reg.POOL.CORR_CNT.COUNT (poolOfWord w.val)) = (s.chip.getF (Reg.POOL.CORR_CNT.COUNT (poolOfWord w.val)) + 1) % 2 ^ 32 ∧ others t) ∧
      (found = .uncorr → Answers (.poolRead m w up upc) s fun t => lastResp t m.val = .err 4 ∧ t.poolWord w.val = PoolWord.poisonPattern ∧
        Recorded Ev.POOL.UNCORR s.chip t ∧
        t.getF (Reg.POOL.UNCORR_CNT.COUNT (poolOfWord w.val)) = (s.chip.getF (Reg.POOL.UNCORR_CNT.COUNT (poolOfWord w.val)) + 1) % 2 ^ 32 ∧
        others t) ∧
      (found = .poisoned → Answers (.poolRead m w up upc) s fun t => lastResp t m.val = .err 5 ∧ t.poolWord w.val = u.poolWord w.val ∧
        Recorded Ev.POOL.POISON_READ s.chip t ∧ others t)) ∧
    (∀ (m : Fin 8) (w : Fin 524288) (be : Fin 256) (d : BitVec 64) (collide : Bool), (m.val = 5 → collide = false) →
      let v := s.chip.poolWord w.val
      let refused := s.chip.writeRefused w.val be.val m.val
      (∀ c, refused = some c → Answers (.poolWrite m w be d collide) s fun t => lastResp t m.val = .err c ∧ t.pool = s.chip.pool) ∧
      (refused = none → s.chip.flag Reg.POOL.ECC_FLIP_CTL.ARM = false →
        Answers (.poolWrite m w be d collide) s fun t => lastResp t m.val = .done ∧
          (t.poolWord w.val).data = ((v.data &&& (2 ^ 64 - 1 - byteMask be.val)) ||| (d.toNat &&& byteMask be.val)) ∧
          (t.poolWord w.val).flips = v.flips &&& (2 ^ 64 - 1 - byteMask be.val) ∧ (t.poolWord w.val).known = v.known ||| be.val ∧
          (t.poolWord w.val).poison = v.poison - (v.poison &&& be.val) ∧ (∀ x, x ≠ w.val → t.poolWord x = s.chip.poolWord x) ∧
          KeptBut [0x05] [] s.chip t) ∧
      (refused = none → s.chip.flag Reg.POOL.ECC_FLIP_CTL.ARM = true → s.chip.getF Reg.POOL.ECC_FLIP_CTL.POOL = poolOfWord w.val →
        Answers (.poolWrite m w be d collide) s fun t => t.flag Reg.POOL.ECC_FLIP_CTL.ARM = false ∧
          (t.poolWord w.val).flips = ((v.flips &&& (2 ^ 64 - 1 - byteMask be.val)) |||
            ((s.chip.getF Reg.POOL.ECC_FLIP_LO.MASK + s.chip.getF Reg.POOL.ECC_FLIP_HI.MASK * 2 ^ 32) &&& byteMask be.val)))) ∧
    (∀ (w : Fin 524288) be d, Answers (.poolWrite 5 w be d true) s fun t => t.pool.words = s.chip.pool.words ∧
      Recorded Ev.POOL.WR_COLLIDE s.chip t ∧ t.getF Reg.POOL.COLLIDE_CNT.COUNT = (s.chip.getF Reg.POOL.COLLIDE_CNT.COUNT + 1) % 2 ^ 32) ∧
    (∀ w : Fin 524288, Answers (.trackerExpire w) s fun t => w.val ∉ t.pool.track ∧
      (∀ x, x ≠ w.val → (x ∈ t.pool.track ↔ x ∈ s.chip.pool.track)) ∧ t.regs = s.chip.regs ∧ t.pool.words = s.chip.pool.words) ∧
    (∀ (pool : Fin 4) (byte : Fin 8) (chk : Fin 256), Answers (.eccFlipArm pool byte chk) s fun t => t.flag Reg.POOL.ECC_FLIP_CTL.ARM = true ∧
      t.getF Reg.POOL.ECC_FLIP_CTL.POOL = pool.val ∧ t.getF Reg.POOL.ECC_FLIP_CTL.BYTE = byte.val ∧ t.getF Reg.POOL.ECC_FLIP_CTL.CHK = chk.val ∧
      Kept [Reg.POOL.ECC_FLIP_CTL.ARM, Reg.POOL.ECC_FLIP_CTL.POOL, Reg.POOL.ECC_FLIP_CTL.BYTE, Reg.POOL.ECC_FLIP_CTL.CHK] s.chip t ∧ Quiet s.chip t)) ∧
  (∀ s : State,
    let busy := s.chip.flag Reg.POOL.SCRUB_STAT.BUSY
    let plus := fun (f : Fld) (t : Chip) => t.getF f = (s.chip.getF f + 1) % 2 ^ 32
    (∀ (pool bank : Fin 4) (row : Fin 512),
      let spare := s.chip.getF (spareFld pool.val bank.val)
      (s.chip.flag Reg.POOL.REPAIR_STAT.BUSY = false → spare ≠ 0 →
        Answers (.repairGo pool bank row) s fun t => t.flag Reg.POOL.REPAIR_STAT.BUSY = true ∧
          t.pool = { s.chip.pool with repair := some (pool.val, bank.val, row.val) } ∧ KeptBut [0x03] [] s.chip t) ∧
      (s.chip.flag Reg.POOL.REPAIR_STAT.BUSY = false → spare = 0 →
        Answers (.repairGo pool bank row) s fun t => t.getF Reg.POOL.REPAIR_STAT.RESULT = 1 ∧ Recorded Ev.POOL.REPAIR_DONE s.chip t ∧
          t.pool = s.chip.pool) ∧
      (s.chip.flag Reg.POOL.REPAIR_STAT.BUSY = true →
        Answers (.repairGo pool bank row) s fun t => t.getF Reg.POOL.REPAIR_STAT.RESULT = 2 ∧ t.pool = s.chip.pool) ∧
      (s.chip.pool.repair = some (pool.val, bank.val, row.val) →
        Answers .repairDone s fun t => t.flag Reg.POOL.REPAIR_STAT.BUSY = false ∧ t.getF Reg.POOL.REPAIR_STAT.RESULT = 0 ∧
          t.pool.repair = none ∧ t.getF (spareFld pool.val bank.val) = spare - 1 ∧ Recorded Ev.POOL.REPAIR_DONE s.chip t ∧
          (∀ w, (w ∉ rowWords pool.val bank.val row.val ∨ (s.chip.poolWord w).check (poolOfWord w) = .good) →
            t.poolWord w = s.chip.poolWord w) ∧
          KeptBut [0x03, 0x05] [] s.chip t)) ∧
    (∀ a e, busy = false → s.chip.scrubRange = some (a, e) →
      Answers .scrubGo s fun t => t.flag Reg.POOL.SCRUB_STAT.BUSY = true ∧ t.pool = { s.chip.pool with scrubAt := a, scrubEnd := e, scrubStop := false } ∧
        t.getF Reg.POOL.SCRUB_READ.COUNT = 0 ∧ t.getF Reg.POOL.SCRUB_CORR.COUNT = 0 ∧ t.getF Reg.POOL.SCRUB_UNCORR.COUNT = 0 ∧
        t.getF Reg.POOL.SCRUB_FIRST.ADDR = 0xFFFFFFFF ∧ KeptBut [0x03] [] s.chip t) ∧
    (busy = false → s.chip.scrubRange = none →
      Answers .scrubGo s fun t => t.flag Reg.POOL.SCRUB_STAT.RANGE_ERR = true ∧ Kept [Reg.POOL.SCRUB_STAT.RANGE_ERR] s.chip t ∧ Quiet s.chip t) ∧
    (busy = true → Answers .scrubStop s fun t => t.pool = { s.chip.pool with scrubStop := true } ∧ t.regs = s.chip.regs) ∧
    (∀ (up upc : Nat) (hit : Bool), busy = true → s.chip.pool.scrubAt < s.chip.pool.scrubEnd → s.chip.underRepair s.chip.pool.scrubAt = false →
      let w := s.chip.pool.scrubAt
      let u := s.chip.upset w up upc
      let found := (u.poolWord w).check (poolOfWord w)
      (found = .good → Answers (.scrubWord up upc hit) s fun t => plus Reg.POOL.SCRUB_READ.COUNT t ∧ t.pool = { u.pool with scrubAt := w + 1 } ∧
        Kept [Reg.POOL.SCRUB_READ.COUNT] s.chip t) ∧
      (found = .single → hit = false →
        Answers (.scrubWord up upc hit) s fun t => plus Reg.POOL.SCRUB_READ.COUNT t ∧ plus Reg.POOL.SCRUB_CORR.COUNT t ∧ t.pool.scrubAt = w + 1 ∧
          t.poolWord w = { u.poolWord w with flips := 0, chk := 0 } ∧ Recorded Ev.POOL.CORR s.chip t ∧ KeptBut [0x03, 0x05] [] s.chip t) ∧
      (found = .uncorr → hit = false →
        Answers (.scrubWord up upc hit) s fun t => plus Reg.POOL.SCRUB_READ.COUNT t ∧ plus Reg.POOL.SCRUB_UNCORR.COUNT t ∧
          t.pool.scrubAt = w + 1 ∧ t.poolWord w = PoolWord.poisonPattern ∧ Recorded Ev.POOL.POISONED s.chip t ∧ KeptBut [0x03] [] s.chip t)) ∧
    (busy = true → (s.chip.pool.scrubEnd ≤ s.chip.pool.scrubAt ∨ s.chip.pool.scrubStop = true) →
      Answers .scrubDone s fun t => t.flag Reg.POOL.SCRUB_STAT.BUSY = false ∧ t.flag Reg.POOL.SCRUB_STAT.STOPPED = s.chip.pool.scrubStop ∧
        Recorded Ev.POOL.SCRUB_DONE s.chip t ∧ t.pool = { s.chip.pool with scrubStop := false } ∧ KeptBut [0x03] [] s.chip t) ∧
    (∀ e l, s.chip.pool.mev = e :: l →
      Answers .mevPop s fun t => t.pool = { s.chip.pool with mev := l } ∧ t.getF Reg.POOL.MEV_STAT.COUNT = l.length % 2 ^ 5 ∧
        (∀ n r, l = n :: r → t.getF Reg.POOL.MEV_HEAD_INFO.TYPE = n.type % 2 ^ 4 ∧ t.getF Reg.POOL.MEV_HEAD_INFO.POOL = n.pool % 2 ^ 2 ∧
          t.getF Reg.POOL.MEV_HEAD_INFO.MASTER = n.master % 2 ^ 3 ∧ t.getF Reg.POOL.MEV_HEAD_ADDR.ADDR = n.addr % 2 ^ 32) ∧
        KeptBut [0x03] [] s.chip t))

/-! ## The host's requests, vectors and the event counters -/

/-- The host's requests (R421, R423 to R426, R447): in D0 with the link up, a request that fits its BAR joins the queue, in pieces of at most 128
bytes behind BAR2, where the queue has room; the oldest, once performed, leaves with its bytes; an error is counted, raised and, while none is held,
latched, and answered as ERR_MODE says.
Where the rules leave a choice, the model's stands: log entry 28. -/
def Obligations.HostRequests : Prop :=
  ∀ s : State, let q := s.chip.pci
    (∀ (bar2 write : Bool) (ofs : Nat) (bytes : List (Bool × Fin 256)), let l := bytes.map fun p => (p.1, p.2.val)
      let new := if bar2 then bar2Pieces write ofs l else [bar0Piece write ofs l]
      (s.chip.linkUp = true → s.chip.getF Reg.PCIE.PCIE_STAT.DSTATE = 0 → bytes ≠ [] →
        ofs + bytes.length ≤ (if bar2 then 0x400000 else 0x4000000) → (q.queue = [] ∨ q.queue.length + new.length ≤ 32) →
        Answers (.hostRequest bar2 write ofs bytes) s fun t => t.pci = { q with queue := q.queue ++ new } ∧ KeptBut [0x05] [] s.chip t) ∧
      (s.chip.linkUp = false → Answers (.hostRequest bar2 write ofs bytes) s fun t => t = s.chip)) ∧
    (∀ p rest, q.queue = p :: rest →
      (∀ l, p.done = some (.data l) → Answers .hostCompletion s fun t =>
        t = { s.chip with pci := { q with queue := rest, cpl := some { status := 0, ep := false, bytes := l, write := false } } }) ∧
      (p.done = some .done → Answers .hostCompletion s fun t =>
        t = { s.chip with pci := { q with queue := rest, cpl := some { status := 0, ep := false, bytes := [], write := true } } }) ∧
      (∀ cause, p.done = some (.err cause) → Answers .hostCompletion s fun t =>
        let mode := s.chip.flag Reg.PCIE.PCIE_CFG.ERR_MODE
        t.pci.queue = rest ∧ t.pci.cpl = some (errCpl p cause mode) ∧
        t.getF Reg.PCIE.HERR_CNT.COUNT = (s.chip.getF Reg.PCIE.HERR_CNT.COUNT + 1) % 2 ^ Reg.PCIE.HERR_CNT.COUNT.width ∧
        Recorded Ev.PCIE.HOST_ERR s.chip t ∧ t.flag Reg.PCIE.HERR_INFO.VALID = true ∧
        (s.chip.flag Reg.PCIE.HERR_INFO.VALID = false → t.getF Reg.PCIE.HERR_INFO.CAUSE = cause % 2 ^ Reg.PCIE.HERR_INFO.CAUSE.width ∧
          t.flag Reg.PCIE.HERR_INFO.WRITE = p.req.write ∧ t.flag Reg.PCIE.HERR_INFO.BAR = p.bar2) ∧
        (s.chip.flag Reg.PCIE.HERR_INFO.VALID = true → t.rd Reg.PCIE.HERR_INFO.CAUSE.addr = s.chip.rd Reg.PCIE.HERR_INFO.CAUSE.addr ∧
          t.rd Reg.PCIE.HERR_ADDR.addr = s.chip.rd Reg.PCIE.HERR_ADDR.addr) ∧
        t.pci.aerStatus = q.aerStatus ||| (if p.req.write && !mode then aerBit cause else 0) ∧ KeptBut [0x05, 0x0B] [] s.chip t))

/-- The link and its resets (R421, R425, R428, R433, R442, R443): link up shows speed and width; a link down, a Hot Reset among them, and a Function
Level Reset restore the endpoint's queue, settings, vector table, pending array and latches, and a link down is counted; a configuration request sets
the power state, the function mask or the AER settings, or clears AER status bits; a change of speed or width occurs as an event. Vectors (R433,
R436): a vector without a latch that a source or a fault asks for sends its message, or sets its PBA bit where masked, and its latch; a latched one
does nothing; an acknowledgement with nothing asking clears the latch, and with something asking sends again; FAULT_TEST drives FAULT_N.
Where the rules leave a choice, the model's stands: log entry 29. -/
def Obligations.EndpointAndVectors : Prop :=
  (∀ s : State,
    let latches := [(⟨Reg.TOP.VEC_ACK_LO.addr, 0, 32⟩ : Fld), ⟨Reg.TOP.VEC_ACK_HI.addr, 0, 32⟩]
    let fresh := fun (t : Chip) => t.pci = {} ∧ t.getF Reg.PCIE.PCIE_STAT.DSTATE = 0 ∧
      (∀ a, 0x00B08000 ≤ a → a < 0x00B09008 → t.rd a = RegMap.reset a) ∧ (∀ v : Fin 64, t.flag (vecLatchFld v.val) = false) ∧
      KeptBut [0x0B] latches s.chip t
    let shows := fun (speed width : Nat) (t : Chip) => t.getF Reg.PCIE.PCIE_STAT.SPEED = speed % 2 ^ Reg.PCIE.PCIE_STAT.SPEED.width ∧
      t.getF Reg.PCIE.PCIE_STAT.WIDTH = width % 2 ^ Reg.PCIE.PCIE_STAT.WIDTH.width
    (∀ speed width : Fin 8, s.chip.islDown 4 = false → s.chip.flag Reg.PCIE.PCIE_STAT.LINK_UP = false →
      Answers (.linkUp speed width) s fun t => t.flag Reg.PCIE.PCIE_STAT.LINK_UP = true ∧ shows speed.val width.val t ∧
        Recorded Ev.PCIE.LINK_UP s.chip t ∧
        Kept [Reg.PCIE.PCIE_STAT.LINK_UP, Reg.PCIE.PCIE_STAT.SPEED, Reg.PCIE.PCIE_STAT.WIDTH, evtBit Ev.PCIE.LINK_UP] s.chip t ∧ Quiet s.chip t) ∧
    (s.chip.linkUp = true →
      Answers .linkDown s (fun t => fresh t ∧ t.flag Reg.PCIE.PCIE_STAT.LINK_UP = false ∧ Recorded Ev.PCIE.LINK_DOWN s.chip t ∧
        t.getF Reg.PCIE.LINK_DOWN_CNT.COUNT = (s.chip.getF Reg.PCIE.LINK_DOWN_CNT.COUNT + 1) % 2 ^ Reg.PCIE.LINK_DOWN_CNT.COUNT.width) ∧
      Answers .flr s (fun t => fresh t ∧ t.flag Reg.PCIE.PCIE_STAT.LINK_UP = true ∧ Recorded Ev.PCIE.FLR s.chip t) ∧
      (∀ d3 : Bool, Answers (.configRequest (.dState d3)) s fun t => t.getF Reg.PCIE.PCIE_STAT.DSTATE = (if d3 then 3 else 0) ∧
        Kept [Reg.PCIE.PCIE_STAT.DSTATE] s.chip t ∧ Quiet s.chip t) ∧
      Answers (.configRequest (.functionMask true)) s (fun t => t = { s.chip with pci := { s.chip.pci with fmask := true } }) ∧
      Answers (.configRequest (.functionMask false)) s (fun t => t.pci.fmask = false ∧
        (∀ v : Fin 64, t.flag (pbaFld v.val) = (s.chip.flag (pbaFld v.val) && (s.chip.rd (0x00B0800C + 16 * v.val)).bit 0)) ∧
        KeptBut [0x05] [⟨0x00B09000, 0, 32⟩, ⟨0x00B09004, 0, 32⟩] s.chip t) ∧
      (∀ mask sev, Answers (.configRequest (.aerSettings mask sev)) s fun t =>
        t = { s.chip with pci := { s.chip.pci with aerMask := mask, aerSev := sev } }) ∧
      (∀ w, Answers (.configRequest (.aerClear w)) s fun t =>
        t = { s.chip with pci := { s.chip.pci with aerStatus := s.chip.pci.aerStatus &&& ~~~w } }) ∧
      (∀ speed width : Fin 8,
        Answers (.speedChange speed width) s fun t => shows speed.val width.val t ∧
          ((s.chip.getF Reg.PCIE.PCIE_STAT.SPEED ≠ speed.val ∨ s.chip.getF Reg.PCIE.PCIE_STAT.WIDTH ≠ width.val) →
            Recorded Ev.PCIE.SPEED_CHANGE s.chip t) ∧
          Kept [Reg.PCIE.PCIE_STAT.SPEED, Reg.PCIE.PCIE_STAT.WIDTH, evtBit Ev.PCIE.SPEED_CHANGE] s.chip t ∧ Quiet s.chip t))) ∧
  (∀ (s : State) (v : Fin 64),
    let asks := s.chip.vecSources v.val ≠ [] ∨ s.chip.vecFault v.val = true
    let up := s.chip.flag Reg.PCIE.PCIE_STAT.LINK_UP = true
    let served := fun (t : Chip) => t.flag (vecLatchFld v.val) = true ∧ (∀ n ∈ s.chip.vecSources v.val, t.top.msiDue.testBit n = false) ∧
      t.top.faultPend = (s.chip.top.faultPend && !s.chip.vecFault v.val) ∧ KeptBut [0x05] [vecLatchFld v.val, pbaFld v.val] s.chip t
    (s.chip.vecLatch v.val = false → asks → s.chip.islDown 4 = false →
      (s.chip.vecMasked v.val = true → Answers (.msixSend v) s fun t => served t ∧ t.flag (pbaFld v.val) = true ∧ t.pci = s.chip.pci) ∧
      (s.chip.vecMasked v.val = false → up → Answers (.msixSend v) s fun t => served t ∧ t.pci = { s.chip.pci with msi := some v.val } ∧
        t.flag (pbaFld v.val) = s.chip.flag (pbaFld v.val))) ∧
    (s.chip.vecLatch v.val = true → Answers (.msixSend v) s fun t => t = s.chip) ∧
    (¬ asks → Answers (.vecAck v) s fun t => t.flag (vecLatchFld v.val) = false ∧ Kept [vecLatchFld v.val] s.chip t ∧ Quiet s.chip t) ∧
    (asks → s.chip.islDown 4 = false → s.chip.vecMasked v.val = false → up →
      Answers (.vecAck v) s fun t => served t ∧ t.pci = { s.chip.pci with msi := some v.val }) ∧
    (∀ on : Bool, Answers (.faultTest on) s fun t => t.flag Reg.TOP.FAULT_TEST.TEST = on ∧
      (s.chip.clk.poreset = false → on = true → t.faultDriven = true) ∧ Kept [Reg.TOP.FAULT_TEST.TEST] s.chip t ∧ Quiet s.chip t))

/-- Snapshots, chains and the sampler (R446, R448 to R451): a snapshot copies all 512 counters and the time and counts itself; a read of a chain's
first counter latches the rest for that master; a write of the settings starts a new interval, of the period itself where DITHER is 0; a sampled
instruction is recorded at WP with its sequence number, or dropped and counted where 2,048 records wait; RP moves and COUNT follows.
Where the rules leave a choice, the model's stands: log entries 8, 51. -/
def Obligations.CounterReadout : Prop :=
  ∀ s : State,
    let wp := s.chip.getF Reg.EVC.SMP_WP.WP
    let rp := s.chip.getF Reg.EVC.SMP_RP.RP
    let n := (wp + 4096 - rp) % 4096
    let e := s.chip.evcs
    Answers .snapNow s (fun t => (∀ k : Fin 512, t.getF (Reg.EVC.EVC_SNAP.COUNT k.val) = s.chip.getF (Reg.EVC.EVC_CNT.COUNT k.val) ∧
          t.getF (Reg.EVC.EVC_CNT.COUNT k.val) = s.chip.getF (Reg.EVC.EVC_CNT.COUNT k.val)) ∧
        t.getF Reg.EVC.SNAP_SEC_LO.SEC = s.chip.wstNow / secT16 % 2 ^ 32 ∧ t.getF Reg.EVC.SNAP_SEC_HI.SEC = s.chip.wstNow / secT16 / 2 ^ 32 % 2 ^ 16 ∧
        t.getF Reg.EVC.SNAP_NS.NS = s.chip.wstNow % secT16 / 65536 % 2 ^ 30 ∧
        t.getF Reg.EVC.SNAP_SEQ.SEQ = (s.chip.getF Reg.EVC.SNAP_SEQ.SEQ + 1) % 2 ^ Reg.EVC.SNAP_SEQ.SEQ.width ∧
        Recorded Ev.EVC.SNAP_DONE s.chip t ∧ KeptBut [0x05] [] s.chip t ∧ Quiet s.chip t) ∧
    (∀ (m : Fin 8) (k : Fin 512), (k.val = 0 ∨ s.chip.chained (k.val - 1) = false) →
      Answers (.chainRead m k) s fun t =>
        (∀ j ∈ s.chip.chainRest 512 k.val, Tab.get 0 t.evcs.chain (512 * m.val + j) = s.chip.rd (Reg.EVC.EVC_CNT.addr j)) ∧
        (∀ i, (∀ j ∈ s.chip.chainRest 512 k.val, i ≠ 512 * m.val + j) → Tab.get 0 t.evcs.chain i = Tab.get 0 e.chain i) ∧
        t = { s.chip with evcs := { e with chain := t.evcs.chain } }) ∧
    (∀ v : Word, Answers (.smpConfigWrite true v) s fun t => t.getF Reg.EVC.SMP_PERIOD.N = v.toNat % 2 ^ 24 ∧
        (s.chip.getF Reg.EVC.SMP_CFG.DITHER = 0 → t.evcs.smpLen = max 64 (v.toNat % 2 ^ 24)) ∧
        Kept [Reg.EVC.SMP_PERIOD.N] s.chip t ∧ t.evcs.smpSeq = e.smpSeq) ∧
    (∀ v : Word, Answers (.smpConfigWrite false v) s fun t => t.flag Reg.EVC.SMP_CFG.EN = v.bit 31 ∧ t.getF Reg.EVC.SMP_CFG.CLASS = v.field 28 2 ∧
        t.getF Reg.EVC.SMP_CFG.DITHER = v.field 16 4 ∧ t.getF Reg.EVC.SMP_CFG.SRC = v.field 8 4 ∧
        (v.field 16 4 = 0 → t.evcs.smpLen = max 64 (s.chip.getF Reg.EVC.SMP_PERIOD.N)) ∧ Kept [⟨Reg.EVC.SMP_CFG.addr, 0, 32⟩] s.chip t) ∧
    (∀ v : Nat, Answers (.smpRpWrite v) s fun t => t.getF Reg.EVC.SMP_RP.RP = v % 4096 ∧
        t.getF Reg.EVC.SMP_STAT.COUNT = (wp + 4096 - v % 4096) % 4096 ∧
        Kept [Reg.EVC.SMP_RP.RP, Reg.EVC.SMP_STAT.COUNT] s.chip t ∧ Quiet s.chip t) ∧
    (∀ o : SampleOcc, s.chip.smpCounts o = true → 2048 ≤ n →
      Answers (.sample o) s fun t => t.getF Reg.EVC.SMP_DROP.COUNT = (s.chip.getF Reg.EVC.SMP_DROP.COUNT + 1) % 2 ^ 32 ∧ t.evcs.gap = true ∧
        t.evcs.smpSeq = (e.smpSeq + 1) % 2 ^ 32 ∧ Recorded Ev.EVC.SMP_FULL s.chip t ∧
        Kept [Reg.EVC.SMP_DROP.COUNT, evtBit Ev.EVC.SMP_FULL] s.chip t) ∧
    (∀ core user latency pc sec t16, s.chip.smpCounts (.instruction core user latency pc sec t16) = true → n < 2048 →
      Answers (.sample (.instruction core user latency pc sec t16)) s fun t =>
        let w := fun i => t.rd (Reg.EVC.SMP_BUF.addr (wp % 2048) i)
        w 0 = BitVec.ofNat 32 (2 * 2 ^ 28 + core.val * 2 ^ 24 + user.toNat * 2 ^ 17 + e.gap.toNat * 2 ^ 16) ∧
        w 1 = BitVec.ofNat 32 (min latency 65535) ∧ w 2 = BitVec.ofNat 32 pc ∧ w 4 = BitVec.ofNat 32 (t16 / 65536) ∧ w 5 = BitVec.ofNat 32 sec ∧
        w 7 = BitVec.ofNat 32 (e.smpSeq + 1) ∧ t.getF Reg.EVC.SMP_WP.WP = (wp + 1) % 4096 ∧ t.getF Reg.EVC.SMP_STAT.COUNT = n + 1 ∧
        t.evcs.gap = false ∧ (n + 1 = s.chip.getF Reg.EVC.SMP_STAT.THR → Recorded Ev.EVC.SMP_THR s.chip t) ∧ KeptBut [0x05] [] s.chip t)

/-- Chained counters (R445): while bit k of the chain registers is 1, counter k+1 does not count its own source; it adds 1 when counter k wraps and
stands when it does not, and counter k sets its OVF bit when it wraps. -/
def Obligations.CounterChains : Prop :=
  ∀ (s : Chip) (k : Nat), k < 511 → s.chained k = true →
    (∀ n, s.evc (k + 1) n = s) ∧
    ((k = 0 ∨ s.chained (k - 1) = false) →
      (s.getF (Reg.EVC.EVC_CNT.COUNT k) = 2 ^ 32 - 1 →
        (s.evc k).getF (Reg.EVC.EVC_CNT.COUNT k) = 0 ∧
        (s.evc k).getF (Reg.EVC.EVC_CNT.COUNT (k + 1)) = (s.getF (Reg.EVC.EVC_CNT.COUNT (k + 1)) + 1) % 2 ^ 32 ∧
        ((s.evc k).getF (Reg.EVC.OVF.OVF (k / 32))).testBit (k % 32) = true) ∧
      (s.getF (Reg.EVC.EVC_CNT.COUNT k) < 2 ^ 32 - 1 →
        (s.evc k).getF (Reg.EVC.EVC_CNT.COUNT k) = s.getF (Reg.EVC.EVC_CNT.COUNT k) + 1 ∧
        (s.evc k).getF (Reg.EVC.EVC_CNT.COUNT (k + 1)) = s.getF (Reg.EVC.EVC_CNT.COUNT (k + 1))))

/-! ## Clocks, gating, resets and power states -/

/-- Clock sources (R455, R457, R458, R474): outside a boot sequence the ready and lock flags follow their sources, XTAL_READY starting 16 windows of
learning with its event; a lock lost outside a root change raises PLL_LOL; a root change that is refused says why and changes nothing else, BUSY
while one moves before NOT_READY; an accepted one moves the roots, a move of the timing root clears the history and, to ROSC, disqualifies every
slot; its end clears RESULT. The clock monitor (R458 to R460, R462): a loss of the crystal's activity trips it, and so does a window more than 2 %
out that SDREFCLK does not contradict; a trip sets CLK_FAIL whatever its mask, ends XTAL_READY and moves both roots to ROSC, or, with ROSC not ready,
gates the islands of the crystal and waits; a window within 2 % only reports its count; where the cross-check clears the crystal, ROSC_BAD occurs and
learning starts anew; the sixteenth window of learning gives REF_CNT and ends the cause.
Where the rules leave a choice, the model's stands: log entries 6, 23. -/
def Obligations.Clocks : Prop :=
  (∀ s : State,
    let phase := s.chip.getF Reg.BOOT.BOOT_STAT.PHASE
    let runs := (phase = 0 ∨ phase = 5 ∨ phase = 6) ∧ s.chip.clk.failWait = false ∧ s.chip.clk.failGated = 0
    let lock := fun (sys : Bool) => if sys then Reg.CLK.CLK_STAT.SPLL_LOCK else Reg.CLK.CLK_STAT.MPLL_LOCK
    let ready := fun (to_ : Bool) => s.chip.flag (if to_ then Reg.CLK.CLK_STAT.ROSC_READY else Reg.CLK.CLK_STAT.XTAL_READY)
    let able := fun (root : Fld) (to_ : Bool) => s.chip.flag root = to_ ∨ ready to_ = true
    let refused := fun (code : Nat) (t : Chip) => t.getF Reg.CLK.SW_STAT.RESULT = code ∧ Recorded Ev.CLK.SW_REFUSED s.chip t ∧
      Kept [Reg.CLK.SW_STAT.RESULT, evtBit Ev.CLK.SW_REFUSED] s.chip t ∧ Quiet s.chip t
    (runs → s.chip.flag Reg.CLK.CLK_STAT.ROSC_READY = false → s.chip.clk.asleep = false → s.chip.clk.aonLow = false →
      s.chip.getF Reg.CLK.PWR_STAT.STATE ≠ 1 →
      Answers .roscReady s fun t => t.flag Reg.CLK.CLK_STAT.ROSC_READY = true ∧ Kept [Reg.CLK.CLK_STAT.ROSC_READY] s.chip t ∧ Quiet s.chip t) ∧
    (runs → s.chip.flag Reg.CLK.CLK_STAT.XTAL_READY = false →
      Answers .xtalReady s fun t => t.flag Reg.CLK.CLK_STAT.XTAL_READY = true ∧ t.clk.learnLeft = 16 ∧ Recorded Ev.CLK.XTAL_READY s.chip t ∧
        Kept [Reg.CLK.CLK_STAT.XTAL_READY, evtBit Ev.CLK.XTAL_READY] s.chip t) ∧
    (∀ pcie on : Bool, Answers (.refclkReady pcie on) s fun t =>
      let f := if pcie then Reg.CLK.CLK_STAT.PCIEREF_READY else Reg.CLK.CLK_STAT.SDREF_READY
      t.flag f = on ∧ Kept [f] s.chip t ∧ Quiet s.chip t) ∧
    (∀ sys : Bool,
      (runs → Answers (.pllLock sys) s fun t => t.flag (lock sys) = true ∧ Kept [lock sys] s.chip t ∧ Quiet s.chip t) ∧
      (s.chip.clk.moving = none → Answers (.pllLol sys) s fun t => t.flag (lock sys) = false ∧ Recorded Ev.CLK.PLL_LOL s.chip t ∧
        Kept [lock sys, evtBit Ev.CLK.PLL_LOL] s.chip t ∧ Quiet s.chip t)) ∧
    (∀ w : Word, let mgmt := w.bit 0; let time := w.bit 1
      (s.chip.clk.moving.isSome = true → Answers (.rootCfgWrite w) s (refused 2)) ∧
      (s.chip.clk.moving = none → ¬(able Reg.CLK.CLK_STAT.MGMT_ROOT mgmt ∧ able Reg.CLK.CLK_STAT.TIME_ROOT time) →
        Answers (.rootCfgWrite w) s (refused 1)) ∧
      (s.chip.clk.moving = none → able Reg.CLK.CLK_STAT.MGMT_ROOT mgmt → able Reg.CLK.CLK_STAT.TIME_ROOT time →
        (s.chip.flag Reg.CLK.CLK_STAT.MGMT_ROOT ≠ mgmt ∨ s.chip.flag Reg.CLK.CLK_STAT.TIME_ROOT ≠ time) →
        Answers (.rootCfgWrite w) s fun t => t.flag Reg.CLK.CLK_STAT.MGMT_ROOT = mgmt ∧ t.flag Reg.CLK.CLK_STAT.TIME_ROOT = time ∧
          t.flag Reg.CLK.ROOT_CFG.MGMT_ROOT = mgmt ∧ t.flag Reg.CLK.ROOT_CFG.TIME_ROOT = time ∧ t.getF Reg.CLK.SW_STAT.RESULT = 3 ∧
          t.clk.moving = some (mgmt.toNat, time.toNat) ∧
          (s.chip.flag Reg.CLK.CLK_STAT.TIME_ROOT ≠ time → t.flag Reg.TIM.DPLL_STAT.HIST_VALID = false ∧
            (time = true → ∀ r : Fin 8, t.refOk r.val = false)) ∧ KeptBut [0x01, 0x06] [] s.chip t)) ∧
    (runs → s.chip.clk.moving.isSome = true →
      Answers .swDone s fun t => t.getF Reg.CLK.SW_STAT.RESULT = 0 ∧ t.clk.moving = none ∧ Recorded Ev.CLK.SW_DONE s.chip t ∧
        Kept [Reg.CLK.SW_STAT.RESULT, evtBit Ev.CLK.SW_DONE] s.chip t)) ∧
  (∀ s : State,
    let v := s.chip.clk
    let both := s.chip.flag Reg.CLK.CLK_STAT.MGMT_ROOT && s.chip.flag Reg.CLK.CLK_STAT.TIME_ROOT
    let ref := s.chip.getF Reg.CLK.MON_STAT.REF_CNT
    let off := fun (x : Nat) => 50 * ((x : Int) - ref).natAbs
    let tripped := fun (t : Chip) => (t.rd (Ev.CLK.base + 0xF0)).getLsbD 0 = true ∧ (t.liveWord Ev.CLK.base).getLsbD 0 = true ∧
      t.flag Reg.CLK.CLK_STAT.XTAL_READY = false ∧ t.clk.learnLeft = 0 ∧ KeptBut ([0x01, 0x06, 0x0A]) [] s.chip t
    let moved := fun (t : Chip) => t.flag Reg.CLK.CLK_STAT.MGMT_ROOT = true ∧ t.flag Reg.CLK.CLK_STAT.TIME_ROOT = true ∧
      (both = false → t.getF Reg.CLK.SW_STAT.RESULT = 3 ∧ t.clk.moving = some (1, 1))
    let onRosc := s.chip.flag Reg.CLK.CLK_STAT.ROSC_READY = true
    (v.asleep = false →
      (onRosc → Answers .xtalActivityTrip s fun t => tripped t ∧ moved t ∧
        ((s.chip.rd (Ev.CLK.base + 0xF0)).getLsbD 0 = false → t.top.faultPend = true)) ∧
      (¬ onRosc → both = false → Answers .xtalActivityTrip s fun t => tripped t ∧ t.getF Reg.CLK.SW_STAT.RESULT = 1 ∧
        Recorded Ev.CLK.SW_REFUSED s.chip t ∧ t.clk.failWait = true ∧ (∀ i ∈ s.chip.xtalIslands, t.islDown i = true))) ∧
    (v.asleep = true → s.chip.flag Reg.CLK.PWR_CTRL.DS_XTAL = false → Answers .xtalActivityTrip s fun t => t = s.chip) ∧
    (∀ x sd : Nat, onRosc → x < 2 ^ 16 →
      let counted := fun (more : List Fld) (t : Chip) => t.getF Reg.CLK.MON_STAT.LAST_CNT = x ∧ Kept (Reg.CLK.MON_STAT.LAST_CNT :: more) s.chip t
      (s.chip.flag Reg.CLK.CLK_STAT.XTAL_READY = false → Answers (.clkMonWindow x sd) s fun t => counted [] t ∧ Quiet s.chip t) ∧
      (s.chip.flag Reg.CLK.CLK_STAT.XTAL_READY = true →
        (1 < v.learnLeft → Answers (.clkMonWindow x sd) s fun t => counted [] t ∧ t.clk.learnLeft = v.learnLeft - 1 ∧ t.clk.learnX = v.learnX + x) ∧
        (∀ n, v.learnLeft = 1 → v.learnX + x = 16 * n → Answers (.clkMonWindow x sd) s fun t =>
          counted [Reg.CLK.MON_STAT.REF_CNT] t ∧ t.getF Reg.CLK.MON_STAT.REF_CNT = n % 2 ^ 16 ∧ t.clk.learnLeft = 0 ∧
          (t.liveWord Ev.CLK.base).getLsbD 0 = false) ∧
        (v.learnLeft = 0 → off x ≤ ref → Answers (.clkMonWindow x sd) s fun t => counted [] t ∧ Quiet s.chip t) ∧
        (v.learnLeft = 0 → ref < off x → s.chip.flag Reg.CLK.CLK_STAT.SDREF_READY = false →
          Answers (.clkMonWindow x sd) s fun t => tripped t ∧ moved t) ∧
        (v.learnLeft = 0 → ref < off x → s.chip.flag Reg.CLK.CLK_STAT.SDREF_READY = true → v.ratioS ≠ 0 →
          50 * ((x * v.ratioS : Nat) - (sd * v.ratioX : Nat) : Int).natAbs ≤ sd * v.ratioX →
          Answers (.clkMonWindow x sd) s fun t => counted [evtBit Ev.CLK.ROSC_BAD] t ∧ Recorded Ev.CLK.ROSC_BAD s.chip t ∧
            t.clk.learnLeft = 16))))

/-- Gating (R464, R465): a request with a cause is refused with its cause and island; another waits as pending, or is carried out at once on an
island in reset; the host's cancel and the time limit refuse it, and once the bridges are quiet the island is gated with GATE_DONE; ungating takes
the request bit away first and the gate at its end.
Where the rules leave a choice, the model's stands: log entry 25. -/
def Obligations.Gating : Prop :=
  ∀ (s : State) (i : Fin 6), let k := i.val
    let gated := s.chip.bitOf Reg.CLK.GATE_STAT.GATED k
    let pending := s.chip.bitOf Reg.CLK.GATE_STAT.PENDING k
    let refused := fun (cause : Nat) (t : Chip) => t.getF Reg.CLK.GATE_STAT.CAUSE = cause ∧ t.getF Reg.CLK.GATE_STAT.REF_ISL = k ∧
      t.bitOf Reg.CLK.GATE_CTRL.GATE k = false ∧ t.bitOf Reg.CLK.GATE_STAT.PENDING k = false ∧ Recorded Ev.CLK.GATE_REFUSED s.chip t ∧
      t.getF Reg.CLK.GATE_STAT.GATED = s.chip.getF Reg.CLK.GATE_STAT.GATED ∧ KeptBut [0x01] [] s.chip t ∧ Quiet s.chip t
    let closed := fun (t : Chip) => t.bitOf Reg.CLK.GATE_STAT.GATED k = true ∧ t.bitOf Reg.CLK.GATE_STAT.PENDING k = false ∧
      Recorded Ev.CLK.GATE_DONE s.chip t ∧ KeptBut (0x01 :: lineBlocks) [] s.chip t ∧ Elsewhere s.chip t
    (∀ m : Fin 8, s.chip.bitOf Reg.CLK.GATE_CTRL.GATE k = false → gated = false →
      (s.chip.gateCause m.val k ≠ 0 → Answers (.gateRequest m i) s (refused (s.chip.gateCause m.val k))) ∧
      (s.chip.gateCause m.val k = 0 → s.chip.clk.held.testBit k = false →
        Answers (.gateRequest m i) s fun t => t.bitOf Reg.CLK.GATE_CTRL.GATE k = true ∧ t.bitOf Reg.CLK.GATE_STAT.PENDING k = true ∧
          Kept [Reg.CLK.GATE_CTRL.GATE, Reg.CLK.GATE_STAT.PENDING] s.chip t ∧ Quiet s.chip t) ∧
      (s.chip.gateCause m.val k = 0 → s.chip.clk.held.testBit k = true →
        Answers (.gateRequest m i) s fun t => closed t ∧ t.bitOf Reg.CLK.GATE_CTRL.GATE k = true)) ∧
    (pending = true → Answers (.gateCancel i) s (refused 6)) ∧
    (pending = true → s.chip.bridgesQuiet k = true → Answers (.gateDone i) s closed) ∧
    (pending = true → s.chip.bridgesQuiet k = false → Answers (.gateTimeout i) s (refused 5)) ∧
    (pending = false → Answers (.gateDone i) s fun t => t = s.chip) ∧
    (gated = true → s.chip.bitOf Reg.CLK.GATE_CTRL.GATE k = true →
      Answers (.ungate i) s fun t => t.bitOf Reg.CLK.GATE_CTRL.GATE k = false ∧ t.clk.ungate.testBit k = true ∧ t.bitOf Reg.CLK.GATE_STAT.GATED k = true ∧
        Kept [Reg.CLK.GATE_CTRL.GATE] s.chip t) ∧
    (s.chip.clk.ungate.testBit k = true →
      Answers (.ungateDone i) s fun t => t.bitOf Reg.CLK.GATE_STAT.GATED k = false ∧ t.clk.ungate.testBit k = false ∧
        Recorded Ev.CLK.GATE_DONE s.chip t ∧ KeptBut (0x01 :: lineBlocks) [] s.chip t)

/-- Resets (R366, R400, R466 to R468, R473, R531): a device reset by PCIe with the key, or by JTAG, restores every register but those a device reset
keeps, with its cause; without the key, or from another master, nothing happens; a system reset leaves AON, restarts at step 4 and empties the pools;
an island's reset holds it and restores its registers, its release lets it run; JTAG's internal scan and memory BIST erase every key first.
Where the rules leave a choice, the model's stands: log entry 22. -/
def Obligations.Resets : Prop :=
  ∀ (s : State) (w : Word),
    let kept := [Reg.BOOT.BOOT_STAT.addr, Reg.BOOT.BOOT_CTRL.addr, Reg.CLK.PWR_CTRL.addr, Reg.CLK.CLK_STAT.addr, Reg.CLK.WAKE_CFG.addr,
      Reg.CLK.RST_CAUSE.addr, Reg.SUBC.INLET_SERIAL_LO.addr .A, Reg.SUBC.INLET_SERIAL_LO.addr .A + 4, Reg.SUBC.INLET_SERIAL_LO.addr .B,
      Reg.SUBC.INLET_SERIAL_LO.addr .B + 4]
    let device := fun (cause : Fld) (t : Chip) => t.flag cause = true ∧ (∀ a, a ∉ kept → t.rd a = RegMap.reset a) ∧
      (∀ f ∈ [Reg.BOOT.BOOT_STAT.PRIM_BAD, Reg.BOOT.BOOT_STAT.GOLD_BAD, Reg.BOOT.BOOT_CTRL.NEXT_IMAGE, Reg.CLK.PWR_CTRL.DS_XTAL,
        Reg.CLK.CLK_STAT.ROSC_READY], t.flag f = s.chip.flag f) ∧ t.rd Reg.CLK.WAKE_CFG.addr = s.chip.rd Reg.CLK.WAKE_CFG.addr ∧
      t.getF Reg.BOOT.BOOT_STAT.PHASE = 0 ∧ t.clk.held = 0xFF ∧ t.pool.words = [] ∧ t.sec.slots = [] ∧ t.fuse = s.chip.fuse ∧
      t.boot.flash = s.chip.boot.flash
    let key := w.field 16 16 = 0x5EE9
    let erased := fun (t : Chip) => (∀ k : Fin 64, t.slotOf k.val = {}) ∧ (∀ r ∈ lineKeys, t.keySlot r.1 r.2.1 r.2.2 = none) ∧ t.sec.bootKey = none
    (key → w.bit 0 = true → Answers (.deviceReset 4 w) s (device Reg.CLK.RST_CAUSE.HOST)) ∧
    (∀ m : Fin 8, (m.val ≠ 4 ∨ ¬ key) → Answers (.deviceReset m w) s fun t => t = s.chip) ∧
    Answers .jtagDeviceReset s (device Reg.CLK.RST_CAUSE.JTAG) ∧
    (key → w.bit 1 = true → s.chip.bootArea ≠ 0 →
      Answers (.systemReset w) s fun t => t.getF Reg.BOOT.BOOT_STAT.PHASE = 2 ∧ t.flag Reg.CLK.RST_CAUSE.HOST = true ∧
        t.boot.area = s.chip.bootArea ∧ t.clk.held.testBit 6 = false ∧ t.clk.held.testBit 4 = false ∧ t.clk.held.testBit 3 = true ∧
        t.getF Reg.CLK.GATE_STAT.GATED = 0 ∧ t.pool.words = [] ∧ t.sec.slots = [] ∧ t.fuse = s.chip.fuse ∧ t.boot.flash = s.chip.boot.flash ∧
        t.rd Reg.CLK.CLK_STAT.addr = s.chip.rd Reg.CLK.CLK_STAT.addr ∧ t.rd Reg.CLK.WAKE_CFG.addr = s.chip.rd Reg.CLK.WAKE_CFG.addr) ∧
    (¬ key → Answers (.systemReset w) s fun t => t = s.chip) ∧
    (∀ i : Fin 6,
      let mine := fun (t : Chip) => (∀ a, islandOf a = some i.val → 3 ≤ i.val → t.rd a = RegMap.reset a) ∧ t.fuse = s.chip.fuse ∧
        t.boot = s.chip.boot ∧ t.pool = s.chip.pool ∧ t.mgmt = s.chip.mgmt
      (s.chip.bitOf Reg.CLK.RST_CTRL.ISL_RST i.val = false →
        Answers (.islRstSet i) s fun t => t.bitOf Reg.CLK.RST_CTRL.ISL_RST i.val = true ∧ t.clk.held.testBit i.val = true ∧ mine t) ∧
      (s.chip.bitOf Reg.CLK.RST_CTRL.ISL_RST i.val = true → s.chip.sec.pinLow = false →
        Answers (.islRstRelease i) s fun t => t.bitOf Reg.CLK.RST_CTRL.ISL_RST i.val = false ∧ t.clk.held.testBit i.val = false ∧ mine t)) ∧
    Answers .jtagIntscan s (fun t => erased t ∧ t.top.jtag = 1 ∧ t.fuse = s.chip.fuse ∧ KeptBut [0x08, 0x17, 0x1F] [] s.chip t) ∧
    Answers .jtagMembist s (fun t => erased t ∧ t.top.jtag = 2 ∧ t.pool.words = [] ∧ t.fuse = s.chip.fuse ∧ KeptBut [0x08, 0x17, 0x1F] [] s.chip t)

/-- Deep sleep and supply (R361, R469 to R471, R514, R515): the command, with its key and from EARLY_LIGHT on, ramps both transmitters down; once
they are off everything but AON stops; a matching GPIO level, or ZEROIZE_N low, which erases the keys, wakes; with ROSC ready again the islands are
reset and the boot goes on from step 3; the voltage code moves at most ten steps.
Where the rules leave a choice, the model's stands: log entries 22, 24. -/
def Obligations.PowerStates : Prop :=
  ∀ (s : State) (w : Word),
    let key := w.field 16 16 = 0x5EE9
    let phase := s.chip.getF Reg.BOOT.BOOT_STAT.PHASE
    let vid := s.chip.getF Reg.CLK.AVS_STAT.VID
    (key → w.bit 0 = true → 5 ≤ phase →
      Answers (.deepSleep w) s fun t => t.clk.sleepDue = true ∧ t.flag Reg.CLK.PWR_CTRL.DS_XTAL = w.bit 1 ∧
        (∀ c, t.flag (Reg.TXD.CTRL.TX_EN c) = false) ∧
        (∀ c, s.chip.txState c = 2 → s.chip.flag (Reg.TXD.CTRL.MUTE c) = false → (s.chip.txd.get c).pllLol = false → t.txState c = 3) ∧
        KeptBut (0x01 :: lineBlocks) [] s.chip t ∧ t.fuse = s.chip.fuse ∧ t.boot = s.chip.boot ∧ t.pool = s.chip.pool ∧ t.sec = s.chip.sec) ∧
    ((¬ key ∨ w.bit 0 = false ∨ phase < 5) → Answers (.deepSleep w) s fun t => t = s.chip) ∧
    (s.chip.clk.sleepDue = true → s.chip.txState .A = 0 → s.chip.txState .B = 0 →
      Answers .deepSleepEntered s fun t => t.getF Reg.CLK.PWR_STAT.STATE = 1 ∧ t.clk.asleep = true ∧ t.clk.sleepDue = false ∧
        t.getF Reg.CLK.GATE_STAT.GATED = 0x3F ∧ t.flag Reg.CLK.CLK_STAT.ROSC_READY = false ∧ t.flag Reg.CLK.CLK_STAT.MPLL_LOCK = false ∧
        t.flag Reg.CLK.CLK_STAT.SPLL_LOCK = false ∧
        t.flag Reg.CLK.CLK_STAT.XTAL_READY = (s.chip.flag Reg.CLK.CLK_STAT.XTAL_READY && s.chip.flag Reg.CLK.PWR_CTRL.DS_XTAL) ∧
        (∀ i : Fin 8, t.clk.held.testBit i.val = true) ∧ t.boot = s.chip.boot ∧ t.fuse = s.chip.fuse ∧ t.pool.words = []) ∧
    (∀ (gpio : BitVec 16) (zeroize : Bool), s.chip.clk.asleep = true →
      let hit := fun (g : Nat) => s.chip.bitOf Reg.CLK.WAKE_CFG.MASK g && gpio.getLsbD g == s.chip.bitOf Reg.CLK.WAKE_CFG.POL g
      ((zeroize = true ∨ ∃ g : Fin 16, hit g.val = true) →
        Answers (.wake gpio zeroize) s fun t => t.clk.asleep = false ∧ (∀ g : Fin 16, t.bitOf Reg.CLK.WAKE_STAT.GPIO g.val = hit g.val) ∧
          t.flag Reg.CLK.WAKE_STAT.ZEROIZE = zeroize ∧ Recorded Ev.CLK.WAKE s.chip t ∧ (zeroize = true → ∀ k : Fin 64, t.slotOf k.val = {}) ∧
          (zeroize = false → Kept [Reg.CLK.WAKE_STAT.GPIO, Reg.CLK.WAKE_STAT.ZEROIZE, evtBit Ev.CLK.WAKE] s.chip t)) ∧
      (zeroize = false → (∀ g : Fin 16, hit g.val = false) → Answers (.wake gpio zeroize) s fun t => t = s.chip)) ∧
    (s.chip.clk.asleep = false → s.chip.clk.aonLow = false → s.chip.clk.failWait = false → s.chip.getF Reg.CLK.PWR_STAT.STATE = 1 →
      s.chip.flag Reg.CLK.CLK_STAT.ROSC_READY = false → s.chip.flag Reg.CLK.CLK_STAT.MPLL_LOCK = false → s.chip.bootArea ≠ 0 →
      Answers .roscReady s fun t => t.getF Reg.CLK.PWR_STAT.STATE = 2 ∧ t.flag Reg.CLK.RST_CAUSE.SLEEP_EXIT = true ∧
        t.getF Reg.BOOT.BOOT_STAT.PHASE = 1 ∧ t.flag Reg.CLK.CLK_STAT.ROSC_READY = true ∧ t.fuse = s.chip.fuse) ∧
    (∀ want : Fin 31,
      let goal := if s.chip.flag Reg.CLK.AVS_CFG.EN then want.val else min 30 (s.chip.getF Reg.CLK.AVS_CFG.FIXED)
      Answers (.avsUpdate want) s fun t => t.getF Reg.CLK.AVS_STAT.VID = vidToward vid goal ∧
        (vid ≤ goal + 10 → goal ≤ vid + 10 → t.getF Reg.CLK.AVS_STAT.VID = goal) ∧ Kept [Reg.CLK.AVS_STAT.VID] s.chip t ∧ Quiet s.chip t)

/-! ## The monitor, the front-end buses, self-test and calibration -/

/-- The monitor (R475, R477 to R484): EN starts the sequence at its first entry, and clearing it ends it with every filter cleared; nothing is
converted while it is off or its island is down; a result of one sample in range goes to its channel's filter and, with QUEUE_EN, to the queue while
fewer than 256 wait, an over-range one is counted; the filter's output is the mean of its window, and limits, consecutive counts and actions follow
it; the queue is popped and flushed.
Where the rules leave a choice, the model's stands: log entry 48. -/
def Obligations.Monitor : Prop :=
  ∀ s : State,
    let m := s.chip.mon
    let head := fun (t : Chip) => t.getF Reg.MON.MON_STAT.Q_COUNT = t.mon.queue.length % 2 ^ 9 ∧
      (t.mon.queue = [] → t.flag Reg.MON.QUEUE_HEAD.VALID = false) ∧
      (∀ c ovr dist v l, t.mon.queue = (c, ovr, dist, v) :: l → t.flag Reg.MON.QUEUE_HEAD.VALID = true ∧ t.getF Reg.MON.QUEUE_HEAD.TAG = c % 32 ∧
        t.flag Reg.MON.QUEUE_HEAD.OVR = ovr ∧ t.flag Reg.MON.QUEUE_HEAD.DIST = dist ∧ t.getF Reg.MON.QUEUE_HEAD.VALUE = v % 2 ^ 16) ∧
      Kept [Reg.MON.MON_STAT.Q_COUNT, ⟨Reg.MON.QUEUE_HEAD.addr, 0, 32⟩] s.chip t
    (s.chip.flag Reg.MON.MON_CTRL.EN = false → ∀ c r, s.chip.monPass.dropWhile s.chip.monSkip = c :: r →
      Answers .monEnSet s fun t => t.flag Reg.MON.MON_CTRL.EN = true ∧ t.flag Reg.MON.MON_STAT.RUNNING = true ∧
        t.mon.cur = some (c, s.chip.rd (Reg.MON.CH_CFG.addr c)) ∧ t.mon.rest = r ∧ Kept [Reg.MON.MON_CTRL.EN, Reg.MON.MON_STAT.RUNNING] s.chip t) ∧
    Answers .monEnClear s (fun t => t.flag Reg.MON.MON_CTRL.EN = false ∧ t.flag Reg.MON.MON_STAT.RUNNING = false ∧ t.mon.cur = none ∧
      (∀ c : Fin 32, t.flag (Reg.MON.FILT_VAL.VALID c.val) = false ∧ (t.monCh c.val).win = [] ∧ (t.monCh c.val).fresh = 0 ∧
        (t.monCh c.val).viol = (s.chip.monCh c.val).viol) ∧ t.mon.queue = m.queue ∧
      Kept ([Reg.MON.MON_CTRL.EN, Reg.MON.MON_STAT.RUNNING] ++ (List.range 32).map Reg.MON.FILT_VAL.VALID) s.chip t) ∧
    (∀ v, (s.chip.flag Reg.MON.MON_CTRL.EN = false ∨ s.chip.islDown 5 = true) → Answers (.monResult v) s fun t => t = s.chip) ∧
    (∀ (c : Fin 32) (cfg : Word) (x : Int), s.chip.flag Reg.MON.MON_CTRL.EN = true → s.chip.islDown 5 = false → m.cur = some (c.val, cfg) →
      monSamples cfg = 1 → monDiff c.val cfg = false → 0 ≤ x →
      let code := min ((x * 4096 / 1200000000).toNat / 2 ^ min (cfg.field 16 4) 8) 0xFFFF
      let dist := m.last2.any fun p => p.2 && p.1 != c.val
      let f := s.chip.monFilter c.val
      let ch := s.chip.monCh c.val
      let win := ((code, false, dist) :: ch.win).take f.1
      let out := roundEven (win.foldl (fun n p => n + p.1) 0) f.1
      let hi := s.chip.getF (Reg.MON.LIM_THR.HI c.val)
      let lo := s.chip.getF (Reg.MON.LIM_THR.LO c.val)
      let h := s.chip.getF (Reg.MON.LIM_CFG.HYST c.val)
      let n := max 1 (s.chip.getF (Reg.MON.LIM_CFG.N c.val))
      let active := s.chip.bitOf Reg.MON.LIM_ACTIVE.ACTIVE c.val
      let beyond := (win.any fun p => p.2.1) = true ∨ hi < out ∨ out < lo
      let full := f.2 ≤ ch.fresh + 1 ∧ f.1 ≤ win.length
      (x < 1200000000 →
        Answers (.monResult [x]) s fun t => (t.monCh c.val).win = win ∧ t.mon.last2 = (c.val, false) :: m.last2.take 1 ∧
          (cfg.bit 31 = true → m.queue.length < 256 → t.mon.queue = m.queue ++ [(c.val, false, dist, code)]) ∧
          (cfg.bit 31 = true → 256 ≤ m.queue.length → t.mon.queue = m.queue ∧ Recorded Ev.MON.Q_FULL s.chip t ∧
            t.getF Reg.MON.Q_DROP.COUNT = (s.chip.getF Reg.MON.Q_DROP.COUNT + 1) % 2 ^ 32) ∧
          (cfg.bit 31 = false → t.mon.queue = m.queue) ∧
          (full → t.flag (Reg.MON.FILT_VAL.VALID c.val) = true ∧ t.getF (Reg.MON.FILT_VAL.VALUE c.val) = out % 2 ^ 16 ∧
            t.getF (Reg.MON.FILT_CNT.COUNT c.val) = (s.chip.getF (Reg.MON.FILT_CNT.COUNT c.val) + 1) % 2 ^ 32 ∧
            (beyond → active = false → n ≤ ch.viol + 1 → t.bitOf Reg.MON.LIM_ACTIVE.ACTIVE c.val = true ∧
              ((s.chip.getF (Reg.MON.LIM_CFG.ACTION c.val)).testBit 1 = true → (t.rd (Ev.MON.base + 0xF0)).getLsbD 0 = true)) ∧
            (beyond → active = false → ch.viol + 1 < n → t.bitOf Reg.MON.LIM_ACTIVE.ACTIVE c.val = false ∧ (t.monCh c.val).viol = ch.viol + 1) ∧
            (¬ beyond → lo + h ≤ out → out + h ≤ hi → active = true → n ≤ ch.inr + 1 → t.bitOf Reg.MON.LIM_ACTIVE.ACTIVE c.val = false)) ∧
          (¬ full → t.rd (Reg.MON.FILT_VAL.addr c.val) = s.chip.rd (Reg.MON.FILT_VAL.addr c.val)) ∧ KeptBut [0x05, 0x09] [] s.chip t) ∧
      (1200000000 ≤ x →
        Answers (.monResult [x]) s fun t => t.getF Reg.MON.OVR_CNT.COUNT = (s.chip.getF Reg.MON.OVR_CNT.COUNT + 1) % 2 ^ 32 ∧
          Recorded Ev.MON.OVR s.chip t ∧ (t.monCh c.val).win = ((min (0xFFF / 2 ^ min (cfg.field 16 4) 8) 0xFFFF, true, dist) :: ch.win).take f.1 ∧
          KeptBut [0x05, 0x09] [] s.chip t)) ∧
    (∀ p l, m.queue = p :: l →
      Answers .monQueuePop s (fun t => t.mon.queue = l ∧ head t) ∧ Answers .monQueueFlush s (fun t => t.mon.queue = [] ∧ head t))

/-- The front-end buses (R485 to R487, R490): a GO from a master without access is counted and refused; one with access writes the command's fields
and, while none runs, starts a transfer of at most 32 bytes; its end stores the bytes received from byte 0 and clears BUSY, with SPI_DONE unless the
chip select is held, and with I2C_DONE for a transaction that ended OK and I2C_ERR with its result for another.
Where the rules leave a choice, the model's stands: log entry 49. -/
def Obligations.FrontEndBuses : Prop :=
  ∀ (s : State) (m : Fin 8) (w : Word),
    let refused := fun (t : Chip) => t.getF Reg.MON.FE_REFUSED_CNT.COUNT = (s.chip.getF Reg.MON.FE_REFUSED_CNT.COUNT + 1) % 2 ^ 32 ∧
      Recorded Ev.MON.FE_REFUSED s.chip t ∧ Kept [Reg.MON.FE_REFUSED_CNT.COUNT, evtBit Ev.MON.FE_REFUSED] s.chip t ∧ t.mon = s.chip.mon
    let stored := fun (base : Nat) (rx : List (Fin 256)) (t : Chip) =>
      ∀ k, k < rx.length → t.getF ⟨base + 4 * (k / 4), 8 * (k % 4), 8⟩ = (rx.getD k 0).val
    (s.chip.feAccess m.val = (decide (m.val ≤ 3) || (m.val == 4 && s.chip.flag Reg.MON.FE_OWN.HOST))) ∧
    (∀ i : Fin 2,
      let cmd := [Reg.MON.SPI_CMD.LEN i.val, Reg.MON.SPI_CMD.HOLD_CS i.val, Reg.MON.SPI_CMD.CS i.val]
      let fields := fun (t : Chip) => t.getF (Reg.MON.SPI_CMD.LEN i.val) = w.field 16 6 ∧ t.getF (Reg.MON.SPI_CMD.HOLD_CS i.val) = w.field 12 1 ∧
        t.getF (Reg.MON.SPI_CMD.CS i.val) = w.field 8 2
      (s.chip.feAccess m.val = false → Answers (.spiGo m i w) s refused) ∧
      (s.chip.feAccess m.val = true → s.chip.flag (Reg.MON.SPI_STAT.BUSY i.val) = false →
        Answers (.spiGo m i w) s fun t => fields t ∧ t.flag (Reg.MON.SPI_STAT.BUSY i.val) = true ∧
          (t.spiOf i.val).xfer = some (min (max 1 (w.field 16 6)) 32, w.field 8 2, w.bit 12) ∧
          Kept (Reg.MON.SPI_STAT.BUSY i.val :: cmd) s.chip t) ∧
      (s.chip.feAccess m.val = true → s.chip.flag (Reg.MON.SPI_STAT.BUSY i.val) = true →
        Answers (.spiGo m i w) s fun t => fields t ∧ Kept cmd s.chip t ∧ t.mon = s.chip.mon) ∧
      (∀ (rx : List (Fin 256)) cs hold, (s.chip.spiOf i.val).xfer = some (rx.length, cs, hold) → rx.length ≤ 32 →
        Answers (.spiDone i rx) s fun t => stored (Reg.MON.SPI_RXDATA.addr i.val 0) rx t ∧ t.flag (Reg.MON.SPI_STAT.BUSY i.val) = false ∧
          (t.spiOf i.val).xfer = none ∧ (hold = false → (t.spiOf i.val).held = 0 ∧ Recorded Ev.MON.SPI_DONE s.chip t) ∧
          (hold = true → (t.spiOf i.val).held = (s.chip.spiOf i.val).held) ∧ KeptBut [0x09] [] s.chip t)) ∧
    (s.chip.feAccess m.val = false → Answers (.i2cGo m w) s refused) ∧
    (s.chip.feAccess m.val = true → s.chip.flag Reg.MON.I2C_STAT.BUSY = false →
      Answers (.i2cGo m w) s fun t => t.getF Reg.MON.I2C_CMD.ADDR = w.field 16 7 ∧ t.getF Reg.MON.I2C_CMD.WLEN = w.field 8 6 ∧
        t.getF Reg.MON.I2C_CMD.RLEN = w.field 0 6 ∧ t.flag Reg.MON.I2C_STAT.BUSY = true ∧
        t.mon.i2c = some (min (w.field 8 6) 32, min (w.field 0 6) 32) ∧
        Kept [Reg.MON.I2C_CMD.ADDR, Reg.MON.I2C_CMD.WLEN, Reg.MON.I2C_CMD.RLEN, Reg.MON.I2C_STAT.BUSY] s.chip t) ∧
    (∀ (result : Fin 6) (nack : Fin 256) (rx : List (Fin 256)) wlen n, s.chip.mon.i2c = some (wlen, n) → n ≤ 32 → rx.length ≤ n →
      (result.val = 0 → rx.length = n) →
      Answers (.i2cDone result nack rx) s fun t => stored (Reg.MON.I2C_DATA.addr 0) rx t ∧ t.flag Reg.MON.I2C_STAT.BUSY = false ∧ t.mon.i2c = none ∧
        t.getF Reg.MON.I2C_STAT.RESULT = result.val ∧
        t.getF Reg.MON.I2C_STAT.NACK_IDX = (if result.val = 1 ∨ result.val = 2 then nack.val else s.chip.getF Reg.MON.I2C_STAT.NACK_IDX) ∧
        (result.val = 0 → Recorded Ev.MON.I2C_DONE s.chip t) ∧ (result.val ≠ 0 → Recorded Ev.MON.I2C_ERR s.chip t) ∧ KeptBut [0x09] [] s.chip t)

/-- Self-test (R492, R493, R495 to R498, R502, R503): a step is skipped while a session runs and otherwise tests the reserve; a session's end records
result, unit, patterns and signature: short of 16,384 patterns INCOMPLETE, with the expected signature PASS, with another FAIL, which fences the
unit; a retest that passes lifts its fence; a sweep starts where none runs, a retest only on a fenced unit; memory BIST reports repairs, memories and
units.
Where the rules leave a choice, the model's stands: log entries 8, 37. -/
def Obligations.SelfTest : Prop :=
  ∀ (s : State) (c : Carrier) (g : Fin 3),
    let v := s.chip.grpOf c g.val
    let timed := s.chip.flag Reg.TST.BIST_CFG.ROT_EN = true ∧ s.chip.flag Reg.TST.BIST_CFG.PACE = false
    let testing := fun (u : Nat) (t : Chip) => (t.grpOf c g.val).session = some u ∧ t.getF (Reg.TST.GRP_STAT.SESSION c.ix g.val) = 1 ∧
      t.getF (Reg.TST.GRP_STAT.TEST_UNIT c.ix g.val) = u % 32
    let plus := fun (f : Fld) (t : Chip) => t.getF f = (s.chip.getF f + 1) % 2 ^ 32
    let busy := s.chip.flag (Reg.TST.RETEST.BUSY c.ix g.val)
    (timed → v.session.isSome = true →
      Answers (.bistStepTimer c g) s fun t => plus (Reg.TST.STEP_SKIP.COUNT c.ix g.val) t ∧ Kept [Reg.TST.STEP_SKIP.COUNT c.ix g.val] s.chip t ∧
        Quiet s.chip t) ∧
    (∀ r, timed → v.session = none → v.reserve = some r → v.retestDue = none → v.sweepDone = true → s.chip.stepHeld c g.val = false →
      Answers (.bistStepTimer c g) s fun t => testing r t ∧ KeptBut [0x0A] [] s.chip t ∧ Elsewhere s.chip t) ∧
    (¬ timed → Answers (.bistStepTimer c g) s fun t => t = s.chip) ∧
    (∀ (u : Nat) (patterns : Fin 16385) (misr : BitVec 64), v.session = some u →
      let expected := misr.toNat = s.chip.sigExp g.val
      let result := if patterns.val < 16384 then 3 else if expected then 1 else 2
      Answers (.bistSessionEnd c g patterns misr) s fun t => t.getF (Reg.TST.GRP_STAT.LAST_RESULT c.ix g.val) = result ∧
        t.getF (Reg.TST.GRP_STAT.LAST_UNIT c.ix g.val) = u % 32 ∧ t.getF (Reg.TST.PAT_LAST.COUNT c.ix g.val) = patterns.val ∧
        t.getPair (Reg.TST.SIG_LAST_LO.addr c.ix g.val) = misr.toNat ∧
        (result = 3 → plus (Reg.TST.INC_CNT.COUNT c.ix g.val) t ∧ Recorded Ev.TST.BIST_INCOMPLETE s.chip t) ∧
        (result = 1 → plus (Reg.TST.PASS_CNT.COUNT c.ix g.val) t ∧
          (v.retesting = true → (t.grpOf c g.val).fenced.testBit u = false ∧ t.getF (Reg.TST.RETEST.RESULT c.ix g.val) = 1 ∧
            t.flag (Reg.TST.RETEST.BUSY c.ix g.val) = false) ∧
          (v.retesting = false → (t.grpOf c g.val).passed = some u)) ∧
        (result = 2 → plus (Reg.TST.FAIL_CNT.COUNT c.ix g.val) t ∧ Recorded Ev.TST.BIST_FAIL s.chip t ∧
          (v.retesting = true → t.getF (Reg.TST.RETEST.RESULT c.ix g.val) = 2) ∧
          (v.retesting = false → (t.grpOf c g.val).fenced.testBit u = true)) ∧ LineFrame s.chip t) ∧
    (s.chip.flag Reg.TST.PU_STAT.BUSY = false →
      Answers .puGo s fun t =>
        (∀ r, v.session = none → v.retestDue = none → v.reserve = some r → r < Grp.units g.val → v.fenced.testBit r = false →
          s.chip.stepHeld c g.val = false → testing r t ∧ t.flag Reg.TST.PU_STAT.BUSY = true) ∧
        t.flag Reg.TST.PU_STAT.BUSY ≠ t.flag Reg.TST.PU_STAT.DONE ∧ (t.flag Reg.TST.PU_STAT.DONE = true → Recorded Ev.TST.PU_DONE s.chip t) ∧
        KeptBut [0x0A] [] s.chip t ∧ Elsewhere s.chip t) ∧
    (s.chip.flag Reg.TST.PU_STAT.BUSY = true → Answers .puGo s fun t => t = s.chip) ∧
    (∀ u : Fin 32,
      (busy = false → v.fenced.testBit u.val = true →
        Answers (.retest c g u) s fun t => t.flag (Reg.TST.RETEST.BUSY c.ix g.val) = true ∧ t.getF (Reg.TST.RETEST.UNIT c.ix g.val) = u.val ∧
          (v.session = none → s.chip.islDown c.ix = false → testing u.val t ∧ (t.grpOf c g.val).retesting = true) ∧
          (v.session.isSome = true → (t.grpOf c g.val).retestDue = some u.val) ∧ KeptBut [0x0A] [] s.chip t ∧ Elsewhere s.chip t) ∧
      (busy = false → v.fenced.testBit u.val = false →
        Answers (.retest c g u) s fun t => t.getF (Reg.TST.RETEST.RESULT c.ix g.val) = 3 ∧ t.getF (Reg.TST.RETEST.UNIT c.ix g.val) = u.val ∧
          Kept [Reg.TST.RETEST.RESULT c.ix g.val, Reg.TST.RETEST.UNIT c.ix g.val] s.chip t ∧ Quiet s.chip t) ∧
      (busy = true → Answers (.retest c g u) s fun t => t = s.chip)) ∧
    (∀ rows mems (units : List (Carrier × Fin 3 × Fin 17)),
      Answers (.mbistDone rows mems units) s fun t => t.flag Reg.TST.MBIST_STAT.DONE = true ∧
        t.getF Reg.TST.MBIST_STAT.REPAIRED = min (s.chip.getF Reg.TST.MBIST_STAT.REPAIRED + rows) (2 ^ 16 - 1) ∧
        (∀ m : Fin 4, mems = [m] → t.flag Reg.TST.MBIST_STAT.UNREP = true ∧ t.getF Reg.TST.MBIST_STAT.MEM = 4 + m.val ∧
          Recorded Ev.TST.MBIST_FAIL s.chip t) ∧
        (∀ p ∈ units, p.2.2.val < Grp.units p.2.1.val → (t.grpOf p.1 p.2.1.val).fenced.testBit p.2.2.val = true) ∧ LineFrame s.chip t)

/-- Step-down notices and calibration (R501, R504 to R506, R509): a notice that the device cannot follow is answered with a refusal and changes no
register, one it can is answered with an accept and armed; the accept that echoes the device's own notice arms its ripple, and without one in time
STEP_FAIL occurs; a calibration run reports items that are out of range as failed and leaves what was loaded, and loads the skews of those that are
not; a store erases the other slot and programs its record, or leaves that slot alone invalid.
Where the rules leave a choice, the model's stands: log entries 36, 37. -/
def Obligations.StepDownAndCalibration : Prop :=
  ∀ s : State,
    let is := fun (code : Nat) (m : TtMsg) => m.type == 7 && m.payload.length == 16 && m.payload.head? == some code
    let sends := fun (p : Nat) (verdict : Nat) (b : List Nat) (u t : Chip) => s.chip.flag (Reg.WST.TT_PORT_CFG.EN p) = true →
      ∃ m : TtMsg, (t.portOf p).ring = (u.portOf p).ring ++ [m] ∧ m.type = 7 ∧
        m.payload = [0x54, b.getD 1 0, b.getD 2 0, verdict] ++ b.drop 4
    let armed := fun (k groups : Nat) (t : Chip) => t.ripArmed k = true ∧ t.getF (Reg.WST.RIP_ACT.ACT k) = 1 ∧
      t.getF (Reg.WST.RIP_GROUPS.GROUPS k) = groups
    (∀ p m u, s.chip.ringTake (is 0x53) = some (p, m, u) →
      (u.noticeJudge p m.payload = none → Answers .stepNotice s fun t => sends p 1 m.payload u t ∧ t = { u with wst := t.wst } ∧ t.regs = s.chip.regs) ∧
      (∀ x, u.noticeJudge p m.payload = some x → Answers .stepNotice s fun t => sends p 0 m.payload x t ∧ t = { x with wst := t.wst } ∧
        (∀ k, u.freeSlot = some k → instantOf (m.payload.drop 4) < 2 ^ 48 * secT16 →
          armed k (lineGroups (noticeCarriers p (m.payload.getD 1 0))) t))) ∧
    (∀ p m u mask code at_ k, s.chip.ringTake (is 0x54) = some (p, m, u) → u.tst.notice = some (mask, code, at_) →
      m.payload.getD 1 0 = mask → m.payload.getD 2 0 = code → m.payload.getD 3 1 = 0 → instantOf (m.payload.drop 4) = at_ →
      u.freeSlot = some k → at_ < 2 ^ 48 * secT16 → s.chip.wstNow + 1000 * 65536 ≤ at_ →
      Answers .stepAnswer s fun t => t.tst.notice = none ∧ armed k (mask % 4 * 4) t ∧ KeptBut [0x07] [] s.chip t) ∧
    (s.chip.tst.notice.isSome = true → Answers .stepFail s fun t => t.tst.notice = none ∧ Recorded Ev.TST.STEP_FAIL s.chip t ∧
      Kept [evtBit Ev.TST.STEP_FAIL] s.chip t) ∧
    Answers .calRun s (fun t => t.flag Reg.TST.CAL_STAT.RUNNING = true ∧ Kept [Reg.TST.CAL_STAT.RUNNING] s.chip t ∧ Quiet s.chip t) ∧
    (∀ (k : CalItem) (skipped : Fin 256), let c := Carrier.ofBit (k.item.val / 4)
      (calAccepted k = false → Answers (.calDone [k] [] skipped) s fun t => t.flag Reg.TST.CAL_STAT.RUNNING = false ∧
        t.getF Reg.TST.CAL_STAT.FAIL_ITEMS = 2 ^ k.item.val ∧ t.getF Reg.TST.CAL_STAT.SKIPPED = skipped.val ∧ t.getF Reg.TST.SD_FAIL.FAIL = 0 ∧
        Recorded Ev.TST.CAL_REJECT s.chip t ∧ Recorded Ev.TST.CAL_DONE s.chip t ∧ KeptBut [0x0A] [] s.chip t ∧ t.tst = s.chip.tst) ∧
      (∀ xi xq yi yq, k.item.val % 4 = 3 → k.skew = [xi, xq, yi, yq] → calAccepted k = true →
        Answers (.calDone [k] [] skipped) s fun t => t.getS (Reg.TXD.SKEW_XI.DELAY c) = xi ∧ t.getS (Reg.TXD.SKEW_XQ.DELAY c) = xq ∧
          t.getS (Reg.TXD.SKEW_YI.DELAY c) = yi ∧ t.getS (Reg.TXD.SKEW_YQ.DELAY c) = yq ∧ t.getF Reg.TST.CAL_STAT.FAIL_ITEMS = 0 ∧
          Recorded Ev.TST.CAL_DONE s.chip t ∧
          KeptBut [0x0A] [Reg.TXD.SKEW_XI.DELAY c, Reg.TXD.SKEW_XQ.DELAY c, Reg.TXD.SKEW_YI.DELAY c, Reg.TXD.SKEW_YQ.DELAY c] s.chip t)) ∧
    (∀ (values : List (Fin 256)) (tj : BitVec 16),
      let toB := s.chip.getF Reg.TST.CAL_STAT.SOURCE = 1
      let hdr := s.chip.boot.hdr
      let ofs := if toB then hdr.calB else hdr.calA
      let valid := if toB then Reg.TST.CAL_STAT.VALID_B else Reg.TST.CAL_STAT.VALID_A
      let seq := (s.chip.tst.calSeq + 1) % 2 ^ 32
      let rec_ := s.chip.calRecord seq tj.toNat (values.map fun b => b.val)
      let outside := fun (t : Chip) => ∀ y, (y < ofs ∨ ofs + 0x10000 ≤ y) → t.flashByte y = s.chip.flashByte y
      (slotPlace ofs = true → ¬(toB ∧ hdr.calA = hdr.calB) → values.length ≤ 65496 →
        Answers (.calStoreEnd values tj none) s (fun t => (∀ i, i < 0x10000 → t.flashByte (ofs + i) = rec_.getD i 0xFF) ∧ outside t ∧
          t.flag valid = true ∧ t.getF Reg.TST.CAL_SEQ.SEQ = seq ∧ t.flag Reg.BOOT.BOOT_STAT.NO_CAL = false ∧ Recorded Ev.TST.CAL_STORED s.chip t ∧
          Kept [valid, Reg.TST.CAL_SEQ.SEQ, Reg.BOOT.BOOT_STAT.NO_CAL, evtBit Ev.TST.CAL_STORED] s.chip t) ∧
        ∀ left, Answers (.calStoreEnd values tj (some left)) s fun t => outside t ∧ t.flag valid = false ∧
          Recorded Ev.TST.CAL_STORE_FAIL s.chip t ∧ Kept [valid, evtBit Ev.TST.CAL_STORE_FAIL] s.chip t) ∧
      (slotPlace ofs = false → ∀ left, Answers (.calStoreEnd values tj left) s fun t => t.boot = s.chip.boot ∧
        Recorded Ev.TST.CAL_STORE_FAIL s.chip t ∧ Kept [evtBit Ev.TST.CAL_STORE_FAIL] s.chip t))

end
end

