-- ==== Sys2Proof/Laws/Store.lean ====
section
/-! SUPPORT. The laws of sparse stores: what a read gives after a write, and that every operation keeps the canonical form. -/

namespace Sys2Proof.Machine

variable {α : Type}

theorem Store.get_cons (d : Nat → α) (b : Nat) (v : α) (m : List (Nat × α)) (a : Nat) :
    Store.get d ((b, v) :: m) a = if b = a then v else Store.get d m a := rfl

theorem Store.erase_cons (b : Nat) (v : α) (m : List (Nat × α)) (a : Nat) :
    Store.erase ((b, v) :: m) a = if b = a then Store.erase m a else (b, v) :: Store.erase m a := by
  by_cases h : b = a <;> simp [Store.erase, h]

theorem Store.get_erase_ne (d : Nat → α) (m : List (Nat × α)) {a b : Nat} (h : b ≠ a) :
    Store.get d (Store.erase m a) b = Store.get d m b := by
  induction m with
  | nil => rfl
  | cons p m ih =>
    obtain ⟨c, v⟩ := p
    rw [Store.erase_cons]
    by_cases hc : c = a
    · subst hc; rw [if_pos rfl, ih, Store.get_cons, if_neg (Ne.symm h)]
    · rw [if_neg hc, Store.get_cons, Store.get_cons, ih]

theorem Store.get_erase_self (d : Nat → α) (m : List (Nat × α)) (a : Nat) : Store.get d (Store.erase m a) a = d a := by
  induction m with
  | nil => rfl
  | cons p m ih =>
    obtain ⟨c, v⟩ := p
    rw [Store.erase_cons]
    by_cases hc : c = a
    · rw [if_pos hc, ih]
    · rw [if_neg hc, Store.get_cons, if_neg hc, ih]

theorem Store.get_insert_ne (d : Nat → α) (m : List (Nat × α)) (v : α) {a b : Nat} (h : b ≠ a) :
    Store.get d (Store.insert a v m) b = Store.get d m b := by
  induction m with
  | nil => simp [Store.insert, Store.get, Ne.symm h]
  | cons p m ih =>
    obtain ⟨c, w⟩ := p
    unfold Store.insert
    split
    · rw [Store.get_cons, if_neg (Ne.symm h)]
    · rw [Store.get_cons, Store.get_cons, ih]

theorem Store.get_insert_self (d : Nat → α) (m : List (Nat × α)) (v : α) (a : Nat) (h : ∀ p ∈ m, p.1 ≠ a) :
    Store.get d (Store.insert a v m) a = v := by
  induction m with
  | nil => simp [Store.insert, Store.get]
  | cons p m ih =>
    obtain ⟨c, w⟩ := p
    unfold Store.insert
    split
    · rw [Store.get_cons, if_pos rfl]
    · rw [Store.get_cons, if_neg (h (c, w) (by simp)), ih fun q hq => h q (by simp [hq])]

theorem Store.not_mem_erase (m : List (Nat × α)) (a : Nat) : ∀ p ∈ Store.erase m a, p.1 ≠ a := by
  intro p hp
  simpa [Store.erase] using (List.mem_filter.mp hp).2

/-- A read after a write: the written value at its address, every other address as before. -/
theorem Store.get_set [DecidableEq α] (d : Nat → α) (m : List (Nat × α)) (a b : Nat) (v : α) :
    Store.get d (Store.set d m a v) b = if b = a then v else Store.get d m b := by
  unfold Store.set
  by_cases hb : b = a
  · subst hb
    rw [if_pos rfl]
    by_cases hv : v = d b
    · simp only [hv, if_true]; exact Store.get_erase_self d m b
    · simp only [hv, if_false]; exact Store.get_insert_self d _ v b (Store.not_mem_erase m b)
  · rw [if_neg hb]
    by_cases hv : v = d a
    · simp only [hv, if_true]; exact Store.get_erase_ne d m hb
    · simp only [hv, if_false]; rw [Store.get_insert_ne d _ v hb]; exact Store.get_erase_ne d m hb

theorem Store.wf_cons [DecidableEq α] (d : Nat → α) (a : Nat) (v : α) (m : List (Nat × α)) :
    Store.wf d ((a, v) :: m) = true ↔ v ≠ d a ∧ (∀ p ∈ m, a < p.1) ∧ Store.wf d m = true := by
  simp [Store.wf, and_assoc]

/-- Filtering keeps the canonical form. -/
theorem Store.wf_filter [DecidableEq α] (d : Nat → α) (m : List (Nat × α)) (p : Nat × α → Bool) (h : Store.wf d m = true) :
    Store.wf d (m.filter p) = true := by
  induction m with
  | nil => rfl
  | cons q m ih =>
    obtain ⟨a, v⟩ := q
    rw [Store.wf_cons] at h
    rw [List.filter_cons]
    split
    · rw [Store.wf_cons]
      exact ⟨h.1, fun q hq => h.2.1 q (List.mem_filter.mp hq).1, ih h.2.2⟩
    · exact ih h.2.2

theorem Store.mem_insert (a : Nat) (v : α) (m : List (Nat × α)) {q : Nat × α} (h : q ∈ Store.insert a v m) : q = (a, v) ∨ q ∈ m := by
  induction m with
  | nil => exact Or.inl (by simpa [Store.insert] using h)
  | cons p m ih =>
    unfold Store.insert at h
    split at h
    · simpa using h
    · rcases List.mem_cons.mp h with h | h
      · exact Or.inr (by simp [h])
      · rcases ih h with h | h
        · exact Or.inl h
        · exact Or.inr (by simp [h])

theorem Store.wf_insert [DecidableEq α] (d : Nat → α) (m : List (Nat × α)) (a : Nat) (v : α) (hv : v ≠ d a)
    (hm : ∀ p ∈ m, p.1 ≠ a) (h : Store.wf d m = true) : Store.wf d (Store.insert a v m) = true := by
  induction m with
  | nil => simp [Store.insert, Store.wf, hv]
  | cons q m ih =>
    obtain ⟨b, w⟩ := q
    have h' := h
    rw [Store.wf_cons] at h
    unfold Store.insert
    split
    · rename_i hab
      rw [Store.wf_cons]
      refine ⟨hv, fun p hp => ?_, h'⟩
      rcases List.mem_cons.mp hp with rfl | hp
      · exact hab
      · exact Nat.lt_trans hab (h.2.1 p hp)
    · rename_i hab
      have hne : b ≠ a := hm (b, w) (by simp)
      rw [Store.wf_cons]
      refine ⟨h.1, fun p hp => ?_, ih (fun p hp => hm p (by simp [hp])) h.2.2⟩
      rcases Store.mem_insert a v m hp with rfl | hp
      · show b < a; omega
      · exact h.2.1 p hp

/-- A write keeps the canonical form. -/
theorem Store.wf_set [DecidableEq α] (d : Nat → α) (m : List (Nat × α)) (a : Nat) (v : α) (h : Store.wf d m = true) :
    Store.wf d (Store.set d m a v) = true := by
  unfold Store.set
  have he : Store.wf d (Store.erase m a) = true := Store.wf_filter d m _ h
  by_cases hv : v = d a
  · simpa only [hv, if_true] using he
  · simp only [hv, if_false]
    exact Store.wf_insert d _ a v hv (Store.not_mem_erase m a) he

/-- Resetting a part of a store keeps the canonical form. -/
theorem Store.wf_clear [DecidableEq α] (d : Nat → α) (m : List (Nat × α)) (p : Nat → Bool) (h : Store.wf d m = true) :
    Store.wf d (Store.clear m p) = true := Store.wf_filter d m _ h

/-- A store that has been reset in part reads as reset there and as before elsewhere. -/
theorem Store.get_clear (d : Nat → α) (m : List (Nat × α)) (p : Nat → Bool) (a : Nat) :
    Store.get d (Store.clear m p) a = if p a then d a else Store.get d m a := by
  induction m with
  | nil => simp [Store.clear, Store.get]
  | cons q m ih =>
    obtain ⟨b, v⟩ := q
    unfold Store.clear at ih ⊢
    rw [List.filter_cons, Store.get_cons]
    by_cases hp : p b = true
    · rw [if_neg (by simp [hp]), ih]
      by_cases hb : b = a
      · subst hb; simp [hp]
      · rw [if_neg hb]
    · rw [if_pos (by simp [hp]), Store.get_cons, ih]
      by_cases hb : b = a
      · subst hb; simp [hp]
      · rw [if_neg hb, if_neg hb]

end Sys2Proof.Machine
end

