-- ==== Sys2Proof/Laws/Ops.lean ====
section
/-! SUPPORT. The laws of the named operations over the register file: reads after writes, fields, pairs, events. -/

namespace Sys2Proof

theorem Word.testBit_field (w : Word) (lo width i : Nat) :
    (Word.field w lo width).testBit i = (decide (i < width) && w.getLsbD (lo + i)) := by
  unfold Word.field
  rw [Nat.testBit_mod_two_pow, Nat.testBit_div_two_pow, Nat.add_comm i lo]
  rfl

theorem Word.getLsbD_setField (w : Word) (lo width v i : Nat) (hi : i < 32) :
    (Word.setField w lo width v).getLsbD i = if lo ≤ i ∧ i < lo + width then v.testBit (i - lo) else w.getLsbD i := by
  unfold Word.setField
  simp only [BitVec.getLsbD_or, BitVec.getLsbD_and, BitVec.getLsbD_not, BitVec.getLsbD_shiftLeft, BitVec.getLsbD_ofNat,
    Nat.testBit_two_pow_sub_one, Nat.testBit_mod_two_pow, hi, decide_true, Bool.true_and]
  by_cases h1 : i < lo
  · simp [h1, show ¬ lo ≤ i by omega]
  · have h3 : i - lo < 32 := by omega
    by_cases h2 : i < lo + width
    · simp [h1, h3, show i - lo < width by omega, show lo ≤ i by omega, h2]
    · simp [h1, h3, show ¬ i - lo < width by omega, h2]

/-- A field reads as it was set, cut to its width. -/
theorem Word.field_setField_self (w : Word) (lo width v : Nat) (h : lo + width ≤ 32) :
    Word.field (Word.setField w lo width v) lo width = v % 2 ^ width := by
  apply Nat.eq_of_testBit_eq
  intro i
  rw [Word.testBit_field, Nat.testBit_mod_two_pow]
  by_cases hi : i < width
  · rw [Word.getLsbD_setField _ _ _ _ _ (by omega)]
    simp [hi]
  · simp [hi]

/-- Setting a field leaves every field that shares no bit with it. -/
theorem Word.field_setField_disjoint (w : Word) (lo width v lo' width' : Nat) (h : lo' + width' ≤ 32)
    (hd : lo' + width' ≤ lo ∨ lo + width ≤ lo') :
    Word.field (Word.setField w lo width v) lo' width' = Word.field w lo' width' := by
  apply Nat.eq_of_testBit_eq
  intro i
  rw [Word.testBit_field, Word.testBit_field]
  by_cases hi : i < width'
  · rw [Word.getLsbD_setField _ _ _ _ _ (by omega)]
    have : ¬ (lo ≤ lo' + i ∧ lo' + i < lo + width) := by omega
    simp [this]
  · simp [hi]

theorem Word.field_lt (w : Word) (lo width : Nat) : Word.field w lo width < 2 ^ width :=
  Nat.mod_lt _ (Nat.two_pow_pos width)

end Sys2Proof

namespace Sys2Proof.Machine

@[simp] theorem Chip.rd_wr (s : Chip) (a b : Nat) (w : Word) : (s.wr a w).rd b = if b = a then w else s.rd b :=
  Store.get_set _ _ _ _ _

theorem Chip.rd_wr_ne (s : Chip) {a b : Nat} (w : Word) (h : b ≠ a) : (s.wr a w).rd b = s.rd b := by simp [h]

@[simp] theorem Chip.act_wr (s : Chip) (a b : Nat) (w : Word) : (s.wr a w).act b = s.act b := rfl

@[simp] theorem Chip.act_setF (s : Chip) (f : Fld) (v b : Nat) : (s.setF f v).act b = s.act b := rfl

@[simp] theorem Chip.actF_setF (s : Chip) (f g : Fld) (v : Nat) : (s.setF f v).actF g = s.actF g := rfl

@[simp] theorem Chip.actFlag_setF (s : Chip) (f g : Fld) (v : Nat) : (s.setF f v).actFlag g = s.actFlag g := rfl

/-- A field set by the hardware leaves every other register. -/
theorem Chip.rd_setF_ne (s : Chip) (f : Fld) (v : Nat) {b : Nat} (h : b ≠ f.addr) : (s.setF f v).rd b = s.rd b := by
  simp [Chip.setF, h]

/-- A field reads as it was set, cut to its width. -/
theorem Chip.getF_setF_self (s : Chip) (f : Fld) (v : Nat) (h : f.lo + f.width ≤ 32) : (s.setF f v).getF f = v % 2 ^ f.width := by
  simp [Chip.setF, Chip.getF, Word.field_setField_self _ _ _ _ h]

/-- Setting a field leaves the fields of other registers. -/
theorem Chip.getF_setF_addr (s : Chip) (f g : Fld) (v : Nat) (h : g.addr ≠ f.addr) : (s.setF f v).getF g = s.getF g := by
  simp [Chip.setF, Chip.getF, h]

/-- Setting a field leaves the fields of its register that share no bit with it. -/
theorem Chip.getF_setF_disjoint (s : Chip) (f g : Fld) (v : Nat) (ha : g.addr = f.addr) (hg : g.lo + g.width ≤ 32)
    (hd : g.lo + g.width ≤ f.lo ∨ f.lo + f.width ≤ g.lo) : (s.setF f v).getF g = s.getF g := by
  simp [Chip.setF, Chip.getF, ha, Word.field_setField_disjoint _ _ _ _ _ _ hg hd]

theorem Chip.flag_setFlag_self (s : Chip) (f : Fld) (b : Bool) (hw : f.width = 1) (hl : f.lo < 32) :
    (s.setFlag f b).flag f = b := by
  unfold Chip.setFlag Chip.flag
  rw [Chip.getF_setF_self _ _ _ (by omega), hw]
  cases b <;> rfl

/-- An event recorded (R9): what a register reads after an occurrence. -/
theorem Chip.rd_raise (s : Chip) (e : Ev) (b : Nat) :
    (s.raise e).rd b =
      if (s.rd (e.base + 0xF8)).getLsbD e.bit = true ∧ b = e.base + 0xF0 then s.rd (e.base + 0xF0) ||| (1#32 <<< e.bit) else s.rd b := by
  unfold Chip.raise
  by_cases h : (s.rd (e.base + 0xF8)).getLsbD e.bit = true
  · rw [if_pos h]; simp [h]
  · rw [if_neg h]
    have : ∀ u : Chip, u = s ∨ u = s.pulse e.src → u.rd b = s.rd b := by
      intro u hu
      rcases hu with rfl | rfl
      · rfl
      · unfold Chip.pulse; split <;> rfl
    rw [this _ (by split <;> simp)]
    simp [h]

theorem Chip.rd_setLive (s : Chip) (e : Ev) (v : Bool) (b : Nat) : (s.setLive e v).rd b = s.rd b := rfl

theorem Chip.rd_setPair (s : Chip) (lo v b : Nat) :
    (s.setPair lo v).rd b = if b = lo + 4 then BitVec.ofNat 32 (v / 2 ^ 32) else if b = lo then BitVec.ofNat 32 v else s.rd b := by
  simp [Chip.setPair]

theorem Chip.free_snd (s : Chip) : s.free.2 = { s with freeIx := s.freeIx + 1 } := rfl

theorem Chip.rd_free (s : Chip) (b : Nat) : s.free.2.rd b = s.rd b := rfl

/-- The canonical form of the register file is kept by every write. -/
theorem Chip.regs_wf_wr (s : Chip) (a : Nat) (w : Word) (h : Store.wf RegMap.reset s.regs = true) :
    Store.wf RegMap.reset (s.wr a w).regs = true := Store.wf_set _ _ _ _ h

theorem Chip.regs_wf_setF (s : Chip) (f : Fld) (v : Nat) (h : Store.wf RegMap.reset s.regs = true) :
    Store.wf RegMap.reset (s.setF f v).regs = true := Store.wf_set _ _ _ _ h

/-- The canonical form of the live conditions is kept by every change. -/
theorem Chip.live_wf_setLive (s : Chip) (e : Ev) (b : Bool) (h : Store.wf Live.reset s.live = true) :
    Store.wf Live.reset (s.setLive e b).live = true := Store.wf_set _ _ _ _ h

end Sys2Proof.Machine
end

