-- ==== Sys2Proof/Laws/Frames.lean ====
section
/-! SUPPORT. What each shared operation changes and what it leaves, in the terms of the statements: Quiet, KeptBut, Recorded and Answers. -/

namespace Sys2Proof.Machine

theorem Quiet.refl (s : Chip) : Quiet s s := rfl

theorem Quiet.trans {s t u : Chip} (h : Quiet s t) (k : Quiet t u) : Quiet s u := by
  unfold Quiet at *
  rw [k, h]

theorem quiet_wr (s : Chip) (a : Nat) (w : Word) : Quiet s (s.wr a w) := rfl

theorem quiet_setF (s : Chip) (f : Fld) (v : Nat) : Quiet s (s.setF f v) := rfl

theorem quiet_pulse (s : Chip) (n : Nat) : Quiet s (s.pulse n) := by
  unfold Chip.pulse
  split <;> rfl

/-- An occurrence of an event changes registers, and the notices of events, alone. -/
theorem quiet_raise (s : Chip) (e : Ev) : Quiet s (s.raise e) := by
  unfold Chip.raise
  split
  · rfl
  · split
    · rfl
    · exact quiet_pulse s e.src

theorem quiet_raiseIf (s : Chip) (b : Bool) (e : Ev) : Quiet s (s.raiseIf b e) := by
  cases b
  · rfl
  · exact quiet_raise s e

/-- A count of an event source changes registers, and the notices of events, alone. -/
theorem quiet_evcAdd (fuel : Nat) : ∀ (s : Chip) (k n : Nat), Quiet s (Chip.evcAdd fuel s k n) := by
  induction fuel with
  | zero => intro s k n; rfl
  | succ fuel ih =>
    intro s k n
    have h : ∀ j, Quiet s (((s.setF (Reg.EVC.EVC_CNT.COUNT k) (s.getF (Reg.EVC.EVC_CNT.COUNT k) + n)).setBit (Reg.EVC.OVF.OVF (k / 32)) j).raise Ev.EVC.OVF) :=
      fun j => Quiet.trans (u := Chip.raise _ Ev.EVC.OVF) (quiet_setF s _ _) (Quiet.trans (quiet_setF _ _ _) (quiet_raise _ _))
    simp only [Chip.evcAdd]
    split
    · rfl
    · split
      · exact (h _).trans (ih _ _ _)
      · exact h _

theorem quiet_evc (s : Chip) (k n : Nat) : Quiet s (s.evc k n) := by
  unfold Chip.evc
  split
  · rfl
  · exact quiet_evcAdd 512 s k n

theorem KeptBut.refl (bs : List Nat) (fs : List Fld) (s : Chip) : KeptBut bs fs s s := ⟨fun _ _ _ _ => rfl, rfl⟩

theorem KeptBut.trans {bs : List Nat} {fs : List Fld} {s t u : Chip} (h : KeptBut bs fs s t) (k : KeptBut bs fs t u) : KeptBut bs fs s u :=
  ⟨fun g hg hb hf => (k.1 g hg hb hf).trans (h.1 g hg hb hf), k.2.trans h.2⟩

/-- More blocks and more fields named leave less kept. -/
theorem KeptBut.mono {bs bs' : List Nat} {fs fs' : List Fld} {s t : Chip} (h : KeptBut bs fs s t) (hb : ∀ b ∈ bs, b ∈ bs') (hf : ∀ f ∈ fs, f ∈ fs') :
    KeptBut bs' fs' s t :=
  ⟨fun g hg hn ha => h.1 g hg (fun m => hn (hb _ m)) fun f m => ha f (hf f m), h.2⟩

/-- Setting a field keeps every field that shares no bit with it. -/
theorem keptBut_setF (s : Chip) (f : Fld) (v : Nat) : KeptBut [] [f] s (s.setF f v) := by
  refine ⟨fun g hg _ ha => ?_, rfl⟩
  have h := ha f (by simp)
  by_cases hn : g.addr = f.addr
  · exact Chip.getF_setF_disjoint s f g v hn hg (by rcases h with h | h | h; exact absurd hn.symm h; exact Or.inr h; exact Or.inl h)
  · exact Chip.getF_setF_addr s f g v hn

/-- A write of a whole register keeps every field of every other register. -/
theorem keptBut_wr (s : Chip) (a : Nat) (w : Word) : KeptBut [] [⟨a, 0, 32⟩] s (s.wr a w) := by
  refine ⟨fun g hg _ ha => ?_, rfl⟩
  have h := ha ⟨a, 0, 32⟩ (by simp)
  unfold Chip.getF
  by_cases hn : g.addr = a
  · have hz : g.width = 0 := by
      rcases h with h | h | h <;> simp at h
      · exact absurd hn.symm h
      · omega
      · omega
    have e : ∀ x : Word, x.field g.lo g.width = 0 := fun x => by have := Word.field_lt x g.lo g.width; rw [hz] at this ⊢; omega
    rw [e, e]
  · rw [Chip.rd_wr_ne s w hn]

/-- An occurrence of an event with EVT_STICKY at 1 is recorded (R9). -/
theorem recorded_raise (s : Chip) (e : Ev) (h : e.bit < 32) : Recorded e s (s.raise e) := by
  intro hs
  rw [Chip.rd_raise, if_pos ⟨hs, rfl⟩]
  simp [h]

theorem answers_iff (i : Instr) (s : State) (P : Chip → Prop) : Answers i s P ↔ ∃ t : Chip, exec i s = .next { s with chip := t } ∧ P t := Iff.rfl

/-- A command whose meaning is a change of the chip answers it. -/
theorem answers_of_to {i : Instr} {s : State} {P : Chip → Prop} {t : Chip} (h : exec i s = s.to t) (hp : P t) : Answers i s P := ⟨t, h, hp⟩

end Sys2Proof.Machine
end

