-- ==== Sys2Proof/Machine/Codes.lean ====
section
/-! DEFINITION. The two codes of the line (R118 to R124): the staircase code over the extended BCH component, and the quasi-cyclic LDPC code. Bits
are 0 or 1, the first bit sent first. -/

namespace Sys2Proof.Machine

/-- The exclusive or of two bit strings. -/
def xorBits (a b : List Nat) : List Nat := List.zipWith (fun x y => (x + y) % 2) a b

/-- The parity of a bit string. -/
def parityBit (l : List Nat) : Nat := l.foldl (fun p b => (p + b) % 2) 0

/-- The minimal polynomial of α over GF(2), the field's own x^10 + x^3 + 1; bit k is the coefficient of x^k (R119). -/
def minPoly1 : Nat := 0b10000001001

/-- The minimal polynomial of α^3, x^10 + x^3 + x^2 + x + 1 (R119). -/
def minPoly3 : Nat := 0b10000001111

/-- A product of polynomials over GF(2). -/
def polyMul (a b : Nat) : Nat := (List.range 32).foldl (fun p i => if b.testBit i then p ^^^ (a * 2 ^ i) else p) 0

/-- The generator g(x) of degree 20, the product of the minimal polynomials of α and α^3 (R119). -/
def bchGenerator : Nat := polyMul minPoly1 minPoly3

/-- The 20 BCH parity bits of 651 information bits: the remainder of m(x) x^20 by g(x), the coefficient of x^19 first (R119). -/
def bchParity (info : List Nat) : List Nat :=
  let r := crcMsb 20 (bchGenerator % 2 ^ 20) 0 info
  (List.range 20).map fun i => r / 2 ^ (19 - i) % 2

/-- A component codeword: the information bits, their BCH parity and the overall parity (R119). -/
def componentWord (info : List Nat) : List Nat :=
  let c := info ++ bchParity info
  c ++ [parityBit c]

/-- A staircase block as its 336 rows; B_0, which starts a chain, is zero (R120, R121). -/
def stairStart : List (List Nat) := List.replicate 336 (List.replicate 336 0)

/-- Row r of a block: its 315 information bits with the parity of the component that column r of the block before opens (R120). -/
def stairRow (prev : List (List Nat)) (info : List Nat) (r : Nat) : List Nat :=
  (componentWord ((prev.map fun row => row.getD r 0) ++ (info.drop (315 * r)).take 315)).drop 336

/-- Block i from the block before it and 105,840 information bits (R120). -/
def stairBlock (prev : List (List Nat)) (info : List Nat) : List (List Nat) := (List.range 336).map (stairRow prev info)

/-- The staircase-coded stream of the blocks of a chain, row by row (R120, R121). -/
def stairStream : List (List Nat) → List (List Nat) → List Nat
  | _, [] => []
  | prev, info :: rest => (stairBlock prev info).flatten ++ stairStream (stairBlock prev info) rest

/-- The shift of base row i and systematic base column j (R123). -/
def ldpcShift (i j : Nat) : Nat := ([1, 3, 7, 11].getD i 0 * j + [0, 5, 13, 23].getD i 0 * (j * j) + 96 * i) % 384

/-- The shifts of base row i in the parity columns 36 to 39; none where the block is absent (R123). -/
def ldpcParityShifts (i : Nat) : List (Option Nat) :=
  [[some 1, some 0, none, none], [none, some 0, some 0, none], [some 0, none, some 0, some 0], [some 1, none, none, some 0]].getD i []

/-- A column of 384 bits seen through a block of shift k: entry m is bit (m + k) mod 384. -/
def rotCol (k : Nat) (x : List Nat) : List Nat := x.drop k ++ x.take k

/-- λ_i: the sum over the systematic columns, shifted by P(i, j) (R124). -/
def ldpcLambda (cols : List (List Nat)) (i : Nat) : List Nat :=
  (List.range 36).foldl (fun s j => xorBits s (rotCol (ldpcShift i j) (cols.getD j []))) (List.replicate 384 0)

/-- The four parity columns of 36 systematic columns (R124). -/
def ldpcParity (cols : List (List Nat)) : List (List Nat) :=
  let l0 := ldpcLambda cols 0
  let l1 := ldpcLambda cols 1
  let l2 := ldpcLambda cols 2
  let l3 := ldpcLambda cols 3
  let p36 := xorBits (xorBits l0 l1) (xorBits l2 l3)
  let p37 := xorBits l0 (rotCol 1 p36)
  let p38 := xorBits l1 p37
  let p39 := xorBits l2 (xorBits p36 p38)
  [p36, p37, p38, p39]

/-- The syndrome of base row i of a codeword of 40 columns (R123, R129): zero where its checks hold. -/
def ldpcSyndrome (cols : List (List Nat)) (i : Nat) : List Nat :=
  (List.range 4).foldl (fun s j =>
    match (ldpcParityShifts i).getD j none with
    | some k => xorBits s (rotCol k (cols.getD (36 + j) []))
    | none => s) (ldpcLambda cols i)

/-- Bits cut into n strings of k. -/
def cutBits (n k : Nat) (l : List Nat) : List (List Nat) := (List.range n).map fun i => (l.drop (k * i)).take k

/-- A codeword of 15,360 bits from its 13,824 systematic bits (R124). -/
def ldpcCodeword (sys : List Nat) : List Nat := sys ++ (ldpcParity (cutBits 36 384 sys)).flatten

end Sys2Proof.Machine
end

