-- ==== Sys2Proof/Machine/LineCode.lean ====
section
/-! DEFINITION. Line blocks and line frames as they are sent (R167, R169, R171, R173, R176, R181, R182, R340, R341, R353, R356). The commands do not
carry whole frames; these are the views that say which bytes stand behind them. -/

namespace Sys2Proof.Machine

/-- The line alignment word (R176). -/
def lawBytes : List Nat := List.replicate 6 0xF6 ++ List.replicate 6 0x28 ++ [0x3C, 0xA5, 0x96, 0x0F]

/-- The bits in which two byte strings differ. -/
def bitErrors (a b : List Nat) : Nat := ((xorBytes a b).flatMap bitsMsb).sum

/-- Whether 16 bytes are a good LAW under a tolerance (R176). -/
def lawGood (tol : Nat) (b : List Nat) : Bool := decide (bitErrors b lawBytes ≤ tol)

/-- The header of a line block after its LAW: DCOUNT, PTR, BSN and HCRC (R167). -/
def blockHead (dcount ptr bsn : Nat) : List Nat :=
  let h := beBytes 2 dcount ++ beBytes 2 ptr ++ beBytes 2 bsn
  h ++ beBytes 2 (crcMsb 16 0x1021 0xFFFF (h.flatMap bitsMsb))

/-- n bytes of the scrambler's output, from its seed (R169). -/
def scrambler (n : Nat) : List Nat := bytesOfBits n (lfsrBits (8 * n) 0x3D4C2B1A 31 28)

/-- A line block of 13,230 bytes with DCOUNT data bytes (R167, R169). The blocks of a trail are the information of B_1, B_2 and so on (R168). -/
def lineBlock (ptr bsn : Nat) (data : List Nat) : List Nat :=
  let body := blockHead data.length ptr bsn ++ data ++ List.replicate (13206 - data.length) 0
  lawBytes ++ xorBytes body (scrambler 13214)

/-- The bits of a line block: the information bits of its staircase block (R167). -/
def blockBits (block : List Nat) : List Nat := block.flatMap bitsMsb

/-- The tributary slot of payload word w of the frame with FSN k on a trail at OTUCn (R173). -/
def tribSlot (n k w : Nat) : Nat := (822 * k + w) % (20 * n)

/-- Bytes 0 to 31 of a frame (R171). `idle` = what bytes 20 and 21 carry where TV is 0, of which the spec says only that they are no Tamust
bytes (R184). -/
def TxHdr.bytes (h : TxHdr) (idle : List Nat) : List Nat :=
  let flag := fun (b : Bool) (n : Nat) => if b then n else 0
  beBytes 4 h.fsn ++ [h.tti, h.bip, h.bei * 16 + flag h.bdi 8 + h.stat,
    h.kp * 128 + flag (h.sealing != .plain) 64 + flag h.tv 32, h.psiA, h.psiB] ++
    beBytes 4 h.aps ++ h.gcc0 ++ h.gcc12 ++ (if h.tv then h.tamust else idle) ++ List.replicate 10 0

/-- The plaintext payload under a STAT: the traffic, or the byte that replaces it (R182). -/
def statPayload (stat : Nat) (traffic : List Nat) : List Nat :=
  match stat with
  | 5 => List.replicate 13152 0x55
  | 6 => List.replicate 13152 0x66
  | 7 => List.replicate 13152 0xFF
  | _ => traffic

/-- The IV of a frame (R341). -/
def frameIv (epoch sid trail fsn : Nat) : List Nat := beBytes 4 epoch ++ [sid % 4 * 64 + trail % 16, 0, 0, 0] ++ beBytes 4 fsn

/-- A frame's payload and tag as sent (R171, R340, R353, R356), from its overhead, key, IV and plaintext payload. -/
def sealPayload (h : TxHdr) (key iv aad text : List Nat) : List Nat :=
  match h.sealing with
  | .plain => text ++ List.replicate 16 0
  | .keyless => List.replicate 13168 0
  | .sealed =>
    let ct := gcmCtr key iv text
    ct ++ gcmTag key iv aad ct
  | .voided =>
    let ct := gcmCtr key iv text
    ct ++ (gcmTag key iv aad ct).map (fun b => 255 - b)

/-- Whether the GCM check of a received frame passes (R340, R349): its 13,200 bytes under a key and an IV. -/
def tagPasses (key iv frame : List Nat) : Bool :=
  gcmTag key iv (frame.take 32) ((frame.drop 32).take 13152) == frame.drop 13184

/-- The BIP-8 of a frame as sent: the even parity over bytes 32 to 13,199, bit by bit (R181). -/
def bip8 (frame : List Nat) : Nat := (frame.drop 32).foldl (fun p b => p ^^^ b) 0

/-- The 13,200 bytes of the frame that a transmit trail started last, given the traffic of its 822 payload words (R171 to R184, R340, R341): as
it is while the key registers hold what they held at its start. -/
def Chip.sentFrame (s : Chip) (c : Carrier) (t : Nat) (idle traffic : List Nat) : Option (List Nat) :=
  (s.frmOf c t).hdr.map fun h =>
    let k := s.keyCar c
    let key := (Tab.get {} (s.lenc.get k).tx h.kp).bytes
    let iv := frameIv (s.getF (Reg.LENC.TX_KEY_EPOCH.EPOCH k h.kp)) (s.getF (Reg.LENC.LENC_CFG.TX_SID k)) t h.fsn
    h.bytes idle ++ sealPayload h key iv (h.bytes idle) (statPayload h.stat traffic)

end Sys2Proof.Machine
end

