-- ==== Sys2Proof/Machine/Symbols.lean ====
section
/-! DEFINITION. Symbols (R40 to R49, R125 to R127): labels and levels, the distribution matcher, the interleaver, pilots and training blocks. -/

namespace Sys2Proof.Machine

/-- A level of one real dimension, whole + root3 × √3 (R40, R41). -/
structure Level where
  whole : Int
  root3 : Int
deriving DecidableEq, Repr

/-- A level without √3. -/
def Level.int (n : Int) : Level := ⟨n, 0⟩

/-- The factor of a sign bit: 0 is the positive level (R40). -/
def signOf (b : Nat) : Int := if b = 0 then 1 else -1

/-- The amplitude of the 4-PAM bit m: 0 is the outer one (R40). -/
def pam4Amp (m : Nat) : Int := if m = 0 then 3 else 1

/-- The 8QAM point of a label, first bit first: I and Q (R41). -/
def ring8 (b0 b1 b2 : Nat) : Level × Level :=
  match b0, b1, b2 with
  | 0, 0, 0 => (⟨1, 1⟩, .int 0)
  | 0, 0, _ => (.int 1, .int 1)
  | 0, _, 0 => (.int (-1), .int 1)
  | 0, _, _ => (.int 0, ⟨1, 1⟩)
  | _, 0, 0 => (.int 1, .int (-1))
  | _, 0, _ => (.int 0, ⟨-1, -1⟩)
  | _, _, 0 => (⟨-1, -1⟩, .int 0)
  | _, _, _ => (.int (-1), .int (-1))

/-- The dimensions XI, XQ, YI, YQ of a symbol of a uniform format from its label bits (R40, R41): FORMAT 0, 1 or 2. -/
def symbolLevels (format : Nat) (b : List Nat) : List Level :=
  let g := fun i => b.getD i 0
  match format with
  | 0 => (List.range 4).map fun d => .int (signOf (g d))
  | 1 =>
    let x := ring8 (g 0) (g 1) (g 2)
    let y := ring8 (g 3) (g 4) (g 5)
    [x.1, x.2, y.1, y.2]
  | _ => (List.range 4).map fun d => .int (signOf (g (2 * d)) * pam4Amp (g (2 * d + 1)))

/-- The level of a dimension of PS-64QAM: its sign bit and its amplitude's number a, for 2 a + 1 (R44). -/
def pam8Level (sign a : Nat) : Int := signOf sign * (2 * (a : Int) + 1)

/-- The two label bits of an amplitude: 1 is 00, 3 is 01, 5 is 11 and 7 is 10 (R44). -/
def ampLabel (a : Nat) : List Nat := [a / 2 % 2, ((a + 1) / 2) % 2]

/-- The amplitude of a label, by its number. -/
def labelAmp (b0 b1 : Nat) : Nat := if b0 = 0 then b1 else 3 - b1

/-- How many sequences have a composition: the multinomial coefficient (R44). -/
def sequences (q : List Nat) : Nat := fact q.sum / (q.map fact).prod

/-- The counts left after an amplitude is taken. -/
def takeAmp (q : List Nat) (a : Nat) : List Nat := q.set a (q.getD a 0 - 1)

/-- The first amplitude of the m-th sequence of a composition, and what remains of m (R44): amplitudes in the order 1 < 3 < 5 < 7. -/
def firstAmp (q : List Nat) : List Nat → Nat → Nat × Nat
  | [], m => (0, m)
  | a :: rest, m =>
    let n := if q.getD a 0 = 0 then 0 else sequences (takeAmp q a)
    if m < n then (a, m) else firstAmp q rest (m - n)

/-- The m-th sequence, counting from 0, of all sequences of a composition in lexicographic order (R44). -/
def nthSequence : Nat → List Nat → Nat → List Nat
  | 0, _, _ => []
  | k + 1, q, m =>
    let f := firstAmp q [0, 1, 2, 3] m
    f.1 :: nthSequence k (takeAmp q f.1) f.2

/-- The place of a sequence among those of its composition: what the inverse matcher recovers (R43, R44). -/
def sequenceIndex : List Nat → List Nat → Nat
  | _, [] => 0
  | q, a :: rest =>
    ((List.range a).map fun b => if q.getD b 0 = 0 then 0 else sequences (takeAmp q b)).sum + sequenceIndex (takeAmp q a) rest

/-- The counts of a composition, smallest amplitude first. -/
def compositionList (q : Nat × Nat × Nat × Nat) : List Nat := [q.1, q.2.1, q.2.2.1, q.2.2.2]

/-- The block of 128 amplitudes of a matcher's input bits (R44). -/
def matcherBlock (entropy : Nat) (bits : List Nat) : List Nat := nthSequence 128 (compositionList (psComposition entropy)) (ofBits bits)

/-- Input bits of a matcher block, k = 64 × H − 128 (R44). -/
def matcherBits (entropy : Nat) : Nat := 4 * entropy - 128

/-- The systematic bits of a PS-64QAM codeword from the staircase-coded stream (R45): the labels of 40 matcher blocks, then 3,584 sign
data bits. -/
def psSystematic (entropy : Nat) (stream : List Nat) : List Nat :=
  let k := matcherBits entropy
  ((cutBits 40 k stream).flatMap fun b => (matcherBlock entropy b).flatMap ampLabel) ++ (stream.drop (40 * k)).take 3584

/-- Label bits b of a dual-polarisation symbol of a uniform format (R40). -/
def labelBits (format : Nat) : Nat := match format with | 0 => 4 | 1 => 6 | _ => 8

/-- Data symbols N_s of a codeword (R125, R127). -/
def cwSymbols (format : Nat) : Nat := match format with | 0 => 3840 | 1 => 2560 | 2 => 1920 | _ => 1280

/-- The label bit l and the symbol s of codeword bit k in a uniform format (R125). -/
def sentAt (format k : Nat) : Nat × Nat :=
  let b := labelBits format
  (k % b, (k / b * 97 + 64 * (k % b)) % cwSymbols format)

/-- The factor that undoes 97 modulo every N_s, since 97 × 4,513 = 57 × 7,680 + 1 (R125). -/
def undo97 : Nat := 4513

/-- The codeword bit that label bit l of symbol s carries in a uniform format (R125). -/
def bitAt (format l s : Nat) : Nat :=
  let n := cwSymbols format
  ((s + n * 64 - 64 * l) * undo97 % n) * labelBits format + l

/-- The symbols of a codeword of a uniform format, as label bits (R125). -/
def codewordLabels (format : Nat) (cw : List Nat) : List (List Nat) :=
  (List.range (cwSymbols format)).map fun s => (List.range (labelBits format)).map fun l => cw.getD (bitAt format l s) 0

/-- The amplitude whose sign is codeword bit 10,240 + k in PS-64QAM (R126). -/
def signAmp (k : Nat) : Nat := k * 97 % 5120

/-- The codeword bit that is the sign of amplitude a in PS-64QAM, since 97 × 1,953 = 37 × 5,120 + 1 (R126). -/
def signBitOf (a : Nat) : Nat := 10240 + a * 1953 % 5120

/-- The levels of the dimensions of a PS-64QAM codeword, in the order XI, XQ, YI, YQ of successive symbols (R44, R126). -/
def codewordLevels (cw : List Nat) : List Int :=
  (List.range 5120).map fun a => pam8Level (cw.getD (signBitOf a) 0) (labelAmp (cw.getD (2 * a) 0) (cw.getD (2 * a + 1) 0))

/-- What symbol i of a training period is (R46): training, pilot number, or data symbol number. -/
inductive PeriodSymbol where
  | training (i : Nat)
  | pilot (n : Nat)
  | data (n : Nat)
deriving DecidableEq, Repr

/-- The kind of symbol i of a period (R46). -/
def periodSymbol (i : Nat) : PeriodSymbol :=
  if i < 256 then .training i
  else if (i - 256) % 64 = 0 then .pilot ((i - 256) / 64)
  else .data ((i - 256) / 64 * 63 + (i - 256) % 64 - 1)

/-- The QPSK levels of successive bits: I sign, then Q sign (R47). -/
def qpskOf : List Nat → List (Int × Int)
  | i :: q :: rest => (signOf i, signOf q) :: qpskOf rest
  | _ => []

/-- The training block of a polarisation: 128 symbols, sent twice (R48). -/
def trainingBlock (y : Bool) : List (Int × Int) :=
  let half := qpskOf (lfsrBits 256 (if y then 0x0F3 else 0x1FF) 9 5)
  half ++ half

/-- The first n pilots of a period (R49). -/
def pilots (y : Bool) (n : Nat) : List (Int × Int) := qpskOf (lfsrBits (2 * n) (if y then 0x3A5C else 0x7FFF) 15 14)

/-- The data symbol of period p at which the first codeword boundary falls (R127). -/
def firstCodeword (format p : Nat) : Nat := (cwSymbols format - p * 258048 % cwSymbols format) % cwSymbols format

end Sys2Proof.Machine
end

