-- ==== Sys2Proof/Laws/LineCode.lean ====
section
/-! SUPPORT. The line code: every LDPC check holds, the interleavers lose no bit, every component codeword has even weight. -/

namespace Sys2Proof.Machine

@[simp] theorem xorBits_length (a b : List Nat) : (xorBits a b).length = min a.length b.length := by simp [xorBits]

/-- Bit i of an exclusive or. -/
theorem xorBits_getElem (a b : List Nat) (i : Nat) (h : i < (xorBits a b).length) :
    (xorBits a b)[i] = (a[i]'(by simp at h; omega) + b[i]'(by simp at h; omega)) % 2 := by simp [xorBits]

@[simp] theorem rotCol_length (k : Nat) (x : List Nat) : (rotCol k x).length = x.length := by
  simp [rotCol]; omega

@[simp] theorem rotCol_zero (x : List Nat) : rotCol 0 x = x := by simp [rotCol]

/-- λ_i has 384 bits. -/
theorem ldpcLambda_length (cols : List (List Nat)) (i : Nat) (h : ∀ j, j < 36 → (cols.getD j []).length = 384) :
    (ldpcLambda cols i).length = 384 := by
  have H : ∀ (l : List Nat), (∀ j ∈ l, j < 36) → ∀ s : List Nat, s.length = 384 →
      (l.foldl (fun s j => xorBits s (rotCol (ldpcShift i j) (cols.getD j []))) s).length = 384 := by
    intro l
    induction l with
    | nil => intro _ s hs; exact hs
    | cons j l ih =>
      intro hl s hs
      exact ih (fun k hk => hl k (.tail _ hk)) _ (by rw [xorBits_length, rotCol_length, h j (hl j (.head _)), hs]; rfl)
  exact H _ (fun j hj => List.mem_range.mp hj) _ List.length_replicate

/-- Every check of a codeword whose parity follows from its systematic columns holds (R123, R124). -/
theorem ldpcSyndrome_zero (cols : List (List Nat)) (hl : cols.length = 36) (h : ∀ j, j < 36 → (cols.getD j []).length = 384)
    (i : Nat) (hi : i < 4) : ldpcSyndrome (cols ++ ldpcParity cols) i = List.replicate 384 0 := by
  have hL : ∀ k, ldpcLambda (cols ++ ldpcParity cols) k = ldpcLambda cols k := by
    intro k
    unfold ldpcLambda
    apply List.foldl_ext
    intro s j hj
    have hj' := List.mem_range.mp hj
    rw [List.getD_append _ _ _ _ (by omega)]
  have hc : ∀ j, (cols ++ ldpcParity cols).getD (36 + j) [] = (ldpcParity cols).getD j [] := by
    intro j
    rw [List.getD_append_right _ _ _ _ (by omega), hl, Nat.add_sub_cancel_left]
  have h0 := ldpcLambda_length cols 0 h
  have h1 := ldpcLambda_length cols 1 h
  have h2 := ldpcLambda_length cols 2 h
  have h3 := ldpcLambda_length cols 3 h
  have hr : List.range 4 = [0, 1, 2, 3] := rfl
  simp only [ldpcSyndrome, hL, hc]
  simp only [ldpcParity, hr]
  obtain rfl | rfl | rfl | rfl : i = 0 ∨ i = 1 ∨ i = 2 ∨ i = 3 := by omega
  all_goals
    generalize ldpcLambda cols 0 = a at *
    generalize ldpcLambda cols 1 = b at *
    generalize ldpcLambda cols 2 = c at *
    generalize ldpcLambda cols 3 = d at *
    generalize hrot : rotCol 1 (xorBits (xorBits a b) (xorBits c d)) = r
    have hrl : r.length = 384 := by simp [← hrot, h0, h1, h2, h3]
    apply List.ext_getElem
    · simp only [ldpcParityShifts, List.getD_cons_zero, List.getD_cons_succ, List.foldl, hrot, rotCol_zero, xorBits_length,
        List.length_replicate, h0, h1, h2, h3, hrl, Nat.min_self]
    · intro m hm _
      simp only [ldpcParityShifts, List.getD_cons_zero, List.getD_cons_succ, List.foldl, hrot, rotCol_zero, xorBits_getElem,
        List.getElem_replicate]
      omega

/-- The interleaver of the uniform formats loses no bit: the bit at the place that a codeword bit is sent at is that bit (R125). -/
theorem bitAt_sentAt (format k : Nat) (hf : format < 3) (hk : k < 15360) : bitAt format (sentAt format k).1 (sentAt format k).2 = k := by
  obtain rfl | rfl | rfl : format = 0 ∨ format = 1 ∨ format = 2 := by omega
  all_goals
    simp only [bitAt, sentAt, labelBits, cwSymbols, undo97]
    omega

/-- The permutation of the sign bits loses none (R126). -/
theorem signBitOf_signAmp (k : Nat) (hk : k < 5120) : signBitOf (signAmp k) = 10240 + k := by
  unfold signBitOf signAmp; omega

/-- Every component codeword has even weight (R119). -/
theorem componentWord_even (info : List Nat) : parityBit (componentWord info) = 0 := by
  have hb : ∀ (l : List Nat) (p : Nat), p < 2 → l.foldl (fun p b => (p + b) % 2) p < 2 := by
    intro l
    induction l with
    | nil => intro p hp; exact hp
    | cons b l ih => intro p _; exact ih _ (Nat.mod_lt _ (by decide))
  simp only [componentWord, parityBit, List.foldl_append, List.foldl]
  omega

end Sys2Proof.Machine
end

