-- ==== Sys2Proof/Laws/Memory.lean ====
section
/-! SUPPORT. The laws of the memories: the pools and the flash read after a write, and every memory operation keeps the canonical form. -/

namespace Sys2Proof.Machine

variable {α : Type} [DecidableEq α]

@[simp] theorem Tab.get_put (d : α) (t : List (Nat × α)) (i j : Nat) (v : α) : Tab.get d (Tab.put d t i v) j = if j = i then v else Tab.get d t j :=
  Store.get_set _ t i j v

theorem Tab.wf_put (d : α) (t : List (Nat × α)) (i : Nat) (v : α) (h : Store.wf (fun _ => d) t = true) :
    Store.wf (fun _ => d) (Tab.put d t i v) = true := Store.wf_set _ t i v h

/-- A pool word after a write of one: the word written at its place, every other as before. -/
@[simp] theorem Chip.poolWord_setPoolWord (s : Chip) (w x : Nat) (v : PoolWord) :
    (s.setPoolWord w v).poolWord x = if x = w then v else s.poolWord x := Tab.get_put _ _ _ _ _

/-- A write of a pool word touches no register and nothing outside the pools. -/
theorem Chip.setPoolWord_frame (s : Chip) (w : Nat) (v : PoolWord) :
    s.setPoolWord w v = { s with pool := { s.pool with words := (s.setPoolWord w v).pool.words } } := rfl

@[simp] theorem Chip.rd_setPoolWord (s : Chip) (w a : Nat) (v : PoolWord) : (s.setPoolWord w v).rd a = s.rd a := rfl

theorem Chip.pool_wf_setPoolWord (s : Chip) (w : Nat) (v : PoolWord) (h : Store.wf (fun _ => ({} : PoolWord)) s.pool.words = true) :
    Store.wf (fun _ => ({} : PoolWord)) (s.setPoolWord w v).pool.words = true := Tab.wf_put _ _ _ _ h

/-- A flash byte after a write of one. -/
@[simp] theorem Chip.flashByte_setFlash (s : Chip) (a b x : Nat) : (s.setFlash a b).flashByte x = if x = a then b % 256 else s.flashByte x :=
  Tab.get_put _ _ _ _ _

@[simp] theorem Chip.rd_setFlash (s : Chip) (a b x : Nat) : (s.setFlash a b).rd x = s.rd x := rfl

/-- A write of a flash byte touches nothing but the flash. -/
theorem Chip.setFlash_frame (s : Chip) (a b : Nat) :
    s.setFlash a b = { s with boot := { s.boot with flash := (s.setFlash a b).boot.flash } } := rfl

theorem Chip.flash_wf_setFlash (s : Chip) (a b : Nat) (h : Store.wf (fun _ => 0xFF) s.boot.flash = true) :
    Store.wf (fun _ => 0xFF) (s.setFlash a b).boot.flash = true := Tab.wf_put _ _ _ _ h

/-- Bytes of the flash replaced keep its canonical form. -/
theorem Chip.flash_wf_setFlashBytes (s : Chip) (a : Nat) (l : List Nat) (h : Store.wf (fun _ => 0xFF) s.boot.flash = true) :
    Store.wf (fun _ => 0xFF) (s.setFlashBytes a l).boot.flash = true := by
  unfold Chip.setFlashBytes
  generalize l.zipIdx = m
  induction m generalizing s with
  | nil => exact h
  | cons p m ih => exact ih _ (Chip.flash_wf_setFlash s _ _ h)

/-- Bytes of the flash replaced touch nothing but the flash. -/
theorem Chip.setFlashBytes_frame (s : Chip) (a : Nat) (l : List Nat) :
    s.setFlashBytes a l = { s with boot := { s.boot with flash := (s.setFlashBytes a l).boot.flash } } := by
  unfold Chip.setFlashBytes
  generalize l.zipIdx = m
  induction m generalizing s with
  | nil => rfl
  | cons p m ih => rw [List.foldl_cons, ih]; rfl

end Sys2Proof.Machine
end

