-- ==== Sys2Proof/Laws/State.lean ====
section
/-! SUPPORT. One law per field of the chip for each named update: the field it writes and the fields it leaves. -/

namespace Sys2Proof.Machine

@[simp] theorem State.to_eq (s : State) (c : Chip) : s.to c = .next { s with chip := c } := rfl

@[simp] theorem Chip.wr_actRegs (s : Chip) (a : Nat) (w : Word) : (s.wr a w).actRegs = s.actRegs := rfl
@[simp] theorem Chip.wr_live (s : Chip) (a : Nat) (w : Word) : (s.wr a w).live = s.live := rfl
@[simp] theorem Chip.wr_freeIx (s : Chip) (a : Nat) (w : Word) : (s.wr a w).freeIx = s.freeIx := rfl
@[simp] theorem Chip.wr_now (s : Chip) (a : Nat) (w : Word) : (s.wr a w).now = s.now := rfl
@[simp] theorem Chip.wr_fuse (s : Chip) (a : Nat) (w : Word) : (s.wr a w).fuse = s.fuse := rfl
@[simp] theorem Chip.wr_top (s : Chip) (a : Nat) (w : Word) : (s.wr a w).top = s.top := rfl
@[simp] theorem Chip.wr_clk (s : Chip) (a : Nat) (w : Word) : (s.wr a w).clk = s.clk := rfl
@[simp] theorem Chip.wr_txd (s : Chip) (a : Nat) (w : Word) : (s.wr a w).txd = s.txd := rfl
@[simp] theorem Chip.wr_rcv (s : Chip) (a : Nat) (w : Word) : (s.wr a w).rcv = s.rcv := rfl
@[simp] theorem Chip.wr_fec (s : Chip) (a : Nat) (w : Word) : (s.wr a w).fec = s.fec := rfl
@[simp] theorem Chip.wr_subc (s : Chip) (a : Nat) (w : Word) : (s.wr a w).subc = s.subc := rfl
@[simp] theorem Chip.wr_frm (s : Chip) (a : Nat) (w : Word) : (s.wr a w).frm = s.frm := rfl
@[simp] theorem Chip.wr_pm (s : Chip) (a : Nat) (w : Word) : (s.wr a w).pm = s.pm := rfl
@[simp] theorem Chip.wr_dem (s : Chip) (a : Nat) (w : Word) : (s.wr a w).dem = s.dem := rfl
@[simp] theorem Chip.wr_wst (s : Chip) (a : Nat) (w : Word) : (s.wr a w).wst = s.wst := rfl
@[simp] theorem Chip.wr_tim (s : Chip) (a : Nat) (w : Word) : (s.wr a w).tim = s.tim := rfl
@[simp] theorem Chip.wr_grp (s : Chip) (a : Nat) (w : Word) : (s.wr a w).grp = s.grp := rfl
@[simp] theorem Chip.wr_pg (s : Chip) (a : Nat) (w : Word) : (s.wr a w).pg = s.pg := rfl
@[simp] theorem Chip.wr_lost (s : Chip) (a : Nat) (w : Word) : (s.wr a w).lost = s.lost := rfl
@[simp] theorem Chip.wr_lenc (s : Chip) (a : Nat) (w : Word) : (s.wr a w).lenc = s.lenc := rfl
@[simp] theorem Chip.wr_sec (s : Chip) (a : Nat) (w : Word) : (s.wr a w).sec = s.sec := rfl
@[simp] theorem Chip.wr_evcs (s : Chip) (a : Nat) (w : Word) : (s.wr a w).evcs = s.evcs := rfl
@[simp] theorem Chip.wr_tst (s : Chip) (a : Nat) (w : Word) : (s.wr a w).tst = s.tst := rfl
@[simp] theorem Chip.wr_pool (s : Chip) (a : Nat) (w : Word) : (s.wr a w).pool = s.pool := rfl
@[simp] theorem Chip.wr_boot (s : Chip) (a : Nat) (w : Word) : (s.wr a w).boot = s.boot := rfl
@[simp] theorem Chip.wr_mgmt (s : Chip) (a : Nat) (w : Word) : (s.wr a w).mgmt = s.mgmt := rfl
@[simp] theorem Chip.wr_pci (s : Chip) (a : Nat) (w : Word) : (s.wr a w).pci = s.pci := rfl
@[simp] theorem Chip.wr_mon (s : Chip) (a : Nat) (w : Word) : (s.wr a w).mon = s.mon := rfl
@[simp] theorem Chip.wr_lane (s : Chip) (a : Nat) (w : Word) : (s.wr a w).lane = s.lane := rfl
@[simp] theorem Chip.wr_resp (s : Chip) (a : Nat) (w : Word) : (s.wr a w).resp = s.resp := rfl

@[simp] theorem Chip.setF_actRegs (s : Chip) (f : Fld) (v : Nat) : (s.setF f v).actRegs = s.actRegs := rfl
@[simp] theorem Chip.setF_live (s : Chip) (f : Fld) (v : Nat) : (s.setF f v).live = s.live := rfl
@[simp] theorem Chip.setF_freeIx (s : Chip) (f : Fld) (v : Nat) : (s.setF f v).freeIx = s.freeIx := rfl
@[simp] theorem Chip.setF_now (s : Chip) (f : Fld) (v : Nat) : (s.setF f v).now = s.now := rfl
@[simp] theorem Chip.setF_fuse (s : Chip) (f : Fld) (v : Nat) : (s.setF f v).fuse = s.fuse := rfl
@[simp] theorem Chip.setF_top (s : Chip) (f : Fld) (v : Nat) : (s.setF f v).top = s.top := rfl
@[simp] theorem Chip.setF_clk (s : Chip) (f : Fld) (v : Nat) : (s.setF f v).clk = s.clk := rfl
@[simp] theorem Chip.setF_txd (s : Chip) (f : Fld) (v : Nat) : (s.setF f v).txd = s.txd := rfl
@[simp] theorem Chip.setF_rcv (s : Chip) (f : Fld) (v : Nat) : (s.setF f v).rcv = s.rcv := rfl
@[simp] theorem Chip.setF_fec (s : Chip) (f : Fld) (v : Nat) : (s.setF f v).fec = s.fec := rfl
@[simp] theorem Chip.setF_subc (s : Chip) (f : Fld) (v : Nat) : (s.setF f v).subc = s.subc := rfl
@[simp] theorem Chip.setF_frm (s : Chip) (f : Fld) (v : Nat) : (s.setF f v).frm = s.frm := rfl
@[simp] theorem Chip.setF_pm (s : Chip) (f : Fld) (v : Nat) : (s.setF f v).pm = s.pm := rfl
@[simp] theorem Chip.setF_dem (s : Chip) (f : Fld) (v : Nat) : (s.setF f v).dem = s.dem := rfl
@[simp] theorem Chip.setF_wst (s : Chip) (f : Fld) (v : Nat) : (s.setF f v).wst = s.wst := rfl
@[simp] theorem Chip.setF_tim (s : Chip) (f : Fld) (v : Nat) : (s.setF f v).tim = s.tim := rfl
@[simp] theorem Chip.setF_grp (s : Chip) (f : Fld) (v : Nat) : (s.setF f v).grp = s.grp := rfl
@[simp] theorem Chip.setF_pg (s : Chip) (f : Fld) (v : Nat) : (s.setF f v).pg = s.pg := rfl
@[simp] theorem Chip.setF_lost (s : Chip) (f : Fld) (v : Nat) : (s.setF f v).lost = s.lost := rfl
@[simp] theorem Chip.setF_lenc (s : Chip) (f : Fld) (v : Nat) : (s.setF f v).lenc = s.lenc := rfl
@[simp] theorem Chip.setF_sec (s : Chip) (f : Fld) (v : Nat) : (s.setF f v).sec = s.sec := rfl
@[simp] theorem Chip.setF_evcs (s : Chip) (f : Fld) (v : Nat) : (s.setF f v).evcs = s.evcs := rfl
@[simp] theorem Chip.setF_tst (s : Chip) (f : Fld) (v : Nat) : (s.setF f v).tst = s.tst := rfl
@[simp] theorem Chip.setF_pool (s : Chip) (f : Fld) (v : Nat) : (s.setF f v).pool = s.pool := rfl
@[simp] theorem Chip.setF_boot (s : Chip) (f : Fld) (v : Nat) : (s.setF f v).boot = s.boot := rfl
@[simp] theorem Chip.setF_mgmt (s : Chip) (f : Fld) (v : Nat) : (s.setF f v).mgmt = s.mgmt := rfl
@[simp] theorem Chip.setF_pci (s : Chip) (f : Fld) (v : Nat) : (s.setF f v).pci = s.pci := rfl
@[simp] theorem Chip.setF_mon (s : Chip) (f : Fld) (v : Nat) : (s.setF f v).mon = s.mon := rfl
@[simp] theorem Chip.setF_lane (s : Chip) (f : Fld) (v : Nat) : (s.setF f v).lane = s.lane := rfl
@[simp] theorem Chip.setF_resp (s : Chip) (f : Fld) (v : Nat) : (s.setF f v).resp = s.resp := rfl

@[simp] theorem Chip.setFlag_actRegs (s : Chip) (f : Fld) (b : Bool) : (s.setFlag f b).actRegs = s.actRegs := rfl
@[simp] theorem Chip.setFlag_live (s : Chip) (f : Fld) (b : Bool) : (s.setFlag f b).live = s.live := rfl
@[simp] theorem Chip.setFlag_freeIx (s : Chip) (f : Fld) (b : Bool) : (s.setFlag f b).freeIx = s.freeIx := rfl
@[simp] theorem Chip.setFlag_now (s : Chip) (f : Fld) (b : Bool) : (s.setFlag f b).now = s.now := rfl
@[simp] theorem Chip.setFlag_fuse (s : Chip) (f : Fld) (b : Bool) : (s.setFlag f b).fuse = s.fuse := rfl
@[simp] theorem Chip.setFlag_top (s : Chip) (f : Fld) (b : Bool) : (s.setFlag f b).top = s.top := rfl
@[simp] theorem Chip.setFlag_clk (s : Chip) (f : Fld) (b : Bool) : (s.setFlag f b).clk = s.clk := rfl
@[simp] theorem Chip.setFlag_txd (s : Chip) (f : Fld) (b : Bool) : (s.setFlag f b).txd = s.txd := rfl
@[simp] theorem Chip.setFlag_rcv (s : Chip) (f : Fld) (b : Bool) : (s.setFlag f b).rcv = s.rcv := rfl
@[simp] theorem Chip.setFlag_fec (s : Chip) (f : Fld) (b : Bool) : (s.setFlag f b).fec = s.fec := rfl
@[simp] theorem Chip.setFlag_subc (s : Chip) (f : Fld) (b : Bool) : (s.setFlag f b).subc = s.subc := rfl
@[simp] theorem Chip.setFlag_frm (s : Chip) (f : Fld) (b : Bool) : (s.setFlag f b).frm = s.frm := rfl
@[simp] theorem Chip.setFlag_pm (s : Chip) (f : Fld) (b : Bool) : (s.setFlag f b).pm = s.pm := rfl
@[simp] theorem Chip.setFlag_dem (s : Chip) (f : Fld) (b : Bool) : (s.setFlag f b).dem = s.dem := rfl
@[simp] theorem Chip.setFlag_wst (s : Chip) (f : Fld) (b : Bool) : (s.setFlag f b).wst = s.wst := rfl
@[simp] theorem Chip.setFlag_tim (s : Chip) (f : Fld) (b : Bool) : (s.setFlag f b).tim = s.tim := rfl
@[simp] theorem Chip.setFlag_grp (s : Chip) (f : Fld) (b : Bool) : (s.setFlag f b).grp = s.grp := rfl
@[simp] theorem Chip.setFlag_pg (s : Chip) (f : Fld) (b : Bool) : (s.setFlag f b).pg = s.pg := rfl
@[simp] theorem Chip.setFlag_lost (s : Chip) (f : Fld) (b : Bool) : (s.setFlag f b).lost = s.lost := rfl
@[simp] theorem Chip.setFlag_lenc (s : Chip) (f : Fld) (b : Bool) : (s.setFlag f b).lenc = s.lenc := rfl
@[simp] theorem Chip.setFlag_sec (s : Chip) (f : Fld) (b : Bool) : (s.setFlag f b).sec = s.sec := rfl
@[simp] theorem Chip.setFlag_evcs (s : Chip) (f : Fld) (b : Bool) : (s.setFlag f b).evcs = s.evcs := rfl
@[simp] theorem Chip.setFlag_tst (s : Chip) (f : Fld) (b : Bool) : (s.setFlag f b).tst = s.tst := rfl
@[simp] theorem Chip.setFlag_pool (s : Chip) (f : Fld) (b : Bool) : (s.setFlag f b).pool = s.pool := rfl
@[simp] theorem Chip.setFlag_boot (s : Chip) (f : Fld) (b : Bool) : (s.setFlag f b).boot = s.boot := rfl
@[simp] theorem Chip.setFlag_mgmt (s : Chip) (f : Fld) (b : Bool) : (s.setFlag f b).mgmt = s.mgmt := rfl
@[simp] theorem Chip.setFlag_pci (s : Chip) (f : Fld) (b : Bool) : (s.setFlag f b).pci = s.pci := rfl
@[simp] theorem Chip.setFlag_mon (s : Chip) (f : Fld) (b : Bool) : (s.setFlag f b).mon = s.mon := rfl
@[simp] theorem Chip.setFlag_lane (s : Chip) (f : Fld) (b : Bool) : (s.setFlag f b).lane = s.lane := rfl
@[simp] theorem Chip.setFlag_resp (s : Chip) (f : Fld) (b : Bool) : (s.setFlag f b).resp = s.resp := rfl

@[simp] theorem Chip.setLive_regs (s : Chip) (e : Ev) (b : Bool) : (s.setLive e b).regs = s.regs := rfl
@[simp] theorem Chip.setLive_actRegs (s : Chip) (e : Ev) (b : Bool) : (s.setLive e b).actRegs = s.actRegs := rfl
@[simp] theorem Chip.setLive_freeIx (s : Chip) (e : Ev) (b : Bool) : (s.setLive e b).freeIx = s.freeIx := rfl
@[simp] theorem Chip.setLive_now (s : Chip) (e : Ev) (b : Bool) : (s.setLive e b).now = s.now := rfl
@[simp] theorem Chip.setLive_fuse (s : Chip) (e : Ev) (b : Bool) : (s.setLive e b).fuse = s.fuse := rfl
@[simp] theorem Chip.setLive_top (s : Chip) (e : Ev) (b : Bool) : (s.setLive e b).top = s.top := rfl
@[simp] theorem Chip.setLive_clk (s : Chip) (e : Ev) (b : Bool) : (s.setLive e b).clk = s.clk := rfl
@[simp] theorem Chip.setLive_txd (s : Chip) (e : Ev) (b : Bool) : (s.setLive e b).txd = s.txd := rfl
@[simp] theorem Chip.setLive_rcv (s : Chip) (e : Ev) (b : Bool) : (s.setLive e b).rcv = s.rcv := rfl
@[simp] theorem Chip.setLive_fec (s : Chip) (e : Ev) (b : Bool) : (s.setLive e b).fec = s.fec := rfl
@[simp] theorem Chip.setLive_subc (s : Chip) (e : Ev) (b : Bool) : (s.setLive e b).subc = s.subc := rfl
@[simp] theorem Chip.setLive_frm (s : Chip) (e : Ev) (b : Bool) : (s.setLive e b).frm = s.frm := rfl
@[simp] theorem Chip.setLive_pm (s : Chip) (e : Ev) (b : Bool) : (s.setLive e b).pm = s.pm := rfl
@[simp] theorem Chip.setLive_dem (s : Chip) (e : Ev) (b : Bool) : (s.setLive e b).dem = s.dem := rfl
@[simp] theorem Chip.setLive_wst (s : Chip) (e : Ev) (b : Bool) : (s.setLive e b).wst = s.wst := rfl
@[simp] theorem Chip.setLive_tim (s : Chip) (e : Ev) (b : Bool) : (s.setLive e b).tim = s.tim := rfl
@[simp] theorem Chip.setLive_grp (s : Chip) (e : Ev) (b : Bool) : (s.setLive e b).grp = s.grp := rfl
@[simp] theorem Chip.setLive_pg (s : Chip) (e : Ev) (b : Bool) : (s.setLive e b).pg = s.pg := rfl
@[simp] theorem Chip.setLive_lost (s : Chip) (e : Ev) (b : Bool) : (s.setLive e b).lost = s.lost := rfl
@[simp] theorem Chip.setLive_lenc (s : Chip) (e : Ev) (b : Bool) : (s.setLive e b).lenc = s.lenc := rfl
@[simp] theorem Chip.setLive_sec (s : Chip) (e : Ev) (b : Bool) : (s.setLive e b).sec = s.sec := rfl
@[simp] theorem Chip.setLive_evcs (s : Chip) (e : Ev) (b : Bool) : (s.setLive e b).evcs = s.evcs := rfl
@[simp] theorem Chip.setLive_tst (s : Chip) (e : Ev) (b : Bool) : (s.setLive e b).tst = s.tst := rfl
@[simp] theorem Chip.setLive_pool (s : Chip) (e : Ev) (b : Bool) : (s.setLive e b).pool = s.pool := rfl
@[simp] theorem Chip.setLive_boot (s : Chip) (e : Ev) (b : Bool) : (s.setLive e b).boot = s.boot := rfl
@[simp] theorem Chip.setLive_mgmt (s : Chip) (e : Ev) (b : Bool) : (s.setLive e b).mgmt = s.mgmt := rfl
@[simp] theorem Chip.setLive_pci (s : Chip) (e : Ev) (b : Bool) : (s.setLive e b).pci = s.pci := rfl
@[simp] theorem Chip.setLive_mon (s : Chip) (e : Ev) (b : Bool) : (s.setLive e b).mon = s.mon := rfl
@[simp] theorem Chip.setLive_lane (s : Chip) (e : Ev) (b : Bool) : (s.setLive e b).lane = s.lane := rfl
@[simp] theorem Chip.setLive_resp (s : Chip) (e : Ev) (b : Bool) : (s.setLive e b).resp = s.resp := rfl

@[simp] theorem Chip.setPair_actRegs (s : Chip) (lo v : Nat) : (s.setPair lo v).actRegs = s.actRegs := rfl
@[simp] theorem Chip.setPair_live (s : Chip) (lo v : Nat) : (s.setPair lo v).live = s.live := rfl
@[simp] theorem Chip.setPair_freeIx (s : Chip) (lo v : Nat) : (s.setPair lo v).freeIx = s.freeIx := rfl
@[simp] theorem Chip.setPair_now (s : Chip) (lo v : Nat) : (s.setPair lo v).now = s.now := rfl
@[simp] theorem Chip.setPair_fuse (s : Chip) (lo v : Nat) : (s.setPair lo v).fuse = s.fuse := rfl
@[simp] theorem Chip.setPair_top (s : Chip) (lo v : Nat) : (s.setPair lo v).top = s.top := rfl
@[simp] theorem Chip.setPair_clk (s : Chip) (lo v : Nat) : (s.setPair lo v).clk = s.clk := rfl
@[simp] theorem Chip.setPair_txd (s : Chip) (lo v : Nat) : (s.setPair lo v).txd = s.txd := rfl
@[simp] theorem Chip.setPair_rcv (s : Chip) (lo v : Nat) : (s.setPair lo v).rcv = s.rcv := rfl
@[simp] theorem Chip.setPair_fec (s : Chip) (lo v : Nat) : (s.setPair lo v).fec = s.fec := rfl
@[simp] theorem Chip.setPair_subc (s : Chip) (lo v : Nat) : (s.setPair lo v).subc = s.subc := rfl
@[simp] theorem Chip.setPair_frm (s : Chip) (lo v : Nat) : (s.setPair lo v).frm = s.frm := rfl
@[simp] theorem Chip.setPair_pm (s : Chip) (lo v : Nat) : (s.setPair lo v).pm = s.pm := rfl
@[simp] theorem Chip.setPair_dem (s : Chip) (lo v : Nat) : (s.setPair lo v).dem = s.dem := rfl
@[simp] theorem Chip.setPair_wst (s : Chip) (lo v : Nat) : (s.setPair lo v).wst = s.wst := rfl
@[simp] theorem Chip.setPair_tim (s : Chip) (lo v : Nat) : (s.setPair lo v).tim = s.tim := rfl
@[simp] theorem Chip.setPair_grp (s : Chip) (lo v : Nat) : (s.setPair lo v).grp = s.grp := rfl
@[simp] theorem Chip.setPair_pg (s : Chip) (lo v : Nat) : (s.setPair lo v).pg = s.pg := rfl
@[simp] theorem Chip.setPair_lost (s : Chip) (lo v : Nat) : (s.setPair lo v).lost = s.lost := rfl
@[simp] theorem Chip.setPair_lenc (s : Chip) (lo v : Nat) : (s.setPair lo v).lenc = s.lenc := rfl
@[simp] theorem Chip.setPair_sec (s : Chip) (lo v : Nat) : (s.setPair lo v).sec = s.sec := rfl
@[simp] theorem Chip.setPair_evcs (s : Chip) (lo v : Nat) : (s.setPair lo v).evcs = s.evcs := rfl
@[simp] theorem Chip.setPair_tst (s : Chip) (lo v : Nat) : (s.setPair lo v).tst = s.tst := rfl
@[simp] theorem Chip.setPair_pool (s : Chip) (lo v : Nat) : (s.setPair lo v).pool = s.pool := rfl
@[simp] theorem Chip.setPair_boot (s : Chip) (lo v : Nat) : (s.setPair lo v).boot = s.boot := rfl
@[simp] theorem Chip.setPair_mgmt (s : Chip) (lo v : Nat) : (s.setPair lo v).mgmt = s.mgmt := rfl
@[simp] theorem Chip.setPair_pci (s : Chip) (lo v : Nat) : (s.setPair lo v).pci = s.pci := rfl
@[simp] theorem Chip.setPair_mon (s : Chip) (lo v : Nat) : (s.setPair lo v).mon = s.mon := rfl
@[simp] theorem Chip.setPair_lane (s : Chip) (lo v : Nat) : (s.setPair lo v).lane = s.lane := rfl
@[simp] theorem Chip.setPair_resp (s : Chip) (lo v : Nat) : (s.setPair lo v).resp = s.resp := rfl

@[simp] theorem Chip.modClk_regs (s : Chip) (g : ClkSt → ClkSt) : (s.modClk g).regs = s.regs := rfl
@[simp] theorem Chip.modClk_actRegs (s : Chip) (g : ClkSt → ClkSt) : (s.modClk g).actRegs = s.actRegs := rfl
@[simp] theorem Chip.modClk_live (s : Chip) (g : ClkSt → ClkSt) : (s.modClk g).live = s.live := rfl
@[simp] theorem Chip.modClk_freeIx (s : Chip) (g : ClkSt → ClkSt) : (s.modClk g).freeIx = s.freeIx := rfl
@[simp] theorem Chip.modClk_now (s : Chip) (g : ClkSt → ClkSt) : (s.modClk g).now = s.now := rfl
@[simp] theorem Chip.modClk_fuse (s : Chip) (g : ClkSt → ClkSt) : (s.modClk g).fuse = s.fuse := rfl
@[simp] theorem Chip.modClk_top (s : Chip) (g : ClkSt → ClkSt) : (s.modClk g).top = s.top := rfl
@[simp] theorem Chip.modClk_txd (s : Chip) (g : ClkSt → ClkSt) : (s.modClk g).txd = s.txd := rfl
@[simp] theorem Chip.modClk_rcv (s : Chip) (g : ClkSt → ClkSt) : (s.modClk g).rcv = s.rcv := rfl
@[simp] theorem Chip.modClk_fec (s : Chip) (g : ClkSt → ClkSt) : (s.modClk g).fec = s.fec := rfl
@[simp] theorem Chip.modClk_subc (s : Chip) (g : ClkSt → ClkSt) : (s.modClk g).subc = s.subc := rfl
@[simp] theorem Chip.modClk_frm (s : Chip) (g : ClkSt → ClkSt) : (s.modClk g).frm = s.frm := rfl
@[simp] theorem Chip.modClk_pm (s : Chip) (g : ClkSt → ClkSt) : (s.modClk g).pm = s.pm := rfl
@[simp] theorem Chip.modClk_dem (s : Chip) (g : ClkSt → ClkSt) : (s.modClk g).dem = s.dem := rfl
@[simp] theorem Chip.modClk_wst (s : Chip) (g : ClkSt → ClkSt) : (s.modClk g).wst = s.wst := rfl
@[simp] theorem Chip.modClk_tim (s : Chip) (g : ClkSt → ClkSt) : (s.modClk g).tim = s.tim := rfl
@[simp] theorem Chip.modClk_grp (s : Chip) (g : ClkSt → ClkSt) : (s.modClk g).grp = s.grp := rfl
@[simp] theorem Chip.modClk_pg (s : Chip) (g : ClkSt → ClkSt) : (s.modClk g).pg = s.pg := rfl
@[simp] theorem Chip.modClk_lost (s : Chip) (g : ClkSt → ClkSt) : (s.modClk g).lost = s.lost := rfl
@[simp] theorem Chip.modClk_lenc (s : Chip) (g : ClkSt → ClkSt) : (s.modClk g).lenc = s.lenc := rfl
@[simp] theorem Chip.modClk_sec (s : Chip) (g : ClkSt → ClkSt) : (s.modClk g).sec = s.sec := rfl
@[simp] theorem Chip.modClk_evcs (s : Chip) (g : ClkSt → ClkSt) : (s.modClk g).evcs = s.evcs := rfl
@[simp] theorem Chip.modClk_tst (s : Chip) (g : ClkSt → ClkSt) : (s.modClk g).tst = s.tst := rfl
@[simp] theorem Chip.modClk_pool (s : Chip) (g : ClkSt → ClkSt) : (s.modClk g).pool = s.pool := rfl
@[simp] theorem Chip.modClk_boot (s : Chip) (g : ClkSt → ClkSt) : (s.modClk g).boot = s.boot := rfl
@[simp] theorem Chip.modClk_mgmt (s : Chip) (g : ClkSt → ClkSt) : (s.modClk g).mgmt = s.mgmt := rfl
@[simp] theorem Chip.modClk_pci (s : Chip) (g : ClkSt → ClkSt) : (s.modClk g).pci = s.pci := rfl
@[simp] theorem Chip.modClk_mon (s : Chip) (g : ClkSt → ClkSt) : (s.modClk g).mon = s.mon := rfl
@[simp] theorem Chip.modClk_lane (s : Chip) (g : ClkSt → ClkSt) : (s.modClk g).lane = s.lane := rfl
@[simp] theorem Chip.modClk_resp (s : Chip) (g : ClkSt → ClkSt) : (s.modClk g).resp = s.resp := rfl

@[simp] theorem Chip.modBoot_regs (s : Chip) (g : BootSt → BootSt) : (s.modBoot g).regs = s.regs := rfl
@[simp] theorem Chip.modBoot_actRegs (s : Chip) (g : BootSt → BootSt) : (s.modBoot g).actRegs = s.actRegs := rfl
@[simp] theorem Chip.modBoot_live (s : Chip) (g : BootSt → BootSt) : (s.modBoot g).live = s.live := rfl
@[simp] theorem Chip.modBoot_freeIx (s : Chip) (g : BootSt → BootSt) : (s.modBoot g).freeIx = s.freeIx := rfl
@[simp] theorem Chip.modBoot_now (s : Chip) (g : BootSt → BootSt) : (s.modBoot g).now = s.now := rfl
@[simp] theorem Chip.modBoot_fuse (s : Chip) (g : BootSt → BootSt) : (s.modBoot g).fuse = s.fuse := rfl
@[simp] theorem Chip.modBoot_top (s : Chip) (g : BootSt → BootSt) : (s.modBoot g).top = s.top := rfl
@[simp] theorem Chip.modBoot_clk (s : Chip) (g : BootSt → BootSt) : (s.modBoot g).clk = s.clk := rfl
@[simp] theorem Chip.modBoot_txd (s : Chip) (g : BootSt → BootSt) : (s.modBoot g).txd = s.txd := rfl
@[simp] theorem Chip.modBoot_rcv (s : Chip) (g : BootSt → BootSt) : (s.modBoot g).rcv = s.rcv := rfl
@[simp] theorem Chip.modBoot_fec (s : Chip) (g : BootSt → BootSt) : (s.modBoot g).fec = s.fec := rfl
@[simp] theorem Chip.modBoot_subc (s : Chip) (g : BootSt → BootSt) : (s.modBoot g).subc = s.subc := rfl
@[simp] theorem Chip.modBoot_frm (s : Chip) (g : BootSt → BootSt) : (s.modBoot g).frm = s.frm := rfl
@[simp] theorem Chip.modBoot_pm (s : Chip) (g : BootSt → BootSt) : (s.modBoot g).pm = s.pm := rfl
@[simp] theorem Chip.modBoot_dem (s : Chip) (g : BootSt → BootSt) : (s.modBoot g).dem = s.dem := rfl
@[simp] theorem Chip.modBoot_wst (s : Chip) (g : BootSt → BootSt) : (s.modBoot g).wst = s.wst := rfl
@[simp] theorem Chip.modBoot_tim (s : Chip) (g : BootSt → BootSt) : (s.modBoot g).tim = s.tim := rfl
@[simp] theorem Chip.modBoot_grp (s : Chip) (g : BootSt → BootSt) : (s.modBoot g).grp = s.grp := rfl
@[simp] theorem Chip.modBoot_pg (s : Chip) (g : BootSt → BootSt) : (s.modBoot g).pg = s.pg := rfl
@[simp] theorem Chip.modBoot_lost (s : Chip) (g : BootSt → BootSt) : (s.modBoot g).lost = s.lost := rfl
@[simp] theorem Chip.modBoot_lenc (s : Chip) (g : BootSt → BootSt) : (s.modBoot g).lenc = s.lenc := rfl
@[simp] theorem Chip.modBoot_sec (s : Chip) (g : BootSt → BootSt) : (s.modBoot g).sec = s.sec := rfl
@[simp] theorem Chip.modBoot_evcs (s : Chip) (g : BootSt → BootSt) : (s.modBoot g).evcs = s.evcs := rfl
@[simp] theorem Chip.modBoot_tst (s : Chip) (g : BootSt → BootSt) : (s.modBoot g).tst = s.tst := rfl
@[simp] theorem Chip.modBoot_pool (s : Chip) (g : BootSt → BootSt) : (s.modBoot g).pool = s.pool := rfl
@[simp] theorem Chip.modBoot_mgmt (s : Chip) (g : BootSt → BootSt) : (s.modBoot g).mgmt = s.mgmt := rfl
@[simp] theorem Chip.modBoot_pci (s : Chip) (g : BootSt → BootSt) : (s.modBoot g).pci = s.pci := rfl
@[simp] theorem Chip.modBoot_mon (s : Chip) (g : BootSt → BootSt) : (s.modBoot g).mon = s.mon := rfl
@[simp] theorem Chip.modBoot_lane (s : Chip) (g : BootSt → BootSt) : (s.modBoot g).lane = s.lane := rfl
@[simp] theorem Chip.modBoot_resp (s : Chip) (g : BootSt → BootSt) : (s.modBoot g).resp = s.resp := rfl

@[simp] theorem Chip.modMgmt_regs (s : Chip) (g : MgmtSt → MgmtSt) : (s.modMgmt g).regs = s.regs := rfl
@[simp] theorem Chip.modMgmt_actRegs (s : Chip) (g : MgmtSt → MgmtSt) : (s.modMgmt g).actRegs = s.actRegs := rfl
@[simp] theorem Chip.modMgmt_live (s : Chip) (g : MgmtSt → MgmtSt) : (s.modMgmt g).live = s.live := rfl
@[simp] theorem Chip.modMgmt_freeIx (s : Chip) (g : MgmtSt → MgmtSt) : (s.modMgmt g).freeIx = s.freeIx := rfl
@[simp] theorem Chip.modMgmt_now (s : Chip) (g : MgmtSt → MgmtSt) : (s.modMgmt g).now = s.now := rfl
@[simp] theorem Chip.modMgmt_fuse (s : Chip) (g : MgmtSt → MgmtSt) : (s.modMgmt g).fuse = s.fuse := rfl
@[simp] theorem Chip.modMgmt_top (s : Chip) (g : MgmtSt → MgmtSt) : (s.modMgmt g).top = s.top := rfl
@[simp] theorem Chip.modMgmt_clk (s : Chip) (g : MgmtSt → MgmtSt) : (s.modMgmt g).clk = s.clk := rfl
@[simp] theorem Chip.modMgmt_txd (s : Chip) (g : MgmtSt → MgmtSt) : (s.modMgmt g).txd = s.txd := rfl
@[simp] theorem Chip.modMgmt_rcv (s : Chip) (g : MgmtSt → MgmtSt) : (s.modMgmt g).rcv = s.rcv := rfl
@[simp] theorem Chip.modMgmt_fec (s : Chip) (g : MgmtSt → MgmtSt) : (s.modMgmt g).fec = s.fec := rfl
@[simp] theorem Chip.modMgmt_subc (s : Chip) (g : MgmtSt → MgmtSt) : (s.modMgmt g).subc = s.subc := rfl
@[simp] theorem Chip.modMgmt_frm (s : Chip) (g : MgmtSt → MgmtSt) : (s.modMgmt g).frm = s.frm := rfl
@[simp] theorem Chip.modMgmt_pm (s : Chip) (g : MgmtSt → MgmtSt) : (s.modMgmt g).pm = s.pm := rfl
@[simp] theorem Chip.modMgmt_dem (s : Chip) (g : MgmtSt → MgmtSt) : (s.modMgmt g).dem = s.dem := rfl
@[simp] theorem Chip.modMgmt_wst (s : Chip) (g : MgmtSt → MgmtSt) : (s.modMgmt g).wst = s.wst := rfl
@[simp] theorem Chip.modMgmt_tim (s : Chip) (g : MgmtSt → MgmtSt) : (s.modMgmt g).tim = s.tim := rfl
@[simp] theorem Chip.modMgmt_grp (s : Chip) (g : MgmtSt → MgmtSt) : (s.modMgmt g).grp = s.grp := rfl
@[simp] theorem Chip.modMgmt_pg (s : Chip) (g : MgmtSt → MgmtSt) : (s.modMgmt g).pg = s.pg := rfl
@[simp] theorem Chip.modMgmt_lost (s : Chip) (g : MgmtSt → MgmtSt) : (s.modMgmt g).lost = s.lost := rfl
@[simp] theorem Chip.modMgmt_lenc (s : Chip) (g : MgmtSt → MgmtSt) : (s.modMgmt g).lenc = s.lenc := rfl
@[simp] theorem Chip.modMgmt_sec (s : Chip) (g : MgmtSt → MgmtSt) : (s.modMgmt g).sec = s.sec := rfl
@[simp] theorem Chip.modMgmt_evcs (s : Chip) (g : MgmtSt → MgmtSt) : (s.modMgmt g).evcs = s.evcs := rfl
@[simp] theorem Chip.modMgmt_tst (s : Chip) (g : MgmtSt → MgmtSt) : (s.modMgmt g).tst = s.tst := rfl
@[simp] theorem Chip.modMgmt_pool (s : Chip) (g : MgmtSt → MgmtSt) : (s.modMgmt g).pool = s.pool := rfl
@[simp] theorem Chip.modMgmt_boot (s : Chip) (g : MgmtSt → MgmtSt) : (s.modMgmt g).boot = s.boot := rfl
@[simp] theorem Chip.modMgmt_pci (s : Chip) (g : MgmtSt → MgmtSt) : (s.modMgmt g).pci = s.pci := rfl
@[simp] theorem Chip.modMgmt_mon (s : Chip) (g : MgmtSt → MgmtSt) : (s.modMgmt g).mon = s.mon := rfl
@[simp] theorem Chip.modMgmt_lane (s : Chip) (g : MgmtSt → MgmtSt) : (s.modMgmt g).lane = s.lane := rfl
@[simp] theorem Chip.modMgmt_resp (s : Chip) (g : MgmtSt → MgmtSt) : (s.modMgmt g).resp = s.resp := rfl

@[simp] theorem Chip.modPci_regs (s : Chip) (g : PciSt → PciSt) : (s.modPci g).regs = s.regs := rfl
@[simp] theorem Chip.modPci_actRegs (s : Chip) (g : PciSt → PciSt) : (s.modPci g).actRegs = s.actRegs := rfl
@[simp] theorem Chip.modPci_live (s : Chip) (g : PciSt → PciSt) : (s.modPci g).live = s.live := rfl
@[simp] theorem Chip.modPci_freeIx (s : Chip) (g : PciSt → PciSt) : (s.modPci g).freeIx = s.freeIx := rfl
@[simp] theorem Chip.modPci_now (s : Chip) (g : PciSt → PciSt) : (s.modPci g).now = s.now := rfl
@[simp] theorem Chip.modPci_fuse (s : Chip) (g : PciSt → PciSt) : (s.modPci g).fuse = s.fuse := rfl
@[simp] theorem Chip.modPci_top (s : Chip) (g : PciSt → PciSt) : (s.modPci g).top = s.top := rfl
@[simp] theorem Chip.modPci_clk (s : Chip) (g : PciSt → PciSt) : (s.modPci g).clk = s.clk := rfl
@[simp] theorem Chip.modPci_txd (s : Chip) (g : PciSt → PciSt) : (s.modPci g).txd = s.txd := rfl
@[simp] theorem Chip.modPci_rcv (s : Chip) (g : PciSt → PciSt) : (s.modPci g).rcv = s.rcv := rfl
@[simp] theorem Chip.modPci_fec (s : Chip) (g : PciSt → PciSt) : (s.modPci g).fec = s.fec := rfl
@[simp] theorem Chip.modPci_subc (s : Chip) (g : PciSt → PciSt) : (s.modPci g).subc = s.subc := rfl
@[simp] theorem Chip.modPci_frm (s : Chip) (g : PciSt → PciSt) : (s.modPci g).frm = s.frm := rfl
@[simp] theorem Chip.modPci_pm (s : Chip) (g : PciSt → PciSt) : (s.modPci g).pm = s.pm := rfl
@[simp] theorem Chip.modPci_dem (s : Chip) (g : PciSt → PciSt) : (s.modPci g).dem = s.dem := rfl
@[simp] theorem Chip.modPci_wst (s : Chip) (g : PciSt → PciSt) : (s.modPci g).wst = s.wst := rfl
@[simp] theorem Chip.modPci_tim (s : Chip) (g : PciSt → PciSt) : (s.modPci g).tim = s.tim := rfl
@[simp] theorem Chip.modPci_grp (s : Chip) (g : PciSt → PciSt) : (s.modPci g).grp = s.grp := rfl
@[simp] theorem Chip.modPci_pg (s : Chip) (g : PciSt → PciSt) : (s.modPci g).pg = s.pg := rfl
@[simp] theorem Chip.modPci_lost (s : Chip) (g : PciSt → PciSt) : (s.modPci g).lost = s.lost := rfl
@[simp] theorem Chip.modPci_lenc (s : Chip) (g : PciSt → PciSt) : (s.modPci g).lenc = s.lenc := rfl
@[simp] theorem Chip.modPci_sec (s : Chip) (g : PciSt → PciSt) : (s.modPci g).sec = s.sec := rfl
@[simp] theorem Chip.modPci_evcs (s : Chip) (g : PciSt → PciSt) : (s.modPci g).evcs = s.evcs := rfl
@[simp] theorem Chip.modPci_tst (s : Chip) (g : PciSt → PciSt) : (s.modPci g).tst = s.tst := rfl
@[simp] theorem Chip.modPci_pool (s : Chip) (g : PciSt → PciSt) : (s.modPci g).pool = s.pool := rfl
@[simp] theorem Chip.modPci_boot (s : Chip) (g : PciSt → PciSt) : (s.modPci g).boot = s.boot := rfl
@[simp] theorem Chip.modPci_mgmt (s : Chip) (g : PciSt → PciSt) : (s.modPci g).mgmt = s.mgmt := rfl
@[simp] theorem Chip.modPci_mon (s : Chip) (g : PciSt → PciSt) : (s.modPci g).mon = s.mon := rfl
@[simp] theorem Chip.modPci_lane (s : Chip) (g : PciSt → PciSt) : (s.modPci g).lane = s.lane := rfl
@[simp] theorem Chip.modPci_resp (s : Chip) (g : PciSt → PciSt) : (s.modPci g).resp = s.resp := rfl

@[simp] theorem Chip.modClk_clk (s : Chip) (g : ClkSt → ClkSt) : (s.modClk g).clk = g s.clk := rfl
@[simp] theorem Chip.rd_modClk (s : Chip) (g : ClkSt → ClkSt) (b : Nat) : (s.modClk g).rd b = s.rd b := rfl
@[simp] theorem Chip.modBoot_boot (s : Chip) (g : BootSt → BootSt) : (s.modBoot g).boot = g s.boot := rfl
@[simp] theorem Chip.rd_modBoot (s : Chip) (g : BootSt → BootSt) (b : Nat) : (s.modBoot g).rd b = s.rd b := rfl
@[simp] theorem Chip.modMgmt_mgmt (s : Chip) (g : MgmtSt → MgmtSt) : (s.modMgmt g).mgmt = g s.mgmt := rfl
@[simp] theorem Chip.rd_modMgmt (s : Chip) (g : MgmtSt → MgmtSt) (b : Nat) : (s.modMgmt g).rd b = s.rd b := rfl
@[simp] theorem Chip.modPci_pci (s : Chip) (g : PciSt → PciSt) : (s.modPci g).pci = g s.pci := rfl
@[simp] theorem Chip.rd_modPci (s : Chip) (g : PciSt → PciSt) (b : Nat) : (s.modPci g).rd b = s.rd b := rfl

end Sys2Proof.Machine
end

