-- ==== Sys2Proof/Machine/Drive.lean ====
section
/-! DEFINITION. The transmit corrections of one dimension as exact arithmetic on the registers that hold them (R57, R68): skew, pre-emphasis,
pre-distortion and clipping. A sample passes them in this order; the analog stages around them are out of scope. -/

namespace Sys2Proof.Machine

/-- The delay of a dimension, 0 to 3 for XI, XQ, YI and YQ, in units of 0.125 ps (R57, step 1). -/
def Chip.skew (s : Chip) (c : Carrier) (d : Nat) : Int := s.getS ⟨Reg.TXD.SKEW_XI.addr c + 4 * d, 0, 10⟩

/-- The gain of a dimension at a frequency of num / den steps of 4.5 GHz, as a multiple of 1 / den of 0.1 dB (R57, step 2): linear in dB
between points 0 to 31; the last point is 139.5 GHz. -/
def Chip.preEmphasis (s : Chip) (c : Carrier) (d num den : Nat) : Int :=
  let p := num / den
  let f := num % den
  s.getS (Reg.TXD.PEQ.GAIN c d p) * ((den - f : Nat) : Int) + s.getS (Reg.TXD.PEQ.GAIN c d (p + 1)) * (f : Int)

/-- The output of the pre-distorter for a sample x / den in DAC code units, −128 to +128, as a multiple of 1 / (32 den) of a DAC code (R57, step
3): linear between the points at 8 (p − 16). -/
def Chip.preDistort (s : Chip) (c : Carrier) (d : Nat) (x : Int) (den : Nat) : Int :=
  let y := (x + 128 * (den : Int)).toNat
  let p := y / (8 * den)
  let f := y % (8 * den)
  s.getS (Reg.TXD.PD_LUT.OUT c d p) * ((8 * den - f : Nat) : Int) + s.getS (Reg.TXD.PD_LUT.OUT c d (p + 1)) * (f : Int)

/-- A value in units of 1 / unit DAC code clipped to −127 to +127 codes, and whether it was clipped (R57, step 4; R58). -/
def clip (unit : Nat) (v : Int) : Int × Bool :=
  let m : Int := 127 * (unit : Int)
  if v < -m then (-m, true) else if m < v then (m, true) else (v, false)

/-- DAC_SCALE.RMS in effect: the mean data amplitude per dimension in DAC codes (R42, R68). -/
def Chip.dacScale (s : Chip) (c : Carrier) : Nat :=
  let v := s.getF (Reg.TXD.DAC_SCALE.RMS c)
  if 16 ≤ v ∧ v ≤ 90 then v else 32

end Sys2Proof.Machine
end

