-- ==== Sys2Proof/Machine/Patterns.lean ====
section
/-! DEFINITION. The test patterns of the client lanes that a polynomial of two terms gives, and their mapping to symbols (R234, R237). -/

namespace Sys2Proof.Machine

/-- The degree and the middle term of a pattern's polynomial (R234): codes 8 to 15 behave as 5; PRBS13Q, PRBS31Q and SSPRQ are whole
symbol patterns of IEEE 802.3, of which the spec gives no more than the name. -/
def prbsTaps (code : Nat) : Option (Nat × Nat) :=
  match code with
  | 0 => some (7, 6)
  | 1 => some (9, 5)
  | 2 => none
  | 3 => some (15, 14)
  | 4 => some (23, 18)
  | 6 => none
  | 7 => none
  | _ => some (31, 28)

/-- The first n bits of a pattern from a state of its register, inverted where GEN_INV or CHK_INV says so (R234). -/
def prbsBits (code seed n : Nat) (inv : Bool) : Option (List Nat) :=
  (prbsTaps code).map fun t => (lfsrBits n seed t.1 t.2).map fun b => if inv then 1 - b else b

/-- The symbols 0 to 3, lowest level first, of bits taken two at a time with Gray coding (R234): 00, 01, 11, 10. -/
def grayPam4 : List Nat → List Nat
  | a :: b :: rest => (if a = 0 then b else 3 - b) :: grayPam4 rest
  | _ => []

/-- Whether a lane's transmitter sends data (R221, R231): in DETECT and LOCK without training, and in ACTIVE while it is awake. -/
def Chip.sendsData (s : Chip) (l : Nat) : Bool :=
  (!s.trains l && decide (s.laneState l = 1 ∨ s.laneState l = 3)) || (decide (s.laneState l = 5) && !s.flag (Reg.LANE.LANE_STAT.TX_ASLEEP l))

/-- The pattern that a lane's generator sends, in symbols, from a state of its register; none where the generator does not send one (R235). -/
def Chip.genSymbols (s : Chip) (l seed n : Nat) : Option (List Nat) :=
  if s.flag (Reg.LANE.PRBS_CFG.GEN_EN l) && s.sendsData l then
    (prbsBits (s.getF (Reg.LANE.PRBS_CFG.GEN_PAT l)) seed (2 * n) (s.flag (Reg.LANE.PRBS_CFG.GEN_INV l))).map grayPam4
  else none

end Sys2Proof.Machine
end

