-- ==== Sys2Proof/Tests/Slice0.lean ====
section
/-! SUPPORT. Small tests: ill-formed commands that the check refuses, commands on small states with results from the spec's own words, and for every
statement that has hypotheses a state and operands that meet them. -/

namespace Sys2Proof.Tests

set_option Elab.async false

open Sys2Proof.Machine

/-- A chip with fields set; everything else is as right after reset. -/
def chip (l : List (Fld × Nat)) (s : Chip := {}) : Chip := l.foldl (fun u p => u.setF p.1 p.2) s

/-- A state with a chip and no command waiting. -/
def st (s : Chip) : State := { State.reset with chip := s }

/-- A chip whose islands run. -/
def awake : Chip := { clk := { held := 0 } }

/-- The chip after a command, or the chip before where it answers no next state. -/
def after (i : Instr) (s : Chip) : Chip :=
  match exec i (st s) with
  | .next t => t.chip
  | .fault _ => s
  | .refused _ => s

/-! ## Witnesses: registers, events and commits -/

theorem witness_plain_register_write :
    let a : Word := 0x01000053#32
    ({} : Chip).ratiosOk = true ∧ (RegMap.row? (a.toNat / 4 * 4)).isSome = true ∧ RegMap.inCarrier (a.toNat / 4 * 4) = true ∧
    RegMap.toA (a.toNat / 4 * 4) / 0x100000 = 0x10 ∧ a.toNat / 4 * 4 ≠ Reg.TXD.CTRL.addr .A ∧ a.toNat / 4 * 4 ≠ Reg.TXD.CTRL.addr .B ∧
    evtBlock (a.toNat / 4 * 4) 0xF0 = none ∧ evtBlock (a.toNat / 4 * 4) 0xF8 = none := by decide

theorem witness_pair_read :
    let a : Word := BitVec.ofNat 32 (Reg.TXD.CLIP_CNT_LO.addr .B)
    a.toNat % 4 = 0 ∧ isLo a.toNat = true ∧ isLo (a.toNat + 4) = false ∧ a.toNat + 4 < 2 ^ 32 ∧ blockBase (a.toNat + 4) = blockBase a.toNat := by decide

theorem witness_ratios_stop : (doRegisterWrite 0 false 0x00100020#32 0#32 15 awake).ratiosOk = false := by decide

theorem witness_event_status : evtBase 0 ≠ 0x00100000 ∧ evtBase 61 ≠ 0x00100000 ∧
    ((chip [(⟨evtBase 61 + 0xF0, 0, 1⟩, 1)]).rd (evtBase 61 + 0xF0)).getLsbD 0 = true ∧ (RegMap.row? (evtBase 61 + 0xF4)).isSome = true := by decide

theorem witness_commit_takes_effect :
    awake.islandsMissing 4 = 0 ∧ awake.top.deferGroups = 0 ∧ awake.pgsOn.any awake.switchDue = false ∧
    ((awake.evc 71).eventCheck ((awake.evc 71).afterEvent ((awake.evc 71).newWords (awake.shadows 4) 4)) 4).bad = false := by decide

theorem witness_commit_refused :
    let s := chip [(Reg.TXD.LINE_CFG.OTUCN .A, 1)] awake
    ({} : Chip).islandsMissing 4 ≠ 0 ∧ s.islandsMissing 4 = 0 ∧
    ((s.evc 71).eventCheck ((s.evc 71).afterEvent ((s.evc 71).newWords (s.shadows 4) 4)) 4).bad = true := by decide

theorem witness_bridges : ({} : Chip).islDown 2 = true ∧ awake.islDown 2 = false ∧ Tab.get 0 awake.clk.waits 31 = 0 := by decide

theorem witness_bus : awake.masterDown 0 = false ∧ awake.masterDown 7 = false ∧ awake.ratiosOk = true ∧ awake.regDown 0 = false ∧
    let bad : BusReq := { addr := 0x70000000, write := false, beats := [(15, 0)], wide := false, user := false }
    let burst : BusReq := { addr := 0x80000FF8, write := false, beats := [(255, 0), (255, 0)], wide := true, user := false }
    awake.userRefused 0 bad = false ∧ busTarget bad.addr = none ∧ awake.userRefused 0 burst = false ∧ (busTarget burst.addr).isSome = true ∧
    badBurst burst = true := by decide

theorem witness_pool_write :
    awake.flag Reg.POOL.ECC_FLIP_CTL.ARM = false ∧
    (chip [(Reg.POOL.POOL_OWN.OWNER 3, 2)] awake).getF (Reg.POOL.POOL_OWN.OWNER (poolOfWord 524287)) = 2 ∧
    (chip [(Reg.POOL.POOL_OWN.OWNER 3, 0xFF)] awake).getF (Reg.POOL.POOL_OWN.OWNER (poolOfWord 524287)) ≠ 2 := by decide

/-! ## Witnesses: the line -/

/-- Transmitter A in a state, with TX_EN as given. -/
def tx (state en : Nat) (more : List (Fld × Nat) := []) : Chip := chip ([(Reg.TXD.LINE_STAT.STATE .A, state), (Reg.TXD.CTRL.TX_EN .A, en)] ++ more) awake

/-- Transmitter A with its converter PLL out of lock. -/
def txLol : Chip := { awake with txd := awake.txd.put .A { awake.txd.get .A with pllLol := true } }

/-- A received frame with an FSN. -/
def rxFrame (fsn : Nat) : RxFrame :=
  { fsn := fsn, tti := 0, bip := 0, bei := 0, bdi := false, stat := 1, kp := 0, enc := false, tv := false, psiA := 0, psiB := 0, aps := 0, gcc0 := [0, 0]
    gcc12 := [0, 0, 0, 0], parity := 0, uncorr := false, sec := 1, t16 := 3, pin := 7, ctl := [] }

/-- Receiver A in a state. -/
def rx (v : RcvSt) : Chip := awake.setRcv (.car .A) v

theorem witness_transmit_control :
    let quiet := fun (s : Chip) => (s.txd.get .A).pllLol = false ∧ s.flag (Reg.TXD.LINE_STAT.RECONF_PEND .A) = false ∧ (s.txd.get .A).joinPend = false
    let muted := tx 4 1 [(Reg.TXD.CTRL.MUTE .A, 1)]
    quiet (tx 0 0) ∧ quiet (tx 2 1) ∧ quiet muted ∧ (tx 0 0).txState .A = 0 ∧ (tx 2 1).txState .A = 2 ∧ (tx 1 1).txState .A = 1 ∧
    (tx 3 0).txState .A = 3 ∧ muted.txState .A = 4 ∧ (tx 2 1).flag (Reg.TXD.CTRL.TX_EN .A) = true ∧
    (tx 2 1).flag (Reg.TXD.CTRL.MUTE .A) = false ∧ (tx 3 0).flag (Reg.TXD.CTRL.TX_EN .A) = false ∧ muted.flag (Reg.TXD.CTRL.TX_EN .A) = true ∧
    (txLol.txd.get .A).pllLol = true := by decide

theorem witness_converter_pll :
    let s := rx { state := 8, los := false }
    s.receivers .A = [.car .A] ∧ (s.rcvOf (.car .A)).los = false ∧ (s.rcvOf (.car .A)).state = 8 := by decide

theorem witness_reconfiguration :
    let s := tx 2 1 [(Reg.TXD.LINE_STAT.RECONF_PEND .A, 1)]
    s.flag (Reg.TXD.LINE_STAT.RECONF_PEND .A) = true ∧ s.txState .A = 2 ∧
    (({ awake with subc := awake.subc.put .A { awake.subc.get .A with enPend := true } } : Chip).subc.get .A).enPend = true := by decide

theorem witness_ramp_ends_at_full_scale_and_floor :
    (tx 1 1).txState .A = 1 ∧ ((tx 1 1).txd.get .A).pllLol = false ∧ (tx 3 0).txState .A = 3 ∧ ((tx 3 0).txd.get .A).pllLol = false ∧
    (tx 3 0).flag (Reg.TXD.CTRL.TX_EN .A) = false ∧ (tx 3 1).flag (Reg.TXD.CTRL.TX_EN .A) = true ∧
    (tx 3 1).flag (Reg.TXD.LINE_STAT.RECONF_PEND .A) = false ∧ ((tx 3 1).txd.get .A).joinPend = false ∧ (txLol.txd.get .A).pllLol = true := by decide

/-- Transmitter A in ON with a mask check that mutes, and the first two entries of the mask table at these offsets. -/
def masked (first second : Nat) : Chip :=
  tx 2 1 [(Reg.TXD.MASK_CFG.EN .A, 1), (Reg.TXD.MASK_CFG.ACTION .A, 1), (Reg.TXD.MASK_CFG.ENTRIES .A, 1), (Reg.TXD.MASK.OFFSET .A 0, first),
    (Reg.TXD.MASK.OFFSET .A 1, second)]

theorem witness_mask_checks :
    let flat := masked 5 5
    let rising := masked 0 10
    flat.flag (Reg.TXD.MASK_CFG.EN .A) = true ∧ flat.txState .A = 2 ∧ maskRises (flat.maskTable .A) = false ∧
    rising.flag (Reg.TXD.MASK_CFG.EN .A) = true ∧ rising.txState .A = 2 ∧ maskRises (rising.maskTable .A) = true ∧
    (rising.txd.get .A).pllLol = false ∧ rising.flag (Reg.TXD.MASK_CFG.ACTION .A) = true ∧
    worstMargin (rising.maskTable .A) [(0, 50)] = some (0, -4000, 80) := by decide

theorem witness_clip_window : awake.getF (Reg.TXD.CLIP_THR.THR .A) < 2 ^ 32 := by decide

theorem witness_joint_modes :
    let both := { chip [(Reg.TOP.CARRIER_STAT.MODE_ACTIVE, 1)] awake with
      txd := (awake.txd.put .A { awake.txd.get .A with joined := true }).put .B { awake.txd.get .B with joined := true } }
    let due := { tx 2 1 with txd := awake.txd.put .A { awake.txd.get .A with joinPend := true } }
    let leaving := { tx 2 1 with txd := awake.txd.put .A { awake.txd.get .A with leavePend := true, joined := true } }
    both.getF Reg.TOP.CARRIER_STAT.MODE_ACTIVE ≠ 0 ∧ both.bothJoined = true ∧ (due.txd.get .A).joinPend = true ∧
    (due.txd.get .A).leavePend = false ∧ due.txState .A = 2 ∧ due.flag (Reg.TXD.LINE_STAT.RECONF_PEND .A) = false ∧
    (leaving.txd.get .A).leavePend = true ∧ (leaving.txd.get .A).joinPend = false := by decide

/-- Group g of carrier A changed. -/
def grp (g : Nat) (f : GrpSt → GrpSt) (s : Chip := awake) : Chip := s.setGrp .A g (f (s.grpOf .A g))

theorem witness_converter_levels : (awake.txd.get .A).pllLol = false ∧ (txLol.txd.get .A).pllLol = true ∧
    awake.getF (Reg.RXD.ADC_CLIP_THR.THR .A) < 2 ^ 32 := by decide

theorem witness_dispersion_tracking :
    let s := (chip [(Reg.RXD.CD_TRACK.EN .A, 1), (Reg.RXD.CD_TRACK.STEP .A, 5), (Reg.RXD.CD_TRACK.THR .A, 5)] awake).setRcv (.car .A) { state := 8 }
    let v := s.rcvOf (.car .A)
    v.state = 8 ∧ s.flag (Reg.RXD.CD_TRACK.EN .A) = true ∧ s.flag (Reg.RXD.RX_STAT.CD_MODE_ACTIVE .A) = false ∧
    s.getF (Reg.RXD.CD_TRACK.THR .A) ≤ (-5 : Int).natAbs ∧ (4 : Int).natAbs < s.getF (Reg.RXD.CD_TRACK.THR .A) := by decide

theorem witness_unit_faults :
    (awake.grpOf .A 0).inService 0 = true ∧ (awake.grpOf .A 0).reserve = some 8 ∧ (awake.grpOf .A 1).inService 0 = true ∧
    (awake.grpOf .A 1).reserve = some 13 ∧ (grp 0 fun v => { v with reserve := none }).grpOf .A 0 = { awake.grpOf .A 0 with reserve := none } ∧
    ((grp 0 fun v => { v with reserve := none }).grpOf .A 0).inService 8 = true ∧
    ((grp 1 fun v => { v with reserve := none }).grpOf .A 1).inService 13 = true := by decide

theorem witness_unit_exchanges :
    let s := grp 0 (fun v => { v with takeover := some 3, sf := true }) (grp 1 fun v => { v with takeover := some 3, sf := true })
    let passed := fun g u => grp g (fun v => { v with passed := some u, reserve := some u })
    (s.grpOf .A 0).takeover.isSome = true ∧ (s.grpOf .A 1).takeover.isSome = true ∧ (s.grpOf .A 0).sf = true ∧ (s.grpOf .A 1).sf = true ∧
    (s.lineApplied .A).carries 0 ((s.grpOf .A 0).healthy 0) = true ∧ (s.lineApplied .A).carries 1 ((s.grpOf .A 1).healthy 1) = true ∧
    (passed 0 8).exchangeHeld .A 0 = false ∧
    Grp.nextUnit 0 8 (fun x => GrpSt.inService { (passed 0 8).grpOf .A 0 with joining := 0 } x) = some 0 ∧
    (passed 1 13).exchangeHeld .A 1 = false ∧
    Grp.nextUnit 1 13 (fun x => GrpSt.inService { (passed 1 13).grpOf .A 1 with joining := 0 } x) = some 0 ∧
    (passed 2 16).exchangeHeld .A 2 = false ∧
    (Grp.nextUnit 2 16 (fun x => GrpSt.inService { (passed 2 16).grpOf .A 2 with joining := 0 } x)).isSome = true := by decide

theorem witness_lock_flags :
    let s := rx { state := 8, cpr := true }
    (s.rcvOf (.car .A)).lock .cprLock ≠ false ∧ (s.rcvOf (.car .A)).lock .cprLock = true ∧ (s.rcvOf (.car .A)).state = 8 := by decide

theorem witness_quality_boundary :
    let s := rx { state := 8, cprAny := true, cprAll := true }
    (s.lineApplied .A).cfg.subcEn = false ∧ (s.rcvOf (.car .A)).cprAny = true ∧ (awake.rcvOf (.car .A)).cprAny = false := by decide

theorem witness_acquisition_entry :
    let s := rx { state := 8, los := false, absent := 5 }
    let v := s.rcvOf (.car .A)
    (s.txd.get .A).pllLol = false ∧ v.state ≠ 1 ∧ 4 * v.cfg.sdThr ≤ 4 * 65535 ∧ 0 < 4 * min v.cfg.losThr v.cfg.sdThr ∧ v.los = false ∧
    v.losNeed ≤ v.absent + 1 ∧ v.state = 8 ∧ awake.receivers .A = [.car .A] ∧ (awake.rcvOf (.car .A)).state = 0 ∧ s.receivers .A = [.car .A] ∧
    v.state ≠ 0 ∧ (s.acqCfg .A).warmHold ≠ 0 := by decide

theorem witness_acquisition_stages :
    let fixed := (chip [(Reg.RXD.RX_STAT.CD_MODE_ACTIVE .A, 1)] awake).setRcv (.car .A) { state := 2 }
    let coarse := rx { state := 2 }
    let scan := rx { state := 3, scan := { running := true, fine := true, todo := [], best := some (5, 0) } }
    let train := rx { state := 4, cand := some 3, confirms := 255 }
    (5000 : Int).natAbs ≤ 5000 ∧ 5000 < (-5001 : Int).natAbs ∧ (fixed.rcvOf (.car .A)).state = 2 ∧
    fixed.flag (Reg.RXD.RX_STAT.CD_MODE_ACTIVE .A) = true ∧ (coarse.rcvOf (.car .A)).state = 2 ∧
    coarse.flag (Reg.RXD.RX_STAT.CD_MODE_ACTIVE .A) = false ∧
    (let sc := (scan.rcvOf (.car .A)).scan.batch (sgn 32 (scan.act (Reg.RXD.CD_SET.addr .A)).toNat)
      (([] : List Nat).take ((scan.grpOf .A 0).inServiceUnits 0).length)
     (scan.rcvOf (.car .A)).state = 3 ∧ (scan.rcvOf (.car .A)).scan.running = true ∧ sc.todo = [] ∧ sc.fine = true ∧
      (sc.best.getD (0, 0)).2 < scan.getF (Reg.ACQ.TRAIN_CFG.SCAN_THR .A) ∧
      (chip [(Reg.ACQ.TRAIN_CFG.SCAN_THR .A, 0)] scan).getF (Reg.ACQ.TRAIN_CFG.SCAN_THR .A) ≤ (sc.best.getD (0, 0)).2) ∧
    (train.rcvOf (.car .A)).cand.isSome = true ∧
    max 1 (train.getF (Reg.ACQ.TRAIN_CFG.TRAIN_CONFIRM .A)) ≤ (train.rcvOf (.car .A)).confirms + 1 ∧
    ((rx { state := 5 }).rcvOf (.car .A)).state = 5 ∧ ((rx { state := 6 }).rcvOf (.car .A)).state = 6 := by decide

theorem witness_acquisition_failures :
    let low := (rx { state := 2, warm := true, begun := true }).rcvOf (.car .A)
    let top := (rx { state := 7 }).rcvOf (.car .A)
    let acquired := (rx { state := 8, bfly := true, tr := true, cfr := true, cpr := true }).rcvOf (.car .A)
    let lost := (rx { state := 8, bfly := true, cpr := true }).rcvOf (.car .A)
    2 ≤ low.state ∧ low.state ≤ 7 ∧ low.warm = true ∧ 2 ≤ top.state ∧ top.state ≤ 7 ∧ lost.state = 8 ∧ (lost.bfly && lost.tr && lost.cpr) = false ∧
    acquired.state = 8 ∧ (acquired.bfly && acquired.tr && acquired.cfr && acquired.cpr) = true ∧ acquired.cfg.warmHold ≠ 0 ∧ top.state ≠ 8 ∧
    low.begun = true ∧ low.failRaised = false := by decide

theorem witness_decoder_stage :
    let waiting := { awake with fec := awake.fec.put .A { awake.fec.get .A with flight := [{ rcv := .car .A, slice := 13, at_ := awake.now }] } }
    let done := { awake with fec := awake.fec.put .A { awake.fec.get .A with flight := [{ rcv := .car .A, slice := 1, at_ := 0, result := some (3, true, 1) }] } }
    (Grp.nextUnit 1 (awake.fec.get .A).lastSlice (awake.grpOf .A 1).inService).isSome = true ∧
    (waiting.fec.get .A).flight = [{ rcv := .car .A, slice := (13 : Fin 14).val, at_ := waiting.now }] ∧
    (done.fec.get .A).flight.map (fun w => w.result.isSome || w.lost) = [true] := by decide

theorem witness_codeword_lock :
    let seek := (rx { state := 7, cwLock := false }).rcvOf (.car .A)
    let held := (rx { state := 8, cwLock := true, failRun := 32, blocks := 100 }).rcvOf (.car .A)
    seek.state = 7 ∧ seek.cwLock = false ∧ (List.range 5).find? (fun k => [false, false, false, false, true].getD k false) = some 4 ∧
    held.cwLock = true ∧ 32 ≤ held.failRun ∧ held.state = 8 ∧ awake.stairWindow .A ≤ held.blocks + 1 := by decide

/-- Carrier A with subcarriers, a role (1 hub, 2 leaf), the inlet enabled, and fields set. -/
def subs (role : Nat) (l : List (Fld × Nat) := []) : Chip :=
  chip ([(Reg.TXD.LINE_STAT.SUBC_EN .A, 1), (Reg.SUBC.SC_STAT.ROLE_ACTIVE .A, role), (Reg.SUBC.INLET_CFG.EN .A, 1), (Reg.SUBC.EN_ACTIVE.DN .A, 0xFFFF),
    (Reg.SUBC.EN_ACTIVE.UP .A, 0xFFFF), (Reg.SUBC.SC_CFG.UP_FCOMP .A, 1)] ++ l) awake

/-- The same with carrier A's subcarrier state changed. -/
def subsWith (f : SubcSt → SubcSt) (s : Chip) : Chip := { s with subc := s.subc.put .A (f (s.subc.get .A)) }

theorem witness_subcarrier_sleep :
    let asleep := subsWith (fun v => { v with tx := [(15, { down := true })] }) (subs 2)
    (subs 2).flag (Reg.SUBC.SC_CFG.UP_FCOMP .A) = true ∧ (subs 2).getF (Reg.SUBC.SC_STAT.ROLE_ACTIVE .A) = 2 ∧
    (subs 2).bitOf (Reg.SUBC.SLEEP.MASK .A) 15 = false ∧ ((subs 2).scTxOf .A 15).down = false ∧ (asleep.scTxOf .A 15).down = true := by decide

theorem witness_leaf_inlet :
    let home := fun (s : Chip) => s.setRcv (.sub .A 0) { state := 8, los := false }
    let state := fun n => subs 2 [(Reg.SUBC.INLET_TX_STAT.STATE .A, n)]
    (subs 2).getF (Reg.SUBC.INLET_TX_STAT.STATE .A) = 0 ∧ (subs 2).inletLeaf .A = true ∧ (subs 2).homeAcquired .A = false ∧
    (home (subs 2)).inletLeaf .A = true ∧ (home (subs 2)).homeAcquired .A = true ∧ (state 4).getF (Reg.SUBC.INLET_TX_STAT.STATE .A) = 4 ∧
    (state 2).getF (Reg.SUBC.INLET_TX_STAT.STATE .A) = 2 ∧ (home (state 3)).getF (Reg.SUBC.INLET_TX_STAT.STATE .A) = 3 ∧
    ((home (state 3)).subc.get .A).ackPend = false ∧ ((home (state 3)).subc.get .A).homePend = false ∧ (home (state 3)).inletLeaf .A = true ∧
    (home (state 3)).homeAcquired .A = true ∧
    (state 4).getF (Reg.SUBC.INLET_TX_STAT.ATTEMPTS .A) + 1 < max 1 ((chip [(Reg.SUBC.INLET_TRY.MAX_TRY .A, 2)] (state 4)).getF (Reg.SUBC.INLET_TRY.MAX_TRY .A)) ∧
    max 1 ((chip [(Reg.SUBC.INLET_TRY.MAX_TRY .A, 0)] (state 4)).getF (Reg.SUBC.INLET_TRY.MAX_TRY .A)) ≤ 1 := by decide

theorem witness_hub_inlet :
    let paid := subsWith (fun v => { v with inlet := .payload { level := 0, length := 2 } }) (subs 1)
    let begun := subsWith (fun v => { v with inlet := .header { level := 0 } }) (subs 1)
    (subs 1).inletHub .A = true ∧ ((subs 1).subc.get .A).inlet = .search ∧ paid.inletHub .A = true ∧
    (paid.subc.get .A).inlet = .payload { level := 0, length := 2 } ∧ (59 : Int) < 0 + 60 ∧ (begun.subc.get .A).inlet = .header { level := 0 } ∧
    headerGood (([true] : List Bool).map Bool.toNat) = false ∧ ([] : List Byte).length ≠ 32 * 2 ∧
    (chip [(Reg.SUBC.QUEUE_STAT.COUNT .A, 1)] (subs 1)).getF (Reg.SUBC.QUEUE_STAT.COUNT .A) ≠ 0 := by decide

/-! ## Witnesses: the line frame and performance monitoring -/

/-- Trail 15 of carrier A with a framer. -/
def frm (v : FrmSt) (l : List (Fld × Nat) := []) : Chip := (chip l awake).setFrm .A 15 v

/-- A trail in frame, delineated and with FSN lock. -/
def framed (v : FrmSt) : Chip :=
  frm v [(Reg.FRM.ALIGN_STAT.IN_FRAME .A 15, 1), (Reg.FRM.ALIGN_STAT.DELIN .A 15, 1), (Reg.FRM.ALIGN_STAT.FSN_LOCK .A 15, 1)]

theorem witness_frame_start :
    let s := chip [(Reg.TXD.LINE_STAT.STATE .A, 2)] awake
    s.trailTx .A 15 = false ∧ s.trailTx .A 0 = true ∧ s.txAsleep .A 0 = false := by decide

theorem witness_frame_aligner :
    let search := (frm { align := 0, cands := [0] }).setRcv (.car .A) { state := 7 }
    let bad := frm { align := 1, badLaw := 1, pos := 5 } [(Reg.FRM.ALIGN_CFG.OOF_N .A 15, 2)]
    let oof := (frm { align := 2 }).setRcv (.car .A) { state := 8, warmValid := true }
    (search.frmOf .A 15).align = 0 ∧ (search.trailRcvSt .A 15).state = 7 ∧ (search.frmOf .A 15).cands.contains (lawSpacing - lawSpacing) = true ∧
    search.lawTol .A 15 ≤ search.lawTol .A 15 ∧ (bad.frmOf .A 15).align = 1 ∧ bad.lawTol .A 15 < bad.lawTol .A 15 + 1 ∧
    max 2 (bad.getF (Reg.FRM.ALIGN_CFG.OOF_N .A 15)) ≤ (bad.frmOf .A 15).badLaw + 1 ∧ (oof.frmOf .A 15).align = 2 ∧
    (oof.lineApplied .A).cfg.subcEn = false ∧ (oof.rcvOf (.car .A)).state = 8 := by decide

theorem witness_frame_accounting :
    let s := framed { align := 1, expected := some 4294967295 }
    s.flag (Reg.FRM.ALIGN_STAT.IN_FRAME .A 15) = true ∧ s.flag (Reg.FRM.ALIGN_STAT.DELIN .A 15) = true ∧
    s.flag (Reg.FRM.ALIGN_STAT.FSN_LOCK .A 15) = true ∧ (s.frmOf .A 15).held = none ∧
    (s.frmOf .A 15).expected = some (rxFrame 4294967295).fsn ∧ (s.frmOf .A 15).expected.getD 0 ≠ (rxFrame 0).fsn ∧
    awake.flag (Reg.FRM.ALIGN_STAT.IN_FRAME .A 15) = false := by decide

theorem witness_trail_defects :
    let oom := frm {} [(Reg.FRM.ALIGN_STAT.OOM .A 15, 1)]
    let deg := frm { degErr := [(9, 1)], degBad := 9 } [(Reg.FRM.DEG_THR.THR .A 15, 1)]
    let def_ := frm {} [(Reg.FRM.DEF_STAT.STAT .A 15, 0x400)]
    let fail := frm {} [(Reg.FRM.FAIL.FAIL .A 15, 0x401)]
    oom.flag (Reg.FRM.ALIGN_STAT.OOM .A 15) = true ∧ max 1 (deg.getF (Reg.FRM.DEG_THR.THR .A 15)) ≤ Store.get (fun _ => 0) (deg.frmOf .A 15).degErr 9 ∧
    deg.degM .A 15 ≤ (deg.frmOf .A 15).degBad + 1 ∧ def_.bitOf (Reg.FRM.DEF_STAT.STAT .A 15) 10 = true ∧
    def_.bitOf (Reg.FRM.FAIL.FAIL .A 15) 10 = false ∧ fail.bitOf (Reg.FRM.DEF_STAT.STAT .A 15) 10 = false ∧
    fail.bitOf (Reg.FRM.FAIL.FAIL .A 15) 10 = true := by decide

/-- The performance monitor of trail 0 of carrier B. -/
def pm (v : PmSt) : Chip := awake.setPm .B 0 v

theorem witness_performance_seconds :
    let frozen : PmSec := { sec := 3, frozen := true }
    (awake.pmOf .B 0).started = none ∧ ((pm { started := some 3 }).pmOf .B 0).started = some 3 ∧ ((pm { started := some 3 }).pmOf .B 0).lastClosed = none ∧
    ((pm { started := some 3, lastClosed := some 4 }).pmOf .B 0).lastClosed = some 4 ∧
    ((pm { started := some 3, closed := [frozen] }).pmOf .B 0).closed = [frozen] ∧ frozen.frozen = true ∧ frozen.end_ = none ∧
    ((pm { started := some 3, closed := [frozen] }).pmOf .B 0).clearPend = false := by decide

/-! ## Witnesses: client lanes and ports -/

/-- Lane 15 with its status, configuration and hidden state. -/
def ln (state : Nat) (l : List (Fld × Nat) := []) (v : LaneSt := {}) : Chip :=
  (chip ((Reg.LANE.LANE_STAT.STATE 15, state) :: l) awake).modLane 15 fun _ => v

theorem witness_lane_enables :
    let off := ln 0 [(Reg.LANE.LANE_STAT.LOS 15, 1)]
    let active := ln 5 [(Reg.LANE.LANE_CFG.LANE_EN 15, 1), (Reg.LANE.LANE_STAT.LOS 15, 0)]
    let w : Word := 0x11#32
    off.laneState 15 = 0 ∧ off.flag (Reg.LANE.LANE_STAT.LOS 15) = true ∧ active.laneState 15 = 5 ∧ active.flag (Reg.LANE.LANE_CFG.LANE_EN 15) = true ∧
    active.flag (Reg.LANE.LANE_STAT.LOS 15) = false ∧ w.field 4 2 ≠ active.getF (Reg.LANE.LANE_CFG.RATE 15) ∧ w.bit 9 = false := by decide

theorem witness_lane_detectors :
    let active := ln 5 [(Reg.LANE.LANE_CFG.LANE_EN 15, 1), (Reg.LANE.LANE_STAT.LOS 15, 0), (Reg.LANE.LANE_STAT.LOL 15, 0), (Reg.LANE.LANE_CFG.TRAIN_EN 15, 0)]
      { cdr := true, passE := 1, passF := 2 }
    let detect := ln 1 [(Reg.LANE.LANE_STAT.LOS 15, 1), (Reg.LANE.LANE_CFG.TRAIN_EN 15, 1)]
    let seen := ln 1 [(Reg.LANE.LANE_STAT.LOS 15, 0), (Reg.LANE.LANE_CFG.TRAIN_EN 15, 0)]
    active.detects 15 = true ∧ active.laneState 15 = 5 ∧ active.flag (Reg.LANE.LANE_STAT.LOS 15) = false ∧ active.flag (Reg.LANE.LANE_STAT.LOL 15) = false ∧
    active.windowFails 15 true 257 = true ∧ active.windowFails 15 true 256 = false ∧ active.trains 15 = false ∧
    active.windowFails 15 false 10001 = (active.getF (Reg.LANE.DET_CFG.LOL_PPM 15) ≤ 1) ∧
    (active.laneOf 15).cdr = true ∧ 1 ≤ (active.laneOf 15).passE ∧ 2 ≤ (active.laneOf 15).passF ∧
    detect.detects 15 = true ∧ detect.laneState 15 = 1 ∧ detect.trains 15 = true ∧ seen.detects 15 = true ∧ seen.laneState 15 = 1 ∧
    seen.trains 15 = false ∧ seen.flag (Reg.LANE.LANE_STAT.LOS 15) = false := by decide

theorem witness_lane_training :
    let train := ln 2
    let lock := ln 3 [(Reg.LANE.LANE_STAT.LOS 15, 0), (Reg.LANE.LANE_STAT.LOL 15, 0)] { trained := true }
    let caps := ln 4 [(Reg.LANE.LANE_CFG.CAPS_REQ 15, 1)]
    let base := 2 ^ 60 + 2 ^ 59
    let word : BitVec 64 := BitVec.ofNat 64 (base + capsCrc base)
    let twice := ln 4 [] { lastWord := some word.toNat }
    train.laneState 15 = 2 ∧ (train.rateCode 15 = 0) ∧ lock.laneState 15 = 3 ∧ lock.flag (Reg.LANE.LANE_STAT.LOS 15) = false ∧
    lock.flag (Reg.LANE.LANE_STAT.LOL 15) = false ∧ (lock.laneOf 15).trained = true ∧ caps.laneState 15 = 4 ∧ (caps.laneOf 15).finished = false ∧
    caps.flag (Reg.LANE.LANE_CFG.CAPS_REQ 15) = true ∧ twice.laneState 15 = 4 ∧ (twice.laneOf 15).finished = false ∧ (twice.laneOf 15).ready = false ∧
    capsValid word.toNat = true ∧ (twice.laneOf 15).lastWord = some word.toNat ∧ word.getLsbD 59 = true ∧
    ((ln 4 [] { finished := true }).laneOf 15).finished = true := by decide +kernel

theorem witness_lane_sleep :
    let plain := ln 5 [] { waking := true }
    let peer := ln 5 [(Reg.LANE.LANE_STAT.CAPS_PEER 15, 1)]
    plain.laneState 15 = 5 ∧ plain.flag (Reg.LANE.LANE_STAT.CAPS_PEER 15) = false ∧ plain.farLoop 15 = false ∧ (plain.laneOf 15).waking = true ∧
    peer.laneState 15 = 5 ∧ peer.flag (Reg.LANE.LANE_STAT.CAPS_PEER 15) = true ∧ (peer.getPair (Reg.LANE.CAPS_RX_LO.addr 15)).testBit 54 = false := by decide

theorem witness_lane_tests :
    let s := ln 5 [(Reg.LANE.PRBS_CFG.CHK_EN 15, 1)] { ones := 254 }
    s.chkRuns 15 = true ∧ s.flag (Reg.LANE.CHK_STAT.CHK_LOCK 15) = false ∧ (ln 5 [(Reg.LANE.CHK_STAT.CHK_LOCK 15, 1)]).flag (Reg.LANE.CHK_STAT.CHK_LOCK 15) = true ∧
    s.laneState 15 = 5 ∧ (s.laneOf 15).ones + (s.laneOf 15).onesAfter < 255 ∧ (s.laneOf 15).burst = 0 := by decide

theorem witness_client_ports :
    let p := 15
    let conn : Chip := { chip [(Reg.FRM.PT_STAT.PT_VALID .A 0, 1)] awake with
      actRegs := [(Reg.XC.XC_CFG.addr 31, 0x800F0000#32), (Reg.XC.XC_MASK.addr 31 9, 0x80000000#32)] }
    let bare := chip [(Reg.PORT.PORT_STAT.EN_ACTIVE p, 1)] awake
    let acting := chip [(Reg.PORT.PORT_STAT.EGR_ACTING p, 1), (Reg.PORT.PORT_STAT.ING_REPL p, 1), (Reg.PORT.PORT_ACT.ING_EN p, 0)] awake
    let ingress := chip [(Reg.PORT.PORT_ACT.ING_EN p, 1)] awake
    (xcEntry conn.act 31).en = true ∧ conn.flag (Reg.FRM.PT_STAT.PT_VALID (xcEntry conn.act 31).carrier (xcEntry conn.act 31).trail) = true ∧
    conn.msiAgrees (xcEntry conn.act 31).carrier (xcEntry conn.act 31).trail 31 (xcEntry conn.act 31).mask = false ∧
    conn.flag (Reg.XC.XC_TRIB_STAT.MSIM 31) = false ∧ bare.egressCauses p ≠ 0 ∧ bare.flag (Reg.PORT.PORT_STAT.EGR_ACTING p) = false ∧
    bare.flag (Reg.PORT.PORT_STAT.EN_ACTIVE p) = true ∧ acting.egressCauses p = 0 ∧ acting.flag (Reg.PORT.PORT_STAT.EGR_ACTING p) = true ∧
    ingress.ingressCause p = true ∧ ingress.flag (Reg.PORT.PORT_STAT.ING_REPL p) = false ∧ acting.ingressCause p = false ∧
    acting.flag (Reg.PORT.PORT_STAT.ING_REPL p) = true := by decide +kernel

/-! ## Witnesses: references and the DPLL -/

theorem witness_reference_slots :
    let q := chip [(Reg.TIM.REF_STAT.QUALIFIED 7, 1), (Reg.TIM.REF_STAT.ACTIVE 7, 1)] awake
    let edge := chip [(Reg.TIM.REF_STAT.ACTIVE 7, 1), (Reg.TIM.REF_STAT.FOFS_VALID 7, 1), (Reg.TIM.REF_FOFS.FOFS 7, 9200000)] awake
    let offs : List (Fin 8 × Int) := [(7, 12000000)]
    ¬((7 : Fin 8).val < 6 ∧ q.refSource 7 = true) ∧ awake.refSource 0 = false ∧ q.refOk 7 = true ∧
    (offs.find? fun p => p.1 == 7).map Prod.snd = some 12000000 ∧ ((offs.find? fun p => p.1 == 0) = none) ∧ q.refSource 7 = true ∧
    (7 : Fin 8) ∈ [(7 : Fin 8)] ∧ edge.refOk 7 = false ∧ edge.flag (Reg.TIM.REF_STAT.ACTIVE 7) = true ∧
    edge.flag Reg.CLK.CLK_STAT.TIME_ROOT = false ∧ (edge.getS (Reg.TIM.REF_FOFS.FOFS 7)).natAbs ≤ 9200000 := by decide

theorem witness_reference_selection :
    let s : Chip := { chip [(Reg.TIM.REF_STAT.QUALIFIED 7, 1), (Reg.TIM.REF_CFG.PRIO 7, 15), (Reg.TIM.SEL_CFG.REVERTIVE, 0), (Reg.TIM.SEL_CFG.MODE, 1)] awake with
      tim := { target := some 7 } }
    let out := chip [(Reg.TIM.DPLL_STAT.STATE, 3), (Reg.TIM.HO_TIMER.TIMER, 1)] awake
    s.tim.target = some 7 ∧ s.getF Reg.TIM.SEL_CFG.MODE < 2 ∧ (s.rd 0x001000F0).getLsbD 0 = false ∧ s.refEligible 7 = true ∧
    s.flag Reg.TIM.SEL_CFG.REVERTIVE = false ∧ (chip [(Reg.TIM.DPLL_STAT.STATE, 1)]).getF Reg.TIM.DPLL_STAT.STATE = 1 ∧
    (chip [(Reg.TIM.DPLL_STAT.STATE, 2)]).getF Reg.TIM.DPLL_STAT.STATE = 2 ∧ out.getF Reg.TIM.DPLL_STAT.STATE = 3 ∧ out.getF Reg.TIM.HO_TIMER.TIMER ≠ 0 := by decide

theorem witness_history_and_dco :
    let locked := chip [(Reg.TIM.DPLL_STAT.STATE, 2), (Reg.TIM.LOCKED_TIME.SECS, 4294967295)] awake
    let dco := chip [(Reg.TIM.SEL_CFG.MODE, 4), (Reg.TIM.DCO_CTRL.AUTO_COMMIT, 1)] awake
    locked.getF Reg.TIM.DPLL_STAT.STATE = 2 ∧
    max 300 (locked.hoAvg + locked.getF Reg.TIM.HO_CFG.HO_GUARD) ≤ min (locked.getF Reg.TIM.LOCKED_TIME.SECS + 1) (2 ^ 32 - 1) ∧
    dco.selMode = 4 ∧ awake.selMode ≠ 4 ∧ awake.getF Reg.TIM.DPLL_STAT.STATE = 0 ∧ (chip [(Reg.TIM.DCO_CTRL.AUTO_COMMIT, 0)]).flag Reg.TIM.DCO_CTRL.AUTO_COMMIT = false ∧
    dco.flag Reg.TIM.DCO_CTRL.AUTO_COMMIT = true := by decide

/-! ## Witnesses: Wellspring time, Tamust and ripples -/

/-- A chip whose Wellspring time stands at a second, in a phase of the time state. -/
def tm (w : WstSt) (l : List (Fld × Nat) := []) : Chip := { chip l awake with wst := w }

theorem witness_wellspring_time :
    let pps := tm { sec := 3, ppsSeen := 1 } [(Reg.WST.TIME_CFG.SRC, 1), (Reg.WST.SLEW_CFG.STEP_THR, 1)]
    let sync := fun (src st : Nat) => tm {} [(Reg.WST.TIME_CFG.SRC, src), (Reg.WST.TIME_STAT.STATE, st)]
    (sgn 32 1000).natAbs ≤ pps.getF Reg.WST.SLEW_CFG.STEP_THR * 1000 ∧ pps.getF Reg.WST.SLEW_CFG.STEP_THR * 1000 < (sgn 32 4294966295).natAbs ∧
    (0 : Int).natAbs < 2 ^ 31 ∧
    (pps.wstFine : Int) - ((pps.getF (Reg.WST.PPSIN_DLY.PS 0) * 65536 : Nat) : Int) = (3 * (secT16 * 1000) : Nat) + 0 * 65536 ∧
    pps.timeSrc = 1 ∧ pps.timeSrc ≠ 2 ∧ pps.getF Reg.WST.TIME_STAT.STATE = 0 ∧ pps.wst.ppsSeen.testBit 0 = true ∧
    (sync 2 1).timeSrc = 2 ∧ (sync 2 1).getF Reg.WST.TIME_STAT.STATE = 1 ∧ (sync 3 2).timeSrc = 3 ∧ (sync 3 2).getF Reg.WST.TIME_STAT.STATE = 2 ∧
    (chip [(Reg.WST.PPSOUT_CFG.EN, 1)]).flag Reg.WST.PPSOUT_CFG.EN = true := by decide

/-- A HELLO and its bytes on the wire. -/
def helloMsg (hops : Nat) : TtMsg := { type := 0, bcast := true, hops := hops, dst := 0x3FFF, src := 77, seq := 1, payload := [1, 2, 3] }

/-- A message's bytes with its CRC. -/
def framedMsg (m : TtMsg) : List Nat := m.bytes ++ bytesMsb 4 (crc32c m.bytes)

theorem witness_tamust_messages :
    let s := tm { ports := [(31, { rxStamps := [(1, 5)], txStamps := [(2, 6)] })] }
      [(Reg.WST.TT_PORT_CFG.EN 31, 1), (Reg.WST.TT_PORT_CFG.TIME_EN 31, 1), (Reg.WST.TIME_CFG.SRC, 3), (Reg.WST.TIME_CFG.TT_PORT, 31)]
    let time := fun (status : Nat) => bytesMsb 4 1 ++ instantBytes 7 ++ bytesMsb 4 2 ++ instantBytes 8 ++ [0, 9, 2, status]
    s.flag (Reg.WST.TT_PORT_CFG.EN 31) = true ∧ TtMsg.parse [1, 2] = none ∧ TtMsg.parse (framedMsg (helloMsg 0)) = some (helloMsg 0) ∧
    TtMsg.parse (framedMsg (helloMsg 64)) = some (helloMsg 64) ∧ s.flag (Reg.WST.TT_PORT_CFG.TIME_EN 31) = true ∧ s.timeSrc = 3 ∧
    s.getF Reg.WST.TIME_CFG.TT_PORT = 31 ∧ (time 4).length = 36 ∧ ((time 4).getD 35 0).testBit 0 = false ∧ ((time 5).getD 35 0).testBit 0 = true ∧
    ((time 5).getD 35 0).testBit 2 = true ∧ s.wst.pdLoaded = false ∧
    (stampOf (s.portOf 31).rxStamps (ofBytes ((time 5).take 4))).isSome = true ∧
    (stampOf (s.portOf 31).txStamps (ofBytes (((time 5).drop 16).take 4))).isSome = true := by decide +kernel

theorem witness_ripple_slots :
    let good := tm {} [(Reg.WST.RIP_NS.NS 63, 1000)]
    let late := tm { running := true } [(Reg.WST.RIP_NS.NS 63, 1000000000)]
    let armed := tm { running := true } [(Reg.WST.RIP_STAT.STATE 63, 1), (⟨Reg.WST.RIP_PERIOD_LO.addr 63, 0, 32⟩, 1000)]
    let due : DueRipple := { slot := 63, sec := 0, t16 := 0, act := 128, groups := 0, gpio := 0x80008000, words := [] }
    good.ripArmed 63 = false ∧
    ¬(999999999 < good.getF (Reg.WST.RIP_NS.NS 63) ∨ good.ripInstant 63 < good.wstNow + 1000 * 65536 ∨
      (0 < good.getPair (Reg.WST.RIP_PERIOD_LO.addr 63) ∧ good.getPair (Reg.WST.RIP_PERIOD_LO.addr 63) < 1000)) ∧
    late.ripArmed 63 = false ∧ 999999999 < late.getF (Reg.WST.RIP_NS.NS 63) ∧ armed.ripArmed 63 = true ∧ armed.wst.running = true ∧
    armed.ripInstant 63 ≤ armed.wstNow ∧ good.getPair (Reg.WST.RIP_PERIOD_LO.addr 63) = 0 ∧ armed.getPair (Reg.WST.RIP_PERIOD_LO.addr 63) ≠ 0 ∧
    armed.ripInstant 63 + ((armed.wstNow - armed.ripInstant 63) / (1000 * 65536) + 1) * (1000 * 65536) < 2 ^ 48 * secT16 ∧
    (tm { due := [due] }).wst.due = [due] ∧ due.slot = 63 ∧ due.act = 128 ∧ ({ due with act := 2 } : DueRipple).act = 2 ∧
    ({} : Chip).islDown 0 = true := by decide

/-- A chip whose mailbox holds a command. -/
def mbx (opcode : Nat) (w : WstSt) (l : List (Fld × Nat)) : Chip :=
  { chip l awake with wst := w, mgmt := { mbox := some (opcode, 1, 7) } }

/-- A message of the receive ring. -/
def ringMsg (type : Nat) (payload : List Nat) : TtMsg := { type := type, bcast := false, hops := 0, dst := 1, src := 2, seq := 3, payload := payload }

theorem witness_domain_ripples :
    let id := [(Reg.WST.NODE_ID.VALID, 1), (Reg.WST.NODE_ID.ID, 5), (Reg.MGMT.H2F_DATA.DATA 3, 50000000)]
    let sub := mbx 0x10 {} id
    let o : DomOrigin := { id := 0, slot := some 63, at_ := 1000000 * 65536 }
    let own := mbx 0x11 { origin := [o] } [(Reg.WST.RIP_STAT.STATE 63, 1), (Reg.WST.RIP_NS.NS 63, 1000000)]
    let sched := (3, ringMsg 3 (bytesMsb 2 7 ++ bytesMsb 2 9 ++ instantBytes (1000000 * 65536) ++ List.replicate 9 0))
    let cancel := (3, ringMsg 5 [0, 7, 0, 9])
    let ack := (3, ringMsg 4 [0, 7, 0x3F, 0xFF, 0])
    let grant := (16, ringMsg 6 (List.replicate 8 0 ++ [0x3F, 0xFF, 0, 0, 0, 0]))
    sub.mboxIs (fun o => o == 0x10) = true ∧ (mbx 0x10 {} []).flag Reg.WST.NODE_ID.VALID = false ∧ sub.flag Reg.WST.NODE_ID.VALID = true ∧
    sub.mboxWord 3 ≤ 999999999 ∧
    sub.wstNow + 50000000 * 65536 ≤ (sub.mboxWord 1 + sub.mboxWord 2 % 2 ^ 16 * 2 ^ 32) * secT16 + sub.mboxWord 3 * 65536 + sub.mboxWord 4 % 65536 ∧
    sub.freeSlot.isSome = true ∧ own.mboxIs (fun o => o == 0x11) = true ∧ own.originOf (own.mboxWord 0 % 65536) = some o ∧ o.slot = some 63 ∧
    own.ripArmed 63 = true ∧ own.wstNow + 1000000 * 65536 ≤ own.ripInstant 63 ∧
    (mbx 0x12 { origin := [o] } []).mboxIs (fun o => o == 0x12) = true ∧
    (tm { ring := [sched] }).wst.ring.find? (fun x => x.2.type == 3 && x.2.payload.length == 25) = some sched ∧
    instantOf (sched.2.payload.drop 4) = 1000000 * 65536 ∧ (tm {}).freeSlot.isSome = true ∧
    (tm { ring := [cancel] }).wst.ring.find? (fun x => x.2.type == 5 && x.2.payload.length == 4) = some cancel ∧
    ([(9, 7, some 63)] : List (Nat × Nat × Option Nat)).find? (fun y => y.1 == ofBytes (cancel.2.payload.drop 2) && y.2.1 == ofBytes (cancel.2.payload.take 2)) =
      some (9, 7, some 63) ∧
    (tm { ring := [ack] }).wst.ring.find? (fun x => x.2.type == 4 && x.2.payload.length == 5) = some ack ∧
    ofBytes ((ack.2.payload.drop 2).take 2) = (tm {}).nodeId ∧
    (tm { ring := [grant] }).wst.ring.find? (fun x => x.2.type == 6 && x.2.payload.length == 14) = some grant ∧
    ofBytes (grant.2.payload.take 8) = (tm {}).getPair (Reg.SUBC.INLET_SERIAL_LO.addr .B) := by decide +kernel

theorem witness_fixed_latency :
    let s := chip [(Reg.WST.FL_TX.PS 1 15, 1), (Reg.WST.FL_RX.PS 1 15, 1), (Reg.WST.FL_FLAGS.RX_HELD 1 15, 1)] awake
    s.getF (Reg.WST.FL_TX.PS 1 15) ≠ 0 ∧ s.flag (Reg.WST.FL_FLAGS.TX_HELD 1 15) = false ∧ s.getF (Reg.WST.FL_RX.PS 1 15) ≠ 0 ∧
    s.flag (Reg.WST.FL_FLAGS.RX_HELD 1 15) = true := by decide

/-! ## Witnesses: protection -/

/-- Group 15 enabled with a kind, its status and its state; kinds 3 and 4 protect connection 31 of carrier A's trail 0 by carrier B's trail 0. -/
def pg (kind : Nat) (l : List (Fld × Nat)) (v : PgSt := {}) : Chip :=
  { (chip ((Reg.PROT.PG_STAT.EN_ACTIVE 15, 1) :: l) awake).setPg 15 v with
    actRegs := [(Reg.XC.XC_CFG.addr 31, 0x80000000#32), (Reg.PROT.PG_CFG.addr 15, BitVec.ofNat 32 (2 ^ 31 + kind * 2 ^ 28 + 31 * 256)),
      (Reg.PROT.MEM_CFG.addr 15, 0x1000#32), (Reg.PROT.DESK_CFG.addr 15, 5#32)] }

theorem witness_protection_commands :
    let req := fun (n : Nat) => pg 1 [(Reg.PROT.PG_STAT.REQ 15, n)]
    (req 0).pgOn 15 = true ∧ ((req 0).pgFar 15).1 < 7 ∧ (req 0).flag Reg.PROT.PROT_STAT.FROZEN = false ∧
    (req 0xD).getF (Reg.PROT.PG_STAT.REQ 15) ≤ 0xD ∧ 0xD < (req 0xE).getF (Reg.PROT.PG_STAT.REQ 15) ∧ (req 7).getF (Reg.PROT.PG_STAT.REQ 15) ≤ 7 ∧
    7 < (req 8).getF (Reg.PROT.PG_STAT.REQ 15) ∧ ((req 0).pgOf 15).lo = false ∧ ((req 0).pgOf 15).fs = false ∧
    (Instr.cmdFs 15, 0xD) ∈ [(Instr.cmdFs 15, 0xD), (Instr.cmdMs 15, 7), (Instr.cmdMsW 15, 7)] := by decide

theorem witness_protection_switching :
    let hold := pg 1 [] { hold := 8, raw := 8 }
    let wtr := pg 1 [(Reg.PROT.PG_STAT.REQ 15, 5)] { wtr := true }
    let due := pg 1 [] { decided := true }
    let r : LostRange := { pg := 15, cause := 2, first := 1, last := 2, sec := 3, ns := 4 }
    hold.pgOn 15 = true ∧ (hold.pgOf 15).hold.testBit 3 = true ∧ (hold.pgOf 15).raw.testBit 3 = true ∧ (wtr.pgOf 15).wtr = true ∧
    wtr.getF (Reg.PROT.PG_STAT.REQ 15) = 5 ∧ (wtr.pgOf 15).dnr = false ∧ due.switchDue 15 = true ∧ due.top.deferGroups = 0 ∧
    ({ due with lost := [r, r] }).lost = [r, r] := by decide

theorem witness_hitless_and_aps :
    let lock := [Carrier.A, Carrier.B].flatMap fun c => [(Reg.FRM.ALIGN_STAT.IN_FRAME c 0, 1), (Reg.FRM.ALIGN_STAT.FSN_LOCK c 0, 1), (Reg.FRM.ALIGN_STAT.DELIN c 0, 1)]
    let crc := crcMsb 16 0x1021 0xFFFF ([0, 0, 0, 0].flatMap bitsMsb)
    let rec_ : DeskRec := { fsn := 9, uncorr := false, ctl := [0, 0, 0, 0, crc / 256, crc % 256] }
    let s := ((pg 4 ((Reg.XC.XC_TRIB_STAT.NO_SYNC 31, 0) :: lock) { deskW := [rec_] }).setRcv (.car .A)
      { state := 8, los := false }).setFrm .A 0 { align := 1 }
    let k := s.pgCfgOf 15
    let base := xcEntry s.act k.base
    let far := pg 2 [(Reg.PROT.PG_STAT.APS_LOSS 15, 0)] { farRsig := true, apsLast := some (5, 6), bridge := true, farB := false }
    let bid := pg 2 [] { bridge := true }
    s.pgOn 15 = true ∧ k.kind = 4 ∧ k.desk = 5 ∧ (k.member base false) = (.A, 0) ∧ (k.member base true) = (.B, 0) ∧
    s.flag (Reg.FRM.ALIGN_STAT.IN_FRAME .A 0) = true ∧ s.flag (Reg.FRM.ALIGN_STAT.FSN_LOCK .B 0) = true ∧
    (1001 : Int).natAbs < 2 ^ 31 ∧ k.desk * 1000 < (1001 : Int).natAbs + 4000 ∧ (s.pgOf 15).deskHeld = none ∧
    (s.getS (Reg.PROT.DIFF_DLY.NS 15)).natAbs + 4000 ≤ k.desk * 1000 ∧ s.flag (Reg.PROT.PG_STAT.ACTIVE 15) = false ∧ (s.pgOf 15).lastFsn = none ∧
    (s.pgOf 15).deskW.find? (fun r => r.fsn == 9) = some rec_ ∧ DeskRec.good (some rec_) (s.memberSf 15 false) false = true ∧
    (s.pgOf 15).deskW.find? (fun r => r.fsn == 8) = none ∧ (s.pgOf 15).deskP.find? (fun r => r.fsn == 8) = none ∧
    (far.pgFar 15).2 = true ∧ (far.pgOf 15).apsLast = some (5, 6) ∧ (far.pgOf 15).apsLast ≠ some (5, 7) ∧ (bid.pgFar 15).2 = false ∧
    (bid.pgOf 15).bridge = true ∧ bid.flag (Reg.PROT.PG_STAT.ACTIVE 15) = false ∧ far.flag (Reg.PROT.PG_STAT.APS_LOSS 15) = false ∧
    ((far.pgOf 15).farB != ((far.pgCfgOf 15).kind == 2)) = true ∧ far.flag (Reg.PROT.PG_STAT.FOP_PM 15) = false := by decide +kernel

/-! ## Witnesses: line encryption, the key store and the service engine -/

/-- A key of the key store. -/
def key (usage len : Nat) : KsKey := { usage := usage, len := len, label := 0, bytes := List.replicate 32 7 }

/-- A chip with a line key in slot 63. -/
def keyed (l : List (Fld × Nat)) : Chip :=
  { chip ([(Reg.LENC.TX_LOAD_CFG.SLOT .A, 63), (Reg.LENC.RX_LOAD_CFG.SLOT .A, 63), (Reg.LENC.TX_EPOCH.EPOCH .A, 5)] ++ l) awake with
    sec := { slots := [(63, { key := some (key 1 32) })] }, lenc := ⟨{ maxEpoch := some 4 }, {}⟩ }

theorem witness_line_key_loads :
    let s := keyed []
    let both := keyed [(Reg.TXD.LINE_STAT.SUBC_EN .A, 1), (Reg.SUBC.SC_STAT.ROLE_ACTIVE .A, 1), (Reg.SUBC.EN_ACTIVE.UP .A, 0x8001), (Reg.SUBC.EN_ACTIVE.DN .A, 0x8001),
      (Reg.LENC.RX_TRAIL_STAT.KP_LAST .A 15, 1)]
    (awake.slotOf (awake.getF (Reg.LENC.TX_LOAD_CFG.SLOT .A))).key = none ∧ (s.slotOf (s.getF (Reg.LENC.TX_LOAD_CFG.SLOT .A))).key = some (key 1 32) ∧
    (s.slotOf (s.getF (Reg.LENC.RX_LOAD_CFG.SLOT .A))).key = some (key 1 32) ∧ (key 1 32).usage = 1 ∧ (key 1 32).len = 32 ∧
    (s.lenc.get .A).maxEpoch = some 4 ∧ 4 < s.getF (Reg.LENC.TX_EPOCH.EPOCH .A) ∧ s.keyCar .A = .A ∧
    (both.rxPhases .A).contains 0 = true ∧ (both.rxPhases .A).contains 1 = true ∧ (s.rxPhases .A).contains 1 = false ∧
    (chip [(⟨keyInfo .B false 1, 30, 1⟩, 1)]).keyLoading .B false 1 = true := by decide

theorem witness_tag_checks_and_lanes :
    let w : TagWait := { trail := 15, frame := rxFrame 0, keyed := true, spoilt := false }
    let s : Chip := { awake with lenc := ⟨{ checks := [{ w with trail := 0 }, w] }, {}⟩ }
    let t := awake.setGrp .A 2 { awake.grpOf .A 2 with takeover := some 16 }
    ((s.lenc.get .A).checks.find? fun w => w.trail == 15) = some w ∧ w.spoilt = false ∧ w.keyed = true ∧ (s.grpOf .A 2).sf = false ∧
    ({ w with spoilt := true } : TagWait).spoilt = true ∧ (true && ({ w with keyed := false } : TagWait).keyed) = false ∧
    (s.grpOf .A 2).inService 0 = true ∧ (s.grpOf .A 2).reserve = some 16 ∧ (t.grpOf .A 2).takeover = some 16 ∧
    ((t.setGrp .A 2 { t.grpOf .A 2 with reserve := none }).grpOf .A 2).inService 16 = true := by decide

theorem witness_key_store :
    ({} : Chip).fuse.otpKilled = false ∧ ({} : Chip).fuse.otpKey = none ∧ ((5 : Fin 8).val ≠ 4) ∧
    ({ fuse := { otpKilled := true } } : Chip).fuse.otpKilled = true ∧ ({ fuse := { otpKey := some [] } } : Chip).fuse.otpKey.isSome = true := by decide

/-- A job of a ring on the pools. -/
def job (ring : Nat) (fault : Option Nat := none) : Job :=
  { ring := ring, desc := 0x803FF000, op := 3, slot := 5, target := 6, count := 256, src := 0x80000000, dst := 0x803FF000, irq := true, key := none, order := 0
    fault := fault }

theorem witness_service_jobs :
    let pooled := fun (a : Nat) => 0x80000000 ≤ a ∧ a + 4096 ≤ 0x80400000
    let ring := chip [(Reg.SEC.RING_TAIL.TAIL 3, 1), (Reg.SEC.RING_BASE.BASE 3, 0x4000000)] awake
    let susp : Chip := { ring with sec := { susp := [job 2] } }
    let full : Chip := { chip [(Reg.SEC.RING_TAIL.TAIL 0, 1), (Reg.SEC.RING_BASE.BASE 0, 0x4000000)] awake with
      sec := { cores := (List.range 8).map fun i => (i, job 3 (some 4)) } }
    awake.islDown 3 = false ∧ ring.coreFree 7 = true ∧ ring.bestWork = some (3, none) ∧ ring.ringHead 3 = some 0x80000000 ∧ pooled 0x80000000 ∧
    susp.bestWork = some (2, some (job 2)) ∧ full.victim.isSome = true ∧ 8 ≤ full.sec.cores.length ∧ full.sec.susp.length < 4 ∧
    (List.range 3).any full.headReady = true ∧ full.ratiosOk = true ∧ full.sec.cores.find? (fun p => p.1 == 7) = some (7, job 3 (some 4)) ∧
    pooled (job 3).desc ∧ pooled (job 3).src ∧ pooled (job 3).dst ∧ (job 3).count ≤ 256 ∧ (full.jobWork (job 3 (some 4))).1 = 4 ∧
    (full.jobWork (job 3 (some 1))).1 = 1 ∧ (job 3).irq = true := by decide

/-- A flash whose primary area holds an image of 64 bytes, node 5, sequence number 7, with its SHA-256 digest (computed outside the model). -/
def flashed (s : Chip := awake) : Chip :=
  (s.setFlashBytes 0 (beBytes 64 0x4b4c4d530100163200000a004000000007000000050001000000e0000000e1000001020301000100896745230100000000000000000000000000000000000000)).setFlashBytes 64
    (beBytes 32 0x35204c835d246731cad2da64fd76f10b6290f09862178b8d75273a9c658f683c)

/-- A phase of the boot sequence reading an area, with fields set. -/
def booting (phase area : Nat) (l : List (Fld × Nat) := []) (s : Chip := awake) : Chip :=
  let u := chip ((Reg.BOOT.BOOT_STAT.PHASE, phase) :: l) s
  { u with boot := { u.boot with area := area } }

/-- The same with the boot controller's own state changed. -/
def bootWith (f : BootSt → BootSt) (s : Chip) : Chip := { s with boot := f s.boot }

theorem witness_boot_sequence :
    let held := { ({} : Chip) with clk := { ({} : Chip).clk with poreset := true } }
    let start := booting 0 0 [(Reg.CLK.CLK_STAT.ROSC_READY, 1)]
    let noImage := booting 0 0 [(Reg.CLK.CLK_STAT.ROSC_READY, 1), (Reg.BOOT.BOOT_STAT.PRIM_BAD, 1), (Reg.BOOT.BOOT_STAT.GOLD_BAD, 1)]
    held.clk.poreset = true ∧ start.getF Reg.BOOT.BOOT_STAT.PHASE = 0 ∧ start.clk.poreset = false ∧ start.clk.aonLow = false ∧
    start.flag Reg.CLK.CLK_STAT.ROSC_READY = true ∧ start.bootArea ≠ 0 ∧ noImage.bootArea = 0 ∧
    (booting 1 1 [] flashed).boot.hdrOk = false ∧ (booting 1 1).getF Reg.BOOT.BOOT_STAT.PHASE = 1 ∧ (booting 1 1).headerCause 1 ≠ 0 ∧
    (booting 1 1).boot.area = 1 ∧ (booting 1 1).flag Reg.BOOT.BOOT_STAT.GOLD_BAD = false ∧
    (booting 2 1).getF Reg.BOOT.BOOT_STAT.PHASE = 2 := by decide

theorem witness_good_header : (booting 1 1 [] flashed).headerCause 1 = 0 := by decide +kernel

theorem witness_good_image : (flashed.loadPass 1).1 = 0 := by decide +kernel

/-- A staged record of one write, with its CRC-32C (computed outside the model). -/
def staged : Chip :=
  bootWith (fun b => { b with applying := true, recs := [⟨0, 0x300000, 8⟩] })
    ((booting 4 1).loadBytes 0x300000 (beBytes 32 0x0100000008000000000000000000000010009000010000009dc1700400000000))

theorem witness_record_applies :
    (staged.applyNext 7 ⟨0, 0x300000, 8⟩ false).1.map (fun x => (x.err, x.stand, x.chip.ratiosOk)) = some (false, [], true) ∧
    staged.boot.recs = [⟨0, 0x300000, 8⟩] ∧ staged.getF Reg.BOOT.BOOT_STAT.PHASE = 4 ∧ staged.boot.applying = true := by decide +kernel

theorem witness_image_loading :
    let polled := bootWith (fun b => { b with stand := [0], recs := [⟨3, 0x300000, 8⟩] }) (booting 4 1)
    let service := bootWith (fun b => { b with stand := [0] }) (booting 5 1)
    let done := bootWith (fun b => { b with applying := true }) (booting 4 1)
    let waiting := bootWith (fun b => { b with confirmDue := true }) (booting 5 1 [(Reg.BOOT.BOOT_STAT.IMAGE, 1)])
    (booting 3 1).getF Reg.BOOT.BOOT_STAT.PHASE = 3 ∧ (booting 3 1).boot.area = 1 ∧ (booting 3 1).flag Reg.BOOT.BOOT_STAT.GOLD_BAD = false ∧
    polled.boot.stand ≠ [] ∧ polled.boot.recs = [⟨3, 0x300000, 8⟩] ∧ polled.getF Reg.BOOT.BOOT_STAT.PHASE = 4 ∧ polled.boot.area = 1 ∧
    service.boot.stand ≠ [] ∧ service.boot.recs = [] ∧ service.getF Reg.BOOT.BOOT_STAT.PHASE = 5 ∧ done.boot.applying = true ∧ done.boot.recs = [] ∧
    waiting.boot.confirmDue = true ∧ waiting.getF Reg.BOOT.BOOT_STAT.IMAGE = 1 ∧
    ({ awake with fuse := { awake.fuse with otpKey := some (List.replicate 32 3) } } : Chip).fuse.otpKey.isSome = true := by decide

theorem witness_flash_commands :
    let golden := chip [(Reg.BOOT.XSPI_ADDR.ADDR, 0xDFFFFF)] awake
    let enabled := chip [(Reg.BOOT.XSPI_ADDR.ADDR, 0xDFFFFF), (Reg.BOOT.BOOT_CTRL.GOLD_WE, 1)] awake
    let read := bootWith (fun b => { b with xspi := some ⟨0, 0x40, 256, []⟩ }) awake
    let program := bootWith (fun b => { b with xspi := some ⟨1, 8, 1, [(8, 0x0F)]⟩ }) awake
    golden.flag Reg.BOOT.XSPI_STAT.BUSY = false ∧ golden.flag Reg.BOOT.BOOT_CTRL.GOLD_WE = false ∧ hitsGolden 0xDFFFFF 1 = true ∧
    hitsGolden 0xE00000 1 = false ∧ hitsGolden 0x6FFFFF 1 = false ∧ enabled.flag Reg.BOOT.BOOT_CTRL.GOLD_WE = true ∧
    read.boot.xspi = some ⟨0, 0x40, 256, []⟩ ∧ program.boot.xspi = some ⟨1, 8, 1, [(8, 0x0F)]⟩ := by decide

theorem witness_watchdogs :
    let up := chip [(Reg.BOOT.BOOT_STAT.PHASE, 6), (Reg.MGMT.CORE_STAT.STATE 0, 1), (Reg.MGMT.CORE_STAT.STATE 3, 1), (Reg.MGMT.WDT_CFG.EN 0, 1),
      (Reg.MGMT.WDT_CFG.EN 3, 1), (Reg.MGMT.WDT_CFG.PEER 0, 3)] awake
    let alone := chip [(Reg.MGMT.CORE_STAT.STATE 3, 1), (Reg.MGMT.WDT_CFG.EN 3, 1)] awake
    let failed := { chip [(Reg.MGMT.CORE_STAT.STATE 0, 2)] awake with mgmt := { awake.mgmt with route := [(0, 3)], mbox := some (1, 2, 3) } }
    up.coreRuns 0 = true ∧ up.wdtOn 0 = true ∧ up.wdtOn 3 = true ∧ (8 : Fin 16).val = 2 ^ 3 ∧ up.getF (Reg.MGMT.WDT_CFG.PEER 0) = 3 ∧ up.coreRuns 3 = true ∧
    alone.wdtOn 3 = true ∧ alone.coreRuns 0 = false ∧ alone.coreRuns 1 = false ∧ alone.coreRuns 2 = false ∧
    failed.getF (Reg.MGMT.CORE_STAT.STATE 0) = 2 ∧ (failed.mgmt.route.find? fun x => x.1 == 0) = some (0, 3) ∧ failed.mgmt.mbox.isSome = true ∧
    up.getF Reg.BOOT.BOOT_STAT.PHASE = 6 ∧ up.coreRuns 1 = false := by decide

theorem witness_mailbox_and_extension :
    let box := fun (o : Nat) => { awake with mgmt := { awake.mgmt with mbox := some (o, 0, 0), extOn := true } }
    awake.flag Reg.MGMT.H2F_STAT.BUSY = false ∧ (chip [(Reg.MGMT.H2F_STAT.BUSY, 1)] awake).flag Reg.MGMT.H2F_STAT.BUSY = true ∧
    (box 0).mgmt.mbox.isSome = true ∧ awake.flag Reg.MGMT.F2H_CTRL.VALID = false ∧ (box 1).mboxIs (fun o => o == 0x01) = true ∧
    (box 0x20).mboxIs (fun o => o == 0x20) = true ∧ (box 0x80).mboxIs (fun o => decide (0x80 ≤ o)) = true ∧
    (box 0xFF).mboxIs (fun o => decide (0x80 ≤ o)) = true ∧ (box 0x80).mgmt.extOn = true ∧ (box 0x80).mgmt.extSusp = false ∧
    awake.mgmt.extOn = false ∧ (box 0x80).extAllows 0x00500008 0 = false := by decide

/-- The pools with one word given. -/
def pooled (w : Nat) (v : PoolWord) (s : Chip := awake) : Chip := { s with pool := { s.pool with words := [(w, v)] } }

theorem witness_pool_access :
    let verdict := fun (v : PoolWord) => ((pooled 524287 v).poolWord 524287).check (poolOfWord 524287)
    let armed := chip [(Reg.POOL.ECC_FLIP_CTL.ARM, 1), (Reg.POOL.ECC_FLIP_CTL.POOL, 3)] (chip [(Reg.POOL.POOL_OWN.OWNER 3, 1)] awake)
    awake.getF (Reg.POOL.POOL_OWN.OWNER 0) ≠ 3 ∧ awake.upset 524287 0 0 = awake ∧
    verdict { known := 255, data := 5 } = .good ∧ verdict { known := 255, data := 5, flips := 2 ^ 63 } = .single ∧ verdict { known := 255, data := 5, flips := 3 } = .uncorr ∧
    verdict { known := 255, data := 5, poison := 255 } = .poisoned ∧ (∃ c : Fin 8, awake.writeRefused 524287 255 1 = some c.val) ∧
    (chip [(Reg.POOL.POOL_OWN.OWNER 3, 1)] awake).writeRefused 524287 255 1 = none ∧
    (chip [(Reg.POOL.POOL_OWN.OWNER 3, 1)] awake).flag Reg.POOL.ECC_FLIP_CTL.ARM = false ∧ armed.writeRefused 524287 255 1 = none ∧
    armed.flag Reg.POOL.ECC_FLIP_CTL.ARM = true ∧ armed.getF Reg.POOL.ECC_FLIP_CTL.POOL = poolOfWord 524287 := by decide

theorem witness_pool_maintenance :
    let spare := chip [(spareFld 3 3, 8)] awake
    let repairing := { chip [(Reg.POOL.REPAIR_STAT.BUSY, 1)] spare with pool := { awake.pool with repair := some (3, 3, 511) } }
    let ranged := chip [(Reg.POOL.SCRUB_START.ADDR, 0x10000000), (Reg.POOL.SCRUB_END.ADDR, 0x10000001)] awake
    let scrub := fun (v : PoolWord) => { chip [(Reg.POOL.SCRUB_STAT.BUSY, 1)] awake with
      pool := { awake.pool with words := [(524287, v)], scrubAt := 524287, scrubEnd := 524288 } }
    let verdict := fun (v : PoolWord) => ((scrub v).poolWord 524287).check (poolOfWord 524287)
    let ended := { chip [(Reg.POOL.SCRUB_STAT.BUSY, 1)] awake with pool := { awake.pool with scrubAt := 524288, scrubEnd := 524288 } }
    let queued := { awake with pool := { awake.pool with mev := [⟨1, 2, 3, 4⟩, ⟨5, 3, 7, 0x123⟩] } }
    spare.flag Reg.POOL.REPAIR_STAT.BUSY = false ∧ spare.getF (spareFld 3 3) ≠ 0 ∧ (chip [(spareFld 3 3, 0)] spare).getF (spareFld 3 3) = 0 ∧
    repairing.flag Reg.POOL.REPAIR_STAT.BUSY = true ∧ repairing.pool.repair = some (3, 3, 511) ∧ ranged.flag Reg.POOL.SCRUB_STAT.BUSY = false ∧
    ranged.scrubRange.isSome = true ∧ (chip [(Reg.POOL.SCRUB_END.ADDR, 0)] ranged).scrubRange = none ∧
    (scrub { known := 255, data := 5 }).flag Reg.POOL.SCRUB_STAT.BUSY = true ∧ (scrub { known := 255, data := 5 }).underRepair 524287 = false ∧
    verdict { known := 255, data := 5 } = .good ∧ verdict { known := 255, data := 5, flips := 1 } = .single ∧ verdict { known := 255, data := 5, flips := 3 } = .uncorr ∧
    ended.flag Reg.POOL.SCRUB_STAT.BUSY = true ∧ ended.pool.scrubEnd ≤ ended.pool.scrubAt ∧
    queued.pool.mev = ⟨1, 2, 3, 4⟩ :: [⟨5, 3, 7, 0x123⟩] := by decide

/-- A request of one enabled word. -/
def word1 (a : Nat) (w : Bool) : BusReq := { addr := a, write := w, beats := [(15, 5)], wide := false, user := false }

/-- The link up in D0, with fields set. -/
def linked (l : List (Fld × Nat) := []) : Chip := chip ((Reg.PCIE.PCIE_STAT.LINK_UP, 1) :: l) awake

/-- The same with the endpoint's own state changed. -/
def pciWith (f : PciSt → PciSt) (s : Chip) : Chip := { s with pci := f s.pci }

/-- A performed piece at the head of the queue. -/
def performed (r : BusResp) (l : List (Fld × Nat) := []) : Chip :=
  pciWith (fun v => { v with queue := [{ bar2 := false, req := word1 0x500008 true, done := some r, errAt := 0x123 }] }) (linked l)

theorem witness_host_requests :
    let full := pciWith (fun v => { v with queue := List.replicate 31 { bar2 := false, req := word1 0 true } }) (linked)
    (linked).linkUp = true ∧ (linked).getF Reg.PCIE.PCIE_STAT.DSTATE = 0 ∧ (linked).pci.queue = [] ∧
    0x400000 - 1 + ([(true, 3)] : List (Bool × Fin 256)).length ≤ 0x400000 ∧
    full.pci.queue.length + (bar2Pieces true 0 [(true, 3)]).length ≤ 32 ∧ awake.linkUp = false ∧
    (performed (.data [1, 2])).pci.queue.map HostPiece.done = [some (.data [1, 2])] ∧
    (performed .done).pci.queue.map HostPiece.done = [some .done] ∧ (performed (.err 5)).pci.queue.map HostPiece.done = [some (.err 5)] ∧
    (performed (.err 5)).flag Reg.PCIE.HERR_INFO.VALID = false ∧
    (performed (.err 5) [(Reg.PCIE.HERR_INFO.VALID, 1)]).flag Reg.PCIE.HERR_INFO.VALID = true := by decide

theorem witness_link_and_reset : awake.islDown 4 = false ∧ awake.flag Reg.PCIE.PCIE_STAT.LINK_UP = false ∧ (linked).linkUp = true ∧
    (linked).getF Reg.PCIE.PCIE_STAT.SPEED ≠ (4 : Fin 8).val := by decide

theorem witness_vectors :
    let asked := linked [(⟨Reg.TOP.HOST_EN.addr, 0, 32⟩, 0xFFFFFFFF), (Reg.TOP.VEC_MAP.VEC 0, 63)]
    let due := { asked with top := { asked.top with msiDue := 1 } }
    let masked := chip [(⟨0x00B0800C + 16 * 63, 0, 1⟩, 1)] due
    let open_ := chip [(⟨0x00B0800C + 16 * 63, 0, 1⟩, 0)] due
    due.vecLatch 63 = false ∧ (due.vecSources 63 ≠ [] ∨ due.vecFault 63 = true) ∧ due.islDown 4 = false ∧ masked.vecMasked 63 = true ∧
    open_.vecMasked 63 = false ∧ open_.vecLatch 63 = false ∧ open_.flag Reg.PCIE.PCIE_STAT.LINK_UP = true ∧
    (open_.vecSources 63 ≠ [] ∨ open_.vecFault 63 = true) ∧
    (chip [(vecLatchFld 63, 1)] awake).vecLatch 63 = true ∧ ¬(awake.vecSources 63 ≠ [] ∨ awake.vecFault 63 = true) ∧ awake.clk.poreset = false := by decide

theorem witness_counter_readout :
    let on := [(Reg.EVC.SMP_CFG.EN, 1), (Reg.EVC.SMP_CFG.CLASS, 2), (Reg.EVC.SMP_CFG.SRC, 2)]
    let full := chip ((Reg.EVC.SMP_WP.WP, 2048) :: on) awake
    let fresh := chip ((Reg.EVC.SMP_WP.WP, 2047) :: on) awake
    let o := SampleOcc.instruction 1 true 70000 0x1234 5 (65536 * 77)
    awake.chained (511 - 1) = false ∧ full.smpCounts o = true ∧ fresh.smpCounts o = true ∧
    2048 ≤ (full.getF Reg.EVC.SMP_WP.WP + 4096 - full.getF Reg.EVC.SMP_RP.RP) % 4096 ∧
    (fresh.getF Reg.EVC.SMP_WP.WP + 4096 - fresh.getF Reg.EVC.SMP_RP.RP) % 4096 < 2048 := by decide

theorem witness_counter_chains :
    let last := chip [(⟨Reg.EVC.CHAIN.addr 15, 30, 1⟩, 1), (Reg.EVC.EVC_CNT.COUNT 510, 2 ^ 32 - 1)] awake
    let first := chip [(⟨Reg.EVC.CHAIN.addr 0, 0, 1⟩, 1)] awake
    last.chained 510 = true ∧ last.chained 509 = false ∧ last.getF (Reg.EVC.EVC_CNT.COUNT 510) = 2 ^ 32 - 1 ∧
    first.chained 0 = true ∧ first.getF (Reg.EVC.EVC_CNT.COUNT 0) < 2 ^ 32 - 1 := by decide

/-- Clock flags and fields set, with the clock domain's own state changed. -/
def clocked (l : List (Fld × Nat)) (f : ClkSt → ClkSt := id) : Chip := let u := chip l awake; { u with clk := f u.clk }

theorem witness_clock_sources :
    let boot := clocked [(Reg.BOOT.BOOT_STAT.PHASE, 6)]
    let ready := clocked [(Reg.CLK.CLK_STAT.ROSC_READY, 1), (Reg.CLK.CLK_STAT.XTAL_READY, 1)]
    let moving := clocked [(Reg.BOOT.BOOT_STAT.PHASE, 5)] fun v => { v with moving := some (1, 0) }
    boot.getF Reg.BOOT.BOOT_STAT.PHASE = 6 ∧ boot.clk.failWait = false ∧ boot.clk.failGated = 0 ∧ boot.flag Reg.CLK.CLK_STAT.ROSC_READY = false ∧
    boot.clk.asleep = false ∧ boot.clk.aonLow = false ∧ boot.getF Reg.CLK.PWR_STAT.STATE ≠ 1 ∧ boot.flag Reg.CLK.CLK_STAT.XTAL_READY = false ∧
    boot.clk.moving = none ∧ moving.clk.moving.isSome = true ∧ moving.getF Reg.BOOT.BOOT_STAT.PHASE = 5 ∧
    ¬(boot.flag Reg.CLK.CLK_STAT.MGMT_ROOT = true ∨ boot.flag Reg.CLK.CLK_STAT.ROSC_READY = true) ∧
    ready.flag Reg.CLK.CLK_STAT.ROSC_READY = true ∧ ready.flag Reg.CLK.CLK_STAT.XTAL_READY = true ∧ ready.clk.moving = none ∧
    ready.flag Reg.CLK.CLK_STAT.TIME_ROOT ≠ true := by decide

theorem witness_clock_monitor :
    let ready := [(Reg.CLK.CLK_STAT.ROSC_READY, 1), (Reg.CLK.CLK_STAT.XTAL_READY, 1), (Reg.CLK.MON_STAT.REF_CNT, 50000)]
    let off := fun (x : Nat) => 50 * ((x : Int) - (clocked ready).getF Reg.CLK.MON_STAT.REF_CNT).natAbs
    let sd := clocked ((Reg.CLK.CLK_STAT.SDREF_READY, 1) :: ready) fun v => { v with ratioX := 50000, ratioS := 100000 }
    (clocked ready).clk.asleep = false ∧ (clocked ready).flag Reg.CLK.CLK_STAT.ROSC_READY = true ∧ awake.flag Reg.CLK.CLK_STAT.ROSC_READY = false ∧
    (awake.flag Reg.CLK.CLK_STAT.MGMT_ROOT && awake.flag Reg.CLK.CLK_STAT.TIME_ROOT) = false ∧
    (clocked [] fun v => { v with asleep := true }).clk.asleep = true ∧ awake.flag Reg.CLK.PWR_CTRL.DS_XTAL = false ∧
    (clocked [(Reg.CLK.CLK_STAT.ROSC_READY, 1)]).flag Reg.CLK.CLK_STAT.XTAL_READY = false ∧
    (clocked ready).flag Reg.CLK.CLK_STAT.XTAL_READY = true ∧ 1 < (clocked ready fun v => { v with learnLeft := 2 }).clk.learnLeft ∧
    (clocked ready fun v => { v with learnLeft := 1, learnX := 750000 }).clk.learnX + 50000 = 16 * 50000 ∧ (clocked ready).clk.learnLeft = 0 ∧
    off 51000 ≤ 50000 ∧ 50000 < off 51001 ∧ (clocked ready).flag Reg.CLK.CLK_STAT.SDREF_READY = false ∧ 51001 < 2 ^ 16 ∧
    sd.flag Reg.CLK.CLK_STAT.SDREF_READY = true ∧ sd.clk.ratioS ≠ 0 ∧
    50 * ((51001 * sd.clk.ratioS : Nat) - (102002 * sd.clk.ratioX : Nat) : Int).natAbs ≤ 102002 * sd.clk.ratioX := by decide

theorem witness_gating :
    let running := clocked [(Reg.TXD.LINE_STAT.STATE .A, 2)]
    let pend := clocked [(Reg.CLK.GATE_STAT.PENDING, 0x20), (Reg.CLK.GATE_CTRL.GATE, 0x20)]
    let quiet := chip [(⟨Reg.CLK.BRG_QUIET.addr, 0, 16⟩, 0xFFFF)] pend
    let gated := clocked [(Reg.CLK.GATE_STAT.GATED, 0x20), (Reg.CLK.GATE_CTRL.GATE, 0x20)] fun v => { v with ungate := 0x20 }
    awake.bitOf Reg.CLK.GATE_CTRL.GATE 5 = false ∧ awake.bitOf Reg.CLK.GATE_STAT.GATED 5 = false ∧ running.gateCause 4 0 ≠ 0 ∧
    awake.gateCause 4 5 = 0 ∧ awake.clk.held.testBit 5 = false ∧ (({} : Chip).clk.held.testBit 5) = true ∧ ({} : Chip).gateCause 4 5 = 0 ∧
    pend.bitOf Reg.CLK.GATE_STAT.PENDING 5 = true ∧ quiet.bridgesQuiet 5 = true ∧ quiet.bitOf Reg.CLK.GATE_STAT.PENDING 5 = true ∧
    (chip [(⟨Reg.CLK.BRG_QUIET.addr, 0, 16⟩, 0)] pend).bridgesQuiet 5 = false ∧ awake.bitOf Reg.CLK.GATE_STAT.PENDING 5 = false ∧
    gated.bitOf Reg.CLK.GATE_STAT.GATED 5 = true ∧ gated.bitOf Reg.CLK.GATE_CTRL.GATE 5 = true ∧ gated.clk.ungate.testBit 5 = true := by decide

theorem witness_resets :
    let device : Word := 0x5EE90001#32
    let system : Word := 0x5EE90002#32
    Word.field device 16 16 = 0x5EE9 ∧ Word.bit device 0 = true ∧ ¬(Word.field 0x5EE80003#32 16 16 = 0x5EE9) ∧ (3 : Fin 8).val ≠ 4 ∧
    Word.field system 16 16 = 0x5EE9 ∧ Word.bit system 1 = true ∧ awake.bootArea ≠ 0 ∧ awake.bitOf Reg.CLK.RST_CTRL.ISL_RST 5 = false ∧
    (clocked [(Reg.CLK.RST_CTRL.ISL_RST, 0x20)]).bitOf Reg.CLK.RST_CTRL.ISL_RST 5 = true ∧ awake.sec.pinLow = false ∧
    islandOf 0x01000000 = some 0 ∧ (islandOf 0x00900000).isSome = true := by decide

theorem witness_power_states :
    let sleep : Word := 0x5EE90001#32
    let lit := clocked [(Reg.BOOT.BOOT_STAT.PHASE, 5), (Reg.TXD.LINE_STAT.STATE .A, 2), (Reg.TXD.CTRL.TX_EN .A, 1)]
    let due := clocked [] fun v => { v with sleepDue := true }
    let asleep := clocked [(Reg.CLK.WAKE_CFG.MASK, 0x8000), (Reg.CLK.WAKE_CFG.POL, 0x8000)] fun v => { v with asleep := true }
    let woken := clocked [(Reg.CLK.PWR_STAT.STATE, 1)]
    Word.field sleep 16 16 = 0x5EE9 ∧ Word.bit sleep 0 = true ∧ 5 ≤ lit.getF Reg.BOOT.BOOT_STAT.PHASE ∧ lit.txState .A = 2 ∧
    lit.flag (Reg.TXD.CTRL.MUTE .A) = false ∧ (lit.txd.get .A).pllLol = false ∧ awake.getF Reg.BOOT.BOOT_STAT.PHASE < 5 ∧
    due.clk.sleepDue = true ∧ due.txState .A = 0 ∧ due.txState .B = 0 ∧ asleep.clk.asleep = true ∧
    (asleep.bitOf Reg.CLK.WAKE_CFG.MASK 15 && (0x8000#16).getLsbD 15 == asleep.bitOf Reg.CLK.WAKE_CFG.POL 15) = true ∧
    (∀ g : Fin 16, (asleep.bitOf Reg.CLK.WAKE_CFG.MASK g.val && (0#16).getLsbD g.val == asleep.bitOf Reg.CLK.WAKE_CFG.POL g.val) = false) ∧
    woken.clk.asleep = false ∧ woken.clk.aonLow = false ∧ woken.clk.failWait = false ∧ woken.getF Reg.CLK.PWR_STAT.STATE = 1 ∧
    woken.flag Reg.CLK.CLK_STAT.ROSC_READY = false ∧ woken.flag Reg.CLK.CLK_STAT.MPLL_LOCK = false ∧ woken.bootArea ≠ 0 := by decide

/-- The monitor converting channel 31 with a configuration, and fields set. -/
def monitoring (cfg : Word) (l : List (Fld × Nat) := []) (f : MonSt → MonSt := id) : Chip :=
  let u := chip ((Reg.MON.MON_CTRL.EN, 1) :: l) awake
  { u with mon := f { u.mon with cur := some (31, cfg) } }

theorem witness_monitor :
    let cfg : Word := 0x80000000#32
    let set := [(Reg.MON.LIM_THR.HI 31, 100), (Reg.MON.LIM_THR.LO 31, 10), (Reg.MON.LIM_CFG.HYST 31, 5), (Reg.MON.FILT_CFG.PRESET 31, 0), (Reg.MON.FILT_CFG.L 31, 1),
      (Reg.MON.FILT_CFG.D 31, 1)]
    let s := monitoring cfg set
    let active := monitoring cfg ((⟨Reg.MON.LIM_ACTIVE.ACTIVE.addr, 31, 1⟩, 1) :: set)
    let counting := monitoring cfg ((Reg.MON.LIM_CFG.N 31, 2) :: set)
    let f := s.monFilter 31
    awake.flag Reg.MON.MON_CTRL.EN = false ∧ awake.monPass.dropWhile awake.monSkip ≠ [] ∧ ({} : Chip).islDown 5 = true ∧
    s.flag Reg.MON.MON_CTRL.EN = true ∧ s.islDown 5 = false ∧ s.mon.cur = some (31, cfg) ∧ monSamples cfg = 1 ∧ monDiff 31 cfg = false ∧
    Word.bit cfg 31 = true ∧ s.mon.queue.length < 256 ∧
    256 ≤ (monitoring cfg [] fun v => { v with queue := List.replicate 256 (1, false, false, 2) }).mon.queue.length ∧
    f.2 ≤ (s.monCh 31).fresh + 1 ∧ f.1 ≤ 1 ∧ s.getF (Reg.MON.LIM_THR.HI 31) < roundEven 4095 1 ∧
    s.bitOf Reg.MON.LIM_ACTIVE.ACTIVE 31 = false ∧ max 1 (s.getF (Reg.MON.LIM_CFG.N 31)) ≤ (s.monCh 31).viol + 1 ∧
    (counting.monCh 31).viol + 1 < max 1 (counting.getF (Reg.MON.LIM_CFG.N 31)) ∧ active.bitOf Reg.MON.LIM_ACTIVE.ACTIVE 31 = true ∧
    active.getF (Reg.MON.LIM_THR.LO 31) + 5 ≤ roundEven 95 1 ∧ roundEven 95 1 + active.getF (Reg.MON.LIM_CFG.HYST 31) ≤ active.getF (Reg.MON.LIM_THR.HI 31) ∧
    max 1 (active.getF (Reg.MON.LIM_CFG.N 31)) ≤ (active.monCh 31).inr + 1 ∧ (1199999999 : Int) < 1200000000 ∧
    (monitoring cfg [] fun v => { v with queue := [(3, true, false, 5)] }).mon.queue = (3, true, false, 5) :: [] := by decide +kernel

theorem witness_front_end_buses :
    let spi := { awake with mon := { awake.mon with spi := [(1, { xfer := some (32, 3, true) })], i2c := some (0, 32) } }
    let released := { awake with mon := { awake.mon with spi := [(1, { xfer := some (1, 0, false) })] } }
    awake.feAccess 4 = false ∧ awake.feAccess 3 = true ∧ awake.flag (Reg.MON.SPI_STAT.BUSY 1) = false ∧
    (chip [(Reg.MON.SPI_STAT.BUSY 1, 1)] awake).flag (Reg.MON.SPI_STAT.BUSY 1) = true ∧
    (spi.spiOf 1).xfer = some ((List.replicate 32 (7 : Fin 256)).length, 3, true) ∧ (released.spiOf 1).xfer = some (([7] : List (Fin 256)).length, 0, false) ∧
    awake.flag Reg.MON.I2C_STAT.BUSY = false ∧ spi.mon.i2c = some (0, (List.replicate 32 (7 : Fin 256)).length) := by decide

/-- Timer rotation of group 2 of carrier A, with its state changed. -/
def rotating (f : GrpSt → GrpSt) : Chip := grp 2 f (chip [(Reg.TST.BIST_CFG.ROT_EN, 1)] awake)

theorem witness_self_test :
    let busy := rotating fun v => { v with session := some 16, retesting := true }
    let idle := rotating fun v => { v with session := none, sweepDone := true }
    let fenced := rotating fun v => { v with fenced := 2 ^ 16 }
    idle.flag Reg.TST.BIST_CFG.ROT_EN = true ∧ idle.flag Reg.TST.BIST_CFG.PACE = false ∧ (busy.grpOf .A 2).session = some 16 ∧
    (idle.grpOf .A 2).reserve = some 16 ∧ (idle.grpOf .A 2).retestDue = none ∧ (idle.grpOf .A 2).sweepDone = true ∧ idle.stepHeld .A 2 = false ∧
    (chip [(Reg.TST.BIST_CFG.ROT_EN, 0)] awake).flag Reg.TST.BIST_CFG.ROT_EN = false ∧ (16383 : Fin 16385).val < 16384 ∧
    (5#64).toNat = ({ awake with fuse := { awake.fuse with sigExp := [5, 5, 5] } } : Chip).sigExp 2 ∧ (4#64).toNat ≠ 5 ∧
    (busy.grpOf .A 2).retesting = true ∧ (idle.grpOf .A 2).retesting = false ∧ awake.flag Reg.TST.PU_STAT.BUSY = false ∧
    (chip [(Reg.TST.PU_STAT.BUSY, 1)] awake).flag Reg.TST.PU_STAT.BUSY = true ∧ 16 < Grp.units 2 ∧ (idle.grpOf .A 2).fenced.testBit 16 = false ∧
    (fenced.grpOf .A 2).fenced.testBit 16 = true ∧ (fenced.grpOf .A 2).session = none ∧ fenced.islDown 0 = false ∧
    fenced.flag (Reg.TST.RETEST.BUSY 0 2) = false ∧ (chip [(Reg.TST.RETEST.BUSY 0 2, 1)] awake).flag (Reg.TST.RETEST.BUSY 0 2) = true := by decide

/-- One message of port 0 in the ring at 3 s, with payload code, carriers, configuration, verdict and instant 5 s. -/
def noticed (code cfg verdict : Nat) : Chip :=
  let u := chip [(Reg.WST.TT_PORT_CFG.EN 0, 1)] awake
  { u with wst := { u.wst with sec := 3, running := true, ring := [(0, ⟨7, false, 0, 1, 2, 3, [code, 1, cfg, verdict] ++ instantBytes (5 * secT16)⟩)] }
           tst := { u.tst with notice := some (1, 4, 5 * secT16) } }

/-- The message that the ring gives up, where it carries a code. -/
def taken (code : Nat) (s : Chip) : Option (Nat × TtMsg × Chip) :=
  s.ringTake fun m => m.type == 7 && m.payload.length == 16 && m.payload.head? == some code

theorem witness_step_down :
    let accepts := noticed 0x53 8 0
    let refuses := noticed 0x53 9 0
    let answer := noticed 0x54 4 0
    (taken 0x53 accepts).map (fun x => (x.2.2.noticeJudge x.1 x.2.1.payload).isSome) = some true ∧
    (taken 0x53 refuses).map (fun x => (x.2.2.noticeJudge x.1 x.2.1.payload).isSome) = some false ∧
    (taken 0x54 answer).map (fun x => (x.2.2.tst.notice, x.2.1.payload.take 4, instantOf (x.2.1.payload.drop 4))) =
      some (some (1, 4, 5 * secT16), [0x54, 1, 4, 0], 5 * secT16) ∧
    (taken 0x54 answer).map (fun x => x.2.2.freeSlot.isSome) = some true ∧ 5 * secT16 < 2 ^ 48 * secT16 ∧ answer.wstNow + 1000 * 65536 ≤ 5 * secT16 ∧
    answer.flag (Reg.WST.TT_PORT_CFG.EN 0) = true ∧ answer.tst.notice.isSome = true := by decide

theorem witness_calibration :
    let item := fun (sk : List Int) (near : Bool) => ({ item := 7, figs := [], skew := sk, near := near, peq := [], pd := [] } : CalItem)
    let slots := { awake with boot := { awake.boot with hdr := { awake.boot.hdr with calA := 0xE00000, calB := 0xFF0000 } } }
    calAccepted (item [10, -10, 0, 5] false) = false ∧ calAccepted (item [10, -10, 0, 5] true) = true ∧ slotPlace slots.boot.hdr.calA = true ∧
    slotPlace slots.boot.hdr.calB = true ∧ slots.boot.hdr.calA ≠ slots.boot.hdr.calB ∧ slotPlace 5 = false ∧
    (List.replicate 8 (3 : Fin 256)).length ≤ 65496 := by decide

/-! ## Ill-formed commands -/

theorem test_wf_register_address : Instr.wf (.registerWrite 4 false 0x01000002#32 0#32 15) = false ∧
    Instr.wf (.registerWrite 4 false 0x01000004#32 0#32 15) = true ∧ Instr.wf (.loRead 4 0x01000001#32) = false ∧
    Instr.wf (.jtagRegAccess 0x01000003#32 false 15 0#32) = false := by decide

theorem test_wf_frame : Instr.wf (.frameRx .A 0 { rxFrame 0 with t16 := 1000000000 * 65536 }) = false ∧
    Instr.wf (.frameRx .A 0 { rxFrame 0 with gcc0 := [256, 0] }) = false ∧ Instr.wf (.frameRx .A 0 { rxFrame 0 with parity := 256 }) = false ∧
    Instr.wf (.frameRx .A 0 (rxFrame 0)) = true := by decide

theorem test_wf_messages : Instr.wf (.tamustMsgRx 0 [256] false none) = false ∧ Instr.wf (.timeMsgRx 0 [0, 256]) = false ∧
    Instr.wf (.apsMsgRx 16384 0 0 0 0 0) = false ∧ Instr.wf (.apsMsgRx 0 256 0 0 0 0) = false ∧ Instr.wf (.apsMsgRx 0 0 0 0 0 256) = false := by decide

theorem test_wf_counts : Instr.wf (.ringTailWrite 0 1024) = false ∧ Instr.wf (.xspiDone false (List.replicate 257 0)) = false ∧
    Instr.wf (.mboxDone 0 0 (List.replicate 17 0)) = false ∧ Instr.wf (.mboxNotify 0 (List.replicate 17 0)) = false ∧
    Instr.wf (.extOpcode 0 0 (List.replicate 17 0) false) = false ∧ Instr.wf (.smpRpWrite 4096) = false ∧
    Instr.wf (.spiDone 0 (List.replicate 33 0)) = false ∧ Instr.wf (.i2cDone 0 0 (List.replicate 33 0)) = false := by decide +kernel

theorem test_wf_pool_upsets : Instr.wf (.poolRead 0 0 (2 ^ 64) 0) = false ∧ Instr.wf (.poolRead 0 0 0 (2 ^ 40)) = false ∧
    Instr.wf (.scrubWord (2 ^ 64) 0 false) = false := by decide

theorem test_wf_requests :
    Instr.wf (.busRequest 0 { addr := 0, write := false, beats := [], wide := false, user := false } 0) = false ∧
    Instr.wf (.busRequest 0 { addr := 2 ^ 32, write := false, beats := [(15, 0)], wide := false, user := false } 0) = false ∧
    Instr.wf (.busRequest 0 { addr := 0, write := false, beats := [(256, 0)], wide := false, user := false } 0) = false ∧
    Instr.wf (.hostRequest false true 0 (List.replicate 257 (true, 0))) = false ∧ Instr.wf (.hostRequest true true 0x400000 [(true, 0)]) = false ∧
    Instr.wf (.hostRequest false true 0 []) = false := by decide +kernel

theorem test_wf_link : Instr.wf (.linkUp 0 1) = false ∧ Instr.wf (.linkUp 6 1) = false ∧ Instr.wf (.linkUp 5 3) = false ∧ Instr.wf (.speedChange 1 5) = false ∧
    Instr.wf (.linkUp 5 4) = true := by decide

/-! ## Ciphers and checks, with the examples of the standards that the spec names -/

/-- The example of FIPS 197, appendix C.3. -/
theorem test_aes_256 : beNat (aesEncrypt (List.range 32) ((List.range 16).map fun i => 17 * i)) = 0x8ea2b7ca516745bfeafc49904b496089 := by decide +kernel

theorem test_aes_256_inverse : aesDecrypt (List.range 32) (beBytes 16 0x8ea2b7ca516745bfeafc49904b496089) = (List.range 16).map fun i => 17 * i := by
  decide +kernel

/-- Example 1 of RFC 4493, the empty message. -/
theorem test_cmac : beNat (cmac (beBytes 16 0x2b7e151628aed2a6abf7158809cf4f3c) []) = 0xbb1d6929e95937287fa37d129b756746 := by decide +kernel

/-- The example of FIPS 180 for "abc". -/
theorem test_sha256 : beNat (sha256 [0x61, 0x62, 0x63]) = 0xba7816bf8f01cfea414140de5dae2223b00361a396177a9cb410ff61f20015ad := by decide +kernel

/-- The check value of CRC-32C over the digits 1 to 9. -/
theorem test_crc32c : crc32c [0x31, 0x32, 0x33, 0x34, 0x35, 0x36, 0x37, 0x38, 0x39] = 0xE3069283 := by decide +kernel

/-! ## Commands, with results from the spec's own examples -/

/-- The example of the scope chapter: the part number of TOP.ID. -/
theorem test_part_number : (({} : Chip).rd Reg.TOP.ID.addr).toNat / 65536 = 0x3216 := by decide

/-- The example of chapter 20: window sums of 67,728 and 67,760 over 32 results, and the first output after the step. -/
theorem test_monitor_rounding : roundEven 67728 32 = 2116 ∧ roundEven 67760 32 = 2118 ∧ roundEven (20 * 3242 + 12 * 2116) 32 = 2820 := by decide

/-- The window before it: 19 results of 3,242 and 13 of 2,116, newest first. -/
def steady : List (Nat × Bool × Bool) := List.replicate 19 (3242, false, false) ++ List.replicate 13 (2116, false, false)

/-- The laser of that example before its 20th result of 3,242. -/
def laser : Chip :=
  let u := chip [(Reg.MON.MON_CTRL.EN, 1), (Reg.MON.FILT_CFG.PRESET 4, 2), (Reg.MON.LIM_THR.HI 4, 2730), (Reg.MON.LIM_THR.LO 4, 1365),
    (Reg.MON.LIM_CFG.ACTION 4, 1), (Reg.MON.LIM_CFG.HYST 4, 10), (Reg.MON.LIM_CFG.N 4, 3)] awake
  { u with mon := { u.mon with cur := some (4, 0x00040400#32), chans := [(4, { fresh := 31, win := steady })] } }

/-- Its 20th result, sixteen samples of 0.95 V: the output of step 2 and the first violation. -/
theorem test_monitor_output : let t := after (.monResult (List.replicate 16 950000000)) laser
    t.getF (Reg.MON.FILT_VAL.VALUE 4) = 2820 ∧ (t.monCh 4).viol = 1 ∧ t.bitOf Reg.MON.LIM_ACTIVE.ACTIVE 4 = false := by decide +kernel

/-- Pool 1 of the example of chapter 16: word 18,759 has a wrong bit. -/
def suspect : Chip :=
  { chip [(spareFld 1 3, 8), (Reg.POOL.POOL_CFG.LOG_CORR, 1)] awake with pool := { awake.pool with words := [(131072 + 18759, { data := 7, flips := 4, known := 255 })] } }

/-- A read of the word by core 2 is corrected, with an entry of type 1 that holds the word's address (R403, R410). -/
theorem test_pool_corrected : let t := after (.poolRead 2 149831 0 0) suspect
    lastResp t 2 = .data (bytes64 7) ∧ (t.rd (Ev.POOL.CORR.base + 0xF0)).getLsbD Ev.POOL.CORR.bit = true ∧
    t.getF Reg.POOL.MEV_HEAD_INFO.TYPE = 1 ∧ t.getF Reg.POOL.MEV_HEAD_INFO.MASTER = 2 ∧ t.getF Reg.POOL.MEV_HEAD_ADDR.ADDR = 0x80124A38 := by decide +kernel

/-- Steps 5 and 6: the repair of bank 3, row 73, and the spare rows that are left. -/
theorem test_pool_repair : let t := after .repairDone (after (.repairGo 1 3 73) (chip [(Reg.POOL.POOL_CFG.LOG_CORR, 0)] suspect))
    t.getF (spareFld 1 3) = 7 ∧ t.getF Reg.POOL.REPAIR_STAT.RESULT = 0 ∧ t.flag Reg.POOL.REPAIR_STAT.BUSY = false ∧
    131072 + 18759 ∈ rowWords 1 3 73 := by decide +kernel

/-- A write of the settings of chapter 18's example. -/
theorem test_sampler_settings : let t := after (.smpConfigWrite false 0x90040100#32) awake
    t.flag Reg.EVC.SMP_CFG.EN = true ∧ t.getF Reg.EVC.SMP_CFG.CLASS = 1 ∧ t.getF Reg.EVC.SMP_CFG.DITHER = 4 ∧ t.getF Reg.EVC.SMP_CFG.SRC = 1 := by decide

/-- The reserved part of a register discards what is written. -/
theorem test_register_write : let t := after (.registerWrite 0 false 0x00500204#32 0xFF123456#32 15) (chip [(Reg.EVC.SMP_PERIOD.N, 0xABCDEF)] awake)
    (t.rd 0x00500204).toNat = 0x123456 := by decide

/-- A stop that the spec leaves no effect to: a clock ratio outside its limits (R463). -/
theorem test_stop_by_ratio : (match exec (.registerWrite 0 false 0x00100020#32 0#32 15) (st awake) with
    | .next _ => false
    | .fault f => f == .clockRatioOutOfLimits
    | .refused _ => false) = true := by decide

/-- A step runs the command in front and keeps the rest of the queue. -/
theorem test_step_takes_front : (match step { st (tx 2 1) with pending := [.muteSet .A, .phaseOk] } with
    | .next t => t.pending == [.phaseOk] && t.chip.txState .A == 4
    | .fault _ => false
    | .refused _ => false) = true := by decide

/-- A write with a byte not enabled is discarded and sets BAD_ACCESS (R6). -/
theorem test_bad_access : let t := after (.registerWrite 0 false 0x00500204#32 0xFF123456#32 7) awake
    t.rd 0x00500204 = RegMap.reset 0x00500204 ∧ (t.rd (Ev.TOP.BAD_ACCESS.base + 0xF0)).getLsbD Ev.TOP.BAD_ACCESS.bit = true := by decide

/-! ### The line code: check values and examples of the spec -/

/-- The shifts that R123 gives to check a table by. -/
theorem test_ldpc_shifts : [ldpcShift 0 0, ldpcShift 1 1, ldpcShift 1 10, ldpcShift 2 20, ldpcShift 3 1, ldpcShift 3 35] = [0, 104, 242, 156, 322, 48] := by
  decide

/-- The product of the two minimal polynomials of R119. -/
theorem test_bch_generator : bchGenerator = 0b100000001100001110111 := by decide

/-- The example of R125: parity bit 13,825 in DP-16QAM is b1 of symbol 640. -/
theorem test_interleaver : sentAt 2 13825 = (1, 640) := by decide

/-- Labels of R40 and R41: −3 carries 10, and 101 is the outer point at 270°. -/
theorem test_labels : symbolLevels 2 [1, 0, 1, 1, 0, 1, 0, 0] = [.int (-3), .int (-1), .int 1, .int 3] ∧
    symbolLevels 1 [1, 0, 1, 0, 1, 0] = [.int 0, ⟨-1, -1⟩, .int (-1), .int 1] := by decide

/-- The order and the labels of R44: three sequences of one 3 among two 1s, counted from 0. -/
theorem test_matcher : (List.range 3).map (nthSequence 3 [2, 1, 0, 0]) = [[0, 0, 1], [0, 1, 0], [1, 0, 0]] ∧
    (List.range 3).map (fun m => sequenceIndex [2, 1, 0, 0] (nthSequence 3 [2, 1, 0, 0] m)) = [0, 1, 2] ∧
    [0, 1, 2, 3].map ampLabel = [[0, 0], [0, 1], [1, 1], [1, 0]] ∧ matcherBits 71 = 156 := by decide

/-- A training period of R46: symbols 256 and 320 are pilots, 257 the first data symbol, 262,399 the last. -/
theorem test_period : periodSymbol 255 = .training 255 ∧ periodSymbol 256 = .pilot 0 ∧ periodSymbol 257 = .data 0 ∧
    periodSymbol 320 = .pilot 1 ∧ periodSymbol 262399 = .data 258047 := by decide

/-- The training block repeats its first half, and its first nine bits are the seed's (R46, R48). -/
theorem test_training : (trainingBlock false).length = 256 ∧ lfsrBits 9 0x0F3 9 5 = [0, 1, 1, 1, 1, 0, 0, 1, 1] ∧
    (pilots true 2) = [(1, -1), (-1, -1)] := by decide +kernel

/-- R127: every period number's first boundary; whole codewords in five periods. -/
theorem test_codeword_boundaries : firstCodeword 0 0 = 0 ∧ firstCodeword 0 1 = 3072 ∧ (258048 + 3072) % 3840 = 0 ∧
    [0, 1, 2, 3].map (fun f => 5 * 258048 / cwSymbols f) = [336, 504, 672, 1008] := by decide

/-- The example of R174: frame 1,000 begins with slot 0 and frame 1,001 with slot 22; frame starts at 5, 7 and 9. -/
theorem test_tributary_slots : tribSlot 4 1000 0 = 0 ∧ tribSlot 4 1000 821 = 21 ∧ tribSlot 4 1001 0 = 22 ∧ nextPhase 5 13198 = 7 ∧ nextPhase 7 13198 = 9 := by
  decide

/-- A header as it is built is good to the receiver, and a LAW with eight wrong bits is good under the reset tolerance only. -/
theorem test_block_header : blockHeaderGood (blockHead 13198 5 9) = true ∧ lawBytes.length = 16 ∧
    lawGood 8 (lawBytes.set 3 (0xF6 ^^^ 0xFF)) = true ∧ lawGood 7 (lawBytes.set 3 (0xF6 ^^^ 0xFF)) = false := by decide +kernel

/-- AES-256-GCM on a block of zeros under a key of zeros: test case 14 of the paper that NIST SP 800-38D rests on. -/
theorem test_gcm : gcmCtr (List.replicate 32 0) (List.replicate 12 0) (List.replicate 16 0) = beBytes 16 0xCEA7403D4D606B6E074EC5D3BAF39D18 ∧
    gcmTag (List.replicate 32 0) (List.replicate 12 0) [] (beBytes 16 0xCEA7403D4D606B6E074EC5D3BAF39D18) =
      beBytes 16 0xD0D1C8A799996BF0265B98B5D48AB919 := by decide +kernel

/-- The IV of R341: epoch 42, SID 1, trail 3, FSN 258. -/
theorem test_iv : frameIv 42 1 3 258 = [0, 0, 0, 42, 0x43, 0, 0, 0, 0, 0, 1, 2] := by decide

/-- The pre-distorter at reset is the identity: 4 × 8 × x in units of 1/32 code; clipping at 127 codes (R57, R68). -/
theorem test_drive : awake.preDistort .A 2 (-37) 1 = 32 * (-37) ∧ awake.preDistort .B 0 128 1 = 32 * 128 ∧
    clip 32 (32 * 128) = (32 * 127, true) ∧ clip 32 (-32 * 127) = (-32 * 127, false) ∧ awake.dacScale .A = 32 := by decide

/-- Patterns of R234: PRBS7 from a register of ones; code 9 behaves as PRBS31; the Gray order of the symbols. -/
theorem test_patterns : prbsBits 0 0x7F 14 false = some [1, 1, 1, 1, 1, 1, 1, 0, 0, 0, 0, 0, 0, 1] ∧ prbsTaps 9 = some (31, 28) ∧
    grayPam4 [0, 0, 0, 1, 1, 1, 1, 0] = [0, 1, 2, 3] := by decide

end Sys2Proof.Tests
end

section
/-! SUPPORT. What every step keeps of the stores of the chip (R4): an invariant over the stores alone, one law per operation
that says it keeps the invariant, and from these the law for a step. A law's proof is the operation's own text with each
operation in it replaced by that operation's law: `.ite` stands for an `if`, `.foldl` for a fold, `.same` for an update of
fields that hold no store. -/

namespace Sys2Proof.Machine

/-- The invariants over the stores of a chip: the canonical form of the register stores, the canonical form of the memories,
and that what the fuses `f` say stays said (R358, R379). -/
inductive StoreInv where
  | registers
  | memories
  | fuses (f : Fuse)

/-- The stores of a chip: the fields that the invariants speak of. -/
structure Stores where
  regs : List (Nat × Word)
  actRegs : List (Nat × Word)
  live : List (Nat × Word)
  words : List (Nat × PoolWord)
  flash : List (Nat × Nat)
  fuse : Fuse

/-- The stores of the chip. -/
def Chip.stores (s : Chip) : Stores := ⟨s.regs, s.actRegs, s.live, s.pool.words, s.boot.flash, s.fuse⟩

/-- The invariant of the stores. -/
def StoreInv.Holds (k : StoreInv) (v : Stores) : Prop :=
  match k with
  | .registers => Store.wf RegMap.reset v.regs = true ∧ Store.wf RegMap.reset v.actRegs = true ∧ Store.wf Live.reset v.live = true
  | .memories => Store.wf (fun _ => ({} : PoolWord)) v.words = true ∧ Store.wf (fun _ => 0xFF) v.flash = true
  | .fuses f =>
    (f.otpKilled = true → v.fuse.otpKilled = true) ∧ (∀ k, f.otpKey = some k → v.fuse.otpKey = some k) ∧
    (f.authOnly = true → v.fuse.authOnly = true)

/-- The chip whose stores meet the invariant. -/
def Chip.Inv (s : Chip) (k : StoreInv) : Prop := k.Holds s.stores

/-! The steps of every law: updates of a store, and the forms a definition is built from. -/

section
set_option Elab.async false
variable {k : StoreInv} {s : Chip}

/-- An update of fields that hold no store. -/
theorem Chip.Inv.same {fi n t c x rc fe su fr pm de ws ti g pg lo le se ev ts po bo mg pc mo la re} (h : s.Inv k)
    (hp : po.words = s.pool.words := by rfl) (hb : bo.flash = s.boot.flash := by rfl) :
    Chip.Inv ⟨s.regs, s.actRegs, s.live, fi, n, s.fuse, t, c, x, rc, fe, su, fr, pm, de, ws, ti, g, pg, lo, le, se, ev, ts, po,
      bo, mg,
      pc, mo, la, re⟩ k := by
  unfold Chip.Inv Chip.stores at h ⊢
  rwa [← hp, ← hb] at h

theorem Chip.Inv.ite {c : Prop} {_ : Decidable c} {t : Chip} (h : s.Inv k) (h' : t.Inv k) : (if c then s else t).Inv k := by
  split <;> assumption

theorem Chip.Inv.iteOf {c : Prop} {_ : Decidable c} {t : Chip} (h : c → s.Inv k) (h' : ¬c → t.Inv k) :
    (if c then s else t).Inv k := by
  split
  exacts [h ‹_›, h' ‹_›]

theorem Chip.Inv.foldl {α : Type} {f : Chip → α → Chip} {l : List α} (h : s.Inv k) (hf : ∀ u x, u.Inv k → (f u x).Inv k) :
    (l.foldl f s).Inv k := by
  induction l generalizing s with
  | nil => exact h
  | cons x l ih => exact ih (hf s x h)

theorem Chip.Inv.wr (h : s.Inv k) {a w} : (s.wr a w).Inv k := by
  cases k with
  | registers => exact ⟨Store.wf_set _ _ _ _ h.1, h.2⟩
  | memories => exact h
  | fuses f => exact h

theorem Chip.Inv.setLive (h : s.Inv k) {e b} : (s.setLive e b).Inv k := by
  cases k with
  | registers => exact ⟨h.1, h.2.1, Store.wf_set _ _ _ _ h.2.2⟩
  | memories => exact h
  | fuses f => exact h

theorem Chip.Inv.setAct (h : s.Inv k) {a v} : Chip.Inv { s with actRegs := Store.set RegMap.reset s.actRegs a v } k := by
  cases k with
  | registers => exact ⟨h.1, Store.wf_set _ _ _ _ h.2.1, h.2.2⟩
  | memories => exact h
  | fuses f => exact h

theorem Chip.Inv.clear (h : s.Inv k) {p q r} :
    Chip.Inv { s with regs := Store.clear s.regs p, actRegs := Store.clear s.actRegs q, live := Store.clear s.live r } k := by
  cases k with
  | registers => exact ⟨Store.wf_clear _ _ _ h.1, Store.wf_clear _ _ _ h.2.1, Store.wf_clear _ _ _ h.2.2⟩
  | memories => exact h
  | fuses f => exact h

theorem Chip.Inv.clearWords {fi n t c x rc fe su fr pm de ws ti g pg lo le se ev ts po bo mg pc mo la re} (h : s.Inv k)
    (hp : po.words = [] := by rfl) (hb : bo.flash = s.boot.flash := by rfl) :
    Chip.Inv ⟨s.regs, s.actRegs, s.live, fi, n, s.fuse, t, c, x, rc, fe, su, fr, pm, de, ws, ti, g, pg, lo, le, se, ev, ts, po,
      bo, mg,
      pc, mo, la, re⟩ k := by
  unfold Chip.Inv Chip.stores at h ⊢
  rw [hp, hb]
  cases k with
  | registers => exact h
  | memories => exact ⟨rfl, h.2⟩
  | fuses f => exact h

theorem Chip.Inv.clearFlash (h : s.Inv k) {p} :
    (s.modBoot fun b => { b with flash := Store.clear s.boot.flash p }).Inv k := by
  cases k with
  | registers => exact h
  | memories => exact ⟨h.1, Store.wf_clear _ _ _ h.2⟩
  | fuses f => exact h

theorem Chip.Inv.setFuse (h : s.Inv k) {v : Fuse} (hk : s.fuse.otpKilled = true → v.otpKilled = true)
    (ho : ∀ x, s.fuse.otpKey = some x → v.otpKey = some x) (ha : s.fuse.authOnly = true → v.authOnly = true) :
    Chip.Inv { s with fuse := v } k := by
  cases k with
  | registers => exact h
  | memories => exact h
  | fuses f => exact ⟨fun e => hk (h.1 e), fun x e => ho x (h.2.1 x e), fun e => ha (h.2.2 e)⟩

theorem Chip.Inv.modBoot (h : s.Inv k) {f} (hf : ∀ b, (f b).flash = b.flash := by intro; rfl) : (s.modBoot f).Inv k :=
  h.same rfl (hf _)

theorem Chip.Inv.pair {α β : Type} {p : α × Chip} (h : p.2.Inv k) {x : β} : ((x, p.2) : β × Chip).2.Inv k := h

/-! One law per operation, in the order of the definitions. -/

theorem Chip.Inv.setF (h : s.Inv k) {f v} : (s.setF f v).Inv k := h.wr
theorem Chip.Inv.setFlag (h : s.Inv k) {f b} : (s.setFlag f b).Inv k := h.setF
theorem Chip.Inv.setS (h : s.Inv k) {f i} : (s.setS f i).Inv k := h.setF
theorem Chip.Inv.bump (h : s.Inv k) {f n} : (s.bump f n).Inv k := h.setF
theorem Chip.Inv.bumpSat (h : s.Inv k) {f n} : (s.bumpSat f n).Inv k := h.setF
theorem Chip.Inv.setSat (h : s.Inv k) {f v} : (s.setSat f v).Inv k := h.setF
theorem Chip.Inv.setBit (h : s.Inv k) {f b} : (s.setBit f b).Inv k := h.setF
theorem Chip.Inv.clrBit (h : s.Inv k) {f b} : (s.clrBit f b).Inv k := h.setF
theorem Chip.Inv.putBit (h : s.Inv k) {f b v} : (s.putBit f b v).Inv k := .ite h.setBit h.clrBit
theorem Chip.Inv.setPair (h : s.Inv k) {lo v} : (s.setPair lo v).Inv k := h.wr.wr
theorem Chip.Inv.addPair (h : s.Inv k) {lo n} : (s.addPair lo n).Inv k := h.setPair
theorem Chip.Inv.free (h : s.Inv k) : ((s.free).2).Inv k := h.same
theorem Chip.Inv.roundFree (h : s.Inv k) {num den} : ((s.roundFree num den).2).Inv k := by
  dsimp only [Chip.roundFree]
  split
  exacts [h, h.free]
theorem Chip.Inv.pulse (h : s.Inv k) {n} : (s.pulse n).Inv k := .ite h.same h
theorem Chip.Inv.raise (h : s.Inv k) {e} : (s.raise e).Inv k := .ite h.wr (.ite h h.pulse)
theorem Chip.Inv.assert (h : s.Inv k) {e} : (s.assert e).Inv k := h.setLive.raise
theorem Chip.Inv.raiseIf (h : s.Inv k) {b e} : (s.raiseIf b e).Inv k := .ite h.raise h
theorem Chip.Inv.raiseNM (h : s.Inv k) {e} : (s.raiseNM e).Inv k := .ite h.setLive.wr h.setLive.wr.same
theorem Chip.Inv.evcAdd (h : s.Inv k) {fuel i n} : (Chip.evcAdd fuel s i n).Inv k := by
  induction fuel generalizing s i n with
  | zero => exact h
  | succ fuel ih => exact .ite h.setF (.ite (ih h.setF.setBit.raise) h.setF.setBit.raise)
theorem Chip.Inv.evc (h : s.Inv k) {k' n} : (s.evc k' n).Inv k := .ite h h.evcAdd
theorem Chip.Inv.setGrp (h : s.Inv k) {c g v} : (s.setGrp c g v).Inv k := h.same
theorem Chip.Inv.noteReserve (h : s.Inv k) {c g had} : (s.noteReserve c g had).Inv k := .ite (.ite h.assert h.setLive) h.setLive
theorem Chip.Inv.setGrpSf (h : s.Inv k) {c g b} : (s.setGrpSf c g b).Inv k := by
  dsimp only [Chip.setGrpSf]
  split
  exacts [h.setGrp, .ite h.setGrp.assert h.setGrp.setLive]
theorem Chip.Inv.sfRecheck (h : s.Inv k) {c g} : (s.sfRecheck c g).Inv k := .ite h.setGrpSf h
theorem Chip.Inv.sessionResult (h : s.Inv k) {c g u result patterns misr} : (s.sessionResult c g u result patterns misr).Inv k :=
  h.setF.setF.setF.setF.setF.setPair
theorem Chip.Inv.sessionIncomplete (h : s.Inv k) {c g patterns misr} : (s.sessionIncomplete c g patterns misr).Inv k := by
  dsimp only [Chip.sessionIncomplete]
  split
  exacts [h, .ite h.setGrp.sessionResult.bump.raise.setF.setF h.setGrp.sessionResult.bump.raise.setGrp]
theorem Chip.Inv.abandonSession (h : s.Inv k) {c g} : (s.abandonSession c g).Inv k := .ite h h.free.free.sessionIncomplete
theorem Chip.Inv.takeOver (h : s.Inv k) {c g u} : (s.takeOver c g u).Inv k := by
  dsimp only [Chip.takeOver]
  split
  exacts [.noteReserve (.setGrp (.ite h.abandonSession h)), .setGrpSf (.noteReserve (.setGrp (.ite h.abandonSession h)))]
theorem Chip.Inv.fenceIdle (h : s.Inv k) {c g u} : (s.fenceIdle c g u).Inv k := h.setGrp.noteReserve
theorem Chip.Inv.stepNeed (h : s.Inv k) {c byStep} : (s.stepNeed c byStep).Inv k := .ite h.setF.setF.raise
    (.ite h.setF.setF.raise h.setF.setF)
theorem Chip.Inv.grpSettle (h : s.Inv k) {c byStep} : (s.grpSettle c byStep).Inv k := by
  unfold Chip.grpSettle
  extract_lets one
  have hone : ∀ t g, t.Inv k → (one t g).Inv k := fun t g ht =>
    .sfRecheck (.ite (.noteReserve (.setGrp (.ite ht.abandonSession ht))) ht)
  exact .stepNeed (hone _ _ (hone _ _ (hone _ _ h)))
theorem Chip.Inv.exchange (h : s.Inv k) {c g} : (s.exchange c g).Inv k := by
  dsimp only [Chip.exchange]
  split
  · exact .ite (by split; exacts [h.setGrp, h.setGrp]) h.setGrp
  · exact h.setGrp
  · exact .ite (by split; exacts [h.setGrp.setGrp.noteReserve, h.setGrp]) h.setGrp
theorem Chip.Inv.setPm (h : s.Inv k) {c t v} : (s.setPm c t v).Inv k := h.same
theorem Chip.Inv.raisePm (h : s.Inv k) {c t e} : (s.raisePm c t e).Inv k := h.raise.setBit
theorem Chip.Inv.pmAdd (h : s.Inv k) {c t sec n e} : (s.pmAdd c t sec n e).Inv k := by
  dsimp only [Chip.pmAdd]
  split
  exacts [h, .ite h (.ite (.ite h (.ite h.setPm h.setPm.bump.raisePm)) h.setPm)]
theorem Chip.Inv.pmAddFe (h : s.Inv k) {c t sec errored} : (s.pmAddFe c t sec errored).Inv k := by
  dsimp only [Chip.pmAddFe]
  split
  exacts [h, .ite h h.setPm]
theorem Chip.Inv.pmRange (h : s.Inv k) {c t n sec t16 m} : (s.pmRange c t n sec t16 m).Inv k := h.foldl (fun _ _ hu => hu.pmAdd)
theorem Chip.Inv.pmConditions (h : s.Inv k) {c t neDef feDef frozen} : (s.pmConditions c t neDef feDef frozen).Inv k := h.setPm
theorem Chip.Inv.pmCloseRec (h : s.Inv k) {c t sec boundary step} : (s.pmCloseRec c t sec boundary step).Inv k := h.setPm.setF
theorem Chip.Inv.pmStep (h : s.Inv k) {c t oldSec newSec} : (s.pmStep c t oldSec newSec).Inv k := by
  dsimp only [Chip.pmStep]
  split
  exacts [h, .ite h.raisePm.setPm h.raisePm.pmCloseRec]
theorem Chip.Inv.pmRipple (h : s.Inv k) {c t instSec whole} : (s.pmRipple c t instSec whole).Inv k := .ite (.ite h h.setPm) h
theorem Chip.Inv.setFrm (h : s.Inv k) {c t v} : (s.setFrm c t v).Inv k := h.same
theorem Chip.Inv.modFrm (h : s.Inv k) {c t f} : (s.modFrm c t f).Inv k := h.setFrm
theorem Chip.Inv.raiseFrm (h : s.Inv k) {c t e} : (s.raiseFrm c t e).Inv k := h.raise.setBit
theorem Chip.Inv.trailSettle (h : s.Inv k) {c t} : (s.trailSettle c t).Inv k := by
  unfold Chip.trailSettle
  extract_lets raw stat old s1 rise fall s2 f f1 f2 s3 s4
  have h1 : s1.Inv k := h.setF.setF
  have h2 : s2.Inv k := .ite h1 h1.setF.raiseFrm
  have h3 : s3.Inv k := .ite h2 h2.setF.raiseFrm
  have h4 : s4.Inv k := .ite h3 h3.modFrm
  exact h4.pmConditions
theorem Chip.Inv.setByte (h : s.Inv k) {base i v} : (s.setByte base i v).Inv k := h.wr
theorem Chip.Inv.rxTti (h : s.Inv k) {c t fsn b} : (s.rxTti c t fsn b).Inv k :=
  .ite h.setFrm (.ite h.setFrm (.ite (.ite (h.setFrm.foldl (fun _ _ hu => hu.setByte))
    (.raiseFrm (h.setFrm.foldl (fun _ _ hu => hu.setByte)))) h.setFrm))
theorem Chip.Inv.rxPsi (h : s.Inv k) {c t mf i b} : (s.rxPsi c t mf i b).Inv k :=
  .ite h (.ite h.setFrm (.ite (.ite h.setFrm.setF.setFlag h.setFrm.setF.setFlag.raiseFrm) h.setFrm.setByte))
theorem Chip.Inv.rxAps (h : s.Inv k) {c t fsn w} : (s.rxAps c t fsn w).Inv k := .ite h.setFrm.wr.raiseFrm h.setFrm
theorem Chip.Inv.judgeFrame (h : s.Inv k) {c t r} : (s.judgeFrame c t r).Inv k := h.pmAdd
theorem Chip.Inv.judgeUpTo (h : s.Inv k) {c t fsn} : (s.judgeUpTo c t fsn).Inv k := h.setFrm.foldl (fun _ _ hu => hu.judgeFrame)
theorem Chip.Inv.judgeAll (h : s.Inv k) {c t} : (s.judgeAll c t).Inv k := h.setFrm.foldl (fun _ _ hu => hu.judgeFrame)
theorem Chip.Inv.rxBip (h : s.Inv k) {c t fsn bip} : (s.rxBip c t fsn bip).Inv k := by
  dsimp only [Chip.rxBip]
  split
  exacts [h, .evc (.ite h.setFrm.addPair h.setFrm.addPair.addPair)]
theorem Chip.Inv.dropDelivery (h : s.Inv k) {c t} : (s.dropDelivery c t).Inv k := h.setFlag.setFlag.modFrm
theorem Chip.Inv.setAlign (h : s.Inv k) {c t st} : (s.setAlign c t st).Inv k :=
  .ite h.modFrm.setFlag.setFlag.setF.dropDelivery.raiseFrm
    (.ite h.modFrm.setFlag.setFlag.setF.setFlag.raiseFrm h.modFrm.setFlag.setFlag.setF)
theorem Chip.Inv.alignRestart (h : s.Inv k) {c t} : (s.alignRestart c t).Inv k := h.modFrm.setAlign.setFlag
theorem Chip.Inv.setSubc (h : s.Inv k) {c v} : (s.setSubc c v).Inv k := h.same
theorem Chip.Inv.setInlet (h : s.Inv k) {c st} : (s.setInlet c st).Inv k := h.setF.setSubc
theorem Chip.Inv.drawDelay (h : s.Inv k) {c n} : (s.drawDelay c n).Inv k := h.free.setSubc
theorem Chip.Inv.inletSettle (h : s.Inv k) {c} : (s.inletSettle c).Inv k :=
  .ite h (.ite h.setInlet (.ite (.ite h.setInlet.drawDelay h) (.ite h.setInlet (.ite h.setSubc h))))
theorem Chip.Inv.setDem (h : s.Inv k) {k' v} : (s.setDem k' v).Inv k := h.same
theorem Chip.Inv.setNoSync (h : s.Inv k) {k' b} : (s.setNoSync k' b).Inv k := .ite h h.setFlag.raise
theorem Chip.Inv.xcTakeEffect (h : s.Inv k) {k'} : (s.xcTakeEffect k').Inv k := h.setDem.setFlag.setF
theorem Chip.Inv.demapWord (h : s.Inv k) {k' w} : (s.demapWord k' w).Inv k := by
  dsimp only [Chip.demapWord]
  split
  exacts [.ite h.setDem.bump h.setDem, .setNoSync (.ite h.setDem.bump h.setDem)]
theorem Chip.Inv.demapFrame (h : s.Inv k) {a t f} : (s.demapFrame a t f).Inv k := by
  refine h.foldl fun u _ hu => .ite hu (.ite (.ite hu.xcTakeEffect hu) ?_)
  split
  exacts [.demapWord (.ite hu.xcTakeEffect hu), .ite hu.xcTakeEffect hu]
theorem Chip.Inv.xcCommitted (h : s.Inv k) {old} : (s.xcCommitted old).Inv k := h.foldl
    (fun _ _ hu => .ite hu hu.setDem.setNoSync)
theorem Chip.Inv.xcStepDown (h : s.Inv k) {c} : (s.xcStepDown c).Inv k :=
  .ite h (.raise (h.foldl fun _ _ hu => hu.setAct.setDem.setFlag.setF))
theorem Chip.Inv.raisePort (h : s.Inv k) {p e} : (s.raisePort p e).Inv k := h.raise.setBit
theorem Chip.Inv.portCommitted (h : s.Inv k) : s.portCommitted.Inv k := h.foldl (fun _ _ hu => hu.setFlag.setF.setF)
theorem Chip.Inv.setPg (h : s.Inv k) {g v} : (s.setPg g v).Inv k := h.same
theorem Chip.Inv.modPg (h : s.Inv k) {g f} : (s.modPg g f).Inv k := h.setPg
theorem Chip.Inv.raisePg (h : s.Inv k) {g e} : (s.raisePg g e).Inv k := h.raise.setBit
theorem Chip.Inv.setCond (h : s.Inv k) {g new} : (s.setCond g new).Inv k := by
  unfold Chip.setCond
  extract_lets old d s1 s2 s3
  have h2 : s2.Inv k := .ite h.setF.raisePg h.setF
  have h3 : s3.Inv k := .ite h2.raisePg h2
  exact .ite h (.ite h3.modPg.raisePg h3)
theorem Chip.Inv.pgConditions (h : s.Inv k) {g} : (s.pgConditions g).Inv k := h.setPg.setCond
theorem Chip.Inv.pgRequests (h : s.Inv k) {g} : (s.pgRequests g).Inv k := h.setPg.setF
theorem Chip.Inv.fopClear (h : s.Inv k) {g} : (s.fopClear g).Inv k := .ite (.raisePg (.setFlag (.ite h.setFlag.raisePg h)))
    (.ite h.setFlag.raisePg h)
theorem Chip.Inv.pgAlign (h : s.Inv k) {g} : (s.pgAlign g).Inv k := .ite h.setFlag.setPg h
theorem Chip.Inv.pgSettle (h : s.Inv k) {g} : (s.pgSettle g).Inv k := h.pgAlign.pgConditions.pgRequests.fopClear
theorem Chip.Inv.pgRestart (h : s.Inv k) {g en} : (s.pgRestart g en).Inv k := h.setPg.wr
theorem Chip.Inv.pgCommitted (h : s.Inv k) {old} : (s.pgCommitted old).Inv k := .setF
    (.setF (h.foldl (fun _ _ hu => .ite hu hu.pgRestart)))
theorem Chip.Inv.lostShow (h : s.Inv k) : s.lostShow.Inv k := by
  dsimp only [Chip.lostShow]
  split
  exacts [h.setF.setF.setF.setF.setF.setF.setF, h.setF.foldl (fun _ _ hu => hu.free.setF)]
theorem Chip.Inv.pgRange (h : s.Inv k) {g first m cause} : (s.pgRange g first m cause).Inv k := by
  unfold Chip.pgRange
  extract_lets last s1 s2 s3 s4 r
  have h3 : s3.Inv k := h.addPair.bump.setF.setF.foldl fun _ _ hu => .ite hu.bump.raise hu
  have h4 : s4.Inv k := h3.raisePg
  exact .ite h4.bumpSat.raisePg (.lostShow h4.same)
theorem Chip.Inv.modClk (h : s.Inv k) {f} : (s.modClk f).Inv k := h.same
theorem Chip.Inv.startSession (h : s.Inv k) {c g u retest} : (s.startSession c g u retest).Inv k := h.setGrp.setF.setF
theorem Chip.Inv.sweepGroup (h : s.Inv k) {c g} : (s.sweepGroup c g).Inv k :=
  .ite h (.ite h.setGrp (.ite h (by split; exacts [.ite h h.bump.setGrp, .ite h.bump.setGrp (.ite h h.startSession)])))
theorem Chip.Inv.bistGroup (h : s.Inv k) {c g} : (s.bistGroup c g).Inv k := by
  unfold Chip.bistGroup
  extract_lets v s1 s2 w
  have h1 : s1.Inv k := by
    unfold s1
    split
    exacts [.ite h h.startSession, h]
  have h2 : s2.Inv k := h1.sweepGroup.sweepGroup
  split
  exacts [.ite h2.startSession h2, h2]
theorem Chip.Inv.bistSettle (h : s.Inv k) : s.bistSettle.Inv k :=
  .ite (.raise (.setFlag (.setFlag (h.foldl (fun _ _ hu => hu.bistGroup))))) (h.foldl (fun _ _ hu => hu.bistGroup))
theorem Chip.Inv.bistStep (h : s.Inv k) {c g} : (s.bistStep c g).Inv k := .ite h.bump h.setGrp.bistSettle
theorem Chip.Inv.setInstant (h : s.Inv k) {k' t} : (s.setInstant k' t).Inv k := h.setF.setF.setF.setF
theorem Chip.Inv.stepTo (h : s.Inv k) {t} : (s.stepTo t).Inv k := .ite h.same.raise
    (h.same.raise.foldl (fun _ _ hu => hu.pmStep.pmStep))
theorem Chip.Inv.stepBy (h : s.Inv k) {d} : (s.stepBy d).Inv k := h.stepTo
theorem Chip.Inv.wstTick (h : s.Inv k) : s.wstTick.Inv k := .ite h h.same
theorem Chip.Inv.setTimeState (h : s.Inv k) {st} : (s.setTimeState st).Inv k := .ite h h.setF.raise.same
theorem Chip.Inv.gmShow (h : s.Inv k) : s.gmShow.Inv k := h.setF.setF
theorem Chip.Inv.timeSettle (h : s.Inv k) : s.timeSettle.Inv k := .gmShow
    (.ite h.setTimeState (.ite h.setTimeState (.ite h.setTimeState h)))
theorem Chip.Inv.toT16 (h : s.Inv k) {num den} : ((s.toT16 num den).2).Inv k := h.roundFree
theorem Chip.Inv.latchPs (h : s.Inv k) {f num den} : (s.latchPs f num den).Inv k := .ite h.roundFree.setS h.roundFree.free.setF
theorem Chip.Inv.correct (h : s.Inv k) {num den} : (s.correct num den).Inv k :=
  .ite (.ite h.latchPs.toT16.stepBy.same (.ite h.latchPs.toT16.same.same.setTimeState.gmShow h.latchPs.toT16.same.same))
    (.ite (.ite (.ite h.latchPs.same.raise.setTimeState.gmShow h.latchPs.same.raise) h.latchPs.toT16.same.same) h.latchPs)
theorem Chip.Inv.setPort (h : s.Inv k) {p v} : (s.setPort p v).Inv k := h.same
theorem Chip.Inv.newMsg (h : s.Inv k) {type bcast dst payload} : ((s.newMsg type bcast dst payload).2).Inv k := h.same
theorem Chip.Inv.sendOn (h : s.Inv k) {p cls m} : (s.sendOn p cls m).Inv k := .ite h.setPort h
theorem Chip.Inv.timePayload (h : s.Inv k) {p} : ((s.timePayload p).2).Inv k := by
  dsimp only [Chip.timePayload]
  split
  exacts [.roundFree (by split; exacts [h.roundFree, h.free.free]), .free (.free (by split; exacts [h.roundFree, h.free.free]))]
theorem Chip.Inv.fillTime (h : s.Inv k) {p} : (s.fillTime p).Inv k := by
  dsimp only [Chip.fillTime]
  split
  exacts [h.timePayload.setPort, h]
theorem Chip.Inv.tamustByte (h : s.Inv k) {p} : ((s.tamustByte p).2).Inv k := .ite h.fillTime.setPort.evc h.fillTime.setPort
theorem Chip.Inv.tamustBytes (h : s.Inv k) {p} : ((s.tamustBytes p).2).Inv k := h.tamustByte.tamustByte
theorem Chip.Inv.flRecompute (h : s.Inv k) {c} : (s.flRecompute c).Inv k :=
  h.foldl (fun _ _ hu => .same (.ite (.ite hu hu.setF.setFlag) (.setFlag (.setF (.ite hu hu.setF.setFlag)))))
theorem Chip.Inv.subcSettle (h : s.Inv k) {c} : (s.subcSettle c).Inv k := .ite h h.setF.raise
theorem Chip.Inv.stepShadow (h : s.Inv k) {c code up} : (s.stepShadow c code up).Inv k := .ite h.setF (.ite h.clrBit h.clrBit)
theorem Chip.Inv.stepNotice (h : s.Inv k) {c} : (s.stepNotice c).Inv k := by
  unfold Chip.stepNotice
  dsimp only
  refine .ite h.same (.ite h (.ite h ?_))
  split
  · exact .sendOn (.newMsg (.same (.ite h.stepShadow.stepShadow h.stepShadow)))
  · exact .same (.ite h.stepShadow.stepShadow h.stepShadow)
theorem Chip.Inv.settle (h : s.Inv k) : s.settle.Inv k :=
  .stepNotice (.stepNotice (.bistSettle (h.subcSettle.subcSettle.foldl (fun _ _ hu => hu.pgSettle))))
theorem Chip.Inv.setRcv (h : s.Inv k) {r v} : (s.setRcv r v).Inv k := h.same
theorem Chip.Inv.modRcv (h : s.Inv k) {r f} : (s.modRcv r f).Inv k := h.setRcv
theorem Chip.Inv.raiseCar (h : s.Inv k) {r e} : (s.raiseCar r e).Inv k := by
  dsimp only [Chip.raiseCar]
  split
  exacts [h.raise, h]
theorem Chip.Inv.raiseRcv (h : s.Inv k) {r car sub} : (s.raiseRcv r car sub).Inv k := by
  dsimp only [Chip.raiseRcv]
  split
  exacts [h.raise, h.raise]
theorem Chip.Inv.emptyWindow (h : s.Inv k) {r} : (s.emptyWindow r).Inv k := by
  dsimp only [Chip.emptyWindow]
  split
  exacts [h.modRcv.setLive, h.modRcv]
theorem Chip.Inv.setCwLock (h : s.Inv k) {r b} : (s.setCwLock r b).Inv k := .ite h h.setRcv.raiseCar
theorem Chip.Inv.dropCwLock (h : s.Inv k) {r} : (s.dropCwLock r).Inv k := .ite h.setCwLock.emptyWindow h
theorem Chip.Inv.setLock (h : s.Inv k) {r f b} : (s.setLock r f b).Inv k := .ite h h.setRcv.raiseCar
theorem Chip.Inv.beginAcq (h : s.Inv k) {r clock} : (s.beginAcq r clock).Inv k := by
  dsimp only [Chip.beginAcq]
  split
  exacts [h.modRcv.setF, h.modRcv]
theorem Chip.Inv.enterDetect (h : s.Inv k) {r warm} : (s.enterDetect r warm).Inv k := h.modRcv.dropCwLock
theorem Chip.Inv.coldRestart (h : s.Inv k) {r} : (s.coldRestart r).Inv k := h.modRcv.dropCwLock
theorem Chip.Inv.leaveAcquired (h : s.Inv k) {r} : (s.leaveAcquired r).Inv k :=
  .raiseRcv (.dropCwLock (.beginAcq (by split; exacts [h.setRcv.modRcv, h.setRcv])))
theorem Chip.Inv.enterIdle (h : s.Inv k) {r} : (s.enterIdle r).Inv k := .ite h.setRcv.dropCwLock.raiseRcv h.setRcv.dropCwLock
theorem Chip.Inv.declareLos (h : s.Inv k) {r} : (s.declareLos r).Inv k := by
  unfold Chip.declareLos
  extract_lets v s1 s2
  have h2 : s2.Inv k := by
    unfold s2
    split
    exacts [h.setRcv.assert, h.setRcv]
  exact .ite h2.enterDetect.raiseRcv (.ite h2.enterDetect h2)
theorem Chip.Inv.endLos (h : s.Inv k) {r} : (s.endLos r).Inv k := by
  dsimp only [Chip.endLos]
  split
  exacts [h.modRcv.setLive, h.modRcv]
theorem Chip.Inv.signalDetected (h : s.Inv k) {r} : (s.signalDetected r).Inv k := by
  dsimp only [Chip.signalDetected]
  split
  exacts [h.beginAcq.modRcv, by split; exacts [h.beginAcq.modRcv, h.beginAcq.modRcv]]
theorem Chip.Inv.leafPreload (h : s.Inv k) {r} : (s.leafPreload r).Inv k := by
  dsimp only [Chip.leafPreload]
  split
  exacts [h, .ite h (h.foldl (fun _ _ hu => .ite hu hu.setRcv.dropCwLock))]
theorem Chip.Inv.acqInFrame (h : s.Inv k) {r} : (s.acqInFrame r).Inv k := by
  unfold Chip.acqInFrame
  extract_lets v _ s1
  have h1 : s1.Inv k := h.setRcv.raiseRcv
  refine .ite h ?_
  split
  · exact .ite h1.roundFree.setSat.bump h1.roundFree.setSat.bump
  · exact .leafPreload (.ite h1.modRcv.raise h1)
theorem Chip.Inv.acqFrameLoss (h : s.Inv k) {r} : (s.acqFrameLoss r).Inv k := .ite h.leaveAcquired h
theorem Chip.Inv.acqReconf (h : s.Inv k) {r} : (s.acqReconf r).Inv k := .ite h h.modRcv.enterDetect
theorem Chip.Inv.startWaitingScans (h : s.Inv k) {c} : (s.startWaitingScans c).Inv k := h.foldl (fun _ _ hu => .ite hu.setRcv hu)
theorem Chip.Inv.rcvEnd (h : s.Inv k) {r} : (s.rcvEnd r).Inv k := by
  dsimp only [Chip.rcvEnd]
  split
  exacts [h.trailSettle.settle, h.startWaitingScans.inletSettle.trailSettle.settle]
theorem Chip.Inv.startScan (h : s.Inv k) {r} : (s.startScan r).Inv k := by
  dsimp only [Chip.startScan]
  split
  exacts [h.modRcv.setF.setF, h.modRcv.startWaitingScans]
theorem Chip.Inv.doSignalWindow (h : s.Inv k) {r sum} : (doSignalWindow r sum s).Inv k :=
  .rcvEnd (.ite (.ite h.setRcv.endLos.signalDetected h.setRcv.endLos) (.ite (.ite h.setRcv.declareLos h.setRcv) h))
theorem Chip.Inv.doAcqEnSet (h : s.Inv k) {c} : (doAcqEnSet c s).Inv k := h.setFlag.foldl
    (fun _ _ hu => .ite hu.enterDetect.rcvEnd hu)
theorem Chip.Inv.doAcqEnClear (h : s.Inv k) {c} : (doAcqEnClear c s).Inv k := h.setFlag.foldl (fun _ _ hu => hu.enterIdle.rcvEnd)
theorem Chip.Inv.restart (h : s.Inv k) {r cold} : (s.restart r cold).Inv k :=
  .ite h (.ite (.raiseRcv (.enterDetect (.ite h.modRcv h))) (.enterDetect (.ite h.modRcv h)))
theorem Chip.Inv.doRestartCold (h : s.Inv k) {c} : (doRestartCold c s).Inv k := h.foldl (fun _ _ hu => hu.restart.rcvEnd)
theorem Chip.Inv.doRestartWarm (h : s.Inv k) {c} : (doRestartWarm c s).Inv k := h.foldl (fun _ _ hu => hu.restart.rcvEnd)
theorem Chip.Inv.offRange (h : s.Inv k) {r} : (s.offRange r).Inv k := h.raiseRcv.setLock
theorem Chip.Inv.doCoarseFreqDone (h : s.Inv k) {r mhz} : (Machine.doCoarseFreqDone r mhz s).Inv k := by
  unfold Machine.doCoarseFreqDone
  extract_lets c s1 limit s3 s2
  have h1 : s1.Inv k := by
    unfold s1
    split
    exacts [h.setS, h]
  have h2 : s2.Inv k := .ite h1.offRange.coldRestart (.ite h1.modRcv.modRcv h1.modRcv.startScan)
  exact .ite h h2.rcvEnd
theorem Chip.Inv.doScanBatch (h : s.Inv k) {r metrics} : (Machine.doScanBatch r metrics s).Inv k := by
  unfold Machine.doScanBatch
  extract_lets v c set n sc best res s2 _ s1
  have h2 : s2.Inv k := by
    unfold s2
    split
    exacts [h.setS, h]
  have h1 : s1.Inv k := .ite h.setRcv (.ite h.setRcv (.ite h2.setRcv h2.raiseCar.coldRestart))
  exact .ite h h1.rcvEnd
theorem Chip.Inv.doTrainPeriod (h : s.Inv k) {r peak strongest} : (doTrainPeriod r peak strongest s).Inv k :=
  .ite h (.rcvEnd (.ite h.setRcv (.ite (.ite h.setRcv h.setRcv) (by split; exacts [h.setRcv.bumpSat.raise, h.setRcv]))))
theorem Chip.Inv.doPolTimingLock (h : s.Inv k) {r} : (doPolTimingLock r s).Inv k := .rcvEnd
    (.ite h.setLock.setLock.modRcv h.setLock.setLock)
theorem Chip.Inv.doPilotLockDone (h : s.Inv k) {r} : (doPilotLockDone r s).Inv k :=
  .ite h.setLock.setLock.modRcv.alignRestart.rcvEnd h.setLock.setLock.rcvEnd
theorem Chip.Inv.doStageBoundExpired (h : s.Inv k) {r} : (doStageBoundExpired r s).Inv k := .ite h
    (.rcvEnd (.coldRestart (.ite h.modRcv.raiseCar h)))
theorem Chip.Inv.doLolTimeExpired (h : s.Inv k) {r} : (doLolTimeExpired r s).Inv k := .ite h.leaveAcquired.rcvEnd h
theorem Chip.Inv.doWarmCapture (h : s.Inv k) {r taps fofs sofs} : (doWarmCapture r taps fofs sofs s).Inv k := .ite h.setRcv h
theorem Chip.Inv.doWarmHoldExpired (h : s.Inv k) {r} : (doWarmHoldExpired r s).Inv k := .ite h h.modRcv
theorem Chip.Inv.doAcqFail (h : s.Inv k) {r} : (doAcqFail r s).Inv k := .ite h.setRcv.raiseCar h
theorem Chip.Inv.setFlash (h : s.Inv k) {a b} : (s.setFlash a b).Inv k := by
  cases k with
  | registers => exact h
  | memories => exact ⟨h.1, Store.wf_set _ _ _ _ h.2⟩
  | fuses f => exact h
theorem Chip.Inv.setFlashBytes (h : s.Inv k) {a l} : (s.setFlashBytes a l).Inv k := h.foldl (fun _ _ hu => hu.setFlash)
theorem Chip.Inv.calLoad (h : s.Inv k) : s.calLoad.Inv k := by
  unfold Chip.calLoad
  exact h.setFlag.setFlag.setF.setF.setFlag.same
theorem Chip.Inv.setPoolWord (h : s.Inv k) {w v} : (s.setPoolWord w v).Inv k := by
  cases k with
  | registers => exact h
  | memories => exact ⟨Store.wf_set _ _ _ _ h.1, h.2⟩
  | fuses f => exact h
theorem Chip.Inv.mevShow (h : s.Inv k) : s.mevShow.Inv k := by
  dsimp only [Chip.mevShow]
  split
  exacts [h.setF.setF.setF.setF.setF, h.setF.foldl (fun _ _ hu => hu.free.setF)]
theorem Chip.Inv.mevPush (h : s.Inv k) {type w master} : (s.mevPush type w master).Inv k := .ite h.bumpSat.raise
    (.mevShow (.same (.ite h.free h)))
theorem Chip.Inv.corrected (h : s.Inv k) {w master} : (s.corrected w master).Inv k :=
  .same (.ite (.mevPush (.raise (.ite h.bump.raise.evc.mevPush h.bump.raise.evc)))
    (.ite h.bump.raise.evc.mevPush h.bump.raise.evc))
theorem Chip.Inv.wordFind (h : s.Inv k) {w} : ((s.wordFind w).2.2).Inv k := by
  dsimp only [Chip.wordFind]
  split
  exacts [h.free.free, h]
theorem Chip.Inv.upset (h : s.Inv k) {w data chk} : (s.upset w data chk).Inv k := .ite h h.setPoolWord
theorem Chip.Inv.readWord64 (h : s.Inv k) {w m} : ((s.readWord64 w m).2).Inv k := by
  dsimp only [Chip.readWord64]
  split
  exacts [h.wordFind, h.wordFind.setPoolWord.corrected, h.wordFind.raise.mevPush, h.wordFind.setPoolWord.bump.raise.mevPush]
theorem Chip.Inv.writeWord64 (h : s.Inv k) {w be data} : (s.writeWord64 w be data).Inv k := .ite h.setPoolWord.setFlag
    h.setPoolWord
theorem Chip.Inv.busError (h : s.Inv k) {m target cause addr} : (s.busError m target cause addr).Inv k :=
  .same (.ite (.raise (.bump (.ite h.evc h))) (.setF (.setF (.setF (.setF (.setFlag (.raise (.bump (.ite h.evc h)))))))))
theorem Chip.Inv.respond (h : s.Inv k) {m r} : (s.respond m r).Inv k := h.same
theorem Chip.Inv.captureWrite (h : s.Inv k) {off byte} : (s.captureWrite off byte).Inv k := .ite h.writeWord64 h
theorem Chip.Inv.captureRead (h : s.Inv k) {off} : ((s.captureRead off).2).Inv k := by
  dsimp only [Chip.captureRead]
  split
  exacts [h.readWord64, h.readWord64.free]
theorem Chip.Inv.modTxd (h : s.Inv k) {c f} : (s.modTxd c f).Inv k := h.same
theorem Chip.Inv.startRamp (h : s.Inv k) {c st from_} : (s.startRamp c st from_).Inv k := h.setF.modTxd
theorem Chip.Inv.enterMuted (h : s.Inv k) {c} : (s.enterMuted c).Inv k := h.setF.raise
theorem Chip.Inv.restartGenerator (h : s.Inv k) {c phase} : (s.restartGenerator c phase).Inv k := h.modTxd
theorem Chip.Inv.join (h : s.Inv k) {c} : (s.join c).Inv k :=
  .ite (.restartGenerator (h.modTxd.foldl (fun _ _ hu => hu.modFrm))) h.modTxd.restartGenerator
theorem Chip.Inv.showLine (h : s.Inv k) {c} : (s.showLine c).Inv k :=
    h.setF.setF.setF.setF.setFlag.setF.setFlag.setF.setF.wr.setF.setF.setF.setF
theorem Chip.Inv.showMasks (h : s.Inv k) {c} : (s.showMasks c).Inv k := h.setF.setF.setF.setF.setSubc
theorem Chip.Inv.receiversChanged (h : s.Inv k) {c old reconf} : (s.receiversChanged c old reconf).Inv k := by
  unfold Chip.receiversChanged
  extract_lets now gone s1 s2
  have h1 : s1.Inv k := h.foldl fun _ _ hu => hu.enterIdle
  have h2 : s2.Inv k := h1.foldl fun _ _ hu => .ite (.ite hu.acqReconf hu) (.ite hu.enterDetect hu)
  exact h2.foldl fun _ _ hu => hu.trailSettle
theorem Chip.Inv.lineApply (h : s.Inv k) {c} : (s.lineApply c).Inv k := by
  unfold Chip.lineApply
  extract_lets old n s1 v s2 s3 s4
  have h1 : s1.Inv k := h.showLine.showMasks.setFlag
  have h2 : s2.Inv k := .ite h1.join h1.restartGenerator
  have h3 : s3.Inv k := h2.raise.receiversChanged
  have h4 : s4.Inv k := .ite h3.xcStepDown h3
  exact h4.grpSettle.flRecompute.settle
theorem Chip.Inv.enterRampUp (h : s.Inv k) {c from_} : (s.enterRampUp c from_).Inv k :=
  .startRamp (.ite (.join (.ite h.lineApply h)) (.ite h.lineApply h))
theorem Chip.Inv.txEval (h : s.Inv k) {c} : (s.txEval c).Inv k := by
  refine .ite h ?_
  split
  · exact .ite h.enterRampUp h
  · exact .ite h (.ite h.enterRampUp h.setF)
  · exact .ite h.enterMuted (.ite h.enterRampUp h)
  · exact .ite h.enterMuted (.ite h h.startRamp)
theorem Chip.Inv.txEnFalls (h : s.Inv k) {c} : (s.txEnFalls c).Inv k := .ite h.setF h.txEval
theorem Chip.Inv.lineCommit (h : s.Inv k) {c old oldHome} : (s.lineCommit c old oldHome).Inv k :=
  .ite (.ite h.setFlag.startRamp h.setFlag) (.ite h.setSubc h)
theorem Chip.Inv.modeCommit (h : s.Inv k) : s.modeCommit.Inv k :=
  .ite h (.ite h.setF.modTxd.modTxd.setFlag (.ite h.setF.modTxd.modTxd.setFlag h.setF))
theorem Chip.Inv.install (h : s.Inv k) {words} : (s.install words).Inv k := h.foldl fun _ _ hu => hu.setAct
theorem Chip.Inv.switchedGroups (h : s.Inv k) {groups old} : (s.switchedGroups groups old).Inv k := by
  unfold Chip.switchedGroups
  extract_lets s1 s2 s3
  have h1 : s1.Inv k := .ite h.modeCommit h
  have h2 : s2.Inv k := .ite h1.xcCommitted h1
  have h3 : s3.Inv k := .ite h2.pgCommitted h2
  exact h3.settle
theorem Chip.Inv.takeDeferred (h : s.Inv k) : s.takeDeferred.Inv k := .ite h h.install.same.switchedGroups
theorem Chip.Inv.setSlot (h : s.Inv k) {k' v} : (s.setSlot k' v).Inv k := h.same
theorem Chip.Inv.loadRoot (h : s.Inv k) : s.loadRoot.Inv k := by
  dsimp only [Chip.loadRoot]
  split
  exacts [h.setSlot, h]
theorem Chip.Inv.loadBootKey (h : s.Inv k) : s.loadBootKey.Inv k := h.same
theorem Chip.Inv.modLenc (h : s.Inv k) {c f} : (s.modLenc c f).Inv k := h.same
theorem Chip.Inv.setLineKey (h : s.Inv k) {c tx p k'} : (s.setLineKey c tx p k').Inv k := h.modLenc
theorem Chip.Inv.clearKey (h : s.Inv k) {c tx p} : (s.clearKey c tx p).Inv k := h.setF.setF.setLineKey
theorem Chip.Inv.gccByte (h : s.Inv k) {c t g byte} : (s.gccByte c t g byte).Inv k := by
  unfold Chip.gccByte
  exact .ite h.raiseFrm h.captureWrite.setF
theorem Chip.Inv.gccReceive (h : s.Inv k) {c t g bytes} : (s.gccReceive c t g bytes).Inv k := .ite
    (h.foldl (fun _ _ hu => hu.gccByte)) h
theorem Chip.Inv.interruption (h : s.Inv k) {n lastIntact} : (s.interruption n lastIntact).2.Inv k := by
  unfold Chip.interruption
  exact h.roundFree.pair
theorem Chip.Inv.account (h : s.Inv k) {g n f} : (s.account g n f).2.Inv k := by
  unfold Chip.account
  extract_lets v gap cause s1 s2 s3
  have h1 : s1.Inv k := .ite h h.pgRange
  have h2 : s2.Inv k := by
    unfold s2
    split
    exacts [h1.interruption.setSat, h1]
  split
  exacts [h.bump, h2.addPair.bump.modPg]
theorem Chip.Inv.memberWord (h : s.Inv k) {g w} : (s.memberWord g w).Inv k := h.modPg
theorem Chip.Inv.deskStore (h : s.Inv k) {g p f} : (s.deskStore g p f).Inv k := h.modPg
theorem Chip.Inv.pgFrame (h : s.Inv k) {c t g f} : (s.pgFrame c t g f).Inv k := by
  unfold Chip.pgFrame
  extract_lets k' base side
  have hside : ∀ u p, u.Inv k → (side u p).Inv k := fun u p hu => by
    have h1 : Chip.Inv (if p then u.memberWord g (f.ctlOf k'.base) else u) k := .ite hu.memberWord hu
    exact .ite hu (.ite h1.deskStore (.ite h1.account h1))
  exact hside _ _ (hside _ _ h)
theorem Chip.Inv.selDeliver (h : s.Inv k) {c t f} : (s.selDeliver c t f).Inv k := by
  dsimp only [Chip.selDeliver]
  split
  exacts [.ite h.demapFrame (.ite (.ite h.account.demapFrame h.account) (.ite h.demapFrame h)), h.demapFrame.foldl
    (fun _ _ hu => hu.pgFrame)]
theorem Chip.Inv.selLost (h : s.Inv k) {c t _first _last} : (s.selLost c t _first _last).Inv k :=
  .ite h (h.foldl (fun _ _ hu => .ite hu.bump.raise hu))
theorem Chip.Inv.selRestart (h : s.Inv k) {c t} : (s.selRestart c t).Inv k := h.foldl (fun _ _ hu => .ite hu.bump.modPg hu)
theorem Chip.Inv.lencSettle (h : s.Inv k) {c} : (s.lencSettle c).Inv k := .ite h.setFlag.assert h.setFlag.setLive
theorem Chip.Inv.lencSettleAll (h : s.Inv k) : s.lencSettleAll.Inv k := h.lencSettle.lencSettle
theorem Chip.Inv.loadKey (h : s.Inv k) {c tx slot epoch} : (s.loadKey c tx slot epoch).Inv k := by
  unfold Chip.loadKey
  extract_lets used target refuse
  have hrefuse : ∀ n, (refuse n).Inv k := fun _ => h.setF.raise
  clear_value target
  split
  · exact hrefuse _
  · refine .ite (hrefuse _) (.ite (hrefuse _) ?_)
    split
    · exact hrefuse _
    · refine .ite (hrefuse _) ?_
      extract_lets a s1 s2 s3
      have h2 : s2.Inv k := h.setF.setF.setF.setF.setLineKey
      have h3 : s3.Inv k := .ite h2.setF.modLenc h2
      exact h3.lencSettleAll
theorem Chip.Inv.swapKeys (h : s.Inv k) {c} : (s.swapKeys c).Inv k :=
  .ite h (.ite h.modLenc.raise (.lencSettleAll (.ite h.modLenc.setF.clearKey.raise.loadKey h.modLenc.setF.clearKey.raise)))
theorem Chip.Inv.requestSwap (h : s.Inv k) {c} : (s.requestSwap c).Inv k := .ite h.modLenc h
theorem Chip.Inv.countSealed (h : s.Inv k) {c fsn} : (s.countSealed c fsn).Inv k :=
  .ite h (.ite h.setLineKey.modLenc.setSat.raiseIf.raise.lencSettleAll h.setLineKey.modLenc.setSat.raiseIf)
theorem Chip.Inv.sealFrame (h : s.Inv k) {c fsn} : ((s.sealFrame c fsn).2.2).Inv k := by
  dsimp only [Chip.sealFrame]
  split
  · exact h.sfRecheck.swapKeys
  · split
    · exact h.sfRecheck.swapKeys.bump
    · split
      exacts [h.sfRecheck.swapKeys.countSealed.bump, h.sfRecheck.swapKeys.countSealed]
theorem Chip.Inv.toDecryptor (h : s.Inv k) {c t f} : (s.toDecryptor c t f).Inv k :=
  .ite h.setFlag.modLenc.modLenc (.ite h.setFlag.modLenc.bump.raise.selLost h.setFlag.modLenc.selDeliver)
theorem Chip.Inv.eraseSlot (h : s.Inv k) {k'} : (s.eraseSlot k').Inv k :=
  .lencSettleAll (.foldl h.setSlot.same fun _ _ hu => .ite hu.clearKey hu)
theorem Chip.Inv.eraseAll (h : s.Inv k) : s.eraseAll.Inv k := by
  unfold Chip.eraseAll
  exact .lencSettleAll (.same (.foldl (h.foldl fun _ _ hu => hu.eraseSlot) fun _ _ hu => hu.clearKey))
theorem Chip.Inv.ksResult (h : s.Inv k) {n} : (s.ksResult n).Inv k := .ite h.setF h.setF.raise
theorem Chip.Inv.doZeroSlot (h : s.Inv k) {k'} : (doZeroSlot k' s).Inv k := h.eraseSlot.ksResult
theorem Chip.Inv.doZeroAll (h : s.Inv k) : (doZeroAll s).Inv k := h.eraseAll.raiseNM.setLive.ksResult
theorem Chip.Inv.doProvision (h : s.Inv k) {m} : (doProvision m s).Inv k := by
  unfold Machine.doProvision
  refine .ksResult (.raise (.iteOf (fun hc => ?_) fun _ => h.same))
  have hkey : s.fuse.otpKey = none := by
    revert hc
    cases s.fuse.otpKey with
    | none => exact fun _ => rfl
    | some x =>
      split
      · simp
      · split <;> simp
  exact .loadBootKey (.loadRoot (.setFuse h.same (fun e => e) (fun x e => absurd (hkey.symm.trans e) nofun) fun e => e))
theorem Chip.Inv.doOtpKill (h : s.Inv k) : (doOtpKill s).Inv k :=
  .ite h.ksResult (.ksResult (h.setFuse (v := { s.fuse with otpKilled := true }) (fun _ => rfl) (fun _ => id) id))
theorem Chip.Inv.doZeroizePin (h : s.Inv k) : (doZeroizePin s).Inv k := h.same.eraseAll.raiseNM
theorem Chip.Inv.doZeroizePinRelease (h : s.Inv k) : (doZeroizePinRelease s).Inv k := h.same.setLive
theorem Chip.Inv.doRingTailWrite (h : s.Inv k) {k' v} : (doRingTailWrite k' v s).Inv k := h.setF
theorem Chip.Inv.modTim (h : s.Inv k) {f} : (s.modTim f).Inv k := h.same
theorem Chip.Inv.refShow (h : s.Inv k) : s.refShow.Inv k :=
  .ite (.assert (.setFlag (h.foldl (fun _ _ hu => hu.setFlag)))) (.setLive (.setFlag (h.foldl (fun _ _ hu => hu.setFlag))))
theorem Chip.Inv.setDpll (h : s.Inv k) {st} : (s.setDpll st).Inv k :=
  .ite h (.raise (.ite h.setF.setF.setF.setBit.setF.modTim h.setF.setF.setF.setBit))
theorem Chip.Inv.freeRun (h : s.Inv k) {cause} : (s.freeRun cause).Inv k := h.setDpll.setF
theorem Chip.Inv.noRef (h : s.Inv k) : s.noRef.Inv k := h.setFlag.setFlag.modTim
theorem Chip.Inv.refDecide (h : s.Inv k) : s.refDecide.Inv k := by
  dsimp only [Chip.refDecide]
  split
  exacts [.ite h (.ite h.setFlag.modTim.raise h.setFlag.modTim), .ite h.setFlag.modTim
    (.ite (.ite h.noRef.setDpll h.noRef.freeRun) h.noRef)]
theorem Chip.Inv.setDco (h : s.Inv k) {v} : (s.setDco v).Inv k := h.setS.raiseIf
theorem Chip.Inv.timSettle (h : s.Inv k) : s.timSettle.Inv k := by
  unfold Chip.timSettle
  extract_lets s1 mode hist dco s2
  have h2 : s2.Inv k := h.refShow.setFlag
  exact .ite h2.noRef.freeRun.setFlag (.ite h2.noRef.freeRun (.ite h2.noRef.freeRun
    (.ite (.freeRun (.ite h2.noRef h2.noRef.setDco)) (.ite (.ite h2.noRef h2.noRef.setDpll) h2.refDecide))))
theorem Chip.Inv.dcoCommitted (h : s.Inv k) : s.dcoCommitted.Inv k := .ite h.setDco h
theorem Chip.Inv.setDisq (h : s.Inv k) {r cause} : (s.setDisq r cause).Inv k := h.setF
theorem Chip.Inv.disqualify (h : s.Inv k) {r cause} : (s.disqualify r cause).Inv k := .ite h.setDisq.setFlag.bump.raise h.setDisq
theorem Chip.Inv.resetCarrier (h : s.Inv k) {c} : (s.resetCarrier c).Inv k := h.same
theorem Chip.Inv.resetGroups (h : s.Inv k) {c} : (s.resetGroups c).Inv k := h.foldl (fun _ _ hu => hu.abandonSession.setGrp)
theorem Chip.Inv.resetHidden (h : s.Inv k) {i} : (s.resetHidden i).Inv k := by
  unfold Chip.resetHidden
  split
  · exact h.resetCarrier.setPair
  · exact h.resetCarrier.setPair
  · exact h.same
  · exact h.same
  · exact h.same
  · exact h.same
  · exact h.clearWords
  · exact h.same
  · exact h
theorem Chip.Inv.resetIsland (h : s.Inv k) {i} : (s.resetIsland i).Inv k := by
  unfold Chip.resetIsland
  extract_lets s0 mine regs act live hi waits
  have h0 : s0.Inv k := .ite h.resetGroups (.ite h.resetGroups h)
  exact .resetHidden (h0.clear (p := mine)).same
theorem Chip.Inv.afterReset (h : s.Inv k) : s.afterReset.Inv k := h.takeDeferred.settle.lencSettleAll
theorem Chip.Inv.holdIsland (h : s.Inv k) {i} : (s.holdIsland i).Inv k := h.resetIsland.modClk
theorem Chip.Inv.releaseIsland (h : s.Inv k) {i} : (s.releaseIsland i).Inv k :=
  .ite (.grpSettle (h.modClk.foldl (fun _ _ hu => hu.exchange.noteReserve)))
    (.ite (.grpSettle (h.modClk.foldl (fun _ _ hu => hu.exchange.noteReserve)))
    (.ite (.ite h.modClk.loadRoot.eraseAll.raiseNM h.modClk.loadRoot) h.modClk))
theorem Chip.Inv.powerReset (h : s.Inv k) : s.powerReset.Inv k := by
  unfold Chip.powerReset
  refine .setPair (.setPair ?_)
  cases k with
  | registers => exact ⟨rfl, rfl, rfl⟩
  | memories => exact ⟨rfl, h.2⟩
  | fuses f => exact h
theorem Chip.Inv.deviceReset (h : s.Inv k) {cause} : (s.deviceReset cause).Inv k := .setFlag
    (.wr (.wr (h.powerReset.foldl (fun _ _ hu => hu.setF))))
theorem Chip.Inv.bootHalt (h : s.Inv k) : s.bootHalt.Inv k :=
  .raise (.modBoot (.setF (.foldl (.afterReset (h.foldl (fun _ _ hu => .ite hu hu.holdIsland))) (fun _ _ hu => hu.setF))))
theorem Chip.Inv.systemReset (h : s.Inv k) {cause} : (s.systemReset cause).Inv k := by
  unfold Chip.systemReset
  exact .setFlag (.modBoot (.modClk (.setF (.setF (.setF (.setF (h.foldl fun _ _ hu => hu.holdIsland)))))))
theorem Chip.Inv.setNodeId (h : s.Inv k) {valid id} : (s.setNodeId valid id).Inv k := h.setF.setFlag
theorem Chip.Inv.bootAdvance (h : s.Inv k) : s.bootAdvance.Inv k := by
  unfold Chip.bootAdvance
  extract_lets ph ready u s1 s2
  have h1 : s1.Inv k := .ite (.ite h.releaseIsland.releaseIsland.setF h.releaseIsland.releaseIsland) h
  have h2 : s2.Inv k := h1.foldl fun _ _ hu => hu.releaseIsland
  exact .ite h2.same.setNodeId.afterReset.modBoot h1
theorem Chip.Inv.imageFail (h : s.Inv k) {cause} : (s.imageFail cause).Inv k := by
  unfold Chip.imageFail
  extract_lets apply f s1 s2 s3
  have h1 : s1.Inv k := h.setF
  have h2 : s2.Inv k := h1.raise
  have h3 : s3.Inv k := h2.systemReset.releaseIsland.releaseIsland.afterReset
  exact .ite (.ite h2.bootHalt (.ite h3.setF.modBoot h2.modBoot.setF)) h1.bootHalt
theorem Chip.Inv.loadBytes (h : s.Inv k) {off l} : (s.loadBytes off l).Inv k := h.foldl
    (fun _ _ hu => .ite hu.evc.evc hu.evc.evc.writeWord64)
theorem Chip.Inv.mboxAnswer (h : s.Inv k) {core status words} : (s.mboxAnswer core status words).Inv k :=
  .evc (.raise (.same (.setFlag (.setF (h.foldl (fun _ _ hu => hu.setF))))))
theorem Chip.Inv.ringTake (h : s.Inv k) {p x} (e : s.ringTake p = some x) : x.2.2.Inv k := by
  unfold Chip.ringTake at e
  split at e
  · cases e
  · cases e
    exact h.same
theorem Chip.Inv.modMgmt (h : s.Inv k) {f} : (s.modMgmt f).Inv k := h.same
theorem Chip.Inv.wdtRestart (h : s.Inv k) {k'} : (s.wdtRestart k').Inv k := h.setF
theorem Chip.Inv.coreStart (h : s.Inv k) {k'} : (s.coreStart k').Inv k := h.setF.wdtRestart
theorem Chip.Inv.coreHold (h : s.Inv k) {k' hold} : (s.coreHold k' hold).Inv k := .ite h.setFlag
    (.ite h.setFlag.setF (.ite h.setFlag.setF h.setFlag))
theorem Chip.Inv.handOver (h : s.Inv k) {k'} : (s.handOver k').Inv k := by
  dsimp only [Chip.handOver]
  split
  exacts [h, .modMgmt (h.setF.foldl (fun _ _ hu => .ite hu.setF hu))]
theorem Chip.Inv.extDisable (h : s.Inv k) : s.extDisable.Inv k := h.modMgmt.raise
theorem Chip.Inv.extFault (h : s.Inv k) {core a} : (s.extFault core a).Inv k :=
  .ite h.free.busError.raise.modMgmt.extDisable h.free.busError.raise.modMgmt
theorem Chip.Inv.mgmtTick (h : s.Inv k) : s.mgmtTick.Inv k :=
  .ite h (.ite (.modMgmt (h.foldl (fun _ _ hu => .ite hu.setF hu))) (h.foldl (fun _ _ hu => .ite hu.setF hu)))
theorem Chip.Inv.doOtpLoaded (h : s.Inv k) : (doOtpLoaded s).Inv k :=
  .ite h (.ite h.loadBootKey.setF.modBoot.bootHalt.bootAdvance h.loadBootKey.setF.modBoot)
theorem Chip.Inv.doHeaderRead (h : s.Inv k) {stuck} : (doHeaderRead stuck s).Inv k := .ite h
    (.ite h.imageFail.bootAdvance h.modBoot.bootAdvance)
theorem Chip.Inv.bankResult (h : s.Inv k) {bank rows} : (s.bankResult bank rows).Inv k := .ite h.setF.bumpSat
    h.setF.setFlag.setF.raise
theorem Chip.Inv.doPoolBistDone (h : s.Inv k) {rows} : (doPoolBistDone rows s).Inv k :=
  .ite h (.setF (h.clearWords.foldl fun _ _ hu => hu.bankResult))
theorem Chip.Inv.LoadRun_place {v : LoadRun} (h : v.chip.Inv k) {a hd} : (v.place a hd).2.chip.Inv k := by
  unfold LoadRun.place
  dsimp only
  split
  · split
    exacts [h, h.loadBytes]
  · split
    exacts [h, h.foldl fun _ _ hu => hu.loadBytes]

theorem Chip.Inv.LoadRun_record {v : LoadRun} (h : v.chip.Inv k) {i a hd} : (v.record i a hd).2.chip.Inv k := by
  unfold LoadRun.record
  dsimp only
  split; · exact h
  split; · exact h
  split; · exact h
  split; · exact h.LoadRun_place
  split
  exacts [h, h.loadBytes]

theorem Chip.Inv.LoadRun_pass {v : LoadRun} (h : v.chip.Inv k) {fuel i a e} : (LoadRun.pass fuel v i a e).2.chip.Inv k := by
  induction fuel generalizing v i a with
  | zero => exact h
  | succ fuel ih =>
    dsimp only [LoadRun.pass]
    split; · exact h
    split; · exact h
    split
    exacts [h.LoadRun_record, ih h.LoadRun_record]

theorem Chip.Inv.loadPass (h : s.Inv k) {area} : (s.loadPass area).2.2.chip.Inv k := by
  have hp : ∀ {fuel i a e}, (LoadRun.pass fuel { chip := s } i a e).2.chip.Inv k := Chip.Inv.LoadRun_pass h
  unfold Chip.loadPass
  dsimp only
  split; · exact h
  split
  exacts [hp, hp]

theorem Chip.Inv.doLoadPassEnd (h : s.Inv k) {stuck} : (doLoadPassEnd stuck s).Inv k := by
  unfold Machine.doLoadPassEnd
  extract_lets r u hd u1 u2 u3
  have hu : u.Inv k := h.loadPass
  have h2 : u2.Inv k := hu.setF.setF.setF.setF.setF.setF
  have h3 : u3.Inv k := .ite hu hu.setF
  exact .ite h (.ite h.imageFail (.ite h2.modBoot.bootAdvance h3.imageFail))
theorem Chip.Inv.extLoad (h : s.Inv k) {b} : (s.extLoad b).Inv k :=
  .ite (.modMgmt (h.foldl (fun _ _ hu => hu.setF.setF.setF))) (.extDisable (h.foldl (fun _ _ hu => hu.setF.setF.setF)))
theorem Chip.Inv.doBootDone (h : s.Inv k) : (Machine.doBootDone s).Inv k := by
  unfold Machine.doBootDone
  extract_lets s1 s2 s3 t s4 s5 s6
  have h2 : s2.Inv k := .setF (h.foldl fun _ _ hu => hu.setF)
  have h3 : s3.Inv k := h2.foldl fun _ _ hu => .ite hu.setF hu.coreStart
  have h5 : s5.Inv k := h3.roundFree.setF.setF.modBoot.calLoad
  have h6 : s6.Inv k := by
    unfold s6
    split
    exacts [h5.extLoad, h5]
  exact .ite h h6.raise
theorem Chip.Inv.doFullSvc (h : s.Inv k) : (doFullSvc s).Inv k := .ite h h.roundFree.setF.setF.raise
theorem Chip.Inv.doConfirm (h : s.Inv k) : (doConfirm s).Inv k := h.modBoot
theorem Chip.Inv.doConfirmTmo (h : s.Inv k) : (doConfirmTmo s).Inv k := .ite h h.setF.setFlag.raise.deviceReset
theorem Chip.Inv.doClrBad (h : s.Inv k) : (doClrBad s).Inv k := h.setFlag.setFlag
theorem Chip.Inv.doAuthLock (h : s.Inv k) {m} : (doAuthLock m s).Inv k :=
  .ite (h.setFuse id (fun _ => id) fun _ => rfl) h
theorem Chip.Inv.xspiFields (h : s.Inv k) {type w} : (s.xspiFields type w).Inv k := h.setF.setF.setF
theorem Chip.Inv.xspiStart (h : s.Inv k) {op refused} : (s.xspiStart op refused).Inv k := .ite h
    (.ite h.setFlag.raise h.setFlag.setFlag.modBoot)
theorem Chip.Inv.doXspiRead (h : s.Inv k) {w} : (doXspiRead w s).Inv k := h.xspiFields.xspiStart
theorem Chip.Inv.doXspiProgram (h : s.Inv k) {w} : (doXspiProgram w s).Inv k := h.xspiFields.xspiStart
theorem Chip.Inv.doXspiErase (h : s.Inv k) {w} : (doXspiErase w s).Inv k := h.xspiFields.xspiStart
theorem Chip.Inv.doXspiOther (h : s.Inv k) {w} : (doXspiOther w s).Inv k := h.xspiFields.xspiStart
theorem Chip.Inv.putXspi (h : s.Inv k) {l} : (s.putXspi l).Inv k := h.foldl (fun _ _ hu => hu.setF)
theorem Chip.Inv.xspiEffect (h : s.Inv k) {op rx} : (s.xspiEffect op rx).Inv k := by
  unfold Chip.xspiEffect
  split
  · exact h.putXspi
  · exact h.foldl fun _ _ hu => hu.setFlash
  · exact h.clearFlash
  · exact h.putXspi
theorem Chip.Inv.doXspiDone (h : s.Inv k) {timedOut rx} : (doXspiDone timedOut rx s).Inv k := by
  unfold Machine.doXspiDone
  split
  · exact h
  · exact .raise (.evc (.modBoot (.setFlag (.ite h.setFlag h.xspiEffect))))
theorem Chip.Inv.refuseLine (h : s.Inv k) {c k'} : (s.refuseLine c k').Inv k :=
    h.setF.setF.setFlag.setFlag.raiseIf.raiseIf.raiseIf.raiseIf
theorem Chip.Inv.commitRefused (h : s.Inv k) {groups} : (s.commitRefused groups).Inv k := h.setF.setF.raise
theorem Chip.Inv.refuseBlocks (h : s.Inv k) {e} : (s.refuseBlocks e).Inv k := by
  unfold Chip.refuseBlocks
  extract_lets s1 s2 s3 s4
  have h2 : s2.Inv k := .foldl (.ite h.setFlag h) fun _ _ hu => hu.refuseLine
  have h3 : s3.Inv k := by
    unfold s3
    split
    exacts [h2.setF.setF.raise, h2]
  have h4 : s4.Inv k := by
    unfold s4
    split
    exacts [h3.setF.setF.raise, h3]
  exact h4.raiseIf
theorem Chip.Inv.lineGroupCommitted (h : s.Inv k) {c old} : (s.lineGroupCommitted c old).Inv k := by
  unfold Chip.lineGroupCommitted
  extract_lets fixed set_ s1 s2 s3 vbr s4
  have h2 : s2.Inv k := .ite (h.setFlag.foldl fun _ _ hu => .ite hu.modRcv hu) h.setFlag
  have h3 : s3.Inv k := h2.setFlag
  have h4 : s4.Inv k := .ite h3 h3.setFlag.flRecompute
  exact h4.lineCommit
theorem Chip.Inv.commitTakes (h : s.Inv k) {words groups} : (s.commitTakes words groups).Inv k := by
  unfold Chip.commitTakes
  extract_lets old waits late s1 _ s2 s3 s4 s5 s6 t u _ s7 s8
  have h1 : s1.Inv k := h.install
  have h2 : s2.Inv k := .ite h1.same h1
  have h3 : s3.Inv k := h2.foldl fun _ _ hu => hu.lineGroupCommitted
  have h4 : s4.Inv k := .ite h3 h3.switchedGroups
  have h5 : s5.Inv k := .ite h4.portCommitted h4
  have h6 : s6.Inv k := .ite h5.dcoCommitted h5
  have hu : u.Inv k := h6.stepTo
  have h7 : s7.Inv k := .ite hu.same.setFlag h6
  have h8 : s8.Inv k := .ite h7.flRecompute.flRecompute h7
  exact h8.bump.setF.lencSettleAll
theorem Chip.Inv.commitEvent (h : s.Inv k) {shadow groups} : ((s.commitEvent shadow groups).2).Inv k := by
  dsimp only [Chip.commitEvent]
  split
  exacts [h.evc.commitRefused, .ite h.evc.refuseBlocks.commitRefused h.evc.commitTakes]
theorem Chip.Inv.shadowRevert (h : s.Inv k) {groups} : (s.shadowRevert groups).Inv k := h.foldl (fun _ _ hu => hu.wr)
theorem Chip.Inv.doCommit (h : s.Inv k) {groups} : (doCommit groups s).Inv k := .ite h h.commitEvent
theorem Chip.Inv.doShadowRevert (h : s.Inv k) {groups} : (doShadowRevert groups s).Inv k := h.shadowRevert
theorem Chip.Inv.modLane (h : s.Inv k) {l f} : (s.modLane l f).Inv k := h.same
theorem Chip.Inv.raiseLane (h : s.Inv k) {l e} : (s.raiseLane l e).Inv k := h.raise.setBit
theorem Chip.Inv.laneShow (h : s.Inv k) {l} : (s.laneShow l).Inv k := h.setFlag.setFlag.setFlag.setFlag
theorem Chip.Inv.setLos (h : s.Inv k) {l b} : (s.setLos l b).Inv k := .ite h.setFlag.setLive.raiseLane.evc h.setFlag.setLive
theorem Chip.Inv.setLol (h : s.Inv k) {l b} : (s.setLol l b).Inv k := .ite h.setFlag.setLive.raiseLane.evc.modLane
    h.setFlag.setLive
theorem Chip.Inv.quietDetectors (h : s.Inv k) {l los} : (s.quietDetectors l los).Inv k := h.setFlag.setFlag.setLive.setLive
theorem Chip.Inv.setChkLock (h : s.Inv k) {l b} : (s.setChkLock l b).Inv k := .ite h h.setFlag.raiseLane
theorem Chip.Inv.chkCount (h : s.Inv k) {l bits errs} : (s.chkCount l bits errs).Inv k := .ite h.addPair.addPair.evc h
theorem Chip.Inv.laneLeave (h : s.Inv k) {l down} : (s.laneLeave l down).Inv k :=
  .ite (.ite h.evc.setFlag.setChkLock.modLane.raiseLane.bump h.evc.setFlag.setChkLock.modLane) h
theorem Chip.Inv.coefDiscard (h : s.Inv k) {l} : (s.coefDiscard l).Inv k := .modLane (h.foldl (fun _ _ hu => hu.setF))
theorem Chip.Inv.enterTrain (h : s.Inv k) {l} : (s.enterTrain l).Inv k := .modLane
    (.setF (.ite h (h.foldl (fun _ _ hu => hu.setF))))
theorem Chip.Inv.laneDetect (h : s.Inv k) {l down} : (s.laneDetect l down).Inv k :=
  .laneShow (.ite h.laneLeave.setF.modLane (.ite h.laneLeave.setF.modLane.setLol.enterTrain h.laneLeave.setF.modLane.setLol))
theorem Chip.Inv.laneDisable (h : s.Inv k) {l} : (s.laneDisable l).Inv k :=
    h.laneLeave.setF.coefDiscard.quietDetectors.modLane.laneShow
theorem Chip.Inv.enterActive (h : s.Inv k) {l} : (s.enterActive l).Inv k :=
  .laneShow (.ite h.roundFree.setSat.setF.raiseLane.setFlag.quietDetectors h.roundFree.setSat.setF.raiseLane)
theorem Chip.Inv.capsSettle (h : s.Inv k) {l} : (s.capsSettle l).Inv k := .ite h.enterActive h
theorem Chip.Inv.enterCaps (h : s.Inv k) {l} : (s.enterCaps l).Inv k := h.setF.modLane.laneShow
theorem Chip.Inv.capsMismatch (h : s.Inv k) {l w} : ((s.capsMismatch l w).2).Inv k := by
  dsimp only [Chip.capsMismatch]
  split
  exacts [h, h.free.free]
theorem Chip.Inv.laneCfgWrite (h : s.Inv k) {l w} : (s.laneCfgWrite l w).Inv k :=
  .ite (.ite h.wr.laneShow h.wr.laneDisable) (.ite h.wr.coefDiscard.laneDetect
    (.ite (.ite h.wr.laneLeave.coefDiscard.laneDetect h.wr.laneDetect) h.wr.laneShow))
theorem Chip.Inv.tapWrite (h : s.Inv k) {l k' v} : (s.tapWrite l k' v).Inv k := .ite h.modLane h.modLane.setF
theorem Chip.Inv.txSleepWrite (h : s.Inv k) {l b} : (s.txSleepWrite l b).Inv k := .laneShow (.ite h.setFlag.raiseLane h.setFlag)
theorem Chip.Inv.rxSleepWrite (h : s.Inv k) {l b} : (s.rxSleepWrite l b).Inv k :=
  .ite h.setFlag (.ite h.setFlag.setFlag.quietDetectors.setChkLock.modLane.laneShow h.setFlag.modLane)
theorem Chip.Inv.prbsWrite (h : s.Inv k) {l w} : (s.prbsWrite l w).Inv k := .ite h.wr h.wr.setChkLock
theorem Chip.Inv.laneInject (h : s.Inv k) {l} : (s.laneInject l).Inv k := h.modLane.bump
theorem Chip.Inv.laneTick (h : s.Inv k) : s.laneTick.Inv k := h.foldl (fun _ _ hu => hu.laneInject)
theorem Chip.Inv.doLaneEnSet (h : s.Inv k) {l} : (doLaneEnSet l s).Inv k := h.laneCfgWrite
theorem Chip.Inv.doLaneEnClear (h : s.Inv k) {l} : (doLaneEnClear l s).Inv k := h.laneCfgWrite
theorem Chip.Inv.doLaneReconfig (h : s.Inv k) {l w} : (doLaneReconfig l w s).Inv k := h.laneCfgWrite
theorem Chip.Inv.doLaneLosAssert (h : s.Inv k) {l} : (doLaneLosAssert l s).Inv k := .ite
    (.ite h.setLos.laneDetect h.setLos.laneShow) h
theorem Chip.Inv.doLaneLosClear (h : s.Inv k) {l} : (doLaneLosClear l s).Inv k :=
  .ite (.laneShow (.ite (.enterTrain (.ite h.setLos h.setLos.setLol)) (.ite h.setLos h.setLos.setLol))) h
theorem Chip.Inv.lolAsserted (h : s.Inv k) {l} : (s.lolAsserted l).Inv k :=
  .ite h.setLol (.ite h.setLol.laneDetect (.ite (.laneShow (.ite h.setLol.setF h.setLol.enterTrain)) h.setLol.laneShow))
theorem Chip.Inv.doLolWindow (h : s.Inv k) {l errors m bits errs} : (doLolWindow l errors m bits errs s).Inv k :=
  .ite h.chkCount (.ite h.chkCount.modLane.lolAsserted (.ite h.chkCount.modLane.setLol.laneShow h.chkCount.modLane))
theorem Chip.Inv.doTrainConverged (h : s.Inv k) {l preTx preRx} : (doTrainConverged l preTx preRx s).Inv k := .ite
    h.setF.modLane.laneShow h
theorem Chip.Inv.doLockHoldExpired (h : s.Inv k) {l} : (doLockHoldExpired l s).Inv k := .ite (.ite h.enterCaps h.enterActive) h
theorem Chip.Inv.doTrainFail (h : s.Inv k) {l} : (doTrainFail l s).Inv k := .ite h.raiseLane.bump.laneDetect h
theorem Chip.Inv.doCapsTimeout (h : s.Inv k) {l} : (doCapsTimeout l s).Inv k := .ite
    (.ite h.raiseLane.bump.laneDetect h.setFlag.modLane.capsSettle) h
theorem Chip.Inv.capsComplete (h : s.Inv k) {l w} : (s.capsComplete l w).Inv k :=
  .capsSettle (.modLane (.ite h.setPair.setFlag.raiseLane.capsMismatch.raiseLane h.setPair.setFlag.raiseLane.capsMismatch))
theorem Chip.Inv.doCapsWordRx (h : s.Inv k) {l word sent} : (doCapsWordRx l word sent s).Inv k :=
  .ite (by split; exacts [.ite h.modLane.capsComplete h.modLane, h.modLane]) h
theorem Chip.Inv.doReadyRx (h : s.Inv k) {l} : (doReadyRx l s).Inv k := .ite h.modLane.capsSettle h
theorem Chip.Inv.doTxSleep (h : s.Inv k) {l} : (doTxSleep l s).Inv k := h.txSleepWrite
theorem Chip.Inv.doTxWake (h : s.Inv k) {l} : (doTxWake l s).Inv k := h.txSleepWrite
theorem Chip.Inv.doRxSleep (h : s.Inv k) {l} : (doRxSleep l s).Inv k := h.rxSleepWrite
theorem Chip.Inv.doRxWake (h : s.Inv k) {l} : (doRxWake l s).Inv k := h.rxSleepWrite
theorem Chip.Inv.doRxWakeDone (h : s.Inv k) {l} : (doRxWakeDone l s).Inv k := .ite h.setFlag.modLane.laneShow h
theorem Chip.Inv.doWakeFail (h : s.Inv k) {l} : (doWakeFail l s).Inv k := .ite h.raiseLane.laneDetect h
theorem Chip.Inv.doChkLock (h : s.Inv k) {l} : (doChkLock l s).Inv k := .ite h.setChkLock h
theorem Chip.Inv.doChkLockLoss (h : s.Inv k) {l bits errs} : (doChkLockLoss l bits errs s).Inv k := .ite
    h.chkCount.bumpSat.setChkLock h
theorem Chip.Inv.doChkClr (h : s.Inv k) {l bits errs} : (doChkClr l bits errs s).Inv k := h.chkCount.setPair.setPair
theorem Chip.Inv.doInjOne (h : s.Inv k) {l} : (doInjOne l s).Inv k := .ite h.modLane h
theorem Chip.Inv.doInjBurst (h : s.Inv k) {l} : (doInjBurst l s).Inv k := .ite h.modLane h
theorem Chip.Inv.doCdrLock (h : s.Inv k) {l} : (doCdrLock l s).Inv k := .ite (.laneShow (.ite h.modLane.setF h.modLane)) h
theorem Chip.Inv.doCoeffRequest (h : s.Inv k) {l k' tap} : (doCoeffRequest l k' tap s).Inv k := .ite h.setF h
theorem Chip.Inv.frmEnd (h : s.Inv k) {c t} : (s.frmEnd c t).Inv k := h.trailSettle.inletSettle.settle
theorem Chip.Inv.goodHeader (h : s.Inv k) {c t dcount ptr} : (s.goodHeader c t dcount ptr).Inv k := by
  unfold Chip.goodHeader
  extract_lets v delin predicted s0 start s1 s2
  have hstart : ∀ u : Chip, u.Inv k → (start u).Inv k := fun u hu => hu.modFrm.setFlag
  have h0 : s0.Inv k := h.setFrm
  have h2 : s2.Inv k := h0.bump.raiseFrm.bump.evc.pmAdd
  exact .ite (.ite h0 (hstart _ h0)) (.ite h0.modFrm (.ite h2.setFlag (hstart _ h2)))
theorem Chip.Inv.badHeader (h : s.Inv k) {c t} : (s.badHeader c t).Inv k := .ite h.setFrm.bump.raiseFrm.setFlag
    h.setFrm.bump.raiseFrm
theorem Chip.Inv.blockHeader (h : s.Inv k) {c t h'} : (s.blockHeader c t h').Inv k := .ite h.goodHeader h.badHeader
theorem Chip.Inv.searchLaw (h : s.Inv k) {c t pos good h'} : (s.searchLaw c t pos good h').Inv k :=
  .ite h.setFrm.setAlign.acqInFrame.blockHeader (.ite h.setFrm.setAlign (.ite (.ite h.setFrm.setAlign h.bump) h))
theorem Chip.Inv.frameLaw (h : s.Inv k) {c t pos good h'} : (s.frameLaw c t pos good h').Inv k :=
  .ite h (.ite h.setFrm.blockHeader (.ite h.setFrm.setAlign.bump.emptyWindow h.setFrm.blockHeader))
theorem Chip.Inv.doLineBlockRx (h : s.Inv k) {c t pos errs header} : (doLineBlockRx c t pos errs header s).Inv k :=
  .ite h.frameLaw.frmEnd (.ite h h.searchLaw.frmEnd)
theorem Chip.Inv.doLofAcq (h : s.Inv k) {c t} : (doLofAcq c t s).Inv k := .ite h h.setFlag.raiseFrm.acqFrameLoss.frmEnd
theorem Chip.Inv.deliverFrame (h : s.Inv k) {c t f} : (s.deliverFrame c t f).Inv k := by
  unfold Chip.deliverFrame
  extract_lets s1 s2 s3 s4 bei s5 s6 mf i s7 s8 p s9
  have h3 : s3.Inv k := h.rxBip.judgeUpTo.modFrm.addPair.setF.addPair
  have h6 : s6.Inv k := h3.evc.evc.addPair.addPair.pmAddFe.rxTti
  have h8 : s8.Inv k := h6.rxPsi.rxPsi.rxAps.gccReceive.gccReceive
  have h9 : s9.Inv k := .ite h8.setPort h8
  exact h9.toDecryptor
theorem Chip.Inv.discardFrame (h : s.Inv k) {c t f} : (s.discardFrame c t f).Inv k := h.bump.evc.pmAdd
theorem Chip.Inv.reportRange (h : s.Inv k) {c t first m} : (s.reportRange c t first m).Inv k := by
  unfold Chip.reportRange
  extract_lets lastFsn s1 s2 s3
  have h2 : s2.Inv k := h.setF.setF.raiseFrm.judgeUpTo
  have h3 : s3.Inv k := by
    unfold s3
    split
    exacts [h2.pmRange, h2.pmAdd]
  exact h3.selLost
theorem Chip.Inv.judgeSequence (h : s.Inv k) {c t fsn e relock} : (s.judgeSequence c t fsn e relock).Inv k := by
  dsimp only [Chip.judgeSequence]
  split
  exacts [h, .ite h (.ite h.reportRange h.judgeAll.raiseFrm.selRestart)]
theorem Chip.Inv.frameUnlocked (h : s.Inv k) {c t f} : (s.frameUnlocked c t f).Inv k := by
  dsimp only [Chip.frameUnlocked]
  split
  exacts [h.setFrm, .ite h.judgeSequence.setFlag.setFlag.modFrm.deliverFrame.deliverFrame h.discardFrame.modFrm]
theorem Chip.Inv.frameLocked (h : s.Inv k) {c t f} : (s.frameLocked c t f).Inv k := by
  dsimp only [Chip.frameLocked]
  split
  exacts [.ite h.modFrm.deliverFrame h.setFrm, .ite h.modFrm.bump.deliverFrame.deliverFrame
    (.ite h.judgeSequence.modFrm.deliverFrame.deliverFrame
    (.ite h.discardFrame.modFrm.modFrm.setFlag.setFlag h.discardFrame.modFrm))]
theorem Chip.Inv.frameDetectors (h : s.Inv k) {c t f} : (s.frameDetectors c t f).Inv k := h.modFrm
theorem Chip.Inv.doFrameRx (h : s.Inv k) {c t f} : (doFrameRx c t f s).Inv k :=
  .ite h (.frmEnd (.ite h.frameDetectors.frameLocked h.frameDetectors.frameUnlocked))
theorem Chip.Inv.doDefectTimer (h : s.Inv k) {c t lom v} : (doDefectTimer c t lom v s).Inv k := .frmEnd
    (.ite (.ite h.modFrm h) (.ite h.modFrm h))
theorem Chip.Inv.doDegSecond (h : s.Inv k) {c t sec} : (doDegSecond c t sec s).Inv k := h.setFrm.frmEnd
theorem Chip.Inv.doFailSet (h : s.Inv k) {c t bit} : (doFailSet c t bit s).Inv k := .ite h.setBit.raiseFrm h
theorem Chip.Inv.doFailClear (h : s.Inv k) {c t bit} : (doFailClear c t bit s).Inv k := .ite h.clrBit.raiseFrm h
theorem Chip.Inv.doTxLoad (h : s.Inv k) {c} : (doTxLoad c s).Inv k := h.loadKey
theorem Chip.Inv.doRxLoad (h : s.Inv k) {c} : (doRxLoad c s).Inv k := h.loadKey
theorem Chip.Inv.doLoadDone (h : s.Inv k) {c tx p} : (doLoadDone c tx p s).Inv k := .ite h.setF.setF.raise.lencSettleAll h
theorem Chip.Inv.doSwapNow (h : s.Inv k) {c} : (doSwapNow c s).Inv k := h.requestSwap
theorem Chip.Inv.notePhase (h : s.Inv k) {c t kp} : (s.notePhase c t kp).Inv k := .ite h (.ite h.setF.raise.loadKey h.setF.raise)
theorem Chip.Inv.cutThrough (h : s.Inv k) {unver cut} : (s.cutThrough unver cut).Inv k :=
  .foldl (h.foldl (fun _ _ hu => hu.bump)) (fun _ _ hu => hu.bump)
theorem Chip.Inv.markBad (h : s.Inv k) {c t fsn} : (s.markBad c t fsn).Inv k := h.modFrm
theorem Chip.Inv.markTag (h : s.Inv k) {c t fsn} : (s.markTag c t fsn).Inv k := h.foldl (fun _ _ hu => .ite hu hu.modPg)
theorem Chip.Inv.noteAuth (h : s.Inv k) {c t ok} : (s.noteAuth c t ok).Inv k := h.modFrm
theorem Chip.Inv.laneDrop (h : s.Inv k) {c w unver cut} : (s.laneDrop c w unver cut).Inv k := by
  unfold Chip.laneDrop
  extract_lets s1 s2
  have h1 : s1.Inv k := h.bump.markBad
  exact .selLost (.ite h1 h1.cutThrough)
theorem Chip.Inv.tagPass (h : s.Inv k) {c w} : (s.tagPass c w).Inv k := h.addPair.noteAuth.selDeliver
theorem Chip.Inv.tagFail (h : s.Inv k) {c w unver cut} : (s.tagFail c w unver cut).Inv k := by
  unfold Chip.tagFail
  extract_lets t s1 s2 s3
  have h1 : s1.Inv k := h.bump.raise.evc
  have h2 : s2.Inv k := .ite h1 h1.bump
  have h3 : s3.Inv k := h2.noteAuth.markBad
  exact .ite h3.bump.selLost h3.cutThrough.selDeliver.markTag
theorem Chip.Inv.doTagCheck (h : s.Inv k) {c t pass unver cut} : (doTagCheck c t pass unver cut s).Inv k := by
  unfold Machine.doTagCheck
  split
  · exact h
  · extract_lets s1 s2 s3
    have h2 : s2.Inv k := h.modLenc.notePhase
    exact .frmEnd (.ite h2.laneDrop (.ite h2.tagPass h2.tagFail))
theorem Chip.Inv.voidFrame (h : s.Inv k) {c t} : (s.voidFrame c t).Inv k := h.bump.modFrm
theorem Chip.Inv.doAesLaneFault (h : s.Inv k) {c lane tx t} : (doAesLaneFault c lane tx t s).Inv k :=
  .ite (.settle (.stepNeed (.ite (.ite h.bumpSat.raise.takeOver.voidFrame h.bumpSat.raise.takeOver)
    h.bumpSat.raise.takeOver.modLenc))) h
theorem Chip.Inv.doLaneTakeover (h : s.Inv k) {c} : (doLaneTakeover c s).Inv k := .ite h.setGrp.raise h
theorem Chip.Inv.doWdtKick (h : s.Inv k) {m k'} : (doWdtKick m k' s).Inv k := .ite h.wdtRestart.evc h
theorem Chip.Inv.doWdtWarn (h : s.Inv k) {k'} : (doWdtWarn k' s).Inv k := h.raiseIf
theorem Chip.Inv.coreExpire (h : s.Inv k) {k'} : (s.coreExpire k').Inv k := h.setF.setF.bumpSat.raise
theorem Chip.Inv.doWdtExpire (h : s.Inv k) {cores} : (doWdtExpire cores s).Inv k :=
  .ite h (.ite (.foldl (h.foldl (fun _ _ hu => hu.coreExpire)) (fun _ _ hu => hu.handOver))
    (.raise (h.foldl (fun _ _ hu => hu.coreExpire))))
theorem Chip.Inv.doTakeover (h : s.Inv k) {k' mbox} : (doTakeover k' mbox s).Inv k := by
  unfold Machine.doTakeover
  split
  exacts [.ite h.raise.mboxAnswer h.raise, h]
theorem Chip.Inv.doCoreRestart (h : s.Inv k) {k' hold} : (doCoreRestart k' hold s).Inv k := .ite h.coreHold
    h.coreHold.coreStart.modMgmt
theorem Chip.Inv.doH2fGo (h : s.Inv k) {w} : (doH2fGo w s).Inv k := .ite h.setF.setF.setF.raise h.setF.setF.setF.setFlag.modMgmt
theorem Chip.Inv.doMboxDone (h : s.Inv k) {core status words} : (doMboxDone core status words s).Inv k := .ite h.mboxAnswer h
theorem Chip.Inv.doMboxNotify (h : s.Inv k) {opcode words} : (doMboxNotify opcode words s).Inv k :=
  .ite h (.raise (.setFlag (.setF (h.foldl (fun _ _ hu => hu.setF)))))
theorem Chip.Inv.doF2hAck (h : s.Inv k) : (doF2hAck s).Inv k := h.setFlag
theorem Chip.Inv.doVersion (h : s.Inv k) {core} : (doVersion core s).Inv k := .ite h.mboxAnswer h
theorem Chip.Inv.doCalStore (h : s.Inv k) {core} : (doCalStore core s).Inv k := .ite h.mboxAnswer h
theorem Chip.Inv.doExtOpcode (h : s.Inv k) {core status words overran} : (doExtOpcode core status words overran s).Inv k :=
  .ite h (.ite (.mboxAnswer (.ite h.bump h)) h.mboxAnswer)
theorem Chip.Inv.doExtFault (h : s.Inv k) {core a kind} : (doExtFault core a kind s).Inv k := .ite h h.extFault
theorem Chip.Inv.modMon (h : s.Inv k) {f} : (s.modMon f).Inv k := h.same
theorem Chip.Inv.modMonCh (h : s.Inv k) {c f} : (s.modMonCh c f).Inv k := h.modMon
theorem Chip.Inv.monNext (h : s.Inv k) : s.monNext.Inv k := by
  dsimp only [Chip.monNext]
  split
  exacts [h.modMon, h.modMon]
theorem Chip.Inv.monConvert (h : s.Inv k) {c diff l} : (s.monConvert c diff l).2.2.2.Inv k := by
  induction l generalizing s with
  | nil => exact h
  | cons v l ih => exact ih (.ite h.modMon.evc.bump.raise h.modMon.evc)
theorem Chip.Inv.monShow (h : s.Inv k) : s.monShow.Inv k := by
  dsimp only [Chip.monShow]
  split
  exacts [h.setF.free.wr, h.setF.setF.setFlag.setFlag.setFlag.setF]
theorem Chip.Inv.monQueue (h : s.Inv k) {c ovr dist v} : (s.monQueue c ovr dist v).Inv k := .ite h.bump.raise
    h.modMon.monShow.raiseIf
theorem Chip.Inv.monLive (h : s.Inv k) : s.monLive.Inv k := h.setLive.setLive
theorem Chip.Inv.monActions (h : s.Inv k) {c} : (s.monActions c).Inv k :=
  .ite (.raiseNM (.ite h.raiseIf.raiseNM h.raiseIf)) (.ite h.raiseIf.raiseNM h.raiseIf)
theorem Chip.Inv.monLimits (h : s.Inv k) {c v ovr} : (s.monLimits c v ovr).Inv k :=
  .ite (.ite h.modMonCh.setBit.monActions.monLive h.modMonCh) (.ite (.ite h.modMonCh.clrBit.monLive h.modMonCh) h)
theorem Chip.Inv.monFeed (h : s.Inv k) {c ovr dist v} : (s.monFeed c ovr dist v).Inv k :=
  .ite h.modMonCh.setFlag.setFlag.setFlag.setF.bump.monLimits h.modMonCh
theorem Chip.Inv.monClear (h : s.Inv k) {c} : (s.monClear c).Inv k := h.setFlag.modMonCh
theorem Chip.Inv.monLimitClear (h : s.Inv k) {c} : (s.monLimitClear c).Inv k := h.modMonCh.monLive
theorem Chip.Inv.feRefuse (h : s.Inv k) : s.feRefuse.Inv k := h.bump.raise
theorem Chip.Inv.putBytes (h : s.Inv k) {base l} : (s.putBytes base l).Inv k := h.foldl (fun _ _ hu => hu.setF)
theorem Chip.Inv.modSpi (h : s.Inv k) {i f} : (s.modSpi i f).Inv k := h.modMon
theorem Chip.Inv.doMonEnSet (h : s.Inv k) : (doMonEnSet s).Inv k := .ite h h.setFlag.setFlag.modMon.monNext
theorem Chip.Inv.doMonEnClear (h : s.Inv k) : (doMonEnClear s).Inv k := h.setFlag.setFlag.modMon.foldl (fun _ _ hu => hu.monClear)
theorem Chip.Inv.monResult (h : s.Inv k) {c cfg v} : (s.monResult c cfg v).Inv k := .monFeed
    (.ite h.monConvert.monQueue h.monConvert)
theorem Chip.Inv.doMonResult (h : s.Inv k) {v} : (doMonResult v s).Inv k := by
  unfold Machine.doMonResult
  refine .ite h ?_
  extract_lets s0
  have h0 : s0.Inv k := .ite h.monNext h
  split
  exacts [h0, .ite h0.monResult.monNext h]
theorem Chip.Inv.doMonQueuePop (h : s.Inv k) : (doMonQueuePop s).Inv k := by
  unfold Machine.doMonQueuePop
  split
  exacts [h, h.modMon.monShow]
theorem Chip.Inv.doMonQueueFlush (h : s.Inv k) : (doMonQueueFlush s).Inv k := .ite h h.modMon.monShow
theorem Chip.Inv.doSpiGo (h : s.Inv k) {m i w} : (doSpiGo m i w s).Inv k := .ite
    (.ite h.setF.setF.setF h.setF.setF.setF.setFlag.modSpi) h.feRefuse
theorem Chip.Inv.doSpiDone (h : s.Inv k) {i rx} : (doSpiDone i rx s).Inv k := by
  unfold Machine.doSpiDone
  split
  exacts [h, .ite (.ite h.putBytes.setFlag.modSpi h.putBytes.setFlag.modSpi.raise) h]
theorem Chip.Inv.doI2cGo (h : s.Inv k) {m w} : (doI2cGo m w s).Inv k := .ite
    (.ite h.setF.setF.setF h.setF.setF.setF.setFlag.modMon) h.feRefuse
theorem Chip.Inv.doI2cDone (h : s.Inv k) {result nack rx} : (doI2cDone result nack rx s).Inv k := by
  unfold Machine.doI2cDone
  split
  · exact h
  · extract_lets s1 s2 s3
    have h2 : s2.Inv k := h.putBytes.setFlag.modMon.setF
    have h3 : s3.Inv k := .ite h2.setF h2
    exact .ite (.ite h3.raise h3.raise) h
theorem Chip.Inv.modPci (h : s.Inv k) {f} : (s.modPci f).Inv k := h.same
theorem Chip.Inv.msiOut (h : s.Inv k) {v} : (s.msiOut v).Inv k := h.evc.modPci
theorem Chip.Inv.vecSend (h : s.Inv k) {v} : (s.vecSend v).Inv k := .ite h (.same (.setFlag (.ite h.setFlag h.msiOut)))
theorem Chip.Inv.pbaSend (h : s.Inv k) : s.pbaSend.Inv k := h.foldl (fun _ _ hu => .ite hu.setFlag.msiOut hu)
theorem Chip.Inv.doMsixSend (h : s.Inv k) {v} : (doMsixSend v s).Inv k := h.vecSend
theorem Chip.Inv.doVecAck (h : s.Inv k) {v} : (doVecAck v s).Inv k := h.setFlag.vecSend
theorem Chip.Inv.doFaultTest (h : s.Inv k) {on} : (doFaultTest on s).Inv k := h.setFlag
theorem Chip.Inv.doSecondClose (h : s.Inv k) {c t sec} : (doSecondClose c t sec s).Inv k := by
  unfold Machine.doSecondClose
  dsimp only
  split
  exacts [h, .ite h h.pmCloseRec]
theorem Chip.Inv.addReg (h : s.Inv k) {a n} : (s.addReg a n).Inv k := h.wr
theorem Chip.Inv.addNative (h : s.Inv k) {a k' flags} : (s.addNative a k' flags).Inv k :=
  h.addReg.wr.addReg.addReg.addReg.addReg.addPair.addReg.addReg.addReg.addReg.addPair
theorem Chip.Inv.addBbe (h : s.Inv k) {rec off n} : (s.addBbe rec off n).Inv k := .ite h.wr h.wr.wr
theorem Chip.Inv.addCompat (h : s.Inv k) {a k' flags} : (s.addCompat a k' flags).Inv k :=
    h.wr.addReg.addReg.addBbe.addReg.addReg.addReg.addBbe.addReg
theorem Chip.Inv.copyWords (h : s.Inv k) {src dst n} : (s.copyWords src dst n).Inv k := h.foldl (fun _ _ hu => hu.wr)
theorem Chip.Inv.openRec (h : s.Inv k) {a n start flagsOff flags} : (s.openRec a n start flagsOff flags).Inv k :=
  .wr (.setPair (h.foldl (fun _ _ hu => hu.wr)))
theorem Chip.Inv.pmThresholds (h : s.Inv k) {c t} : (s.pmThresholds c t).Inv k := .ite h.setPm.setF.wr h.setPm.setF.wr.raisePm
theorem Chip.Inv.finaliseNative (h : s.Inv k) {c t start} : (s.finaliseNative c t start).Inv k :=
  .raisePm (.bump (.setPm (.openRec (.copyWords (h.foldl (fun _ _ hu => hu.copyWords))))))
theorem Chip.Inv.finalise15 (h : s.Inv k) {c t start} : (s.finalise15 c t start).Inv k :=
  .raisePm (.bump (.setPm (.openRec (.copyWords (.copyWords (h.foldl (fun _ _ hu => hu.copyWords)))))))
theorem Chip.Inv.finalise24 (h : s.Inv k) {c t start} : (s.finalise24 c t start).Inv k := h.copyWords.openRec.setPm.bump.raisePm
theorem Chip.Inv.clearNative (h : s.Inv k) {a} : (s.clearNative a).Inv k := .wr (h.wr.foldl (fun _ _ hu => hu.wr))
theorem Chip.Inv.pmAvail (h : s.Inv k) {c t ne fe} : (s.pmAvail c t ne fe).Inv k := by
  unfold Chip.pmAvail
  extract_lets ne0 fe0 s1 bidir enter exit s2
  have h1 : s1.Inv k := h.setFlag.setFlag.setFlag
  have h2 : s2.Inv k := .ite h1.raisePm h1
  exact .ite h2.raisePm h2
theorem Chip.Inv.doSecondCommit (h : s.Inv k) {c t} : (doSecondCommit c t s).Inv k := by
  unfold Machine.doSecondCommit
  extract_lets v p ne0 fe0 cur
  split
  · exact h
  · extract_lets ne fe k' suspect s1 s2 flags s3 s4 s5 s6 s7 s8
    have h2 : s2.Inv k := .ite h.setPm.clearNative h.setPm
    have h5 : s5.Inv k := h2.addNative.addCompat.addCompat.pmAvail.pmThresholds
    have h6 : s6.Inv k := by
      unfold s6
      split
      exacts [h5.finaliseNative, h5]
    have h7 : s7.Inv k := by
      unfold s7
      split
      exacts [h6.finalise15, h6]
    have h8 : s8.Inv k := by
      unfold s8
      split
      exacts [h7.finalise24, h7]
    exact h8.bump.setF
theorem Chip.Inv.doPmClear (h : s.Inv k) {c t} : (doPmClear c t s).Inv k := h.setPm
theorem Chip.Inv.doPmEnable (h : s.Inv k) {c t} : (doPmEnable c t s).Inv k := .ite h.setFlag
    h.setFlag.setPm.openRec.openRec.openRec
theorem Chip.Inv.doPoolOwnWrite (h : s.Inv k) {k' m v} : (doPoolOwnWrite k' m v s).Inv k := .ite h.setF h.raise
theorem Chip.Inv.poolCount (h : s.Inv k) {m w} : (s.poolCount m w).Inv k := .ite h.evc h.evc.evc
theorem Chip.Inv.poolError (h : s.Inv k) {m w cause} : (s.poolError m w cause).Inv k := .ite h.respond h.busError
theorem Chip.Inv.poolRead (h : s.Inv k) {m w} : (s.poolRead m w).Inv k := by
  dsimp only [Chip.poolRead]
  split
  exacts [h.poolCount.readWord64.respond, h.poolCount.readWord64.poolError]
theorem Chip.Inv.doPoolRead (h : s.Inv k) {m w upset upsetChk} : (doPoolRead m w upset upsetChk s).Inv k := h.upset.poolRead
theorem Chip.Inv.poolWrite (h : s.Inv k) {m w be data} : (s.poolWrite m w be data).Inv k := by
  dsimp only [Chip.poolWrite]
  split
  exacts [h.poolCount.poolError, h.poolCount.writeWord64.respond]
theorem Chip.Inv.doPoolWrite (h : s.Inv k) {m w be data collide} : (doPoolWrite m w be data collide s).Inv k :=
  .ite h.poolCount.bump.raise.mevPush.respond h.poolWrite
theorem Chip.Inv.doTrackerExpire (h : s.Inv k) {w} : (doTrackerExpire w s).Inv k := h.same
theorem Chip.Inv.doRepairGo (h : s.Inv k) {pool bank row} : (doRepairGo pool bank row s).Inv k := by
  unfold Machine.doRepairGo
  extract_lets s1
  have h1 : s1.Inv k := h.setF.setF.setF
  exact .ite h1.setF.raise (.ite h1.setF.raise h1.setFlag.same)
theorem Chip.Inv.copyWord (h : s.Inv k) {w} : (s.copyWord w).Inv k := by
  dsimp only [Chip.copyWord]
  split
  exacts [h.setPoolWord.corrected, h.setPoolWord, h.setPoolWord, h]
theorem Chip.Inv.doRepairDone (h : s.Inv k) : (doRepairDone s).Inv k := by
  unfold Machine.doRepairDone
  split
  · exact h
  · extract_lets s1
    have h1 : s1.Inv k := h.foldl fun _ _ hu => hu.copyWord
    clear_value s1
    exact h1.same.setF.setFlag.setF.raise
theorem Chip.Inv.doScrubGo (h : s.Inv k) : (doScrubGo s).Inv k := by
  unfold Machine.doScrubGo
  refine .ite h ?_
  split
  · exact h.setFlag
  · exact .same (.setFlag (.setFlag (.setFlag (.setF (h.foldl fun _ _ hu => hu.setF))))) (by simp) rfl
theorem Chip.Inv.doScrubStop (h : s.Inv k) : (doScrubStop s).Inv k := .ite h.same h
theorem Chip.Inv.scrubFirst (h : s.Inv k) {w} : (s.scrubFirst w).Inv k := .ite h.setF h
theorem Chip.Inv.scrubRead (h : s.Inv k) {w hit} : (s.scrubRead w hit).Inv k := by
  unfold Chip.scrubRead
  extract_lets r u v
  have hu : u.Inv k := h.wordFind.bump
  split
  · exact .scrubFirst (.bump (.corrected (.ite hu hu.setPoolWord)))
  · exact hu.bump.scrubFirst
  · exact .scrubFirst (.bump (.ite hu hu.setPoolWord.raise.mevPush))
  · exact hu
theorem Chip.Inv.doScrubWord (h : s.Inv k) {upset upsetChk hit} : (doScrubWord upset upsetChk hit s).Inv k := .ite
    h.upset.scrubRead.same h
theorem Chip.Inv.doScrubDone (h : s.Inv k) : (doScrubDone s).Inv k := by
  unfold Machine.doScrubDone
  refine .ite (.same h.setFlag.setFlag.raise ?_ rfl) h
  rw [quiet_raise]
theorem Chip.Inv.doEccFlipArm (h : s.Inv k) {pool byte chk} : (doEccFlipArm pool byte chk s).Inv k := h.setF.setF.setF.setFlag
theorem Chip.Inv.doMevPop (h : s.Inv k) : (doMevPop s).Inv k := by
  unfold Machine.doMevPop
  split
  exacts [h, h.same.mevShow]
theorem Chip.Inv.doUpFcompUpdate (h : s.Inv k) {c fofs} : (doUpFcompUpdate c fofs s).Inv k := .ite h.setSubc h
theorem Chip.Inv.doHubSleepMark (h : s.Inv k) {c q v} : (doHubSleepMark c q v s).Inv k := .settle (.ite h.putBit.modRcv h.putBit)
theorem Chip.Inv.doInletSend (h : s.Inv k) {c} : (doInletSend c s).Inv k := .ite h.setInlet.setF.inletSettle h
theorem Chip.Inv.doInletAck (h : s.Inv k) {c} : (doInletAck c s).Inv k := .ite h.setSubc (.ite h.setInlet h)
theorem Chip.Inv.doInletEnClear (h : s.Inv k) {c} : (doInletEnClear c s).Inv k := h.setFlag.setSubc.inletSettle
theorem Chip.Inv.doBackoffExpired (h : s.Inv k) {c} : (doBackoffExpired c s).Inv k := .ite h.setInlet h
theorem Chip.Inv.doInletSent (h : s.Inv k) {c} : (doInletSent c s).Inv k := .ite h h.setInlet.raise.inletSettle
theorem Chip.Inv.doRespTimeout (h : s.Inv k) {c} : (doRespTimeout c s).Inv k := .ite h
    (.ite h.setSat.setInlet.raise h.setSat.setInlet.drawDelay)
theorem Chip.Inv.setInletRx (h : s.Inv k) {c v} : (s.setInletRx c v).Inv k := h.setSubc
theorem Chip.Inv.doPreambleDetected (h : s.Inv k) {c level fofs sec ns} : (doPreambleDetected c level fofs sec ns s).Inv k :=
  .ite h (by split; exacts [h.setInletRx, h.setInletRx.bump, .ite h.setInletRx.bump h.bump])
theorem Chip.Inv.writeEntry (h : s.Inv k) {c e b data dup} : (s.writeEntry c e b data dup).Inv k :=
  h.setPair.wr.wr.setPair.wr.wr.foldl (fun _ _ hu => hu.wr)
theorem Chip.Inv.queueBurst (h : s.Inv k) {c b data} : (s.queueBurst c b data).Inv k := by
  dsimp only [Chip.queueBurst]
  split
  exacts [h.writeEntry.bump.raise, .ite h.bump.raise h.writeEntry.setF.raise]
theorem Chip.Inv.doHeaderComplete (h : s.Inv k) {c header otherPeak} : (doHeaderComplete c header otherPeak s).Inv k := by
  unfold Machine.doHeaderComplete
  dsimp only
  split
  exacts [.ite (.ite h.setInletRx.queueBurst h.setInletRx) (.ite h.setInletRx.bump h.setInletRx.bump), h]
theorem Chip.Inv.doPayloadComplete (h : s.Inv k) {c bytes} : (doPayloadComplete c bytes s).Inv k := by
  unfold Machine.doPayloadComplete
  dsimp only
  split
  exacts [.ite h.setInletRx.bump.queueBurst h.setInletRx.bump, h]
theorem Chip.Inv.doQueuePop (h : s.Inv k) {c} : (doQueuePop c s).Inv k := .ite h h.bump.setF
theorem Chip.Inv.doQueueFlush (h : s.Inv k) {c} : (doQueueFlush c s).Inv k := h.bump.setF
theorem Chip.Inv.doRefActivityLoss (h : s.Inv k) {r} : (doRefActivityLoss r s).Inv k := .ite h h.setFlag.disqualify.timSettle
theorem Chip.Inv.fmonSlot (h : s.Inv k) {r off} : (s.fmonSlot r off).Inv k := by
  dsimp only [Chip.fmonSlot]
  split
  exacts [h.setFlag, .ite h.setS.setFlag.disqualify (.ite h.setS.setFlag h.setS.setFlag.setDisq)]
theorem Chip.Inv.doFmonWindow (h : s.Inv k) {offs} : (doFmonWindow offs s).Inv k := .timSettle
    (h.foldl (fun _ _ hu => hu.fmonSlot))
theorem Chip.Inv.grossSlot (h : s.Inv k) {r edges off} : (s.grossSlot r edges off).Inv k := by
  dsimp only [Chip.grossSlot]
  split
  exacts [.ite (.disqualify (.ite h.setFlag.setDisq h)) (.ite h.setFlag.setDisq h), .ite h.setFlag.setDisq h]
theorem Chip.Inv.doGrossCheck (h : s.Inv k) {edges offs} : (doGrossCheck edges offs s).Inv k := .timSettle
    (h.foldl (fun _ _ hu => hu.grossSlot))
theorem Chip.Inv.doRefQualified (h : s.Inv k) {r} : (doRefQualified r s).Inv k := .ite h h.setFlag.setF.raise.modTim.timSettle
theorem Chip.Inv.doRefWtrExpired (h : s.Inv k) {r} : (doRefWtrExpired r s).Inv k := .ite h.modTim.timSettle h
theorem Chip.Inv.doSelCfgWrite (h : s.Inv k) {mode manRef revertive} : (doSelCfgWrite mode manRef revertive s).Inv k :=
    h.setF.setF.setFlag.timSettle
theorem Chip.Inv.doSwitchCommitPoint (h : s.Inv k) : (doSwitchCommitPoint s).Inv k := by
  unfold Machine.doSwitchCommitPoint
  split
  · exact h
  · extract_lets s1 s2 st
    have h2 : s2.Inv k := h.setF.setFlag.setFlag.modTim.bump.raise.evc
    exact .timSettle (.ite h2 h2.setDpll)
theorem Chip.Inv.doDpllLocked (h : s.Inv k) : (doDpllLocked s).Inv k := .ite h.setDpll h
theorem Chip.Inv.doDpllLockLoss (h : s.Inv k) : (doDpllLockLoss s).Inv k := .ite h.setDpll h
theorem Chip.Inv.doHoldoverOos (h : s.Inv k) : (doHoldoverOos s).Inv k := .ite h.setDpll.setF h
theorem Chip.Inv.hoEstimate (h : s.Inv k) : s.hoEstimate.Inv k := .ite h h.roundFree.setS
theorem Chip.Inv.doHistoryRecord (h : s.Inv k) {ppt} : (doHistoryRecord ppt s).Inv k :=
  .ite h (.ite (.setFlag (.hoEstimate (.ite h.bumpSat h.bumpSat.modTim))) (.ite h.bumpSat h.bumpSat.modTim))
theorem Chip.Inv.doHistClr (h : s.Inv k) : (doHistClr s).Inv k := .timSettle (.ite h.setFlag.modTim.freeRun h.setFlag.modTim)
theorem Chip.Inv.doDcoSlewStep (h : s.Inv k) {fofs} : (doDcoSlewStep fofs s).Inv k := .setS (.ite h.setDco h)
theorem Chip.Inv.doDcoFreqWrite (h : s.Inv k) {v} : (doDcoFreqWrite v s).Inv k :=
  .ite h.wr.setAct.dcoCommitted h.wr
theorem Chip.Inv.doRefoutChange (h : s.Inv k) {o} : (doRefoutChange o s).Inv k := h.modTim
theorem Chip.Inv.doTxEnSet (h : s.Inv k) {c} : (doTxEnSet c s).Inv k := h.setFlag.txEval
theorem Chip.Inv.doTxEnClear (h : s.Inv k) {c} : (doTxEnClear c s).Inv k := .ite h.setFlag.txEnFalls h.setFlag
theorem Chip.Inv.doMuteSet (h : s.Inv k) {c} : (doMuteSet c s).Inv k := h.setFlag.txEval
theorem Chip.Inv.doMuteClear (h : s.Inv k) {c} : (doMuteClear c s).Inv k := h.setFlag.txEval
theorem Chip.Inv.doReconfRampWrite (h : s.Inv k) {c v} : (doReconfRampWrite c v s).Inv k := h.setFlag
theorem Chip.Inv.doRampUpDone (h : s.Inv k) {c} : (doRampUpDone c s).Inv k := .ite h.setF.raise h
theorem Chip.Inv.doRampDownDone (h : s.Inv k) {c} : (doRampDownDone c s).Inv k := .ite h (.ite h.enterRampUp h.setF.raise)
theorem Chip.Inv.doReconfApply (h : s.Inv k) {c} : (doReconfApply c s).Inv k := .ite h.lineApply h
theorem Chip.Inv.doMaskCheck (h : s.Inv k) {c spectrum} : (Machine.doMaskCheck c spectrum s).Inv k := by
  unfold Machine.doMaskCheck
  refine .ite h (.ite h.setFlag ?_)
  split
  · exact h.setFlag
  · exact .ite (.ite h.setFlag.roundFree.setS.setF.raise.setFlag.txEval h.setFlag.roundFree.setS.setF.raise)
      h.setFlag.roundFree.setS.setF
theorem Chip.Inv.doDacClipWindow (h : s.Inv k) {c clipped} : (doDacClipWindow c clipped s).Inv k := h.addPair.evc.raiseIf
theorem Chip.Inv.doDacPllLol (h : s.Inv k) {c} : (doDacPllLol c s).Inv k := h.modTxd.assert.foldl
    (fun _ _ hu => .ite hu.rcvEnd hu.declareLos.rcvEnd)
theorem Chip.Inv.doDacPllRelock (h : s.Inv k) {c} : (doDacPllRelock c s).Inv k := h.modTxd.setLive.txEval.settle
theorem Chip.Inv.doCarrierJoin (h : s.Inv k) {c} : (doCarrierJoin c s).Inv k :=
  .ite (.join (.ite h.modTxd.restartGenerator h)) (.ite h.modTxd.restartGenerator h)
theorem Chip.Inv.doPhaseOk (h : s.Inv k) : (doPhaseOk s).Inv k := .ite h.setFlag h
theorem Chip.Inv.doScEnApply (h : s.Inv k) {c} : (doScEnApply c s).Inv k := .ite h
    h.showMasks.receiversChanged.grpSettle.flRecompute.settle
theorem Chip.Inv.setScTx (h : s.Inv k) {c q v} : (s.setScTx c q v).Inv k := h.setSubc
theorem Chip.Inv.doUpstreamSleep (h : s.Inv k) {c q} : (doUpstreamSleep c q s).Inv k := .ite h.setBit h.setBit.setScTx
theorem Chip.Inv.doUpstreamWake (h : s.Inv k) {c q} : (doUpstreamWake c q s).Inv k := .ite h.clrBit.setScTx h.clrBit
theorem Chip.Inv.timeRootMoved (h : s.Inv k) : s.timeRootMoved.Inv k :=
  .ite (.timSettle (h.setFlag.foldl (fun _ _ hu => hu.disqualify))) h.setFlag.timSettle
theorem Chip.Inv.moveRoots (h : s.Inv k) {mgmt time} : (s.moveRoots mgmt time).Inv k :=
  .ite h.setFlag.setFlag.setF.modClk.timeRootMoved h.setFlag.setFlag.setF.modClk
theorem Chip.Inv.gateNow (h : s.Inv k) {i} : (s.gateNow i).Inv k :=
  .ite (h.setBit.foldl (fun _ _ hu => hu.abandonSession)) (.ite (h.setBit.foldl (fun _ _ hu => hu.abandonSession)) h.setBit)
theorem Chip.Inv.clkTrip (h : s.Inv k) : s.clkTrip.Inv k := by
  unfold Chip.clkTrip
  extract_lets s1 s2 roots fresh s3
  have h2 : s2.Inv k := h.raiseNM.setFlag.modClk.timSettle
  have h3 : s3.Inv k := h2.setF.raise.foldl fun _ _ hu => hu.gateNow
  exact .ite (.ite h2 h2.moveRoots) (.ite h2 h3.modClk)
theorem Chip.Inv.failUngate (h : s.Inv k) {mask} : (s.failUngate mask).Inv k := .ite h
    (.settle (.modClk (h.foldl (fun _ _ hu => .ite hu.clrBit hu))))
theorem Chip.Inv.gateRefuse (h : s.Inv k) {i cause} : (s.gateRefuse i cause).Inv k := h.clrBit.clrBit.setF.setF.raise
theorem Chip.Inv.gateClose (h : s.Inv k) {i} : (s.gateClose i).Inv k := h.gateNow.clrBit.raise.settle
theorem Chip.Inv.bridgeUsed (h : s.Inv k) {b} : (s.bridgeUsed b).Inv k := h.clrBit
theorem Chip.Inv.fit (h : s.Inv k) {width v} : ((s.fit width v).2).Inv k := by
  dsimp only [Chip.fit]
  split
  exacts [h, h.free]
theorem Chip.Inv.fitS (h : s.Inv k) {width i} : ((s.fitS width i).2).Inv k := by
  dsimp only [Chip.fitS]
  split
  exacts [h, h.free]
theorem Chip.Inv.evm (h : s.Inv k) {prefPow perr} : ((s.evm prefPow perr).2).Inv k := by
  dsimp only [Chip.evm]
  split
  exacts [h.free, by split; exacts [h.fit, h.free.fit]]
theorem Chip.Inv.snr (h : s.Inv k) {prefPow perr} : ((s.snr prefPow perr).2).Inv k := by
  dsimp only [Chip.snr]
  split
  exacts [h.free, by split; exacts [h, h.free.fitS]]
theorem Chip.Inv.doPoresetAssert (h : s.Inv k) {vdd} : (doPoresetAssert vdd s).Inv k := .ite h.powerReset.modClk
    h.powerReset.setFlag.modClk
theorem Chip.Inv.doPoresetRelease (h : s.Inv k) : (doPoresetRelease s).Inv k := .ite h.modClk.modBoot h
theorem Chip.Inv.doVddAonLow (h : s.Inv k) : (doVddAonLow s).Inv k := h.powerReset.modClk
theorem Chip.Inv.wakeOn (h : s.Inv k) : s.wakeOn.Inv k := .ite (.ite h.setF.systemReset.setF.bootHalt h.setF.systemReset.setF) h
theorem Chip.Inv.doRoscReady (h : s.Inv k) : (doRoscReady s).Inv k := .ite h
    (.bootAdvance (.wakeOn (.ite h.setFlag.modClk.moveRoots h.setFlag)))
theorem Chip.Inv.doXtalReady (h : s.Inv k) : (doXtalReady s).Inv k := .ite h h.setFlag.raise.modClk.bootAdvance
theorem Chip.Inv.doRefclkReady (h : s.Inv k) {pcie on} : (doRefclkReady pcie on s).Inv k := h.setFlag
theorem Chip.Inv.doPllLock (h : s.Inv k) {sys} : (doPllLock sys s).Inv k := h.setFlag.failUngate.bootAdvance
theorem Chip.Inv.doPllLol (h : s.Inv k) {sys} : (doPllLol sys s).Inv k := .ite h h.setFlag.raise
theorem Chip.Inv.doRootCfgWrite (h : s.Inv k) {w} : (doRootCfgWrite w s).Inv k :=
  .ite h.setF.raise (.ite h.setF.raise (.ite h.setFlag.setFlag h.setFlag.setFlag.moveRoots))
theorem Chip.Inv.doSwDone (h : s.Inv k) : (doSwDone s).Inv k := .ite h h.setF.modClk.raise.failUngate.bootAdvance
theorem Chip.Inv.doXtalActivityTrip (h : s.Inv k) : (doXtalActivityTrip s).Inv k := .ite h h.clkTrip
theorem Chip.Inv.monLearn (h : s.Inv k) {x sd} : (s.monLearn x sd).Inv k := .ite h.same.roundFree.setF.setLive h.same
theorem Chip.Inv.monJudge (h : s.Inv k) {x sd} : (s.monJudge x sd).Inv k := .ite h (.ite h.clkTrip h.raise.modClk)
theorem Chip.Inv.doClkMonWindow (h : s.Inv k) {x sd} : (doClkMonWindow x sd s).Inv k :=
  .ite h (.ite h.fit.setF (.ite h.fit.setF.monLearn h.fit.setF.monJudge))
theorem Chip.Inv.doGateRequest (h : s.Inv k) {m i} : (doGateRequest m i s).Inv k :=
  .ite h (.ite h.setBit.modClk (.ite h.gateRefuse (.ite h.setBit.setBit.gateClose h.setBit.setBit)))
theorem Chip.Inv.doGateCancel (h : s.Inv k) {i} : (doGateCancel i s).Inv k := .ite h.gateRefuse h
theorem Chip.Inv.doGateDone (h : s.Inv k) {i} : (doGateDone i s).Inv k := .ite h.gateClose h
theorem Chip.Inv.doGateTimeout (h : s.Inv k) {i} : (doGateTimeout i s).Inv k := .ite h.gateRefuse h
theorem Chip.Inv.doUngate (h : s.Inv k) {i} : (doUngate i s).Inv k := .ite h.clrBit.modClk h
theorem Chip.Inv.doUngateDone (h : s.Inv k) {i} : (doUngateDone i s).Inv k := .ite h.clrBit.modClk.raise.settle h
theorem Chip.Inv.doDeviceReset (h : s.Inv k) {m w} : (doDeviceReset m w s).Inv k := .ite h.deviceReset h
theorem Chip.Inv.doSystemReset (h : s.Inv k) {w} : (doSystemReset w s).Inv k :=
  .ite (.ite h.systemReset.releaseIsland.releaseIsland.afterReset.bootHalt
    h.systemReset.releaseIsland.releaseIsland.afterReset.setF) h
theorem Chip.Inv.doIslRstSet (h : s.Inv k) {i} : (doIslRstSet i s).Inv k :=
  .ite h (.ite h.setBit.holdIsland.afterReset.gateClose h.setBit.holdIsland.afterReset)
theorem Chip.Inv.doIslRstRelease (h : s.Inv k) {i} : (doIslRstRelease i s).Inv k := .ite
    h.clrBit.resetIsland.releaseIsland.afterReset h
theorem Chip.Inv.doDeepSleep (h : s.Inv k) {w} : (doDeepSleep w s).Inv k := .ite h
    h.setFlag.modClk.setFlag.txEnFalls.setFlag.txEnFalls
theorem Chip.Inv.doDeepSleepEntered (h : s.Inv k) : (doDeepSleepEntered s).Inv k :=
  .ite h (.modClk (.setF (.foldl (.setF (.setF (h.foldl (fun _ _ hu => hu.holdIsland)))) (fun _ _ hu => hu.setFlag))))
theorem Chip.Inv.doWake (h : s.Inv k) {gpio zeroize} : (doWake gpio zeroize s).Inv k :=
  .ite h (.raise (.modClk (.ite h.setF.setFlag.same.eraseAll h.setF.setFlag)))
theorem Chip.Inv.doAvsUpdate (h : s.Inv k) {want} : (doAvsUpdate want s).Inv k := h.setF
theorem Chip.Inv.doJtagDeviceReset (h : s.Inv k) : (doJtagDeviceReset s).Inv k := h.deviceReset
theorem Chip.Inv.doJtagIntscan (h : s.Inv k) : (doJtagIntscan s).Inv k := by
  unfold Machine.doJtagIntscan
  exact h.doZeroAll.same
theorem Chip.Inv.doJtagMembist (h : s.Inv k) : (doJtagMembist s).Inv k := by
  unfold Machine.doJtagMembist
  exact h.doZeroAll.clearWords
theorem Chip.Inv.setFec (h : s.Inv k) {c v} : (s.setFec c v).Inv k := h.same
theorem Chip.Inv.doCodewordDispatch (h : s.Inv k) {r} : (doCodewordDispatch r s).Inv k := by
  unfold Machine.doCodewordDispatch
  dsimp only
  split
  exacts [h, h.setFec]
theorem Chip.Inv.countCodeword (h : s.Inv k) {r slice iters ok corr} : (s.countCodeword r slice iters ok corr).Inv k := by
  refine .modRcv ?_
  split
  · exact h.addPair.addPair.addPair.addPair.evc.evc.evc
  · exact h.addPair.addPair.addPair.addPair.evc.evc.evc.addPair.addPair
theorem Chip.Inv.doDecodeDone (h : s.Inv k) {c slice iters ok corrected} : (doDecodeDone c slice iters ok corrected s).Inv k := by
  unfold Machine.doDecodeDone
  dsimp only
  split
  exacts [h, h.setFec.countCodeword]
theorem Chip.Inv.doCodewordRelease (h : s.Inv k) {c} : (doCodewordRelease c s).Inv k := by
  unfold Machine.doCodewordRelease
  dsimp only
  split
  exacts [.ite h.setFec h, h]
theorem Chip.Inv.doSliceFault (h : s.Inv k) {c slices} : (doSliceFault c slices s).Inv k :=
  .settle (.stepNeed (h.foldl (fun _ _ hu => .ite hu.bumpSat.raise.takeOver.setFec hu)))
theorem Chip.Inv.doSliceTakeover (h : s.Inv k) {c} : (doSliceTakeover c s).Inv k := .ite h.setGrp.raise h
theorem Chip.Inv.doFecSfClear (h : s.Inv k) {c} : (doFecSfClear c s).Inv k := h.sfRecheck.settle
theorem Chip.Inv.doCwLock (h : s.Inv k) {r passed} : (doCwLock r passed s).Inv k := by
  refine .ite h ?_
  split
  exacts [h, h.setRcv.setCwLock.settle]
theorem Chip.Inv.doCwLockLoss (h : s.Inv k) {r} : (doCwLockLoss r s).Inv k := .ite h.dropCwLock.acqFrameLoss.rcvEnd h
theorem Chip.Inv.judgeUb (h : s.Inv k) {r} : (s.judgeUb r).Inv k := by
  dsimp only [Chip.judgeUb]
  split
  exacts [.ite h.setRcv.assert h.setRcv.setLive, h.setRcv]
theorem Chip.Inv.countStair (h : s.Inv k) {r corr bad} : (s.countStair r corr bad).Inv k :=
  .raiseIf (by split; exacts [h.addPair.addPair.addPair.evc.evc, h.addPair.addPair.addPair.evc.evc.addPair])
theorem Chip.Inv.doStairBlock (h : s.Inv k) {r corrected uncorrectable} : (doStairBlock r corrected uncorrectable s).Inv k :=
  .ite h.setRcv h.setRcv.modRcv.countStair.judgeUb.settle
theorem Chip.Inv.snapshot (h : s.Inv k) {at_} : (s.snapshot at_).Inv k := .raise
    (.bump (.setF (.setF (.setF (h.foldl (fun _ _ hu => hu.setF))))))
theorem Chip.Inv.doSnapNow (h : s.Inv k) : (doSnapNow s).Inv k := h.snapshot
theorem Chip.Inv.doChainRead (h : s.Inv k) {m k'} : (doChainRead m k' s).Inv k := .ite h h.same
theorem Chip.Inv.smpStart (h : s.Inv k) : s.smpStart.Inv k := .ite h.same h.free.same
theorem Chip.Inv.doSmpConfigWrite (h : s.Inv k) {period v} : (doSmpConfigWrite period v s).Inv k := by
  unfold Machine.doSmpConfigWrite
  dsimp only
  split
  exacts [h.wr.smpStart, h]
theorem Chip.Inv.smpShow (h : s.Inv k) : s.smpShow.Inv k := h.setF
theorem Chip.Inv.doSmpRpWrite (h : s.Inv k) {v} : (doSmpRpWrite v s).Inv k := h.setF.smpShow
theorem Chip.Inv.smpWords (h : s.Inv k) {o} : ((s.smpWords o).2.2.2).Inv k := by
  dsimp only [Chip.smpWords]
  split
  exacts [.fit (by split; exacts [h, h.free]), h]
theorem Chip.Inv.doSample (h : s.Inv k) {o} : (doSample o s).Inv k := by
  unfold Machine.doSample
  refine .ite h ?_
  extract_lets seq _ s0 wp n _ r words base s1 _ s2
  have h0 : s0.Inv k := .smpStart h.same
  have h1 : s1.Inv k := h0.smpWords.foldl fun _ _ hu => hu.wr
  exact .ite h0.same.bump.raise h1.same.setF.smpShow.raiseIf
theorem Chip.Inv.doSdWindow (h : s.Inv k) {g nW nP} : (doSdWindow g nW nP s).Inv k := .ite h.modPg.settle h
theorem Chip.Inv.doHoldOffExpired (h : s.Inv k) {g k'} : (doHoldOffExpired g k' s).Inv k := .ite
    (.settle (.ite h.setPg.setCond h.setPg)) h
theorem Chip.Inv.doWtrExpired (h : s.Inv k) {g} : (doWtrExpired g s).Inv k := .ite h.modPg.settle h
theorem Chip.Inv.pgCommand (h : s.Inv k) {g code f} : (s.pgCommand g code f).Inv k := .ite h (.ite h.raisePg h.modPg.settle)
theorem Chip.Inv.doCmdClear (h : s.Inv k) {g} : (doCmdClear g s).Inv k := .ite h.modPg.settle h
theorem Chip.Inv.doCmdLo (h : s.Inv k) {g} : (doCmdLo g s).Inv k := h.pgCommand
theorem Chip.Inv.doCmdFs (h : s.Inv k) {g} : (doCmdFs g s).Inv k := h.pgCommand
theorem Chip.Inv.doCmdMs (h : s.Inv k) {g} : (doCmdMs g s).Inv k := h.pgCommand
theorem Chip.Inv.doCmdMsW (h : s.Inv k) {g} : (doCmdMsW g s).Inv k := h.pgCommand
theorem Chip.Inv.pgWrite (h : s.Inv k) {g code} : (s.pgWrite g code).Inv k := by
  dsimp only [Chip.pgWrite]
  split
  exacts [h.doCmdClear, h.doCmdLo, h.doCmdFs, h.doCmdMs, h.doCmdMsW, h]
theorem Chip.Inv.doSwitch (h : s.Inv k) {g last} : (Machine.doSwitch g last s).Inv k := by
  unfold Machine.doSwitch
  extract_lets v s1 s2 u s3
  have h1 : s1.Inv k := h.setFlag.bump.raisePg
  have h2 : s2.Inv k := .ite h1 h1.modPg
  have hu : u.Inv k := by
    unfold u
    split
    exacts [h2, .ite h2 h2.pgRange]
  have h3 : s3.Inv k := .ite hu.bump.modPg h2
  exact .ite h.takeDeferred h3.settle.takeDeferred
theorem Chip.Inv.deskCheck (h : s.Inv k) {g} : (s.deskCheck g).Inv k := .ite h.setFlag.setPg.raisePg h
theorem Chip.Inv.doDiffDelayUpdate (h : s.Inv k) {g ns} : (doDiffDelayUpdate g ns s).Inv k := .ite h.setS.modPg.deskCheck.settle h
theorem Chip.Inv.doDeskewRecover (h : s.Inv k) {g} : (doDeskewRecover g s).Inv k := .ite h.modPg.settle h
theorem Chip.Inv.pgCompare (h : s.Inv k) {g agree} : (s.pgCompare g agree).Inv k := .ite h.setPg (.ite h.setPg.raisePg h.setPg)
theorem Chip.Inv.doHitlessRead (h : s.Inv k) {g fsn corr badW badP} : (Machine.doHitlessRead g fsn corr badW badP s).Inv k := by
  unfold Machine.doHitlessRead
  extract_lets _ v w p goodW goodP later s1 s2 active own goodOwn goodOther forbidden n frame s3
  have h1 : s1.Inv k := h.bump.setPg
  clear_value w p own
  have h2 : s2.Inv k := by
    unfold s2
    split
    exacts [.ite h1.pgCompare h1, h1]
  have h3 : s3.Inv k := by
    refine .ite h2.account (.ite h2.account.addPair ?_)
    cases own with
    | some r => exact .ite h2.account h2.modPg
    | none => exact h2.modPg
  exact .ite h h3.settle
theorem Chip.Inv.doApsMsgTx (h : s.Inv k) {g} : (doApsMsgTx g s).Inv k := .ite h h.newMsg.sendOn.sendOn.modPg
theorem Chip.Inv.apsAccept (h : s.Inv k) {src seq b0 b1 b2 b3} : (s.apsAccept src seq b0 b1 b2 b3).Inv k :=
  .ite h (.settle (.ite h.setF.modPg.setFlag.raisePg h.setF.modPg))
theorem Chip.Inv.doApsMsgRx (h : s.Inv k) {src seq b0 b1 b2 b3} : (doApsMsgRx src seq b0 b1 b2 b3 s).Inv k := h.apsAccept
theorem Chip.Inv.doApsBridge (h : s.Inv k) {g} : (doApsBridge g s).Inv k := .ite h (.ite h.modPg (.ite h.modPg h))
theorem Chip.Inv.doApsLoss (h : s.Inv k) {g} : (doApsLoss g s).Inv k := .ite h.setFlag.raisePg.settle h
theorem Chip.Inv.doFopTimer (h : s.Inv k) {g nr} : (doFopTimer g nr s).Inv k := .ite h.setFlag.raisePg h
theorem Chip.Inv.doSelMiscompare (h : s.Inv k) {g} : (doSelMiscompare g s).Inv k := h.setFlag.raisePg
theorem Chip.Inv.doUnfreeze (h : s.Inv k) : (doUnfreeze s).Inv k := h.setFlag.settle
theorem Chip.Inv.doLrPop (h : s.Inv k) : (doLrPop s).Inv k := .ite h h.same.lostShow
theorem Chip.Inv.armSlot (h : s.Inv k) {i} : (s.armSlot i).Inv k := by
  unfold Chip.armSlot
  exact .ite h.raise (.ite h.raise h.setF.setF.setF.setF.same)
theorem Chip.Inv.doArm (h : s.Inv k) {k'} : (doArm k' s).Inv k := h.armSlot
theorem Chip.Inv.disarmSlot (h : s.Inv k) {k'} : (s.disarmSlot k').Inv k := .ite h.setF h
theorem Chip.Inv.doDisarm (h : s.Inv k) {k'} : (doDisarm k' s).Inv k := h.disarmSlot
theorem Chip.Inv.fillSlot (h : s.Inv k) {k' t act groups gpio} : (s.fillSlot k' t act groups gpio).Inv k :=
    h.setInstant.setF.setF.wr.setPair
theorem Chip.Inv.fireSlot (h : s.Inv k) {i} : (s.fireSlot i).Inv k := by
  unfold Chip.fireSlot
  extract_lets now late s1 s2 s3 per t n s4
  have h2 : s2.Inv k := h.setF.setF.setF.bump.evc.raise
  have h3 : s3.Inv k := .ite h2.setF.raise h2
  have h4 : s4.Inv k := .ite h3.setF h3.setInstant.bump
  exact h4.same
theorem Chip.Inv.doRippleFired (h : s.Inv k) {k'} : (doRippleFired k' s).Inv k := .ite h.fireSlot h
theorem Chip.Inv.dropAt (h : s.Inv k) {k' isl} : (s.dropAt k' isl).Inv k := .ite h h.setF.setF.raise
theorem Chip.Inv.actAt (h : s.Inv k) {slots isl f} (hf : ∀ u : Chip, u.Inv k → (f u).Inv k) : (s.actAt slots isl f).Inv k :=
  .ite h (.ite (h.foldl fun _ _ hu => hu.dropAt) (hf _ h))
theorem Chip.Inv.ripCommand (h : s.Inv k) : s.ripCommand.Inv k := h.pgWrite
theorem Chip.Inv.ripCommit (h : s.Inv k) {slots} : (s.ripCommit slots).Inv k :=
  .ite h (.ite h.commitEvent (h.commitEvent.foldl (fun _ _ hu => hu.dropAt)))
theorem Chip.Inv.ripGpio (h : s.Inv k) {slots} : (s.ripGpio slots).Inv k := h.setF
theorem Chip.Inv.ripStep (h : s.Inv k) {c} : (s.ripStep c).Inv k := .ite h.bistStep.bistStep.bistStep h
theorem Chip.Inv.ripBins (h : s.Inv k) {c t} : (s.ripBins c t).Inv k := h.foldl (fun _ _ hu => hu.pmRipple)
theorem Chip.Inv.actTogether (h : s.Inv k) {slots t} : (s.actTogether slots t).Inv k := by
  unfold Chip.actTogether
  extract_lets has s0 s1 s2 s3 s4 s5 s6
  have h0 : s0.Inv k := h.ripCommit
  have h1 : s1.Inv k := h0.actAt fun _ hu => hu.requestSwap
  have h2 : s2.Inv k := h1.actAt fun _ hu => hu.requestSwap
  have h3 : s3.Inv k := (h2.actAt fun _ hu => hu.ripBins).actAt fun _ hu => hu.ripBins
  have h4 : s4.Inv k := h3.actAt fun _ hu => hu.ripCommand.bump
  have h5 : s5.Inv k := (h4.actAt fun _ hu => hu.ripStep).actAt fun _ hu => hu.ripStep
  have h6 : s6.Inv k := .ite h5 h5.snapshot
  exact .ite h6 h6.ripGpio
theorem Chip.Inv.doRippleAction (h : s.Inv k) : (doRippleAction s).Inv k := by
  unfold Machine.doRippleAction
  split
  · exact h
  · dsimp only
    exact Chip.Inv.actTogether h.same
theorem Chip.Inv.doBistStepTimer (h : s.Inv k) {c g} : (doBistStepTimer c g s).Inv k := .ite h.bistStep h
theorem Chip.Inv.sweepResult (h : s.Inv k) {c g u f} : (s.sweepResult c g u f).Inv k := .ite h.bump.setGrp h
theorem Chip.Inv.sessionPass (h : s.Inv k) {c g u misr} : (s.sessionPass c g u misr).Inv k :=
  .ite (.grpSettle (.ite h.setGrp.sessionResult.bump.setF.setF.setGrp h.setGrp.sessionResult.bump.setF.setF.setGrp.noteReserve))
    h.setGrp.sessionResult.bump.setGrp.sweepResult
theorem Chip.Inv.sessionFail (h : s.Inv k) {c g u misr} : (s.sessionFail c g u misr).Inv k :=
  .ite h.setGrp.sessionResult.bump.raise.setF.setF h.setGrp.sessionResult.bump.raise.sweepResult.fenceIdle.grpSettle
theorem Chip.Inv.doBistSessionEnd (h : s.Inv k) {c g patterns misr} : (doBistSessionEnd c g patterns misr s).Inv k := by
  unfold Machine.doBistSessionEnd
  split
  exacts [h, .ite h.sessionIncomplete.settle (.ite h.sessionPass.settle h.sessionFail.settle)]
theorem Chip.Inv.doPuGo (h : s.Inv k) : (doPuGo s).Inv k := .ite h (.bistSettle (h.wr.setFlag.foldl (fun _ _ hu => hu.setGrp)))
theorem Chip.Inv.doRetest (h : s.Inv k) {c g u} : (doRetest c g u s).Inv k := .ite h
    (.ite h.setF.setFlag.setGrp.bistSettle h.setF.setF)
theorem Chip.Inv.armCommit (h : s.Inv k) {t groups u} (e : s.armCommit t groups = some u) : u.Inv k := by
  unfold Chip.armCommit at e
  obtain ⟨i, -, rfl⟩ := Option.map_eq_some_iff.mp e
  exact h.fillSlot.armSlot
theorem Chip.Inv.noticeJudge (h : s.Inv k) {port b u} (e : s.noticeJudge port b = some u) : u.Inv k := by
  unfold Chip.noticeJudge at e
  dsimp only at e
  split at e
  · cases e
  · exact (h.foldl fun _ _ hu => hu.stepShadow).armCommit e
theorem Chip.Inv.getD (h : s.Inv k) {o : Option Chip} (ho : ∀ u, o = some u → u.Inv k) : (o.getD s).Inv k := by
  cases o with
  | none => exact h
  | some u => exact ho u rfl

theorem Chip.Inv.doStepNotice (h : s.Inv k) : (doStepNotice s).Inv k := by
  unfold Machine.doStepNotice
  split
  · exact h
  · next x hx => exact (.sendOn (.newMsg ((h.ringTake hx).getD fun _ hu => (h.ringTake hx).noticeJudge hu)))
theorem Chip.Inv.doStepAnswer (h : s.Inv k) : (doStepAnswer s).Inv k := by
  unfold Machine.doStepAnswer
  split
  · exact h
  · next x hx =>
    have hu : x.2.2.Inv k := h.ringTake hx
    dsimp only
    split
    · exact .ite (hu.same.getD fun _ he => Chip.Inv.armCommit hu.same he) hu
    · exact hu
theorem Chip.Inv.doStepFail (h : s.Inv k) : (doStepFail s).Inv k := .ite h.same.raise h
theorem Chip.Inv.doCalRun (h : s.Inv k) : (doCalRun s).Inv k := h.setFlag
theorem Chip.Inv.calFigs (h : s.Inv k) {i} : (s.calFigs i).Inv k := by
  refine h.foldl fun _ _ hu => ?_
  split
  exacts [hu.setS, hu.setS, hu]
theorem Chip.Inv.calApply (h : s.Inv k) {k'} : (s.calApply k').Inv k := by
  dsimp only [Chip.calApply]
  split
  exacts [.foldl (h.foldl (fun _ _ hu => hu.setF)) (fun _ _ hu => hu.setF), h.same, h.foldl (fun _ _ hu => hu.setS), h]
theorem Chip.Inv.doCalDone (h : s.Inv k) {items lanes skipped} : (doCalDone items lanes skipped s).Inv k :=
  .raise (.raiseIf (.setFlag (.setF (.setF (.setF
    (.foldl (h.foldl (fun _ _ hu => .ite hu.calFigs.calApply hu.calFigs)) (fun _ _ hu => hu.setF.setF)))))))
theorem Chip.Inv.doCalStoreEnd (h : s.Inv k) {values tj left} : (doCalStoreEnd values tj left s).Inv k := by
  unfold Machine.doCalStoreEnd
  dsimp only
  split
  · exact h.raise
  · exact h.setFlashBytes.setFlashBytes.setFlag.raise
  · exact h.setFlashBytes.setFlashBytes.setFlag.setF.setFlag.raise
theorem Chip.Inv.doMbistDone (h : s.Inv k) {rows mems units} : (doMbistDone rows mems units s).Inv k :=
  .settle (.grpSettle (.grpSettle (.foldl (h.setFlag.bumpSat.foldl (fun _ _ hu => hu.setFlag.setF.raise))
    (fun _ _ hu => .ite hu.fenceIdle hu))))
theorem Chip.Inv.gpioLevels (h : s.Inv k) : ((s.gpioLevels).2).Inv k := h.free
theorem Chip.Inv.readWord (h : s.Inv k) {a} : ((s.readWord a).2).Inv k := by
  dsimp only [Chip.readWord]
  split
  exacts [h, by split; exacts [h.gpioLevels, by split; exacts [h.free, by split; exacts [h, h]]]]
theorem Chip.Inv.readReg (h : s.Inv k) {m a} : ((s.readReg m a).2).Inv k := by
  dsimp only [Chip.readReg]
  split
  exacts [h.readWord.same, by split; exacts [h, by split; exacts [by split; exacts [h, h.doChainRead], h.readWord]]]
theorem Chip.Inv.doCapture (h : s.Inv k) : (doCapture s).Inv k := h.setF.setF.setF.setF
theorem Chip.Inv.doPhaseAdj (h : s.Inv k) {v} : (doPhaseAdj v s).Inv k := .ite h.stepBy h.same
theorem Chip.Inv.fromSecond (h : s.Inv k) {t} : ((s.fromSecond t).2).Inv k := by
  dsimp only [Chip.fromSecond]
  split
  exacts [h, by split; exacts [h, h.free]]
theorem Chip.Inv.doPpsEdge (h : s.Inv k) {i} : (doPpsEdge i s).Inv k := by
  unfold Machine.doPpsEdge
  extract_lets bit d r ps s1 seen _ s2 s3
  have h1 : s1.Inv k := h.fromSecond.roundFree.setS
  have h3 : s3.Inv k := h1.same.timeSettle
  exact .ite h3.correct h3
theorem Chip.Inv.doPpsTimeout (h : s.Inv k) {i} : (doPpsTimeout i s).Inv k := h.same.timeSettle
theorem Chip.Inv.doPpsoutPulse (h : s.Inv k) : (doPpsoutPulse s).Inv k := .ite h.same h
theorem Chip.Inv.doTtSourceTimeout (h : s.Inv k) : (doTtSourceTimeout s).Inv k := h.same.timeSettle
theorem Chip.Inv.pathJump (h : s.Inv k) {pd2} : (s.pathJump pd2).Inv k := .ite h.bump.raise.same.latchPs.raise h.bump.raise.same
theorem Chip.Inv.acceptExchange (h : s.Inv k) {theta2 pd2 gm hops} : (s.acceptExchange theta2 pd2 gm hops).Inv k :=
  .ite (.correct (.timeSettle (.same (.evc (.bump (.ite h.free.setF h.latchPs))))))
    (.timeSettle (.same (.evc (.bump (.ite h.free.setF h.latchPs)))))
theorem Chip.Inv.timeExchange (h : s.Inv k) {p l} : (s.timeExchange p l).Inv k := by
  unfold Chip.timeExchange
  refine .ite h ?_
  dsimp only
  split
  exacts [.ite h.pathJump h.acceptExchange, .ite h.bump h.bump.same.timeSettle]
theorem Chip.Inv.doTimeMsgRx (h : s.Inv k) {p payload} : (doTimeMsgRx p payload s).Inv k := h.timeExchange
theorem Chip.Inv.consume (h : s.Inv k) {p m} : (s.consume p m).Inv k := by
  dsimp only [Chip.consume]
  split
  exacts [h.timeExchange, by split; exacts [h.apsAccept, h], h.same]
theorem Chip.Inv.forward (h : s.Inv k) {p m route} : (s.forward p m route).Inv k :=
  .ite (.ite h (h.same.foldl (fun _ _ hu => .ite hu hu.sendOn))) (by split; exacts [h.sendOn, h])
theorem Chip.Inv.tamustReceive (h : s.Inv k) {p bytes aborted route} : (s.tamustReceive p bytes aborted route).Inv k := by
  dsimp only [Chip.tamustReceive]
  split
  exacts [h.bump, .ite h.evc (.ite (.forward (.ite h.evc.consume h.evc)) (.ite h.evc.consume h.evc))]
theorem Chip.Inv.doTamustMsgRx (h : s.Inv k) {p bytes aborted route} : (doTamustMsgRx p bytes aborted route s).Inv k := .ite
    h.tamustReceive h
theorem Chip.Inv.doTimeMsgTx (h : s.Inv k) {p} : (doTimeMsgTx p s).Inv k := .ite h.newMsg.sendOn h
theorem Chip.Inv.doHelloTx (h : s.Inv k) {p} : (doHelloTx p s).Inv k := .ite h.newMsg.sendOn h
theorem Chip.Inv.doFlEnable (h : s.Inv k) {c} : (doFlEnable c s).Inv k := h.setBit.flRecompute
theorem Chip.Inv.doFlDisable (h : s.Inv k) {c} : (doFlDisable c s).Inv k := h.clrBit.flRecompute
theorem Chip.Inv.doFlHeld (h : s.Inv k) {c t rx} : (doFlHeld c t rx s).Inv k := .ite h h.setFlag.same.raiseIf
theorem Chip.Inv.doFlSlip (h : s.Inv k) {c t rx} : (doFlSlip c t rx s).Inv k := .ite h.bump.raise h
theorem Chip.Inv.plainWrite (h : s.Inv k) {a w} : (s.plainWrite a w).Inv k := by
  dsimp only [Chip.plainWrite]
  split
  exacts [h.wr, h]
theorem Chip.Inv.evtClear (h : s.Inv k) {base w now} : (s.evtClear base w now).Inv k := .ite h.wr.timSettle h.wr
theorem Chip.Inv.evtSticky (h : s.Inv k) {base w} : (s.evtSticky base w).Inv k := h.plainWrite.wr
theorem Chip.Inv.writeTop (h : s.Inv k) {a w} : (s.writeTop a w).Inv k :=
  .ite h.doCommit (.ite h.shadowRevert (.ite (h.foldl (fun _ _ hu => hu.doVecAck)) h.plainWrite))
theorem Chip.Inv.writeGate (h : s.Inv k) {m w} : (s.writeGate m w).Inv k :=
  h.foldl (fun _ _ hu => .ite hu.doGateRequest (.ite hu.doGateCancel hu.doUngate))
theorem Chip.Inv.writeReset (h : s.Inv k) {m w} : (s.writeReset m w).Inv k := by
  unfold Chip.writeReset
  extract_lets s1
  have h1 : s1.Inv k := h.foldl fun _ _ hu => .ite hu.doIslRstSet hu.doIslRstRelease
  exact .ite h1.doDeviceReset h1.doSystemReset
theorem Chip.Inv.writeClk (h : s.Inv k) {m a w} : (s.writeClk m a w).Inv k :=
  .ite h.doRootCfgWrite (.ite h.writeGate (.ite h.writeReset (.ite (.ite h.doDeepSleep h.plainWrite) h.plainWrite)))
theorem Chip.Inv.writeBootCtrl (h : s.Inv k) {m w} : (s.writeBootCtrl m w).Inv k := by
  unfold Chip.writeBootCtrl
  extract_lets s1 s2 s3 s4 s5
  have h1 : s1.Inv k := h.setFlag
  have h2 : s2.Inv k := .ite h1.setFlag h1
  have h3 : s3.Inv k := .ite h2.doClrBad h2
  have h4 : s4.Inv k := .ite h3.doConfirm h3
  have h5 : s5.Inv k := .ite h4.doFullSvc h4
  exact .ite h5.doAuthLock h5
theorem Chip.Inv.writeBoot (h : s.Inv k) {m a w} : (s.writeBoot m a w).Inv k :=
  .ite h.writeBootCtrl (.ite (by split; exacts [h.doXspiRead, h.doXspiProgram, h.doXspiErase, h.doXspiOther]) h.plainWrite)
theorem Chip.Inv.writePool (h : s.Inv k) {m a w} : (s.writePool m a w).Inv k := by
  unfold Chip.writePool
  extract_lets s1
  have h1 : s1.Inv k := .ite h.doScrubGo h
  exact .ite h.doPoolOwnWrite (.ite (.ite h1.doScrubStop h1) (.ite h.doRepairGo (.ite (.ite h.doMevPop h) h.plainWrite)))
theorem Chip.Inv.writeMgmt (h : s.Inv k) {m user a w} : (s.writeMgmt m user a w).Inv k :=
  .ite (.ite (.ite h.doCoreRestart h.coreHold) (.ite h.doWdtKick h.plainWrite)) (.ite h.doH2fGo (.ite h h.plainWrite))
theorem Chip.Inv.writeEvc (h : s.Inv k) {a w} : (s.writeEvc a w).Inv k :=
  .ite (.ite h.doSnapNow h) (.ite h.doSmpConfigWrite (.ite h.doSmpConfigWrite (.ite h.doSmpRpWrite h.plainWrite)))
theorem Chip.Inv.writeTim (h : s.Inv k) {a w} : (s.writeTim a w).Inv k := .ite (.ite h.doHistClr h)
    (.ite h.doDcoFreqWrite h.plainWrite.timSettle)
theorem Chip.Inv.writeSlot (h : s.Inv k) {k' a w} : (s.writeSlot k' a w).Inv k :=
  .ite (.ite h (.ite h.armSlot (.ite h.disarmSlot h))) (.ite h.raise h.plainWrite)
theorem Chip.Inv.writeFl (h : s.Inv k) {w} : (s.writeFl w).Inv k := h.foldl
    (fun _ _ hu => .ite hu (.ite hu.doFlEnable hu.doFlDisable))
theorem Chip.Inv.writeWst (h : s.Inv k) {a w} : (s.writeWst a w).Inv k :=
  .ite (.ite h.doCapture h) (.ite h.doPhaseAdj
    (.ite h.setNodeId.timeSettle (.ite h.writeSlot (.ite h.writeFl h.plainWrite.timeSettle))))
theorem Chip.Inv.writeSec (h : s.Inv k) {m a w} : (s.writeSec m a w).Inv k :=
  .ite (by split; exacts [h.doZeroSlot, h.doZeroAll.ksResult, h.doProvision, h.doOtpKill, h.ksResult]) (.ite h.same h.plainWrite)
theorem Chip.Inv.writeFront (h : s.Inv k) {m a w} : (s.writeFront m a w).Inv k :=
  .ite h.doSpiGo (.ite h.doSpiGo (.ite h.doI2cGo (.ite h.plainWrite h.feRefuse)))
theorem Chip.Inv.writeMon (h : s.Inv k) {m a w} : (s.writeMon m a w).Inv k := by
  unfold Chip.writeMon
  extract_lets s1 c
  have h1 : s1.Inv k := h.plainWrite
  exact .ite (.ite h.doMonEnSet (.ite h.doMonEnClear h)) (.ite (.ite h1.doMonQueueFlush (.ite h1.doMonQueuePop h1))
    (.ite (.ite h1 h.feRefuse) (.ite (.ite h1.monClear (.ite h1.monLimitClear h1)) (.ite h.writeFront h1))))
theorem Chip.Inv.writeTst (h : s.Inv k) {a w} : (s.writeTst a w).Inv k := by
  unfold Chip.writeTst
  extract_lets s1 s2 _
  have h2 : s2.Inv k := .ite h.plainWrite (h.plainWrite.foldl fun _ _ hu => hu.abandonSession)
  exact .ite h2.bistSettle (.ite (.ite h.doPuGo h) (.ite (.ite h.doCalRun h) (.ite h.doRetest h.plainWrite)))
theorem Chip.Inv.writePcie (h : s.Inv k) {a w} : (s.writePcie a w).Inv k := .ite h.plainWrite.pbaSend h.plainWrite
theorem Chip.Inv.writeTxCtrl (h : s.Inv k) {c w} : (s.writeTxCtrl c w).Inv k := .ite h.plainWrite.txEnFalls h.plainWrite.txEval
theorem Chip.Inv.writeAcqCtrl (h : s.Inv k) {c w} : (s.writeAcqCtrl c w).Inv k := by
  unfold Chip.writeAcqCtrl
  extract_lets on s1
  have h1 : s1.Inv k := .ite h.doAcqEnSet (.ite h.doAcqEnClear h)
  exact .ite (.ite h1.doRestartCold h1.doRestartWarm) h1
theorem Chip.Inv.writeSleep (h : s.Inv k) {c w} : (s.writeSleep c w).Inv k :=
  h.foldl (fun _ _ hu => .ite hu (.ite hu.doHubSleepMark (.ite (.ite hu.doUpstreamSleep hu.doUpstreamWake) hu.putBit)))
theorem Chip.Inv.writeInletTx (h : s.Inv k) {c w} : (s.writeInletTx c w).Inv k :=
  .ite (.ite h.plainWrite.doInletSend h.plainWrite) (.ite h.plainWrite.doInletAck h.plainWrite)
theorem Chip.Inv.writeSubc (h : s.Inv k) {c a w} : (s.writeSubc c a w).Inv k :=
  .ite h.writeSleep (.ite (.ite h.plainWrite.doInletEnClear h.plainWrite.inletSettle)
    (.ite h.writeInletTx (.ite (.ite h.doQueueFlush (.ite h.doQueuePop h)) h.plainWrite)))
theorem Chip.Inv.trailsSettle (h : s.Inv k) {c} : (s.trailsSettle c).Inv k := h.foldl (fun _ _ hu => hu.trailSettle)
theorem Chip.Inv.writePmon (h : s.Inv k) {c a w} : (s.writePmon c a w).Inv k :=
  .trailSettle (.ite (.doPmClear (.ite h.plainWrite.doPmEnable h.plainWrite)) (.ite h.plainWrite.doPmEnable h.plainWrite))
theorem Chip.Inv.writeLenc (h : s.Inv k) {c a w} : (s.writeLenc c a w).Inv k := by
  unfold Chip.writeLenc
  extract_lets s1 s2
  have h1 : s1.Inv k := .ite h.doTxLoad h
  have h2 : s2.Inv k := .ite h1.doRxLoad h1
  exact .ite (.ite h2.doSwapNow h2) h.plainWrite.lencSettle
theorem Chip.Inv.writeLine (h : s.Inv k) {c a w} : (s.writeLine c a w).Inv k := by
  dsimp only [Chip.writeLine]
  split
  exacts [.ite h.writeTxCtrl h.plainWrite, .ite h.writeAcqCtrl h.plainWrite, h.plainWrite.trailsSettle.settle, h.writePmon,
    h.writeSubc, h.writeLenc, h.plainWrite]
theorem Chip.Inv.writeLane (h : s.Inv k) {l a w} : (s.writeLane l a w).Inv k := by
  unfold Chip.writeLane
  extract_lets off s1 s2 p1 i1 i2
  have h2 : s2.Inv k := .ite h.setF h.setF.txSleepWrite
  have hp : p1.Inv k := h.prbsWrite
  have hi : i2.Inv k := .ite h.setF.doInjOne h.setF
  exact .ite h.laneCfgWrite (.ite (.ite h2 h2.rxSleepWrite)
    (.ite h.tapWrite (.ite (.ite hp.doChkClr hp) (.ite (.ite hi.doInjBurst hi) h.plainWrite))))
theorem Chip.Inv.writeProt (h : s.Inv k) {a w} : (s.writeProt a w).Inv k :=
  .ite (.ite h.doUnfreeze h) (.ite (.ite h.doLrPop h) (.ite h.pgWrite h.plainWrite.settle))
theorem Chip.Inv.writeReg (h : s.Inv k) {m user a w} : (s.writeReg m user a w).Inv k := by
  dsimp only [Chip.writeReg]
  split
  · exact h.evtClear
  · exact h.evtSticky
  · split
    · exact h.writeTop
    · exact h.writeClk
    · exact h.writeBoot
    · exact h.writePool
    · exact h.writeMgmt
    · exact h.writeEvc
    · exact h.writeTim
    · exact h.writeWst
    · exact h.writeSec
    · exact h.writeMon
    · exact h.writeTst
    · exact h.writePcie
    · exact h.writeLane
    · exact h.writeProt
    · exact .ite h.writeLine h.plainWrite
theorem Chip.Inv.writeHalf (h : s.Inv k) {m user a be w} : (s.writeHalf m user a be w).Inv k := .ite h.writeReg h.raise
theorem Chip.Inv.doRegisterWrite (h : s.Inv k) {m user a w be} : (doRegisterWrite m user a w be s).Inv k := h.writeHalf
theorem Chip.Inv.doLoRead (h : s.Inv k) {m a} : (doLoRead m a s).Inv k := h.readReg.respond
theorem Chip.Inv.doEvtStatWrite (h : s.Inv k) {k' w now} : (doEvtStatWrite k' w now s).Inv k := h.evtClear
theorem Chip.Inv.doEvtMaskWrite (h : s.Inv k) {k' w} : (doEvtMaskWrite k' w s).Inv k := h.plainWrite
theorem Chip.Inv.doBridgeTransfer (h : s.Inv k) {b back reg} : (doBridgeTransfer b back reg s).Inv k :=
  .ite (by split; exacts [h.bridgeUsed.busError, h.bridgeUsed.modClk]) h.bridgeUsed.modClk
theorem Chip.Inv.doBridgeQuiescent (h : s.Inv k) {b} : (doBridgeQuiescent b s).Inv k := .ite h.setBit h
theorem Chip.Inv.bridgeMark (h : s.Inv k) {b} : (s.bridgeMark b).Inv k := by
  dsimp only [Chip.bridgeMark]
  split
  exacts [h.bridgeUsed, h]
theorem Chip.Inv.holdBacks (h : s.Inv k) {m n} : (s.holdBacks m n).Inv k := h.bump.evc
theorem Chip.Inv.poolBeat {v : BusRun} (h : v.chip.Inv k) {m write w be data} : (v.poolBeat m write w be data).chip.Inv k := by
  unfold BusRun.poolBeat
  dsimp only
  split
  · split
    exacts [h.evc, h.evc.writeWord64]
  · split
    exacts [h.evc.readWord64, h.evc.readWord64]

theorem Chip.Inv.regBeat {v : BusRun} (h : v.chip.Inv k) {m r a be data} : (v.regBeat m r a be data).chip.Inv k := by
  unfold BusRun.regBeat
  refine List.foldlRecOn (motive := fun u : BusRun => u.chip.Inv k) _ _ h fun u hu p _ => ?_
  dsimp only
  split
  exacts [hu.writeHalf, hu.readReg]

theorem Chip.Inv.busServe (h : s.Inv k) {m r} : (s.busServe m r).chip.Inv k := by
  unfold Chip.busServe
  split; · exact h.bump
  split; · exact h
  split; · exact h
  split
  · exact List.foldlRecOn (motive := fun u : BusRun => u.chip.Inv k) _ _ h fun u hu p _ => hu.poolBeat
  · dsimp only
    split; · exact h.bridgeMark
    exact List.foldlRecOn (motive := fun u : BusRun => u.chip.Inv k) _ _ h.bridgeMark fun u hu p _ => hu.regBeat

theorem Chip.Inv.answer {v : BusRun} (h : v.chip.Inv k) {m r} : (v.answer m r).Inv k := by
  unfold BusRun.answer
  split
  exacts [h.busError, h.respond]

theorem Chip.Inv.busRequest (h : s.Inv k) {m r} : (s.busRequest m r).chip.Inv k := by
  unfold Chip.busRequest
  split
  · exact h.extFault
  · exact h.evc.bridgeMark.busServe.answer

theorem Chip.Inv.hostPerform (h : s.Inv k) {p} : (s.hostPerform p).chip.Inv k := by
  unfold Chip.hostPerform
  split; · exact h.busError
  split
  · exact .respond (List.foldlRecOn (motive := fun u : BusRun => u.chip.Inv k) _ _ h fun u hu p _ => hu.regBeat)
  · exact h.busRequest

theorem Chip.Inv.hostNext (h : s.Inv k) : s.hostNext.Inv k := by
  unfold Chip.hostNext
  split
  exacts [h, h.hostPerform.modPci]
theorem Chip.Inv.doBusRequest (h : s.Inv k) {m r held} : (doBusRequest m r held s).Inv k :=
  .ite h (.ite h.holdBacks.hostNext h.holdBacks.busRequest)
theorem Chip.Inv.doJtagRegAccess (h : s.Inv k) {a write be w} : (doJtagRegAccess a write be w s).Inv k :=
  .ite h h.busRequest
theorem Chip.Inv.sendAll (h : s.Inv k) {type payload} : (s.sendAll type payload).Inv k := h.newMsg.foldl (fun _ _ hu => hu.sendOn)
theorem Chip.Inv.domSubmit (h : s.Inv k) {core k' id t act groups gpio} : (s.domSubmit core k' id t act groups gpio).Inv k :=
  h.fillSlot.armSlot.same.sendAll.mboxAnswer
theorem Chip.Inv.doDomRipple (h : s.Inv k) {core} : (doDomRipple core s).Inv k :=
  .ite (.ite h.mboxAnswer (.ite h.mboxAnswer (.ite h.mboxAnswer (by split; exacts [h.mboxAnswer, h.domSubmit])))) h
theorem Chip.Inv.domDisarm (h : s.Inv k) {k'} : ((s.domDisarm k').2).Inv k := by
  dsimp only [Chip.domDisarm]
  split
  exacts [h.disarmSlot, h]
theorem Chip.Inv.doDomCancel (h : s.Inv k) {core} : (doDomCancel core s).Inv k := by
  unfold Machine.doDomCancel
  dsimp only
  split
  · split
    · exact h.mboxAnswer
    · refine .mboxAnswer (.sendAll ?_)
      split
      exacts [h.domDisarm, h]
  · exact h
theorem Chip.Inv.doDomStatus (h : s.Inv k) {core} : (doDomStatus core s).Inv k := by
  refine .ite ?_ h
  split
  exacts [h.mboxAnswer, h.mboxAnswer]
theorem Chip.Inv.domAnswer (h : s.Inv k) {p id origin status} : (s.domAnswer p id origin status).Inv k := h.newMsg.sendOn
theorem Chip.Inv.domNote (h : s.Inv k) {origin id slot} : (s.domNote origin id slot).Inv k := h.same
theorem Chip.Inv.domSched (h : s.Inv k) {p b} : (s.domSched p b).Inv k :=
  .ite h (.ite h.domNote.raise.domAnswer (by split; exacts [h.domNote.raise.domAnswer, h.fillSlot.armSlot.domNote.domAnswer]))
theorem Chip.Inv.doRippleSched (h : s.Inv k) : (doRippleSched s).Inv k := by
  unfold Machine.doRippleSched
  split
  · next hx => exact (h.ringTake hx).domSched
  · exact h
theorem Chip.Inv.doRippleCancel (h : s.Inv k) : (doRippleCancel s).Inv k := by
  unfold Machine.doRippleCancel
  split
  · exact h
  · next x hx =>
    have hu : x.2.2.Inv k := h.ringTake hx
    dsimp only
    split
    exacts [.ite hu.domDisarm.domNote.domAnswer hu.domDisarm, hu]
theorem Chip.Inv.doRippleAck (h : s.Inv k) : (doRippleAck s).Inv k := by
  unfold Machine.doRippleAck
  split
  · exact h
  · next hx => exact .ite (h.ringTake hx).same (h.ringTake hx)
theorem Chip.Inv.applyGrant (h : s.Inv k) {c node dn up} : (s.applyGrant c node dn up).Inv k :=
    h.setF.setFlag.setF.setF.commitEvent.doInletAck
theorem Chip.Inv.doGrant (h : s.Inv k) : (doGrant s).Inv k := by
  unfold Machine.doGrant
  split
  · exact h
  · next hx => exact .ite (h.ringTake hx).applyGrant (h.ringTake hx)
theorem Chip.Inv.gccNext (h : s.Inv k) {c t g} : ((s.gccNext c t g).2).Inv k := by
  dsimp only [Chip.gccNext]
  split
  exacts [h, h.captureRead.setF]
theorem Chip.Inv.gccTake (h : s.Inv k) {c t g n} : (s.gccTake c t g n).2.Inv k := by
  induction n with
  | zero => exact h
  | succ n ih => exact ih.gccNext
theorem Chip.Inv.frameHeader (h : s.Inv k) {c t fsn parity pin} : (s.frameHeader c t fsn parity pin).Inv k := by
  unfold Chip.frameHeader
  extract_lets v sealed s1 bip bei acc g0 g1 tv p tm lock s2 i hdr
  have h1 : s1.Inv k := h.sealFrame
  have hbip : bip.2.Inv k := by
    unfold bip
    split
    exacts [h1, h1.free]
  have hg : g1.2.Inv k := hbip.gccTake.gccTake
  have htm : tm.2.Inv k := by
    unfold tm
    split
    exacts [hg.tamustBytes, hg]
  have h2 : s2.Inv k := .ite htm.setPort htm
  exact h2.setF.modFrm
theorem Chip.Inv.doFrameStartTx (h : s.Inv k) {c t parity pin} : (doFrameStartTx c t parity pin s).Inv k := .modFrm
    (.ite h.frameHeader h)
theorem Chip.Inv.doHostRequest (h : s.Inv k) {bar2 write ofs bytes} : (doHostRequest bar2 write ofs bytes s).Inv k := .ite h
    h.evc.modPci
theorem Chip.Inv.hostErr (h : s.Inv k) {p cause} : (s.hostErr p cause).Inv k :=
  .ite h.evc.bump.raise h.evc.bump.raise.setFlag.setF.setFlag.setFlag.setF
theorem Chip.Inv.doHostCompletion (h : s.Inv k) : (doHostCompletion s).Inv k := by
  unfold Machine.doHostCompletion
  split
  · exact h
  split
  · exact h
  dsimp only
  split
  exacts [h.modPci.hostErr.modPci, h.modPci.modPci, h.modPci.modPci]
theorem Chip.Inv.endpointReset (h : s.Inv k) : s.endpointReset.Inv k := by
  unfold Chip.endpointReset
  extract_lets mine regs hi chain
  have hr : k = .registers → Store.wf RegMap.reset regs = true := by
    rintro rfl
    exact Store.wf_clear _ _ mine h.1
  refine .setF ?_
  cases k with
  | registers => exact ⟨hr rfl, h.2⟩
  | memories => exact h
  | fuses f => exact h
theorem Chip.Inv.setLink (h : s.Inv k) {speed width} : (s.setLink speed width).Inv k := h.setF.setF
theorem Chip.Inv.doLinkUp (h : s.Inv k) {speed width} : (doLinkUp speed width s).Inv k := .ite h h.setFlag.setLink.raise
theorem Chip.Inv.doLinkDown (h : s.Inv k) : (doLinkDown s).Inv k := .ite h.endpointReset.setFlag.setLink.bump.raise h
theorem Chip.Inv.doFlr (h : s.Inv k) : (doFlr s).Inv k := .ite h.endpointReset.raise h
theorem Chip.Inv.doConfigRequest (h : s.Inv k) {r} : (doConfigRequest r s).Inv k :=
  .ite (by split; exacts [h.setF, h.modPci.pbaSend, h.modPci, h.modPci]) h
theorem Chip.Inv.doSpeedChange (h : s.Inv k) {speed width} : (doSpeedChange speed width s).Inv k := .ite h.setLink.raiseIf h
theorem Chip.Inv.busBytes (h : s.Inv k) {m a n} : (s.busBytes m a n).2.Inv k := by
  unfold Chip.busBytes
  refine List.foldlRecOn (motive := fun u : Option (List Nat) × Chip => u.2.Inv k) _ _ h fun u hu i _ => ?_
  split
  exacts [hu, hu.busRequest]
theorem Chip.Inv.busStore (h : s.Inv k) {m a l} : (s.busStore m a l).2.Inv k := by
  unfold Chip.busStore
  refine List.foldlRecOn (motive := fun u : Bool × Chip => u.2.Inv k) _ _ h fun u hu i _ => ?_
  split
  exacts [hu.busRequest, hu]
theorem Chip.Inv.loseNext (h : s.Inv k) {slot} : (s.loseNext slot).Inv k := .lencSettleAll
    (h.foldl (fun _ _ hu => .ite hu.clearKey.raise hu))
theorem Chip.Inv.unwrapInto (h : s.Inv k) {kek target blob} : ((s.unwrapInto kek target blob).2).Inv k := by
  dsimp only [Chip.unwrapInto]
  split
  exacts [h, by split; exacts [h, by split; exacts [h.setSlot.loseNext, by split; exacts [h.setSlot, h.setSlot]]]]
theorem Chip.Inv.pendCommit (h : s.Inv k) {slot} : (s.pendCommit slot).Inv k := .ite h.setSlot.raise h
theorem Chip.Inv.startHead (h : s.Inv k) {core ring a} : (s.startHead core ring a).Inv k := h.busBytes.same.setF.evc
theorem Chip.Inv.resume (h : s.Inv k) {core j} : (s.resume core j).Inv k := h.same
theorem Chip.Inv.doJobStart (h : s.Inv k) {core} : (doJobStart core s).Inv k :=
  .ite h (by split; exacts [h, h.resume, by split; exacts [h, h.startHead]])
theorem Chip.Inv.countBlocks (h : s.Inv k) {n} : (s.countBlocks n).Inv k := .ite h h.evc.free.evc
theorem Chip.Inv.doJobSuspend (h : s.Inv k) {done} : (doJobSuspend done s).Inv k := by
  unfold Machine.doJobSuspend
  split
  exacts [h, .ite h h.same.countBlocks.evc]
theorem Chip.Inv.jobWork (h : s.Inv k) {j} : ((s.jobWork j).2).Inv k := by
  dsimp only [Chip.jobWork]
  split
  · exact h
  · split
    · exact h
    · split
      · exact h.busBytes
      · split
        · exact h.busBytes.unwrapInto.evc
        · split
          exacts [h.busBytes, h.busBytes.busStore]
theorem Chip.Inv.doJobEnd (h : s.Inv k) {core done} : (doJobEnd core done s).Inv k := by
  unfold Machine.doJobEnd
  split
  · exact h
  · refine .ite h ?_
    extract_lets r ok blocks s1 s2 cores _ s3
    have h3 : s3.Inv k := h.jobWork.countBlocks.busStore.same.pendCommit
    exact .ite h3.bump.raiseIf h3.bump.raiseIf.raise
theorem Chip.Inv.doMsimTimer (h : s.Inv k) {k' mem v} : (doMsimTimer k' mem v s).Inv k :=
  .ite (by split; exacts [h, .ite h.modPg.settle h]) (.ite h.setFlag.raise.settle h)
theorem Chip.Inv.setEgress (h : s.Inv k) {p b} : (s.setEgress p b).Inv k := .ite h h.setFlag.raisePort
theorem Chip.Inv.doEgressActionStart (h : s.Inv k) {p} : (doEgressActionStart p s).Inv k := .ite h h.setEgress
theorem Chip.Inv.doEgressActionEnd (h : s.Inv k) {p} : (doEgressActionEnd p s).Inv k := .ite h.setEgress h
theorem Chip.Inv.setIngress (h : s.Inv k) {p b} : (s.setIngress p b).Inv k := .ite h h.setFlag.raisePort
theorem Chip.Inv.doIngReplStart (h : s.Inv k) {p} : (doIngReplStart p s).Inv k := .ite h.setIngress h
theorem Chip.Inv.doIngReplEnd (h : s.Inv k) {p} : (doIngReplEnd p s).Inv k := .ite h h.setIngress
theorem Chip.Inv.portCounters (h : s.Inv k) {p w} : (s.portCounters p w).Inv k :=
  h.addPair.addPair.addPair.addPair.addPair.bump.addPair.bump.bump.bump.evc.evc
theorem Chip.Inv.portStatus (h : s.Inv k) {p w} : (s.portStatus p w).Inv k := by
  unfold Chip.portStatus
  extract_lets was s1 s2 s3 s4
  have h2 : s2.Inv k := h.setFlag.setFlag.setFlag.setFlag.setLive
  have h3 : s3.Inv k := .ite h2.raisePort h2
  have h4 : s4.Inv k := .ite h3.raisePort h3
  exact .ite h4.raisePort h4
theorem Chip.Inv.doClientCodewordRx (h : s.Inv k) {p w} : (doClientCodewordRx p w s).Inv k := .ite h.portCounters.portStatus h
theorem Chip.Inv.recAccess (h : s.Inv k) {m a write w} : (s.recAccess m a write w).2.2.Inv k := h.busRequest
theorem Chip.Inv.applyBlob (h : s.Inv k) {b} : (s.applyBlob b).Inv k := h.unwrapInto.fit.setF.raiseIf
theorem Chip.Inv.applyEntry (h : s.Inv k) {m type b} : ((s.applyEntry m type b).1).Inv k := by
  dsimp only [Chip.applyEntry]
  split
  · exact h.recAccess
  · split
    exacts [h.recAccess, h.recAccess.recAccess]
  · exact h.recAccess
  · exact h.doCommit
  · exact h.applyBlob
  · exact h.foldl (fun _ _ hu => .ite hu.setF hu)
  · exact h.modMgmt
  · exact h
theorem Chip.Inv.applyNext (h : s.Inv k) {m r service} : ((s.applyNext m r service).2).Inv k := by
  dsimp only [Chip.applyNext]
  split
  exacts [h.modBoot, by split; exacts [h, h.busBytes]]
theorem Chip.Inv.recFail (h : s.Inv k) {r cause} : (s.recFail r cause).Inv k := h.setF.modBoot.imageFail.bootAdvance
theorem Chip.Inv.svcFail (h : s.Inv k) : s.svcFail.Inv k := h.setFlag.modBoot
theorem Chip.Inv.recDone (h : s.Inv k) : s.recDone.Inv k := h.bumpSat
theorem Chip.Inv.applyEntries (h : s.Inv k) {fuel m type b} : (Chip.applyEntries fuel s m type b).chip.Inv k := by
  induction fuel generalizing s b with
  | zero => exact h
  | succ fuel ih =>
    dsimp only [Chip.applyEntries]
    split; · exact h
    split; · exact h.applyEntry
    split; · exact h.applyEntry
    exact ih h.applyEntry

theorem Chip.Inv.applyBytes (h : s.Inv k) {m l x} (e : s.applyBytes m l = some x) : x.chip.Inv k := by
  unfold Chip.applyBytes at e
  dsimp only at e
  split at e
  · cases e
    exact h.applyEntries
  · cases e

theorem Chip.Inv.applyNext_run (h : s.Inv k) {m r service x} (e : (s.applyNext m r service).1 = some x) : x.chip.Inv k := by
  unfold Chip.applyNext at e
  dsimp only at e
  split at e
  · cases e
    exact h.modBoot.applyEntries
  split at e
  · exact h.applyBytes e
  · obtain ⟨l, -, hl⟩ := Option.bind_eq_some_iff.mp e
    exact h.busBytes.applyBytes hl

theorem Chip.Inv.applyEarly (h : s.Inv k) {r} : (s.applyEarly r).Inv k := by
  unfold Chip.applyEarly
  dsimp only
  split
  · exact h.applyNext.recFail
  · next hx =>
    have hu := h.applyNext_run hx
    exact .ite hu.recFail (.ite hu.modBoot hu.recDone.modBoot)
theorem Chip.Inv.applyService (h : s.Inv k) {core r} : (s.applyService core r).Inv k := by
  unfold Chip.applyService
  dsimp only
  split
  · exact h.applyNext.svcFail
  · next hx =>
    have hu := h.applyNext_run hx
    exact .ite hu.svcFail (.ite hu.modBoot hu.recDone.modBoot)
theorem Chip.Inv.doApplyRecord (h : s.Inv k) {core} : (doApplyRecord core s).Inv k := by
  unfold Machine.doApplyRecord
  dsimp only
  split
  exacts [.ite h.applyEarly h, .ite h.applyService h, h]
theorem Chip.Inv.doPollTimeout (h : s.Inv k) : (doPollTimeout s).Inv k := by
  refine .ite h ?_
  split
  exacts [.ite h.recFail h, .ite h.svcFail h]
theorem Chip.Inv.doAdcTick (h : s.Inv k) {c xi xq yi yq} : (doAdcTick c xi xq yi yq s).Inv k := h.setSat.setSat.setSat.setSat
theorem Chip.Inv.doAdcClipWindow (h : s.Inv k) {c xi xq yi yq} : (doAdcClipWindow c xi xq yi yq s).Inv k :=
  h.setFlag.setFlag.setFlag.setFlag.addPair.evc.raiseIf
theorem Chip.Inv.doCdTrackUpdate (h : s.Inv k) {r residual} : (doCdTrackUpdate r residual s).Inv k := .ite h.setRcv.raiseIf h
theorem Chip.Inv.doNlcBypassChange (h : s.Inv k) {c} : (doNlcBypassChange c s).Inv k := h.setFlag
theorem Chip.Inv.doEngFault (h : s.Inv k) {c engines} : (doEngFault c engines s).Inv k :=
  .settle (.stepNeed (h.foldl (fun _ _ hu => .ite hu.bumpSat.raise.takeOver hu)))
theorem Chip.Inv.doEngTakeover (h : s.Inv k) {c} : (doEngTakeover c s).Inv k := .ite h.setGrp.raise h
theorem Chip.Inv.doEngSfClear (h : s.Inv k) {c} : (doEngSfClear c s).Inv k := h.sfRecheck.settle
theorem Chip.Inv.doRotationExchange (h : s.Inv k) {c g} : (doRotationExchange c g s).Inv k := .ite h h.exchange.stepNeed.settle
theorem Chip.Inv.doLockChange (h : s.Inv k) {r flag v} : (doLockChange r flag v s).Inv k := h.setLock
theorem Chip.Inv.doCfrRange (h : s.Inv k) {r} : (doCfrRange r s).Inv k :=
  .ite h.raiseRcv.setLock.modRcv.leaveAcquired.rcvEnd (.ite h.raiseRcv.setLock.coldRestart.rcvEnd h.raiseRcv.setLock)
theorem Chip.Inv.latchQual (h : s.Inv k) {base valid f cd} : (s.latchQual base valid f cd).Inv k :=
  h.wr.evm.evm.evm.snr.snr.snr.fit.fit.fit.fitS.wr.wr.wr.wr.setPair.setPair.wr.wr.wr.wr.wr
theorem Chip.Inv.latchNoQual (h : s.Inv k) {base} : (s.latchNoQual base).Inv k := h.wr.foldl (fun _ _ hu => hu.wr)
theorem Chip.Inv.avgIter (h : s.Inv k) {any iters cws} : ((s.avgIter any iters cws).2).Inv k := by
  dsimp only [Chip.avgIter]
  split
  exacts [by split; exacts [h.free, h], h.roundFree]
theorem Chip.Inv.meanOf (h : s.Inv k) {l} : ((s.meanOf l).2).Inv k := by
  dsimp only [Chip.meanOf]
  split
  exacts [h, h.roundFree]
theorem Chip.Inv.combineQual (h : s.Inv k) {l} : ((s.combineQual l).2).Inv k := h.meanOf.meanOf.meanOf.meanOf
theorem Chip.Inv.latchSub (h : s.Inv k) {c q f} : (s.latchSub c q f).Inv k := .setRcv
    (.setSat (.avgIter (.ite h.latchQual h.latchNoQual)))
theorem Chip.Inv.qualEvents (h : s.Inv k) {c valid slips} : (s.qualEvents c valid slips).Inv k := h.raiseIf.raiseIf.raise.evc
theorem Chip.Inv.doQualBoundary (h : s.Inv k) {c car subs} : (doQualBoundary c car subs s).Inv k :=
  .ite (.qualEvents (.setSat (.avgIter (.foldl (.ite h.latchNoQual h.combineQual.latchQual) (fun _ _ hu => hu.latchSub)))))
    (.qualEvents (.setRcv (.setSat (.avgIter (.ite h.latchQual h.latchNoQual)))))
theorem Chip.Inv.idle (h : s.Inv k) : s.idle.Inv k := h.wstTick.laneTick.same.mgmtTick

/-- A command answers one chip, with or without the check of the clock ratios, and that chip keeps the invariant. -/
theorem exec_chip (k : StoreInv) (i : Instr) (s : State) :
    ∃ c, (exec i s = s.to c ∨ exec i s = s.guarded c) ∧ (s.chip.Inv k → c.Inv k) :=
  match i with
  | .registerWrite _ _ _ _ _ => ⟨_, .inr rfl, fun h => h.doRegisterWrite⟩
  | .loRead _ _ => ⟨_, .inl rfl, fun h => h.doLoRead⟩
  | .evtStatWrite _ _ _ => ⟨_, .inl rfl, fun h => h.doEvtStatWrite⟩
  | .evtMaskWrite _ _ => ⟨_, .inl rfl, fun h => h.doEvtMaskWrite⟩
  | .commit _ => ⟨_, .inl rfl, fun h => h.doCommit⟩
  | .shadowRevert _ => ⟨_, .inl rfl, fun h => h.doShadowRevert⟩
  | .bridgeTransfer _ _ _ => ⟨_, .inl rfl, fun h => h.doBridgeTransfer⟩
  | .bridgeQuiescent _ => ⟨_, .inl rfl, fun h => h.doBridgeQuiescent⟩
  | .phaseOk => ⟨_, .inl rfl, fun h => h.doPhaseOk⟩
  | .carrierJoin _ => ⟨_, .inl rfl, fun h => h.doCarrierJoin⟩
  | .txEnSet _ => ⟨_, .inl rfl, fun h => h.doTxEnSet⟩
  | .txEnClear _ => ⟨_, .inl rfl, fun h => h.doTxEnClear⟩
  | .muteSet _ => ⟨_, .inl rfl, fun h => h.doMuteSet⟩
  | .muteClear _ => ⟨_, .inl rfl, fun h => h.doMuteClear⟩
  | .reconfRampWrite _ _ => ⟨_, .inl rfl, fun h => h.doReconfRampWrite⟩
  | .rampUpDone _ => ⟨_, .inl rfl, fun h => h.doRampUpDone⟩
  | .rampDownDone _ => ⟨_, .inl rfl, fun h => h.doRampDownDone⟩
  | .reconfApply _ => ⟨_, .inl rfl, fun h => h.doReconfApply⟩
  | .maskCheck _ _ => ⟨_, .inl rfl, fun h => h.doMaskCheck⟩
  | .dacClipWindow _ _ => ⟨_, .inl rfl, fun h => h.doDacClipWindow⟩
  | .dacPllLol _ => ⟨_, .inl rfl, fun h => h.doDacPllLol⟩
  | .dacPllRelock _ => ⟨_, .inl rfl, fun h => h.doDacPllRelock⟩
  | .adcTick _ _ _ _ _ => ⟨_, .inl rfl, fun h => h.doAdcTick⟩
  | .adcClipWindow _ _ _ _ _ => ⟨_, .inl rfl, fun h => h.doAdcClipWindow⟩
  | .cdTrackUpdate _ _ => ⟨_, .inl rfl, fun h => h.doCdTrackUpdate⟩
  | .nlcBypassChange _ => ⟨_, .inl rfl, fun h => h.doNlcBypassChange⟩
  | .engFault _ _ => ⟨_, .inl rfl, fun h => h.doEngFault⟩
  | .engTakeover _ => ⟨_, .inl rfl, fun h => h.doEngTakeover⟩
  | .engSfClear _ => ⟨_, .inl rfl, fun h => h.doEngSfClear⟩
  | .rotationExchange _ _ => ⟨_, .inl rfl, fun h => h.doRotationExchange⟩
  | .lockChange _ _ _ => ⟨_, .inl rfl, fun h => h.doLockChange⟩
  | .cfrRange _ => ⟨_, .inl rfl, fun h => h.doCfrRange⟩
  | .qualBoundary _ _ _ => ⟨_, .inl rfl, fun h => h.doQualBoundary⟩
  | .signalWindow _ _ => ⟨_, .inl rfl, fun h => h.doSignalWindow⟩
  | .acqEnSet _ => ⟨_, .inl rfl, fun h => h.doAcqEnSet⟩
  | .acqEnClear _ => ⟨_, .inl rfl, fun h => h.doAcqEnClear⟩
  | .restartCold _ => ⟨_, .inl rfl, fun h => h.doRestartCold⟩
  | .restartWarm _ => ⟨_, .inl rfl, fun h => h.doRestartWarm⟩
  | .coarseFreqDone _ _ => ⟨_, .inl rfl, fun h => h.doCoarseFreqDone⟩
  | .scanBatch _ _ => ⟨_, .inl rfl, fun h => h.doScanBatch⟩
  | .trainPeriod _ _ _ => ⟨_, .inl rfl, fun h => h.doTrainPeriod⟩
  | .polTimingLock _ => ⟨_, .inl rfl, fun h => h.doPolTimingLock⟩
  | .pilotLockDone _ => ⟨_, .inl rfl, fun h => h.doPilotLockDone⟩
  | .stageBoundExpired _ => ⟨_, .inl rfl, fun h => h.doStageBoundExpired⟩
  | .lolTimeExpired _ => ⟨_, .inl rfl, fun h => h.doLolTimeExpired⟩
  | .warmCapture _ _ _ _ => ⟨_, .inl rfl, fun h => h.doWarmCapture⟩
  | .warmHoldExpired _ => ⟨_, .inl rfl, fun h => h.doWarmHoldExpired⟩
  | .acqFail _ => ⟨_, .inl rfl, fun h => h.doAcqFail⟩
  | .codewordDispatch _ => ⟨_, .inl rfl, fun h => h.doCodewordDispatch⟩
  | .decodeDone _ _ _ _ _ => ⟨_, .inl rfl, fun h => h.doDecodeDone⟩
  | .codewordRelease _ => ⟨_, .inl rfl, fun h => h.doCodewordRelease⟩
  | .sliceFault _ _ => ⟨_, .inl rfl, fun h => h.doSliceFault⟩
  | .sliceTakeover _ => ⟨_, .inl rfl, fun h => h.doSliceTakeover⟩
  | .fecSfClear _ => ⟨_, .inl rfl, fun h => h.doFecSfClear⟩
  | .cwLock _ _ => ⟨_, .inl rfl, fun h => h.doCwLock⟩
  | .cwLockLoss _ => ⟨_, .inl rfl, fun h => h.doCwLockLoss⟩
  | .stairBlock _ _ _ => ⟨_, .inl rfl, fun h => h.doStairBlock⟩
  | .upFcompUpdate _ _ => ⟨_, .inl rfl, fun h => h.doUpFcompUpdate⟩
  | .upstreamSleep _ _ => ⟨_, .inl rfl, fun h => h.doUpstreamSleep⟩
  | .upstreamWake _ _ => ⟨_, .inl rfl, fun h => h.doUpstreamWake⟩
  | .hubSleepMark _ _ _ => ⟨_, .inl rfl, fun h => h.doHubSleepMark⟩
  | .inletSend _ => ⟨_, .inl rfl, fun h => h.doInletSend⟩
  | .inletAck _ => ⟨_, .inl rfl, fun h => h.doInletAck⟩
  | .inletEnClear _ => ⟨_, .inl rfl, fun h => h.doInletEnClear⟩
  | .backoffExpired _ => ⟨_, .inl rfl, fun h => h.doBackoffExpired⟩
  | .inletSent _ => ⟨_, .inl rfl, fun h => h.doInletSent⟩
  | .respTimeout _ => ⟨_, .inl rfl, fun h => h.doRespTimeout⟩
  | .preambleDetected _ _ _ _ _ => ⟨_, .inl rfl, fun h => h.doPreambleDetected⟩
  | .headerComplete _ _ _ => ⟨_, .inl rfl, fun h => h.doHeaderComplete⟩
  | .payloadComplete _ _ => ⟨_, .inl rfl, fun h => h.doPayloadComplete⟩
  | .queuePop _ => ⟨_, .inl rfl, fun h => h.doQueuePop⟩
  | .queueFlush _ => ⟨_, .inl rfl, fun h => h.doQueueFlush⟩
  | .frameStartTx _ _ _ _ => ⟨_, .inl rfl, fun h => h.doFrameStartTx⟩
  | .lineBlockRx _ _ _ _ _ => ⟨_, .inl rfl, fun h => h.doLineBlockRx⟩
  | .lofAcq _ _ => ⟨_, .inl rfl, fun h => h.doLofAcq⟩
  | .frameRx _ _ _ => ⟨_, .inl rfl, fun h => h.doFrameRx⟩
  | .defectTimer _ _ _ _ => ⟨_, .inl rfl, fun h => h.doDefectTimer⟩
  | .degSecond _ _ _ => ⟨_, .inl rfl, fun h => h.doDegSecond⟩
  | .failSet _ _ _ => ⟨_, .inl rfl, fun h => h.doFailSet⟩
  | .failClear _ _ _ => ⟨_, .inl rfl, fun h => h.doFailClear⟩
  | .secondClose _ _ _ => ⟨_, .inl rfl, fun h => h.doSecondClose⟩
  | .secondCommit _ _ => ⟨_, .inl rfl, fun h => h.doSecondCommit⟩
  | .pmClear _ _ => ⟨_, .inl rfl, fun h => h.doPmClear⟩
  | .pmEnable _ _ => ⟨_, .inl rfl, fun h => h.doPmEnable⟩
  | .laneEnSet _ => ⟨_, .inl rfl, fun h => h.doLaneEnSet⟩
  | .laneEnClear _ => ⟨_, .inl rfl, fun h => h.doLaneEnClear⟩
  | .laneReconfig _ _ => ⟨_, .inl rfl, fun h => h.doLaneReconfig⟩
  | .laneLosAssert _ => ⟨_, .inl rfl, fun h => h.doLaneLosAssert⟩
  | .laneLosClear _ => ⟨_, .inl rfl, fun h => h.doLaneLosClear⟩
  | .lolWindow _ _ _ _ _ => ⟨_, .inl rfl, fun h => h.doLolWindow⟩
  | .trainConverged _ _ _ => ⟨_, .inl rfl, fun h => h.doTrainConverged⟩
  | .lockHoldExpired _ => ⟨_, .inl rfl, fun h => h.doLockHoldExpired⟩
  | .trainFail _ => ⟨_, .inl rfl, fun h => h.doTrainFail⟩
  | .capsTimeout _ => ⟨_, .inl rfl, fun h => h.doCapsTimeout⟩
  | .capsWordRx _ _ _ => ⟨_, .inl rfl, fun h => h.doCapsWordRx⟩
  | .readyRx _ => ⟨_, .inl rfl, fun h => h.doReadyRx⟩
  | .txSleep _ => ⟨_, .inl rfl, fun h => h.doTxSleep⟩
  | .txWake _ => ⟨_, .inl rfl, fun h => h.doTxWake⟩
  | .rxSleep _ => ⟨_, .inl rfl, fun h => h.doRxSleep⟩
  | .rxWake _ => ⟨_, .inl rfl, fun h => h.doRxWake⟩
  | .rxWakeDone _ => ⟨_, .inl rfl, fun h => h.doRxWakeDone⟩
  | .wakeFail _ => ⟨_, .inl rfl, fun h => h.doWakeFail⟩
  | .chkLock _ => ⟨_, .inl rfl, fun h => h.doChkLock⟩
  | .chkLockLoss _ _ _ => ⟨_, .inl rfl, fun h => h.doChkLockLoss⟩
  | .chkClr _ _ _ => ⟨_, .inl rfl, fun h => h.doChkClr⟩
  | .injOne _ => ⟨_, .inl rfl, fun h => h.doInjOne⟩
  | .injBurst _ => ⟨_, .inl rfl, fun h => h.doInjBurst⟩
  | .msimTimer _ _ _ => ⟨_, .inl rfl, fun h => h.doMsimTimer⟩
  | .egressActionStart _ => ⟨_, .inl rfl, fun h => h.doEgressActionStart⟩
  | .egressActionEnd _ => ⟨_, .inl rfl, fun h => h.doEgressActionEnd⟩
  | .ingReplStart _ => ⟨_, .inl rfl, fun h => h.doIngReplStart⟩
  | .ingReplEnd _ => ⟨_, .inl rfl, fun h => h.doIngReplEnd⟩
  | .refActivityLoss _ => ⟨_, .inl rfl, fun h => h.doRefActivityLoss⟩
  | .fmonWindow _ => ⟨_, .inl rfl, fun h => h.doFmonWindow⟩
  | .grossCheck _ _ => ⟨_, .inl rfl, fun h => h.doGrossCheck⟩
  | .refQualified _ => ⟨_, .inl rfl, fun h => h.doRefQualified⟩
  | .refWtrExpired _ => ⟨_, .inl rfl, fun h => h.doRefWtrExpired⟩
  | .selCfgWrite _ _ _ => ⟨_, .inl rfl, fun h => h.doSelCfgWrite⟩
  | .switchCommitPoint => ⟨_, .inl rfl, fun h => h.doSwitchCommitPoint⟩
  | .dpllLocked => ⟨_, .inl rfl, fun h => h.doDpllLocked⟩
  | .dpllLockLoss => ⟨_, .inl rfl, fun h => h.doDpllLockLoss⟩
  | .holdoverOos => ⟨_, .inl rfl, fun h => h.doHoldoverOos⟩
  | .historyRecord _ => ⟨_, .inl rfl, fun h => h.doHistoryRecord⟩
  | .histClr => ⟨_, .inl rfl, fun h => h.doHistClr⟩
  | .dcoSlewStep _ => ⟨_, .inl rfl, fun h => h.doDcoSlewStep⟩
  | .dcoFreqWrite _ => ⟨_, .inl rfl, fun h => h.doDcoFreqWrite⟩
  | .refoutChange _ => ⟨_, .inl rfl, fun h => h.doRefoutChange⟩
  | .capture => ⟨_, .inl rfl, fun h => h.doCapture⟩
  | .phaseAdj _ => ⟨_, .inl rfl, fun h => h.doPhaseAdj⟩
  | .ppsEdge _ => ⟨_, .inl rfl, fun h => h.doPpsEdge⟩
  | .ppsTimeout _ => ⟨_, .inl rfl, fun h => h.doPpsTimeout⟩
  | .ppsoutPulse => ⟨_, .inl rfl, fun h => h.doPpsoutPulse⟩
  | .ttSourceTimeout => ⟨_, .inl rfl, fun h => h.doTtSourceTimeout⟩
  | .tamustMsgRx _ _ _ _ => ⟨_, .inl rfl, fun h => h.doTamustMsgRx⟩
  | .timeMsgTx _ => ⟨_, .inl rfl, fun h => h.doTimeMsgTx⟩
  | .timeMsgRx _ _ => ⟨_, .inl rfl, fun h => h.doTimeMsgRx⟩
  | .helloTx _ => ⟨_, .inl rfl, fun h => h.doHelloTx⟩
  | .arm _ => ⟨_, .inl rfl, fun h => h.doArm⟩
  | .disarm _ => ⟨_, .inl rfl, fun h => h.doDisarm⟩
  | .rippleFired _ => ⟨_, .inl rfl, fun h => h.doRippleFired⟩
  | .rippleAction => ⟨_, .inl rfl, fun h => h.doRippleAction⟩
  | .domRipple _ => ⟨_, .inl rfl, fun h => h.doDomRipple⟩
  | .domCancel _ => ⟨_, .inl rfl, fun h => h.doDomCancel⟩
  | .domStatus _ => ⟨_, .inl rfl, fun h => h.doDomStatus⟩
  | .rippleSched => ⟨_, .inl rfl, fun h => h.doRippleSched⟩
  | .rippleCancel => ⟨_, .inl rfl, fun h => h.doRippleCancel⟩
  | .rippleAck => ⟨_, .inl rfl, fun h => h.doRippleAck⟩
  | .grant => ⟨_, .inl rfl, fun h => h.doGrant⟩
  | .flEnable _ => ⟨_, .inl rfl, fun h => h.doFlEnable⟩
  | .flDisable _ => ⟨_, .inl rfl, fun h => h.doFlDisable⟩
  | .flHeld _ _ _ => ⟨_, .inl rfl, fun h => h.doFlHeld⟩
  | .flSlip _ _ _ => ⟨_, .inl rfl, fun h => h.doFlSlip⟩
  | .sdWindow _ _ _ => ⟨_, .inl rfl, fun h => h.doSdWindow⟩
  | .holdOffExpired _ _ => ⟨_, .inl rfl, fun h => h.doHoldOffExpired⟩
  | .wtrExpired _ => ⟨_, .inl rfl, fun h => h.doWtrExpired⟩
  | .cmdClear _ => ⟨_, .inl rfl, fun h => h.doCmdClear⟩
  | .cmdLo _ => ⟨_, .inl rfl, fun h => h.doCmdLo⟩
  | .cmdFs _ => ⟨_, .inl rfl, fun h => h.doCmdFs⟩
  | .cmdMs _ => ⟨_, .inl rfl, fun h => h.doCmdMs⟩
  | .cmdMsW _ => ⟨_, .inl rfl, fun h => h.doCmdMsW⟩
  | .switch _ _ => ⟨_, .inl rfl, fun h => h.doSwitch⟩
  | .diffDelayUpdate _ _ => ⟨_, .inl rfl, fun h => h.doDiffDelayUpdate⟩
  | .deskewRecover _ => ⟨_, .inl rfl, fun h => h.doDeskewRecover⟩
  | .hitlessRead _ _ _ _ _ => ⟨_, .inl rfl, fun h => h.doHitlessRead⟩
  | .apsMsgTx _ => ⟨_, .inl rfl, fun h => h.doApsMsgTx⟩
  | .apsMsgRx _ _ _ _ _ _ => ⟨_, .inl rfl, fun h => h.doApsMsgRx⟩
  | .apsBridge _ => ⟨_, .inl rfl, fun h => h.doApsBridge⟩
  | .apsLoss _ => ⟨_, .inl rfl, fun h => h.doApsLoss⟩
  | .fopTimer _ _ => ⟨_, .inl rfl, fun h => h.doFopTimer⟩
  | .selMiscompare _ => ⟨_, .inl rfl, fun h => h.doSelMiscompare⟩
  | .unfreeze => ⟨_, .inl rfl, fun h => h.doUnfreeze⟩
  | .lrPop => ⟨_, .inl rfl, fun h => h.doLrPop⟩
  | .txLoad _ => ⟨_, .inl rfl, fun h => h.doTxLoad⟩
  | .rxLoad _ => ⟨_, .inl rfl, fun h => h.doRxLoad⟩
  | .loadDone _ _ _ => ⟨_, .inl rfl, fun h => h.doLoadDone⟩
  | .swapNow _ => ⟨_, .inl rfl, fun h => h.doSwapNow⟩
  | .tagCheck _ _ _ _ _ => ⟨_, .inl rfl, fun h => h.doTagCheck⟩
  | .aesLaneFault _ _ _ _ => ⟨_, .inl rfl, fun h => h.doAesLaneFault⟩
  | .laneTakeover _ => ⟨_, .inl rfl, fun h => h.doLaneTakeover⟩
  | .zeroSlot _ => ⟨_, .inl rfl, fun h => h.doZeroSlot⟩
  | .zeroAll => ⟨_, .inl rfl, fun h => h.doZeroAll⟩
  | .provision _ => ⟨_, .inl rfl, fun h => h.doProvision⟩
  | .otpKill => ⟨_, .inl rfl, fun h => h.doOtpKill⟩
  | .zeroizePin => ⟨_, .inl rfl, fun h => h.doZeroizePin⟩
  | .zeroizePinRelease => ⟨_, .inl rfl, fun h => h.doZeroizePinRelease⟩
  | .ringTailWrite _ _ => ⟨_, .inl rfl, fun h => h.doRingTailWrite⟩
  | .jobStart _ => ⟨_, .inl rfl, fun h => h.doJobStart⟩
  | .jobSuspend _ => ⟨_, .inl rfl, fun h => h.doJobSuspend⟩
  | .jobEnd _ _ => ⟨_, .inr rfl, fun h => h.doJobEnd⟩
  | .poresetAssert _ => ⟨_, .inl rfl, fun h => h.doPoresetAssert⟩
  | .poresetRelease => ⟨_, .inl rfl, fun h => h.doPoresetRelease⟩
  | .otpLoaded => ⟨_, .inl rfl, fun h => h.doOtpLoaded⟩
  | .headerRead _ => ⟨_, .inl rfl, fun h => h.doHeaderRead⟩
  | .poolBistDone _ => ⟨_, .inl rfl, fun h => h.doPoolBistDone⟩
  | .loadPassEnd _ => ⟨_, .inl rfl, fun h => h.doLoadPassEnd⟩
  | .applyRecord _ => ⟨_, .inr rfl, fun h => h.doApplyRecord⟩
  | .pollTimeout => ⟨_, .inl rfl, fun h => h.doPollTimeout⟩
  | .bootDone => ⟨_, .inl rfl, fun h => h.doBootDone⟩
  | .fullSvc => ⟨_, .inl rfl, fun h => h.doFullSvc⟩
  | .confirm => ⟨_, .inl rfl, fun h => h.doConfirm⟩
  | .confirmTmo => ⟨_, .inl rfl, fun h => h.doConfirmTmo⟩
  | .clrBad => ⟨_, .inl rfl, fun h => h.doClrBad⟩
  | .authLock _ => ⟨_, .inl rfl, fun h => h.doAuthLock⟩
  | .xspiRead _ => ⟨_, .inl rfl, fun h => h.doXspiRead⟩
  | .xspiProgram _ => ⟨_, .inl rfl, fun h => h.doXspiProgram⟩
  | .xspiErase _ => ⟨_, .inl rfl, fun h => h.doXspiErase⟩
  | .xspiOther _ => ⟨_, .inl rfl, fun h => h.doXspiOther⟩
  | .xspiDone _ _ => ⟨_, .inl rfl, fun h => h.doXspiDone⟩
  | .wdtKick _ _ => ⟨_, .inl rfl, fun h => h.doWdtKick⟩
  | .wdtWarn _ => ⟨_, .inl rfl, fun h => h.doWdtWarn⟩
  | .wdtExpire _ => ⟨_, .inl rfl, fun h => h.doWdtExpire⟩
  | .takeover _ _ => ⟨_, .inl rfl, fun h => h.doTakeover⟩
  | .coreRestart _ _ => ⟨_, .inl rfl, fun h => h.doCoreRestart⟩
  | .h2fGo _ => ⟨_, .inl rfl, fun h => h.doH2fGo⟩
  | .mboxDone _ _ _ => ⟨_, .inl rfl, fun h => h.doMboxDone⟩
  | .mboxNotify _ _ => ⟨_, .inl rfl, fun h => h.doMboxNotify⟩
  | .f2hAck => ⟨_, .inl rfl, fun h => h.doF2hAck⟩
  | .version _ => ⟨_, .inl rfl, fun h => h.doVersion⟩
  | .calStore _ => ⟨_, .inl rfl, fun h => h.doCalStore⟩
  | .extOpcode _ _ _ _ => ⟨_, .inl rfl, fun h => h.doExtOpcode⟩
  | .extFault _ _ _ => ⟨_, .inl rfl, fun h => h.doExtFault⟩
  | .poolOwnWrite _ _ _ => ⟨_, .inl rfl, fun h => h.doPoolOwnWrite⟩
  | .poolRead _ _ _ _ => ⟨_, .inl rfl, fun h => h.doPoolRead⟩
  | .poolWrite _ _ _ _ _ => ⟨_, .inl rfl, fun h => h.doPoolWrite⟩
  | .trackerExpire _ => ⟨_, .inl rfl, fun h => h.doTrackerExpire⟩
  | .repairGo _ _ _ => ⟨_, .inl rfl, fun h => h.doRepairGo⟩
  | .repairDone => ⟨_, .inl rfl, fun h => h.doRepairDone⟩
  | .scrubGo => ⟨_, .inl rfl, fun h => h.doScrubGo⟩
  | .scrubStop => ⟨_, .inl rfl, fun h => h.doScrubStop⟩
  | .scrubWord _ _ _ => ⟨_, .inl rfl, fun h => h.doScrubWord⟩
  | .scrubDone => ⟨_, .inl rfl, fun h => h.doScrubDone⟩
  | .eccFlipArm _ _ _ => ⟨_, .inl rfl, fun h => h.doEccFlipArm⟩
  | .mevPop => ⟨_, .inl rfl, fun h => h.doMevPop⟩
  | .busRequest _ _ _ => ⟨_, .inr rfl, fun h => h.doBusRequest⟩
  | .hostRequest _ _ _ _ => ⟨_, .inl rfl, fun h => h.doHostRequest⟩
  | .hostCompletion => ⟨_, .inl rfl, fun h => h.doHostCompletion⟩
  | .linkUp _ _ => ⟨_, .inl rfl, fun h => h.doLinkUp⟩
  | .linkDown => ⟨_, .inl rfl, fun h => h.doLinkDown⟩
  | .flr => ⟨_, .inl rfl, fun h => h.doFlr⟩
  | .msixSend _ => ⟨_, .inl rfl, fun h => h.doMsixSend⟩
  | .vecAck _ => ⟨_, .inl rfl, fun h => h.doVecAck⟩
  | .faultTest _ => ⟨_, .inl rfl, fun h => h.doFaultTest⟩
  | .snapNow => ⟨_, .inl rfl, fun h => h.doSnapNow⟩
  | .chainRead _ _ => ⟨_, .inl rfl, fun h => h.doChainRead⟩
  | .sample _ => ⟨_, .inl rfl, fun h => h.doSample⟩
  | .smpConfigWrite _ _ => ⟨_, .inl rfl, fun h => h.doSmpConfigWrite⟩
  | .smpRpWrite _ => ⟨_, .inl rfl, fun h => h.doSmpRpWrite⟩
  | .roscReady => ⟨_, .inl rfl, fun h => h.doRoscReady⟩
  | .xtalReady => ⟨_, .inl rfl, fun h => h.doXtalReady⟩
  | .refclkReady _ _ => ⟨_, .inl rfl, fun h => h.doRefclkReady⟩
  | .pllLock _ => ⟨_, .inl rfl, fun h => h.doPllLock⟩
  | .pllLol _ => ⟨_, .inl rfl, fun h => h.doPllLol⟩
  | .rootCfgWrite _ => ⟨_, .inl rfl, fun h => h.doRootCfgWrite⟩
  | .swDone => ⟨_, .inl rfl, fun h => h.doSwDone⟩
  | .xtalActivityTrip => ⟨_, .inl rfl, fun h => h.doXtalActivityTrip⟩
  | .clkMonWindow _ _ => ⟨_, .inl rfl, fun h => h.doClkMonWindow⟩
  | .gateRequest _ _ => ⟨_, .inl rfl, fun h => h.doGateRequest⟩
  | .gateCancel _ => ⟨_, .inl rfl, fun h => h.doGateCancel⟩
  | .gateDone _ => ⟨_, .inl rfl, fun h => h.doGateDone⟩
  | .gateTimeout _ => ⟨_, .inl rfl, fun h => h.doGateTimeout⟩
  | .ungate _ => ⟨_, .inl rfl, fun h => h.doUngate⟩
  | .ungateDone _ => ⟨_, .inl rfl, fun h => h.doUngateDone⟩
  | .deviceReset _ _ => ⟨_, .inl rfl, fun h => h.doDeviceReset⟩
  | .systemReset _ => ⟨_, .inl rfl, fun h => h.doSystemReset⟩
  | .islRstSet _ => ⟨_, .inl rfl, fun h => h.doIslRstSet⟩
  | .islRstRelease _ => ⟨_, .inl rfl, fun h => h.doIslRstRelease⟩
  | .deepSleep _ => ⟨_, .inl rfl, fun h => h.doDeepSleep⟩
  | .deepSleepEntered => ⟨_, .inl rfl, fun h => h.doDeepSleepEntered⟩
  | .wake _ _ => ⟨_, .inl rfl, fun h => h.doWake⟩
  | .vddAonLow => ⟨_, .inl rfl, fun h => h.doVddAonLow⟩
  | .avsUpdate _ => ⟨_, .inl rfl, fun h => h.doAvsUpdate⟩
  | .monEnSet => ⟨_, .inl rfl, fun h => h.doMonEnSet⟩
  | .monEnClear => ⟨_, .inl rfl, fun h => h.doMonEnClear⟩
  | .monResult _ => ⟨_, .inl rfl, fun h => h.doMonResult⟩
  | .monQueuePop => ⟨_, .inl rfl, fun h => h.doMonQueuePop⟩
  | .monQueueFlush => ⟨_, .inl rfl, fun h => h.doMonQueueFlush⟩
  | .spiGo _ _ _ => ⟨_, .inl rfl, fun h => h.doSpiGo⟩
  | .spiDone _ _ => ⟨_, .inl rfl, fun h => h.doSpiDone⟩
  | .i2cGo _ _ => ⟨_, .inl rfl, fun h => h.doI2cGo⟩
  | .i2cDone _ _ _ => ⟨_, .inl rfl, fun h => h.doI2cDone⟩
  | .bistStepTimer _ _ => ⟨_, .inl rfl, fun h => h.doBistStepTimer⟩
  | .bistSessionEnd _ _ _ _ => ⟨_, .inl rfl, fun h => h.doBistSessionEnd⟩
  | .puGo => ⟨_, .inl rfl, fun h => h.doPuGo⟩
  | .retest _ _ _ => ⟨_, .inl rfl, fun h => h.doRetest⟩
  | .stepNotice => ⟨_, .inl rfl, fun h => h.doStepNotice⟩
  | .stepAnswer => ⟨_, .inl rfl, fun h => h.doStepAnswer⟩
  | .stepFail => ⟨_, .inl rfl, fun h => h.doStepFail⟩
  | .calRun => ⟨_, .inl rfl, fun h => h.doCalRun⟩
  | .calDone _ _ _ => ⟨_, .inl rfl, fun h => h.doCalDone⟩
  | .calStoreEnd _ _ _ => ⟨_, .inl rfl, fun h => h.doCalStoreEnd⟩
  | .jtagRegAccess _ _ _ _ => ⟨_, .inr rfl, fun h => h.doJtagRegAccess⟩
  | .jtagDeviceReset => ⟨_, .inl rfl, fun h => h.doJtagDeviceReset⟩
  | .jtagIntscan => ⟨_, .inl rfl, fun h => h.doJtagIntscan⟩
  | .jtagMembist => ⟨_, .inl rfl, fun h => h.doJtagMembist⟩
  | .cdrLock _ => ⟨_, .inl rfl, fun h => h.doCdrLock⟩
  | .coeffRequest _ _ _ => ⟨_, .inl rfl, fun h => h.doCoeffRequest⟩
  | .clientCodewordRx _ _ => ⟨_, .inl rfl, fun h => h.doClientCodewordRx⟩
  | .scEnApply _ => ⟨_, .inl rfl, fun h => h.doScEnApply⟩
  | .configRequest _ => ⟨_, .inl rfl, fun h => h.doConfigRequest⟩
  | .speedChange _ _ => ⟨_, .inl rfl, fun h => h.doSpeedChange⟩
  | .mbistDone _ _ _ => ⟨_, .inl rfl, fun h => h.doMbistDone⟩

/-- The check of the clock ratios answers the chip it is given, or none. -/
theorem State.chip_of_guarded {s t : State} {c : Chip} (e : s.guarded c = .next t) : t.chip = c := by
  unfold State.guarded at e
  split at e
  · cases e
    rfl
  · cases e

/-- Every step keeps every invariant over the stores. -/
theorem step_inv {s t : State} (h : s.chip.Inv k) (e : step s = .next t) : t.chip.Inv k := by
  unfold step at e
  split at e
  · cases e
    exact h.idle
  · next i rest _ =>
    obtain ⟨c, hc, hinv⟩ := exec_chip k i { s with pending := rest }
    rcases hc with hc | hc <;> rw [hc] at e
    · cases e
      exact hinv h
    · rw [State.chip_of_guarded e]
      exact hinv h
end

theorem canonical_iff (s : State) : s.canonical = true ↔ s.chip.Inv .registers := by
  simp [State.canonical, Chip.Inv, StoreInv.Holds, Chip.stores, and_assoc]

theorem memoryCanonical_iff (s : State) : s.memoryCanonical = true ↔ s.chip.Inv .memories := by
  simp [State.memoryCanonical, Chip.Inv, StoreInv.Holds, Chip.stores]

/-- What a chip's fuses say stays said over its own stores, so every step keeps it (`step_inv`). -/
theorem Chip.inv_fuses_self (s : Chip) : s.Inv (.fuses s.fuse) := ⟨id, fun _ => id, id⟩

/-- Settles O4: the canonical form is an invariant over the stores, and every step keeps those. -/
theorem canonicalKept : Obligations.CanonicalKept := by
  intro s t h e
  rw [canonical_iff] at h ⊢
  exact step_inv h e

end Sys2Proof.Machine
end

section
/-! SUPPORT. The reset state, the clock with no command waiting, and the writes and reads of registers that start no step of their own. -/

namespace Sys2Proof.Machine

set_option Elab.async false

/-! ## The state right after reset -/

/-- Settles O6: the state right after reset is closed, and the register stores are empty. -/
theorem resetState : Obligations.ResetState := by
  refine ⟨⟨rfl, fun _ => rfl, fun _ => rfl, fun c => ?_, ?_, rfl, rfl, rfl⟩, rfl, rfl⟩
  · cases c <;> decide
  · decide

/-! ## A clock with no command waiting -/

theorem Quiet.foldl {α : Type} {f : Chip → α → Chip} (h : ∀ u x, Quiet u (f u x)) (l : List α) (s : Chip) :
    Quiet s (l.foldl f s) := by
  induction l generalizing s with
  | nil => exact .refl s
  | cons x l ih => exact (h s x).trans (ih _)

/-- A tick of the timekeeping touches nothing but the time. -/
theorem Chip.wstTick_frame (s : Chip) : s.wstTick = { s with wst := s.wstTick.wst } := by
  unfold Chip.wstTick
  extract_lets w acc d move t sec
  split <;> rfl

/-- The injection of errors into a lane touches nothing but the lane and its counter. -/
theorem Chip.laneInject_frame (s : Chip) (l : Nat) :
    s.laneInject l = { s with lane := (s.laneInject l).lane, regs := (s.laneInject l).regs } := rfl

/-- A tick of the lanes touches nothing but the lanes and the registers. -/
theorem Chip.laneTick_frame (s : Chip) : s.laneTick = { s with lane := s.laneTick.lane, regs := s.laneTick.regs } := by
  unfold Chip.laneTick
  generalize (s.lane.filter _).map Prod.fst = ls
  induction ls generalizing s with
  | nil => rfl
  | cons l ls ih => rw [List.foldl_cons, ih, Chip.laneInject_frame]

/-- A tick of the management island touches nothing but its state and the registers. -/
theorem Chip.mgmtTick_quiet (s : Chip) : ∃ m, Quiet { s with mgmt := m } s.mgmtTick := by
  unfold Chip.mgmtTick
  extract_lets s1
  have h1 : Quiet s s1 := Quiet.foldl (fun u k => by split <;> rfl) _ _
  split
  · exact ⟨s.mgmt, .refl s⟩
  · split
    · exact ⟨{ s1.mgmt with extSusp := false }, by rw [h1]; rfl⟩
    · exact ⟨s.mgmt, h1⟩

/-- Settles O2: none of the three ticks of an idle clock touches a fuse, the flash, a pool, a key or the monitor. -/
theorem idleStepIsAClock : Obligations.IdleStepIsAClock := by
  intro s hs
  have hstep : step s = .next { s with chip := s.chip.idle } := by
    unfold step
    split
    · rfl
    · next h => rw [hs] at h; cases h
  refine ⟨_, hstep, hs, ?_⟩
  obtain ⟨m, hm⟩ := Chip.mgmtTick_quiet { s.chip.wstTick.laneTick with now := s.chip.wstTick.laneTick.now + 1 }
  have hidle : s.chip.idle = _ := hm
  rw [hidle, Chip.laneTick_frame, Chip.wstTick_frame]
  exact ⟨rfl, rfl, rfl, rfl, rfl, rfl⟩

/-! ## What shared operations keep -/

/-- The check of the clock ratios reads the divider register alone (R463). -/
theorem Chip.ratiosOk_congr {s t : Chip} (h : t.rd Reg.CLK.DIV_CFG.addr = s.rd Reg.CLK.DIV_CFG.addr) :
    t.ratiosOk = s.ratiosOk := by
  unfold Chip.ratiosOk
  rw [h]

/-- A recorded occurrence sets the event's bit as a field. -/
theorem Chip.raise_eq_setF {s : Chip} {e : Ev} (hb : e.bit < 32) (h : (s.rd (e.base + 0xF8)).getLsbD e.bit = true) :
    s.raise e = s.setF (evtBit e) 1 := by
  have hw : ∀ w : Word, w ||| (1#32 <<< e.bit) = w.setField e.bit 1 1 := by
    intro w
    refine BitVec.eq_of_getLsbD_eq fun i hi => ?_
    rw [Word.getLsbD_setField _ _ _ _ _ hi]
    by_cases hi : i = e.bit
    · subst hi
      simp [hb]
    · have hn : ¬ (e.bit ≤ i ∧ i < e.bit + 1) := by omega
      have hz : i < e.bit ∨ i - e.bit ≠ 0 := by omega
      rw [if_neg hn, BitVec.getLsbD_or, BitVec.getLsbD_shiftLeft, BitVec.getLsbD_one]
      rcases hz with hz | hz <;> simp [hz]
  unfold Chip.raise
  rw [if_pos h, hw]
  rfl

/-- An occurrence of an event keeps every field but the event's bit. -/
theorem keptBut_raise (s : Chip) (e : Ev) (hb : e.bit < 32) : KeptBut [] [evtBit e] s (s.raise e) := by
  by_cases h : (s.rd (e.base + 0xF8)).getLsbD e.bit = true
  · rw [Chip.raise_eq_setF hb h]
    exact keptBut_setF s _ _
  · refine ⟨fun g _ _ _ => ?_, ?_⟩
    · rw [Chip.getF, Chip.rd_raise, if_neg fun hc => h hc.1, Chip.getF]
    · rw [quiet_raise s e]

/-- A guarded command answers the chip it makes where its clock ratios are in their limits. -/
theorem answers_of_guarded {i : Instr} {s : State} {P : Chip → Prop} {t : Chip} (h : exec i s = s.guarded t) (hr : t.ratiosOk = true)
    (hp : P t) : Answers i s P := ⟨t, by rw [h, State.guarded, if_pos hr]; rfl, hp⟩

/-! ## Register writes -/

/-- Settles O8: fewer byte enables than four give BAD_ACCESS alone, and the guard stops a write that breaks the clock ratios. -/
theorem writesWithoutEffect : Obligations.WritesWithoutEffect := by
  refine ⟨fun s m user a w be hbe hr => ?_, fun s m user a w be hr => ?_⟩
  · have hdo : doRegisterWrite m user a w be s.chip = s.chip.raise Ev.TOP.BAD_ACCESS := if_neg (by omega)
    refine answers_of_guarded rfl ?_ (P := fun t => _) ?_ <;> rw [hdo]
    · rw [← hr]
      exact Chip.ratiosOk_congr (by rw [Chip.rd_raise, if_neg fun h => absurd h.2 (by decide)])
    · exact ⟨recorded_raise _ _ (by decide), keptBut_raise _ _ (by decide), quiet_raise _ _⟩
  · exact if_neg (by rw [hr]; decide)

/-- Bit by bit what a plain write makes of a word (R4). -/
theorem RegRow.getLsbD_write (r : RegRow) (old w : Word) {i : Nat} (hi : i < 32) :
    (r.write old w).getLsbD i =
      (((old.getLsbD i && !(r.mask fun x => x == .rw || x == .rws).getLsbD i) ||
        (w.getLsbD i && (r.mask fun x => x == .rw || x == .rws).getLsbD i)) &&
        !(w.getLsbD i && (r.mask fun x => x == .w1c).getLsbD i) || (w.getLsbD i && (r.mask fun x => x == .w1s).getLsbD i)) := by
  simp [RegRow.write, hi]

theorem Chip.plainWrite_of_row {a : Nat} {r : RegRow} (h : RegMap.row? a = some r) (s : Chip) (w : Word) :
    s.plainWrite a w = s.wr a (r.write (s.rd a) w) := by
  rw [Chip.plainWrite, h]

/-- A write to a register of a carrier that is no event register is the line's. -/
theorem Chip.writeReg_inCarrier {a : Nat} (ha : RegMap.inCarrier a = true) (h0 : evtBlock a 0xF0 = none) (h8 : evtBlock a 0xF8 = none)
    (s : Chip) (m : Fin 8) (user : Bool) (w : Word) : s.writeReg m user a w = s.writeLine (carrierOf a) a w := by
  have hb : 0x01000000 ≤ a ∧ a < 0x02000000 := by simpa [RegMap.inCarrier] using ha
  rw [Chip.writeReg, h0, h8]
  dsimp only
  split
  case h_15 => exact if_pos ha
  all_goals omega

/-- A write to TXD, RXD or FEC that starts no step of its own is a plain one. -/
theorem Chip.writeLine_plain {a : Nat} {c : Carrier} (hb : RegMap.toA a / 0x100000 ∈ [0x10, 0x11, 0x13]) (hc : a ≠ Reg.TXD.CTRL.addr c)
    (s : Chip) (w : Word) : s.writeLine c a w = s.plainWrite a w := by
  simp only [List.mem_cons, List.not_mem_nil, or_false] at hb
  rcases hb with hb | hb | hb <;> rw [Chip.writeLine, hb]
  · exact if_neg hc
  · rfl
  · rfl

/-- Settles O7: such a write is a plain one, and the masks of the row say what becomes of each bit. -/
theorem plainRegisterWrite : Obligations.PlainRegisterWrite := by
  intro s m user a w r hr hrow hin hblk hctrl h0 h8
  generalize hA : a.toNat / 4 * 4 = A at *
  have hdo : doRegisterWrite m user a w 15 s.chip = s.chip.wr A (r.write (s.chip.rd A) w) := by
    rw [doRegisterWrite, hA, Chip.writeHalf, if_pos (by decide), Chip.writeReg_inCarrier hin h0 h8, Chip.writeLine_plain hblk (hctrl _),
      Chip.plainWrite_of_row hrow]
  have hdiv : Reg.CLK.DIV_CFG.addr ≠ A := by
    rintro rfl
    exact absurd hin (by decide)
  refine answers_of_guarded rfl ?_ (P := fun t => _) ?_ <;> rw [hdo]
  · rw [← hr]
    exact Chip.ratiosOk_congr (Chip.rd_wr_ne _ _ hdiv)
  · refine ⟨fun b hb => Chip.rd_wr_ne _ _ hb, rfl, fun i hi => ?_⟩
    dsimp only
    rw [Chip.rd_wr, if_pos rfl, RegRow.getLsbD_write r _ _ hi]
    refine ⟨?_, ?_, ?_, ?_⟩ <;> intro hset hw1c hw1s <;> simp [hset, hw1c, hw1s]

/-! ## Reads of register pairs -/

/-- A read of a word uses up free values at most. -/
theorem Chip.readWord_regs (s : Chip) (a : Nat) : (s.readWord a).2.regs = s.regs := by
  unfold Chip.readWord
  split
  · rfl
  · split
    · rfl
    · split
      · rfl
      · split <;> rfl

/-- The response that a master receives is its last one (R412). -/
theorem lastResp_respond (s : Chip) (m : Nat) (r : BusResp) : lastResp (s.respond m r) m = r := by
  rw [lastResp, Chip.respond, Store.get_set, if_pos rfl]

/-- A read of a LO register answers its word and holds HI for the master and the block (R7, R8). -/
theorem Chip.readReg_lo {a : Nat} (h : isLo a = true) (s : Chip) (m : Nat) :
    (s.readReg m a).1 = (s.readWord a).1 ∧ (s.readReg m a).2.regs = s.regs ∧
      Tab.get 0 (s.readReg m a).2.top.hi (8 * blockBase a + m) = ((s.readWord a).2.readWord (a + 4)).1 := by
  rw [Chip.readReg, if_pos h]
  exact ⟨rfl, Chip.readWord_regs s a, by rw [Tab.get_put, if_pos rfl]⟩

/-- A read of a HI register answers what is held for the master and the block, and changes nothing (R7, R8). -/
theorem Chip.readReg_hi {a : Nat} (hlo : isLo a = true) (hhi : isLo (a + 4) = false) (s : Chip) (m : Nat) :
    s.readReg m (a + 4) = (Tab.get 0 s.top.hi (8 * blockBase (a + 4) + m), s) := by
  rw [Chip.readReg, if_neg (by rw [hhi]; decide), if_pos ⟨Nat.le_add_left 4 a, hlo⟩]

/-- Settles O9: the LO read holds HI under the key that the HI read looks under, the master and the block. -/
theorem pairReadLatchesHi : Obligations.PairReadLatchesHi := by
  intro s u m a ha hlo hhi hlt hbase
  have ha4 : a.toNat / 4 * 4 = a.toNat := by omega
  have hnext : (a + 4).toNat / 4 * 4 = a.toNat + 4 := by
    have h4 : (4 : Word).toNat = 4 := rfl
    rw [BitVec.toNat_add, h4, Nat.mod_eq_of_lt hlt]
    omega
  obtain ⟨hword, hregs, hheld⟩ := Chip.readReg_lo hlo s.chip m.val
  refine answers_of_to rfl ⟨?_, ?_, fun hu => answers_of_to rfl ?_⟩
  · rw [doLoRead, ha4, lastResp_respond, hword]
  · rw [doLoRead, ha4]
    exact hregs
  · rw [doLoRead, ha4] at hu
    have hhold : u.chip.top.hi = (s.chip.readReg m.val a.toNat).2.top.hi := hu
    rw [doLoRead, hnext, Chip.readReg_hi hlo hhi, lastResp_respond, hbase, hhold, hheld]
    exact ⟨rfl, rfl⟩

/-! ## Event registers -/

/-- Where the block is not CLK, a write of EVT_STAT writes that register and nothing else. -/
theorem Chip.evtClear_eq_wr {base : Nat} (h : base ≠ 0x00100000) (s : Chip) (w now : Word) :
    s.evtClear base w now = s.wr (base + 0xF0) (s.rd (base + 0xF0) &&&
      ~~~(w &&& ((s.rd (base + 0xF8) &&& ~~~(nmMask base)) ||| (nmMask base &&& ~~~(s.liveWord base))) &&& ~~~now)) := if_neg h

/-- The word of EVT_STAT that a write leaves, bit by bit (R9 to R11, R432). -/
theorem getLsbD_cleared (old w sticky nm live now : Word) {i : Nat} (hi : i < 32) :
    (old &&& ~~~(w &&& ((sticky &&& ~~~nm) ||| (nm &&& ~~~live)) &&& ~~~now)).getLsbD i =
      (old.getLsbD i && !(w.getLsbD i && ((sticky.getLsbD i && !nm.getLsbD i) || (nm.getLsbD i && !live.getLsbD i)) &&
        !now.getLsbD i)) := by
  simp [hi]

/-- Settles O10: bit by bit from what the clear leaves, and a write of EVT_MASK is a plain one. -/
theorem eventRegisterWrites : Obligations.EventRegisterWrites := by
  refine ⟨fun s k w now hclk => answers_of_to rfl ?_, fun s k w r hrow => answers_of_to rfl ?_⟩
  · rw [doEvtStatWrite, Chip.evtClear_eq_wr hclk]
    refine ⟨fun i hi => ?_, fun b hb => Chip.rd_wr_ne _ _ hb, rfl⟩
    dsimp only
    rw [Chip.rd_wr, if_pos rfl, getLsbD_cleared _ _ _ _ _ _ hi]
    refine ⟨?_, ?_, ?_, ?_, ?_⟩
    · intro hnm hsticky hw hnow
      simp [hnm, hsticky, hw, hnow]
    · intro hw hnow
      simp [hw, hnow]
    · intro hw
      simp [hw]
    · intro hnm hsticky
      simp [hnm, hsticky]
    · intro hnm hlive
      simp [hnm, hlive]
  · rw [doEvtMaskWrite, Chip.plainWrite_of_row hrow]
    exact ⟨by rw [Chip.rd_wr, if_pos rfl], fun b hb => Chip.rd_wr_ne _ _ hb, rfl⟩
end Sys2Proof.Machine
end

section
/-! SUPPORT. What the effects of a commit and the settling of the references leave of TOP and CLK: one law per operation that says it keeps the
control registers, in the form of the laws for the stores. -/

namespace Sys2Proof.Machine

set_option Elab.async false

/-- The control registers stand from one chip to the next: every active word, and the registers of TOP and CLK but CARRIER_STAT. -/
structure Chip.CtlKept (s t : Chip) : Prop where
  act : t.actRegs = s.actRegs
  rd : ∀ a, a < 0x00200000 → a ≠ Reg.TOP.CARRIER_STAT.addr → t.rd a = s.rd a

/-- An address above TOP and CLK, read off the form its definition has: a block's base, with a carrier's base before it or offsets after it. -/
inductive AboveClk : Nat → Prop
  | carrier (c : Carrier) {a : Nat} (h : AboveClk a) : AboveClk (c.base + a)
  | offset {a : Nat} (b : Nat) (h : AboveClk a) : AboveClk (a + b)
  | base {n : Nat} (h : Nat.ble 0x00200000 n = true) : AboveClk n

theorem AboveClk.le {a : Nat} (h : AboveClk a) : 0x00200000 ≤ a := by
  induction h with
  | base h => exact Nat.le_of_ble_eq_true h
  | offset b _ ih => exact Nat.le_add_right_of_le ih
  | carrier c _ ih => exact Nat.le_add_left_of_le ih

section
variable {s₀ s : Chip}

theorem Chip.CtlKept.refl (s : Chip) : s.CtlKept s := ⟨rfl, fun _ _ _ => rfl⟩

theorem Chip.CtlKept.wr (h : s₀.CtlKept s) {a w} (ha : AboveClk a := by repeat constructor) : s₀.CtlKept (s.wr a w) :=
  ⟨h.act, fun b hb hc => (Chip.rd_wr_ne s w (Nat.ne_of_lt (Nat.lt_of_lt_of_le hb ha.le))).trans (h.rd b hb hc)⟩

theorem Chip.CtlKept.setF (h : s₀.CtlKept s) {f v} (ha : AboveClk f.addr := by repeat constructor) : s₀.CtlKept (s.setF f v) :=
  h.wr ha

/-! The steps of every law: updates of a register above CLK or of CARRIER_STAT, and the forms a definition is built from. -/

theorem Chip.CtlKept.ite {c : Prop} {_ : Decidable c} {t : Chip} (h : s₀.CtlKept s) (h' : s₀.CtlKept t) :
    s₀.CtlKept (if c then s else t) := by
  split <;> assumption

theorem Chip.CtlKept.foldl {α : Type} {f : Chip → α → Chip} {l : List α} (h : s₀.CtlKept s)
    (hf : ∀ u x, s₀.CtlKept u → s₀.CtlKept (f u x)) : s₀.CtlKept (l.foldl f s) := by
  induction l generalizing s with
  | nil => exact h
  | cons x l ih => exact ih (hf s x h)

/-- An update of fields that hold no register. -/
theorem Chip.CtlKept.same {li fi n fu t c x rc fe su fr pm de ws ti g pg lo le se ev ts po bo mg pc mo la re} (h : s₀.CtlKept s) :
    s₀.CtlKept ⟨s.regs, s.actRegs, li, fi, n, fu, t, c, x, rc, fe, su, fr, pm, de, ws, ti, g, pg, lo, le, se, ev, ts, po, bo, mg, pc, mo,
      la, re⟩ := ⟨h.act, h.rd⟩

theorem Chip.CtlKept.setCarrierStat (h : s₀.CtlKept s) {f v} (hf : f.addr = Reg.TOP.CARRIER_STAT.addr := by rfl) :
    s₀.CtlKept (s.setF f v) :=
  ⟨h.act, fun b hb hc => (Chip.rd_setF_ne s f v (hf ▸ hc)).trans (h.rd b hb hc)⟩

theorem Chip.CtlKept.setLive (h : s₀.CtlKept s) {e b} : s₀.CtlKept (s.setLive e b) := h.same

theorem Chip.CtlKept.raise (h : s₀.CtlKept s) {e} (he : AboveClk e.base := by repeat constructor) : s₀.CtlKept (s.raise e) :=
  ⟨by rw [quiet_raise s e]; exact h.act, fun b hb hc => by
    have := he.le
    rw [Chip.rd_raise, if_neg (by omega)]
    exact h.rd b hb hc⟩

/-! One law per operation, in the order of the definitions. -/

theorem Chip.CtlKept.assert (h : s₀.CtlKept s) {e} (he : AboveClk e.base := by repeat constructor) : s₀.CtlKept (s.assert e) :=
  h.setLive.raise he
theorem Chip.CtlKept.raiseIf (h : s₀.CtlKept s) {b e} (he : AboveClk e.base :=
  by repeat constructor) : s₀.CtlKept (s.raiseIf b e) :=
  .ite (h.raise he) h
theorem Chip.CtlKept.setGrp (h : s₀.CtlKept s) {c g v} : s₀.CtlKept (s.setGrp c g v) := h.same
theorem Chip.CtlKept.setPm (h : s₀.CtlKept s) {c t v} : s₀.CtlKept (s.setPm c t v) := h.same
theorem Chip.CtlKept.raisePm (h : s₀.CtlKept s) {c t e} (he : AboveClk (e c).base := by repeat constructor) :
    s₀.CtlKept (s.raisePm c t e) := (h.raise he).setF
theorem Chip.CtlKept.pmCloseRec (h : s₀.CtlKept s) {c t sec boundary step} : s₀.CtlKept (s.pmCloseRec c t sec boundary step) :=
  h.setPm.setF
theorem Chip.CtlKept.pmStep (h : s₀.CtlKept s) {c t oldSec newSec} : s₀.CtlKept (s.pmStep c t oldSec newSec) := by
  dsimp only [Chip.pmStep]
  split
  exacts [h, .ite h.raisePm.setPm h.raisePm.pmCloseRec]
theorem Chip.CtlKept.setSubc (h : s₀.CtlKept s) {c v} : s₀.CtlKept (s.setSubc c v) := h.same
theorem Chip.CtlKept.setDem (h : s₀.CtlKept s) {k' v} : s₀.CtlKept (s.setDem k' v) := h.same
theorem Chip.CtlKept.setNoSync (h : s₀.CtlKept s) {k' b} : s₀.CtlKept (s.setNoSync k' b) := .ite h h.setF.raise
theorem Chip.CtlKept.xcCommitted (h : s₀.CtlKept s) {old} : s₀.CtlKept (s.xcCommitted old) :=
  h.foldl (fun _ _ hu => .ite hu hu.setDem.setNoSync)
theorem Chip.CtlKept.portCommitted (h : s₀.CtlKept s) : s₀.CtlKept s.portCommitted := h.foldl (fun _ _ hu => hu.setF.setF.setF)
theorem Chip.CtlKept.setPg (h : s₀.CtlKept s) {g v} : s₀.CtlKept (s.setPg g v) := h.same
theorem Chip.CtlKept.modPg (h : s₀.CtlKept s) {g f} : s₀.CtlKept (s.modPg g f) := h.setPg
theorem Chip.CtlKept.raisePg (h : s₀.CtlKept s) {g e} (he : AboveClk e.base :=
  by repeat constructor) : s₀.CtlKept (s.raisePg g e) :=
  (h.raise he).setF
theorem Chip.CtlKept.setCond (h : s₀.CtlKept s) {g new} : s₀.CtlKept (s.setCond g new) := by
  unfold Chip.setCond
  extract_lets old d s1 s2 s3
  have h2 : s₀.CtlKept s2 := .ite h.setF.raisePg h.setF
  have h3 : s₀.CtlKept s3 := .ite h2.raisePg h2
  exact .ite h (.ite h3.modPg.raisePg h3)
theorem Chip.CtlKept.pgConditions (h : s₀.CtlKept s) {g} : s₀.CtlKept (s.pgConditions g) := h.setPg.setCond
theorem Chip.CtlKept.pgRequests (h : s₀.CtlKept s) {g} : s₀.CtlKept (s.pgRequests g) := h.setPg.setF
theorem Chip.CtlKept.fopClear (h : s₀.CtlKept s) {g} : s₀.CtlKept (s.fopClear g) :=
  .ite (.raisePg (.setF (.ite h.setF.raisePg h))) (.ite h.setF.raisePg h)
theorem Chip.CtlKept.pgAlign (h : s₀.CtlKept s) {g} : s₀.CtlKept (s.pgAlign g) := .ite h.setF.setPg h
theorem Chip.CtlKept.pgSettle (h : s₀.CtlKept s) {g} : s₀.CtlKept (s.pgSettle g) := h.pgAlign.pgConditions.pgRequests.fopClear
theorem Chip.CtlKept.pgRestart (h : s₀.CtlKept s) {g en} : s₀.CtlKept (s.pgRestart g en) := h.setPg.wr
theorem Chip.CtlKept.pgCommitted (h : s₀.CtlKept s) {old} : s₀.CtlKept (s.pgCommitted old) :=
  .setF (.setF (h.foldl (fun _ _ hu => .ite hu hu.pgRestart)))
theorem Chip.CtlKept.startSession (h : s₀.CtlKept s) {c g u retest} : s₀.CtlKept (s.startSession c g u retest) :=
  h.setGrp.setF.setF
theorem Chip.CtlKept.sweepGroup (h : s₀.CtlKept s) {c g} : s₀.CtlKept (s.sweepGroup c g) := by
  refine .ite h (.ite h.setGrp (.ite h ?_))
  split
  exacts [.ite h h.setF.setGrp, .ite h.setF.setGrp (.ite h h.startSession)]
theorem Chip.CtlKept.bistGroup (h : s₀.CtlKept s) {c g} : s₀.CtlKept (s.bistGroup c g) := by
  unfold Chip.bistGroup
  extract_lets v s1 s2 w
  have h1 : s₀.CtlKept s1 := by
    unfold s1
    split
    exacts [.ite h h.startSession, h]
  have h2 : s₀.CtlKept s2 := h1.sweepGroup.sweepGroup
  split
  exacts [.ite h2.startSession h2, h2]
theorem Chip.CtlKept.bistSettle (h : s₀.CtlKept s) : s₀.CtlKept s.bistSettle :=
  .ite (.raise (.setF (.setF (h.foldl (fun _ _ hu => hu.bistGroup))))) (h.foldl (fun _ _ hu => hu.bistGroup))
theorem Chip.CtlKept.stepTo (h : s₀.CtlKept s) {t} : s₀.CtlKept (s.stepTo t) :=
  .ite h.same.raise (h.same.raise.foldl (fun _ _ hu => hu.pmStep.pmStep))
theorem Chip.CtlKept.setPort (h : s₀.CtlKept s) {p v} : s₀.CtlKept (s.setPort p v) := h.same
theorem Chip.CtlKept.newMsg (h : s₀.CtlKept s) {type bcast dst payload} : s₀.CtlKept ((s.newMsg type bcast dst payload).2) :=
  h.same
theorem Chip.CtlKept.sendOn (h : s₀.CtlKept s) {p cls m} : s₀.CtlKept (s.sendOn p cls m) := .ite h.setPort h
theorem Chip.CtlKept.flRecompute (h : s₀.CtlKept s) {c} : s₀.CtlKept (s.flRecompute c) :=
  h.foldl (fun _ _ hu => .same (.ite (.ite hu hu.setF.setF) (.setF (.setF (.ite hu hu.setF.setF)))))
theorem Chip.CtlKept.subcSettle (h : s₀.CtlKept s) {c} : s₀.CtlKept (s.subcSettle c) := .ite h h.setF.raise
theorem Chip.CtlKept.stepShadow (h : s₀.CtlKept s) {c code up} : s₀.CtlKept (s.stepShadow c code up) :=
  .ite h.setF (.ite h.setF h.setF)
theorem Chip.CtlKept.stepNotice (h : s₀.CtlKept s) {c} : s₀.CtlKept (s.stepNotice c) := by
  unfold Chip.stepNotice
  dsimp only
  refine .ite h.same (.ite h (.ite h ?_))
  split
  · exact .sendOn (.newMsg (.same (.ite h.stepShadow.stepShadow h.stepShadow)))
  · exact .same (.ite h.stepShadow.stepShadow h.stepShadow)
theorem Chip.CtlKept.settle (h : s₀.CtlKept s) : s₀.CtlKept s.settle :=
  .stepNotice (.stepNotice (.bistSettle (h.subcSettle.subcSettle.foldl (fun _ _ hu => hu.pgSettle))))
theorem Chip.CtlKept.setRcv (h : s₀.CtlKept s) {r v} : s₀.CtlKept (s.setRcv r v) := h.same
theorem Chip.CtlKept.modRcv (h : s₀.CtlKept s) {r f} : s₀.CtlKept (s.modRcv r f) := h.setRcv
theorem Chip.CtlKept.modTxd (h : s₀.CtlKept s) {c f} : s₀.CtlKept (s.modTxd c f) := h.same
theorem Chip.CtlKept.startRamp (h : s₀.CtlKept s) {c st from_} : s₀.CtlKept (s.startRamp c st from_) := by
  unfold Chip.startRamp
  exact h.setF.modTxd
theorem Chip.CtlKept.lineCommit (h : s₀.CtlKept s) {c old oldHome} : s₀.CtlKept (s.lineCommit c old oldHome) :=
  .ite (.ite h.setF.startRamp h.setF) (.ite h.setSubc h)
theorem Chip.CtlKept.modeCommit (h : s₀.CtlKept s) : s₀.CtlKept s.modeCommit :=
  .ite h (.ite h.setCarrierStat.modTxd.modTxd.setCarrierStat (.ite h.setCarrierStat.modTxd.modTxd.setCarrierStat h.setCarrierStat))
theorem Chip.CtlKept.switchedGroups (h : s₀.CtlKept s) {groups old} : s₀.CtlKept (s.switchedGroups groups old) := by
  unfold Chip.switchedGroups
  extract_lets s1 s2 s3
  have h1 : s₀.CtlKept s1 := .ite h.modeCommit h
  have h2 : s₀.CtlKept s2 := .ite h1.xcCommitted h1
  have h3 : s₀.CtlKept s3 := .ite h2.pgCommitted h2
  exact h3.settle
theorem Chip.CtlKept.lencSettle (h : s₀.CtlKept s) {c} : s₀.CtlKept (s.lencSettle c) := .ite h.setF.assert h.setF.setLive
theorem Chip.CtlKept.lencSettleAll (h : s₀.CtlKept s) : s₀.CtlKept s.lencSettleAll := h.lencSettle.lencSettle
theorem Chip.CtlKept.modTim (h : s₀.CtlKept s) {f} : s₀.CtlKept (s.modTim f) := h.same
theorem Chip.CtlKept.refShow (h : s₀.CtlKept s) : s₀.CtlKept s.refShow :=
  .ite (.assert (.setF (h.foldl (fun _ _ hu => hu.setF)))) (.setLive (.setF (h.foldl (fun _ _ hu => hu.setF))))
theorem aboveClk_dpllEv (st : Nat) : AboveClk (dpllEv st).base := by
  unfold dpllEv
  split <;> exact .base rfl
theorem Chip.CtlKept.setDpll (h : s₀.CtlKept s) {st} : s₀.CtlKept (s.setDpll st) :=
  .ite h (.raise (.ite h.setF.setF.setF.setF.setF.modTim h.setF.setF.setF.setF) (aboveClk_dpllEv st))
theorem Chip.CtlKept.freeRun (h : s₀.CtlKept s) {cause} : s₀.CtlKept (s.freeRun cause) := h.setDpll.setF
theorem Chip.CtlKept.noRef (h : s₀.CtlKept s) : s₀.CtlKept s.noRef := h.setF.setF.modTim
theorem Chip.CtlKept.refDecide (h : s₀.CtlKept s) : s₀.CtlKept s.refDecide := by
  dsimp only [Chip.refDecide]
  split
  exacts [.ite h (.ite h.setF.modTim.raise h.setF.modTim), .ite h.setF.modTim (.ite (.ite h.noRef.setDpll h.noRef.freeRun) h.noRef)]
theorem Chip.CtlKept.setDco (h : s₀.CtlKept s) {v} : s₀.CtlKept (s.setDco v) := h.setF.raiseIf
theorem Chip.CtlKept.timSettle (h : s₀.CtlKept s) : s₀.CtlKept s.timSettle := by
  unfold Chip.timSettle
  extract_lets s1 mode hist dco s2
  have h2 : s₀.CtlKept s2 := h.refShow.setF
  exact .ite h2.noRef.freeRun.setF (.ite h2.noRef.freeRun (.ite h2.noRef.freeRun
    (.ite (.freeRun (.ite h2.noRef h2.noRef.setDco)) (.ite (.ite h2.noRef h2.noRef.setDpll) h2.refDecide))))
theorem Chip.CtlKept.dcoCommitted (h : s₀.CtlKept s) : s₀.CtlKept s.dcoCommitted := .ite h.setDco h
theorem Chip.CtlKept.lineGroupCommitted (h : s₀.CtlKept s) {c old} : s₀.CtlKept (s.lineGroupCommitted c old) := by
  unfold Chip.lineGroupCommitted
  extract_lets fixed set_ s1 s2 s3 vbr s4
  have h2 : s₀.CtlKept s2 := .ite (h.setF.foldl fun _ _ hu => .ite hu.modRcv hu) h.setF
  have h3 : s₀.CtlKept s3 := h2.setF
  have h4 : s₀.CtlKept s4 := .ite h3 h3.setF.flRecompute
  exact h4.lineCommit

/-! A count of an event source, and the blocks that refuse an event. -/

theorem Chip.CtlKept.evcAdd (h : s₀.CtlKept s) {fuel k n} : s₀.CtlKept (Chip.evcAdd fuel s k n) := by
  induction fuel generalizing s k n with
  | zero => exact h
  | succ fuel ih => exact .ite h.setF (.ite (ih h.setF.setF.raise) h.setF.setF.raise)
theorem Chip.CtlKept.evc (h : s₀.CtlKept s) {k n} : s₀.CtlKept (s.evc k n) := .ite h h.evcAdd
theorem Chip.CtlKept.refuseLine (h : s₀.CtlKept s) {c e} : s₀.CtlKept (s.refuseLine c e) :=
  h.setF.setF.setF.setF.raiseIf.raiseIf.raiseIf.raiseIf
theorem Chip.CtlKept.refuseBlocks (h : s₀.CtlKept s) {e} : s₀.CtlKept (s.refuseBlocks e) := by
  unfold Chip.refuseBlocks
  extract_lets s1 s2 s3 s4
  have h2 : s₀.CtlKept s2 := .foldl (.ite h.setCarrierStat h) fun _ _ hu => hu.refuseLine
  have h3 : s₀.CtlKept s3 := by
    unfold s3
    split
    exacts [h2.setF.setF.raise, h2]
  have h4 : s₀.CtlKept s4 := by
    unfold s4
    split
    exacts [h3.setF.setF.raise, h3]
  exact h4.raiseIf
end

/-- What EVT_STAT reads after a write of it, in every block: where the block is CLK, the conditions that depend on it write no register of CLK. -/
theorem Chip.rd_evtClear (s : Chip) (base : Nat) (w now : Word) :
    (s.evtClear base w now).rd (base + 0xF0) = (s.rd (base + 0xF0) &&&
      ~~~(w &&& ((s.rd (base + 0xF8) &&& ~~~(nmMask base)) ||| (nmMask base &&& ~~~(s.liveWord base))) &&& ~~~now)) := by
  by_cases h : base = 0x00100000
  · subst h
    rw [Chip.evtClear, if_pos rfl, (Chip.CtlKept.refl _).timSettle.rd _ (by decide) (by decide), Chip.rd_wr, if_pos rfl]
  · rw [Chip.evtClear_eq_wr h, Chip.rd_wr, if_pos rfl]

/-- Settles O11: the word written back holds every bit whose event occurs in the clock of the write. -/
theorem noOccurrenceIsLostToAClear : Obligations.NoOccurrenceIsLostToAClear := by
  intro s k w now i hi hold _ hnow
  refine answers_of_to rfl ?_
  rw [doEvtStatWrite, Chip.rd_evtClear, getLsbD_cleared _ _ _ _ _ _ hi, hold, hnow]
  simp

end Sys2Proof.Machine
end

section
/-! SUPPORT. Commits (R12, R438, R541). -/

namespace Sys2Proof.Machine

set_option Elab.async false

theorem Chip.CtlKept.act_eq {s t : Chip} (h : s.CtlKept t) (a : Nat) : t.act a = s.act a := by
  rw [Chip.act, h.act, Chip.act]

theorem Chip.CtlKept.getF {s t : Chip} (h : s.CtlKept t) {f : Fld} (hlt : f.addr < 0x00200000) (hne : f.addr ≠ Reg.TOP.CARRIER_STAT.addr) :
    t.getF f = s.getF f := by
  rw [Chip.getF, h.rd _ hlt hne, Chip.getF]

theorem Quiet.elsewhere {s t : Chip} (h : Quiet s t) : Elsewhere s t := by
  rw [h]
  exact ⟨rfl, rfl, rfl, rfl, rfl, rfl, rfl, rfl⟩

/-- A chained counter is one of the 512 and not the last (R445). -/
theorem Chip.lt_of_chained {s : Chip} {k : Nat} (h : s.chained k = true) : k < 511 := by
  unfold Chip.chained at h
  simpa using (Bool.and_eq_true_iff.mp h).1

/-- A count of an event source writes registers of EVC alone. -/
theorem Chip.rd_evcAdd (fuel : Nat) (s : Chip) {k : Nat} (n : Nat) (hk : k < 512) {b : Nat} (hb : b / 0x100000 ≠ 5) :
    (Chip.evcAdd fuel s k n).rd b = s.rd b := by
  induction fuel generalizing s k n with
  | zero => rfl
  | succ fuel ih =>
    have hcnt : b ≠ Reg.EVC.EVC_CNT.addr k := by
      unfold Reg.EVC.EVC_CNT.addr
      omega
    have hovf : b ≠ Reg.EVC.OVF.addr (k / 32) := by
      unfold Reg.EVC.OVF.addr
      omega
    have hstat : b ≠ Ev.EVC.OVF.base + 0xF0 := by
      rintro rfl
      exact hb (by decide)
    unfold Chip.evcAdd
    extract_lets total s1 wraps s2
    have h1 : s1.rd b = s.rd b := Chip.rd_setF_ne _ _ _ hcnt
    have h2 : s2.rd b = s.rd b := by
      rw [← h1, Chip.rd_raise, if_neg fun h => hstat h.2]
      exact Chip.rd_setF_ne _ _ _ hovf
    split
    · exact h1
    · split
      · next hch => exact (ih s2 wraps (Nat.succ_lt_succ (Chip.lt_of_chained hch))).trans h2
      · exact h2

theorem Chip.rd_evc (s : Chip) (k n : Nat) {b : Nat} (hb : b / 0x100000 ≠ 5) : (s.evc k n).rd b = s.rd b := by
  unfold Chip.evc
  split
  · rfl
  · next h => exact Chip.rd_evcAdd 512 s n (by omega) hb

theorem keptBut_evc (s : Chip) (k n : Nat) : KeptBut [0x05] [] s (s.evc k n) :=
  ⟨fun g _ hb _ => by rw [Chip.getF, Chip.rd_evc s k n (by simpa using hb), Chip.getF], by rw [quiet_evc s k n]⟩

theorem Chip.getF_evc (s : Chip) (k n : Nat) {f : Fld} (hf : f.addr / 0x100000 ≠ 5) : (s.evc k n).getF f = s.getF f := by
  rw [Chip.getF, Chip.rd_evc s k n hf, Chip.getF]

/-- A count of an event source leaves open whether a protection switch is in progress. -/
theorem Chip.switchDue_evc (s : Chip) (k n : Nat) : (s.evc k n).pgsOn.any (s.evc k n).switchDue = s.pgsOn.any s.switchDue := by
  have hact : (s.evc k n).act = s.act := by rw [quiet_evc s k n]; rfl
  have hpg : ∀ g, (s.evc k n).pgOf g = s.pgOf g := fun g => by rw [quiet_evc s k n]; rfl
  have hcfg : ∀ g, (s.evc k n).pgCfgOf g = s.pgCfgOf g := fun g => by rw [Chip.pgCfgOf, hact, Chip.pgCfgOf]
  have haddr : ∀ g, Reg.PROT.PG_STAT.addr g / 0x100000 ≠ 5 := fun g => by
    unfold Reg.PROT.PG_STAT.addr
    omega
  have hstat : ∀ g lo width, (s.evc k n).flag ⟨Reg.PROT.PG_STAT.addr g, lo, width⟩ = s.flag ⟨Reg.PROT.PG_STAT.addr g, lo, width⟩ :=
    fun g _ _ => by rw [Chip.flag, Chip.getF_evc s k n (haddr g), Chip.flag]
  have hfrozen : (s.evc k n).flag Reg.PROT.PROT_STAT.FROZEN = s.flag Reg.PROT.PROT_STAT.FROZEN := by
    rw [Chip.flag, Chip.getF_evc s k n (by decide), Chip.flag]
  have hon : ∀ g, (s.evc k n).pgOn g = s.pgOn g := fun g => by
    rw [Chip.pgOn, Chip.pgOn, hcfg, Reg.PROT.PG_STAT.EN_ACTIVE, hstat]
  have hdue : ∀ g, (s.evc k n).switchDue g = s.switchDue g := fun g => by
    rw [Chip.switchDue, Chip.switchDue, hon, hpg, hcfg, hfrozen, Reg.PROT.PG_STAT.ACTIVE, hstat]
  rw [Chip.pgsOn, Chip.pgsOn, funext hon, funext hdue]

/-! A commit that is refused. -/

theorem Quiet.setF {s t : Chip} (h : Quiet s t) {f v} : Quiet s (t.setF f v) := h.trans (quiet_setF _ _ _)

theorem Quiet.raise {s t : Chip} (h : Quiet s t) {e} : Quiet s (t.raise e) := h.trans (quiet_raise _ _)

theorem Quiet.raiseIf {s t : Chip} (h : Quiet s t) {b e} : Quiet s (t.raiseIf b e) := h.trans (quiet_raiseIf _ _ _)

theorem Quiet.refuseLine {s t : Chip} (h : Quiet s t) {c k} : Quiet s (t.refuseLine c k) :=
  h.setF.setF.setF.setF.raiseIf.raiseIf.raiseIf.raiseIf

theorem Quiet.refuseBlocks {s t : Chip} (h : Quiet s t) {k} : Quiet s (t.refuseBlocks k) := by
  unfold Chip.refuseBlocks
  extract_lets s1 s2 s3 s4
  have h1 : Quiet s s1 := by
    unfold s1
    split
    exacts [h.setF, h]
  have h2 : Quiet s s2 := h1.trans (.foldl (fun u p => (Quiet.refl u).refuseLine) _ _)
  have h3 : Quiet s s3 := by
    unfold s3
    split
    exacts [h2.setF.setF.raise, h2]
  have h4 : Quiet s s4 := by
    unfold s4
    split
    exacts [h3.setF.setF.raise, h3]
  exact h4.raiseIf

theorem Quiet.commitRefused {s t : Chip} (h : Quiet s t) {g} : Quiet s (t.commitRefused g) := h.setF.setF.raise

/-- What a refused event leaves in TOP, whatever came before it kept the control registers (R438, R541). -/
theorem Chip.commitRefused_control {s u : Chip} (h : s.CtlKept u) (g : Fin 4294967296) :
    (u.commitRefused g.val).getF Reg.TOP.COMMIT_REFUSED.GROUPS = s.getF Reg.TOP.COMMIT_REFUSED.GROUPS ||| g.val ∧
      (u.commitRefused g.val).getF Reg.TOP.COMMIT_LAST.GROUPS = g.val ∧
      Recorded Ev.TOP.COMMIT_REFUSED s (u.commitRefused g.val) ∧ (u.commitRefused g.val).actRegs = s.actRegs ∧
      (u.commitRefused g.val).getF Reg.TOP.COMMIT_SEQ.COUNT = s.getF Reg.TOP.COMMIT_SEQ.COUNT := by
  have hsticky : (((u.setF Reg.TOP.COMMIT_REFUSED.GROUPS (u.getF Reg.TOP.COMMIT_REFUSED.GROUPS ||| g.val)).setF
      Reg.TOP.COMMIT_LAST.GROUPS g.val).rd (Ev.TOP.COMMIT_REFUSED.base + 0xF8)) = s.rd (Ev.TOP.COMMIT_REFUSED.base + 0xF8) := by
    rw [Chip.rd_setF_ne _ _ _ (by decide), Chip.rd_setF_ne _ _ _ (by decide), h.rd _ (by decide) (by decide)]
  have hraise : ∀ (v : Chip) (f : Fld), f.addr ≠ Ev.TOP.COMMIT_REFUSED.base + 0xF0 → (v.raise Ev.TOP.COMMIT_REFUSED).getF f = v.getF f :=
    fun v f hf => by rw [Chip.getF, Chip.rd_raise, if_neg fun hc => hf hc.2, Chip.getF]
  have hold : u.getF Reg.TOP.COMMIT_REFUSED.GROUPS = s.getF Reg.TOP.COMMIT_REFUSED.GROUPS := h.getF (by decide) (by decide)
  unfold Chip.commitRefused
  refine ⟨?_, ?_, fun hs => recorded_raise _ _ (by decide) (by rw [hsticky]; exact hs), ?_, ?_⟩
  · rw [hraise _ _ (by decide), Chip.getF_setF_addr _ _ _ _ (by decide), Chip.getF_setF_self _ _ _ (by decide), hold]
    exact Nat.mod_eq_of_lt (Nat.or_lt_two_pow (Word.field_lt _ _ _) g.isLt)
  · rw [hraise _ _ (by decide), Chip.getF_setF_self _ _ _ (by decide)]
    exact Nat.mod_eq_of_lt g.isLt
  · rw [quiet_raise]
    exact h.act
  · rw [hraise _ _ (by decide), Chip.getF_setF_addr _ _ _ _ (by decide), Chip.getF_setF_addr _ _ _ _ (by decide)]
    exact h.getF (by decide) (by decide)

theorem keptBut_commitRefused (s : Chip) (g : Nat) :
    KeptBut [] [Reg.TOP.COMMIT_REFUSED.GROUPS, Reg.TOP.COMMIT_LAST.GROUPS, evtBit Ev.TOP.COMMIT_REFUSED] s (s.commitRefused g) := by
  unfold Chip.commitRefused
  refine .trans ((keptBut_setF _ _ _).mono (by simp) ?_) (.trans ((keptBut_setF _ _ _).mono (by simp) ?_)
    ((keptBut_raise _ _ (by decide)).mono (by simp) ?_)) <;> simp

/-! A commit that takes effect. -/

theorem Store.get_of_not_mem {α : Type} (d : Nat → α) (m : List (Nat × α)) {a : Nat} (h : a ∉ m.map Prod.fst) :
    Store.get d m a = d a := by
  induction m with
  | nil => rfl
  | cons q m ih =>
    rw [List.map_cons, List.mem_cons, not_or] at h
    rw [Store.get_cons, if_neg (Ne.symm h.1), ih h.2]

theorem Store.get_filter {α : Type} (d : Nat → α) (m : List (Nat × α)) (p : Nat → Bool) {a : Nat} (h : p a = true) :
    Store.get d (m.filter fun q => p q.1) a = Store.get d m a := by
  have hclear := Store.get_clear d m (fun b => !p b) a
  simpa [Store.clear, h] using hclear

/-- The active words after words that depend on their addresses alone are installed. -/
theorem Chip.act_install (s : Chip) (f : Nat → Word) (addrs : List Nat) (a : Nat) :
    (s.install (addrs.map fun b => (b, f b))).act a = if a ∈ addrs then f a else s.act a := by
  induction addrs generalizing s with
  | nil => simp [Chip.install]
  | cons b addrs ih =>
    have hstep : s.install ((b :: addrs).map fun c => (c, f c)) =
      Chip.install { s with actRegs := Store.set RegMap.reset s.actRegs b (f b) } (addrs.map fun c => (c, f c)) := rfl
    have hact : ({ s with actRegs := Store.set RegMap.reset s.actRegs b (f b) } : Chip).act a = if a = b then f b else s.act a :=
      Store.get_set _ _ _ _ _
    rw [hstep, ih, hact]
    by_cases hb : a = b
    · subst hb
      simp
    · simp [hb]

/-- The addresses that an event gives new words to. -/
def Chip.newAddrs (s : Chip) (shadow : List (Nat × Word)) (groups : Nat) : List Nat :=
  (shadow ++ s.actRegs.filter fun p => inGroups groups p.1).map Prod.fst

/-- An event's new active word at an address. -/
def Chip.newWord (s : Chip) (shadow : List (Nat × Word)) (a : Nat) : Word :=
  (s.act a &&& ~~~(RegMap.rwsMask a)) ||| (Store.get RegMap.reset shadow a &&& RegMap.rwsMask a)

theorem Chip.newWords_eq (s : Chip) (shadow : List (Nat × Word)) (groups : Nat) :
    s.newWords shadow groups = (s.newAddrs shadow groups).map fun a => (a, s.newWord shadow a) := rfl

theorem inGroups_of_mem_filter {m : List (Nat × Word)} {groups a : Nat} (h : a ∈ (m.filter fun p => inGroups groups p.1).map Prod.fst) :
    inGroups groups a = true := by
  obtain ⟨p, hp, rfl⟩ := List.mem_map.mp h
  exact (List.mem_filter.mp hp).2

theorem and_not_or_and (w m : Word) : (w &&& ~~~m) ||| (w &&& m) = w := by
  refine BitVec.eq_of_getLsbD_eq fun i hi => ?_
  simp only [BitVec.getLsbD_or, BitVec.getLsbD_and, BitVec.getLsbD_not, hi, decide_true, Bool.true_and]
  cases m.getLsbD i <;> simp

/-- Once an event's words are installed, every RWS field of its groups has taken its shadow, and every other active word stands (R12, R438). -/
theorem Chip.act_install_newWords {s u : Chip} (hact : u.actRegs = s.actRegs) (groups a : Nat) :
    (u.install (u.newWords (s.shadows groups) groups)).act a =
      if inGroups groups a = true then (s.act a &&& ~~~(RegMap.rwsMask a)) ||| (s.rd a &&& RegMap.rwsMask a) else s.act a := by
  have hu : ∀ b, u.act b = s.act b := fun b => by rw [Chip.act, hact, Chip.act]
  rw [Chip.newWords_eq, Chip.act_install, hu, Chip.newWord, hu]
  by_cases hg : inGroups groups a = true
  · have hrd : Store.get RegMap.reset (s.shadows groups) a = s.rd a := Store.get_filter _ _ (inGroups groups) hg
    have hactive : Store.get RegMap.reset (u.actRegs.filter fun p => inGroups groups p.1) a = s.act a := by
      rw [hact]
      exact Store.get_filter _ _ (inGroups groups) hg
    rw [if_pos hg, hrd]
    by_cases hmem : a ∈ u.newAddrs (s.shadows groups) groups
    · rw [if_pos hmem]
    · rw [if_neg hmem]
      rw [Chip.newAddrs, List.map_append, List.mem_append, not_or] at hmem
      rw [← hrd, ← hactive, Store.get_of_not_mem _ _ hmem.1, Store.get_of_not_mem _ _ hmem.2]
      exact (and_not_or_and _ _).symm
  · have hmem : a ∉ u.newAddrs (s.shadows groups) groups := by
      rw [Chip.newAddrs, List.map_append, List.mem_append, not_or]
      exact ⟨fun h => hg (inGroups_of_mem_filter h), fun h => hg (inGroups_of_mem_filter h)⟩
    rw [if_neg hg, if_neg hmem]

theorem Chip.rd_install (s : Chip) (words : List (Nat × Word)) (a : Nat) : (s.install words).rd a = s.rd a := by
  unfold Chip.install
  induction words generalizing s with
  | nil => rfl
  | cons p words ih => exact ih _

/-- An event that takes effect at once installs its words; what follows keeps the control registers but for its own record (R12, R438). -/
theorem Chip.commitTakes_eq {s : Chip} (hdefer : s.top.deferGroups = 0) (hdue : s.pgsOn.any s.switchDue = false)
    (words : List (Nat × Word)) (groups : Nat) :
    ∃ u, (s.install words).CtlKept u ∧
      s.commitTakes words groups = ((u.bump Reg.TOP.COMMIT_SEQ.COUNT).setF Reg.TOP.COMMIT_LAST.GROUPS groups).lencSettleAll := by
  unfold Chip.commitTakes
  extract_lets old waits late s1 _ s2 s3 s4 s5 s6 t u _ s7 s8
  have hw : waits = false := by simp [waits, hdefer, hdue]
  have h2 : (s.install words).CtlKept s2 := by
    have hs2 : s2 = s.install words := by simp [s2, s1, hw]
    rw [hs2]
    exact .refl _
  clear_value waits
  have h3 : (s.install words).CtlKept s3 := h2.foldl fun _ _ hu => hu.lineGroupCommitted
  have h4 : (s.install words).CtlKept s4 := .ite h3 h3.switchedGroups
  have h5 : (s.install words).CtlKept s5 := .ite h4.portCommitted h4
  have h6 : (s.install words).CtlKept s6 := .ite h5.dcoCommitted h5
  have h7 : (s.install words).CtlKept s7 := .ite h6.stepTo.same.setF h6
  have h8 : (s.install words).CtlKept s8 := .ite h7.flRecompute.flRecompute h7
  exact ⟨s8, h8, rfl⟩

/-- What an event that takes effect at once leaves of the active words and of its own record. -/
theorem Chip.commitTakes_control {s : Chip} (hdefer : s.top.deferGroups = 0) (hdue : s.pgsOn.any s.switchDue = false)
    (words : List (Nat × Word)) (g : Fin 4294967296) :
    (s.commitTakes words g.val).getF Reg.TOP.COMMIT_SEQ.COUNT = (s.getF Reg.TOP.COMMIT_SEQ.COUNT + 1) % 2 ^ 32 ∧
      (s.commitTakes words g.val).getF Reg.TOP.COMMIT_LAST.GROUPS = g.val ∧
      ∀ a, (s.commitTakes words g.val).act a = (s.install words).act a := by
  obtain ⟨u, hu, htakes⟩ := Chip.commitTakes_eq hdefer hdue words g.val
  have hlast := (Chip.CtlKept.refl ((u.bump Reg.TOP.COMMIT_SEQ.COUNT).setF Reg.TOP.COMMIT_LAST.GROUPS g.val)).lencSettleAll
  have hinstall : (s.install words).getF Reg.TOP.COMMIT_SEQ.COUNT = s.getF Reg.TOP.COMMIT_SEQ.COUNT := by
    rw [Chip.getF, Chip.rd_install, Chip.getF]
  rw [htakes]
  refine ⟨?_, ?_, fun a => ?_⟩
  · rw [hlast.getF (by decide) (by decide), Chip.getF_setF_addr _ _ _ _ (by decide), Chip.bump, Chip.getF_setF_self _ _ _ (by decide),
      hu.getF (by decide) (by decide), hinstall]
    rfl
  · rw [hlast.getF (by decide) (by decide), Chip.getF_setF_self _ _ _ (by decide)]
    exact Nat.mod_eq_of_lt g.isLt
  · rw [hlast.act_eq, Chip.act_setF, Chip.bump, Chip.act_setF, hu.act_eq]

/-! The three ends of an event (R438, R541). -/

theorem doCommit_missing {s : Chip} {g : Fin 4294967296} (hg : g.val ≠ 0) (hmiss : s.islandsMissing g.val ≠ 0) :
    doCommit g s = (s.evc 71).commitRefused g.val := by
  rw [doCommit, if_neg hg, Chip.commitEvent, if_pos hmiss]

theorem doCommit_there {s : Chip} {g : Fin 4294967296} (hg : g.val ≠ 0) (hmiss : s.islandsMissing g.val = 0) :
    doCommit g s =
      (let words := (s.evc 71).newWords (s.shadows g.val) g.val
       let k := (s.evc 71).eventCheck ((s.evc 71).afterEvent words) g.val
       if k.bad then ((s.evc 71).refuseBlocks k).commitRefused g.val else (s.evc 71).commitTakes words g.val) := by
  rw [doCommit, if_neg hg, Chip.commitEvent, if_neg (by simp [hmiss])]

/-- Settles O12: an event is refused in TOP alone, or with the records of the blocks that refuse it, or its words are installed. -/
theorem commits : Obligations.Commits := by
  refine ⟨fun s g hg hmiss hdefer hdue hgood => answers_of_to rfl ?_,
    fun s g => ⟨fun hg hmiss => answers_of_to rfl ?_, fun hg hmiss hbad => answers_of_to rfl ?_, fun hg => ?_⟩⟩
  · have hdefer0 : (s.chip.evc 71).top.deferGroups = 0 := by rw [quiet_evc s.chip 71 1]; exact hdefer
    have hdue0 := (Chip.switchDue_evc s.chip 71 1).trans hdue
    obtain ⟨hseq, hlast, hact⟩ := Chip.commitTakes_control hdefer0 hdue0 ((s.chip.evc 71).newWords (s.chip.shadows g.val) g.val) g
    have hactRegs : (s.chip.evc 71).actRegs = s.chip.actRegs := by rw [quiet_evc s.chip 71 1]
    rw [doCommit_there hg hmiss]
    dsimp only
    rw [if_neg (by rw [hgood]; decide)]
    refine ⟨?_, hlast, fun a ha => ?_, fun a ha => ?_⟩
    · rw [hseq, Chip.getF_evc _ _ _ (by decide)]
    · rw [hact, Chip.act_install_newWords hactRegs, if_pos ha]
    · rw [hact, Chip.act_install_newWords hactRegs, if_neg (by rw [ha]; decide)]
  · obtain ⟨hrefused, hlast, hrec, -, -⟩ := Chip.commitRefused_control (Chip.CtlKept.refl s.chip).evc g
    rw [doCommit_missing hg hmiss]
    exact ⟨hrefused, hlast, hrec, ((keptBut_evc s.chip 71 1).mono (by simp) (by simp)).trans
      ((keptBut_commitRefused _ _).mono (by simp) (by simp)), (quiet_evc s.chip 71 1).commitRefused⟩
  · rw [doCommit_there hg hmiss]
    dsimp only
    rw [if_pos hbad]
    obtain ⟨hrefused, hlast, hrec, hact, hseq⟩ := Chip.commitRefused_control (Chip.CtlKept.refl s.chip).evc.refuseBlocks g
    exact ⟨hrefused, hlast, hrec, hact, hseq, (quiet_evc s.chip 71 1).refuseBlocks.commitRefused.elsewhere⟩
  · have hdo : doCommit g s.chip = s.chip := if_pos hg
    show s.to (doCommit g s.chip) = .next s
    rw [hdo]
    rfl

end Sys2Proof.Machine
end

section
/-! SUPPORT. Bits of a field set and cleared, the error response of the bus matrix, and the bridges (R24, R416). -/

namespace Sys2Proof.Machine

/-! ## One bit of a field -/

theorem testBit_sub_and_two_pow (x b : Nat) : (x - (x &&& 2 ^ b)).testBit b = false := by
  have hdiv : (x - (x &&& 2 ^ b)) / 2 ^ b = x / 2 ^ b - x / 2 ^ b % 2 := by
    rw [Nat.and_two_pow, Nat.toNat_testBit, Nat.mul_comm, Nat.sub_mul_div]
  rw [Nat.testBit_eq_decide_div_mod_eq, hdiv]
  exact decide_eq_false (by omega)

/-- A cleared bit of a field reads as 0. -/
theorem Chip.bitOf_clrBit_self (s : Chip) (f : Fld) (b : Nat) (h : f.lo + f.width ≤ 32) : (s.clrBit f b).bitOf f b = false := by
  rw [Chip.bitOf, Chip.clrBit, Chip.getF_setF_self _ _ _ h, Nat.testBit_mod_two_pow, testBit_sub_and_two_pow, Bool.and_false]

/-- A set bit of a field reads as 1. -/
theorem Chip.bitOf_setBit_self (s : Chip) (f : Fld) {b : Nat} (h : f.lo + f.width ≤ 32) (hb : b < f.width) :
    (s.setBit f b).bitOf f b = true := by
  rw [Chip.bitOf, Chip.setBit, Chip.getF_setF_self _ _ _ h, Nat.testBit_mod_two_pow, Nat.testBit_or, Nat.testBit_two_pow_self]
  simp [hb]

/-- Setting a bit of a field leaves every other bit of its register. -/
theorem Chip.getLsbD_rd_setBit (s : Chip) (f : Fld) {b i : Nat} (hi : i < 32) (hne : i ≠ f.lo + b) :
    ((s.setBit f b).rd f.addr).getLsbD i = (s.rd f.addr).getLsbD i := by
  rw [Chip.setBit, Chip.setF, Chip.rd_wr, if_pos rfl, Word.getLsbD_setField _ _ _ _ _ hi]
  split
  · next hin =>
    have hbit : b ≠ i - f.lo := by omega
    have hlt : i - f.lo < f.width := by omega
    have hlo : f.lo + (i - f.lo) = i := by omega
    rw [Nat.testBit_or, Nat.testBit_two_pow_of_ne hbit, Chip.getF, Word.testBit_field, hlo]
    simp [hlt]
  · rfl

/-- Setting a bit of a field keeps every field that does not hold the bit. -/
theorem keptBut_setBit (s : Chip) (f : Fld) (b : Nat) : KeptBut [] [⟨f.addr, f.lo + b, 1⟩] s (s.setBit f b) := by
  refine ⟨fun g hg _ ha => ?_, rfl⟩
  have hapart := ha ⟨f.addr, f.lo + b, 1⟩ (by simp)
  by_cases haddr : g.addr = f.addr
  · refine Nat.eq_of_testBit_eq fun i => ?_
    rw [Chip.getF, Chip.getF, Word.testBit_field, Word.testBit_field, haddr]
    by_cases hi : i < g.width
    · have hne : g.lo + i ≠ f.lo + b := by
        rcases hapart with hapart | hapart | hapart
        · exact absurd haddr.symm hapart
        all_goals dsimp only at hapart; omega
      rw [Chip.getLsbD_rd_setBit s f (by omega) hne]
    · simp [hi]
  · exact Chip.getF_setF_addr _ _ _ _ haddr

/-! ## What a register write and an occurrence leave -/

theorem KeptBut.setF {bs : List Nat} {fs : List Fld} {s t : Chip} (h : KeptBut bs fs s t) {f : Fld} {v : Nat}
    (hf : f.addr / 0x100000 ∈ bs) : KeptBut bs fs s (t.setF f v) :=
  ⟨fun g hg hb ha => (Chip.getF_setF_addr t f g v fun he => hb (he ▸ hf)).trans (h.1 g hg hb ha), h.2⟩

theorem KeptBut.raise {bs : List Nat} {fs : List Fld} {s t : Chip} (h : KeptBut bs fs s t) {e : Ev} (he : (e.base + 0xF0) / 0x100000 ∈ bs) :
    KeptBut bs fs s (t.raise e) := by
  refine ⟨fun g hg hb ha => ?_, by rw [quiet_raise t e]; exact h.2⟩
  have hne : g.addr ≠ e.base + 0xF0 := fun hc => hb (hc ▸ he)
  rw [Chip.getF, Chip.rd_raise, if_neg fun hc => hne hc.2]
  exact h.1 g hg hb ha

/-- A register written later, other than EVT_STAT of the event's block, leaves an event recorded. -/
theorem Recorded.setF {e : Ev} {s t : Chip} (h : Recorded e s t) {f : Fld} {v : Nat} (hf : f.addr ≠ e.base + 0xF0) :
    Recorded e s (t.setF f v) := fun hs => by
  rw [Chip.rd_setF_ne _ _ _ (Ne.symm hf)]
  exact h hs

/-- What left EVT_STICKY of the event's block as it was may come before the event is recorded. -/
theorem Recorded.of_sticky {e : Ev} {s t u : Chip} (hsticky : t.rd (e.base + 0xF8) = s.rd (e.base + 0xF8)) (h : Recorded e t u) :
    Recorded e s u := fun hs => h (by rw [hsticky]; exact hs)

/-! ## The error response of the bus matrix -/

/-- An error response is counted, latched where the latch is free and recorded in registers of POOL and EVC alone, and then delivered to its
master (R416, R447). -/
theorem Chip.busError_eq (s : Chip) (m target cause addr : Nat) :
    ∃ u, s.busError m target cause addr = u.respond m (.err cause) ∧ Quiet s u ∧ KeptBut [0x03, 0x05] [] s u ∧
      Recorded Ev.POOL.BUS_ERR s u := by
  unfold Chip.busError
  extract_lets s0 s1 a s2
  have ⟨hquiet0, hkept0, hsticky0⟩ : Quiet s s0 ∧ KeptBut [0x03, 0x05] [] s s0 ∧
      s0.rd (Ev.POOL.BUS_ERR.base + 0xF8) = s.rd (Ev.POOL.BUS_ERR.base + 0xF8) := by
    unfold s0
    split
    · exact ⟨quiet_evc _ _ _, (keptBut_evc _ _ _).mono (by simp) (by simp), Chip.rd_evc _ _ _ (by decide)⟩
    · exact ⟨.refl s, .refl _ _ s, rfl⟩
  have hquiet1 : Quiet s s1 := hquiet0.setF.raise
  have hkept1 : KeptBut [0x03, 0x05] [] s s1 := (hkept0.setF (by decide)).raise (by decide)
  have hrec1 : Recorded Ev.POOL.BUS_ERR s s1 :=
    .of_sticky ((Chip.rd_setF_ne _ _ _ (by decide)).trans hsticky0) (recorded_raise _ _ (by decide))
  refine ⟨s2, rfl, ?_⟩
  unfold s2
  split
  · exact ⟨hquiet1, hkept1, hrec1⟩
  · exact ⟨hquiet1.setF.setF.setF.setF.setF,
      ((((hkept1.setF (by decide)).setF (by decide)).setF (by decide)).setF (by decide)).setF (by decide),
      ((((hrec1.setF (by decide)).setF (by decide)).setF (by decide)).setF (by decide)).setF (by decide)⟩

/-! ## The bridges -/

theorem Chip.bitOf_bridgeUsed_self (s : Chip) (b : Nat) : (s.bridgeUsed b).bitOf Reg.CLK.BRG_QUIET.QUIET b = false :=
  Chip.bitOf_clrBit_self _ _ _ (by decide)

theorem kept_bridgeUsed (s : Chip) (b : Nat) : Kept [Reg.CLK.BRG_QUIET.QUIET] s (s.bridgeUsed b) := keptBut_setF _ _ _

/-- The island that a transfer over bridge b goes to (R22). -/
def bridgeTo (b : Fin 16) (back : Bool) : Nat := if back then (bridgeEnds.getD b.val (0, 0)).1 else (bridgeEnds.getD b.val (0, 0)).2

theorem doBridgeTransfer_reg_down {s : Chip} {b : Fin 16} {back : Bool} (h : s.islDown (bridgeTo b back) = true) (m : Fin 8) (a : Word) :
    doBridgeTransfer b back (some (m, a)) s = (s.bridgeUsed b.val).busError m.val ((busTarget a.toNat).getD 0xF) 7 a.toNat := if_pos h

theorem doBridgeTransfer_data_down {s : Chip} {b : Fin 16} {back : Bool} (h : s.islDown (bridgeTo b back) = true) :
    doBridgeTransfer b back none s = (s.bridgeUsed b.val).modClk fun v =>
      { v with waits := Tab.put 0 v.waits (2 * b.val + back.toNat) (Tab.get 0 v.waits (2 * b.val + back.toNat) + 1) } := if_pos h

theorem doBridgeTransfer_up {s : Chip} {b : Fin 16} {back : Bool} (h : s.islDown (bridgeTo b back) = false) (reg : Option (Fin 8 × Word)) :
    doBridgeTransfer b back reg s =
      (s.bridgeUsed b.val).modClk fun v => { v with waits := Store.erase v.waits (2 * b.val + back.toNat) } :=
  if_neg (by rw [← bridgeTo, h]; decide)

/-- Settles O14: every transfer clears the quiet bit first; after it come the error response, one more transfer that waits, or none that waits. -/
theorem bridges : Obligations.Bridges := by
  intro s b back
  refine ⟨fun m a hdown => answers_of_to rfl ?_, fun hdown => answers_of_to rfl ?_, fun hup => answers_of_to rfl ?_,
    fun hforth hback => answers_of_to rfl ?_⟩
  · obtain ⟨u, herr, hquiet, hkept, hrec⟩ :=
      (s.chip.bridgeUsed b.val).busError_eq m.val ((busTarget a.toNat).getD 0xF) 7 a.toNat
    have hbit : u.getF Reg.CLK.BRG_QUIET.QUIET = (s.chip.bridgeUsed b.val).getF Reg.CLK.BRG_QUIET.QUIET :=
      hkept.1 _ (by decide) (by decide) (by simp)
    have hsticky : (s.chip.bridgeUsed b.val).rd (Ev.POOL.BUS_ERR.base + 0xF8) = s.chip.rd (Ev.POOL.BUS_ERR.base + 0xF8) :=
      Chip.rd_setF_ne _ _ _ (by decide)
    rw [doBridgeTransfer_reg_down hdown, herr]
    refine ⟨?_, lastResp_respond _ _ _, .of_sticky hsticky hrec, ?_,
      ((kept_bridgeUsed _ _).mono (by simp) (by simp)).trans (hkept.mono (by simp) (by simp))⟩
    · exact (congrArg (Nat.testBit · b.val) hbit).trans (Chip.bitOf_bridgeUsed_self _ _)
    · rw [hquiet]
      rfl
  · rw [doBridgeTransfer_data_down hdown]
    refine ⟨Chip.bitOf_bridgeUsed_self _ _, ?_, kept_bridgeUsed _ _, rfl⟩
    rw [Chip.modClk_clk, Tab.get_put, if_pos rfl]
    rfl
  · rw [doBridgeTransfer_up hup]
    refine ⟨Chip.bitOf_bridgeUsed_self _ _, ?_, kept_bridgeUsed _ _, rfl⟩
    exact Store.get_erase_self _ _ _
  · have hdo : doBridgeQuiescent b s.chip = s.chip.setBit Reg.CLK.BRG_QUIET.QUIET b.val := if_pos ⟨hforth, hback⟩
    have hlo : Reg.CLK.BRG_QUIET.QUIET.lo + b.val = b.val := Nat.zero_add _
    have hkept := keptBut_setBit s.chip Reg.CLK.BRG_QUIET.QUIET b.val
    rw [hlo] at hkept
    rw [hdo]
    exact ⟨Chip.bitOf_setBit_self _ _ (by decide) b.isLt, hkept, quiet_setF _ _ _⟩

end Sys2Proof.Machine
end

section
/-! SUPPORT. What the judgements that end a step of the line leave as it was: the defects of the trails, the redundant groups, the protection
groups, self-test, the latency bounds and the receivers. One law per operation, in the form of the laws for the control registers. -/

namespace Sys2Proof.Machine

set_option Elab.async false

theorem Elsewhere.refl (s : Chip) : Elsewhere s s := ⟨rfl, rfl, rfl, rfl, rfl, rfl, rfl, rfl⟩

theorem Elsewhere.trans {s t u : Chip} (h : Elsewhere s t) (k : Elsewhere t u) : Elsewhere s u := by
  obtain ⟨h1, h2, h3, h4, h5, h6, h7, h8⟩ := h
  obtain ⟨k1, k2, k3, k4, k5, k6, k7, k8⟩ := k
  exact ⟨k1.trans h1, k2.trans h2, k3.trans h3, k4.trans h4, k5.trans h5, k6.trans h6, k7.trans h7, k8.trans h8⟩

/-- The registers that the judgements write, read off the form their addresses have. Of TXD and SUBC they are the shadows that a step-down
writes, SC_SF and the events of SUBC. -/
inductive LineReg : Nat → Prop
  /-- A register of a trail, in FRM or PMON. -/
  | trail (c : Carrier) {n t : Nat} (ht : t < 16) (hn : 0x01400000 ≤ n ∧ n ≤ 0x015F0000) : LineReg (c.base + n + 0x1000 * t)
  /-- EVT_STAT of a carrier's block other than TXD. -/
  | event (c : Carrier) {n : Nat} (hn : 0x01100000 ≤ n ∧ n ≤ 0x01700000 ∧ n % 0x100000 = 0) : LineReg (c.base + n + 0xF0)
  /-- LINE_CFG, EVT_TRAIL, DN_EN, UP_EN and SC_SF of a carrier. -/
  | own (c : Carrier) {n : Nat} (hn : n ∈ [0x01000004, 0x01400010, 0x01600004, 0x01600008, 0x01600014]) : LineReg (c.base + n)
  /-- A register of a redundant group, in TST. -/
  | unit (c : Carrier) {n g : Nat} (hg : g < 3) (hn : 0x00A00000 ≤ n ∧ n ≤ 0x00A0FFFF) : LineReg (n + 192 * c.ix + 64 * g)
  /-- The upper half of a pair of a redundant group, in TST. -/
  | unitHi (c : Carrier) {n g : Nat} (hg : g < 3) (hn : 0x00A00000 ≤ n ∧ n ≤ 0x00A0FFFF) : LineReg (n + 192 * c.ix + 64 * g + 4)
  /-- A register of a trail's latency bounds, in WST. -/
  | bound (c : Carrier) {n t : Nat} (ht : t < 16) (hn : 0x00700000 ≤ n ∧ n ≤ 0x0070FFFF) : LineReg (n + 0x100 * c.ix + 16 * t)
  /-- A register of a connection, in XC. -/
  | entry {n k : Nat} (hk : k < 32) (hn : 0x02300000 ≤ n ∧ n ≤ 0x0230FFFF) : LineReg (n + 16 * k)
  /-- A register of a protection group, in PROT. -/
  | group {n g : Nat} (hg : g < 16) (hn : 0x02400000 ≤ n ∧ n ≤ 0x0240FFFF) : LineReg (n + 0x100 * g)
  /-- Any other register of TST, XC and PROT. -/
  | single {n : Nat} (hn : n / 0x100000 ∈ [0x0A, 0x23, 0x24]) : LineReg n

theorem ne_of_not_lineReg {a b : Nat} (ha : LineReg a) (hb : ¬ LineReg b) : b ≠ a := by
  rintro rfl
  exact hb ha

/-- What the judgements write of TXD and SUBC. -/
theorem LineReg.mem_of_report {c : Carrier} {m : Nat} (h : LineReg (c.base + m)) (hm : m / 0x100000 = 0x10 ∨ m / 0x100000 = 0x16) :
    m ∈ [0x01000004, 0x01600004, 0x01600008, 0x01600014, 0x016000F0] := by
  have hbase : ∀ d : Carrier, d.base = 0 ∨ d.base = 0x800000 := by
    intro d
    cases d <;> simp [Carrier.base]
  have hix : ∀ d : Carrier, d.ix ≤ 1 := by
    intro d
    cases d <;> simp [Carrier.ix]
  have hc := hbase c
  generalize ha : c.base + m = a at h
  simp only [List.mem_cons, List.not_mem_nil, or_false]
  cases h with
  | trail d ht hn | event d hn =>
    have hd := hbase d
    omega
  | own d hn =>
    have hd := hbase d
    simp only [List.mem_cons, List.not_mem_nil, or_false] at hn
    omega
  | unit d hg hn | unitHi d hg hn | bound d hg hn =>
    have hd := hix d
    omega
  | entry hk hn | group hk hn => omega
  | single hn =>
    simp only [List.mem_cons, List.not_mem_nil, or_false] at hn
    omega

theorem not_lineReg_lineStat (c : Carrier) : ¬ LineReg (Reg.TXD.LINE_STAT.addr c) := fun h =>
  absurd (h.mem_of_report (by decide)) (by decide)

theorem not_lineReg_txdEvents (c : Carrier) : ¬ LineReg (Ev.TXD.base c + 0xF0) := fun h =>
  absurd (LineReg.mem_of_report (m := 0x010000F0) h (by decide)) (by decide)

theorem not_lineReg_enActive (c : Carrier) : ¬ LineReg (Reg.SUBC.EN_ACTIVE.addr c) := fun h =>
  absurd (h.mem_of_report (by decide)) (by decide)

/-- The rest of the line stands from one chip to the next: every register that no judgement writes, the transmitters, the subcarriers, and what
`Elsewhere` names; the receivers where `r` holds, and the active words where `a` does. -/
structure Chip.LineKept (r a : Prop) (s t : Chip) : Prop where
  rd : ∀ b, ¬ LineReg b → t.rd b = s.rd b
  live : ∀ b, ¬ LineReg (b + 0xF0) → t.liveWord b = s.liveWord b
  txd : t.txd = s.txd
  subc : t.subc = s.subc
  elsewhere : Elsewhere s t
  rcv : r → t.rcv = s.rcv
  act : a → t.actRegs = s.actRegs

section
variable {r a : Prop} {s₀ s : Chip}

theorem Chip.LineKept.refl (s : Chip) : Chip.LineKept r a s s := ⟨fun _ _ => rfl, fun _ _ => rfl, rfl, rfl, .refl s, fun _ => rfl, fun _ => rfl⟩

/-! The steps of every law: updates of a register that a judgement writes, of a live condition, of a receiver or of hidden state, and the forms a
definition is built from. -/

theorem Chip.LineKept.wr (h : Chip.LineKept r a s₀ s) {b w} (hb : LineReg b) : Chip.LineKept r a s₀ (s.wr b w) :=
  { h with rd := fun d hd => (Chip.rd_wr_ne s w (ne_of_not_lineReg hb hd)).trans (h.rd d hd) }

theorem Chip.LineKept.setTrail (h : Chip.LineKept r a s₀ s) {c : Carrier} {n t lo width v : Nat} (ht : t < 16)
    (hn : 0x01400000 ≤ n ∧ n ≤ 0x015F0000 := by decide) : Chip.LineKept r a s₀ (s.setF ⟨c.base + n + 0x1000 * t, lo, width⟩ v) :=
  h.wr (.trail c ht hn)
theorem Chip.LineKept.setOwn (h : Chip.LineKept r a s₀ s) {c : Carrier} {n lo width v : Nat}
    (hn : n ∈ [0x01000004, 0x01400010, 0x01600004, 0x01600008, 0x01600014] := by decide) :
    Chip.LineKept r a s₀ (s.setF ⟨c.base + n, lo, width⟩ v) := h.wr (.own c hn)
theorem Chip.LineKept.setUnit (h : Chip.LineKept r a s₀ s) {c : Carrier} {n g lo width v : Nat} (hg : g < 3)
    (hn : 0x00A00000 ≤ n ∧ n ≤ 0x00A0FFFF := by decide) : Chip.LineKept r a s₀ (s.setF ⟨n + 192 * c.ix + 64 * g, lo, width⟩ v) :=
  h.wr (.unit c hg hn)
theorem Chip.LineKept.setBound (h : Chip.LineKept r a s₀ s) {c : Carrier} {n t lo width v : Nat} (ht : t < 16)
    (hn : 0x00700000 ≤ n ∧ n ≤ 0x0070FFFF := by decide) : Chip.LineKept r a s₀ (s.setF ⟨n + 0x100 * c.ix + 16 * t, lo, width⟩ v) :=
  h.wr (.bound c ht hn)
theorem Chip.LineKept.setEntry (h : Chip.LineKept r a s₀ s) {n k lo width v : Nat} (hk : k < 32)
    (hn : 0x02300000 ≤ n ∧ n ≤ 0x0230FFFF := by decide) : Chip.LineKept r a s₀ (s.setF ⟨n + 16 * k, lo, width⟩ v) := h.wr (.entry hk hn)
theorem Chip.LineKept.setGroup (h : Chip.LineKept r a s₀ s) {n g lo width v : Nat} (hg : g < 16)
    (hn : 0x02400000 ≤ n ∧ n ≤ 0x0240FFFF := by decide) : Chip.LineKept r a s₀ (s.setF ⟨n + 0x100 * g, lo, width⟩ v) := h.wr (.group hg hn)
theorem Chip.LineKept.setSingle (h : Chip.LineKept r a s₀ s) {n lo width v : Nat} (hn : n / 0x100000 ∈ [0x0A, 0x23, 0x24] := by decide) :
    Chip.LineKept r a s₀ (s.setF ⟨n, lo, width⟩ v) := h.wr (.single hn)

theorem Chip.LineKept.ite {c : Prop} {_ : Decidable c} {t : Chip} (h : Chip.LineKept r a s₀ s) (h' : Chip.LineKept r a s₀ t) :
    Chip.LineKept r a s₀ (if c then s else t) := by
  split <;> assumption

theorem Chip.LineKept.foldl {α : Type} {f : Chip → α → Chip} {l : List α} (h : Chip.LineKept r a s₀ s)
    (hf : ∀ u, ∀ x ∈ l, Chip.LineKept r a s₀ u → Chip.LineKept r a s₀ (f u x)) : Chip.LineKept r a s₀ (l.foldl f s) := by
  induction l generalizing s with
  | nil => exact h
  | cons x l ih => exact ih (hf s x (by simp) h) fun u y hy => hf u y (by simp [hy])

theorem Chip.LineKept.setLive (h : Chip.LineKept r a s₀ s) {e v} (he : LineReg (e.base + 0xF0)) :
    Chip.LineKept r a s₀ (s.setLive e v) :=
  { h with live := fun d hd => (Store.get_set _ _ _ _ _).trans ((if_neg fun hc => hd (by rw [hc]; exact he)).trans (h.live d hd)) }

theorem Chip.LineKept.raise (h : Chip.LineKept r a s₀ s) {e} (he : LineReg (e.base + 0xF0)) :
    Chip.LineKept r a s₀ (s.raise e) := by
  refine ⟨fun d hd => ?_, fun d hd => ?_, ?_, ?_, ?_, fun hr => ?_, fun ha => ?_⟩
  · rw [Chip.rd_raise, if_neg fun hc => ne_of_not_lineReg he hd hc.2]
    exact h.rd d hd
  · rw [quiet_raise s e]
    exact h.live d hd
  · rw [quiet_raise s e]
    exact h.txd
  · rw [quiet_raise s e]
    exact h.subc
  · exact h.elsewhere.trans (quiet_raise s e).elsewhere
  · rw [quiet_raise s e]
    exact h.rcv hr
  · rw [quiet_raise s e]
    exact h.act ha

theorem Chip.LineKept.raiseOwn (h : Chip.LineKept r a s₀ s) {c : Carrier} {n bit src : Nat}
    (hn : 0x01100000 ≤ n ∧ n ≤ 0x01700000 ∧ n % 0x100000 = 0 := by decide) : Chip.LineKept r a s₀ (s.raise ⟨c.base + n, bit, src⟩) :=
  h.raise (.event c hn)
theorem Chip.LineKept.raiseSingle (h : Chip.LineKept r a s₀ s) {n bit src : Nat} (hn : (n + 0xF0) / 0x100000 ∈ [0x0A, 0x23, 0x24] := by decide) :
    Chip.LineKept r a s₀ (s.raise ⟨n, bit, src⟩) := h.raise (.single hn)

/-- An update of hidden state that is none of the line's report. -/
theorem Chip.LineKept.same {fi n t fe fr pm de ws ti g pg lo le ev ts la re} (h : Chip.LineKept r a s₀ s) :
    Chip.LineKept r a s₀ ⟨s.regs, s.actRegs, s.live, fi, n, s.fuse, t, s.clk, s.txd, s.rcv, fe, s.subc, fr, pm, de, ws, ti, g, pg, lo, le, s.sec, ev,
      ts, s.pool, s.boot, s.mgmt, s.pci, s.mon, la, re⟩ := ⟨h.rd, h.live, h.txd, h.subc, h.elsewhere, h.rcv, h.act⟩

theorem Chip.LineKept.setRcv (h : Chip.LineKept False a s₀ s) {x v} : Chip.LineKept False a s₀ (s.setRcv x v) :=
  ⟨h.rd, h.live, h.txd, h.subc, h.elsewhere, False.elim, h.act⟩

theorem Chip.LineKept.setAct (h : Chip.LineKept r False s₀ s) {w} : Chip.LineKept r False s₀ { s with actRegs := w } :=
  ⟨h.rd, h.live, h.txd, h.subc, h.elsewhere, h.rcv, False.elim⟩

/-! One law per operation, in the order of the definitions. -/

theorem Chip.LineKept.assert (h : Chip.LineKept r a s₀ s) {e} (he : LineReg (e.base + 0xF0)) :
    Chip.LineKept r a s₀ (s.assert e) := (h.setLive he).raise he
theorem Chip.LineKept.setGrp (h : Chip.LineKept r a s₀ s) {c g v} : Chip.LineKept r a s₀ (s.setGrp c g v) := h.same
theorem Chip.LineKept.free (h : Chip.LineKept r a s₀ s) : Chip.LineKept r a s₀ s.free.2 := h.same
theorem lineReg_noReserveEv (c : Carrier) (g : Nat) : LineReg ((Grp.noReserveEv c g).base + 0xF0) := by
  unfold Grp.noReserveEv
  split <;> exact .event c (by decide)
theorem Chip.LineKept.noteReserve (h : Chip.LineKept r a s₀ s) {c g had} : Chip.LineKept r a s₀ (s.noteReserve c g had) :=
  have he := lineReg_noReserveEv c g
  .ite (.ite (h.assert he) (h.setLive he)) (h.setLive he)
theorem lineReg_sfEv {c : Carrier} {g : Nat} {e : Ev} (h : Grp.sfEv c g = some e) : LineReg (e.base + 0xF0) := by
  unfold Grp.sfEv at h
  split at h <;> cases h <;> exact .event c (by decide)
theorem Chip.LineKept.setGrpSf (h : Chip.LineKept r a s₀ s) {c g b} : Chip.LineKept r a s₀ (s.setGrpSf c g b) := by
  dsimp only [Chip.setGrpSf]
  split
  · exact h.setGrp
  · next he => exact .ite (h.setGrp.assert (lineReg_sfEv he)) (h.setGrp.setLive (lineReg_sfEv he))
theorem Chip.LineKept.sfRecheck (h : Chip.LineKept r a s₀ s) {c g} : Chip.LineKept r a s₀ (s.sfRecheck c g) := .ite h.setGrpSf h
theorem Chip.LineKept.sessionResult (h : Chip.LineKept r a s₀ s) {c g u result patterns misr} (hg : g < 3) :
    Chip.LineKept r a s₀ (s.sessionResult c g u result patterns misr) :=
  ((((((h.setUnit hg).setUnit hg).setUnit hg).setUnit hg).setUnit hg).wr (.unit c hg (by decide))).wr (.unitHi c hg (by decide))
theorem Chip.LineKept.sessionIncomplete (h : Chip.LineKept r a s₀ s) {c g patterns misr} (hg : g < 3) :
    Chip.LineKept r a s₀ (s.sessionIncomplete c g patterns misr) := by
  dsimp only [Chip.sessionIncomplete]
  split
  · exact h
  · next u _ =>
    have h1 : Chip.LineKept r a s₀ ((((s.setGrp c g { s.grpOf c g with session := none, retesting := false }).sessionResult c g u 3 patterns
        misr).bump (Reg.TST.INC_CNT.COUNT c.ix g)).raise Ev.TST.BIST_INCOMPLETE) := ((h.setGrp.sessionResult hg).setUnit hg).raiseSingle
    exact .ite ((h1.setUnit hg).setUnit hg) h1.setGrp
theorem Chip.LineKept.abandonSession (h : Chip.LineKept r a s₀ s) {c g} (hg : g < 3) : Chip.LineKept r a s₀ (s.abandonSession c g) :=
  .ite h (h.free.free.sessionIncomplete hg)
theorem Chip.LineKept.stepNeed (h : Chip.LineKept r a s₀ s) {c byStep} : Chip.LineKept r a s₀ (s.stepNeed c byStep) :=
  .ite h.setSingle.setSingle.raiseSingle (.ite h.setSingle.setSingle.raiseSingle h.setSingle.setSingle)
theorem Chip.LineKept.grpSettle (h : Chip.LineKept r a s₀ s) {c byStep} : Chip.LineKept r a s₀ (s.grpSettle c byStep) := by
  unfold Chip.grpSettle
  extract_lets one
  have hone : ∀ t g, g < 3 → Chip.LineKept r a s₀ t → Chip.LineKept r a s₀ (one t g) := fun t g hg ht =>
    .sfRecheck (.ite (.noteReserve (.setGrp (.ite (ht.abandonSession hg) ht))) ht)
  exact .stepNeed (hone _ 2 (by decide) (hone _ 1 (by decide) (hone _ 0 (by decide) h)))
theorem Chip.LineKept.setPm (h : Chip.LineKept r a s₀ s) {c t v} : Chip.LineKept r a s₀ (s.setPm c t v) := h.same
theorem Chip.LineKept.setFrm (h : Chip.LineKept r a s₀ s) {c t v} : Chip.LineKept r a s₀ (s.setFrm c t v) := h.same
theorem Chip.LineKept.modFrm (h : Chip.LineKept r a s₀ s) {c t f} : Chip.LineKept r a s₀ (s.modFrm c t f) := h.setFrm
theorem Chip.LineKept.raiseFrm (h : Chip.LineKept r a s₀ s) {c t e} (he : LineReg ((e c).base + 0xF0)) :
    Chip.LineKept r a s₀ (s.raiseFrm c t e) := (h.raise he).setOwn
theorem Chip.LineKept.trailSettle (h : Chip.LineKept r a s₀ s) {c t} (ht : t < 16) : Chip.LineKept r a s₀ (s.trailSettle c t) := by
  unfold Chip.trailSettle
  extract_lets raw stat old s1 rise fall s2 f f1 f2 s3 s4
  have h1 : Chip.LineKept r a s₀ s1 := (h.setTrail ht).setTrail ht
  have h2 : Chip.LineKept r a s₀ s2 := .ite h1 ((h1.setTrail ht).raiseFrm (.event c (by decide)))
  have h3 : Chip.LineKept r a s₀ s3 := .ite h2 ((h2.setTrail ht).raiseFrm (.event c (by decide)))
  have h4 : Chip.LineKept r a s₀ s4 := .ite h3 h3.modFrm
  exact h4.setPm
theorem Chip.LineKept.setDem (h : Chip.LineKept r a s₀ s) {k v} : Chip.LineKept r a s₀ (s.setDem k v) := h.same
theorem Chip.LineKept.xcStepDown (h : Chip.LineKept r False s₀ s) {c} : Chip.LineKept r False s₀ (s.xcStepDown c) := by
  unfold Chip.xcStepDown
  extract_lets n mode hit off
  refine .ite h (.raiseSingle (h.foldl fun u k hk hu => ?_))
  have hk : k < 32 := List.mem_range.mp (List.mem_filter.mp hk).1
  exact (hu.setAct.setDem.setEntry hk).setEntry hk
theorem Chip.LineKept.setPg (h : Chip.LineKept r a s₀ s) {g v} : Chip.LineKept r a s₀ (s.setPg g v) := h.same
theorem Chip.LineKept.modPg (h : Chip.LineKept r a s₀ s) {g f} : Chip.LineKept r a s₀ (s.modPg g f) := h.setPg
theorem Chip.LineKept.raisePg (h : Chip.LineKept r a s₀ s) {g e} (he : LineReg (e.base + 0xF0)) :
    Chip.LineKept r a s₀ (s.raisePg g e) := (h.raise he).setSingle
theorem Chip.LineKept.setCond (h : Chip.LineKept r a s₀ s) {g new} (hg : g < 16) : Chip.LineKept r a s₀ (s.setCond g new) := by
  unfold Chip.setCond
  extract_lets old d s1 s2 s3
  have h2 : Chip.LineKept r a s₀ s2 := .ite ((h.setGroup hg).raisePg (.single (by decide))) (h.setGroup hg)
  have h3 : Chip.LineKept r a s₀ s3 := .ite (h2.raisePg (.single (by decide))) h2
  exact .ite h (.ite (h3.modPg.raisePg (.single (by decide))) h3)
theorem Chip.LineKept.pgConditions (h : Chip.LineKept r a s₀ s) {g} (hg : g < 16) : Chip.LineKept r a s₀ (s.pgConditions g) := h.setPg.setCond hg
theorem Chip.LineKept.pgRequests (h : Chip.LineKept r a s₀ s) {g} (hg : g < 16) : Chip.LineKept r a s₀ (s.pgRequests g) := h.setPg.setGroup hg
theorem Chip.LineKept.fopClear (h : Chip.LineKept r a s₀ s) {g} (hg : g < 16) : Chip.LineKept r a s₀ (s.fopClear g) := by
  unfold Chip.fopClear
  extract_lets k v pm nr s1
  have h1 : Chip.LineKept r a s₀ s1 := .ite ((h.setGroup hg).raisePg (.single (by decide))) h
  exact .ite ((h1.setGroup hg).raisePg (.single (by decide))) h1
theorem Chip.LineKept.pgAlign (h : Chip.LineKept r a s₀ s) {g} (hg : g < 16) : Chip.LineKept r a s₀ (s.pgAlign g) := .ite (h.setGroup hg).setPg h
theorem Chip.LineKept.pgSettle (h : Chip.LineKept r a s₀ s) {g} (hg : g < 16) : Chip.LineKept r a s₀ (s.pgSettle g) :=
  (((h.pgAlign hg).pgConditions hg).pgRequests hg).fopClear hg
theorem Chip.LineKept.startSession (h : Chip.LineKept r a s₀ s) {c g u retest} (hg : g < 3) :
    Chip.LineKept r a s₀ (s.startSession c g u retest) := (h.setGrp.setUnit hg).setUnit hg
theorem Chip.LineKept.sweepGroup (h : Chip.LineKept r a s₀ s) {c g} (hg : g < 3) : Chip.LineKept r a s₀ (s.sweepGroup c g) := by
  refine .ite h (.ite h.setGrp (.ite h ?_))
  split
  exacts [.ite h h.setSingle.setGrp, .ite h.setSingle.setGrp (.ite h (h.startSession hg))]
theorem Chip.LineKept.bistGroup (h : Chip.LineKept r a s₀ s) {c g} (hg : g < 3) : Chip.LineKept r a s₀ (s.bistGroup c g) := by
  unfold Chip.bistGroup
  extract_lets v s1 s2 w
  have h1 : Chip.LineKept r a s₀ s1 := by
    unfold s1
    split
    exacts [.ite h (h.startSession hg), h]
  have h2 : Chip.LineKept r a s₀ s2 := (h1.sweepGroup hg).sweepGroup hg
  split
  exacts [.ite (h2.startSession hg) h2, h2]
theorem Chip.LineKept.bistSettle (h : Chip.LineKept r a s₀ s) : Chip.LineKept r a s₀ s.bistSettle := by
  have hgroups : ∀ p ∈ allGroups, p.2 < 3 := by decide
  have h1 : Chip.LineKept r a s₀ (allGroups.foldl (fun u p => u.bistGroup p.1 p.2) s) := h.foldl fun _ p hp hu => hu.bistGroup (hgroups p hp)
  exact .ite h1.setSingle.setSingle.raiseSingle h1
theorem Chip.LineKept.setPort (h : Chip.LineKept r a s₀ s) {p v} : Chip.LineKept r a s₀ (s.setPort p v) := h.same
theorem Chip.LineKept.newMsg (h : Chip.LineKept r a s₀ s) {type bcast dst payload} :
    Chip.LineKept r a s₀ ((s.newMsg type bcast dst payload).2) := h.same
theorem Chip.LineKept.sendOn (h : Chip.LineKept r a s₀ s) {p cls m} : Chip.LineKept r a s₀ (s.sendOn p cls m) := .ite h.setPort h
theorem Chip.LineKept.flRecompute (h : Chip.LineKept r a s₀ s) {c} : Chip.LineKept r a s₀ (s.flRecompute c) := by
  refine h.foldl fun u t ht hu => ?_
  have ht : t < 16 := List.mem_range.mp ht
  exact .same (.ite (.ite hu ((hu.setBound ht).setBound ht)) (.setBound (.setBound (.ite hu ((hu.setBound ht).setBound ht)) ht) ht))
theorem Chip.LineKept.subcSettle (h : Chip.LineKept r a s₀ s) {c} : Chip.LineKept r a s₀ (s.subcSettle c) := .ite h h.setOwn.raiseOwn
theorem Chip.LineKept.stepShadow (h : Chip.LineKept r a s₀ s) {c code up} : Chip.LineKept r a s₀ (s.stepShadow c code up) :=
  .ite h.setOwn (.ite h.setOwn h.setOwn)
theorem Chip.LineKept.stepNotice (h : Chip.LineKept r a s₀ s) {c} : Chip.LineKept r a s₀ (s.stepNotice c) := by
  unfold Chip.stepNotice
  dsimp only
  refine .ite h.same (.ite h (.ite h ?_))
  split
  · exact .sendOn (.newMsg (.same (.ite h.stepShadow.stepShadow h.stepShadow)))
  · exact .same (.ite h.stepShadow.stepShadow h.stepShadow)
theorem Chip.LineKept.settle (h : Chip.LineKept r a s₀ s) : Chip.LineKept r a s₀ s.settle := by
  refine .stepNotice (.stepNotice (.bistSettle (h.subcSettle.subcSettle.foldl fun u g hg hu => hu.pgSettle ?_)))
  exact List.mem_range.mp (List.mem_filter.mp hg).1
theorem Chip.LineKept.modRcv (h : Chip.LineKept False a s₀ s) {x f} : Chip.LineKept False a s₀ (s.modRcv x f) := h.setRcv
theorem Chip.LineKept.raiseCar (h : Chip.LineKept r a s₀ s) {x e} (he : ∀ c, LineReg ((e c).base + 0xF0) := by intro c; exact .event c (by decide)) :
    Chip.LineKept r a s₀ (s.raiseCar x e) := by
  cases x with
  | car c => exact h.raise (he c)
  | sub c q => exact h
theorem Chip.LineKept.raiseRcv (h : Chip.LineKept r a s₀ s) {x e e'} (he : ∀ c, LineReg ((e c).base + 0xF0) := by intro c; exact .event c (by decide))
    (he' : ∀ c, LineReg ((e' c).base + 0xF0) := by intro c; exact .event c (by decide)) : Chip.LineKept r a s₀ (s.raiseRcv x e e') := by
  cases x with
  | car c => exact h.raise (he c)
  | sub c q => exact h.raise (he' c)
theorem Chip.LineKept.emptyWindow (h : Chip.LineKept False a s₀ s) {x} : Chip.LineKept False a s₀ (s.emptyWindow x) := by
  cases x with
  | car c => exact h.modRcv.setLive (.event c (by decide))
  | sub c q =>
    unfold Chip.emptyWindow
    exact h.modRcv
theorem Chip.LineKept.setCwLock (h : Chip.LineKept False a s₀ s) {x b} : Chip.LineKept False a s₀ (s.setCwLock x b) := .ite h h.setRcv.raiseCar
theorem Chip.LineKept.dropCwLock (h : Chip.LineKept False a s₀ s) {x} : Chip.LineKept False a s₀ (s.dropCwLock x) :=
  .ite h.setCwLock.emptyWindow h
theorem Chip.LineKept.enterDetect (h : Chip.LineKept False a s₀ s) {x warm} : Chip.LineKept False a s₀ (s.enterDetect x warm) :=
  h.modRcv.dropCwLock
theorem Chip.LineKept.enterIdle (h : Chip.LineKept False a s₀ s) {x} : Chip.LineKept False a s₀ (s.enterIdle x) :=
  .ite h.setRcv.dropCwLock.raiseRcv h.setRcv.dropCwLock
theorem Chip.LineKept.declareLos (h : Chip.LineKept False a s₀ s) {x} : Chip.LineKept False a s₀ (s.declareLos x) := by
  unfold Chip.declareLos
  extract_lets v s1 s2
  have h2 : Chip.LineKept False a s₀ s2 := by
    unfold s2
    split
    exacts [h.setRcv.assert (.event _ (by decide)), h.setRcv]
  exact .ite h2.enterDetect.raiseRcv (.ite h2.enterDetect h2)
theorem Chip.LineKept.acqReconf (h : Chip.LineKept False a s₀ s) {x} : Chip.LineKept False a s₀ (s.acqReconf x) :=
  .ite h h.modRcv.enterDetect
theorem Chip.LineKept.receiversChanged (h : Chip.LineKept False a s₀ s) {c old reconf} :
    Chip.LineKept False a s₀ (s.receiversChanged c old reconf) := by
  unfold Chip.receiversChanged
  extract_lets now gone s1 s2
  have h1 : Chip.LineKept False a s₀ s1 := h.foldl fun _ _ _ hu => hu.enterIdle
  have h2 : Chip.LineKept False a s₀ s2 := h1.foldl fun _ _ _ hu => .ite (.ite hu.acqReconf hu) (.ite hu.enterDetect hu)
  exact h2.foldl fun _ _ ht hu => hu.trailSettle (List.mem_range.mp ht)
end
end Sys2Proof.Machine
end

section
/-! SUPPORT. The transmitter: its states and ramps, the converter PLL, and a receiver that loses its signal (R59, R60, R64, R69, R102). -/

namespace Sys2Proof.Machine

set_option Elab.async false

/-! ## Carriers' states and fields -/

theorem Two.get_put_self {α : Type} (p : Two α) (c : Carrier) (v : α) : (p.put c v).get c = v := by
  cases c <;> rfl

theorem Two.get_put_other {α : Type} (p : Two α) (c : Carrier) (v : α) : (p.put c v).get c.other = p.get c.other := by
  cases c <;> rfl

theorem Chip.get_txd_modTxd (s : Chip) (c : Carrier) (f : TxdSt → TxdSt) : (s.modTxd c f).txd.get c = f (s.txd.get c) :=
  Two.get_put_self _ _ _

theorem Chip.get_txd_modTxd_other (s : Chip) (c : Carrier) (f : TxdSt → TxdSt) : (s.modTxd c f).txd.get c.other = s.txd.get c.other :=
  Two.get_put_other _ _ _

theorem Chip.rd_modTxd (s : Chip) (c : Carrier) (f : TxdSt → TxdSt) (b : Nat) : (s.modTxd c f).rd b = s.rd b := rfl

theorem KeptBut.modTxd {bs : List Nat} {fs : List Fld} {s t : Chip} (h : KeptBut bs fs s t) (c : Carrier) (f : TxdSt → TxdSt) :
    KeptBut bs fs s (t.modTxd c f) := ⟨fun g hg hb ha => h.1 g hg hb ha, h.2⟩

theorem carrier_addr_ne (c : Carrier) {m n : Nat} (h : m ≠ n) : c.base + m ≠ c.base + n := fun e => h (Nat.add_left_cancel e)

theorem Chip.flag_setF_addr (s : Chip) (f g : Fld) (v : Nat) (h : g.addr ≠ f.addr) : (s.setF f v).flag g = s.flag g :=
  congrArg (· == 1) (Chip.getF_setF_addr s f g v h)

theorem Chip.flag_setFlag_disjoint (s : Chip) {f g : Fld} (b : Bool) (ha : g.addr = f.addr) (hg : g.lo + g.width ≤ 32)
    (hd : g.lo + g.width ≤ f.lo ∨ f.lo + f.width ≤ g.lo) : (s.setFlag f b).flag g = s.flag g :=
  congrArg (· == 1) (Chip.getF_setF_disjoint s f g _ ha hg hd)

theorem KeptBut.flag {bs : List Nat} {fs : List Fld} {s t : Chip} (h : KeptBut bs fs s t) {g : Fld} (hg : g.lo + g.width ≤ 32)
    (hb : g.addr / 0x100000 ∉ bs) (ha : ∀ f ∈ fs, Apart f g) : t.flag g = s.flag g :=
  congrArg (· == 1) (h.1 g hg hb ha)

/-! ## The transmitter's state and its ramps -/

theorem Chip.txState_setF_addr (s : Chip) {c : Carrier} {f : Fld} (v : Nat) (h : Reg.TXD.LINE_STAT.addr c ≠ f.addr) :
    (s.setF f v).txState c = s.txState c := Chip.getF_setF_addr _ _ _ _ h

theorem Chip.txState_setF_state (s : Chip) (c : Carrier) {v : Nat} (hv : v < 8) :
    (s.setF (Reg.TXD.LINE_STAT.STATE c) v).txState c = v :=
  (Chip.getF_setF_self _ _ _ (by cases c <;> decide)).trans (Nat.mod_eq_of_lt hv)

/-- The ramp's own figures at its start (R59). -/
def Chip.rampStart (s : Chip) (c : Carrier) (from_ : Nat) (v : TxdSt) : TxdSt :=
  { v with rampMode := (s.rampCfg c).1, rampTime := (s.rampCfg c).2, rampFrom := from_, rampAt := s.now }

theorem Chip.startRamp_eq (s : Chip) (c : Carrier) (st from_ : Nat) :
    s.startRamp c st from_ = (s.setF (Reg.TXD.LINE_STAT.STATE c) st).modTxd c (s.rampStart c from_) := rfl

theorem Chip.setF_modTxd_frame (s : Chip) (f : Fld) (v : Nat) (c : Carrier) (g : TxdSt → TxdSt) :
    (s.setF f v).modTxd c g = { s with regs := ((s.setF f v).modTxd c g).regs, txd := ((s.setF f v).modTxd c g).txd } := rfl

/-- A ramp that starts: the state, the ramp's own figures, and nothing else (R59, R60). -/
theorem Chip.startRamp_spec (s : Chip) (c : Carrier) {st : Nat} (hst : st < 8) (from_ : Nat) :
    (s.startRamp c st from_).txState c = st ∧ ((s.startRamp c st from_).txd.get c).rampFrom = from_ ∧
      ((s.startRamp c st from_).txd.get c).rampAt = s.now ∧ (s.startRamp c st from_).txd.get c.other = s.txd.get c.other ∧
      Kept [Reg.TXD.LINE_STAT.STATE c] s (s.startRamp c st from_) ∧
      s.startRamp c st from_ = { s with regs := (s.startRamp c st from_).regs, txd := (s.startRamp c st from_).txd } := by
  rw [Chip.startRamp_eq, Chip.get_txd_modTxd, Chip.get_txd_modTxd_other, Chip.setF_txd, Chip.txState, Chip.getF, Chip.rd_modTxd]
  exact ⟨s.txState_setF_state c hst, rfl, rfl, rfl, (keptBut_setF s _ _).modTxd _ _, Chip.setF_modTxd_frame _ _ _ _ _⟩

/-- A state entered with its event: the state, the event's bit, and nothing else (R60, R69). -/
theorem Chip.setState_raise_spec (s : Chip) (c : Carrier) {st : Nat} (hst : st < 8) {e : Ev} (he : e.base = Ev.TXD.base c) (hb : e.bit < 32) :
    ((s.setF (Reg.TXD.LINE_STAT.STATE c) st).raise e).txState c = st ∧
      Recorded e s ((s.setF (Reg.TXD.LINE_STAT.STATE c) st).raise e) ∧
      Kept [Reg.TXD.LINE_STAT.STATE c, evtBit e] s ((s.setF (Reg.TXD.LINE_STAT.STATE c) st).raise e) ∧
      Quiet s ((s.setF (Reg.TXD.LINE_STAT.STATE c) st).raise e) := by
  have hstat : Reg.TXD.LINE_STAT.addr c ≠ e.base + 0xF0 := by
    rw [he]
    exact carrier_addr_ne c (n := 0x010000F0) (by decide)
  have hsticky : e.base + 0xF8 ≠ Reg.TXD.LINE_STAT.addr c := by
    rw [he]
    exact carrier_addr_ne c (m := 0x010000F8) (by decide)
  refine ⟨?_, .of_sticky (Chip.rd_setF_ne _ _ _ hsticky) (recorded_raise _ _ hb),
    ((keptBut_setF _ _ _).mono (by simp) (by simp)).trans ((keptBut_raise _ _ hb).mono (by simp) (by simp)), (quiet_setF _ _ _).raise⟩
  rw [Chip.txState, Chip.getF, Chip.rd_raise, if_neg fun h => hstat h.2]
  exact s.txState_setF_state c hst

/-- A ramp that starts with nothing pending (R60). -/
theorem Chip.enterRampUp_of_nothing_pending {s : Chip} {c : Carrier} (hpend : s.flag (Reg.TXD.LINE_STAT.RECONF_PEND c) = false)
    (hjoin : (s.txd.get c).joinPend = false) (from_ : Nat) : s.enterRampUp c from_ = s.startRamp c 1 from_ := by
  simp [Chip.enterRampUp, hpend, hjoin]

/-! What the transmit enable and the mute bit bring about in each state (R60). -/

section
variable {s : Chip} {c : Carrier}

theorem Chip.txEval_off (hpll : (s.txd.get c).pllLol = false) (hst : s.txState c = 0) (hen : s.flag (Reg.TXD.CTRL.TX_EN c) = true)
    (hmute : s.flag (Reg.TXD.CTRL.MUTE c) = false) : s.txEval c = s.enterRampUp c 300 := by
  simp [Chip.txEval, hpll, hst, hen, hmute]

theorem Chip.txEval_unmuted (hpll : (s.txd.get c).pllLol = false) (hst : s.txState c = 4) (hen : s.flag (Reg.TXD.CTRL.TX_EN c) = true)
    (hmute : s.flag (Reg.TXD.CTRL.MUTE c) = false) : s.txEval c = s.enterRampUp c 300 := by
  simp [Chip.txEval, hpll, hst, hen, hmute]

theorem Chip.txEval_disabled (hpll : (s.txd.get c).pllLol = false) (hst : s.txState c = 2) (hen : s.flag (Reg.TXD.CTRL.TX_EN c) = false)
    (hmute : s.flag (Reg.TXD.CTRL.MUTE c) = false) : s.txEval c = s.startRamp c 3 0 := by
  have hatten : s.atten c = 0 := by simp [Chip.atten, hst]
  simp [Chip.txEval, hpll, hst, hen, hmute, hatten]

theorem Chip.txEval_stays_on (hst : s.txState c = 2) (hen : s.flag (Reg.TXD.CTRL.TX_EN c) = true)
    (hmute : s.flag (Reg.TXD.CTRL.MUTE c) = false) : s.txEval c = s := by
  simp [Chip.txEval, hst, hen, hmute]

theorem Chip.txEval_muted (hpll : (s.txd.get c).pllLol = false) (hlo : 1 ≤ s.txState c) (hhi : s.txState c ≤ 3)
    (hmute : s.flag (Reg.TXD.CTRL.MUTE c) = true) : s.txEval c = s.enterMuted c := by
  have hst : s.txState c = 1 ∨ s.txState c = 2 ∨ s.txState c = 3 := by omega
  rcases hst with hst | hst | hst <;> simp [Chip.txEval, hpll, hst, hmute]

end

/-! The host's commands: a bit of CTRL written, and what follows from it. -/

section
variable {c : Carrier} {f : Fld} (hf : f.addr = Reg.TXD.CTRL.addr c) (hlo : f.lo < 32) (hw : f.width = 1)
include hf

theorem Chip.txState_setFlag_ctrl (s : Chip) (b : Bool) : (s.setFlag f b).txState c = s.txState c :=
  s.txState_setF_addr _ (by rw [hf]; exact carrier_addr_ne c (by decide))

theorem Chip.flag_lineStat_setFlag_ctrl (s : Chip) (b : Bool) (lo width : Nat) :
    (s.setFlag f b).flag ⟨Reg.TXD.LINE_STAT.addr c, lo, width⟩ = s.flag ⟨Reg.TXD.LINE_STAT.addr c, lo, width⟩ :=
  s.flag_setF_addr _ _ _ (by rw [hf]; exact carrier_addr_ne c (by decide))

include hlo hw

/-- A bit of CTRL written and a ramp started with it. -/
theorem Chip.setFlag_ctrl_startRamp_spec (s : Chip) (b : Bool) {st : Nat} (hst : st < 8) (from_ : Nat) :
    let t := (s.setFlag f b).startRamp c st from_
    t.flag f = b ∧ t.txState c = st ∧ (t.txd.get c).rampFrom = from_ ∧ (t.txd.get c).rampAt = s.now ∧
      t.txd.get c.other = s.txd.get c.other ∧ Kept [f, Reg.TXD.LINE_STAT.STATE c] s t ∧ t = { s with regs := t.regs, txd := t.txd } := by
  obtain ⟨hstate, hfrom, hat, hother, hkept, hframe⟩ := (s.setFlag f b).startRamp_spec c hst from_
  have hne : Reg.TXD.LINE_STAT.addr c ≠ f.addr := by
    rw [hf]
    exact carrier_addr_ne c (by decide)
  refine ⟨(hkept.flag (by omega) (by simp) ?_).trans (s.flag_setFlag_self f b hw hlo), hstate, hfrom, hat, hother,
    ((keptBut_setF s f _).mono (by simp) (by simp)).trans (hkept.mono (by simp) (by simp)), hframe⟩
  simpa [Apart, Reg.TXD.LINE_STAT.STATE] using Or.inl hne

/-- A bit of CTRL written and the transmitter muted with it. -/
theorem Chip.setFlag_ctrl_enterMuted_spec (s : Chip) (b : Bool) :
    ((s.setFlag f b).enterMuted c).flag f = b ∧ ((s.setFlag f b).enterMuted c).txState c = 4 ∧
      Recorded (Ev.TXD.MUTED c) s ((s.setFlag f b).enterMuted c) ∧
      Kept [f, Reg.TXD.LINE_STAT.STATE c, evtBit (Ev.TXD.MUTED c)] s ((s.setFlag f b).enterMuted c) ∧
      Quiet s ((s.setFlag f b).enterMuted c) := by
  obtain ⟨hstate, hrec, hkept, hquiet⟩ := (s.setFlag f b).setState_raise_spec c (st := 4) (by decide) (e := Ev.TXD.MUTED c) rfl (by cases c <;> decide)
  have hne : Reg.TXD.LINE_STAT.addr c ≠ f.addr := by
    rw [hf]
    exact carrier_addr_ne c (by decide)
  have hevt : Ev.TXD.base c + 0xF0 ≠ f.addr := by
    rw [hf]
    exact carrier_addr_ne c (m := 0x010000F0) (by decide)
  have hsticky : Ev.TXD.base c + 0xF8 ≠ f.addr := by
    rw [hf]
    exact carrier_addr_ne c (m := 0x010000F8) (by decide)
  refine ⟨(hkept.flag (by omega) (by simp) ?_).trans (s.flag_setFlag_self f b hw hlo), hstate, .of_sticky (Chip.rd_setF_ne _ _ _ hsticky) hrec,
    ((keptBut_setF s f _).mono (by simp) (by simp)).trans (hkept.mono (by simp) (by simp)), (quiet_setF _ _ _).trans hquiet⟩
  simpa [Apart, evtBit, Ev.TXD.MUTED, Reg.TXD.LINE_STAT.STATE] using ⟨Or.inl hne, Or.inl hevt⟩

end

/-! ## The commands and the ends of the ramps, case by case -/

section
variable {s : Chip} {c : Carrier} (hpll : (s.txd.get c).pllLol = false)
include hpll

/-- TX_EN set in OFF (R60). -/
theorem doTxEnSet_off (hst : s.txState c = 0) (hpend : s.flag (Reg.TXD.LINE_STAT.RECONF_PEND c) = false)
    (hjoin : (s.txd.get c).joinPend = false) (hmute : s.flag (Reg.TXD.CTRL.MUTE c) = false) :
    doTxEnSet c s = (s.setFlag (Reg.TXD.CTRL.TX_EN c) true).startRamp c 1 300 := by
  have hst' := (s.txState_setFlag_ctrl (f := Reg.TXD.CTRL.TX_EN c) rfl true).trans hst
  have hpend' := (s.flag_lineStat_setFlag_ctrl (f := Reg.TXD.CTRL.TX_EN c) rfl true 15 1).trans hpend
  have hen' := s.flag_setFlag_self (Reg.TXD.CTRL.TX_EN c) true rfl (by cases c <;> decide)
  have hmute' := (s.flag_setFlag_disjoint (f := Reg.TXD.CTRL.TX_EN c) (g := Reg.TXD.CTRL.MUTE c) true rfl (by cases c <;> decide)
    (by cases c <;> decide)).trans hmute
  rw [← Chip.setFlag_txd s (Reg.TXD.CTRL.TX_EN c) true] at hpll hjoin
  rw [doTxEnSet, Chip.txEval_off hpll hst' hen' hmute', Chip.enterRampUp_of_nothing_pending hpend' hjoin]

/-- TX_EN cleared in ON (R60). -/
theorem doTxEnClear_on (hst : s.txState c = 2) (hen : s.flag (Reg.TXD.CTRL.TX_EN c) = true)
    (hmute : s.flag (Reg.TXD.CTRL.MUTE c) = false) : doTxEnClear c s = (s.setFlag (Reg.TXD.CTRL.TX_EN c) false).startRamp c 3 0 := by
  have hst' := (s.txState_setFlag_ctrl (f := Reg.TXD.CTRL.TX_EN c) rfl false).trans hst
  have hen' := s.flag_setFlag_self (Reg.TXD.CTRL.TX_EN c) false rfl (by cases c <;> decide)
  have hmute' := (s.flag_setFlag_disjoint (f := Reg.TXD.CTRL.TX_EN c) (g := Reg.TXD.CTRL.MUTE c) false rfl (by cases c <;> decide)
    (by cases c <;> decide)).trans hmute
  have hfalls : doTxEnClear c s = (s.setFlag (Reg.TXD.CTRL.TX_EN c) false).txEnFalls c := by
    simp only [doTxEnClear, hen, if_true]
  rw [← Chip.setFlag_txd s (Reg.TXD.CTRL.TX_EN c) false] at hpll
  rw [hfalls, Chip.txEnFalls, if_neg fun h => absurd (hst'.symm.trans h.1) (by decide), Chip.txEval_disabled hpll hst' hen' hmute']

/-- MUTE set in RAMP_UP, ON and RAMP_DOWN (R60). -/
theorem doMuteSet_enabled (hlo : 1 ≤ s.txState c) (hhi : s.txState c ≤ 3) :
    doMuteSet c s = (s.setFlag (Reg.TXD.CTRL.MUTE c) true).enterMuted c := by
  have hst' := s.txState_setFlag_ctrl (f := Reg.TXD.CTRL.MUTE c) rfl true
  have hmute' := s.flag_setFlag_self (Reg.TXD.CTRL.MUTE c) true rfl (by cases c <;> decide)
  rw [← hst'] at hlo hhi
  rw [← Chip.setFlag_txd s (Reg.TXD.CTRL.MUTE c) true] at hpll
  rw [doMuteSet, Chip.txEval_muted hpll hlo hhi hmute']

/-- MUTE cleared in MUTED with TX_EN (R60). -/
theorem doMuteClear_muted (hst : s.txState c = 4) (hpend : s.flag (Reg.TXD.LINE_STAT.RECONF_PEND c) = false)
    (hjoin : (s.txd.get c).joinPend = false) (hen : s.flag (Reg.TXD.CTRL.TX_EN c) = true) :
    doMuteClear c s = (s.setFlag (Reg.TXD.CTRL.MUTE c) false).startRamp c 1 300 := by
  have hst' := (s.txState_setFlag_ctrl (f := Reg.TXD.CTRL.MUTE c) rfl false).trans hst
  have hpend' := (s.flag_lineStat_setFlag_ctrl (f := Reg.TXD.CTRL.MUTE c) rfl false 15 1).trans hpend
  have hmute' := s.flag_setFlag_self (Reg.TXD.CTRL.MUTE c) false rfl (by cases c <;> decide)
  have hen' := (s.flag_setFlag_disjoint (f := Reg.TXD.CTRL.MUTE c) (g := Reg.TXD.CTRL.TX_EN c) false rfl (by cases c <;> decide)
    (by cases c <;> decide)).trans hen
  rw [← Chip.setFlag_txd s (Reg.TXD.CTRL.MUTE c) false] at hpll hjoin
  rw [doMuteClear, Chip.txEval_unmuted hpll hst' hen' hmute', Chip.enterRampUp_of_nothing_pending hpend' hjoin]

end

/-! The ends of the ramps. -/

theorem doRampUpDone_up {s : Chip} {c : Carrier} (hst : s.txState c = 1) (hpll : (s.txd.get c).pllLol = false) :
    doRampUpDone c s = (s.setF (Reg.TXD.LINE_STAT.STATE c) 2).raise (Ev.TXD.RAMP_DONE c) := if_pos ⟨hst, hpll⟩

theorem doRampDownDone_disabled {s : Chip} {c : Carrier} (hst : s.txState c = 3) (hpll : (s.txd.get c).pllLol = false)
    (hen : s.flag (Reg.TXD.CTRL.TX_EN c) = false) :
    doRampDownDone c s = (s.setF (Reg.TXD.LINE_STAT.STATE c) 0).raise (Ev.TXD.RAMP_DONE c) := by
  simp [doRampDownDone, hst, hpll, hen]

theorem doRampDownDone_enabled {s : Chip} {c : Carrier} (hst : s.txState c = 3) (hpll : (s.txd.get c).pllLol = false)
    (hen : s.flag (Reg.TXD.CTRL.TX_EN c) = true) : doRampDownDone c s = s.enterRampUp c 300 := by
  simp [doRampDownDone, hst, hpll, hen]

theorem doRampUpDone_unlocked {s : Chip} {c : Carrier} (hpll : (s.txd.get c).pllLol = true) : doRampUpDone c s = s :=
  if_neg fun h => absurd h.2 (by simp [hpll])

theorem doRampDownDone_unlocked {s : Chip} {c : Carrier} (hpll : (s.txd.get c).pllLol = true) : doRampDownDone c s = s :=
  if_pos (.inr hpll)

/-! ## A receiver that loses its signal -/

theorem Chip.rcvOf_congr {s t : Chip} (h : t.rcv = s.rcv) (x : Rcv) : t.rcvOf x = s.rcvOf x := by
  rw [Chip.rcvOf, h, Chip.rcvOf]

theorem Chip.rcvOf_setRcv_self (s : Chip) (x : Rcv) (v : RcvSt) : (s.setRcv x v).rcvOf x = v :=
  (Tab.get_put _ _ _ _ _).trans (if_pos rfl)

theorem Chip.rcv_raise (s : Chip) (e : Ev) : (s.raise e).rcv = s.rcv := by rw [quiet_raise s e]

/-- An event with a lasting condition begins in registers and live conditions alone. -/
theorem Chip.assert_frame (s : Chip) (e : Ev) : (s.assert e).rcv = s.rcv ∧ (s.assert e).txd = s.txd ∧ Elsewhere s (s.assert e) := by
  rw [Chip.assert, quiet_raise]
  exact ⟨rfl, rfl, rfl, rfl, rfl, rfl, rfl, rfl, rfl, rfl⟩

theorem Chip.rcv_assert (s : Chip) (e : Ev) : (s.assert e).rcv = s.rcv := (s.assert_frame e).1

theorem Chip.rd_assert (s : Chip) (e : Ev) {b : Nat} (hb : b ≠ e.base + 0xF0) : (s.assert e).rd b = s.rd b :=
  (Chip.rd_raise _ _ _).trans (if_neg fun h => hb h.2)

theorem Chip.rcv_raiseCar (s : Chip) (x : Rcv) (e : Carrier → Ev) : (s.raiseCar x e).rcv = s.rcv := by
  cases x with
  | car c => exact s.rcv_raise _
  | sub c q => rfl

/-- Codeword lock that ends leaves the state of the acquisition and the loss of signal (R128). -/
theorem Chip.rcvOf_dropCwLock (s : Chip) (x : Rcv) :
    ((s.dropCwLock x).rcvOf x).state = (s.rcvOf x).state ∧ ((s.dropCwLock x).rcvOf x).los = (s.rcvOf x).los := by
  have hlock : ((s.setCwLock x false).rcvOf x).state = (s.rcvOf x).state ∧ ((s.setCwLock x false).rcvOf x).los = (s.rcvOf x).los := by
    unfold Chip.setCwLock
    dsimp only
    split
    · exact ⟨rfl, rfl⟩
    · rw [Chip.rcvOf_congr (Chip.rcv_raiseCar _ _ _), Chip.rcvOf_setRcv_self]
      exact ⟨rfl, rfl⟩
  have hwindow : ∀ u : Chip, ((u.emptyWindow x).rcvOf x).state = (u.rcvOf x).state ∧ ((u.emptyWindow x).rcvOf x).los = (u.rcvOf x).los := by
    intro u
    have hrcv : (u.emptyWindow x).rcv = (u.modRcv x fun v => { v with blocks := 0, last64 := [], ub := false }).rcv := by
      cases x <;> rfl
    rw [Chip.rcvOf_congr hrcv, Chip.modRcv, Chip.rcvOf_setRcv_self]
    exact ⟨rfl, rfl⟩
  unfold Chip.dropCwLock
  split
  · exact ⟨(hwindow _).1.trans hlock.1, (hwindow _).2.trans hlock.2⟩
  · exact ⟨rfl, rfl⟩

/-- An entry into DETECT leaves the loss of signal (R105). -/
theorem Chip.rcvOf_enterDetect (s : Chip) (x : Rcv) (warm : Bool) :
    ((s.enterDetect x warm).rcvOf x).state = 1 ∧ ((s.enterDetect x warm).rcvOf x).los = (s.rcvOf x).los := by
  unfold Chip.enterDetect
  extract_lets cfg s1
  obtain ⟨hstate, hlos⟩ := s1.rcvOf_dropCwLock x
  rw [hstate, hlos]
  unfold s1
  rw [Chip.modRcv, Chip.rcvOf_setRcv_self]
  refine ⟨rfl, ?_⟩
  dsimp only [RcvSt.noPartial]
  split <;> rfl

/-- Loss of signal declared in ACQUIRED: back to DETECT (R102, R105). -/
theorem Chip.rcvOf_declareLos_acquired {s : Chip} {c : Carrier} (h : (s.rcvOf (.car c)).state = 8) :
    ((s.declareLos (.car c)).rcvOf (.car c)).los = true ∧ ((s.declareLos (.car c)).rcvOf (.car c)).state = 1 := by
  unfold Chip.declareLos
  extract_lets v s1 s2
  have hv : v.state = 8 := h
  have hrcv : s2.rcv = s1.rcv := Chip.rcv_assert _ _
  obtain ⟨hstate, hlos⟩ := s2.rcvOf_enterDetect (.car c) v.warmValid
  rw [if_pos hv, Chip.raiseRcv, Chip.rcvOf_congr (Chip.rcv_raise _ _), hstate, hlos, Chip.rcvOf_congr hrcv]
  exact ⟨congrArg RcvSt.los (s.rcvOf_setRcv_self _ _), rfl⟩

/-- What a carrier's receiver ends its steps with. -/
theorem Chip.LineKept.rcvEnd_car {r a : Prop} {s₀ s : Chip} (h : Chip.LineKept r a s₀ s) {c : Carrier} :
    Chip.LineKept r a s₀ (s.rcvEnd (.car c)) := (h.trailSettle (by decide)).settle

/-! ## The receivers in use -/

/-- The line settings in effect are those that four registers report (R61, R66, R98, R164). -/
theorem Chip.lineApplied_congr {s t : Chip} {c : Carrier} (hline : t.rd (Reg.TXD.LINE_STAT.addr c) = s.rd (Reg.TXD.LINE_STAT.addr c))
    (hrx : t.rd (Reg.RXD.RX_STAT.addr c) = s.rd (Reg.RXD.RX_STAT.addr c)) (hsc : t.rd (Reg.SUBC.SC_STAT.addr c) = s.rd (Reg.SUBC.SC_STAT.addr c))
    (hen : t.rd (Reg.SUBC.EN_ACTIVE.addr c) = s.rd (Reg.SUBC.EN_ACTIVE.addr c)) : t.lineApplied c = s.lineApplied c := by
  have hrx' : ∀ lo width, t.getF ⟨Reg.RXD.RX_STAT.addr c, lo, width⟩ = s.getF ⟨Reg.RXD.RX_STAT.addr c, lo, width⟩ := fun lo width =>
    congrArg (fun w : Word => w.field lo width) hrx
  have hsc' : t.getF (Reg.SUBC.SC_STAT.ROLE_ACTIVE c) = s.getF (Reg.SUBC.SC_STAT.ROLE_ACTIVE c) := congrArg (fun w : Word => w.field 16 2) hsc
  have hen' : ∀ lo width, t.getF ⟨Reg.SUBC.EN_ACTIVE.addr c, lo, width⟩ = s.getF ⟨Reg.SUBC.EN_ACTIVE.addr c, lo, width⟩ := fun lo width =>
    congrArg (fun w : Word => w.field lo width) hen
  unfold Chip.lineApplied Chip.flag
  rw [hline, Reg.RXD.RX_STAT.LOWLAT_ACTIVE, Reg.RXD.RX_STAT.NLC_ACTIVE, hrx', hrx', hsc', Reg.SUBC.EN_ACTIVE.DN, Reg.SUBC.EN_ACTIVE.UP, hen', hen']

theorem Chip.receivers_congr {s t : Chip} {c : Carrier} (h : t.lineApplied c = s.lineApplied c) : t.receivers c = s.receivers c := by
  rw [Chip.receivers, h, Chip.receivers]

/-! ## The converter PLL -/

theorem Chip.getLsbD_liveWord_setLive (s : Chip) {e : Ev} (hb : e.bit < 32) (b : Bool) :
    ((s.setLive e b).liveWord e.base).getLsbD e.bit = b := by
  have h : (s.setLive e b).liveWord e.base =
      if b then s.liveWord e.base ||| (1#32 <<< e.bit) else s.liveWord e.base &&& ~~~(1#32 <<< e.bit) :=
    (Store.get_set _ _ _ _ _).trans (if_pos rfl)
  rw [h]
  cases b <;> simp [hb]

theorem Chip.getLsbD_liveWord_assert (s : Chip) {e : Ev} (hb : e.bit < 32) : ((s.assert e).liveWord e.base).getLsbD e.bit = true := by
  rw [Chip.assert, quiet_raise]
  exact s.getLsbD_liveWord_setLive hb true

theorem Chip.txState_congr {s t : Chip} {c : Carrier} (h : t.rd (Reg.TXD.LINE_STAT.addr c) = s.rd (Reg.TXD.LINE_STAT.addr c)) :
    t.txState c = s.txState c := congrArg (fun w : Word => w.field 12 3) h

/-- The converter PLL of a carrier out of lock, with its event (R69). -/
def Chip.pllLost (s : Chip) (c : Carrier) : Chip :=
  (s.modTxd c fun v => if v.pllLol then v else { v with pllLol := true, lolAt := s.now }).assert (Ev.TXD.DAC_PLL_LOL c)

theorem Chip.rd_pllLost (s : Chip) (c : Carrier) {m : Nat} (hm : m ≠ 0x010000F0) : (s.pllLost c).rd (c.base + m) = s.rd (c.base + m) :=
  (Chip.rd_assert _ (Ev.TXD.DAC_PLL_LOL c) (carrier_addr_ne c (n := 0x010000F0) hm)).trans (Chip.rd_modTxd _ _ _ _)

theorem Chip.pllLost_spec (s : Chip) (c : Carrier) :
    ((s.pllLost c).txd.get c).pllLol = true ∧ ((s.pllLost c).liveWord (Ev.TXD.base c)).getLsbD 5 = true ∧ (s.pllLost c).rcv = s.rcv ∧
      (s.pllLost c).txState c = s.txState c ∧ (s.pllLost c).receivers c = s.receivers c ∧ Elsewhere s (s.pllLost c) := by
  obtain ⟨hrcv, htxd, helse⟩ := Chip.assert_frame
    (s.modTxd c fun v => if v.pllLol then v else { v with pllLol := true, lolAt := s.now }) (Ev.TXD.DAC_PLL_LOL c)
  refine ⟨?_, ?_, hrcv, Chip.txState_congr (s.rd_pllLost c (by decide)), ?_, helse⟩
  · rw [Chip.pllLost, htxd, Chip.get_txd_modTxd]
    split
    · assumption
    · rfl
  · exact Chip.getLsbD_liveWord_assert _ (e := Ev.TXD.DAC_PLL_LOL c) (by cases c <;> decide)
  · exact Chip.receivers_congr (Chip.lineApplied_congr (s.rd_pllLost c (by decide)) (s.rd_pllLost c (by decide)) (s.rd_pllLost c (by decide))
      (s.rd_pllLost c (by decide)))

/-- The loss of the converter PLL, where the carrier's own receiver had its signal (R69, R102). -/
theorem doDacPllLol_car {s : Chip} {c : Carrier} (hr : s.receivers c = [.car c]) (hlos : (s.rcvOf (.car c)).los = false) :
    doDacPllLol c s = ((s.pllLost c).declareLos (.car c)).rcvEnd (.car c) := by
  obtain ⟨-, -, hrcv, -, hreceivers, -⟩ := s.pllLost_spec c
  have hlos' : ((s.pllLost c).rcvOf (.car c)).los = false := (congrArg RcvSt.los (Chip.rcvOf_congr hrcv _)).trans hlos
  rw [doDacPllLol, ← Chip.pllLost]
  rw [hreceivers, hr, List.foldl_cons, List.foldl_nil, if_neg (ne_true_of_eq_false hlos')]

/-- The converter PLL of a carrier in lock again (R69). -/
def Chip.pllFound (s : Chip) (c : Carrier) : Chip :=
  (s.modTxd c fun v => if v.pllLol then { v with pllLol := false, rampAt := v.rampAt + (s.now - v.lolAt) } else v).setLive
    (Ev.TXD.DAC_PLL_LOL c) false

theorem Chip.rd_pllFound (s : Chip) (c : Carrier) (b : Nat) : (s.pllFound c).rd b = s.rd b :=
  (Chip.rd_setLive _ _ _ _).trans (Chip.rd_modTxd _ _ _ _)

theorem Chip.elsewhere_setLive (s : Chip) (e : Ev) (b : Bool) : Elsewhere s (s.setLive e b) := ⟨rfl, rfl, rfl, rfl, rfl, rfl, rfl, rfl⟩

theorem Chip.pllFound_spec (s : Chip) (c : Carrier) :
    ((s.pllFound c).txd.get c).pllLol = false ∧ ((s.pllFound c).liveWord (Ev.TXD.base c)).getLsbD 5 = false ∧
      (s.pllFound c).rcv = s.rcv ∧ Elsewhere s (s.pllFound c) := by
  refine ⟨?_, Chip.getLsbD_liveWord_setLive _ (e := Ev.TXD.DAC_PLL_LOL c) (by cases c <;> decide) false, Chip.setLive_rcv _ _ _,
    Chip.elsewhere_setLive _ _ _⟩
  rw [Chip.pllFound, Chip.setLive_txd, Chip.get_txd_modTxd]
  split
  · rfl
  · next h => exact Bool.eq_false_iff.mpr h

/-- The return of the converter PLL in ON with nothing else due (R69). -/
theorem doDacPllRelock_on {s : Chip} {c : Carrier} (hst : s.txState c = 2) (hen : s.flag (Reg.TXD.CTRL.TX_EN c) = true)
    (hmute : s.flag (Reg.TXD.CTRL.MUTE c) = false) : doDacPllRelock c s = (s.pllFound c).settle := by
  have hflag : ∀ f, (s.pllFound c).flag f = s.flag f := fun f => congrArg (fun w : Word => w.field f.lo f.width == 1) (s.rd_pllFound c f.addr)
  rw [doDacPllRelock, ← Chip.pllFound]
  rw [Chip.txEval_stays_on ((Chip.txState_congr (s.rd_pllFound c _)).trans hst) ((hflag _).trans hen) ((hflag _).trans hmute)]

/-- Settles O16, command by command: what each does in the state it finds is one equation, and the ramp started, the state entered or the converter
PLL's loss and return say what that leaves. -/
theorem transmitControl : Obligations.TransmitControl := by
  refine ⟨fun s c hpll hpend hjoin => ?_, fun s c => ?_, fun s c => ?_⟩
  · refine ⟨fun hst hmute => answers_of_to rfl ?_, fun hst hen hmute => answers_of_to rfl ?_, fun hlo hhi => answers_of_to rfl ?_,
      fun hst hen => answers_of_to rfl ?_, fun v => answers_of_to rfl ?_⟩
    · rw [doTxEnSet_off hpll hst hpend hjoin hmute]
      exact s.chip.setFlag_ctrl_startRamp_spec rfl (by cases c <;> decide) rfl true (by decide) 300
    · obtain ⟨hflag, hstate, hfrom, -, -, hkept, hframe⟩ := s.chip.setFlag_ctrl_startRamp_spec (f := Reg.TXD.CTRL.TX_EN c) rfl
        (by cases c <;> decide) rfl false (st := 3) (by decide) 0
      rw [doTxEnClear_on hpll hst hen hmute]
      exact ⟨hflag, hstate, hfrom, hkept, hframe⟩
    · rw [doMuteSet_enabled hpll hlo hhi]
      exact s.chip.setFlag_ctrl_enterMuted_spec rfl (by cases c <;> decide) rfl true
    · obtain ⟨hflag, hstate, hfrom, -, -, hkept, hframe⟩ := s.chip.setFlag_ctrl_startRamp_spec (f := Reg.TXD.CTRL.MUTE c) rfl
        (by cases c <;> decide) rfl false (st := 1) (by decide) 300
      rw [doMuteClear_muted hpll hst hpend hjoin hen]
      exact ⟨hflag, hstate, hfrom, hkept, hframe⟩
    · exact ⟨s.chip.flag_setFlag_self _ v rfl (by cases c <;> decide), keptBut_setF _ _ _, quiet_setF _ _ _⟩
  · refine ⟨fun hst hpll => answers_of_to rfl ?_, fun hst hpll hen => answers_of_to rfl ?_,
      fun hst hpll hen hpend hjoin => answers_of_to rfl ?_, fun hpll => ⟨?_, ?_⟩⟩
    · rw [doRampUpDone_up hst hpll]
      exact s.chip.setState_raise_spec c (by decide) rfl (by cases c <;> decide)
    · rw [doRampDownDone_disabled hst hpll hen]
      exact s.chip.setState_raise_spec c (by decide) rfl (by cases c <;> decide)
    · obtain ⟨hstate, hfrom, -, -, hkept, hframe⟩ := s.chip.startRamp_spec c (st := 1) (by decide) 300
      rw [doRampDownDone_enabled hst hpll hen, Chip.enterRampUp_of_nothing_pending hpend hjoin]
      exact ⟨hstate, hfrom, hkept, hframe⟩
    · exact congrArg s.to (doRampUpDone_unlocked hpll)
    · exact congrArg s.to (doRampDownDone_unlocked hpll)
  · refine ⟨fun hr hlos hst => answers_of_to rfl ?_, fun hst hen hmute => answers_of_to rfl ?_⟩
    · obtain ⟨hpll, hlive, hrcv, hstate, -, helse⟩ := s.chip.pllLost_spec c
      obtain ⟨hlos', hdetect⟩ := Chip.rcvOf_declareLos_acquired ((congrArg RcvSt.state (Chip.rcvOf_congr hrcv (.car c))).trans hst)
      have hkept : Chip.LineKept False True (s.chip.pllLost c) (((s.chip.pllLost c).declareLos (.car c)).rcvEnd (.car c)) :=
        (Chip.LineKept.refl _).declareLos.rcvEnd_car
      have hend : Chip.LineKept True True ((s.chip.pllLost c).declareLos (.car c)) (((s.chip.pllLost c).declareLos (.car c)).rcvEnd (.car c)) :=
        (Chip.LineKept.refl _).rcvEnd_car
      rw [doDacPllLol_car hr hlos, hkept.txd, hkept.live _ (not_lineReg_txdEvents c), Chip.rcvOf_congr (hend.rcv trivial),
        Chip.txState_congr (hkept.rd _ (not_lineReg_lineStat c))]
      exact ⟨hpll, hlive, hlos', hdetect, hstate, helse.trans hkept.elsewhere⟩
    · obtain ⟨hpll, hlive, hrcv, helse⟩ := s.chip.pllFound_spec c
      have hkept : Chip.LineKept True True (s.chip.pllFound c) (s.chip.pllFound c).settle := (Chip.LineKept.refl _).settle
      rw [doDacPllRelock_on hst hen hmute, hkept.txd, hkept.live _ (not_lineReg_txdEvents c), hkept.rcv trivial,
        Chip.txState_congr (hkept.rd _ (not_lineReg_lineStat c))]
      exact ⟨hpll, hlive, (Chip.txState_congr (s.chip.rd_pllFound c _)).trans hst, hrcv, helse.trans hkept.elsewhere⟩

end Sys2Proof.Machine
end

section
/-! SUPPORT. A pending line configuration as it takes effect: the fields of its report, the generator that restarts, and the masks of the
subcarriers (R39, R61, R66, R146). -/

namespace Sys2Proof.Machine

set_option Elab.async false

theorem Chip.getF_congr {s t : Chip} {f : Fld} (h : t.rd f.addr = s.rd f.addr) : t.getF f = s.getF f :=
  congrArg (fun w : Word => w.field f.lo f.width) h

theorem Chip.flag_congr {s t : Chip} {f : Fld} (h : t.rd f.addr = s.rd f.addr) : t.flag f = s.flag f :=
  congrArg (· == 1) (Chip.getF_congr h)

/-! ## Several fields set one after the other -/

/-- Fields set one after the other. -/
def Chip.setFields (s : Chip) (l : List (Fld × Nat)) : Chip := l.foldl (fun u p => u.setF p.1 p.2) s

theorem Chip.setFields_cons (s : Chip) (p : Fld × Nat) (l : List (Fld × Nat)) : s.setFields (p :: l) = (s.setF p.1 p.2).setFields l := rfl

theorem Chip.getF_setFields_of_apart (s : Chip) {l : List (Fld × Nat)} {g : Fld} (hg : g.lo + g.width ≤ 32) (h : ∀ f ∈ l.map Prod.fst, Apart f g) :
    (s.setFields l).getF g = s.getF g := by
  induction l generalizing s with
  | nil => rfl
  | cons p l ih =>
    rw [List.map_cons, List.forall_mem_cons] at h
    rw [Chip.setFields_cons, ih _ h.2]
    exact (keptBut_setF s p.1 p.2).1 g hg (by simp) (by simpa using h.1)

/-- Of fields that share no bit, each reads as it was set. -/
theorem Chip.getF_setFields_of_mem (s : Chip) {l : List (Fld × Nat)} (hl : (l.map Prod.fst).Pairwise fun f g => Apart g f) {g : Fld} {v : Nat}
    (hg : g.lo + g.width ≤ 32) (h : (g, v) ∈ l) : (s.setFields l).getF g = v % 2 ^ g.width := by
  induction l generalizing s with
  | nil => cases h
  | cons p l ih =>
    rw [List.map_cons, List.pairwise_cons] at hl
    rw [Chip.setFields_cons]
    rcases List.mem_cons.mp h with rfl | h
    · rw [Chip.getF_setFields_of_apart _ hg hl.1, Chip.getF_setF_self _ _ _ hg]
    · exact ih _ hl.2 h

/-! ## The line settings as they come into effect -/

/-- What LINE_STAT takes from the committed settings (R66). -/
def Chip.lineStatFields (s : Chip) (c : Carrier) : List (Fld × Nat) :=
  let l := (s.lineCommitted c).cfg
  [(Reg.TXD.LINE_STAT.OTUCN c, l.otucn), (Reg.TXD.LINE_STAT.FORMAT c, l.format), (Reg.TXD.LINE_STAT.ENTROPY c, l.entropy),
    (Reg.TXD.LINE_STAT.ROLLOFF c, l.rolloff), (Reg.TXD.LINE_STAT.SUBC_EN c, l.subcEn.toNat), (Reg.TXD.LINE_STAT.PILOT_BOOST c, l.pilotBoost)]

theorem Chip.map_fst_lineStatFields (s : Chip) (c : Carrier) : (s.lineStatFields c).map Prod.fst =
    [Reg.TXD.LINE_STAT.OTUCN c, Reg.TXD.LINE_STAT.FORMAT c, Reg.TXD.LINE_STAT.ENTROPY c, Reg.TXD.LINE_STAT.ROLLOFF c,
      Reg.TXD.LINE_STAT.SUBC_EN c, Reg.TXD.LINE_STAT.PILOT_BOOST c] := rfl

theorem Chip.lineStatFields_apart (s : Chip) (c : Carrier) : ((s.lineStatFields c).map Prod.fst).Pairwise fun f g => Apart g f := by
  rw [Chip.map_fst_lineStatFields]
  unfold Apart
  cases c <;> decide

theorem Chip.lineStatFields_apart_state (s : Chip) (c : Carrier) :
    ∀ f ∈ (s.lineStatFields c).map Prod.fst, Apart f (Reg.TXD.LINE_STAT.STATE c) := by
  rw [Chip.map_fst_lineStatFields]
  unfold Apart
  cases c <;> decide

theorem Chip.rd_lineStat_showLine (s : Chip) (c : Carrier) :
    (s.showLine c).rd (Reg.TXD.LINE_STAT.addr c) = (s.setFields (s.lineStatFields c)).rd (Reg.TXD.LINE_STAT.addr c) := by
  unfold Chip.showLine Chip.setFlag
  dsimp only
  iterate 4 rw [Chip.rd_setF_ne _ _ _ (carrier_addr_ne c (by decide))]
  rw [Chip.rd_wr_ne (a := Reg.TXD.RS_MIN.addr c) (b := Reg.TXD.LINE_STAT.addr c) _ _ (carrier_addr_ne c (by decide))]
  iterate 3 rw [Chip.rd_setF_ne _ _ _ (carrier_addr_ne c (by decide))]
  rfl

theorem Chip.rd_showLine_ne (s : Chip) (c : Carrier) {m : Nat}
    (hm : ∀ n ∈ [0x01000008, 0x0100000C, 0x01000010, 0x01000014, 0x01100004], m ≠ n) : (s.showLine c).rd (c.base + m) = s.rd (c.base + m) := by
  unfold Chip.showLine Chip.setFlag
  dsimp only
  iterate 4 rw [Chip.rd_setF_ne _ _ _ (carrier_addr_ne c (hm _ (by decide)))]
  rw [Chip.rd_wr_ne (a := Reg.TXD.RS_MIN.addr c) _ _ (carrier_addr_ne c (hm _ (by decide)))]
  iterate 9 rw [Chip.rd_setF_ne _ _ _ (carrier_addr_ne c (hm _ (by decide)))]

theorem Elsewhere.wr {s t : Chip} (h : Elsewhere s t) {b w} : Elsewhere s (t.wr b w) := h

theorem Elsewhere.setF {s t : Chip} (h : Elsewhere s t) {f v} : Elsewhere s (t.setF f v) := h

theorem Elsewhere.setSubc {s t : Chip} (h : Elsewhere s t) {c v} : Elsewhere s (t.setSubc c v) := h

theorem Elsewhere.modTxd {s t : Chip} (h : Elsewhere s t) {c f} : Elsewhere s (t.modTxd c f) := h

theorem Elsewhere.showLine {s t : Chip} (h : Elsewhere s t) {c : Carrier} : Elsewhere s (t.showLine c) := by
  unfold Chip.showLine
  exact h.setF.setF.setF.setF.setF.setF.setF.setF.setF.wr.setF.setF.setF.setF

theorem Elsewhere.showMasks {s t : Chip} (h : Elsewhere s t) {c : Carrier} : Elsewhere s (t.showMasks c) := by
  unfold Chip.showMasks
  exact h.setF.setF.setF.setF.setSubc

theorem Chip.rd_setSubc (s : Chip) (c : Carrier) (v : SubcSt) (b : Nat) : (s.setSubc c v).rd b = s.rd b := rfl

theorem Chip.rd_showMasks_ne (s : Chip) (c : Carrier) {m : Nat} (hm : ∀ n ∈ [0x01600010, 0x0160001C], m ≠ n) :
    (s.showMasks c).rd (c.base + m) = s.rd (c.base + m) := by
  unfold Chip.showMasks
  dsimp only
  rw [Chip.rd_setSubc]
  iterate 4 rw [Chip.rd_setF_ne _ _ _ (carrier_addr_ne c (hm _ (by decide)))]

/-! ## A pending configuration applied -/

theorem Chip.getF_field_lineStat_showMasks_showLine (s : Chip) (c : Carrier) (lo width : Nat) :
    ((s.showLine c).showMasks c).getF ⟨Reg.TXD.LINE_STAT.addr c, lo, width⟩ =
      (s.setFields (s.lineStatFields c)).getF ⟨Reg.TXD.LINE_STAT.addr c, lo, width⟩ :=
  Chip.getF_congr (((s.showLine c).rd_showMasks_ne c (by decide)).trans (s.rd_lineStat_showLine c))

/-- The committed settings in effect, with nothing pending any more (R61). -/
def Chip.lineShown (s : Chip) (c : Carrier) : Chip := ((s.showLine c).showMasks c).setFlag (Reg.TXD.LINE_STAT.RECONF_PEND c) false

theorem Chip.lineShown_spec (s : Chip) (c : Carrier) :
    (s.lineShown c).flag (Reg.TXD.LINE_STAT.RECONF_PEND c) = false ∧
      (s.lineShown c).getF (Reg.TXD.LINE_STAT.OTUCN c) = (s.act (Reg.TXD.LINE_CFG.addr c)).field 0 5 ∧
      (s.lineShown c).getF (Reg.TXD.LINE_STAT.FORMAT c) = (s.act (Reg.TXD.LINE_CFG.addr c)).field 8 2 ∧
      (s.lineShown c).getF (Reg.TXD.LINE_STAT.ROLLOFF c) = (s.act (Reg.TXD.LINE_CFG.addr c)).field 24 3 ∧
      (s.lineShown c).txState c = s.txState c ∧
      (s.lineShown c).rd (Ev.TXD.base c + 0xF8) = s.rd (Ev.TXD.base c + 0xF8) ∧ Elsewhere s (s.lineShown c) := by
  have hfield : ∀ lo width, lo + width ≤ 32 → lo + width ≤ 15 ∨ 16 ≤ lo →
      (s.lineShown c).getF ⟨Reg.TXD.LINE_STAT.addr c, lo, width⟩ = (s.setFields (s.lineStatFields c)).getF ⟨Reg.TXD.LINE_STAT.addr c, lo, width⟩ :=
    fun lo width h32 h15 => (Chip.getF_setF_disjoint _ (Reg.TXD.LINE_STAT.RECONF_PEND c) ⟨Reg.TXD.LINE_STAT.addr c, lo, width⟩ _ rfl h32 h15).trans
      (s.getF_field_lineStat_showMasks_showLine c lo width)
  have hset : ∀ {g v}, (g, v) ∈ s.lineStatFields c → g.lo + g.width ≤ 32 → (s.setFields (s.lineStatFields c)).getF g = v % 2 ^ g.width :=
    fun h hg => s.getF_setFields_of_mem (s.lineStatFields_apart c) hg h
  refine ⟨Chip.flag_setFlag_self _ _ _ rfl (by cases c <;> decide), ?_, ?_, ?_, ?_, ?_, ?_⟩
  · refine (hfield 0 5 (by decide) (by decide)).trans ((hset (g := Reg.TXD.LINE_STAT.OTUCN c) (.head _) (by cases c <;> decide)).trans ?_)
    exact Nat.mod_eq_of_lt (Word.field_lt _ 0 5)
  · refine (hfield 8 2 (by decide) (by decide)).trans ((hset (g := Reg.TXD.LINE_STAT.FORMAT c) (.tail _ (.head _)) (by cases c <;> decide)).trans ?_)
    exact Nat.mod_eq_of_lt (Word.field_lt _ 8 2)
  · refine (hfield 24 3 (by decide) (by decide)).trans ((hset (g := Reg.TXD.LINE_STAT.ROLLOFF c) (.tail _ (.tail _ (.tail _ (.head _))))
      (by cases c <;> decide)).trans ?_)
    exact Nat.mod_eq_of_lt (Word.field_lt _ 24 3)
  · exact (hfield 12 3 (by decide) (by decide)).trans
      (Chip.getF_setFields_of_apart s (g := Reg.TXD.LINE_STAT.STATE c) (by cases c <;> decide) (s.lineStatFields_apart_state c))
  · rw [Chip.lineShown, Chip.setFlag, Chip.rd_setF_ne _ _ _ (carrier_addr_ne c (m := 0x010000F8) (by decide))]
    exact ((s.showLine c).rd_showMasks_ne c (m := 0x010000F8) (by decide)).trans (s.rd_showLine_ne c (by decide))
  · exact (Elsewhere.refl s).showLine.showMasks.setF

theorem Chip.foldl_modFrm_spec (s : Chip) (c : Carrier) (f : FrmSt → FrmSt) (l : List Nat) :
    (l.foldl (fun u t => u.modFrm c t f) s).regs = s.regs ∧ (l.foldl (fun u t => u.modFrm c t f) s).txd = s.txd ∧
      Elsewhere s (l.foldl (fun u t => u.modFrm c t f) s) := by
  induction l generalizing s with
  | nil => exact ⟨rfl, rfl, .refl _⟩
  | cons t l ih => exact ih (s.modFrm c t f)

/-- A generator restarted: the phase taken, the carrier's place in the shared generator as it was (R38). -/
theorem Chip.restartGenerator_spec (s : Chip) (c : Carrier) (phase : Nat) :
    ((s.restartGenerator c phase).txd.get c).phase = phase ∧
      ((s.restartGenerator c phase).txd.get c).joined = (s.txd.get c).joined ∧
      ((s.restartGenerator c phase).txd.get c).joinPend = (s.txd.get c).joinPend ∧
      ((s.restartGenerator c phase).txd.get c).leavePend = (s.txd.get c).leavePend ∧
      (s.restartGenerator c phase).regs = s.regs ∧ Elsewhere s (s.restartGenerator c phase) := by
  rw [Chip.restartGenerator, Chip.get_txd_modTxd]
  exact ⟨rfl, rfl, rfl, rfl, rfl, .modTxd (.refl s)⟩

/-- A carrier that joins the shared frame generator (R39): it has joined, at the other's phase where the other has, and no register changes. -/
theorem Chip.join_spec (s : Chip) (c : Carrier) :
    ((s.join c).txd.get c).joined = true ∧ ((s.join c).txd.get c).joinPend = false ∧
      ((s.txd.get c.other).joined = true → ((s.join c).txd.get c).phase = (s.txd.get c.other).phase) ∧
      (s.join c).regs = s.regs ∧ Elsewhere s (s.join c) := by
  unfold Chip.join
  extract_lets other s1
  have h1 : s1.txd.get c = { s.txd.get c with joined := true, joinPend := false } := s.get_txd_modTxd c _
  have helse : Elsewhere s s1 := .modTxd (.refl s)
  split
  case isTrue n hother =>
    obtain ⟨hregs, htxd, hframers⟩ := s1.foldl_modFrm_spec c (fun w => { w with fsnNext := n }) (List.range 16)
    obtain ⟨hphase, hjoined, hpend, -, hregs', helse'⟩ := Chip.restartGenerator_spec
      ((List.range 16).foldl (fun u t => u.modFrm c t fun w => { w with fsnNext := n }) s1) c other.phase
    rw [htxd, h1] at hjoined hpend
    exact ⟨hjoined, hpend, fun _ => hphase, hregs'.trans hregs, helse.trans (hframers.trans helse')⟩
  case isFalse hother =>
    obtain ⟨-, hjoined, hpend, -, hregs, helse'⟩ := s1.restartGenerator_spec c s.now
    rw [h1] at hjoined hpend
    exact ⟨hjoined, hpend, fun h => absurd h hother, hregs, helse.trans helse'⟩

/-- What follows once the committed settings are in effect (R61): the generator restarts, the event occurs, and what depends on the line is
judged again. -/
def Chip.lineRestarted (s : Chip) (c : Carrier) (old : List Rcv) (n : Nat) : Chip :=
  let v := s.txd.get c
  let s2 := if v.joinPend then s.join c else s.restartGenerator c (if v.joined then v.phase else s.now)
  let s3 := (s2.raise (Ev.TXD.RECONF_DONE c)).receiversChanged c old true
  let s4 := if s3.trailN c < n then s3.xcStepDown c else s3
  ((s4.grpSettle c true).flRecompute c).settle

theorem Chip.lineApply_eq (s : Chip) (c : Carrier) : s.lineApply c = (s.lineShown c).lineRestarted c (s.receivers c) (s.trailN c) := rfl

theorem Chip.lineRestarted_kept (s : Chip) (c : Carrier) (old : List Rcv) (n : Nat) :
    ∃ u, u.regs = s.regs ∧ Elsewhere s u ∧ Chip.LineKept False False (u.raise (Ev.TXD.RECONF_DONE c)) (s.lineRestarted c old n) := by
  unfold Chip.lineRestarted
  extract_lets v s2 s3 s4
  have h2 : s2.regs = s.regs ∧ Elsewhere s s2 := by
    unfold s2
    split
    · exact (s.join_spec c).2.2.2
    · exact (s.restartGenerator_spec c _).2.2.2.2
  have h3 : Chip.LineKept False False (s2.raise (Ev.TXD.RECONF_DONE c)) s3 := (Chip.LineKept.refl _).receiversChanged
  have h4 : Chip.LineKept False False (s2.raise (Ev.TXD.RECONF_DONE c)) s4 := .ite h3.xcStepDown h3
  exact ⟨s2, h2.1, h2.2, h4.grpSettle.flRecompute.settle⟩

theorem Chip.rd_of_regs {s t : Chip} (h : t.regs = s.regs) (b : Nat) : t.rd b = s.rd b := by
  rw [Chip.rd, h, Chip.rd]

/-- The committed masks in effect (R146). -/
theorem Chip.showMasks_spec (s : Chip) (c : Carrier) :
    ((s.showMasks c).subc.get c).enPend = false ∧
      (s.showMasks c).getF (Reg.SUBC.EN_ACTIVE.DN c) = (s.act (Reg.SUBC.DN_EN.addr c)).field 0 16 ∧
      (s.showMasks c).getF (Reg.SUBC.EN_ACTIVE.UP c) = (s.act (Reg.SUBC.UP_EN.addr c)).field 0 16 := by
  have hget : ∀ (u : Chip) (v : SubcSt), (u.setSubc c v).subc.get c = v := fun u v => Two.get_put_self _ _ _
  have hfield : ∀ (u : Chip) (v : SubcSt) (f : Fld), (u.setSubc c v).getF f = u.getF f := fun _ _ _ => rfl
  have hnrx : Reg.SUBC.EN_ACTIVE.addr c ≠ Reg.SUBC.SC_STAT.addr c := carrier_addr_ne c (by decide)
  unfold Chip.showMasks
  dsimp only
  rw [hget, hfield, hfield]
  refine ⟨rfl, ?_, ?_⟩
  · rw [Chip.getF_setF_addr _ _ _ _ hnrx, Chip.getF_setF_disjoint _ (Reg.SUBC.EN_ACTIVE.UP c) (Reg.SUBC.EN_ACTIVE.DN c) _ rfl
      (by cases c <;> decide) (by cases c <;> decide), Chip.getF_setF_self _ (Reg.SUBC.EN_ACTIVE.DN c) _ (by cases c <;> decide)]
    exact Nat.mod_eq_of_lt (Word.field_lt _ 0 16)
  · rw [Chip.getF_setF_addr _ _ _ _ hnrx, Chip.getF_setF_self _ (Reg.SUBC.EN_ACTIVE.UP c) _ (by cases c <;> decide)]
    exact Nat.mod_eq_of_lt (Word.field_lt _ 0 16)

/-- Settles O17: the report takes the committed settings, and what follows in the same step leaves LINE_STAT and EN_ACTIVE as they are. -/
theorem reconfigurationApplied : Obligations.ReconfigurationApplied := by
  intro s c
  refine ⟨fun hpend hst => answers_of_to rfl ?_, fun hpend => answers_of_to rfl ?_⟩
  · obtain ⟨u, hregs, helse, hkept⟩ := (s.chip.lineShown c).lineRestarted_kept c (s.chip.receivers c) (s.chip.trailN c)
    obtain ⟨hpend', hotucn, hformat, hrolloff, hstate, hsticky, hshown⟩ := s.chip.lineShown_spec c
    rw [← Chip.lineApply_eq] at hkept
    have hdo : doReconfApply c s.chip = s.chip.lineApply c := if_pos ⟨hpend, .inr hst⟩
    have hstat : (s.chip.lineApply c).rd (Reg.TXD.LINE_STAT.addr c) = (s.chip.lineShown c).rd (Reg.TXD.LINE_STAT.addr c) :=
      calc (s.chip.lineApply c).rd (Reg.TXD.LINE_STAT.addr c)
        _ = (u.raise (Ev.TXD.RECONF_DONE c)).rd (Reg.TXD.LINE_STAT.addr c) := hkept.rd _ (not_lineReg_lineStat c)
        _ = u.rd (Reg.TXD.LINE_STAT.addr c) :=
          (Chip.rd_raise _ _ _).trans (if_neg fun h => carrier_addr_ne c (m := 0x01000008) (n := 0x010000F0) (by decide) h.2)
        _ = (s.chip.lineShown c).rd (Reg.TXD.LINE_STAT.addr c) := Chip.rd_of_regs hregs _
    have hrec : Recorded (Ev.TXD.RECONF_DONE c) s.chip (s.chip.lineApply c) := fun hs => by
      have hstat : (s.chip.lineApply c).rd ((Ev.TXD.RECONF_DONE c).base + 0xF0) =
          (u.raise (Ev.TXD.RECONF_DONE c)).rd ((Ev.TXD.RECONF_DONE c).base + 0xF0) := hkept.rd _ (not_lineReg_txdEvents c)
      have hsticky' : u.rd ((Ev.TXD.RECONF_DONE c).base + 0xF8) = s.chip.rd ((Ev.TXD.RECONF_DONE c).base + 0xF8) :=
        (Chip.rd_of_regs hregs _).trans hsticky
      rw [hstat]
      exact recorded_raise u (Ev.TXD.RECONF_DONE c) (by cases c <;> decide) (by rw [hsticky']; exact hs)
    rw [hdo]
    exact ⟨(Chip.flag_congr hstat).trans hpend', (Chip.getF_congr hstat).trans hotucn, (Chip.getF_congr hstat).trans hformat,
      (Chip.getF_congr hstat).trans hrolloff, (Chip.txState_congr hstat).trans (hstate.trans hst), hrec,
      hshown.trans (helse.trans ((quiet_raise u _).elsewhere.trans hkept.elsewhere))⟩
  · obtain ⟨hen, hdn, hup⟩ := s.chip.showMasks_spec c
    have hdo : doScEnApply c s.chip = (((((s.chip.showMasks c).receiversChanged c (s.chip.receivers c) false).grpSettle c true).flRecompute c).settle) :=
      if_neg (by simp [hpend])
    have hkept : Chip.LineKept False True (s.chip.showMasks c) (doScEnApply c s.chip) := by
      rw [hdo]
      exact (Chip.LineKept.refl _).receiversChanged.grpSettle.flRecompute.settle
    have hrd := hkept.rd _ (not_lineReg_enActive c)
    exact ⟨by rw [hkept.subc]; exact hen, (Chip.getF_congr hrd).trans hdn, (Chip.getF_congr hrd).trans hup,
      (Elsewhere.refl s.chip).showMasks.trans hkept.elsewhere⟩

end Sys2Proof.Machine
end

section
/-! SUPPORT. The checks of the transmitted signal and the shared frame generator (R37 to R39, R55, R58). -/

namespace Sys2Proof.Machine

set_option Elab.async false

/-! ## Pairs, bits and events that a step leaves -/

theorem Chip.getPair_setPair (s : Chip) (lo v : Nat) : (s.setPair lo v).getPair lo = v % 2 ^ 64 := by
  rw [Chip.getPair, Chip.rd_setPair, Chip.rd_setPair, if_neg (by omega), if_pos rfl, if_pos rfl, BitVec.toNat_ofNat, BitVec.toNat_ofNat]
  omega

theorem Chip.getPair_congr {s t : Chip} {lo : Nat} (hlo : t.rd lo = s.rd lo) (hhi : t.rd (lo + 4) = s.rd (lo + 4)) :
    t.getPair lo = s.getPair lo := by
  rw [Chip.getPair, hlo, hhi, Chip.getPair]

theorem keptBut_setPair (s : Chip) (lo v : Nat) : KeptBut [] [⟨lo, 0, 32⟩, ⟨lo + 4, 0, 32⟩] s (s.setPair lo v) :=
  ((keptBut_wr s lo _).mono (by simp) (by simp)).trans ((keptBut_wr _ (lo + 4) _).mono (by simp) (by simp))

theorem Chip.rd_raiseIf_ne (s : Chip) (b : Bool) {e : Ev} {a : Nat} (h : a ≠ e.base + 0xF0) : (s.raiseIf b e).rd a = s.rd a := by
  cases b
  · rfl
  · exact (Chip.rd_raise _ _ _).trans (if_neg fun hc => h hc.2)

theorem keptBut_raiseIf (s : Chip) (b : Bool) {e : Ev} (he : e.bit < 32) : KeptBut [] [evtBit e] s (s.raiseIf b e) := by
  cases b
  · exact .refl _ _ _
  · exact keptBut_raise s e he

theorem recorded_raiseIf (s : Chip) {b : Bool} {e : Ev} (he : e.bit < 32) (hb : b = true) : Recorded e s (s.raiseIf b e) := by
  subst hb
  exact recorded_raise s e he

theorem KeptBut.getLsbD {bs : List Nat} {fs : List Fld} {s t : Chip} (h : KeptBut bs fs s t) {a i : Nat} (hi : i < 32)
    (hb : a / 0x100000 ∉ bs) (ha : ∀ f ∈ fs, Apart f ⟨a, i, 1⟩) : (t.rd a).getLsbD i = (s.rd a).getLsbD i := by
  have hbit : ∀ w : Word, (w.field i 1).testBit 0 = w.getLsbD i := fun w => by
    rw [Word.testBit_field]
    simp
  rw [← hbit, ← hbit]
  exact congrArg (Nat.testBit · 0) (h.1 ⟨a, i, 1⟩ hi hb ha)

/-- A step that leaves an event's bit leaves the event recorded. -/
theorem Recorded.kept {bs : List Nat} {fs : List Fld} {e : Ev} {s t u : Chip} (h : Recorded e s t) (he : e.bit < 32) (k : KeptBut bs fs t u)
    (hb : (e.base + 0xF0) / 0x100000 ∉ bs) (ha : ∀ f ∈ fs, Apart f (evtBit e)) : Recorded e s u := fun hs =>
  (k.getLsbD he hb ha).trans (h hs)

/-- A step that leaves the event's bit of EVT_STICKY may come before the event is recorded. -/
theorem Recorded.of_kept {bs : List Nat} {fs : List Fld} {e : Ev} {s t u : Chip} (k : KeptBut bs fs s t) (he : e.bit < 32)
    (hb : (e.base + 0xF8) / 0x100000 ∉ bs) (ha : ∀ f ∈ fs, Apart f ⟨e.base + 0xF8, e.bit, 1⟩) (h : Recorded e t u) : Recorded e s u :=
  fun hs => h ((k.getLsbD he hb ha).trans hs)

/-! ## Clip windows -/

/-- A clip window (R58): the count, the event counter and the event; nothing else. -/
theorem doDacClipWindow_spec (c : Carrier) (n : Nat) (s : Chip) :
    (doDacClipWindow c n s).getPair (Reg.TXD.CLIP_CNT_LO.addr c) = (s.getPair (Reg.TXD.CLIP_CNT_LO.addr c) + n) % 2 ^ 64 ∧
      (s.getF (Reg.TXD.CLIP_THR.THR c) < n → Recorded (Ev.TXD.DAC_CLIP c) s (doDacClipWindow c n s)) ∧
      KeptBut [0x05] [⟨Reg.TXD.CLIP_CNT_LO.addr c, 0, 32⟩, ⟨Reg.TXD.CLIP_CNT_LO.addr c + 4, 0, 32⟩, evtBit (Ev.TXD.DAC_CLIP c)] s
        (doDacClipWindow c n s) ∧
      Quiet s (doDacClipWindow c n s) := by
  have hbit : (Ev.TXD.DAC_CLIP c).bit < 32 := by cases c <;> decide
  have hcnt : ∀ d ∈ [0, 4], (doDacClipWindow c n s).rd (Reg.TXD.CLIP_CNT_LO.addr c + d) =
      (s.addPair (Reg.TXD.CLIP_CNT_LO.addr c) n).rd (Reg.TXD.CLIP_CNT_LO.addr c + d) := fun d hd =>
    (Chip.rd_raiseIf_ne _ _ (by revert d; cases c <;> decide)).trans (Chip.rd_evc _ _ _ (by revert d; cases c <;> decide))
  have hkept : KeptBut [0x05] [⟨Reg.TXD.CLIP_CNT_LO.addr c, 0, 32⟩, ⟨Reg.TXD.CLIP_CNT_LO.addr c + 4, 0, 32⟩] s
      ((s.addPair (Reg.TXD.CLIP_CNT_LO.addr c) n).evc (c.evcSrc 45) n) :=
    ((keptBut_setPair s _ _).mono (by simp) (by simp)).trans ((keptBut_evc _ _ _).mono (by simp) (by simp))
  refine ⟨?_, fun hn => ?_, (hkept.mono (by simp) (by simp)).trans ((keptBut_raiseIf _ _ hbit).mono (by simp) (by simp)), ?_⟩
  · exact (Chip.getPair_congr (hcnt 0 (by decide)) (hcnt 4 (by decide))).trans (s.getPair_setPair _ _)
  · exact .of_kept hkept hbit (by cases c <;> decide) (by unfold Apart; cases c <;> decide)
      (recorded_raiseIf _ hbit (decide_eq_true hn))
  · exact (((quiet_wr s _ _).trans (quiet_wr _ _ _)).trans (quiet_evc _ _ _)).raiseIf

/-! ## Mask checks -/

theorem Chip.rd_roundFree (s : Chip) (num : Int) (den b : Nat) : (s.roundFree num den).2.rd b = s.rd b := by
  unfold Chip.roundFree
  split
  · rfl
  · exact s.rd_free b

theorem Chip.roundFree_txd (s : Chip) (num : Int) (den : Nat) : (s.roundFree num den).2.txd = s.txd := by
  unfold Chip.roundFree
  split <;> rfl

theorem keptBut_roundFree (s : Chip) (num : Int) (den : Nat) : KeptBut [] [] s (s.roundFree num den).2 := by
  refine ⟨fun g _ _ _ => Chip.getF_congr (s.rd_roundFree num den _), ?_⟩
  unfold Chip.roundFree
  split <;> rfl

/-- The report of a mask check with a rising table (R55). -/
def Chip.maskShown (s : Chip) (c : Carrier) (k : Nat) (num : Int) (den : Nat) : Chip :=
  let r := (s.setFlag (Reg.TXD.MASK_STAT.BAD_TABLE c) false).roundFree num den
  (r.2.setS (Reg.TXD.MASK_STAT.WORST_MARGIN c) r.1).setF (Reg.TXD.MASK_STAT.WORST_ENTRY c) k

/-- A violation of the mask with ACTION (R55): the report, the event and MUTE. -/
def Chip.maskViolated (s : Chip) (c : Carrier) (k : Nat) (num : Int) (den : Nat) : Chip :=
  ((s.maskShown c k num den).raise (Ev.TXD.MASK_VIOL c)).setFlag (Reg.TXD.CTRL.MUTE c) true

theorem Chip.maskShown_txd (s : Chip) (c : Carrier) (k : Nat) (num : Int) (den : Nat) : (s.maskShown c k num den).txd = s.txd := by
  unfold Chip.maskShown Chip.setS
  dsimp only
  rw [Chip.setF_txd, Chip.setF_txd, Chip.roundFree_txd, Chip.setFlag_txd]

theorem Chip.maskShown_spec (s : Chip) (c : Carrier) {k : Nat} (hk : k < 16) (num : Int) (den : Nat) :
    (s.maskShown c k num den).flag (Reg.TXD.MASK_STAT.BAD_TABLE c) = false ∧
      (s.maskShown c k num den).getF (Reg.TXD.MASK_STAT.WORST_ENTRY c) = k ∧
      KeptBut [] [Reg.TXD.MASK_STAT.BAD_TABLE c, Reg.TXD.MASK_STAT.WORST_MARGIN c, Reg.TXD.MASK_STAT.WORST_ENTRY c] s
        (s.maskShown c k num den) := by
  unfold Chip.maskShown Chip.setS
  extract_lets r
  have hround : KeptBut [] [] (s.setFlag (Reg.TXD.MASK_STAT.BAD_TABLE c) false) r.2 := keptBut_roundFree _ _ _
  have hmargin := keptBut_setF r.2 (Reg.TXD.MASK_STAT.WORST_MARGIN c) (unsgn (Reg.TXD.MASK_STAT.WORST_MARGIN c).width r.1)
  have hentry := keptBut_setF (r.2.setF (Reg.TXD.MASK_STAT.WORST_MARGIN c) (unsgn (Reg.TXD.MASK_STAT.WORST_MARGIN c).width r.1))
    (Reg.TXD.MASK_STAT.WORST_ENTRY c) k
  refine ⟨?_, ?_, ?_⟩
  · rw [hentry.flag (by cases c <;> decide) (by simp) (by unfold Apart; cases c <;> decide),
      hmargin.flag (by cases c <;> decide) (by simp) (by unfold Apart; cases c <;> decide),
      hround.flag (by cases c <;> decide) (by simp) (by simp)]
    exact Chip.flag_setFlag_self _ _ _ rfl (by cases c <;> decide)
  · exact (Chip.getF_setF_self _ _ _ (by cases c <;> decide)).trans (Nat.mod_eq_of_lt hk)
  · exact (((keptBut_setF s _ _).mono (by simp) (by simp)).trans (hround.mono (by simp) (by simp))).trans
      ((hmargin.mono (by simp) (by simp)).trans (hentry.mono (by simp) (by simp)))

section
variable {c : Carrier} {s : Chip} (hen : s.flag (Reg.TXD.MASK_CFG.EN c) = true) (hst : s.txState c = 2) (spectrum : List (Nat × Int))
include hen hst

theorem doMaskCheck_badTable (hrises : maskRises (s.maskTable c) = false) :
    doMaskCheck c spectrum s = s.setFlag (Reg.TXD.MASK_STAT.BAD_TABLE c) true := by
  simp [doMaskCheck, hen, hst, hrises]

/-- A negative margin with ACTION mutes the carrier (R55). -/
theorem doMaskCheck_violation (hrises : maskRises (s.maskTable c) = true) {k : Nat} {num : Int} {den : Nat}
    (hworst : worstMargin (s.maskTable c) spectrum = some (k, num, den)) (hneg : num < 0) (hk : k < 16)
    (hpll : (s.txd.get c).pllLol = false) (haction : s.flag (Reg.TXD.MASK_CFG.ACTION c) = true) :
    doMaskCheck c spectrum s = (s.maskViolated c k num den).enterMuted c := by
  obtain ⟨-, -, hkept⟩ := s.maskShown_spec c hk num den
  have hviol : KeptBut [] [Reg.TXD.MASK_STAT.BAD_TABLE c, Reg.TXD.MASK_STAT.WORST_MARGIN c, Reg.TXD.MASK_STAT.WORST_ENTRY c,
      evtBit (Ev.TXD.MASK_VIOL c)] s ((s.maskShown c k num den).raise (Ev.TXD.MASK_VIOL c)) :=
    (hkept.mono (by simp) (by simp)).trans ((keptBut_raise _ _ (by cases c <;> decide)).mono (by simp) (by simp))
  have htxd : (s.maskViolated c k num den).txd = s.txd := by
    rw [Chip.maskViolated, Chip.setFlag_txd, quiet_raise (s.maskShown c k num den), Chip.maskShown_txd]
  have hstate : (s.maskViolated c k num den).txState c = 2 := by
    rw [Chip.maskViolated, Chip.txState_setFlag_ctrl rfl]
    exact (hviol.1 (Reg.TXD.LINE_STAT.STATE c) (by cases c <;> decide) (by simp) (by unfold Apart; cases c <;> decide)).trans hst
  have haction' : ((s.maskShown c k num den).raise (Ev.TXD.MASK_VIOL c)).flag (Reg.TXD.MASK_CFG.ACTION c) = true :=
    (hviol.flag (by cases c <;> decide) (by simp) (by unfold Apart; cases c <;> decide)).trans haction
  have heval : (s.maskViolated c k num den).txEval c = (s.maskViolated c k num den).enterMuted c :=
    Chip.txEval_muted (by rw [htxd]; exact hpll) (by rw [hstate]; decide) (by rw [hstate]; decide)
      (Chip.flag_setFlag_self _ _ _ rfl (by cases c <;> decide))
  unfold doMaskCheck
  dsimp only
  rw [if_neg (by simp [hen, hst]), if_neg (by simp [hrises]), hworst]
  dsimp only
  rw [if_pos hneg]
  exact (if_pos haction').trans heval

end

/-- The carrier muted after a violation of its mask: the report of the check, both events, MUTE and the state (R55, R60). -/
theorem Chip.maskShown_enterMuted_spec (s : Chip) (c : Carrier) {k : Nat} (hk : k < 16) (num : Int) (den : Nat) :
    let t := (s.maskViolated c k num den).enterMuted c
    t.flag (Reg.TXD.MASK_STAT.BAD_TABLE c) = false ∧ t.flag (Reg.TXD.CTRL.MUTE c) = true ∧ t.txState c = 4 ∧
      Recorded (Ev.TXD.MASK_VIOL c) s t ∧ Recorded (Ev.TXD.MUTED c) s t ∧ t.getF (Reg.TXD.MASK_STAT.WORST_ENTRY c) = k := by
  intro t
  have hbit : (Ev.TXD.MASK_VIOL c).bit < 32 := by cases c <;> decide
  obtain ⟨hbad, hentry, hshown⟩ := s.maskShown_spec c hk num den
  have hraise := keptBut_raise (s.maskShown c k num den) (Ev.TXD.MASK_VIOL c) hbit
  obtain ⟨hmute, hstate, hmuted, hkept, -⟩ := ((s.maskShown c k num den).raise (Ev.TXD.MASK_VIOL c)).setFlag_ctrl_enterMuted_spec
    (f := Reg.TXD.CTRL.MUTE c) rfl (by cases c <;> decide) rfl true
  have hlast : KeptBut [] [evtBit (Ev.TXD.MASK_VIOL c), Reg.TXD.CTRL.MUTE c, Reg.TXD.LINE_STAT.STATE c, evtBit (Ev.TXD.MUTED c)]
      (s.maskShown c k num den) t := (hraise.mono (by simp) (by simp)).trans (KeptBut.mono hkept (by simp) (by simp))
  have hviol : Recorded (Ev.TXD.MASK_VIOL c) s ((s.maskShown c k num den).raise (Ev.TXD.MASK_VIOL c)) :=
    .of_kept hshown hbit (by simp) (by unfold Apart; cases c <;> decide) (recorded_raise _ _ hbit)
  refine ⟨?_, hmute, hstate, ?_, ?_, ?_⟩
  · exact (hlast.flag (by cases c <;> decide) (by simp) (by unfold Apart; cases c <;> decide)).trans hbad
  · exact hviol.kept hbit hkept (by simp) (by unfold Apart; cases c <;> decide)
  · exact .of_kept hshown (by cases c <;> decide) (by simp) (by unfold Apart; cases c <;> decide)
      (.of_kept hraise (by cases c <;> decide) (by simp) (by unfold Apart; cases c <;> decide) hmuted)
  · exact (hlast.1 _ (by cases c <;> decide) (by simp) (by unfold Apart; cases c <;> decide)).trans hentry

/-! ## The shared frame generator -/

theorem doCarrierJoin_joins {c : Carrier} {s : Chip} (hjoin : (s.txd.get c).joinPend = true) (hleave : (s.txd.get c).leavePend = false)
    (hst : s.txState c = 2) (hpend : s.flag (Reg.TXD.LINE_STAT.RECONF_PEND c) = false) : doCarrierJoin c s = s.join c := by
  simp [doCarrierJoin, hjoin, hleave, hst, hpend]

theorem doCarrierJoin_leaves {c : Carrier} {s : Chip} (hleave : (s.txd.get c).leavePend = true) (hjoin : (s.txd.get c).joinPend = false) :
    doCarrierJoin c s = (s.modTxd c fun w => { w with joined := false, leavePend := false }).restartGenerator c s.now := by
  simp [doCarrierJoin, hjoin, hleave]

/-- Settles O18: each check and each change of mode is one equation, and what its result reads follows from the laws of its operations. -/
theorem transmitChecksAndModes : Obligations.TransmitChecksAndModes := by
  refine ⟨fun s c => ⟨fun n => answers_of_to rfl (doDacClipWindow_spec c n s.chip), fun spectrum hen hst hrises => answers_of_to rfl ?_,
    fun spectrum k num den hen hst hrises hworst hneg hk hpll haction => answers_of_to rfl ?_⟩,
    fun s c => ⟨fun hmode hboth => answers_of_to rfl ?_, fun hjoin hleave hst hpend => answers_of_to rfl ?_,
      fun hleave hjoin => answers_of_to rfl ?_⟩⟩
  · rw [doMaskCheck_badTable hen hst spectrum hrises]
    exact ⟨Chip.flag_setFlag_self _ _ _ rfl (by cases c <;> decide), keptBut_setF _ _ _, quiet_setF _ _ _⟩
  · rw [doMaskCheck_violation hen hst spectrum hrises hworst hneg hk hpll haction]
    exact s.chip.maskShown_enterMuted_spec c hk num den
  · have hdo : doPhaseOk s.chip = s.chip.setFlag Reg.TOP.CARRIER_STAT.PHASE_OK true := if_pos ⟨hmode, hboth⟩
    rw [hdo]
    exact ⟨Chip.flag_setFlag_self _ _ _ rfl (by decide), keptBut_setF _ _ _, quiet_setF _ _ _⟩
  · rw [doCarrierJoin_joins hjoin hleave hst hpend]
    exact s.chip.join_spec c
  · obtain ⟨-, hjoined, -, hleft, hregs, -⟩ := (s.chip.modTxd c fun w => { w with joined := false, leavePend := false }).restartGenerator_spec
      c s.chip.now
    rw [Chip.get_txd_modTxd] at hjoined hleft
    rw [doCarrierJoin_leaves hleave hjoin]
    exact ⟨hjoined, hleft, hregs⟩

end Sys2Proof.Machine
end

section
/-! SUPPORT. What the judgements that end a step of the line keep of the record: an event that has been recorded on a carrier stays recorded, the
service of the redundant groups stands, and no register outside the line's blocks changes. One law per operation, in the form of the laws for
the rest of the line. -/

namespace Sys2Proof.Machine

/-- EVT_STAT of a block of a carrier (R429). -/
def IsCarrierStat (b : Nat) : Prop := 0x01000000 ≤ b ∧ b < 0x02000000 ∧ b % 0x100000 = 0xF0

/-- A group's service: its fences, its reserve, the units that wait to join, the takeover in progress and signal fail (R83, R84, R498). A self-test
session leaves it (R492). -/
def GrpSt.service (v : GrpSt) : Nat × Option Nat × Nat × Option Nat × Bool := (v.fenced, v.reserve, v.joining, v.takeover, v.sf)

/-- From one chip to the next the carriers' recorded events stay recorded, and where `g` holds the groups' service stands. -/
structure Chip.RecordKept (g : Prop) (s t : Chip) : Prop where
  stat : ∀ b, IsCarrierStat b → ∀ i, (s.rd b).getLsbD i = true → (t.rd b).getLsbD i = true
  service : g → ∀ c k, (t.grpOf c k).service = (s.grpOf c k).service

theorem carrier_base_eq (c : Carrier) : c.base = 0x800000 * c.ix := by cases c <;> rfl

theorem carrier_ix_le (c : Carrier) : c.ix ≤ 1 := by cases c <;> decide

section
variable {g : Prop} {s₀ s : Chip}

theorem Chip.RecordKept.refl (s : Chip) : Chip.RecordKept g s s := ⟨fun _ _ _ h => h, fun _ _ _ => rfl⟩

theorem Chip.RecordKept.trans {t : Chip} (h : Chip.RecordKept g s₀ s) (k : Chip.RecordKept g s t) : Chip.RecordKept g s₀ t :=
  ⟨fun b hb i hi => k.stat b hb i (h.stat b hb i hi), fun hg c j => (k.service hg c j).trans (h.service hg c j)⟩

/-! The steps of every law: updates of a register other than a carrier's EVT_STAT, occurrences of events, updates of a group that leave its service
or of other hidden state, and the forms a definition is built from. -/

theorem Chip.RecordKept.wr (h : Chip.RecordKept g s₀ s) {b w} (hb : ¬ IsCarrierStat b) : Chip.RecordKept g s₀ (s.wr b w) :=
  ⟨fun d hd i hi => by
    have hne : d ≠ b := by
      rintro rfl
      exact hb hd
    rw [Chip.rd_wr_ne s w hne]
    exact h.stat d hd i hi, h.service⟩

theorem Chip.RecordKept.setF (h : Chip.RecordKept g s₀ s) {f v} (hf : ¬ IsCarrierStat f.addr) : Chip.RecordKept g s₀ (s.setF f v) := h.wr hf

theorem not_isCarrierStat_trail (c : Carrier) {n : Nat} (t : Nat) (hn : n % 0x1000 ≠ 0xF0) : ¬ IsCarrierStat (c.base + n + 0x1000 * t) := by
  unfold IsCarrierStat
  rw [carrier_base_eq c]
  omega

theorem not_isCarrierStat_own (c : Carrier) {n : Nat} (hn : n % 0x100000 ≠ 0xF0) : ¬ IsCarrierStat (c.base + n) := by
  unfold IsCarrierStat
  rw [carrier_base_eq c]
  omega

theorem not_isCarrierStat_below {b : Nat} (hb : b < 0x01000000) : ¬ IsCarrierStat b := fun h => absurd h.1 (Nat.not_le.mpr hb)

theorem not_isCarrierStat_above {b : Nat} (hb : 0x02000000 ≤ b) : ¬ IsCarrierStat b := fun h => absurd h.2.1 (Nat.not_lt.mpr hb)

theorem Chip.RecordKept.setTrail (h : Chip.RecordKept g s₀ s) {c : Carrier} {n t lo width v : Nat}
    (hn : n % 0x1000 ≠ 0xF0 := by decide) : Chip.RecordKept g s₀ (s.setF ⟨c.base + n + 0x1000 * t, lo, width⟩ v) :=
  h.setF (not_isCarrierStat_trail c t hn)
theorem Chip.RecordKept.setOwn (h : Chip.RecordKept g s₀ s) {c : Carrier} {n lo width v : Nat} (hn : n % 0x100000 ≠ 0xF0 := by decide) :
    Chip.RecordKept g s₀ (s.setF ⟨c.base + n, lo, width⟩ v) := h.setF (not_isCarrierStat_own c hn)
theorem not_isCarrierStat_unit (c : Carrier) {n k : Nat} (hk : k < 3) (hn : n < 0x00F00000) : ¬ IsCarrierStat (n + 192 * c.ix + 64 * k) := by
  have := carrier_ix_le c
  exact not_isCarrierStat_below (by omega)
theorem Chip.RecordKept.setUnit (h : Chip.RecordKept g s₀ s) {c : Carrier} {n k lo width v : Nat} (hk : k < 3) (hn : n < 0x00F00000 := by decide) :
    Chip.RecordKept g s₀ (s.setF ⟨n + 192 * c.ix + 64 * k, lo, width⟩ v) := h.setF (not_isCarrierStat_unit c hk hn)
theorem Chip.RecordKept.setBelow (h : Chip.RecordKept g s₀ s) {n lo width v : Nat} (hn : n < 0x01000000 := by decide) :
    Chip.RecordKept g s₀ (s.setF ⟨n, lo, width⟩ v) := h.setF (not_isCarrierStat_below hn)
theorem Chip.RecordKept.setAbove (h : Chip.RecordKept g s₀ s) {n k lo width v : Nat} (hn : 0x02000000 ≤ n := by decide) :
    Chip.RecordKept g s₀ (s.setF ⟨n + k, lo, width⟩ v) := h.setF (not_isCarrierStat_above (Nat.le_add_right_of_le hn))

theorem Chip.RecordKept.ite {c : Prop} {_ : Decidable c} {t : Chip} (h : Chip.RecordKept g s₀ s) (h' : Chip.RecordKept g s₀ t) :
    Chip.RecordKept g s₀ (if c then s else t) := by
  split <;> assumption

theorem Chip.RecordKept.foldl {α : Type} {f : Chip → α → Chip} {l : List α} (h : Chip.RecordKept g s₀ s)
    (hf : ∀ u, ∀ x ∈ l, Chip.RecordKept g s₀ u → Chip.RecordKept g s₀ (f u x)) : Chip.RecordKept g s₀ (l.foldl f s) := by
  induction l generalizing s with
  | nil => exact h
  | cons x l ih => exact ih (hf s x (by simp) h) fun u y hy => hf u y (by simp [hy])

/-- An update of fields that hold no register and no group. -/
theorem Chip.RecordKept.same {ac li fi n fu t c x rc fe su fr pm de ws ti pg lo le se ev ts po bo mg pc mo la re} (h : Chip.RecordKept g s₀ s) :
    Chip.RecordKept g s₀ ⟨s.regs, ac, li, fi, n, fu, t, c, x, rc, fe, su, fr, pm, de, ws, ti, s.grp, pg, lo, le, se, ev, ts, po, bo, mg, pc, mo,
      la, re⟩ := ⟨h.stat, h.service⟩

theorem Chip.RecordKept.raise (h : Chip.RecordKept g s₀ s) {e} : Chip.RecordKept g s₀ (s.raise e) := by
  refine ⟨fun b hb i hi => ?_, fun hg c k => ?_⟩
  · have hs := h.stat b hb i hi
    rw [Chip.rd_raise]
    split
    · next hc => rw [BitVec.getLsbD_or, ← hc.2, hs, Bool.true_or]
    · exact hs
  · rw [quiet_raise s e]
    exact h.service hg c k

theorem Chip.RecordKept.setLive (h : Chip.RecordKept g s₀ s) {e b} : Chip.RecordKept g s₀ (s.setLive e b) := h.same
theorem Chip.RecordKept.assert (h : Chip.RecordKept g s₀ s) {e} : Chip.RecordKept g s₀ (s.assert e) := h.setLive.raise

/-- A group's store entry read after one is written. -/
theorem Chip.grpOf_setGrp (s : Chip) (c d : Carrier) (k j : Nat) (v : GrpSt) :
    (s.setGrp c k v).grpOf d j = if 3 * d.ix + j = 3 * c.ix + k then v else s.grpOf d j := Store.get_set _ _ _ _ _

theorem Chip.grpOf_setGrp_self (s : Chip) (c : Carrier) (k : Nat) (v : GrpSt) : (s.setGrp c k v).grpOf c k = v :=
  (s.grpOf_setGrp c c k k v).trans (if_pos rfl)

theorem Chip.grpOf_congr {t : Chip} (h : t.grp = s.grp) (c : Carrier) (k : Nat) : t.grpOf c k = s.grpOf c k := by
  rw [Chip.grpOf, h, Chip.grpOf]

/-- An update of a group that leaves its service. -/
theorem Chip.RecordKept.setGrp (h : Chip.RecordKept g s₀ s) {c k v} (hv : v.service = (s.grpOf c k).service := by rfl) :
    Chip.RecordKept g s₀ (s.setGrp c k v) := by
  refine ⟨h.stat, fun hg d j => ?_⟩
  rw [Chip.grpOf_setGrp, ← h.service hg]
  split
  · next hi => rw [hv, Chip.grpOf, ← hi, Chip.grpOf]
  · rfl

/-- An update of a group whatever its service. -/
theorem Chip.RecordKept.putGrp (h : Chip.RecordKept False s₀ s) {c k v} : Chip.RecordKept False s₀ (s.setGrp c k v) := ⟨h.stat, False.elim⟩

/-! One law per operation, in the order of the definitions. -/

theorem Chip.RecordKept.free (h : Chip.RecordKept g s₀ s) : Chip.RecordKept g s₀ s.free.2 := h.same
theorem Chip.RecordKept.noteReserve (h : Chip.RecordKept g s₀ s) {c k had} : Chip.RecordKept g s₀ (s.noteReserve c k had) :=
  .ite (.ite h.assert h.setLive) h.setLive
theorem Chip.RecordKept.setGrpSf (h : Chip.RecordKept False s₀ s) {c k b} : Chip.RecordKept False s₀ (s.setGrpSf c k b) := by
  dsimp only [Chip.setGrpSf]
  split
  exacts [h.putGrp, .ite h.putGrp.assert h.putGrp.setLive]
theorem Chip.RecordKept.sessionResult (h : Chip.RecordKept g s₀ s) {c k u result patterns misr} (hk : k < 3) :
    Chip.RecordKept g s₀ (s.sessionResult c k u result patterns misr) :=
  ((((((h.setUnit hk).setUnit hk).setUnit hk).setUnit hk).setUnit hk).wr (not_isCarrierStat_unit c hk (by decide))).wr
    (not_isCarrierStat_below (by have := carrier_ix_le c; unfold Reg.TST.SIG_LAST_LO.addr; omega))
theorem Chip.RecordKept.sessionIncomplete (h : Chip.RecordKept g s₀ s) {c k patterns misr} (hk : k < 3) :
    Chip.RecordKept g s₀ (s.sessionIncomplete c k patterns misr) := by
  dsimp only [Chip.sessionIncomplete]
  split
  · exact h
  · next u _ =>
    have h1 : Chip.RecordKept g s₀ ((((s.setGrp c k { s.grpOf c k with session := none, retesting := false }).sessionResult c k u 3 patterns
        misr).bump (Reg.TST.INC_CNT.COUNT c.ix k)).raise Ev.TST.BIST_INCOMPLETE) := ((h.setGrp.sessionResult hk).setUnit hk).raise
    exact .ite ((h1.setUnit hk).setUnit hk) h1.setGrp
theorem Chip.RecordKept.abandonSession (h : Chip.RecordKept g s₀ s) {c k} (hk : k < 3) : Chip.RecordKept g s₀ (s.abandonSession c k) :=
  .ite h (h.free.free.sessionIncomplete hk)
theorem Chip.RecordKept.takeOver (h : Chip.RecordKept False s₀ s) {c k u} (hk : k < 3) : Chip.RecordKept False s₀ (s.takeOver c k u) := by
  dsimp only [Chip.takeOver]
  split
  exacts [.noteReserve (.putGrp (.ite (h.abandonSession hk) h)), .setGrpSf (.noteReserve (.putGrp (.ite (h.abandonSession hk) h)))]
theorem Chip.RecordKept.stepNeed (h : Chip.RecordKept g s₀ s) {c byStep} : Chip.RecordKept g s₀ (s.stepNeed c byStep) :=
  .ite h.setBelow.setBelow.raise (.ite h.setBelow.setBelow.raise h.setBelow.setBelow)
theorem Chip.RecordKept.raiseFrm (h : Chip.RecordKept g s₀ s) {c t e} : Chip.RecordKept g s₀ (s.raiseFrm c t e) := h.raise.setOwn
theorem Chip.RecordKept.trailSettle (h : Chip.RecordKept g s₀ s) {c t} : Chip.RecordKept g s₀ (s.trailSettle c t) := by
  unfold Chip.trailSettle
  extract_lets raw stat old s1 rise fall s2 f f1 f2 s3 s4
  have h1 : Chip.RecordKept g s₀ s1 := h.setTrail.setTrail
  have h2 : Chip.RecordKept g s₀ s2 := .ite h1 h1.setTrail.raiseFrm
  have h3 : Chip.RecordKept g s₀ s3 := .ite h2 h2.setTrail.raiseFrm
  have h4 : Chip.RecordKept g s₀ s4 := .ite h3 h3.same
  exact h4.same
theorem Chip.RecordKept.setPg (h : Chip.RecordKept g s₀ s) {p v} : Chip.RecordKept g s₀ (s.setPg p v) := h.same
theorem Chip.RecordKept.raisePg (h : Chip.RecordKept g s₀ s) {p e} : Chip.RecordKept g s₀ (s.raisePg p e) :=
  h.raise.setF (not_isCarrierStat_above (by decide))
theorem Chip.RecordKept.setCond (h : Chip.RecordKept g s₀ s) {p new} : Chip.RecordKept g s₀ (s.setCond p new) := by
  unfold Chip.setCond
  extract_lets old d s1 s2 s3
  have h2 : Chip.RecordKept g s₀ s2 := .ite h.setAbove.raisePg h.setAbove
  have h3 : Chip.RecordKept g s₀ s3 := .ite h2.raisePg h2
  exact .ite h (.ite h3.setPg.raisePg h3)
theorem Chip.RecordKept.pgConditions (h : Chip.RecordKept g s₀ s) {p} : Chip.RecordKept g s₀ (s.pgConditions p) := h.setPg.setCond
theorem Chip.RecordKept.pgRequests (h : Chip.RecordKept g s₀ s) {p} : Chip.RecordKept g s₀ (s.pgRequests p) := h.setPg.setAbove
theorem Chip.RecordKept.fopClear (h : Chip.RecordKept g s₀ s) {p} : Chip.RecordKept g s₀ (s.fopClear p) :=
  .ite (.raisePg (.setAbove (.ite h.setAbove.raisePg h))) (.ite h.setAbove.raisePg h)
theorem Chip.RecordKept.pgAlign (h : Chip.RecordKept g s₀ s) {p} : Chip.RecordKept g s₀ (s.pgAlign p) := .ite h.setAbove.setPg h
theorem Chip.RecordKept.pgSettle (h : Chip.RecordKept g s₀ s) {p} : Chip.RecordKept g s₀ (s.pgSettle p) :=
  h.pgAlign.pgConditions.pgRequests.fopClear
theorem Chip.RecordKept.startSession (h : Chip.RecordKept g s₀ s) {c k u retest} (hk : k < 3) :
    Chip.RecordKept g s₀ (s.startSession c k u retest) := (h.setGrp.setUnit hk).setUnit hk
theorem Chip.RecordKept.sweepGroup (h : Chip.RecordKept g s₀ s) {c k} (hk : k < 3) : Chip.RecordKept g s₀ (s.sweepGroup c k) := by
  refine .ite h (.ite h.setGrp (.ite h ?_))
  split
  exacts [.ite h h.setBelow.setGrp, .ite h.setBelow.setGrp (.ite h (h.startSession hk))]
theorem Chip.RecordKept.bistGroup (h : Chip.RecordKept g s₀ s) {c k} (hk : k < 3) : Chip.RecordKept g s₀ (s.bistGroup c k) := by
  unfold Chip.bistGroup
  extract_lets v s1 s2 w
  have h1 : Chip.RecordKept g s₀ s1 := by
    unfold s1
    split
    exacts [.ite h (h.startSession hk), h]
  have h2 : Chip.RecordKept g s₀ s2 := (h1.sweepGroup hk).sweepGroup hk
  split
  exacts [.ite (h2.startSession hk) h2, h2]
theorem Chip.RecordKept.bistSettle (h : Chip.RecordKept g s₀ s) : Chip.RecordKept g s₀ s.bistSettle := by
  have hgroups : ∀ p ∈ allGroups, p.2 < 3 := by decide
  have h1 : Chip.RecordKept g s₀ (allGroups.foldl (fun u p => u.bistGroup p.1 p.2) s) := h.foldl fun _ p hp hu => hu.bistGroup (hgroups p hp)
  exact .ite h1.setBelow.setBelow.raise h1
theorem Chip.RecordKept.newMsg (h : Chip.RecordKept g s₀ s) {type bcast dst payload} :
    Chip.RecordKept g s₀ ((s.newMsg type bcast dst payload).2) := h.same
theorem Chip.RecordKept.sendOn (h : Chip.RecordKept g s₀ s) {p cls m} : Chip.RecordKept g s₀ (s.sendOn p cls m) := .ite h.same h
theorem Chip.RecordKept.subcSettle (h : Chip.RecordKept g s₀ s) {c} : Chip.RecordKept g s₀ (s.subcSettle c) := .ite h h.setOwn.raise
theorem Chip.RecordKept.stepShadow (h : Chip.RecordKept g s₀ s) {c code up} : Chip.RecordKept g s₀ (s.stepShadow c code up) :=
  .ite h.setOwn (.ite h.setOwn h.setOwn)
theorem Chip.RecordKept.stepNotice (h : Chip.RecordKept g s₀ s) {c} : Chip.RecordKept g s₀ (s.stepNotice c) := by
  unfold Chip.stepNotice
  dsimp only
  refine .ite h.same (.ite h (.ite h ?_))
  split
  · exact .sendOn (.newMsg (.same (.ite h.stepShadow.stepShadow h.stepShadow)))
  · exact .same (.ite h.stepShadow.stepShadow h.stepShadow)
theorem Chip.RecordKept.settle (h : Chip.RecordKept g s₀ s) : Chip.RecordKept g s₀ s.settle :=
  .stepNotice (.stepNotice (.bistSettle (h.subcSettle.subcSettle.foldl fun _ _ _ hu => hu.pgSettle)))
theorem Chip.RecordKept.setRcv (h : Chip.RecordKept g s₀ s) {x v} : Chip.RecordKept g s₀ (s.setRcv x v) := h.same
theorem Chip.RecordKept.raiseCar (h : Chip.RecordKept g s₀ s) {x e} : Chip.RecordKept g s₀ (s.raiseCar x e) := by
  cases x with
  | car c => exact h.raise
  | sub c q => exact h
theorem Chip.RecordKept.emptyWindow (h : Chip.RecordKept g s₀ s) {x} : Chip.RecordKept g s₀ (s.emptyWindow x) := by
  cases x with
  | car c => exact h.setRcv.setLive
  | sub c q => exact h.setRcv
theorem Chip.RecordKept.setCwLock (h : Chip.RecordKept g s₀ s) {x b} : Chip.RecordKept g s₀ (s.setCwLock x b) := .ite h h.setRcv.raiseCar
theorem Chip.RecordKept.dropCwLock (h : Chip.RecordKept g s₀ s) {x} : Chip.RecordKept g s₀ (s.dropCwLock x) := .ite h.setCwLock.emptyWindow h
theorem Chip.RecordKept.setLock (h : Chip.RecordKept g s₀ s) {x f b} : Chip.RecordKept g s₀ (s.setLock x f b) := .ite h h.setRcv.raiseCar
theorem Chip.RecordKept.rcvEnd_car (h : Chip.RecordKept g s₀ s) {c : Carrier} : Chip.RecordKept g s₀ (s.rcvEnd (.car c)) :=
  h.trailSettle.settle
end

/-- What comes after a carrier's event is recorded leaves it recorded. -/
theorem Recorded.recordKept {g : Prop} {e : Ev} {s t u : Chip} (h : Recorded e s t) (k : Chip.RecordKept g t u)
    (he : IsCarrierStat (e.base + 0xF0)) : Recorded e s u := fun hs => k.stat _ he _ (h hs)

/-! ## Takeovers and the rest of the line -/

section
variable {r a : Prop} {s₀ s : Chip}

theorem Chip.LineKept.takeOver (h : Chip.LineKept r a s₀ s) {c g u} (hg : g < 3) : Chip.LineKept r a s₀ (s.takeOver c g u) := by
  dsimp only [Chip.takeOver]
  split
  exacts [.noteReserve (.setGrp (.ite (h.abandonSession hg) h)), .setGrpSf (.noteReserve (.setGrp (.ite (h.abandonSession hg) h)))]
theorem Chip.LineKept.exchange (h : Chip.LineKept r a s₀ s) {c g} : Chip.LineKept r a s₀ (s.exchange c g) := by
  dsimp only [Chip.exchange]
  split
  · exact .ite (by split; exacts [h.setGrp, h.setGrp]) h.setGrp
  · exact h.setGrp
  · exact .ite (by split; exacts [h.setGrp.setGrp.noteReserve, h.setGrp]) h.setGrp
theorem Chip.LineKept.setFec (h : Chip.LineKept r a s₀ s) {c v} : Chip.LineKept r a s₀ (s.setFec c v) := h.same
end

/-! ## The frame of the line -/

theorem LineReg.block_mem {b : Nat} (h : LineReg b) : b / 0x100000 ∈ lineBlocks := by
  have hmem : ∀ n, n ∈ lineBlocks ↔ n = 0x05 ∨ n = 0x07 ∨ n = 0x0A ∨ n = 0x23 ∨ n = 0x24 ∨ 16 ≤ n ∧ n < 32 := by
    intro n
    simp only [lineBlocks, List.mem_append, List.mem_cons, List.mem_map, List.mem_range, List.not_mem_nil, or_false]
    constructor
    · rintro (h | ⟨k, hk, rfl⟩) <;> omega
    · rintro (h | h | h | h | h | h)
      iterate 5 exact .inl (by omega)
      exact .inr ⟨n - 16, by omega, by omega⟩
  rw [hmem]
  cases h with
  | trail c ht hn | event c hn =>
    have := carrier_base_eq c
    have := carrier_ix_le c
    omega
  | own c hn =>
    have := carrier_base_eq c
    have := carrier_ix_le c
    simp only [List.mem_cons, List.not_mem_nil, or_false] at hn
    omega
  | unit c hg hn | unitHi c hg hn | bound c hg hn =>
    have := carrier_ix_le c
    omega
  | entry hk hn | group hk hn => omega
  | single hn =>
    simp only [List.mem_cons, List.not_mem_nil, or_false] at hn
    omega

theorem LineFrame.refl (s : Chip) : LineFrame s s := ⟨.refl _ _ s, .refl s⟩

theorem LineFrame.trans {s t u : Chip} (h : LineFrame s t) (k : LineFrame t u) : LineFrame s u := ⟨h.1.trans k.1, h.2.trans k.2⟩

theorem Chip.LineKept.lineFrame {r : Prop} {s t : Chip} (h : Chip.LineKept r True s t) : LineFrame s t :=
  ⟨⟨fun _ _ hb _ => Chip.getF_congr (h.rd _ fun hl => hb hl.block_mem), h.act trivial⟩, h.elsewhere⟩

theorem LineFrame.setF {s t : Chip} (h : LineFrame s t) {f v} (hf : f.addr / 0x100000 ∈ lineBlocks) : LineFrame s (t.setF f v) :=
  ⟨h.1.setF hf, h.2.setF⟩

theorem LineFrame.raise {s t : Chip} (h : LineFrame s t) {e} (he : (e.base + 0xF0) / 0x100000 ∈ lineBlocks) : LineFrame s (t.raise e) :=
  ⟨h.1.raise he, h.2.trans (quiet_raise t e).elsewhere⟩

theorem LineFrame.setRcv {s t : Chip} (h : LineFrame s t) {x v} : LineFrame s (t.setRcv x v) := h

end Sys2Proof.Machine
end

section
/-! SUPPORT. The redundant groups: a unit that fails, what ends a takeover and signal fail, and an exchange (R83, R84, R135, R136, R495, R498). -/

namespace Sys2Proof.Machine

/-! ## A group's fields -/

theorem Chip.grp_raise (s : Chip) (e : Ev) : (s.raise e).grp = s.grp := by rw [quiet_raise s e]

theorem Chip.grp_noteReserve (s : Chip) (c : Carrier) (g : Nat) (had : Bool) : (s.noteReserve c g had).grp = s.grp := by
  unfold Chip.noteReserve
  dsimp only
  split
  · split
    · exact Chip.grp_raise _ _
    · rfl
  · rfl

theorem Chip.grpOf_setGrpSf (s : Chip) (c : Carrier) (g : Nat) (b : Bool) :
    (s.setGrpSf c g b).grpOf c g = { s.grpOf c g with sf := b } := by
  unfold Chip.setGrpSf
  dsimp only
  split
  · exact s.grpOf_setGrp_self _ _ _
  · split
    · exact (Chip.grpOf_congr (Chip.grp_raise _ _) _ _).trans (s.grpOf_setGrp_self _ _ _)
    · exact s.grpOf_setGrp_self _ _ _

/-- What a group's service consists of. -/
theorem GrpSt.service_eq_iff {v w : GrpSt} : v.service = w.service ↔
    v.fenced = w.fenced ∧ v.reserve = w.reserve ∧ v.joining = w.joining ∧ v.takeover = w.takeover ∧ v.sf = w.sf := by
  simp [GrpSt.service]

theorem testBit_or_two_pow_self (x u : Nat) : (x ||| 2 ^ u).testBit u = true := by
  rw [Nat.testBit_or, Nat.testBit_two_pow_self, Bool.or_true]

/-! ## A unit that fails -/

/-- What the fault of a unit in service makes of its group: the unit fenced, no reserve left, and the takeover or signal fail (R83, R84). -/
def GrpSt.TakenOver (v w : GrpSt) (u : Nat) : Prop :=
  w.fenced.testBit u = true ∧ w.reserve = none ∧ (∀ k, v.reserve = some k → w.takeover = some k) ∧ (v.reserve = none → w.sf = true)

theorem GrpSt.TakenOver.of_service {v w x : GrpSt} {u : Nat} (h : GrpSt.TakenOver v w u) (hs : x.service = w.service) : GrpSt.TakenOver v x u := by
  obtain ⟨hf, hr, -, ht, hsf⟩ := GrpSt.service_eq_iff.mp hs
  unfold GrpSt.TakenOver
  rw [hf, hr, ht, hsf]
  exact h

theorem Chip.takeOver_takenOver (s : Chip) (c : Carrier) {g : Nat} (hg : g < 3) (u : Nat) :
    GrpSt.TakenOver (s.grpOf c g) ((s.takeOver c g u).grpOf c g) u := by
  unfold Chip.takeOver
  extract_lets v s1 v1 v2 v3
  have h1 : Chip.RecordKept True s s1 := .ite ((Chip.RecordKept.refl s).abandonSession hg) (.refl s)
  obtain ⟨-, hreserve, -⟩ := GrpSt.service_eq_iff.mp (h1.service trivial c g)
  split
  · next r hr =>
    rw [Chip.grpOf_congr (Chip.grp_noteReserve _ _ _ _), Chip.grpOf_setGrp_self]
    exact ⟨testBit_or_two_pow_self _ _, rfl, fun k hk => hr.symm.trans hk, fun hn => absurd (hr.symm.trans hn) (by simp)⟩
  · next hr =>
    rw [Chip.grpOf_setGrpSf, Chip.grpOf_congr (Chip.grp_noteReserve _ _ _ _), Chip.grpOf_setGrp_self]
    exact ⟨testBit_or_two_pow_self _ _, hreserve.trans hr, fun k hk => absurd (hr.symm.trans hk) (by simp), fun _ => rfl⟩

/-- The fault of a unit in service, with the counter and the event of its block (R83, R135). -/
def Chip.unitFails (s : Chip) (c : Carrier) (g u : Nat) (cnt : Fld) (e : Ev) : Chip := ((s.bumpSat cnt).raise e).takeOver c g u

theorem carrier_block_mem (c : Carrier) {b : Nat} (hb : c.base + 0x01000000 ≤ b ∧ b < c.base + 0x01800000) : b / 0x100000 ∈ lineBlocks := by
  have hmem : ∀ k, 16 ≤ k → k < 32 → k ∈ lineBlocks := by decide
  have hbase := carrier_base_eq c
  have hix := carrier_ix_le c
  exact hmem _ (by omega) (by omega)

theorem isCarrierStat_of_block (c : Carrier) {n : Nat} (hn : 0x01000000 ≤ n ∧ n < 0x01800000 ∧ n % 0x100000 = 0) :
    IsCarrierStat (c.base + n + 0xF0) := by
  have hbase := carrier_base_eq c
  have hix := carrier_ix_le c
  unfold IsCarrierStat
  omega

/-- A fault, and what follows it in the same step: the group, the event and the frame of the line. The counter and the event stand in one block of the
carrier. -/
theorem Chip.unitFails_spec (s : Chip) {c : Carrier} {g : Nat} (hg : g < 3) (u : Nat) {cnt : Fld} {e : Ev} {n : Nat} (he : e.base = c.base + n)
    (hn : 0x01000000 ≤ n ∧ n < 0x01800000 ∧ n % 0x100000 = 0) (hbit : e.bit < 32) (hcnt : c.base + n < cnt.addr ∧ cnt.addr < c.base + n + 0xF0)
    {t : Chip} (ht : Chip.LineKept True True (s.unitFails c g u cnt e) t) (ht' : Chip.RecordKept True (s.unitFails c g u cnt e) t) :
    GrpSt.TakenOver (s.grpOf c g) (t.grpOf c g) u ∧ Recorded e s t ∧ LineFrame s t := by
  have hstat : IsCarrierStat (e.base + 0xF0) := by
    rw [he]
    exact isCarrierStat_of_block c hn
  have hgrp : ((s.bumpSat cnt).raise e).grpOf c g = s.grpOf c g := Chip.grpOf_congr ((Chip.grp_raise _ _).trans (s.setF_grp _ _)) c g
  have htaken := ((s.bumpSat cnt).raise e).takeOver_takenOver c hg u
  rw [hgrp] at htaken
  have hrec : Recorded e s ((s.bumpSat cnt).raise e) := .of_sticky (Chip.rd_setF_ne _ _ _ (by omega)) (recorded_raise _ _ hbit)
  have hframe : LineFrame s ((s.bumpSat cnt).raise e) :=
    ((LineFrame.refl s).setF (carrier_block_mem c (by omega))).raise (carrier_block_mem c (by omega))
  refine ⟨htaken.of_service (ht'.service trivial c g), ?_, ?_⟩
  · exact (hrec.recordKept ((Chip.RecordKept.refl _).takeOver hg) hstat).recordKept ht' hstat
  · exact hframe.trans ((Chip.LineKept.lineFrame (r := True) ((Chip.LineKept.refl _).takeOver hg)).trans ht.lineFrame)

theorem doEngFault_inService {s : Chip} {c : Carrier} {e : Fin 9} (h : (s.grpOf c 0).inService e.val = true) :
    doEngFault c [e] s = ((s.unitFails c 0 e.val (Reg.RXD.ENG_STAT.BLOCK_ERR c e.val) (Ev.RXD.ENG_FAULT c)).stepNeed c false).settle := by
  unfold doEngFault
  dsimp only
  rw [List.foldl_cons, List.foldl_nil, if_pos h]
  rfl

/-- One slice in the order of the slices. -/
theorem filter_finRange_contains_singleton {n : Nat} (k : Fin n) : (List.finRange n).filter (fun x => [k].contains x) = [k] := by
  have h : (List.finRange n).filter (fun x => [k].contains x) = (List.finRange n).filter (· == k) :=
    List.filter_congr fun x _ => by rw [List.contains_cons, List.contains_nil, Bool.or_false]
  rw [h, List.filter_beq, List.count_eq_one_of_mem (List.nodup_finRange n) (List.mem_finRange k), List.replicate_one]

theorem doSliceFault_inService {s : Chip} {c : Carrier} {k : Fin 14} (h : (s.grpOf c 1).inService k.val = true) :
    ∃ v, doSliceFault c [k] s =
      (((s.unitFails c 1 k.val (Reg.FEC.SLICE_STAT.FAULTS c k.val) (Ev.FEC.SLICE_FAULT c)).setFec c v).stepNeed c false).settle := by
  unfold doSliceFault
  dsimp only
  rw [filter_finRange_contains_singleton, List.foldl_cons, List.foldl_nil, if_pos h]
  exact ⟨_, rfl⟩

/-! ## What ends a takeover and signal fail, and an exchange -/

/-- The end of a takeover with its event (R83, R135). -/
theorem Chip.takeoverEnd_spec (s : Chip) (c : Carrier) (g : Nat) {e : Ev} (he : e.bit < 32) :
    let t := (s.setGrp c g { s.grpOf c g with takeover := none }).raise e
    (t.grpOf c g).takeover = none ∧ Recorded e s t ∧ Kept [evtBit e] s t := by
  intro t
  refine ⟨?_, recorded_raise (s.setGrp c g _) e he, keptBut_raise (s.setGrp c g _) e he⟩
  rw [Chip.grpOf_congr (Chip.grp_raise _ _), Chip.grpOf_setGrp_self]

/-- Signal fail of a group that ends, with the judgements after it (R84, R136). -/
theorem Chip.sfRecheck_settle_spec {s : Chip} {c : Carrier} {g : Nat} (hsf : (s.grpOf c g).sf = true)
    (hcarry : (s.lineApplied c).carries g ((s.grpOf c g).healthy g) = true) :
    (((s.sfRecheck c g).settle).grpOf c g).sf = false ∧ LineFrame s (s.sfRecheck c g).settle := by
  have hdo : s.sfRecheck c g = s.setGrpSf c g false := if_pos (by simp [hsf, hcarry])
  obtain ⟨-, -, -, -, hkept⟩ := GrpSt.service_eq_iff.mp
    ((Chip.RecordKept.refl (g := True) (s.sfRecheck c g)).settle.service trivial c g)
  refine ⟨?_, Chip.LineKept.lineFrame (r := True) (Chip.LineKept.refl s).sfRecheck.settle⟩
  rw [hkept, hdo, Chip.grpOf_setGrpSf]

/-- An exchange: the unit that passed its session leaves the reserve to the next one in service (R495, R498). -/
theorem Chip.grpOf_exchange_passed {s : Chip} {c : Carrier} {g u w : Nat} (hpassed : (s.grpOf c g).passed = some u)
    (hreserve : (s.grpOf c g).reserve = some u)
    (hnext : Grp.nextUnit g u (fun x => GrpSt.inService { s.grpOf c g with joining := 0 } x) = some w) :
    (s.exchange c g).grpOf c g = { s.grpOf c g with joining := 0, reserve := some w, passed := none } := by
  unfold Chip.exchange
  dsimp only
  rw [hpassed, hreserve]
  dsimp only
  dsimp only at hnext
  rw [hreserve, hpassed] at hnext
  rw [if_pos rfl, hnext]
  exact Chip.grpOf_setGrp_self _ _ _ _

/-- Settles O20: a fault, the end of a takeover or of signal fail and an exchange each say what becomes of the group, and what the same step judges
after them leaves the group's service, the events recorded and the frame of the line. -/
theorem receiverUnits : Obligations.ReceiverUnits := by
  refine ⟨fun s c => ⟨fun e hin => answers_of_to rfl ?_, fun k hin => answers_of_to rfl ?_⟩,
    fun s c => ⟨fun htake => answers_of_to rfl ?_, fun htake => answers_of_to rfl ?_, fun hsf hcarry => answers_of_to rfl ?_,
      fun hsf hcarry => answers_of_to rfl ?_, fun g u w hheld hpassed hreserve hnext => answers_of_to rfl ?_⟩⟩
  · rw [doEngFault_inService hin]
    obtain ⟨⟨hfenced, hreserve, htake, hsf⟩, hrec, hframe⟩ := s.chip.unitFails_spec (g := 0) (by decide) e.val
      (cnt := Reg.RXD.ENG_STAT.BLOCK_ERR c e.val) (e := Ev.RXD.ENG_FAULT c) (n := 0x01100000) rfl (by decide) (by cases c <;> decide)
      (by dsimp only [Reg.RXD.ENG_STAT.BLOCK_ERR, Reg.RXD.ENG_STAT.addr]; omega)
      (Chip.LineKept.refl _).stepNeed.settle (Chip.RecordKept.refl _).stepNeed.settle
    exact ⟨hfenced, hreserve, htake, hsf, hrec, hframe⟩
  · obtain ⟨v, hdo⟩ := doSliceFault_inService hin
    rw [hdo]
    obtain ⟨⟨hfenced, hreserve, htake, hsf⟩, hrec, hframe⟩ := s.chip.unitFails_spec (g := 1) (by decide) k.val
      (cnt := Reg.FEC.SLICE_STAT.FAULTS c k.val) (e := Ev.FEC.SLICE_FAULT c) (n := 0x01300000) rfl (by decide) (by cases c <;> decide)
      (by dsimp only [Reg.FEC.SLICE_STAT.FAULTS, Reg.FEC.SLICE_STAT.addr]; omega)
      (Chip.LineKept.refl _).setFec.stepNeed.settle (Chip.RecordKept.refl _).same.stepNeed.settle
    exact ⟨hfenced, hreserve, htake, hsf, hrec, hframe⟩
  · have hdo : doEngTakeover c s.chip = _ := if_pos htake
    rw [hdo]
    exact s.chip.takeoverEnd_spec c 0 (by cases c <;> decide)
  · have hdo : doSliceTakeover c s.chip = _ := if_pos htake
    rw [hdo]
    exact s.chip.takeoverEnd_spec c 1 (by cases c <;> decide)
  · exact Chip.sfRecheck_settle_spec hsf hcarry
  · exact Chip.sfRecheck_settle_spec hsf hcarry
  · have hdo : doRotationExchange c g s.chip = ((s.chip.exchange c g.val).stepNeed c false).settle := if_neg (by rw [hheld]; decide)
    obtain ⟨-, hkept, -⟩ := GrpSt.service_eq_iff.mp
      ((Chip.RecordKept.refl (g := True) (s.chip.exchange c g.val)).stepNeed (c := c) (byStep := false) |>.settle.service trivial c g.val)
    rw [hdo, hkept, Chip.grpOf_exchange_passed hpassed hreserve hnext]
    exact ⟨rfl, Chip.LineKept.lineFrame (r := True) (Chip.LineKept.refl s.chip).exchange.stepNeed.settle⟩

end Sys2Proof.Machine
end

section
/-! SUPPORT. The converter's levels and clip windows, dispersion tracking and the lock flags (R70 to R72, R78, R79, R88). -/

namespace Sys2Proof.Machine

/-! ## Fields of the four lanes -/

theorem keptBut_setFields (s : Chip) (l : List (Fld × Nat)) : KeptBut [] (l.map Prod.fst) s (s.setFields l) := by
  induction l generalizing s with
  | nil => exact .refl _ _ s
  | cons p l ih => exact ((keptBut_setF s p.1 p.2).mono (by simp) (by simp)).trans ((ih _).mono (by simp) (by simp +contextual))

theorem quiet_setFields (s : Chip) (l : List (Fld × Nat)) : Quiet s (s.setFields l) :=
  Quiet.foldl (fun u (p : Fld × Nat) => quiet_setF u p.1 p.2) l s

theorem Chip.rd_setFields_ne (s : Chip) {l : List (Fld × Nat)} {b : Nat} (h : ∀ p ∈ l, b ≠ p.1.addr) : (s.setFields l).rd b = s.rd b := by
  induction l generalizing s with
  | nil => rfl
  | cons p l ih =>
    rw [List.forall_mem_cons] at h
    exact (ih _ h.2).trans (Chip.rd_setF_ne _ _ _ h.1)

/-- The figure of a lane, of those of XI, XQ, YI and YQ. -/
def laneFigure (xi xq yi yq l : Nat) : Nat := [xi, xq, yi, yq].getD l 0

/-- A field of ADC_STAT set in each lane's register. -/
def Chip.setLanes (s : Chip) (c : Carrier) (lo width : Nat) (v : Nat → Nat) : Chip :=
  s.setFields ((List.range 4).map fun l => (⟨Reg.RXD.ADC_STAT.addr c l, lo, width⟩, v l))

theorem adcStat_apart (c : Carrier) (lo width : Nat) :
    ((List.range 4).map fun l => (⟨Reg.RXD.ADC_STAT.addr c l, lo, width⟩ : Fld)).Pairwise fun f g => Apart g f := by
  have haddr : ∀ k l, k ≠ l → Reg.RXD.ADC_STAT.addr c k ≠ Reg.RXD.ADC_STAT.addr c l := by
    intro k l hkl
    unfold Reg.RXD.ADC_STAT.addr
    omega
  rw [List.pairwise_map]
  exact List.nodup_range.imp fun hkl => .inl (haddr _ _ (Ne.symm hkl))

/-- Each lane's field reads its own figure, and nothing else changes. -/
theorem Chip.setLanes_spec (s : Chip) (c : Carrier) {lo width : Nat} (hw : lo + width ≤ 32) (v : Nat → Nat) :
    (∀ l, l < 4 → (s.setLanes c lo width v).getF ⟨Reg.RXD.ADC_STAT.addr c l, lo, width⟩ = v l % 2 ^ width) ∧
      KeptBut [] ((List.range 4).map fun l => ⟨Reg.RXD.ADC_STAT.addr c l, lo, width⟩) s (s.setLanes c lo width v) ∧
      Quiet s (s.setLanes c lo width v) := by
  have hfst : (((List.range 4).map fun l => ((⟨Reg.RXD.ADC_STAT.addr c l, lo, width⟩ : Fld), v l)).map Prod.fst) =
      (List.range 4).map fun l => ⟨Reg.RXD.ADC_STAT.addr c l, lo, width⟩ := by
    rw [List.map_map]
    rfl
  refine ⟨fun l hl => ?_, ?_, quiet_setFields s _⟩
  · exact s.getF_setFields_of_mem (hfst ▸ adcStat_apart c lo width) hw (List.mem_map.mpr ⟨l, List.mem_range.mpr hl, rfl⟩)
  · rw [← hfst]
    exact keptBut_setFields s _

theorem Chip.rd_setLanes (s : Chip) (c : Carrier) (lo width : Nat) (v : Nat → Nat) {m : Nat} (hm : m < 0x01100020 ∨ 0x01100030 ≤ m) :
    (s.setLanes c lo width v).rd (c.base + m) = s.rd (c.base + m) := by
  refine s.rd_setFields_ne ?_
  rw [List.forall_mem_map]
  intro l hl
  have hlt := List.mem_range.mp hl
  unfold Reg.RXD.ADC_STAT.addr
  dsimp only
  omega

/-! ## Levels -/

/-- A level window sets the four levels; each is 0 while the converter PLL is out of lock (R70, R72). -/
theorem doAdcTick_eq (c : Carrier) (xi xq yi yq : Nat) (s : Chip) :
    doAdcTick c xi xq yi yq s =
      s.setLanes c 0 12 fun l => min (if !(s.txd.get c).pllLol then laneFigure xi xq yi yq l else 0) (2 ^ 12 - 1) := rfl

/-- The highest code of a field fits the field. -/
theorem min_mod_two_pow (v w : Nat) : min v (2 ^ w - 1) % 2 ^ w = min v (2 ^ w - 1) :=
  Nat.mod_eq_of_lt (Nat.lt_of_le_of_lt (Nat.min_le_right _ _) (Nat.sub_lt (Nat.two_pow_pos w) Nat.one_pos))

theorem doAdcTick_spec (c : Carrier) (xi xq yi yq : Nat) (s : Chip) :
    (∀ l, l < 4 → (doAdcTick c xi xq yi yq s).getF (Reg.RXD.ADC_STAT.RMS c l) =
      min (if !(s.txd.get c).pllLol then laneFigure xi xq yi yq l else 0) (2 ^ 12 - 1)) ∧
      Kept ((List.range 4).map (Reg.RXD.ADC_STAT.RMS c)) s (doAdcTick c xi xq yi yq s) ∧ Quiet s (doAdcTick c xi xq yi yq s) := by
  obtain ⟨hget, hkept, hquiet⟩ := s.setLanes_spec c (lo := 0) (width := 12) (by decide) fun l =>
    min (if !(s.txd.get c).pllLol then laneFigure xi xq yi yq l else 0) (2 ^ 12 - 1)
  rw [doAdcTick_eq]
  exact ⟨fun l hl => (hget l hl).trans (min_mod_two_pow _ 12), hkept, hquiet⟩

/-! ## Clip windows -/

/-- The lanes' CLIPPED flags of a window (R71). -/
def Chip.showClipped (s : Chip) (c : Carrier) (xi xq yi yq : Nat) : Chip :=
  s.setLanes c 16 1 fun l => (decide (0 < laneFigure xi xq yi yq l)).toNat

theorem Chip.flag_showClipped (s : Chip) (c : Carrier) (xi xq yi yq : Nat) {l : Nat} (hl : l < 4) :
    (s.showClipped c xi xq yi yq).flag (Reg.RXD.ADC_STAT.CLIPPED c l) = decide (0 < laneFigure xi xq yi yq l) := by
  have hget := (s.setLanes_spec c (lo := 16) (width := 1) (by decide) fun l => (decide (0 < laneFigure xi xq yi yq l)).toNat).1 l hl
  refine (congrArg (· == 1) hget).trans ?_
  cases decide (0 < laneFigure xi xq yi yq l) <;> rfl

/-- The count of a clip window, in the pair and as occurrences of its source (R71, R447). -/
def Chip.clipCounted (s : Chip) (c : Carrier) (n : Nat) : Chip := (s.addPair (Reg.RXD.ADC_CLIP_CNT_LO.addr c) n).evc (c.evcSrc 44) n

theorem carrier_block_ne (c : Carrier) {b : Nat} (hb : c.base + 0x01000000 ≤ b) : b / 0x100000 ≠ 5 := by omega

theorem Chip.getPair_clipCounted (s : Chip) (c : Carrier) (n : Nat) :
    (s.clipCounted c n).getPair (Reg.RXD.ADC_CLIP_CNT_LO.addr c) = (s.getPair (Reg.RXD.ADC_CLIP_CNT_LO.addr c) + n) % 2 ^ 64 :=
  (Chip.getPair_congr (Chip.rd_evc _ _ _ (by cases c <;> decide)) (Chip.rd_evc _ _ _ (by cases c <;> decide))).trans (s.getPair_setPair _ _)

theorem Chip.rd_clipCounted (s : Chip) (c : Carrier) (n : Nat) {b : Nat} (hb : c.base + 0x01000000 ≤ b)
    (hlo : b ≠ Reg.RXD.ADC_CLIP_CNT_LO.addr c) (hhi : b ≠ Reg.RXD.ADC_CLIP_CNT_LO.addr c + 4) : (s.clipCounted c n).rd b = s.rd b := by
  rw [Chip.clipCounted, Chip.rd_evc _ _ _ (carrier_block_ne c hb), Chip.addPair, Chip.rd_setPair, if_neg hhi, if_neg hlo]

theorem Chip.quiet_clipCounted (s : Chip) (c : Carrier) (n : Nat) : Quiet s (s.clipCounted c n) :=
  ((quiet_wr s _ _).trans (quiet_wr _ _ _)).trans (quiet_evc _ _ _)

/-- A clip window with the converter PLL in lock (R71): the flags, the count and the event. -/
theorem doAdcClipWindow_locked {c : Carrier} {s : Chip} (h : (s.txd.get c).pllLol = false) (xi xq yi yq : Nat) :
    let u := (s.showClipped c xi xq yi yq).clipCounted c (xi + xq + yi + yq)
    doAdcClipWindow c xi xq yi yq s = u.raiseIf (decide (u.getF (Reg.RXD.ADC_CLIP_THR.THR c) < xi + xq + yi + yq)) (Ev.RXD.ADC_CLIP c) := by
  unfold doAdcClipWindow
  rw [h]
  rfl

theorem doAdcClipWindow_spec {c : Carrier} {s : Chip} (h : (s.txd.get c).pllLol = false) (xi xq yi yq : Nat) :
    (doAdcClipWindow c xi xq yi yq s).getPair (Reg.RXD.ADC_CLIP_CNT_LO.addr c) =
        (s.getPair (Reg.RXD.ADC_CLIP_CNT_LO.addr c) + (xi + xq + yi + yq)) % 2 ^ 64 ∧
      (∀ l, l < 4 → (doAdcClipWindow c xi xq yi yq s).flag (Reg.RXD.ADC_STAT.CLIPPED c l) = decide (0 < laneFigure xi xq yi yq l)) ∧
      (s.getF (Reg.RXD.ADC_CLIP_THR.THR c) < xi + xq + yi + yq → Recorded (Ev.RXD.ADC_CLIP c) s (doAdcClipWindow c xi xq yi yq s)) ∧
      Quiet s (doAdcClipWindow c xi xq yi yq s) := by
  have hbit : (Ev.RXD.ADC_CLIP c).bit < 32 := by cases c <;> decide
  have hshown : ∀ m, 0x01100030 ≤ m → (s.showClipped c xi xq yi yq).rd (c.base + m) = s.rd (c.base + m) := fun m hm =>
    s.rd_setLanes c 16 1 _ (.inr hm)
  have hcounted : ∀ m, 0x01100030 ≤ m → m ≠ 0x01100038 → m ≠ 0x0110003C →
      ((s.showClipped c xi xq yi yq).clipCounted c (xi + xq + yi + yq)).rd (c.base + m) = s.rd (c.base + m) := fun m hm hlo hhi =>
    (Chip.rd_clipCounted _ c _ (by omega) (carrier_addr_ne c hlo) (carrier_addr_ne c hhi)).trans (hshown m hm)
  rw [doAdcClipWindow_locked h]
  refine ⟨?_, fun l hl => ?_, fun hthr => ?_, ?_⟩
  · rw [← Chip.getPair_congr (lo := Reg.RXD.ADC_CLIP_CNT_LO.addr c) (hshown 0x01100038 (by decide)) (hshown 0x0110003C (by decide))]
    exact (Chip.getPair_congr (Chip.rd_raiseIf_ne _ _ (by cases c <;> decide)) (Chip.rd_raiseIf_ne _ _ (by cases c <;> decide))).trans
      (Chip.getPair_clipCounted _ c _)
  · rw [← s.flag_showClipped c xi xq yi yq hl]
    refine Chip.flag_congr ((Chip.rd_raiseIf_ne _ _ ?_).trans (Chip.rd_clipCounted _ c _ ?_ ?_ ?_)) <;>
      simp only [Reg.RXD.ADC_STAT.CLIPPED, Reg.RXD.ADC_STAT.addr, Reg.RXD.ADC_CLIP_CNT_LO.addr, Ev.RXD.ADC_CLIP, Ev.RXD.base] <;> omega
  · have hthr' := Chip.getF_congr (f := Reg.RXD.ADC_CLIP_THR.THR c) (hcounted 0x01100030 (by decide) (by decide) (by decide))
    exact .of_sticky (hcounted 0x011000F8 (by decide) (by decide) (by decide))
      (recorded_raiseIf _ hbit (decide_eq_true (by rw [hthr']; exact hthr)))
  · exact ((s.setLanes_spec c (by decide) _).2.2.trans (Chip.quiet_clipCounted _ c _)).raiseIf

/-! ## Dispersion -/

/-- What an update of the dispersion makes of the filter value (R78): toward the line by the residual, at most by STEP, and not beyond the range. -/
def Chip.cdMoved (s : Chip) (c : Carrier) (residual : Int) : Int :=
  max (-(s.cdRange c : Int)) (min (s.cdRange c : Int) ((s.rcvOf (.car c)).cd +
    residual.sign * (min residual.natAbs (max 1 (s.getF (Reg.RXD.CD_TRACK.STEP c))) : Nat)))

theorem doCdTrackUpdate_moves {s : Chip} {c : Carrier} {residual : Int} (hst : (s.rcvOf (.car c)).state = 8)
    (hen : s.flag (Reg.RXD.CD_TRACK.EN c) = true) (hmode : s.flag (Reg.RXD.RX_STAT.CD_MODE_ACTIVE c) = false)
    (hthr : s.getF (Reg.RXD.CD_TRACK.THR c) ≤ residual.natAbs) :
    doCdTrackUpdate (.car c) residual s = (s.setRcv (.car c) { s.rcvOf (.car c) with cd := s.cdMoved c residual }).raiseIf
      (decide ((s.cdMoved c residual).natAbs = (s.cdRange c : Int).natAbs ∧ s.cdMoved c residual ≠ (s.rcvOf (.car c)).cd)) (Ev.RXD.CD_LIMIT c) :=
  if_pos (by simp [Rcv.carrier, hst, hen, hmode, hthr])

theorem doCdTrackUpdate_below {s : Chip} {c : Carrier} {residual : Int} (hthr : residual.natAbs < s.getF (Reg.RXD.CD_TRACK.THR c)) :
    doCdTrackUpdate (.car c) residual s = s :=
  if_neg fun h => by
    have hle := of_decide_eq_true (Bool.and_eq_true_iff.mp h).2
    exact Nat.not_le.mpr hthr hle

theorem Chip.rcv_raiseIf (s : Chip) (b : Bool) (e : Ev) : (s.raiseIf b e).rcv = s.rcv := by rw [quiet_raiseIf s b e]

/-! ## Lock flags -/

theorem rcv_ix_ne_car {r : Rcv} {c : Carrier} (h : r ≠ .car c) : r.ix ≠ (Rcv.car c).ix := by
  cases r with
  | car d =>
    revert h
    cases c <;> cases d <;> decide
  | sub d q =>
    have hq := q.isLt
    have hlt : 17 * d.ix + 1 + q.val ≠ 17 * c.ix := by omega
    exact hlt

theorem Chip.rcvOf_setRcv_ne (s : Chip) {r : Rcv} {c : Carrier} (h : r ≠ .car c) (v : RcvSt) : (s.setRcv (.car c) v).rcvOf r = s.rcvOf r :=
  (Tab.get_put _ _ _ _ _).trans (if_neg (rcv_ix_ne_car h))

theorem RcvSt.lock_setLock (v : RcvSt) (f g : LockFlag) (b : Bool) : (v.setLock f b).lock g = if g = f then b else v.lock g := by
  cases f <;> cases g <;> rfl

/-- A lock flag that changes, with its event (R88). -/
theorem Chip.setLock_change {s : Chip} {c : Carrier} {f : LockFlag} {b : Bool} (h : (s.rcvOf (.car c)).lock f ≠ b) :
    s.setLock (.car c) f b = (s.setRcv (.car c) ((s.rcvOf (.car c)).setLock f b)).raise (Ev.RXD.LOCK_CHANGE c) := if_neg h

theorem Chip.setLock_stays {s : Chip} {r : Rcv} {f : LockFlag} {b : Bool} (h : (s.rcvOf r).lock f = b) : s.setLock r f b = s := if_pos h

theorem Chip.setLock_spec {s : Chip} {c : Carrier} {f : LockFlag} {b : Bool} (h : (s.rcvOf (.car c)).lock f ≠ b) :
    ((s.setLock (.car c) f b).rcvOf (.car c)).lock f = b ∧
      (∀ g, g ≠ f → ((s.setLock (.car c) f b).rcvOf (.car c)).lock g = (s.rcvOf (.car c)).lock g) ∧
      (∀ r, r ≠ .car c → (s.setLock (.car c) f b).rcvOf r = s.rcvOf r) ∧ Recorded (Ev.RXD.LOCK_CHANGE c) s (s.setLock (.car c) f b) ∧
      Kept [evtBit (Ev.RXD.LOCK_CHANGE c)] s (s.setLock (.car c) f b) := by
  have hbit : (Ev.RXD.LOCK_CHANGE c).bit < 32 := by cases c <;> decide
  rw [Chip.setLock_change h, Chip.rcvOf_congr (Chip.rcv_raise _ _), Chip.rcvOf_setRcv_self]
  refine ⟨?_, fun g hg => ?_, fun r hr => ?_, recorded_raise (s.setRcv _ _) _ hbit, keptBut_raise (s.setRcv _ _) _ hbit⟩
  · rw [RcvSt.lock_setLock, if_pos rfl]
  · rw [RcvSt.lock_setLock, if_neg hg]
  · rw [Chip.rcvOf_congr (Chip.rcv_raise _ _), Chip.rcvOf_setRcv_ne _ hr]

/-- A lock flag takes its value and leaves the rest of the receiver (R88). -/
theorem Chip.rcvOf_setLock (s : Chip) (c : Carrier) (f : LockFlag) (b : Bool) :
    ((s.setLock (.car c) f b).rcvOf (.car c)).lock f = b ∧ ((s.setLock (.car c) f b).rcvOf (.car c)).state = (s.rcvOf (.car c)).state := by
  by_cases h : (s.rcvOf (.car c)).lock f = b
  · rw [Chip.setLock_stays h]
    exact ⟨h, rfl⟩
  · rw [Chip.setLock_change h, Chip.rcvOf_congr (Chip.rcv_raise _ _), Chip.rcvOf_setRcv_self, RcvSt.lock_setLock, if_pos rfl]
    exact ⟨rfl, by cases f <;> rfl⟩

/-! ## A departure from ACQUIRED -/

/-- A receiver without codeword lock and with an empty staircase window, where it had the lock (R128, R132). -/
def RcvSt.noCwLock (v : RcvSt) : RcvSt := if v.cwLock then { v with cwLock := false, failRun := 0, blocks := 0, last64 := [], ub := false } else v

theorem RcvSt.noCwLock_fields (v : RcvSt) :
    v.noCwLock.state = v.state ∧ v.noCwLock.cfr = v.cfr ∧ v.noCwLock.warmValid = v.warmValid := by
  unfold RcvSt.noCwLock
  split <;> exact ⟨rfl, rfl, rfl⟩

theorem Chip.rcvOf_dropCwLock_car (s : Chip) (c : Carrier) : (s.dropCwLock (.car c)).rcvOf (.car c) = (s.rcvOf (.car c)).noCwLock := by
  have hwindow : ∀ u : Chip, (u.emptyWindow (.car c)).rcvOf (.car c) = { u.rcvOf (.car c) with blocks := 0, last64 := [], ub := false } := by
    intro u
    have hrcv : (u.emptyWindow (.car c)).rcv = (u.modRcv (.car c) fun v => { v with blocks := 0, last64 := [], ub := false }).rcv := rfl
    rw [Chip.rcvOf_congr hrcv, Chip.modRcv, Chip.rcvOf_setRcv_self]
  by_cases h : (s.rcvOf (.car c)).cwLock = true
  · have hlock : s.setCwLock (.car c) false =
        (s.setRcv (.car c) { s.rcvOf (.car c) with cwLock := false, failRun := 0 }).raise (Ev.FEC.CW_LOCK_CHANGE c) := if_neg (by simp [h])
    rw [Chip.dropCwLock, if_pos h, hwindow, hlock, Chip.rcvOf_congr (Chip.rcv_raise _ _), Chip.rcvOf_setRcv_self, RcvSt.noCwLock, if_pos h]
  · rw [Chip.dropCwLock, if_neg h, RcvSt.noCwLock, if_neg h]

/-- An acquisition begins with the receiver's own record and the tap count (R85, R110). -/
theorem Chip.rcvOf_beginAcq (s : Chip) (c : Carrier) (clock : Nat) :
    (s.beginAcq (.car c) clock).rcvOf (.car c) = { s.rcvOf (.car c) with begun := true, beganAt := clock, failRaised := false, attempts := 0 } := by
  have hrcv : (s.beginAcq (.car c) clock).rcv =
    (s.modRcv (.car c) fun v => { v with begun := true, beganAt := clock, failRaised := false, attempts := 0 }).rcv := rfl
  rw [Chip.rcvOf_congr hrcv, Chip.modRcv, Chip.rcvOf_setRcv_self]

/-- A departure from ACQUIRED without a warm state: to COARSE_FREQ (R105). -/
theorem Chip.rcvOf_leaveAcquired_cold {s : Chip} {c : Carrier} (h : (s.rcvOf (.car c)).warmValid = false) :
    ((s.leaveAcquired (.car c)).rcvOf (.car c)).state = 2 ∧
      ((s.leaveAcquired (.car c)).rcvOf (.car c)).cfr = (s.rcvOf (.car c)).cfr ∧
      ((s.leaveAcquired (.car c)).rcvOf (.car c)).warmValid = false := by
  unfold Chip.leaveAcquired
  extract_lets v w s1 s2
  have hv : v.warmValid = false := h
  have hs2 : s2 = s1 := by
    unfold s2
    rw [hv]
  obtain ⟨hstate, hcfr, hwarm⟩ := RcvSt.noCwLock_fields ((s2.beginAcq (.car c) s2.now).rcvOf (.car c))
  rw [Chip.raiseRcv, Chip.rcvOf_congr (Chip.rcv_raise _ _), Chip.rcvOf_dropCwLock_car, hstate, hcfr, hwarm, Chip.rcvOf_beginAcq, hs2,
    Chip.rcvOf_setRcv_self, hv]
  exact ⟨rfl, rfl, hv⟩

/-- Of RXD, ACQ and FEC the judgements write EVT_STAT alone. -/
theorem LineReg.stat_of_receive {c : Carrier} {m : Nat} (h : LineReg (c.base + m)) (hm : m / 0x100000 ∈ [0x11, 0x12, 0x13]) :
    m % 0x100000 = 0xF0 := by
  have hc := carrier_base_eq c
  have hc' := carrier_ix_le c
  simp only [List.mem_cons, List.not_mem_nil, or_false] at hm
  generalize ha : c.base + m = a at h
  cases h with
  | trail d ht hn | event d hn =>
    have hd := carrier_base_eq d
    have hd' := carrier_ix_le d
    omega
  | own d hn =>
    have hd := carrier_base_eq d
    have hd' := carrier_ix_le d
    simp only [List.mem_cons, List.not_mem_nil, or_false] at hn
    omega
  | unit d hg hn | unitHi d hg hn | bound d hg hn =>
    have hd' := carrier_ix_le d
    omega
  | entry hk hn | group hk hn => omega
  | single hn =>
    simp only [List.mem_cons, List.not_mem_nil, or_false] at hn
    omega

theorem not_lineReg_acqSticky (c : Carrier) : ¬ LineReg (Ev.ACQ.base c + 0xF8) := fun h =>
  absurd (LineReg.stat_of_receive (m := 0x012000F8) h (by decide)) (by decide)

theorem Chip.LineKept.setLock {a : Prop} {s₀ s : Chip} (h : Chip.LineKept False a s₀ s) {x f b} : Chip.LineKept False a s₀ (s.setLock x f b) :=
  .ite h h.setRcv.raiseCar

/-- A departure from ACQUIRED: what comes before LOST keeps the record and EVT_STICKY of ACQ, and stays in the line's blocks. -/
theorem Chip.leaveAcquired_car (s : Chip) (c : Carrier) :
    ∃ u, s.leaveAcquired (.car c) = u.raise (Ev.ACQ.LOST c) ∧ u.rd (Ev.ACQ.base c + 0xF8) = s.rd (Ev.ACQ.base c + 0xF8) ∧
      LineFrame s u ∧ Chip.RecordKept True s u := by
  unfold Chip.leaveAcquired
  extract_lets v w s1 s2
  have h2 : s2.regs = s.regs ∧ LineFrame s s2 ∧ Chip.RecordKept True s s2 := by
    unfold s2
    split
    · exact ⟨rfl, .refl s, (Chip.RecordKept.refl s).setRcv.setRcv⟩
    · exact ⟨rfl, .refl s, (Chip.RecordKept.refl s).setRcv⟩
  obtain ⟨hregs, hframe, hrec⟩ := h2
  have hbegin : LineFrame s (s2.beginAcq (.car c) s2.now) := LineFrame.setF hframe.setRcv (carrier_block_mem c (by
    simp only [Reg.RXD.RX_STAT.TAPS_ACTIVE, Reg.RXD.RX_STAT.addr]
    omega))
  have hbegin' : Chip.RecordKept True s (s2.beginAcq (.car c) s2.now) := hrec.setRcv.setOwn
  have hdrop : Chip.LineKept False True (s2.beginAcq (.car c) s2.now) ((s2.beginAcq (.car c) s2.now).dropCwLock (.car c)) :=
    (Chip.LineKept.refl _).dropCwLock
  refine ⟨_, rfl, ?_, hbegin.trans hdrop.lineFrame, hbegin'.dropCwLock⟩
  have hsticky : (s2.beginAcq (.car c) s2.now).rd (Ev.ACQ.base c + 0xF8) = s2.rd (Ev.ACQ.base c + 0xF8) :=
    Chip.rd_setF_ne _ _ _ (carrier_addr_ne c (m := 0x012000F8) (by decide))
  rw [hdrop.rd _ (not_lineReg_acqSticky c), hsticky, Chip.rd_of_regs hregs]

/-- A frequency offset out of range in ACQUIRED (R88, R105): CFR_LOCK clears with its event, and the receiver leaves for COARSE_FREQ without its
warm state. -/
theorem doCfrRange_acquired {s : Chip} {c : Carrier} (h : (s.rcvOf (.car c)).state = 8) :
    doCfrRange (.car c) s = (((((s.raise (Ev.RXD.CFR_RANGE c)).setLock (.car c) .cfrLock false).modRcv (.car c)
      RcvSt.discardWarm).leaveAcquired (.car c)).rcvEnd (.car c)) := if_pos h

theorem doCfrRange_acquired_spec {s : Chip} {c : Carrier} (h : (s.rcvOf (.car c)).state = 8) :
    ((doCfrRange (.car c) s).rcvOf (.car c)).cfr = false ∧ ((doCfrRange (.car c) s).rcvOf (.car c)).state = 2 ∧
      ((doCfrRange (.car c) s).rcvOf (.car c)).warmValid = false ∧ Recorded (Ev.RXD.CFR_RANGE c) s (doCfrRange (.car c) s) ∧
      Recorded (Ev.ACQ.LOST c) s (doCfrRange (.car c) s) ∧ LineFrame s (doCfrRange (.car c) s) := by
  rw [doCfrRange_acquired h]
  generalize hu : ((s.raise (Ev.RXD.CFR_RANGE c)).setLock (.car c) .cfrLock false).modRcv (.car c) RcvSt.discardWarm = u
  have hrcv : u.rcvOf (.car c) = (((s.raise (Ev.RXD.CFR_RANGE c)).setLock (.car c) .cfrLock false).rcvOf (.car c)).discardWarm := by
    rw [← hu, Chip.modRcv, Chip.rcvOf_setRcv_self]
  have hcfr : (u.rcvOf (.car c)).cfr = false := by
    rw [hrcv]
    exact ((s.raise (Ev.RXD.CFR_RANGE c)).rcvOf_setLock c .cfrLock false).1
  have hkept : Chip.LineKept False True s u := by
    rw [← hu]
    exact ((Chip.LineKept.refl s).raise (.event c (by decide))).setLock.modRcv
  have hrec : Chip.RecordKept True (s.raise (Ev.RXD.CFR_RANGE c)) u := by
    rw [← hu]
    exact (Chip.RecordKept.refl _).setLock.setRcv
  obtain ⟨hstate, hcfr', hwarm⟩ := Chip.rcvOf_leaveAcquired_cold (s := u) (c := c) (by rw [hrcv]; rfl)
  obtain ⟨w, hleave, hsticky, hframe, hrec'⟩ := u.leaveAcquired_car c
  have hend : Chip.LineKept True True (u.leaveAcquired (.car c)) ((u.leaveAcquired (.car c)).rcvEnd (.car c)) := (Chip.LineKept.refl _).rcvEnd_car
  have hend' : Chip.RecordKept True (u.leaveAcquired (.car c)) ((u.leaveAcquired (.car c)).rcvEnd (.car c)) := (Chip.RecordKept.refl _).rcvEnd_car
  have hlost : Recorded (Ev.ACQ.LOST c) s (u.leaveAcquired (.car c)) := by
    rw [hleave]
    exact .of_sticky (hsticky.trans (hkept.rd _ (not_lineReg_acqSticky c))) (recorded_raise w _ (by cases c <;> decide))
  have hleave' : Chip.RecordKept True u (u.leaveAcquired (.car c)) := by
    rw [hleave]
    exact hrec'.raise
  rw [Chip.rcvOf_congr (hend.rcv trivial)]
  refine ⟨hcfr'.trans hcfr, hstate, hwarm, ?_, ?_, ?_⟩
  · exact (recorded_raise s (Ev.RXD.CFR_RANGE c) (by cases c <;> decide)).recordKept ((hrec.trans hleave').trans hend')
      (isCarrierStat_of_block c (n := 0x01100000) (by decide))
  · exact hlost.recordKept hend' (isCarrierStat_of_block c (n := 0x01200000) (by decide))
  · refine (hkept.lineFrame.trans ?_).trans hend.lineFrame
    rw [hleave]
    exact hframe.raise (carrier_block_mem c (b := c.base + 0x012000F0) (by omega))

end Sys2Proof.Machine
end

section
/-! SUPPORT. The quality figures of an interval (R93 to R95). -/

namespace Sys2Proof.Machine

/-! ## Figures that use up free values -/

/-- From one chip to the next only free values were used up. -/
def FreeUsed (s t : Chip) : Prop := t = { s with freeIx := t.freeIx }

theorem FreeUsed.refl (s : Chip) : FreeUsed s s := rfl

theorem FreeUsed.trans {s t u : Chip} (h : FreeUsed s t) (k : FreeUsed t u) : FreeUsed s u := by
  unfold FreeUsed at *
  rw [k, h]

theorem FreeUsed.regs {s t : Chip} (h : FreeUsed s t) : t.regs = s.regs := by rw [h]

theorem FreeUsed.elsewhere {s t : Chip} (h : FreeUsed s t) : Elsewhere s t := by
  rw [h]
  exact ⟨rfl, rfl, rfl, rfl, rfl, rfl, rfl, rfl⟩

theorem freeUsed_free (s : Chip) : FreeUsed s s.free.2 := rfl

theorem freeUsed_fit (s : Chip) (width v : Nat) : FreeUsed s (s.fit width v).2 := by
  unfold Chip.fit
  split
  exacts [.refl s, freeUsed_free s]

theorem freeUsed_fitS (s : Chip) (width : Nat) (i : Int) : FreeUsed s (s.fitS width i).2 := by
  unfold Chip.fitS
  split
  exacts [.refl s, freeUsed_free s]

theorem freeUsed_evm (s : Chip) (prefPow perr : Nat) : FreeUsed s (s.evm prefPow perr).2 := by
  unfold Chip.evm
  split
  · exact freeUsed_free s
  · dsimp only
    split
    exacts [freeUsed_fit s _ _, (freeUsed_free s).trans (freeUsed_fit _ _ _)]

theorem freeUsed_snr (s : Chip) (prefPow perr : Nat) : FreeUsed s (s.snr prefPow perr).2 := by
  unfold Chip.snr
  split
  · exact freeUsed_free s
  · split
    exacts [.refl s, (freeUsed_free s).trans (freeUsed_fitS _ _ _)]

theorem freeUsed_roundFree (s : Chip) (num : Int) (den : Nat) : FreeUsed s (s.roundFree num den).2 := by
  unfold Chip.roundFree
  split
  exacts [.refl s, freeUsed_free s]

theorem freeUsed_avgIter (s : Chip) (any : Bool) (iters cws : Nat) : FreeUsed s (s.avgIter any iters cws).2 := by
  unfold Chip.avgIter
  split
  · split
    exacts [freeUsed_free s, .refl s]
  · exact freeUsed_roundFree s _ _

/-! ## The latched registers -/

/-- What SEQ reads after a boundary (R93, R94). -/
def nextSeq (w : Word) : Nat := (w.toNat % 2 ^ 31 + 1) % 2 ^ 31

theorem nextSeq_lt (w : Word) : nextSeq w < 2 ^ 31 := Nat.mod_lt _ (by decide)

/-- The word of QUAL_SEQ: the sequence number with VALID above it. -/
def seqWord (w : Word) (valid : Bool) : Word := BitVec.ofNat 32 (nextSeq w + if valid then 2 ^ 31 else 0)

theorem toNat_seqWord (w : Word) (valid : Bool) : (seqWord w valid).toNat = nextSeq w + if valid then 2 ^ 31 else 0 := by
  have := nextSeq_lt w
  rw [seqWord, BitVec.toNat_ofNat]
  split <;> omega

theorem seqWord_mod (w : Word) (valid : Bool) : (seqWord w valid).toNat % 2 ^ 31 = nextSeq w := by
  have := nextSeq_lt w
  rw [toNat_seqWord]
  split <;> omega

theorem seqWord_valid (w : Word) (valid : Bool) : (seqWord w valid).getLsbD 31 = valid := by
  have := nextSeq_lt w
  rw [← BitVec.testBit_toNat, toNat_seqWord, Nat.testBit_eq_decide_div_mod_eq]
  cases valid
  · exact decide_eq_false (by simp only [Bool.false_eq_true, if_false]; omega)
  · exact decide_eq_true (by simp only [if_true]; omega)

/-- The quality registers as they stand after a boundary, at `base` 4 below QUAL_SEQ: the sequence number with VALID, the counts of bits and errors,
and every register below QUAL_SEQ and beyond the last of them as before. -/
structure QualLatched (s t : Chip) (base : Nat) (valid : Bool) (bits errs : Nat) : Prop where
  seq : t.rd (base + 4) = seqWord (s.rd (base + 4)) valid
  bits : t.getPair (base + 0x20) = bits % 2 ^ 64
  errs : t.getPair (base + 0x28) = errs % 2 ^ 64
  rd : ∀ b, b < base + 4 → t.rd b = s.rd b
  elsewhere : Elsewhere s t

/-- Registers at offsets from a base written one after the other. -/
def Chip.wrAll (s : Chip) (base : Nat) (l : List (Nat × Word)) : Chip := l.foldl (fun t p => t.wr (base + p.1) p.2) s

theorem Chip.wrAll_cons (s : Chip) (base : Nat) (p : Nat × Word) (l : List (Nat × Word)) :
    s.wrAll base (p :: l) = (s.wr (base + p.1) p.2).wrAll base l := rfl

theorem Chip.rd_wrAll_ne (s : Chip) {base b : Nat} {l : List (Nat × Word)} (h : ∀ o ∈ l.map Prod.fst, b ≠ base + o) :
    (s.wrAll base l).rd b = s.rd b := by
  induction l generalizing s with
  | nil => rfl
  | cons p l ih =>
    rw [List.map_cons, List.forall_mem_cons] at h
    rw [Chip.wrAll_cons, ih _ h.2, Chip.rd_wr_ne _ _ h.1]

theorem Chip.rd_wrAll_mem (s : Chip) {base : Nat} {l : List (Nat × Word)} (hl : (l.map Prod.fst).Nodup) {o : Nat} {w : Word} (h : (o, w) ∈ l) :
    (s.wrAll base l).rd (base + o) = w := by
  induction l generalizing s with
  | nil => cases h
  | cons p l ih =>
    rw [List.map_cons, List.nodup_cons] at hl
    rw [Chip.wrAll_cons]
    rcases List.mem_cons.mp h with rfl | h
    · have hne : ∀ q ∈ l.map Prod.fst, base + o ≠ base + q := by
        intro q hq he
        exact hl.1 (Nat.add_left_cancel he ▸ hq : o ∈ l.map Prod.fst)
      rw [Chip.rd_wrAll_ne _ hne, Chip.rd_wr, if_pos rfl]
    · exact ih _ hl.2 h

theorem Chip.elsewhere_wrAll (s : Chip) (base : Nat) (l : List (Nat × Word)) : Elsewhere s (s.wrAll base l) := by
  induction l generalizing s with
  | nil => exact .refl s
  | cons p l ih => exact Elsewhere.trans (.wr (.refl s)) (ih _)

/-- The offsets of the quality registers above QUAL_SEQ. -/
def qualOffsets : List Nat := [0x10, 0x14, 0x18, 0x1C, 0x20, 0x24, 0x28, 0x2C, 0x30, 0x34, 0x38, 0x3C, 0x40]

/-- QUAL_SEQ written, free values used up, then the registers above it written. -/
theorem qualLatched_of_wrAll {s u : Chip} {base : Nat} {valid : Bool} {bits errs : Nat}
    (hu : FreeUsed (s.wr (base + 4) (seqWord (s.rd (base + 4)) valid)) u) {l : List (Nat × Word)} (hl : l.map Prod.fst = qualOffsets)
    (hbits : (0x20, BitVec.ofNat 32 bits) ∈ l ∧ (0x24, BitVec.ofNat 32 (bits / 2 ^ 32)) ∈ l)
    (herrs : (0x28, BitVec.ofNat 32 errs) ∈ l ∧ (0x2C, BitVec.ofNat 32 (errs / 2 ^ 32)) ∈ l) :
    QualLatched s (u.wrAll base l) base valid bits errs := by
  have hnodup : (l.map Prod.fst).Nodup := hl ▸ by decide
  have hpair : ∀ o v, (o, BitVec.ofNat 32 v) ∈ l → (o + 4, BitVec.ofNat 32 (v / 2 ^ 32)) ∈ l → (u.wrAll base l).getPair (base + o) = v % 2 ^ 64 := by
    intro o v hlo hhi
    rw [Chip.getPair, Nat.add_assoc, u.rd_wrAll_mem hnodup hlo, u.rd_wrAll_mem hnodup hhi, BitVec.toNat_ofNat, BitVec.toNat_ofNat]
    omega
  have hbelow : ∀ b, b < base + 0x10 → (u.wrAll base l).rd b = (s.wr (base + 4) (seqWord (s.rd (base + 4)) valid)).rd b := by
    intro b hb
    have hmin : ∀ o ∈ qualOffsets, 0x10 ≤ o := by decide
    rw [u.rd_wrAll_ne fun o ho => by have := hmin o (hl ▸ ho); omega, Chip.rd_of_regs hu.regs]
  exact ⟨(hbelow _ (by omega)).trans ((Chip.rd_wr _ _ _ _).trans (if_pos rfl)), hpair _ _ hbits.1 hbits.2, hpair _ _ herrs.1 herrs.2,
    fun b hb => (hbelow b (by omega)).trans (Chip.rd_wr_ne _ _ (by omega)),
    (Elsewhere.wr (.refl s)).trans (hu.elsewhere.trans (u.elsewhere_wrAll base l))⟩

theorem Chip.latchQual_latched (s : Chip) (base : Nat) (valid : Bool) (f : QualFig) (cd : Int) :
    QualLatched s (s.latchQual base valid f cd) base valid f.bits f.errs := by
  unfold Chip.latchQual
  extract_lets seq s0 ex ey e sx sy n g d p o w s1 s2 s3
  have hfree : FreeUsed s0 o.2 := (freeUsed_evm s0 _ _).trans <| (freeUsed_evm ex.2 _ _).trans <| (freeUsed_evm ey.2 _ _).trans <|
    (freeUsed_snr e.2 _ _).trans <| (freeUsed_snr sx.2 _ _).trans <| (freeUsed_snr sy.2 _ _).trans <| (freeUsed_fit n.2 _ _).trans <|
    (freeUsed_fit g.2 _ _).trans <| (freeUsed_fit d.2 _ _).trans <| freeUsed_fitS p.2 _ _
  exact qualLatched_of_wrAll (u := o.2) (valid := valid) (bits := f.bits) (errs := f.errs) hfree
    (l := [(0x10, w ey.1 ex.1), (0x14, w 0 e.1), (0x18, w 0 n.1), (0x1C, w sy.1 sx.1), (0x20, BitVec.ofNat 32 f.bits),
      (0x24, BitVec.ofNat 32 (f.bits / 2 ^ 32)), (0x28, BitVec.ofNat 32 f.errs), (0x2C, BitVec.ofNat 32 (f.errs / 2 ^ 32)), (0x30, w 0 g.1),
      (0x34, BitVec.ofInt 32 cd), (0x38, w p.1 d.1), (0x3C, w 0 o.1), (0x40, w 0 (min f.slips 0xFFFF))])
    rfl (by simp) (by simp)

theorem Chip.latchNoQual_latched (s : Chip) (base : Nat) : QualLatched s (s.latchNoQual base) base false 0 0 :=
  qualLatched_of_wrAll (u := s.wr (base + 4) (seqWord (s.rd (base + 4)) false)) (.refl _) (l := qualOffsets.map fun o => (o, 0)) rfl (by decide)
    (by decide)

/-! ## A boundary in carrier mode -/

/-- What the snapshot of a carrier's figures raises leaves every register but those of EVC and EVT_STAT of RXD, and records QUAL_READY (R94). -/
theorem Chip.qualEvents_spec (s : Chip) (c : Carrier) (valid : Bool) (slips : Nat) :
    (∀ m, 0x01000000 ≤ m → m ≠ 0x011000F0 → (s.qualEvents c valid slips).rd (c.base + m) = s.rd (c.base + m)) ∧
      Recorded (Ev.RXD.QUAL_READY c) s (s.qualEvents c valid slips) ∧ Elsewhere s (s.qualEvents c valid slips) := by
  unfold Chip.qualEvents
  extract_lets thr low
  generalize hu : (s.raiseIf low (Ev.RXD.SNR_LOW c)).raiseIf (decide (0 < slips)) (Ev.RXD.SLIP c) = u
  have hu' : ∀ m, m ≠ 0x011000F0 → u.rd (c.base + m) = s.rd (c.base + m) := fun m hm => by
    rw [← hu, Chip.rd_raiseIf_ne _ _ (carrier_addr_ne c (n := 0x011000F0) hm), Chip.rd_raiseIf_ne _ _ (carrier_addr_ne c (n := 0x011000F0) hm)]
  have hquiet : Quiet s u := hu ▸ (Quiet.refl s).raiseIf.raiseIf
  refine ⟨fun m hm hne => ?_, fun hs => ?_, ((hquiet.raise).trans (quiet_evc _ _ _)).elsewhere⟩
  · rw [Chip.rd_evc _ _ _ (carrier_block_ne c (by omega)), Chip.rd_raise, if_neg fun h => carrier_addr_ne c (n := 0x011000F0) hne h.2, hu' m hne]
  · have hsticky : u.rd ((Ev.RXD.QUAL_READY c).base + 0xF8) = s.rd ((Ev.RXD.QUAL_READY c).base + 0xF8) := hu' 0x011000F8 (by decide)
    rw [Chip.rd_evc _ _ _ (by cases c <;> decide)]
    exact recorded_raise u (Ev.RXD.QUAL_READY c) (by cases c <;> decide) (by rw [hsticky]; exact hs)

/-- The registers of an interval in carrier mode, before AVG_ITER and the events (R94, R95). -/
def Chip.carrierLatched (s : Chip) (c : Carrier) (car : QualFig) : Chip :=
  let v := s.rcvOf (.car c)
  if v.cprAny then s.latchQual (c.base + 0x01100100) v.cprAll car (v.cd + car.cdResidual) else s.latchNoQual (c.base + 0x01100100)

theorem Chip.rd_setRcv (s : Chip) (x : Rcv) (v : RcvSt) (b : Nat) : (s.setRcv x v).rd b = s.rd b := rfl

theorem Elsewhere.setRcv {s t : Chip} (h : Elsewhere s t) {x : Rcv} {v : RcvSt} : Elsewhere s (t.setRcv x v) := h

theorem rd_setSat_avgIter (s : Chip) (c : Carrier) (n : Nat) {m : Nat} (h : m ≠ 0x01300140) :
    (s.setSat (Reg.FEC.AVG_ITER.AVG c) n).rd (c.base + m) = s.rd (c.base + m) := by
  rw [Chip.setSat]
  exact Chip.rd_setF_ne _ _ _ (carrier_addr_ne c (n := 0x01300140) h)

/-- AVG_ITER and the start of the receiver's next interval (R95, R139). -/
def Chip.avgShown (s : Chip) (c : Carrier) (v : RcvSt) : Chip :=
  let a := s.avgIter v.cprAny v.iters v.cws
  (a.2.setSat (Reg.FEC.AVG_ITER.AVG c) a.1).setRcv (.car c) v.nextInterval

theorem Chip.avgShown_spec (s : Chip) (c : Carrier) (v : RcvSt) :
    (∀ m, m ≠ 0x01300140 → (s.avgShown c v).rd (c.base + m) = s.rd (c.base + m)) ∧ Elsewhere s (s.avgShown c v) := by
  have hfree := freeUsed_avgIter s v.cprAny v.iters v.cws
  have hdo : s.avgShown c v = ((s.avgIter v.cprAny v.iters v.cws).2.setSat (Reg.FEC.AVG_ITER.AVG c) (s.avgIter v.cprAny v.iters v.cws).1).setRcv
    (.car c) v.nextInterval := rfl
  rw [hdo]
  refine ⟨fun m hm => ?_, hfree.elsewhere.trans (.setRcv (.setF (.refl _)))⟩
  rw [Chip.rd_setRcv, rd_setSat_avgIter _ _ _ hm, Chip.rd_of_regs hfree.regs]

/-- A boundary in carrier mode: the registers, AVG_ITER, the receiver's next interval, and the events (R93 to R95). -/
theorem doQualBoundary_carrier {s : Chip} {c : Carrier} (h : (s.lineApplied c).cfg.subcEn = false) (car : QualFig) (subs : List (Fin 16 × QualFig)) :
    doQualBoundary c car subs s = ((s.carrierLatched c car).avgShown c (s.rcvOf (.car c))).qualEvents c (s.rcvOf (.car c)).cprAll
      (if (s.rcvOf (.car c)).cprAny then car.slips else 0) := by
  unfold doQualBoundary
  dsimp only
  rw [if_neg (by rw [h]; decide)]
  rfl

/-- What follows the latched registers in a boundary leaves them, and records QUAL_READY (R93 to R95). -/
theorem QualLatched.boundary {s : Chip} {c : Carrier} (h : (s.lineApplied c).cfg.subcEn = false) {car : QualFig}
    (subs : List (Fin 16 × QualFig)) {valid : Bool} {bits errs : Nat}
    (hl : QualLatched s (s.carrierLatched c car) (c.base + 0x01100100) valid bits errs) :
    (doQualBoundary c car subs s).rd (c.base + 0x01100104) = seqWord (s.rd (c.base + 0x01100104)) valid ∧
      (doQualBoundary c car subs s).getPair (c.base + 0x01100120) = bits % 2 ^ 64 ∧
      (doQualBoundary c car subs s).getPair (c.base + 0x01100128) = errs % 2 ^ 64 ∧
      Recorded (Ev.RXD.QUAL_READY c) s (doQualBoundary c car subs s) ∧ Elsewhere s (doQualBoundary c car subs s) := by
  rw [doQualBoundary_carrier h]
  obtain ⟨havg, helse⟩ := (s.carrierLatched c car).avgShown_spec c (s.rcvOf (.car c))
  obtain ⟨hrd, hrec, helse'⟩ := ((s.carrierLatched c car).avgShown c (s.rcvOf (.car c))).qualEvents_spec c (s.rcvOf (.car c)).cprAll
    (if (s.rcvOf (.car c)).cprAny then car.slips else 0)
  have hboth : ∀ m, 0x01100100 ≤ m → m < 0x01200000 → _ = (s.carrierLatched c car).rd (c.base + m) := fun m hlo hhi =>
    (hrd m (by omega) (by omega)).trans (havg m (by omega))
  refine ⟨(hboth _ (by decide) (by decide)).trans hl.seq, ?_, ?_, ?_, hl.elsewhere.trans (helse.trans helse')⟩
  · exact (Chip.getPair_congr (hboth 0x01100120 (by decide) (by decide)) (hboth 0x01100124 (by decide) (by decide))).trans hl.bits
  · exact (Chip.getPair_congr (hboth 0x01100128 (by decide) (by decide)) (hboth 0x0110012C (by decide) (by decide))).trans hl.errs
  · exact .of_sticky ((havg 0x011000F8 (by decide)).trans (hl.rd _ (by omega))) hrec

/-- An interval in which CPR_LOCK was never 1, and one in which it was (R95). -/
theorem carrierLatched_idle {s : Chip} {c : Carrier} (h : (s.rcvOf (.car c)).cprAny = false) (car : QualFig) :
    QualLatched s (s.carrierLatched c car) (c.base + 0x01100100) false 0 0 := by
  have hdo : s.carrierLatched c car = s.latchNoQual (c.base + 0x01100100) := if_neg (by simp [h])
  rw [hdo]
  exact s.latchNoQual_latched _

theorem carrierLatched_locked {s : Chip} {c : Carrier} (h : (s.rcvOf (.car c)).cprAny = true) (car : QualFig) :
    QualLatched s (s.carrierLatched c car) (c.base + 0x01100100) (s.rcvOf (.car c)).cprAll car.bits car.errs := by
  have hdo : s.carrierLatched c car = s.latchQual (c.base + 0x01100100) (s.rcvOf (.car c)).cprAll car ((s.rcvOf (.car c)).cd + car.cdResidual) :=
    if_pos h
  rw [hdo]
  exact s.latchQual_latched _ _ _ _

/-- Settles O19, command by command: each is one equation in the case at hand, and the laws of the operations in it say what its registers, its receiver
and its events read. -/
theorem receiverFigures : Obligations.ReceiverFigures := by
  refine ⟨fun s c xi xq yi yq => ⟨fun hpll => answers_of_to rfl ?_, fun hpll => answers_of_to rfl fun l hl => ?_, fun hpll => answers_of_to rfl ?_⟩,
    fun s c residual => ⟨fun hst hen hmode hthr => answers_of_to rfl ?_, fun hthr => ?_, answers_of_to rfl ?_⟩,
    fun s c f b => ⟨fun hne => answers_of_to rfl ?_, fun r heq => ?_, fun hst => answers_of_to rfl ?_⟩,
    fun s c car subs hsub => answers_of_to rfl ?_⟩
  · obtain ⟨hget, hkept, hquiet⟩ := doAdcTick_spec c xi xq yi yq s.chip
    rw [hpll] at hget
    exact ⟨hget 0 (by decide), hget 3 (by decide), hkept, hquiet⟩
  · obtain ⟨hget, -, -⟩ := doAdcTick_spec c xi xq yi yq s.chip
    rw [hpll] at hget
    exact hget l hl
  · obtain ⟨hpair, hflag, hrec, hquiet⟩ := doAdcClipWindow_spec hpll xi xq yi yq
    exact ⟨hpair, hflag 0 (by decide), hflag 2 (by decide), hrec, hquiet⟩
  · have hbit : (Ev.RXD.CD_LIMIT c).bit < 32 := by cases c <;> decide
    rw [doCdTrackUpdate_moves hst hen hmode hthr, Chip.rcvOf_congr (Chip.rcv_raiseIf _ _ _), Chip.rcvOf_setRcv_self]
    exact ⟨rfl, fun hlim hmoved => recorded_raiseIf (s.chip.setRcv _ _) hbit (decide_eq_true ⟨hlim, hmoved⟩),
      keptBut_raiseIf (s.chip.setRcv _ _) _ hbit⟩
  · exact congrArg s.to (doCdTrackUpdate_below hthr)
  · exact ⟨Chip.flag_setFlag_self _ _ _ rfl (by cases c <;> decide), keptBut_setF _ _ _, quiet_setF _ _ _⟩
  · exact Chip.setLock_spec hne
  · exact congrArg s.to (Chip.setLock_stays heq)
  · exact doCfrRange_acquired_spec hst
  · cases hany : (s.chip.rcvOf (.car c)).cprAny with
    | false =>
      obtain ⟨hseq, hbits, herrs, hrec, helse⟩ := (carrierLatched_idle hany car).boundary hsub subs
      rw [hseq, hbits, herrs, seqWord_mod, toNat_seqWord]
      exact ⟨rfl, hrec, fun _ => ⟨rfl, rfl, rfl⟩, fun h => absurd h (by decide), helse⟩
    | true =>
      obtain ⟨hseq, hbits, herrs, hrec, helse⟩ := (carrierLatched_locked hany car).boundary hsub subs
      rw [hseq, hbits, herrs, seqWord_mod, seqWord_valid]
      exact ⟨rfl, hrec, fun h => absurd h (by decide), fun _ => ⟨rfl, rfl, rfl⟩, helse⟩

end Sys2Proof.Machine
end

section
/-! SUPPORT. What the judgements that end a step of a receiver leave of the live conditions and of the alignment of the framers. One law per
operation, in the form of the laws for the rest of the line. -/

namespace Sys2Proof.Machine

/-- From one chip to the next every live condition and the alignment of every framer stand. -/
structure Chip.EndKept (s t : Chip) : Prop where
  live : t.live = s.live
  align : ∀ c k, (t.frmOf c k).align = (s.frmOf c k).align

section
variable {s₀ s : Chip}

theorem Chip.EndKept.refl (s : Chip) : Chip.EndKept s s := ⟨rfl, fun _ _ => rfl⟩

theorem Chip.EndKept.ite {c : Prop} {_ : Decidable c} {t : Chip} (h : Chip.EndKept s₀ s) (h' : Chip.EndKept s₀ t) :
    Chip.EndKept s₀ (if c then s else t) := by
  split <;> assumption

theorem Chip.EndKept.foldl {α : Type} {f : Chip → α → Chip} {l : List α} (h : Chip.EndKept s₀ s)
    (hf : ∀ u x, Chip.EndKept s₀ u → Chip.EndKept s₀ (f u x)) : Chip.EndKept s₀ (l.foldl f s) := by
  induction l generalizing s with
  | nil => exact h
  | cons x l ih => exact ih (hf s x h)

/-- An update of registers and of hidden state that is no live condition and no framer. -/
theorem Chip.EndKept.same {rg ac fi n fu tp ck x rc fe su pm de ws ti gr pg lo le se ev ts po bo mg pc mo la re} (h : Chip.EndKept s₀ s) :
    Chip.EndKept s₀ ⟨rg, ac, s.live, fi, n, fu, tp, ck, x, rc, fe, su, s.frm, pm, de, ws, ti, gr, pg, lo, le, se, ev, ts, po, bo, mg, pc, mo,
      la, re⟩ := ⟨h.live, h.align⟩

theorem Chip.EndKept.setF (h : Chip.EndKept s₀ s) {f v} : Chip.EndKept s₀ (s.setF f v) := ⟨h.live, h.align⟩

theorem Chip.EndKept.raise (h : Chip.EndKept s₀ s) {e} : Chip.EndKept s₀ (s.raise e) := by
  rw [quiet_raise s e]
  exact h.same

/-- A framer's store entry read after one is written. -/
theorem Chip.frmOf_setFrm (s : Chip) (c d : Carrier) (k j : Nat) (v : FrmSt) :
    (s.setFrm c k v).frmOf d j = if 16 * d.ix + j = 16 * c.ix + k then v else s.frmOf d j := Tab.get_put _ _ _ _ _

/-- An update of a framer that leaves its alignment. -/
theorem Chip.EndKept.setFrm (h : Chip.EndKept s₀ s) {c k v} (hv : v.align = (s.frmOf c k).align := by rfl) :
    Chip.EndKept s₀ (s.setFrm c k v) := by
  refine ⟨h.live, fun d j => ?_⟩
  rw [Chip.frmOf_setFrm, ← h.align]
  split
  · next hi => rw [hv, Chip.frmOf, ← hi, Chip.frmOf]
  · rfl

/-! One law per operation, in the order of the definitions. -/

theorem Chip.EndKept.raiseFrm (h : Chip.EndKept s₀ s) {c t e} : Chip.EndKept s₀ (s.raiseFrm c t e) := h.raise.setF
theorem Chip.EndKept.trailSettle (h : Chip.EndKept s₀ s) {c t} : Chip.EndKept s₀ (s.trailSettle c t) := by
  unfold Chip.trailSettle
  extract_lets raw stat old s1 rise fall s2 f f1 f2 s3 s4
  have h1 : Chip.EndKept s₀ s1 := h.setF.setF
  have h2 : Chip.EndKept s₀ s2 := .ite h1 h1.setF.raiseFrm
  have h3 : Chip.EndKept s₀ s3 := .ite h2 h2.setF.raiseFrm
  have h4 : Chip.EndKept s₀ s4 := .ite h3 h3.setFrm
  exact h4.same
theorem Chip.EndKept.raisePg (h : Chip.EndKept s₀ s) {g e} : Chip.EndKept s₀ (s.raisePg g e) := h.raise.setF
theorem Chip.EndKept.setCond (h : Chip.EndKept s₀ s) {g new} : Chip.EndKept s₀ (s.setCond g new) := by
  unfold Chip.setCond
  extract_lets old d s1 s2 s3
  have h1 : Chip.EndKept s₀ s1 := h.setF
  have h2 : Chip.EndKept s₀ s2 := .ite h1.raisePg h1
  have h3 : Chip.EndKept s₀ s3 := .ite h2.raisePg h2
  exact .ite h (.ite (.raisePg h3.same) h3)
theorem Chip.EndKept.fopClear (h : Chip.EndKept s₀ s) {g} : Chip.EndKept s₀ (s.fopClear g) := by
  unfold Chip.fopClear
  extract_lets k v pm nr s1
  have h1 : Chip.EndKept s₀ s1 := .ite h.setF.raisePg h
  exact .ite h1.setF.raisePg h1
theorem Chip.EndKept.pgAlign (h : Chip.EndKept s₀ s) {g} : Chip.EndKept s₀ (s.pgAlign g) := .ite h.setF.same h
theorem Chip.EndKept.pgConditions (h : Chip.EndKept s₀ s) {g} : Chip.EndKept s₀ (s.pgConditions g) :=
  have hraw : Chip.EndKept s₀ (s.setPg g _) := h.same
  hraw.setCond
theorem Chip.EndKept.pgRequests (h : Chip.EndKept s₀ s) {g} : Chip.EndKept s₀ (s.pgRequests g) :=
  have hreq : Chip.EndKept s₀ (s.setPg g _) := h.same
  hreq.setF
theorem Chip.EndKept.pgSettle (h : Chip.EndKept s₀ s) {g} : Chip.EndKept s₀ (s.pgSettle g) := h.pgAlign.pgConditions.pgRequests.fopClear
theorem Chip.EndKept.startSession (h : Chip.EndKept s₀ s) {c g u retest} : Chip.EndKept s₀ (s.startSession c g u retest) :=
  have hstart : Chip.EndKept s₀ (s.setGrp c g _) := h.same
  hstart.setF.setF
theorem Chip.EndKept.sweepGroup (h : Chip.EndKept s₀ s) {c g} : Chip.EndKept s₀ (s.sweepGroup c g) := by
  refine .ite h (.ite h.same (.ite h ?_))
  split
  exacts [.ite h h.setF.same, .ite h.setF.same (.ite h h.startSession)]
theorem Chip.EndKept.bistGroup (h : Chip.EndKept s₀ s) {c g} : Chip.EndKept s₀ (s.bistGroup c g) := by
  unfold Chip.bistGroup
  extract_lets v s1 s2 w
  have h1 : Chip.EndKept s₀ s1 := by
    unfold s1
    split
    exacts [.ite h h.startSession, h]
  have h2 : Chip.EndKept s₀ s2 := h1.sweepGroup.sweepGroup
  split
  exacts [.ite h2.startSession h2, h2]
theorem Chip.EndKept.bistSettle (h : Chip.EndKept s₀ s) : Chip.EndKept s₀ s.bistSettle := by
  have h1 : Chip.EndKept s₀ (allGroups.foldl (fun u p => u.bistGroup p.1 p.2) s) := h.foldl fun _ _ hu => hu.bistGroup
  exact .ite h1.setF.setF.raise h1
theorem Chip.EndKept.subcSettle (h : Chip.EndKept s₀ s) {c} : Chip.EndKept s₀ (s.subcSettle c) := .ite h h.setF.raise
theorem Chip.EndKept.stepShadow (h : Chip.EndKept s₀ s) {c code up} : Chip.EndKept s₀ (s.stepShadow c code up) := .ite h.setF (.ite h.setF h.setF)
theorem Chip.EndKept.sendOn (h : Chip.EndKept s₀ s) {p cls m} : Chip.EndKept s₀ (s.sendOn p cls m) := .ite h.same h
theorem Chip.EndKept.stepNotice (h : Chip.EndKept s₀ s) {c} : Chip.EndKept s₀ (s.stepNotice c) := by
  unfold Chip.stepNotice
  dsimp only
  refine .ite h.same (.ite h (.ite h ?_))
  split
  · exact .sendOn (.same (.same (.ite h.stepShadow.stepShadow h.stepShadow)))
  · exact .same (.ite h.stepShadow.stepShadow h.stepShadow)
theorem Chip.EndKept.settle (h : Chip.EndKept s₀ s) : Chip.EndKept s₀ s.settle :=
  .stepNotice (.stepNotice (.bistSettle (h.subcSettle.subcSettle.foldl fun _ _ hu => hu.pgSettle)))
theorem Chip.EndKept.rcvEnd_car (h : Chip.EndKept s₀ s) {c : Carrier} : Chip.EndKept s₀ (s.rcvEnd (.car c)) := h.trailSettle.settle
end

end Sys2Proof.Machine
end

section
/-! SUPPORT. The receivers in acquisition: what an entry into a state makes of a receiver's record, what it records, and what it leaves of the rest of
the line (R102, R104, R105). -/

namespace Sys2Proof.Machine

/-! ## Receivers' records -/

theorem Rcv.ix_injective {x y : Rcv} (h : x.ix = y.ix) : x = y := by
  cases y with
  | car c => exact Decidable.byContradiction fun hne => rcv_ix_ne_car hne h
  | sub c q =>
    cases x with
    | car d => exact absurd h.symm (rcv_ix_ne_car (by simp))
    | sub d p =>
      have hix : 17 * d.ix + 1 + p.val = 17 * c.ix + 1 + q.val := h
      have hd : d.ix = c.ix := by omega
      have hdc : d = c := by
        revert hd
        cases c <;> cases d <;> decide
      rw [hdc, Fin.ext (by omega : p.val = q.val)]

theorem Chip.rcvOf_setRcv (s : Chip) (x y : Rcv) (v : RcvSt) : (s.setRcv x v).rcvOf y = if y = x then v else s.rcvOf y :=
  (Tab.get_put _ _ _ _ _).trans (if_congr ⟨Rcv.ix_injective, congrArg Rcv.ix⟩ rfl rfl)

theorem Chip.rcvOf_modRcv_self (s : Chip) (x : Rcv) (f : RcvSt → RcvSt) : (s.modRcv x f).rcvOf x = f (s.rcvOf x) :=
  s.rcvOf_setRcv_self x _

/-- Codeword lock that ends touches the fields of the decoder alone (R128, R132). -/
theorem RcvSt.noCwLock_eq (v : RcvSt) : v.noCwLock =
    { v with cwLock := false, failRun := v.noCwLock.failRun, blocks := v.noCwLock.blocks, last64 := v.noCwLock.last64, ub := v.noCwLock.ub } := by
  unfold RcvSt.noCwLock
  split
  · rfl
  · next h => rw [← Bool.eq_false_iff.mpr h]

/-- A receiver in DETECT with the parameters of ACQ_CFG and WARM_CFG (R105, R113). -/
def RcvSt.inDetect (v : RcvSt) (cfg : AcqCfg) (warm : Bool) : RcvSt :=
  let v1 := if cfg.warmHold = 0 then v.discardWarm else v
  { v1.noPartial with state := 1, warm := warm && v1.warmValid, present := 0, absent := 0, cfg := cfg, begun := false }

theorem RcvSt.warmValid_inDetect (v : RcvSt) (cfg : AcqCfg) (warm : Bool) :
    (v.inDetect cfg warm).warmValid = if cfg.warmHold = 0 then false else v.warmValid := by
  unfold RcvSt.inDetect
  dsimp only [RcvSt.noPartial]
  split <;> rfl

theorem Chip.rcvOf_enterDetect_car (s : Chip) (c : Carrier) (warm : Bool) :
    (s.enterDetect (.car c) warm).rcvOf (.car c) = ((s.rcvOf (.car c)).inDetect (s.acqCfg c) warm).noCwLock := by
  rw [Chip.enterDetect, Chip.rcvOf_dropCwLock_car, Chip.rcvOf_modRcv_self]
  rfl

/-- What an entry into DETECT makes of the state and the warm state (R105, R108). -/
theorem Chip.rcvOf_enterDetect_fields (s : Chip) (c : Carrier) (warm : Bool) :
    let v := (s.enterDetect (.car c) warm).rcvOf (.car c)
    v.state = 1 ∧ v.warmValid = (if (s.acqCfg c).warmHold = 0 then false else (s.rcvOf (.car c)).warmValid) ∧ v.warm = (warm && v.warmValid) := by
  rw [Chip.rcvOf_enterDetect_car, RcvSt.noCwLock_eq]
  exact ⟨rfl, RcvSt.warmValid_inDetect _ _ warm, rfl⟩

/-- What a cold restart makes of the state and its record of failures (R105). -/
theorem Chip.rcvOf_coldRestart (s : Chip) (c : Carrier) :
    let v := (s.coldRestart (.car c)).rcvOf (.car c)
    v.state = 2 ∧ v.lastFail = (s.rcvOf (.car c)).state ∧ v.attempts = min 255 ((s.rcvOf (.car c)).attempts + 1) ∧
      v.warmValid = (s.rcvOf (.car c)).warmValid := by
  rw [Chip.coldRestart, Chip.rcvOf_dropCwLock_car, Chip.rcvOf_modRcv_self, RcvSt.noCwLock_eq]
  exact ⟨rfl, rfl, rfl, rfl⟩

/-- A departure from ACQUIRED: to TRAIN_CORR with a warm state, to COARSE_FREQ without (R105). -/
theorem Chip.state_leaveAcquired (s : Chip) (c : Carrier) :
    ((s.leaveAcquired (.car c)).rcvOf (.car c)).state = if (s.rcvOf (.car c)).warmValid then 4 else 2 := by
  unfold Chip.leaveAcquired
  extract_lets v w s1 s2
  have h2 : (s2.rcvOf (.car c)).state = if v.warmValid then 4 else 2 := by
    unfold s2
    split
    · rw [Chip.rcvOf_modRcv_self, Chip.rcvOf_setRcv_self]
    · rw [Chip.rcvOf_setRcv_self]
  rw [Chip.raiseRcv, Chip.rcvOf_congr (Chip.rcv_raise _ _), Chip.rcvOf_dropCwLock_car, RcvSt.noCwLock_eq, Chip.rcvOf_beginAcq]
  exact h2

/-- A lock flag that takes its value leaves every field that is no lock flag (R88, R95). -/
theorem Chip.rcvOf_setLock_fields (s : Chip) (c : Carrier) (f : LockFlag) (b : Bool) :
    ((s.setLock (.car c) f b).rcvOf (.car c)).attempts = (s.rcvOf (.car c)).attempts ∧
      ∀ g, g ≠ f → ((s.setLock (.car c) f b).rcvOf (.car c)).lock g = (s.rcvOf (.car c)).lock g := by
  by_cases h : (s.rcvOf (.car c)).lock f = b
  · rw [Chip.setLock_stays h]
    exact ⟨rfl, fun _ _ => rfl⟩
  · refine ⟨?_, (Chip.setLock_spec h).2.1⟩
    rw [Chip.setLock_change h, Chip.rcvOf_congr (Chip.rcv_raise _ _), Chip.rcvOf_setRcv_self]
    cases f <;> rfl

/-- Two lock flags of a receiver that are set, one after the other (R104). -/
theorem Chip.rcvOf_setLock_setLock (s : Chip) (c : Carrier) {f g : LockFlag} (hfg : f ≠ g) :
    let v := ((s.setLock (.car c) f true).setLock (.car c) g true).rcvOf (.car c)
    v.lock f = true ∧ v.lock g = true ∧ v.state = (s.rcvOf (.car c)).state := by
  obtain ⟨hf, hstate⟩ := s.rcvOf_setLock c f true
  obtain ⟨hg, hstate'⟩ := (s.setLock (.car c) f true).rcvOf_setLock c g true
  exact ⟨((Chip.rcvOf_setLock_fields _ c g true).2 f hfg).trans hf, hg, hstate'.trans hstate⟩

/-! ## The frame of the line and the record -/

theorem LineFrame.kept {r : Prop} {s t u : Chip} (h : LineFrame s t) (k : Chip.LineKept r True t u) : LineFrame s u := h.trans k.lineFrame

theorem LineFrame.setLive {s t : Chip} (h : LineFrame s t) {e b} : LineFrame s (t.setLive e b) := h

theorem LineFrame.raiseAcq {s t : Chip} (h : LineFrame s t) {c : Carrier} {bit src : Nat} : LineFrame s (t.raise ⟨Ev.ACQ.base c, bit, src⟩) :=
  h.raise (carrier_block_mem c (b := c.base + 0x012000F0) (by omega))

theorem Chip.LineKept.coldRestart {a : Prop} {s₀ s : Chip} (h : Chip.LineKept False a s₀ s) {x} : Chip.LineKept False a s₀ (s.coldRestart x) :=
  h.modRcv.dropCwLock

theorem Chip.LineKept.offRange_car {a : Prop} {s₀ s : Chip} (h : Chip.LineKept False a s₀ s) {c : Carrier} :
    Chip.LineKept False a s₀ (s.offRange (.car c)) := (h.raise (.event c (by decide))).setLock

theorem Chip.RecordKept.coldRestart {g : Prop} {s₀ s : Chip} (h : Chip.RecordKept g s₀ s) {x} : Chip.RecordKept g s₀ (s.coldRestart x) :=
  h.setRcv.dropCwLock

theorem Chip.RecordKept.enterDetect {g : Prop} {s₀ s : Chip} (h : Chip.RecordKept g s₀ s) {x warm} :
    Chip.RecordKept g s₀ (s.enterDetect x warm) :=
  h.setRcv.dropCwLock

theorem Chip.RecordKept.raiseRcv {g : Prop} {s₀ s : Chip} (h : Chip.RecordKept g s₀ s) {x e e'} : Chip.RecordKept g s₀ (s.raiseRcv x e e') := by
  cases x with
  | car c => exact h.raise
  | sub c q => exact h.raise

theorem Chip.RecordKept.enterIdle {g : Prop} {s₀ s : Chip} (h : Chip.RecordKept g s₀ s) {x} : Chip.RecordKept g s₀ (s.enterIdle x) :=
  .ite h.setRcv.dropCwLock.raiseRcv h.setRcv.dropCwLock

theorem isCarrierStat_acq (c : Carrier) : IsCarrierStat (Ev.ACQ.base c + 0xF0) := isCarrierStat_of_block c (n := 0x01200000) (by decide)

/-- An event of ACQ is recorded after what keeps the rest of the line. -/
theorem Chip.LineKept.recorded_acq {r a : Prop} {s t : Chip} (h : Chip.LineKept r a s t) {c : Carrier} {bit src : Nat} (hbit : bit < 32) :
    Recorded ⟨Ev.ACQ.base c, bit, src⟩ s (t.raise ⟨Ev.ACQ.base c, bit, src⟩) :=
  .of_sticky (h.rd _ (not_lineReg_acqSticky c)) (recorded_raise t _ hbit)

/-! ## The end of a step of a carrier's receiver -/

/-! The judgements that end such a step leave the receivers, the frame of the line, the events recorded, the live conditions and the aligners. -/

theorem Chip.rcvOf_rcvEnd_car (s : Chip) (c : Carrier) (x : Rcv) : (s.rcvEnd (.car c)).rcvOf x = s.rcvOf x :=
  Chip.rcvOf_congr ((Chip.LineKept.refl (r := True) (a := True) s).rcvEnd_car.rcv trivial) x

theorem LineFrame.rcvEnd_car {s t : Chip} (h : LineFrame s t) {c : Carrier} : LineFrame s (t.rcvEnd (.car c)) :=
  h.kept (Chip.LineKept.refl (r := True) t).rcvEnd_car

theorem Recorded.rcvEnd_car {e : Ev} {s t : Chip} (h : Recorded e s t) (he : IsCarrierStat (e.base + 0xF0)) {c : Carrier} :
    Recorded e s (t.rcvEnd (.car c)) := h.recordKept (Chip.RecordKept.refl (g := True) t).rcvEnd_car he

theorem Chip.liveWord_rcvEnd_car (s : Chip) (c : Carrier) (b : Nat) : (s.rcvEnd (.car c)).liveWord b = s.liveWord b := by
  rw [Chip.liveWord, (Chip.EndKept.refl s).rcvEnd_car.live, Chip.liveWord]

theorem Chip.align_rcvEnd_car (s : Chip) (c d : Carrier) (k : Nat) : ((s.rcvEnd (.car c)).frmOf d k).align = (s.frmOf d k).align :=
  (Chip.EndKept.refl s).rcvEnd_car.align d k

/-! ## Registers of a carrier's receiver -/

theorem LineFrame.setCarrierF {s t : Chip} (h : LineFrame s t) {c : Carrier} {n lo width v : Nat}
    (hn : 0x01000000 ≤ n ∧ n < 0x01800000 := by decide) :
    LineFrame s (t.setF ⟨c.base + n, lo, width⟩ v) := h.setF (carrier_block_mem c (by dsimp only; omega))

theorem not_lineReg_acqCtrl (c : Carrier) : ¬ LineReg (Reg.ACQ.ACQ_CTRL.addr c) := fun h =>
  absurd (LineReg.stat_of_receive (m := 0x01200000) h (by decide)) (by decide)

end Sys2Proof.Machine
end

section
/-! SUPPORT. Signal and enables of an acquisition: loss of signal, the enable bit of a carrier, and restarts (R101 to R105). -/

namespace Sys2Proof.Machine

/-! ## Loss of signal -/

/-- The record of a receiver after a present level window (R72, R103). -/
def Chip.windowPresent (s : Chip) (c : Carrier) : RcvSt :=
  let v := s.rcvOf (.car c)
  { v with present := v.present + 1, absent := 0, firstPresent := if v.present = 0 then s.now - 2048 else v.firstPresent }

/-- The record of a receiver after an absent level window (R72, R102). -/
def Chip.windowAbsent (s : Chip) (c : Carrier) : RcvSt :=
  let v := s.rcvOf (.car c)
  { v with present := 0, absent := v.absent + 1 }

/-- A present window outside DETECT ends loss of signal and does no more (R102, R103). -/
theorem doSignalWindow_present {s : Chip} {c : Carrier} {sum : Nat} (hpll : (s.txd.get c).pllLol = false) (hst : (s.rcvOf (.car c)).state ≠ 1)
    (hsum : 4 * (s.rcvOf (.car c)).cfg.sdThr ≤ sum) :
    doSignalWindow (.car c) sum s = ((s.setRcv (.car c) (s.windowPresent c)).endLos (.car c)).rcvEnd (.car c) := by
  unfold doSignalWindow
  dsimp only [Chip.levelThr, Rcv.carrier]
  rw [if_pos (by simp [hpll, hsum]), if_neg fun h => hst h.1]
  rfl

/-- The last absent window that a receiver with signal needs declares loss of signal (R102). -/
theorem doSignalWindow_absent {s : Chip} {c : Carrier} {sum : Nat}
    (hsum : sum < 4 * min (s.rcvOf (.car c)).cfg.losThr (s.rcvOf (.car c)).cfg.sdThr) (hlos : (s.rcvOf (.car c)).los = false)
    (hneed : (s.rcvOf (.car c)).losNeed ≤ (s.rcvOf (.car c)).absent + 1) :
    doSignalWindow (.car c) sum s = ((s.setRcv (.car c) (s.windowAbsent c)).declareLos (.car c)).rcvEnd (.car c) := by
  have hlow : ¬ 4 * (s.rcvOf (.car c)).cfg.sdThr ≤ sum := by omega
  unfold doSignalWindow
  dsimp only [Chip.levelThr, Rcv.carrier]
  rw [if_neg (by simp [hlow]), if_pos (by simp [hsum]), if_pos (by simp [hlos, hneed])]
  rfl

/-- The end of loss of signal: the receiver's flag and the live condition (R102). -/
theorem Chip.endLos_spec (s : Chip) (c : Carrier) :
    (s.endLos (.car c)).rcvOf (.car c) = { s.rcvOf (.car c) with los := false } ∧
      ((s.endLos (.car c)).liveWord (Ev.ACQ.base c)).getLsbD 2 = false ∧ LineFrame s (s.endLos (.car c)) := by
  have hrcv : (s.endLos (.car c)).rcv = (s.modRcv (.car c) fun v => { v with los := false }).rcv := rfl
  refine ⟨?_, Chip.getLsbD_liveWord_setLive _ (e := Ev.ACQ.LOS c) (by cases c <;> decide) false,
    (LineFrame.refl s).setRcv.setLive⟩
  rw [Chip.rcvOf_congr hrcv, Chip.rcvOf_modRcv_self]

/-- Loss of signal declared in ACQUIRED (R102, R105). -/
theorem Chip.declareLos_acquired {s : Chip} {c : Carrier} (h : (s.rcvOf (.car c)).state = 8) : s.declareLos (.car c) =
    (((s.setRcv (.car c) { s.rcvOf (.car c) with los := true }).assert (Ev.ACQ.LOS c)).enterDetect (.car c)
      (s.rcvOf (.car c)).warmValid).raise (Ev.ACQ.LOST c) := if_pos h

/-- Loss of signal declared in ACQUIRED is recorded as LOS and as LOST. -/
theorem Chip.declareLos_recorded {s : Chip} {c : Carrier} (h : (s.rcvOf (.car c)).state = 8) :
    Recorded (Ev.ACQ.LOS c) s (s.declareLos (.car c)) ∧ Recorded (Ev.ACQ.LOST c) s (s.declareLos (.car c)) := by
  rw [Chip.declareLos_acquired h]
  generalize { s.rcvOf (.car c) with los := true } = v
  have hset : Chip.LineKept False True s ((s.setRcv (.car c) v).setLive (Ev.ACQ.LOS c) true) :=
    (Chip.LineKept.refl s).setRcv.setLive (.event c (by decide))
  refine ⟨?_, ((hset.raise (.event c (by decide))).enterDetect).recorded_acq (by decide)⟩
  exact (hset.recorded_acq (by decide)).recordKept (Chip.RecordKept.refl (g := True) _).enterDetect.raise (isCarrierStat_acq c)

/-! ## The enable bit and restarts -/

/-- The enable bit of an acquisition is no line setting (R61). -/
theorem Chip.receivers_setAcqEn (s : Chip) (c : Carrier) (b : Bool) :
    (s.setFlag (Reg.ACQ.ACQ_CTRL.ACQ_EN c) b).receivers c = s.receivers c := by
  have hrd : ∀ m, m ≠ 0x01200000 → (s.setFlag (Reg.ACQ.ACQ_CTRL.ACQ_EN c) b).rd (c.base + m) = s.rd (c.base + m) := fun m hm =>
    Chip.rd_setF_ne _ _ _ (carrier_addr_ne c hm)
  exact Chip.receivers_congr (Chip.lineApplied_congr (hrd 0x01000008 (by decide)) (hrd 0x01100004 (by decide)) (hrd 0x01600010 (by decide))
    (hrd 0x0160001C (by decide)))

theorem Chip.flag_setAcqEn (s : Chip) (c : Carrier) (b : Bool) :
    (s.setFlag (Reg.ACQ.ACQ_CTRL.ACQ_EN c) b).flag (Reg.ACQ.ACQ_CTRL.ACQ_EN c) = b :=
  Chip.flag_setFlag_self _ _ _ rfl (by cases c <;> decide)

theorem lineFrame_setAcqEn (s : Chip) (c : Carrier) (b : Bool) : LineFrame s (s.setFlag (Reg.ACQ.ACQ_CTRL.ACQ_EN c) b) :=
  (LineFrame.refl s).setCarrierF

theorem doAcqEnSet_idle {s : Chip} {c : Carrier} (hr : s.receivers c = [.car c]) (hst : (s.rcvOf (.car c)).state = 0) :
    doAcqEnSet c s = ((s.setFlag (Reg.ACQ.ACQ_CTRL.ACQ_EN c) true).enterDetect (.car c) false).rcvEnd (.car c) := by
  have hst' : ((s.setFlag (Reg.ACQ.ACQ_CTRL.ACQ_EN c) true).rcvOf (.car c)).state = 0 :=
    (congrArg RcvSt.state (Chip.rcvOf_congr (Chip.setFlag_rcv _ _ _) _)).trans hst
  rw [doAcqEnSet, Chip.receivers_setAcqEn, hr, List.foldl_cons, List.foldl_nil, if_pos hst']

/-- A restart of a receiver that is not in IDLE, before LOST (R105). -/
def Chip.restarted (s : Chip) (c : Carrier) (cold : Bool) : Chip :=
  (if cold then s.modRcv (.car c) RcvSt.discardWarm else s).enterDetect (.car c) (!cold && (s.rcvOf (.car c)).warmValid)

theorem Chip.restart_acquired {s : Chip} {c : Carrier} (h : (s.rcvOf (.car c)).state = 8) (cold : Bool) :
    s.restart (.car c) cold = (s.restarted c cold).raise (Ev.ACQ.LOST c) := by
  rw [Chip.restart, if_neg (by rw [h]; decide), if_pos h]
  rfl

theorem Chip.restart_searching {s : Chip} {c : Carrier} (h0 : (s.rcvOf (.car c)).state ≠ 0) (h8 : (s.rcvOf (.car c)).state ≠ 8) (cold : Bool) :
    s.restart (.car c) cold = s.restarted c cold := by
  rw [Chip.restart, if_neg h0, if_neg h8]
  rfl

theorem Chip.restart_spec {s : Chip} {c : Carrier} (hst : (s.rcvOf (.car c)).state ≠ 0) (cold : Bool) :
    (s.restart (.car c) cold).rcvOf (.car c) = (s.restarted c cold).rcvOf (.car c) ∧
      ((s.rcvOf (.car c)).state = 8 → Recorded (Ev.ACQ.LOST c) s (s.restart (.car c) cold)) ∧ LineFrame s (s.restart (.car c) cold) := by
  have hkept : Chip.LineKept False True s (s.restarted c cold) := .enterDetect (.ite (Chip.LineKept.refl s).modRcv (.refl s))
  by_cases h8 : (s.rcvOf (.car c)).state = 8
  · rw [Chip.restart_acquired h8]
    exact ⟨Chip.rcvOf_congr (Chip.rcv_raise _ _) _, fun _ => hkept.recorded_acq (by decide), hkept.lineFrame.raiseAcq⟩
  · rw [Chip.restart_searching hst h8]
    exact ⟨rfl, fun h => absurd h h8, hkept.lineFrame⟩

end Sys2Proof.Machine
end

section
/-! SUPPORT. The enable bit cleared: every receiver of the carrier goes to IDLE, one after the other (R105). -/

namespace Sys2Proof.Machine

/-! ## The end of a step of any receiver -/

/-- The state of a receiver's acquisition, of every receiver, and ACQ_CTRL of both carriers stand; what was recorded stays recorded, and the frame of
the line stands. -/
structure Chip.SearchKept (s t : Chip) : Prop where
  state : ∀ x, (t.rcvOf x).state = (s.rcvOf x).state
  ctrl : ∀ c, t.rd (Reg.ACQ.ACQ_CTRL.addr c) = s.rd (Reg.ACQ.ACQ_CTRL.addr c)
  frame : LineFrame s t
  record : Chip.RecordKept True s t

theorem Chip.SearchKept.refl (s : Chip) : Chip.SearchKept s s := ⟨fun _ => rfl, fun _ => rfl, .refl s, .refl s⟩

theorem Chip.SearchKept.trans {s t u : Chip} (h : Chip.SearchKept s t) (k : Chip.SearchKept t u) : Chip.SearchKept s u :=
  ⟨fun x => (k.state x).trans (h.state x), fun c => (k.ctrl c).trans (h.ctrl c), h.frame.trans k.frame, h.record.trans k.record⟩

/-- A scan that gets its slot is no change of state (R149). -/
theorem Chip.startWaitingScans_kept (s : Chip) (c : Carrier) : Chip.SearchKept s (s.startWaitingScans c) := by
  have hone : ∀ (q : Fin 16) (t : Chip) (v : RcvSt), v.state = (t.rcvOf (.sub c q)).state → Chip.SearchKept t (t.setRcv (.sub c q) v) := by
    intro q t v hv
    refine ⟨fun x => ?_, fun _ => rfl, (LineFrame.refl t).setRcv, (Chip.RecordKept.refl t).setRcv⟩
    rw [Chip.rcvOf_setRcv]
    split
    · next hx => rw [hv, hx]
    · rfl
  unfold Chip.startWaitingScans
  generalize List.finRange 16 = l
  induction l generalizing s with
  | nil => exact .refl s
  | cons q l ih =>
    refine Chip.SearchKept.trans ?_ (ih _)
    dsimp only
    split
    · exact hone q s _ rfl
    · exact .refl s

theorem carrier_offset_ne (c d : Carrier) {m n : Nat} (h : m % 0x800000 ≠ n % 0x800000) : c.base + m ≠ d.base + n := by
  rw [carrier_base_eq, carrier_base_eq]
  omega

section
variable {s₀ s : Chip}

theorem Chip.SearchKept.ite {c : Prop} {_ : Decidable c} {t : Chip} (h : Chip.SearchKept s₀ s) (h' : Chip.SearchKept s₀ t) :
    Chip.SearchKept s₀ (if c then s else t) := by
  split <;> assumption

theorem Chip.SearchKept.setSubc (h : Chip.SearchKept s₀ s) {c v} : Chip.SearchKept s₀ (s.setSubc c v) :=
  ⟨h.state, h.ctrl, h.frame, h.record.same⟩

theorem Chip.SearchKept.setInlet (h : Chip.SearchKept s₀ s) {c st} : Chip.SearchKept s₀ (s.setInlet c st) := by
  have hstat : Chip.SearchKept s₀ (s.setF (Reg.SUBC.INLET_TX_STAT.STATE c) st) :=
    ⟨fun x => (congrArg RcvSt.state (Chip.rcvOf_congr (s.setF_rcv _ _) x)).trans (h.state x),
      fun d => (Chip.rd_setF_ne _ _ _ (carrier_offset_ne d c (by decide))).trans (h.ctrl d), h.frame.setCarrierF, h.record.setOwn⟩
  exact hstat.setSubc

theorem Chip.SearchKept.drawDelay (h : Chip.SearchKept s₀ s) {c n} : Chip.SearchKept s₀ (s.drawDelay c n) :=
  have hfree : Chip.SearchKept s₀ s.free.2 := ⟨h.state, h.ctrl, h.frame, h.record.free⟩
  hfree.setSubc

theorem Chip.SearchKept.inletSettle (h : Chip.SearchKept s₀ s) {c} : Chip.SearchKept s₀ (s.inletSettle c) :=
  .ite h (.ite h.setInlet (.ite (.ite h.setInlet.drawDelay h) (.ite h.setInlet (.ite h.setSubc h))))
end

/-- The judgements that end every step of the line are no steps of an acquisition. -/
theorem Chip.trailSettle_settle_kept (s : Chip) (c : Carrier) {t : Nat} (ht : t < 16) : Chip.SearchKept s (s.trailSettle c t).settle := by
  have hkept : Chip.LineKept True True s (s.trailSettle c t).settle := ((Chip.LineKept.refl s).trailSettle ht).settle
  exact ⟨fun x => congrArg RcvSt.state (Chip.rcvOf_congr (hkept.rcv trivial) x), fun d => hkept.rd _ (not_lineReg_acqCtrl d), hkept.lineFrame,
    (Chip.RecordKept.refl s).trailSettle.settle⟩

theorem Chip.rcvEnd_kept (s : Chip) (x : Rcv) : Chip.SearchKept s (s.rcvEnd x) := by
  cases x with
  | car c => exact s.trailSettle_settle_kept c (by decide)
  | sub c q => exact (s.startWaitingScans_kept c).inletSettle.trans (Chip.trailSettle_settle_kept _ c q.isLt)

/-! ## Receivers that go to IDLE -/

/-- Codeword lock that ends is a change of one receiver (R128). -/
theorem Chip.rcvOf_dropCwLock_ne (s : Chip) {x y : Rcv} (h : y ≠ x) : (s.dropCwLock x).rcvOf y = s.rcvOf y := by
  have hset : ∀ (u : Chip) v, (u.setRcv x v).rcvOf y = u.rcvOf y := fun u v => (u.rcvOf_setRcv x y v).trans (if_neg h)
  have hwindow : ∀ u : Chip, (u.emptyWindow x).rcvOf y = u.rcvOf y := by
    intro u
    have hrcv : (u.emptyWindow x).rcv = (u.modRcv x fun v => { v with blocks := 0, last64 := [], ub := false }).rcv := by
      cases x <;> rfl
    rw [Chip.rcvOf_congr hrcv, Chip.modRcv, hset]
  unfold Chip.dropCwLock
  split
  · rw [hwindow, Chip.setCwLock]
    split
    · rfl
    · rw [Chip.rcvOf_congr (Chip.rcv_raiseCar _ _ _), hset]
  · rfl

theorem Chip.rcv_raiseRcv (s : Chip) (x : Rcv) (e e' : Carrier → Ev) : (s.raiseRcv x e e').rcv = s.rcv := by
  cases x with
  | car c => exact s.rcv_raise _
  | sub c q => exact s.rcv_raise _

/-- The states after an entry into IDLE (R105). -/
theorem Chip.state_enterIdle (s : Chip) (x y : Rcv) : ((s.enterIdle x).rcvOf y).state = if y = x then 0 else (s.rcvOf y).state := by
  have hdrop : ∀ v : RcvSt, v.state = 0 → (((s.setRcv x v).dropCwLock x).rcvOf y).state = if y = x then 0 else (s.rcvOf y).state := by
    intro v hv
    by_cases hy : y = x
    · rw [hy, (Chip.rcvOf_dropCwLock _ _).1, Chip.rcvOf_setRcv_self, hv, if_pos rfl]
    · rw [Chip.rcvOf_dropCwLock_ne _ hy, Chip.rcvOf_setRcv, if_neg hy, if_neg hy]
  unfold Chip.enterIdle
  dsimp only
  split
  · rw [Chip.rcvOf_congr (Chip.rcv_raiseRcv _ _ _ _)]
    exact hdrop _ rfl
  · exact hdrop _ rfl

/-- An entry into IDLE from ACQUIRED is recorded as LOST (R105). -/
theorem Chip.enterIdle_acquired_recorded {s : Chip} {c : Carrier} (h : (s.rcvOf (.car c)).state = 8) :
    Recorded (Ev.ACQ.LOST c) s (s.enterIdle (.car c)) := by
  unfold Chip.enterIdle
  dsimp only
  rw [if_pos h]
  exact Chip.LineKept.recorded_acq (Chip.LineKept.refl (a := True) s).setRcv.dropCwLock (by decide)

/-- A receiver's own step to IDLE. -/
def Chip.idled (s : Chip) (x : Rcv) : Chip := (s.enterIdle x).rcvEnd x

/-- Receivers that go to IDLE one after the other: they are in IDLE, every other state stands, and so do ACQ_CTRL, the record and the frame of the
line. -/
theorem Chip.foldl_idled (l : List Rcv) (s : Chip) :
    (∀ x, ((l.foldl Chip.idled s).rcvOf x).state = if x ∈ l then 0 else (s.rcvOf x).state) ∧
      (∀ c, (l.foldl Chip.idled s).rd (Reg.ACQ.ACQ_CTRL.addr c) = s.rd (Reg.ACQ.ACQ_CTRL.addr c)) ∧ LineFrame s (l.foldl Chip.idled s) ∧
      Chip.RecordKept True s (l.foldl Chip.idled s) := by
  induction l generalizing s with
  | nil => exact ⟨fun _ => rfl, fun _ => rfl, .refl s, .refl s⟩
  | cons y l ih =>
    obtain ⟨hstate, hctrl, hframe, hrec⟩ := ih (s.idled y)
    have hidle : Chip.LineKept False True s (s.enterIdle y) := (Chip.LineKept.refl s).enterIdle
    have hend := (s.enterIdle y).rcvEnd_kept y
    refine ⟨fun x => ?_, fun c => ?_, ?_, ?_⟩
    · rw [List.foldl_cons, hstate, Chip.idled, hend.state, Chip.state_enterIdle]
      by_cases hxl : x ∈ l
      · rw [if_pos hxl, if_pos (List.mem_cons_of_mem _ hxl)]
      · simp only [hxl, List.mem_cons, or_false, if_false]
    · exact (hctrl c).trans ((hend.ctrl c).trans (hidle.rd _ (not_lineReg_acqCtrl c)))
    · exact (hidle.lineFrame.trans hend.frame).trans hframe
    · exact ((Chip.RecordKept.refl s).enterIdle.trans hend.record).trans hrec

theorem Carrier.mem_allReceivers {c : Carrier} {x : Rcv} : x ∈ Carrier.allReceivers c ↔ x.carrier = c := by
  cases x with
  | car d => simp [Carrier.allReceivers, Rcv.carrier]
  | sub d q => simp [Carrier.allReceivers, Rcv.carrier, eq_comm]

theorem doAcqEnClear_eq (c : Carrier) (s : Chip) :
    doAcqEnClear c s = (Carrier.allReceivers c).foldl Chip.idled (s.setFlag (Reg.ACQ.ACQ_CTRL.ACQ_EN c) false) := rfl

theorem doAcqEnClear_spec (c : Carrier) (s : Chip) :
    (doAcqEnClear c s).flag (Reg.ACQ.ACQ_CTRL.ACQ_EN c) = false ∧
      (∀ x, ((doAcqEnClear c s).rcvOf x).state = if x.carrier = c then 0 else (s.rcvOf x).state) ∧
      ((s.rcvOf (.car c)).state = 8 → Recorded (Ev.ACQ.LOST c) s (doAcqEnClear c s)) ∧ LineFrame s (doAcqEnClear c s) := by
  obtain ⟨hstate, hctrl, hframe, -⟩ := Chip.foldl_idled (Carrier.allReceivers c) (s.setFlag (Reg.ACQ.ACQ_CTRL.ACQ_EN c) false)
  have hrcv : ∀ x, (s.setFlag (Reg.ACQ.ACQ_CTRL.ACQ_EN c) false).rcvOf x = s.rcvOf x := Chip.rcvOf_congr (s.setFlag_rcv _ _)
  rw [doAcqEnClear_eq]
  refine ⟨(Chip.flag_congr (hctrl c)).trans (s.flag_setAcqEn c false), fun x => ?_, fun h8 => ?_, (lineFrame_setAcqEn s c false).trans hframe⟩
  · rw [hstate, hrcv]
    exact if_congr Carrier.mem_allReceivers rfl rfl
  · have hlost : Recorded (Ev.ACQ.LOST c) s ((s.setFlag (Reg.ACQ.ACQ_CTRL.ACQ_EN c) false).idled (.car c)) :=
      (Recorded.of_sticky (Chip.rd_setF_ne _ _ _ (carrier_addr_ne c (m := 0x012000F8) (by decide)))
        (Chip.enterIdle_acquired_recorded ((congrArg RcvSt.state (hrcv _)).trans h8))).rcvEnd_car (isCarrierStat_acq c)
    obtain ⟨-, -, -, hrec⟩ := Chip.foldl_idled ((List.finRange 16).map (.sub c)) ((s.setFlag (Reg.ACQ.ACQ_CTRL.ACQ_EN c) false).idled (.car c))
    rw [Carrier.allReceivers, List.foldl_cons]
    exact hlost.recordKept hrec (isCarrierStat_acq c)

/-- Settles O21, command by command: each is an update of the receiver and the entry into its state, and the judgements that end the step leave
both. -/
theorem acquisitionEntry : Obligations.AcquisitionEntry := by
  intro s c
  refine ⟨fun sum hpll hst hsum => answers_of_to rfl ?_, fun sum hsum hlos hneed hst => answers_of_to rfl ?_, fun hr hst => answers_of_to rfl ?_,
    answers_of_to rfl ?_, fun hr hst => answers_of_to rfl ?_, fun hr hst hhold => answers_of_to rfl ?_⟩
  · obtain ⟨hrcv, hlive, hframe⟩ := (s.chip.setRcv (.car c) (s.chip.windowPresent c)).endLos_spec c
    rw [doSignalWindow_present hpll hst hsum, Chip.rcvOf_rcvEnd_car, Chip.liveWord_rcvEnd_car, hrcv, Chip.rcvOf_setRcv_self]
    exact ⟨rfl, rfl, hlive, ((LineFrame.refl s.chip).setRcv.trans hframe).rcvEnd_car⟩
  · have hst' : ((s.chip.setRcv (.car c) (s.chip.windowAbsent c)).rcvOf (.car c)).state = 8 := by
      rw [Chip.rcvOf_setRcv_self]
      exact hst
    obtain ⟨hlos', hstate⟩ := Chip.rcvOf_declareLos_acquired hst'
    obtain ⟨hrec, hrec'⟩ := Chip.declareLos_recorded hst'
    have hkept : Chip.LineKept False True s.chip ((s.chip.setRcv (.car c) (s.chip.windowAbsent c)).declareLos (.car c)) :=
      (Chip.LineKept.refl s.chip).setRcv.declareLos
    rw [doSignalWindow_absent hsum hlos hneed, Chip.rcvOf_rcvEnd_car]
    exact ⟨hlos', hstate, .rcvEnd_car (.of_sticky rfl hrec) (isCarrierStat_acq c), .rcvEnd_car (.of_sticky rfl hrec') (isCarrierStat_acq c),
      hkept.lineFrame.rcvEnd_car⟩
  · have hkept : Chip.LineKept False True (s.chip.setFlag (Reg.ACQ.ACQ_CTRL.ACQ_EN c) true) _ :=
      (Chip.LineKept.refl _).enterDetect (x := .car c) (warm := false)
    obtain ⟨hstate, -, hwarm⟩ := (s.chip.setFlag (Reg.ACQ.ACQ_CTRL.ACQ_EN c) true).rcvOf_enterDetect_fields c false
    have hctrl := ((Chip.rcvEnd_kept _ (.car c)).ctrl c).trans (hkept.rd _ (not_lineReg_acqCtrl c))
    rw [doAcqEnSet_idle hr hst, Chip.rcvOf_rcvEnd_car]
    exact ⟨(Chip.flag_congr hctrl).trans (s.chip.flag_setAcqEn c true), hstate, hwarm, ((lineFrame_setAcqEn s.chip c true).kept hkept).rcvEnd_car⟩
  · obtain ⟨hflag, hstate, hrec, hframe⟩ := doAcqEnClear_spec c s.chip
    exact ⟨hflag, fun r hr => (hstate r).trans (if_pos hr), fun r hr => (hstate r).trans (if_neg hr), hrec, hframe⟩
  · obtain ⟨hrcv, hrec, hframe⟩ := Chip.restart_spec hst true
    obtain ⟨hstate, hvalid, -⟩ := (s.chip.modRcv (.car c) RcvSt.discardWarm).rcvOf_enterDetect_fields c false
    have hdo : doRestartCold c s.chip = (s.chip.restart (.car c) true).rcvEnd (.car c) := by
      rw [doRestartCold, hr]
      rfl
    rw [hdo, Chip.rcvOf_rcvEnd_car, hrcv]
    refine ⟨hstate, hvalid.trans ?_, fun h8 => (hrec h8).rcvEnd_car (isCarrierStat_acq c), hframe.rcvEnd_car⟩
    rw [Chip.rcvOf_modRcv_self]
    split <;> rfl
  · obtain ⟨hrcv, -, hframe⟩ := Chip.restart_spec hst false
    obtain ⟨hstate, hvalid, hwarm⟩ := s.chip.rcvOf_enterDetect_fields c (s.chip.rcvOf (.car c)).warmValid
    have hdo : doRestartWarm c s.chip = (s.chip.restart (.car c) false).rcvEnd (.car c) := by
      rw [doRestartWarm, hr]
      rfl
    rw [hdo, Chip.rcvOf_rcvEnd_car, hrcv]
    rw [if_neg hhold] at hvalid
    rw [hvalid, Bool.and_self] at hwarm
    exact ⟨hstate, hwarm, hframe.rcvEnd_car⟩

end Sys2Proof.Machine
end

section
/-! SUPPORT. The stages of an acquisition, their failures, and the warm state (R104 to R108, R111). -/

namespace Sys2Proof.Machine

/-! ## Coarse frequency and the scan -/

/-- The coarse estimate shown in its register (R104). -/
def Chip.fofsShown (s : Chip) (c : Carrier) (mhz : Int) : Chip := s.setS (Reg.ACQ.COARSE_FOFS.FOFS c) mhz

theorem lineFrame_fofsShown (s : Chip) (c : Carrier) (mhz : Int) : LineFrame s (s.fofsShown c mhz) := (LineFrame.refl s).setCarrierF

theorem Chip.rcvOf_fofsShown (s : Chip) (c : Carrier) (mhz : Int) (x : Rcv) : (s.fofsShown c mhz).rcvOf x = s.rcvOf x :=
  Chip.rcvOf_congr (s.setF_rcv _ _) x

theorem Chip.rd_fofsShown (s : Chip) (c : Carrier) (mhz : Int) {m : Nat} (hm : m ≠ 0x01200018) :
    (s.fofsShown c mhz).rd (c.base + m) = s.rd (c.base + m) :=
  Chip.rd_setF_ne _ _ _ (carrier_addr_ne c hm)

/-- The coarse estimate in the receiver's record (R104). -/
def Chip.fofsTaken (s : Chip) (c : Carrier) (mhz : Int) : Chip := (s.fofsShown c mhz).modRcv (.car c) fun v => { v with fofs := mhz }

theorem Chip.rcvOf_fofsTaken (s : Chip) (c : Carrier) (mhz : Int) :
    (s.fofsTaken c mhz).rcvOf (.car c) = { s.rcvOf (.car c) with fofs := mhz } := by
  rw [Chip.fofsTaken, Chip.rcvOf_modRcv_self, Chip.rcvOf_fofsShown]

theorem lineFrame_fofsTaken (s : Chip) (c : Carrier) (mhz : Int) : LineFrame s (s.fofsTaken c mhz) := (lineFrame_fofsShown s c mhz).setRcv

theorem Chip.act_setRcv (s : Chip) (x : Rcv) (v : RcvSt) (b : Nat) : (s.setRcv x v).act b = s.act b := rfl

theorem Chip.act_fofsTaken (s : Chip) (c : Carrier) (mhz : Int) (b : Nat) : (s.fofsTaken c mhz).act b = s.act b :=
  (Chip.act_setRcv _ _ _ b).trans (s.act_setF _ _ b)

theorem Chip.flag_fofsTaken_cdMode (s : Chip) (c : Carrier) (mhz : Int) :
    (s.fofsTaken c mhz).flag (Reg.RXD.RX_STAT.CD_MODE_ACTIVE c) = s.flag (Reg.RXD.RX_STAT.CD_MODE_ACTIVE c) :=
  Chip.flag_congr ((Chip.rd_setRcv _ _ _ _).trans (s.rd_fofsShown c mhz (m := 0x01100004) (by decide)))

/-- TRAIN_CORR with the dispersion filter at CD_SET (R105). -/
def Chip.trainAtSet (s : Chip) (c : Carrier) : Chip :=
  s.modRcv (.car c) fun v => { v with state := 4, cd := sgn 32 (s.act (Reg.RXD.CD_SET.addr c)).toNat }

theorem Chip.rcvOf_trainAtSet (s : Chip) (c : Carrier) : (s.trainAtSet c).rcvOf (.car c) =
    { s.rcvOf (.car c) with state := 4, cd := sgn 32 (s.act (Reg.RXD.CD_SET.addr c)).toNat } := s.rcvOf_modRcv_self _ _

theorem LineFrame.trainAtSet {s t : Chip} (h : LineFrame s t) {c : Carrier} : LineFrame s (t.trainAtSet c) := h.setRcv

section
variable {s : Chip} {c : Carrier} {mhz : Int} (hst : (s.rcvOf (.car c)).state = 2)
include hst

theorem doCoarseFreqDone_fixed (hmhz : mhz.natAbs ≤ 5000) (hmode : s.flag (Reg.RXD.RX_STAT.CD_MODE_ACTIVE c) = true) :
    doCoarseFreqDone (.car c) mhz s = ((s.fofsTaken c mhz).trainAtSet c).rcvEnd (.car c) := by
  have hmode' := (s.flag_fofsTaken_cdMode c mhz).trans hmode
  exact (if_neg (not_not.mpr hst)).trans (congrArg (Chip.rcvEnd · (.car c)) ((if_neg (Nat.not_lt.mpr hmhz)).trans (if_pos hmode')))

theorem doCoarseFreqDone_scan (hmhz : mhz.natAbs ≤ 5000) (hmode : s.flag (Reg.RXD.RX_STAT.CD_MODE_ACTIVE c) = false) :
    doCoarseFreqDone (.car c) mhz s = ((s.fofsTaken c mhz).startScan (.car c)).rcvEnd (.car c) := by
  have hmode' := (s.flag_fofsTaken_cdMode c mhz).trans hmode
  exact (if_neg (not_not.mpr hst)).trans (congrArg (Chip.rcvEnd · (.car c)) ((if_neg (Nat.not_lt.mpr hmhz)).trans
    (if_neg (ne_true_of_eq_false hmode'))))

theorem doCoarseFreqDone_outOfRange (hmhz : 5000 < mhz.natAbs) :
    doCoarseFreqDone (.car c) mhz s = (((s.fofsShown c mhz).offRange (.car c)).coldRestart (.car c)).rcvEnd (.car c) :=
  (if_neg (not_not.mpr hst)).trans (congrArg (Chip.rcvEnd · (.car c)) (if_pos hmhz))
end

/-- A scan that starts runs at once in a carrier's own receiver (R106). -/
theorem Chip.startScan_spec (s : Chip) (c : Carrier) :
    ((s.startScan (.car c)).rcvOf (.car c)).state = 3 ∧ ((s.startScan (.car c)).rcvOf (.car c)).scan.running = true ∧
      LineFrame s (s.startScan (.car c)) := by
  unfold Chip.startScan
  dsimp only
  rw [Chip.rcvOf_congr ((Chip.setF_rcv _ _ _).trans (Chip.setF_rcv _ _ _)), Chip.rcvOf_modRcv_self]
  exact ⟨rfl, rfl, LineFrame.setCarrierF (LineFrame.setCarrierF (LineFrame.refl s).setRcv)⟩

/-- A frequency offset out of range begins a cold restart, and CFR_RANGE stays recorded (R88, R105). -/
theorem Chip.offRange_coldRestart_spec (s : Chip) (c : Carrier) :
    let t := (s.offRange (.car c)).coldRestart (.car c)
    (t.rcvOf (.car c)).state = 2 ∧ (t.rcvOf (.car c)).attempts = min 255 ((s.rcvOf (.car c)).attempts + 1) ∧
      Recorded (Ev.RXD.CFR_RANGE c) s t ∧ LineFrame s t := by
  obtain ⟨hstate, -, hattempts, -⟩ := (s.offRange (.car c)).rcvOf_coldRestart c
  have hoff : ((s.offRange (.car c)).rcvOf (.car c)).attempts = (s.rcvOf (.car c)).attempts :=
    ((s.raise (Ev.RXD.CFR_RANGE c)).rcvOf_setLock_fields c .cfrLock false).1.trans (congrArg RcvSt.attempts (Chip.rcvOf_congr (s.rcv_raise _) _))
  have hkept : Chip.LineKept False True s ((s.offRange (.car c)).coldRestart (.car c)) := (Chip.LineKept.refl s).offRange_car.coldRestart
  refine ⟨hstate, hattempts.trans (by rw [hoff]), ?_, hkept.lineFrame⟩
  exact (recorded_raise s (Ev.RXD.CFR_RANGE c) (by cases c <;> decide)).recordKept (Chip.RecordKept.refl (g := True) _).setLock.coldRestart
    (isCarrierStat_of_block c (n := 0x01100000) (by decide))

/-! ## The result of the scan -/

/-- The scan of a carrier after a batch (R106). -/
def Chip.scanAfter (s : Chip) (c : Carrier) (metrics : List Nat) : Scan :=
  (s.rcvOf (.car c)).scan.batch (sgn 32 (s.act (Reg.RXD.CD_SET.addr c)).toNat) (metrics.take ((s.grpOf c 0).inServiceUnits 0).length)

/-- The result of a carrier's scan after a batch that ends the fine pass. -/
def Chip.scanResult (s : Chip) (c : Carrier) (metrics : List Nat) : Int × Nat :=
  (s.scanAfter c metrics).best.getD (sgn 32 (s.act (Reg.RXD.CD_SET.addr c)).toNat, 0)

/-- The result shown in SCAN_CD (R106). -/
def Chip.scanShown (s : Chip) (c : Carrier) (metrics : List Nat) : Chip := s.setS (Reg.ACQ.SCAN_CD.CD c) (s.scanResult c metrics).1

theorem Chip.rd_scanShown (s : Chip) (c : Carrier) (metrics : List Nat) {m : Nat} (hm : m ≠ 0x0120001C) :
    (s.scanShown c metrics).rd (c.base + m) = s.rd (c.base + m) := Chip.rd_setF_ne _ _ _ (carrier_addr_ne c hm)

/-- The scan finds a candidate: TRAIN_CORR with the filter at it (R106). -/
def Chip.scanFound (s : Chip) (c : Carrier) (metrics : List Nat) : Chip :=
  (s.scanShown c metrics).setRcv (.car c) { (s.rcvOf (.car c)).noPartial with state := 4, cd := (s.scanResult c metrics).1 }

/-- The scan finds none: SCAN_FAIL and a cold restart (R105, R106). -/
def Chip.scanFailed (s : Chip) (c : Carrier) (metrics : List Nat) : Chip :=
  ((s.scanShown c metrics).raise (Ev.ACQ.SCAN_FAIL c)).coldRestart (.car c)

section
variable {s : Chip} {c : Carrier} {metrics : List Nat} (hst : (s.rcvOf (.car c)).state = 3) (hrun : (s.rcvOf (.car c)).scan.running = true)
  (htodo : (s.scanAfter c metrics).todo = []) (hfine : (s.scanAfter c metrics).fine = true)
include hst hrun htodo hfine

/-- The end of the fine pass (R106). -/
theorem doScanBatch_end : doScanBatch (.car c) metrics s =
    (if s.getF (Reg.ACQ.TRAIN_CFG.SCAN_THR c) ≤ (s.scanResult c metrics).2 then s.scanFound c metrics
    else s.scanFailed c metrics).rcvEnd (.car c) := by
  have hgo : ¬ ((s.rcvOf (.car c)).state ≠ 3 ∨ (s.rcvOf (.car c)).scan.running = false) := by simp [hst, hrun]
  have hcoarse : ¬ (!(s.scanAfter c metrics).fine) = true := by simp [hfine]
  have hthr : (s.scanShown c metrics).getF (Reg.ACQ.TRAIN_CFG.SCAN_THR c) = s.getF (Reg.ACQ.TRAIN_CFG.SCAN_THR c) :=
    Chip.getF_congr (s.rd_scanShown c metrics (m := 0x01200008) (by decide))
  rw [← hthr]
  exact (if_neg hgo).trans (congrArg (Chip.rcvEnd · (.car c)) ((if_neg (not_not.mpr htodo)).trans (if_neg hcoarse)))

theorem doScanBatch_found (hthr : s.getF (Reg.ACQ.TRAIN_CFG.SCAN_THR c) ≤ (s.scanResult c metrics).2) :
    doScanBatch (.car c) metrics s = (s.scanFound c metrics).rcvEnd (.car c) := by
  rw [doScanBatch_end hst hrun htodo hfine, if_pos hthr]

theorem doScanBatch_failed (hthr : (s.scanResult c metrics).2 < s.getF (Reg.ACQ.TRAIN_CFG.SCAN_THR c)) :
    doScanBatch (.car c) metrics s = (s.scanFailed c metrics).rcvEnd (.car c) := by
  rw [doScanBatch_end hst hrun htodo hfine, if_neg hthr.not_ge]
end

theorem Chip.rcvOf_scanFound (s : Chip) (c : Carrier) (metrics : List Nat) : (s.scanFound c metrics).rcvOf (.car c) =
    { (s.rcvOf (.car c)).noPartial with state := 4, cd := (s.scanResult c metrics).1 } := Chip.rcvOf_setRcv_self _ _ _

theorem lineFrame_scanFound (s : Chip) (c : Carrier) (metrics : List Nat) : LineFrame s (s.scanFound c metrics) :=
  (LineFrame.refl s).setCarrierF.setRcv

theorem Chip.scanFailed_recorded (s : Chip) (c : Carrier) (metrics : List Nat) : Recorded (Ev.ACQ.SCAN_FAIL c) s (s.scanFailed c metrics) := by
  have hrec : Recorded (Ev.ACQ.SCAN_FAIL c) s ((s.scanShown c metrics).raise (Ev.ACQ.SCAN_FAIL c)) :=
    .of_sticky (s.rd_scanShown c metrics (m := 0x012000F8) (by decide)) (recorded_raise _ _ (by cases c <;> decide))
  exact hrec.recordKept (Chip.RecordKept.refl (g := True) _).coldRestart (isCarrierStat_acq c)

/-! ## Training, polarization and the pilots -/

/-- A candidate whose peak has recurred often enough is confirmed (R107). -/
theorem doTrainPeriod_confirmed {s : Chip} {c : Carrier} {str : Option Nat} (hst : (s.rcvOf (.car c)).state = 4)
    (hcand : (s.rcvOf (.car c)).cand.isSome = true)
    (hconf : max 1 (s.getF (Reg.ACQ.TRAIN_CFG.TRAIN_CONFIRM c)) ≤ (s.rcvOf (.car c)).confirms + 1) :
    doTrainPeriod (.car c) true str s =
      (s.setRcv (.car c) { s.rcvOf (.car c) with state := 5, confirms := (s.rcvOf (.car c)).confirms + 1 }).rcvEnd (.car c) := by
  have hnone : ¬ (s.rcvOf (.car c)).cand.isNone = true := by simpa using Option.ne_none_iff_isSome.mpr hcand
  exact (if_neg (not_not.mpr hst)).trans (congrArg (Chip.rcvEnd · (.car c)) ((if_neg hnone).trans ((if_pos rfl).trans (if_pos hconf))))

/-- Two lock flags of a carrier's receiver set (R104). -/
def Chip.locked (s : Chip) (c : Carrier) (f g : LockFlag) : Chip := (s.setLock (.car c) f true).setLock (.car c) g true

theorem Chip.lineKept_locked (s : Chip) (c : Carrier) (f g : LockFlag) : Chip.LineKept False True s (s.locked c f g) :=
  (Chip.LineKept.refl s).setLock.setLock

theorem doPolTimingLock_polTiming {s : Chip} {c : Carrier} (h : (s.rcvOf (.car c)).state = 5) :
    doPolTimingLock (.car c) s = ((s.locked c .bflyConv .trLock).modRcv (.car c) fun v => { v with state := 6 }).rcvEnd (.car c) := by
  obtain ⟨-, -, hstate⟩ := s.rcvOf_setLock_setLock c (f := .bflyConv) (g := .trLock) (by decide)
  exact congrArg (Chip.rcvEnd · (.car c)) (if_pos (hstate.trans h))

theorem doPilotLockDone_pilotLock {s : Chip} {c : Carrier} (h : (s.rcvOf (.car c)).state = 6) :
    doPilotLockDone (.car c) s =
      (((s.locked c .cfrLock .cprLock).modRcv (.car c) fun v => { v with state := 7 }).alignRestart c 0).rcvEnd (.car c) := by
  obtain ⟨-, -, hstate⟩ := s.rcvOf_setLock_setLock c (f := .cfrLock) (g := .cprLock) (by decide)
  exact if_pos (hstate.trans h)

/-! The aligner of a trail (R175, R178). -/

section
variable {r a : Prop} {s₀ s : Chip}

theorem Chip.LineKept.dropDelivery (h : Chip.LineKept r a s₀ s) {c t} (ht : t < 16) : Chip.LineKept r a s₀ (s.dropDelivery c t) := by
  unfold Chip.dropDelivery
  exact ((h.setTrail ht).setTrail ht).modFrm
theorem Chip.LineKept.setAlign (h : Chip.LineKept r a s₀ s) {c t st} (ht : t < 16) : Chip.LineKept r a s₀ (s.setAlign c t st) := by
  unfold Chip.setAlign
  extract_lets was s1 s2
  have h2 : Chip.LineKept r a s₀ s2 := ((h.modFrm.setTrail ht).setTrail ht).setTrail ht
  exact .ite ((h2.dropDelivery ht).raiseFrm (.event c (by decide))) (.ite ((h2.setTrail ht).raiseFrm (.event c (by decide))) h2)
theorem Chip.LineKept.alignRestart (h : Chip.LineKept r a s₀ s) {c t} (ht : t < 16) : Chip.LineKept r a s₀ (s.alignRestart c t) :=
  (h.modFrm.setAlign ht).setTrail ht
theorem Chip.EndKept.dropDelivery (h : Chip.EndKept s₀ s) {c t} : Chip.EndKept s₀ (s.dropDelivery c t) := h.setF.setF.setFrm
end

theorem Chip.align_setAlign (s : Chip) (c : Carrier) (t st : Nat) : ((s.setAlign c t st).frmOf c t).align = st := by
  unfold Chip.setAlign
  extract_lets was s1 s2
  have h1 : (s1.frmOf c t).align = st := congrArg FrmSt.align ((Chip.frmOf_setFrm _ c c t t _).trans (if_pos rfl))
  have h2 : Chip.EndKept s1 s2 := (Chip.EndKept.refl s1).setF.setF.setF
  exact ((Chip.EndKept.ite h2.dropDelivery.raiseFrm (.ite h2.setF.raiseFrm h2)).align c t).trans h1

theorem Chip.align_alignRestart (s : Chip) (c : Carrier) (t : Nat) : ((s.alignRestart c t).frmOf c t).align = 0 :=
  ((Chip.EndKept.refl _).setF.align c t).trans (Chip.align_setAlign _ c t 0)

/-! ## Failures and the warm state -/

/-- The warm state lost by a warm attempt that failed, with WARM_FAIL (R105, R108). -/
def Chip.warmFailed (s : Chip) (c : Carrier) : Chip :=
  if (s.rcvOf (.car c)).warm then (s.modRcv (.car c) RcvSt.discardWarm).raise (Ev.ACQ.WARM_FAIL c) else s

theorem doStageBoundExpired_stage {s : Chip} {c : Carrier} (hlo : 2 ≤ (s.rcvOf (.car c)).state) (hhi : (s.rcvOf (.car c)).state ≤ 7) :
    doStageBoundExpired (.car c) s = ((s.warmFailed c).coldRestart (.car c)).rcvEnd (.car c) := if_neg (by omega)

theorem Chip.warmFailed_spec (s : Chip) (c : Carrier) :
    let v := (s.warmFailed c).rcvOf (.car c)
    v.state = (s.rcvOf (.car c)).state ∧ v.attempts = (s.rcvOf (.car c)).attempts ∧
      ((s.rcvOf (.car c)).warm = true → v.warmValid = false ∧ Recorded (Ev.ACQ.WARM_FAIL c) s (s.warmFailed c)) ∧
      LineFrame s (s.warmFailed c) := by
  unfold Chip.warmFailed
  split
  · rw [Chip.rcvOf_congr (Chip.rcv_raise _ _), Chip.rcvOf_modRcv_self]
    have hkept : Chip.LineKept False True s (s.modRcv (.car c) RcvSt.discardWarm) := (Chip.LineKept.refl s).modRcv
    exact ⟨rfl, rfl, fun _ => ⟨rfl, hkept.recorded_acq (by decide)⟩, hkept.lineFrame.raiseAcq⟩
  · next hwarm => exact ⟨rfl, rfl, fun h => absurd h hwarm, .refl s⟩

theorem doLolTimeExpired_acquired {s : Chip} {c : Carrier} (hst : (s.rcvOf (.car c)).state = 8)
    (hlock : ((s.rcvOf (.car c)).bfly && (s.rcvOf (.car c)).tr && (s.rcvOf (.car c)).cpr) = false) :
    doLolTimeExpired (.car c) s = (s.leaveAcquired (.car c)).rcvEnd (.car c) := if_pos (by simp [hst, hlock])

theorem Chip.leaveAcquired_spec (s : Chip) (c : Carrier) :
    Recorded (Ev.ACQ.LOST c) s (s.leaveAcquired (.car c)) ∧ LineFrame s (s.leaveAcquired (.car c)) := by
  obtain ⟨u, hdo, hsticky, hframe, -⟩ := s.leaveAcquired_car c
  rw [hdo]
  exact ⟨.of_sticky hsticky (recorded_raise u _ (by cases c <;> decide)), hframe.raiseAcq⟩

theorem doWarmCapture_locked {s : Chip} {c : Carrier} {taps : Nat} {fofs sofs : Int} (hst : (s.rcvOf (.car c)).state = 8)
    (hlock : ((s.rcvOf (.car c)).bfly && (s.rcvOf (.car c)).tr && (s.rcvOf (.car c)).cfr && (s.rcvOf (.car c)).cpr) = true)
    (hhold : (s.rcvOf (.car c)).cfg.warmHold ≠ 0) :
    doWarmCapture (.car c) taps fofs sofs s = s.setRcv (.car c)
      { s.rcvOf (.car c) with
        warmValid := true, warmRec := some ⟨(s.rcvOf (.car c)).cd, s.flag (Reg.RXD.RX_STAT.NLC_BYPASS c), taps, fofs, sofs⟩
        taps := taps, fofs := fofs, sofs := sofs } := by
  simp only [Bool.and_eq_true] at hlock
  exact if_pos (by simp [hst, hlock, hhold])

theorem doWarmHoldExpired_outside {s : Chip} {c : Carrier} (h : (s.rcvOf (.car c)).state ≠ 8) :
    doWarmHoldExpired (.car c) s = s.modRcv (.car c) RcvSt.discardWarm := if_neg (by simp [h, Chip.keepsWarm])

theorem doAcqFail_begun {s : Chip} {c : Carrier} (hbegun : (s.rcvOf (.car c)).begun = true) (hraised : (s.rcvOf (.car c)).failRaised = false) :
    doAcqFail (.car c) s = (s.setRcv (.car c) { s.rcvOf (.car c) with failRaised := true }).raise (Ev.ACQ.ACQ_FAIL c) :=
  if_pos (by simp [hbegun, hraised])

/-- Settles O22, command by command: each is one equation in the stage at hand, the receiver's record after it is read off the update, and the
judgements that end the step leave the receivers, the aligner and the events recorded. -/
theorem acquisitionRuns : Obligations.AcquisitionRuns := by
  refine ⟨fun s c => ⟨fun mhz hst hmhz hmode => answers_of_to rfl ?_, fun mhz hst hmhz hmode => answers_of_to rfl ?_,
      fun mhz hst hmhz => answers_of_to rfl ?_,
      fun metrics hst hrun htodo hfine => ⟨fun hthr => answers_of_to rfl ?_, fun hthr => answers_of_to rfl ?_⟩,
      fun str hst hcand hconf => answers_of_to rfl ?_, fun hst => answers_of_to rfl ?_, fun hst => answers_of_to rfl ?_⟩,
    fun s c => ⟨fun hlo hhi => answers_of_to rfl ?_, fun hst hlock => answers_of_to rfl ?_,
      fun taps fofs sofs hst hlock hhold => answers_of_to rfl ?_, fun hst => answers_of_to rfl ?_, fun hbegun hraised => answers_of_to rfl ?_⟩⟩
  · rw [doCoarseFreqDone_fixed hst hmhz hmode, Chip.rcvOf_rcvEnd_car, Chip.rcvOf_trainAtSet, Chip.act_fofsTaken, Chip.rcvOf_fofsTaken]
    exact ⟨rfl, rfl, rfl, (lineFrame_fofsTaken s.chip c mhz).trainAtSet.rcvEnd_car⟩
  · obtain ⟨hstate, hrun, hframe⟩ := (s.chip.fofsTaken c mhz).startScan_spec c
    rw [doCoarseFreqDone_scan hst hmhz hmode, Chip.rcvOf_rcvEnd_car]
    exact ⟨hstate, hrun, ((lineFrame_fofsTaken s.chip c mhz).trans hframe).rcvEnd_car⟩
  · obtain ⟨hstate, hattempts, hrec, hframe⟩ := (s.chip.fofsShown c mhz).offRange_coldRestart_spec c
    rw [Chip.rcvOf_fofsShown] at hattempts
    rw [doCoarseFreqDone_outOfRange hst hmhz, Chip.rcvOf_rcvEnd_car]
    have hsticky := s.chip.rd_fofsShown c mhz (m := 0x011000F8) (by decide)
    exact ⟨hstate, hattempts, (Recorded.of_sticky hsticky hrec).rcvEnd_car (isCarrierStat_of_block c (n := 0x01100000) (by decide)),
      ((lineFrame_fofsShown s.chip c mhz).trans hframe).rcvEnd_car⟩
  · rw [doScanBatch_found hst hrun htodo hfine hthr, Chip.rcvOf_rcvEnd_car, Chip.rcvOf_scanFound]
    exact ⟨rfl, rfl, (lineFrame_scanFound s.chip c metrics).rcvEnd_car⟩
  · rw [doScanBatch_failed hst hrun htodo hfine hthr, Chip.rcvOf_rcvEnd_car]
    exact ⟨(Chip.rcvOf_coldRestart _ c).1, (s.chip.scanFailed_recorded c metrics).rcvEnd_car (isCarrierStat_acq c)⟩
  · rw [doTrainPeriod_confirmed hst hcand hconf, Chip.rcvOf_rcvEnd_car, Chip.rcvOf_setRcv_self]
    exact ⟨rfl, (LineFrame.refl s.chip).setRcv.rcvEnd_car⟩
  · obtain ⟨hbfly, htr, -⟩ := s.chip.rcvOf_setLock_setLock c (f := .bflyConv) (g := .trLock) (by decide)
    rw [doPolTimingLock_polTiming hst, Chip.rcvOf_rcvEnd_car, Chip.rcvOf_modRcv_self]
    exact ⟨rfl, hbfly, htr, (s.chip.lineKept_locked c _ _).modRcv.lineFrame.rcvEnd_car⟩
  · obtain ⟨hcfr, hcpr, -⟩ := s.chip.rcvOf_setLock_setLock c (f := .cfrLock) (g := .cprLock) (by decide)
    have halign : Chip.LineKept True True ((s.chip.locked c .cfrLock .cprLock).modRcv (.car c) fun v => { v with state := 7 }) _ :=
      (Chip.LineKept.refl _).alignRestart (c := c) (t := 0) (by decide)
    rw [doPilotLockDone_pilotLock hst, Chip.rcvOf_rcvEnd_car, Chip.align_rcvEnd_car, Chip.align_alignRestart, Chip.rcvOf_congr (halign.rcv trivial),
      Chip.rcvOf_modRcv_self]
    exact ⟨rfl, hcfr, hcpr, rfl, ((s.chip.lineKept_locked c _ _).modRcv.lineFrame.kept halign).rcvEnd_car⟩
  · obtain ⟨hstate, hattempts, hwarm, hframe⟩ := s.chip.warmFailed_spec c
    obtain ⟨hrestart, hlast, hmore, hvalid⟩ := (s.chip.warmFailed c).rcvOf_coldRestart c
    rw [doStageBoundExpired_stage hlo hhi, Chip.rcvOf_rcvEnd_car]
    refine ⟨hrestart, hlast.trans hstate, hmore.trans (by rw [hattempts]), fun h => ⟨hvalid.trans (hwarm h).1, ?_⟩, ?_⟩
    · exact ((hwarm h).2.recordKept (Chip.RecordKept.refl (g := True) _).coldRestart (isCarrierStat_acq c)).rcvEnd_car (isCarrierStat_acq c)
    · exact (hframe.kept (Chip.LineKept.refl _).coldRestart).rcvEnd_car
  · obtain ⟨hrec, hframe⟩ := s.chip.leaveAcquired_spec c
    rw [doLolTimeExpired_acquired hst hlock, Chip.rcvOf_rcvEnd_car]
    exact ⟨s.chip.state_leaveAcquired c, hrec.rcvEnd_car (isCarrierStat_acq c), hframe.rcvEnd_car⟩
  · rw [doWarmCapture_locked hst hlock hhold, Chip.rcvOf_setRcv_self]
    exact ⟨rfl, rfl, rfl⟩
  · rw [doWarmHoldExpired_outside hst, Chip.rcvOf_modRcv_self]
    exact ⟨rfl, rfl, rfl⟩
  · have hbit : (Ev.ACQ.ACQ_FAIL c).bit < 32 := by cases c <;> decide
    rw [doAcqFail_begun hbegun hraised, Chip.rcvOf_congr (Chip.rcv_raise _ _), Chip.rcvOf_setRcv_self]
    exact ⟨rfl, recorded_raise (s.chip.setRcv _ _) _ hbit, keptBut_raise (s.chip.setRcv _ _) _ hbit⟩

end Sys2Proof.Machine
end

section
/-! SUPPORT. Counts in 64-bit pairs and of event sources, the decoder stage, codeword lock and the staircase window (R128, R129, R131 to R133, R138,
R140). -/

namespace Sys2Proof.Machine

/-! ## Counts in pairs and of event sources -/

/-- 64-bit counters at offsets from a base advanced one after the other. -/
def Chip.addPairs (s : Chip) (base : Nat) (l : List (Nat × Nat)) : Chip := l.foldl (fun t p => t.addPair (base + p.1) p.2) s

/-- Occurrences of event sources counted one after the other (R444). -/
def Chip.occurrences (s : Chip) (l : List (Nat × Nat)) : Chip := l.foldl (fun t p => t.evc p.1 p.2) s

/-- Two 64-bit pairs share no register. -/
def PairApart (o p : Nat) : Prop := o + 8 ≤ p ∨ p + 8 ≤ o

theorem Chip.rd_addPair_ne (s : Chip) {lo n b : Nat} (hlo : b ≠ lo) (hhi : b ≠ lo + 4) : (s.addPair lo n).rd b = s.rd b := by
  rw [Chip.addPair, Chip.rd_setPair, if_neg hhi, if_neg hlo]

theorem Chip.rd_addPairs_ne (s : Chip) {base b : Nat} {l : List (Nat × Nat)} (h : ∀ o ∈ l.map Prod.fst, b ≠ base + o ∧ b ≠ base + o + 4) :
    (s.addPairs base l).rd b = s.rd b := by
  induction l generalizing s with
  | nil => rfl
  | cons p l ih =>
    rw [List.map_cons, List.forall_mem_cons] at h
    exact (ih _ h.2).trans (s.rd_addPair_ne h.1.1 h.1.2)

theorem Chip.getPair_addPair_apart (s : Chip) {lo b : Nat} (n : Nat) (h : PairApart lo b) : (s.addPair lo n).getPair b = s.getPair b := by
  unfold PairApart at h
  exact Chip.getPair_congr (s.rd_addPair_ne (by omega) (by omega)) (s.rd_addPair_ne (by omega) (by omega))

theorem Chip.getPair_addPairs_apart (s : Chip) (base : Nat) {b : Nat} {l : List (Nat × Nat)} (h : ∀ o ∈ l.map Prod.fst, PairApart o b) :
    (s.addPairs base l).getPair (base + b) = s.getPair (base + b) := by
  induction l generalizing s with
  | nil => rfl
  | cons p l ih =>
    rw [List.map_cons, List.forall_mem_cons] at h
    have hapart : PairApart (base + p.1) (base + b) := h.1.imp (by omega) (by omega)
    exact (ih _ h.2).trans (s.getPair_addPair_apart _ hapart)

/-- Each of several pairs that share no register is advanced by its own number. -/
theorem Chip.getPair_addPairs (s : Chip) (base : Nat) {l : List (Nat × Nat)} (hl : (l.map Prod.fst).Pairwise PairApart) {o n : Nat}
    (h : (o, n) ∈ l) : (s.addPairs base l).getPair (base + o) = (s.getPair (base + o) + n) % 2 ^ 64 := by
  induction l generalizing s with
  | nil => cases h
  | cons p l ih =>
    rw [List.map_cons, List.pairwise_cons] at hl
    obtain ⟨hhead, htail⟩ := hl
    rcases List.mem_cons.mp h with rfl | hmem
    · exact (Chip.getPair_addPairs_apart _ base fun q hq => (hhead q hq).symm).trans (s.getPair_setPair _ _)
    · have hapart : PairApart (base + p.1) (base + o) := (hhead o (List.mem_map.mpr ⟨_, hmem, rfl⟩)).imp (by omega) (by omega)
      rw [← s.getPair_addPair_apart p.2 hapart]
      exact ih _ htail hmem

theorem quiet_addPairs (s : Chip) (base : Nat) (l : List (Nat × Nat)) : Quiet s (s.addPairs base l) :=
  Quiet.foldl (fun u (p : Nat × Nat) => (quiet_wr u (base + p.1) _).trans (quiet_wr _ _ _)) l s

theorem quiet_occurrences (s : Chip) (l : List (Nat × Nat)) : Quiet s (s.occurrences l) :=
  Quiet.foldl (fun u (p : Nat × Nat) => quiet_evc u p.1 p.2) l s

theorem Chip.rd_occurrences (s : Chip) {b : Nat} (hb : b / 0x100000 ≠ 5) (l : List (Nat × Nat)) : (s.occurrences l).rd b = s.rd b := by
  induction l generalizing s with
  | nil => rfl
  | cons p l ih => exact (ih _).trans (Chip.rd_evc _ _ _ hb)

/-- Counts in a carrier's 64-bit counters and of event sources: what a decoded codeword or a counted block brings about (R140, R447). -/
def Chip.carrierCounted (s : Chip) (c : Carrier) (pairs srcs : List (Nat × Nat)) : Chip := (s.addPairs c.base pairs).occurrences srcs

/-- Offsets of 64-bit counters of FEC that share no register. -/
def FecPairs (l : List Nat) : Prop := l.Pairwise PairApart ∧ ∀ o ∈ l, 0x01300100 ≤ o ∧ o < 0x01301000

theorem FecPairs.bounds {l : List (Nat × Nat)} (h : FecPairs (l.map Prod.fst)) {o n : Nat} (hmem : (o, n) ∈ l) :
    0x01300100 ≤ o ∧ o < 0x01301000 := h.2 o (List.mem_map.mpr ⟨_, hmem, rfl⟩)

theorem quiet_carrierCounted (s : Chip) (c : Carrier) (pairs srcs : List (Nat × Nat)) : Quiet s (s.carrierCounted c pairs srcs) :=
  (quiet_addPairs s _ pairs).trans (quiet_occurrences _ srcs)

section
variable (s : Chip) (c : Carrier) {pairs : List (Nat × Nat)} (srcs : List (Nat × Nat)) (hpairs : FecPairs (pairs.map Prod.fst))
include hpairs

theorem Chip.getPair_carrierCounted {o n : Nat} (h : (o, n) ∈ pairs) :
    (s.carrierCounted c pairs srcs).getPair (c.base + o) = (s.getPair (c.base + o) + n) % 2 ^ 64 := by
  have ho := hpairs.bounds h
  have hlo := (s.addPairs c.base pairs).rd_occurrences (b := c.base + o) (carrier_block_ne c (by omega)) srcs
  have hhi := (s.addPairs c.base pairs).rd_occurrences (b := c.base + o + 4) (carrier_block_ne c (by omega)) srcs
  exact (Chip.getPair_congr hlo hhi).trans (s.getPair_addPairs _ hpairs.1 h)

/-- The counters lie above the event registers of FEC. -/
theorem Chip.sticky_carrierCounted : (s.carrierCounted c pairs srcs).rd (Ev.FEC.base c + 0xF8) = s.rd (Ev.FEC.base c + 0xF8) := by
  have hbase : Ev.FEC.base c = c.base + 0x01300000 := rfl
  refine (Chip.rd_occurrences _ (carrier_block_ne c (by omega)) srcs).trans (s.rd_addPairs_ne fun o ho => ?_)
  have := hpairs.2 o ho
  omega

theorem lineFrame_carrierCounted : LineFrame s (s.carrierCounted c pairs srcs) := by
  have hquiet := quiet_carrierCounted s c pairs srcs
  have hevc : (5 : Nat) ∈ lineBlocks := by decide
  refine ⟨⟨fun g _ hb _ => Chip.getF_congr ?_, ?_⟩, hquiet.elsewhere⟩
  · refine (Chip.rd_occurrences _ (fun h5 => hb (h5 ▸ hevc)) srcs).trans (s.rd_addPairs_ne fun o ho => ?_)
    have := hpairs.2 o ho
    constructor <;> exact fun he => hb (carrier_block_mem c (by omega))
  · rw [hquiet]

end

theorem Quiet.rcv {s t : Chip} (h : Quiet s t) : t.rcv = s.rcv := by rw [h]

theorem Quiet.fec {s t : Chip} (h : Quiet s t) : t.fec = s.fec := by rw [h]

/-! ## The decoder stage -/

theorem Chip.fec_setFec_self (s : Chip) (c : Carrier) (v : FecSt) : (s.setFec c v).fec.get c = v := Two.get_put_self _ _ _

theorem Chip.fec_setFec_other (s : Chip) (c : Carrier) (v : FecSt) : (s.setFec c v).fec.get c.other = s.fec.get c.other := Two.get_put_other _ _ _

theorem doCodewordDispatch_next {s : Chip} {c : Carrier} {k : Nat}
    (h : Grp.nextUnit 1 (s.fec.get c).lastSlice (s.grpOf c 1).inService = some k) :
    doCodewordDispatch (.car c) s =
      s.setFec c { flight := (s.fec.get c).flight ++ [{ rcv := .car c, slice := k, at_ := s.now }], lastSlice := k } := by
  rw [doCodewordDispatch, Rcv.carrier, h]

theorem doCodewordRelease_ready {s : Chip} {c : Carrier} {w : Codeword} {rest : List Codeword} (h : (s.fec.get c).flight = w :: rest)
    (hw : (w.result.isSome || w.lost) = true) : doCodewordRelease c s = s.setFec c { s.fec.get c with flight := rest } := by
  unfold doCodewordRelease
  dsimp only
  rw [h]
  exact if_pos hw

/-- The stage once a codeword in it has its result (R129). -/
def FecSt.finished (v : FecSt) (w : Codeword) (r : Nat × Bool × Nat) : FecSt :=
  { v with flight := v.flight.map fun x => if x = w then { x with result := some r } else x }

theorem FecSt.head_finished {v : FecSt} {w : Codeword} {rest : List Codeword} (h : v.flight = w :: rest) (r : Nat × Bool × Nat) :
    (v.finished w r).flight.head?.bind Codeword.result = some r := by simp [FecSt.finished, h]

/-- The slice of the oldest codeword stops (R129): the codeword takes the result, and the counters the codeword. -/
theorem doDecodeDone_oldest {s : Chip} {c : Carrier} {slice : Fin 14} {w : Codeword} {rest : List Codeword}
    (h : (s.fec.get c).flight = w :: rest) (hslice : w.slice = slice.val) (hw : w.result = none ∧ w.lost = false) (iters : Nat) (ok : Bool)
    (corr : Nat) :
    doDecodeDone c slice iters ok corr s =
      (s.setFec c ((s.fec.get c).finished w (min iters (s.iterLimit c), ok, corr))).countCodeword w.rcv slice.val (min iters (s.iterLimit c)) ok
        corr := by
  have hfind : (s.fec.get c).flight.find? (fun x => decide (x.slice = slice.val) && x.result.isNone && !x.lost) = some w := by
    rw [h]
    exact List.find?_cons_of_pos (by simp [hslice, hw])
  unfold doDecodeDone
  dsimp only
  rw [hfind]
  rfl

/-- A decoded codeword of a carrier's own receiver in the run of failures and in the quality interval (R128, R139). -/
def RcvSt.decoded (v : RcvSt) (iters : Nat) (ok : Bool) : RcvSt :=
  { v with failRun := if ok then 0 else v.failRun + 1, iters := v.iters + iters, cws := v.cws + 1 }

/-- The FEC counters that a decoded codeword advances (R140). -/
def codewordPairs (iters : Nat) (ok : Bool) (corr : Nat) : List (Nat × Nat) :=
  [(0x01300100, 1), (0x01300108, if ok then 0 else 1), (0x01300118, iters), (0x01300110, if ok then corr else 0)]

theorem fecPairs_codeword (iters : Nat) (ok : Bool) (corr : Nat) : FecPairs ((codewordPairs iters ok corr).map Prod.fst) := by
  change FecPairs [0x01300100, 0x01300108, 0x01300118, 0x01300110]
  unfold FecPairs PairApart
  decide

/-- The event sources of a decoded codeword (R447). -/
def codewordSrcs (c : Carrier) (slice iters : Nat) (ok : Bool) : List (Nat × Nat) :=
  [(c.evcSrc slice, 1), (c.evcSrc (14 + slice), iters), (c.evcSrc 28, if ok then 0 else 1)]

theorem Chip.countCodeword_car (s : Chip) (c : Carrier) (slice iters : Nat) (ok : Bool) (corr : Nat) :
    s.countCodeword (.car c) slice iters ok corr =
      (s.carrierCounted c (codewordPairs iters ok corr) (codewordSrcs c slice iters ok)).modRcv (.car c) (RcvSt.decoded · iters ok) := rfl

theorem Chip.countCodeword_car_spec (s : Chip) (c : Carrier) (slice iters : Nat) (ok : Bool) (corr : Nat) :
    let t := s.countCodeword (.car c) slice iters ok corr
    t.fec = s.fec ∧ t.rcvOf (.car c) = (s.rcvOf (.car c)).decoded iters ok ∧
      ∀ o n, (o, n) ∈ codewordPairs iters ok corr → t.getPair (c.base + o) = (s.getPair (c.base + o) + n) % 2 ^ 64 := by
  have hquiet := quiet_carrierCounted s c (codewordPairs iters ok corr) (codewordSrcs c slice iters ok)
  rw [Chip.countCodeword_car]
  dsimp only
  rw [Chip.rcvOf_modRcv_self, Chip.rcvOf_congr hquiet.rcv]
  exact ⟨hquiet.fec, rfl, fun o n h => s.getPair_carrierCounted c _ (fecPairs_codeword iters ok corr) h⟩

/-- A result put in the stage and counted: the stage, the run of failures and the counters (R128, R129, R140). -/
theorem Chip.setFec_countCodeword_spec (s : Chip) (c : Carrier) (v : FecSt) (slice iters : Nat) (ok : Bool) (corr : Nat) :
    let t := (s.setFec c v).countCodeword (.car c) slice iters ok corr
    t.fec.get c = v ∧ (t.rcvOf (.car c)).failRun = (if ok then 0 else (s.rcvOf (.car c)).failRun + 1) ∧
      ∀ o n, (o, n) ∈ codewordPairs iters ok corr → t.getPair (c.base + o) = (s.getPair (c.base + o) + n) % 2 ^ 64 := by
  obtain ⟨hfec, hrcv, hpair⟩ := (s.setFec c v).countCodeword_car_spec c slice iters ok corr
  dsimp only
  rw [hfec, hrcv, Chip.fec_setFec_self]
  exact ⟨rfl, rfl, hpair⟩

/-! ## Codeword lock -/

theorem Chip.setCwLock_change {s : Chip} {c : Carrier} {b : Bool} (h : (s.rcvOf (.car c)).cwLock ≠ b) :
    s.setCwLock (.car c) b = (s.setRcv (.car c) { s.rcvOf (.car c) with cwLock := b, failRun := 0 }).raise (Ev.FEC.CW_LOCK_CHANGE c) := if_neg h

theorem Chip.rcvOf_setCwLock_car (s : Chip) (c : Carrier) (b : Bool) :
    ((s.setCwLock (.car c) b).rcvOf (.car c)).cwLock = b ∧ ((s.setCwLock (.car c) b).rcvOf (.car c)).cwPhase = (s.rcvOf (.car c)).cwPhase := by
  by_cases h : (s.rcvOf (.car c)).cwLock = b
  · have hdo : s.setCwLock (.car c) b = s := if_pos h
    rw [hdo]
    exact ⟨h, rfl⟩
  · rw [Chip.setCwLock_change h, Chip.rcvOf_congr (Chip.rcv_raise _ _), Chip.rcvOf_setRcv_self]
    exact ⟨rfl, rfl⟩

theorem Chip.setCwLock_recorded {s : Chip} {c : Carrier} {b : Bool} (h : (s.rcvOf (.car c)).cwLock ≠ b) :
    Recorded (Ev.FEC.CW_LOCK_CHANGE c) s (s.setCwLock (.car c) b) := by
  rw [Chip.setCwLock_change h]
  exact recorded_raise (s.setRcv _ _) _ (by cases c <;> decide)

theorem isCarrierStat_fec (c : Carrier) : IsCarrierStat (Ev.FEC.base c + 0xF0) := isCarrierStat_of_block c (n := 0x01300000) (by decide)

theorem doCwLock_found {s : Chip} {c : Carrier} {passed : List Bool} {k : Nat} (hst : (s.rcvOf (.car c)).state = 7)
    (hlock : (s.rcvOf (.car c)).cwLock = false) (hk : (List.range 5).find? (fun k => passed.getD k false) = some k) :
    doCwLock (.car c) passed s = ((s.setRcv (.car c) { s.rcvOf (.car c) with cwPhase := k }).setCwLock (.car c) true).settle := by
  unfold doCwLock
  dsimp only
  rw [if_neg (by simp [hst, hlock]), hk]

/-- Codeword lock that begins: the phase stands, the event is recorded, and the judgements that follow keep both (R128). -/
theorem Chip.setCwLock_settle_spec {s : Chip} {c : Carrier} (h : (s.rcvOf (.car c)).cwLock = false) :
    let t := (s.setCwLock (.car c) true).settle
    (t.rcvOf (.car c)).cwLock = true ∧ (t.rcvOf (.car c)).cwPhase = (s.rcvOf (.car c)).cwPhase ∧ Recorded (Ev.FEC.CW_LOCK_CHANGE c) s t ∧
      LineFrame s t := by
  have hsettle : Chip.LineKept True True (s.setCwLock (.car c) true) (s.setCwLock (.car c) true).settle := (Chip.LineKept.refl _).settle
  have hkept : Chip.LineKept False True s (s.setCwLock (.car c) true).settle := (Chip.LineKept.refl s).setCwLock.settle
  obtain ⟨hlock, hphase⟩ := s.rcvOf_setCwLock_car c true
  dsimp only
  rw [Chip.rcvOf_congr (hsettle.rcv trivial)]
  exact ⟨hlock, hphase,
    (Chip.setCwLock_recorded (by simp [h])).recordKept (Chip.RecordKept.refl (g := True) _).settle (isCarrierStat_fec c), hkept.lineFrame⟩

/-- Codeword lock that ends records its event (R128). -/
theorem Chip.dropCwLock_recorded {s : Chip} {c : Carrier} (h : (s.rcvOf (.car c)).cwLock = true) :
    Recorded (Ev.FEC.CW_LOCK_CHANGE c) s (s.dropCwLock (.car c)) := by
  rw [Chip.dropCwLock, if_pos h]
  exact (Chip.setCwLock_recorded (by simp [h])).recordKept (Chip.RecordKept.refl (g := True) _).emptyWindow (isCarrierStat_fec c)

theorem RcvSt.noCwLock_of_lock {v : RcvSt} (h : v.cwLock = true) :
    v.noCwLock = { v with cwLock := false, failRun := 0, blocks := 0, last64 := [], ub := false } := if_pos h

theorem RcvSt.noCwLock_of_noLock {v : RcvSt} (h : v.cwLock = false) : v.noCwLock = v := if_neg (by simp [h])

/-- A departure from ACQUIRED without codeword lock leaves the staircase window (R105). -/
theorem Chip.rcvOf_leaveAcquired_noLock {s : Chip} {c : Carrier} (h : (s.rcvOf (.car c)).cwLock = false) :
    ((s.leaveAcquired (.car c)).rcvOf (.car c)).cwLock = false ∧
      ((s.leaveAcquired (.car c)).rcvOf (.car c)).blocks = (s.rcvOf (.car c)).blocks := by
  unfold Chip.leaveAcquired
  extract_lets v w s1 s2
  have h1 : s1.rcvOf (.car c) = _ := s.rcvOf_setRcv_self _ _
  have h2 : (s2.rcvOf (.car c)).cwLock = v.cwLock ∧ (s2.rcvOf (.car c)).blocks = v.blocks := by
    unfold s2
    split
    · rw [Chip.rcvOf_modRcv_self, h1]
      exact ⟨rfl, rfl⟩
    · rw [h1]
      exact ⟨rfl, rfl⟩
  obtain ⟨hlock, hblocks⟩ := h2
  have hbegun : ((s2.beginAcq (.car c) s2.now).rcvOf (.car c)).cwLock = false := by
    rw [Chip.rcvOf_beginAcq]
    exact hlock.trans h
  rw [Chip.raiseRcv, Chip.rcvOf_congr (Chip.rcv_raise _ _), Chip.rcvOf_dropCwLock_car, RcvSt.noCwLock_of_noLock hbegun, Chip.rcvOf_beginAcq]
  exact ⟨hlock.trans h, hblocks⟩

theorem Chip.RecordKept.leaveAcquired_car (s : Chip) (c : Carrier) : Chip.RecordKept True s (s.leaveAcquired (.car c)) := by
  obtain ⟨u, hdo, -, -, hrec⟩ := s.leaveAcquired_car c
  rw [hdo]
  exact hrec.raise

theorem doCwLockLoss_acquired {s : Chip} {c : Carrier} (hlock : (s.rcvOf (.car c)).cwLock = true) (hrun : 32 ≤ (s.rcvOf (.car c)).failRun)
    (hst : (s.rcvOf (.car c)).state = 8) :
    doCwLockLoss (.car c) s = ((s.dropCwLock (.car c)).leaveAcquired (.car c)).rcvEnd (.car c) := by
  have hloss : (s.dropCwLock (.car c)).acqFrameLoss (.car c) = (s.dropCwLock (.car c)).leaveAcquired (.car c) :=
    if_pos ((s.rcvOf_dropCwLock (.car c)).1.trans hst)
  rw [← hloss]
  exact if_pos (by simp [hlock, hrun])

/-- What the end of codeword lock makes of a receiver in ACQUIRED (R105, R128, R132). -/
theorem Chip.rcvOf_dropCwLock_leaveAcquired {s : Chip} {c : Carrier} (h : (s.rcvOf (.car c)).cwLock = true) :
    let v := ((s.dropCwLock (.car c)).leaveAcquired (.car c)).rcvOf (.car c)
    v.cwLock = false ∧ v.blocks = 0 ∧ v.state = if (s.rcvOf (.car c)).warmValid then 4 else 2 := by
  have hdrop := (s.rcvOf_dropCwLock_car c).trans (RcvSt.noCwLock_of_lock h)
  have hstate := (s.dropCwLock (.car c)).state_leaveAcquired c
  obtain ⟨hlock, hblocks⟩ := Chip.rcvOf_leaveAcquired_noLock (s := s.dropCwLock (.car c)) (c := c) (by rw [hdrop])
  rw [hdrop] at hstate hblocks
  exact ⟨hlock, hblocks, hstate⟩

/-! ## The staircase window -/

/-- A block that enters while one leaves, and is put on record (R131, R132). -/
def RcvSt.blockLeft (v : RcvSt) (bad : Bool) : RcvSt := { v with blocks := v.blocks + 1, last64 := (bad :: v.last64).take 64 }

/-- The FEC counters that a counted block advances (R140). -/
def blockPairs (corr : Nat) (bad : Bool) : List (Nat × Nat) := [(0x01300120, 1), (0x01300128, corr), (0x01300130, bad.toNat)]

theorem fecPairs_block (corr : Nat) (bad : Bool) : FecPairs ((blockPairs corr bad).map Prod.fst) := by
  change FecPairs [0x01300120, 0x01300128, 0x01300130]
  unfold FecPairs PairApart
  decide

/-- A counted block of a carrier's own receiver in the counters (R140, R447). -/
def Chip.blockCounted (s : Chip) (c : Carrier) (corr : Nat) (bad : Bool) : Chip :=
  s.carrierCounted c (blockPairs corr bad) [(c.evcSrc 29, 1), (c.evcSrc 30, bad.toNat)]

theorem Chip.countStair_car (s : Chip) (c : Carrier) (corr : Nat) (bad : Bool) :
    s.countStair (.car c) corr bad = (s.blockCounted c corr bad).raiseIf bad (Ev.FEC.STAIR_UNCORR c) := rfl

theorem Chip.countStair_car_spec (s : Chip) (c : Carrier) (corr : Nat) (bad : Bool) :
    let t := s.countStair (.car c) corr bad
    t.rcv = s.rcv ∧ (bad = true → Recorded (Ev.FEC.STAIR_UNCORR c) s t) ∧ LineFrame s t ∧
      ∀ o n, (o, n) ∈ blockPairs corr bad → t.getPair (c.base + o) = (s.getPair (c.base + o) + n) % 2 ^ 64 := by
  have hpairs := fecPairs_block corr bad
  rw [Chip.countStair_car]
  have hframe : LineFrame s (s.blockCounted c corr bad) := lineFrame_carrierCounted s c _ hpairs
  refine ⟨(Chip.rcv_raiseIf _ _ _).trans (quiet_carrierCounted s c _ _).rcv, fun hbad => ?_, ?_, fun o n h => ?_⟩
  · exact .of_sticky (s.sticky_carrierCounted c _ hpairs) (recorded_raiseIf _ (by cases c <;> decide) hbad)
  · cases bad
    · exact hframe
    · exact hframe.raise (carrier_block_mem c (b := c.base + 0x013000F0) (by omega))
  · have ho := hpairs.bounds h
    have hraise : ∀ m, 0x01300100 ≤ m → ((s.blockCounted c corr bad).raiseIf bad (Ev.FEC.STAIR_UNCORR c)).rd (c.base + m) =
        (s.blockCounted c corr bad).rd (c.base + m) := fun m hm => Chip.rd_raiseIf_ne _ _ (carrier_addr_ne c (n := 0x013000F0) (by omega))
    exact (Chip.getPair_congr (hraise o (by omega)) (hraise (o + 4) (by omega))).trans
      (s.getPair_carrierCounted c _ hpairs h)

/-- UB judged anew changes the receiver's UB alone (R132). -/
theorem Chip.rcvOf_judgeUb_car (s : Chip) (c : Carrier) :
    ∃ b, (s.judgeUb (.car c)).rcvOf (.car c) = { s.rcvOf (.car c) with ub := b } := by
  unfold Chip.judgeUb
  extract_lets v n ub s1
  refine ⟨ub, .trans (Chip.rcvOf_congr (s := s1) ?_ _) (s.rcvOf_setRcv_self _ _)⟩
  dsimp only
  split
  · exact Chip.rcv_assert _ _
  · exact Chip.setLive_rcv _ _ _

theorem Chip.LineKept.judgeUb_car {a : Prop} {s₀ s : Chip} (h : Chip.LineKept False a s₀ s) {c : Carrier} :
    Chip.LineKept False a s₀ (s.judgeUb (.car c)) := .ite (h.setRcv.assert (.event c (by decide))) (h.setRcv.setLive (.event c (by decide)))

theorem Chip.RecordKept.judgeUb_car {g : Prop} {s₀ s : Chip} (h : Chip.RecordKept g s₀ s) {c : Carrier} :
    Chip.RecordKept g s₀ (s.judgeUb (.car c)) := .ite h.setRcv.assert h.setRcv.setLive

/-- Of FEC the judgements write EVT_STAT alone: a counter stands. -/
theorem Chip.LineKept.getPair_fec {r a : Prop} {s t : Chip} (h : Chip.LineKept r a s t) (c : Carrier) {m : Nat}
    (hm : 0x01300100 ≤ m ∧ m < 0x01301000) : t.getPair (c.base + m) = s.getPair (c.base + m) := by
  have hnot : ∀ d, d < 8 → ¬ LineReg (c.base + (m + d)) := fun d hd hl => by
    have hblock : (m + d) / 0x100000 = 0x13 := by omega
    have := hl.stat_of_receive (by rw [hblock]; decide)
    omega
  exact Chip.getPair_congr (h.rd _ (hnot 0 (by decide))) (h.rd _ (hnot 4 (by decide)))

/-- A block beyond the first W in-frame leaves the window, is counted and judged (R131, R132). -/
theorem doStairBlock_counted {s : Chip} {c : Carrier} (h : s.stairWindow c ≤ (s.rcvOf (.car c)).blocks + 1) (corr : Nat) (bad : Bool) :
    ∃ u, doStairBlock (.car c) corr bad s = ((u.countStair (.car c) corr bad).judgeUb (.car c)).settle ∧
      u.rcvOf (.car c) = (s.rcvOf (.car c)).blockLeft bad ∧ u.regs = s.regs ∧ LineFrame s u := by
  unfold doStairBlock
  extract_lets v w s1 s2
  rw [if_neg (Nat.not_lt.mpr h : ¬ v.blocks + 1 < w)]
  refine ⟨_, rfl, ?_, rfl, (LineFrame.refl s).setRcv.setRcv⟩
  have h1 : s1.rcvOf (.car c) = { v with blocks := v.blocks + 1 } := s.rcvOf_setRcv_self _ _
  rw [Chip.rcvOf_modRcv_self, h1]
  rfl

theorem doStairBlock_spec {s : Chip} {c : Carrier} (h : s.stairWindow c ≤ (s.rcvOf (.car c)).blocks + 1) (corr : Nat) (bad : Bool) :
    let t := doStairBlock (.car c) corr bad s
    (t.rcvOf (.car c)).blocks = (s.rcvOf (.car c)).blocks + 1 ∧ (t.rcvOf (.car c)).last64 = (bad :: (s.rcvOf (.car c)).last64).take 64 ∧
      (∀ o n, (o, n) ∈ blockPairs corr bad → t.getPair (c.base + o) = (s.getPair (c.base + o) + n) % 2 ^ 64) ∧
      (bad = true → Recorded (Ev.FEC.STAIR_UNCORR c) s t) ∧ LineFrame s t := by
  obtain ⟨u, hdo, hrcv, hregs, hframe⟩ := doStairBlock_counted h corr bad
  obtain ⟨hrcv', hrec, hframe', hpair⟩ := u.countStair_car_spec c corr bad
  obtain ⟨ub, hub⟩ := (u.countStair (.car c) corr bad).rcvOf_judgeUb_car c
  have hjudge : Chip.LineKept False True _ ((u.countStair (.car c) corr bad).judgeUb (.car c)).settle := (Chip.LineKept.refl _).judgeUb_car.settle
  have hsettle : Chip.LineKept True True ((u.countStair (.car c) corr bad).judgeUb (.car c)) _ := (Chip.LineKept.refl _).settle
  have hend := (Chip.rcvOf_congr (hsettle.rcv trivial) (.car c)).trans hub
  rw [Chip.rcvOf_congr hrcv', hrcv] at hend
  dsimp only
  rw [hdo, hend]
  refine ⟨rfl, rfl, fun o n hmem => ?_, fun hbad => ?_, (hframe.trans hframe').kept hjudge⟩
  · have hkept := hjudge.getPair_fec c ((fecPairs_block corr bad).bounds hmem)
    rw [hkept, hpair o n hmem, Chip.getPair_congr (Chip.rd_of_regs hregs _) (Chip.rd_of_regs hregs _)]
  · exact (Recorded.of_sticky (Chip.rd_of_regs hregs _) (hrec hbad)).recordKept (Chip.RecordKept.refl (g := True) _).judgeUb_car.settle
      (isCarrierStat_fec c)

/-- Settles O23, command by command: each is one equation in the case at hand; the laws of the counters and of the judgements that end the step say
what the counters, the receiver and the events read after it. -/
theorem decoder : Obligations.Decoder := by
  refine ⟨fun s c => ⟨fun k hk => answers_of_to rfl ?_, fun slice iters corr ok rest hflight => answers_of_to rfl ?_,
      fun w rest hflight hw => answers_of_to rfl ?_⟩,
    fun s c => ⟨fun passed k hst hlock hk => answers_of_to rfl ?_, fun hlock hrun hst => answers_of_to rfl ?_,
      fun corr bad hblocks => answers_of_to rfl ?_⟩⟩
  · rw [doCodewordDispatch_next hk, Chip.fec_setFec_self, Chip.fec_setFec_other]
    exact ⟨rfl, rfl, rfl, rfl⟩
  · rw [doDecodeDone_oldest hflight rfl ⟨rfl, rfl⟩]
    obtain ⟨hhead, hfail, hpair⟩ := s.chip.setFec_countCodeword_spec c _ slice.val (min iters (s.chip.iterLimit c)) ok corr
    rw [hhead]
    exact ⟨FecSt.head_finished hflight _, hpair 0x01300100 _ (by simp [codewordPairs]), hpair 0x01300108 _ (by simp [codewordPairs]),
      hpair 0x01300118 _ (by simp [codewordPairs]), hfail⟩
  · rw [doCodewordRelease_ready hflight hw, Chip.fec_setFec_self]
    exact ⟨rfl, rfl⟩
  · have hphase := s.chip.rcvOf_setRcv_self (.car c) { s.chip.rcvOf (.car c) with cwPhase := k }
    obtain ⟨hlock', hphase', hrec, hframe⟩ := Chip.setCwLock_settle_spec (s := s.chip.setRcv _ _) ((congrArg RcvSt.cwLock hphase).trans hlock)
    rw [doCwLock_found hst hlock hk]
    exact ⟨hlock', hphase'.trans (congrArg RcvSt.cwPhase hphase), hrec, .trans (LineFrame.refl s.chip).setRcv hframe⟩
  · have hdrop : Chip.LineKept False True s.chip (s.chip.dropCwLock (.car c)) := (Chip.LineKept.refl _).dropCwLock
    obtain ⟨hlost, hframe⟩ := (s.chip.dropCwLock (.car c)).leaveAcquired_spec c
    obtain ⟨hlock', hblocks, hstate⟩ := Chip.rcvOf_dropCwLock_leaveAcquired hlock
    rw [doCwLockLoss_acquired hlock hrun hst, Chip.rcvOf_rcvEnd_car]
    exact ⟨hlock', hblocks, hstate,
      ((Chip.dropCwLock_recorded hlock).recordKept (.leaveAcquired_car _ c) (isCarrierStat_fec c)).rcvEnd_car (isCarrierStat_fec c),
      (Recorded.of_sticky (hdrop.rd _ (not_lineReg_acqSticky c)) hlost).rcvEnd_car (isCarrierStat_acq c), (hdrop.lineFrame.trans hframe).rcvEnd_car⟩
  · obtain ⟨hblocks', hlast, hpair, hrec, hframe⟩ := doStairBlock_spec hblocks corr bad
    exact ⟨hblocks', hlast, hpair 0x01300120 1 (by simp [blockPairs]), hpair 0x01300128 corr (by simp [blockPairs]), hrec, hframe⟩

end Sys2Proof.Machine
end

section
/-! SUPPORT. Subcarriers of a leaf and marks of a hub: the frequency pre-compensation, a subcarrier's own ramps, and the marks for sleep (R150 to
R153). -/

namespace Sys2Proof.Machine

/-! ## The mask for sleep and a subcarrier's own ramp -/

theorem sleepMask_le (c : Carrier) : (Reg.SUBC.SLEEP.MASK c).lo + (Reg.SUBC.SLEEP.MASK c).width ≤ 32 := by
  cases c <;> decide

theorem not_lineReg_sleep (c : Carrier) : ¬ LineReg (Reg.SUBC.SLEEP.addr c) := fun h =>
  absurd (h.mem_of_report (by decide)) (by decide)

theorem Chip.bitOf_putBit_self (s : Chip) (f : Fld) {b : Nat} (h : f.lo + f.width ≤ 32) (hb : b < f.width) (v : Bool) :
    (s.putBit f b v).bitOf f b = v := by
  cases v
  · exact s.bitOf_clrBit_self f b h
  · exact s.bitOf_setBit_self f h hb

theorem keptBut_putBit (s : Chip) (f : Fld) (b : Nat) (v : Bool) : KeptBut [] [f] s (s.putBit f b v) := by
  cases v
  · exact keptBut_setF s f _
  · exact keptBut_setF s f _

theorem Chip.subc_putBit (s : Chip) (f : Fld) (b : Nat) (v : Bool) : (s.putBit f b v).subc = s.subc := by
  cases v <;> rfl

theorem Chip.subc_setSubc_self (s : Chip) (c : Carrier) (v : SubcSt) : (s.setSubc c v).subc.get c = v := Two.get_put_self _ _ _

/-- A subcarrier's transmit state read after one of its carrier is replaced. -/
theorem Chip.scTxOf_setScTx (s : Chip) (c : Carrier) (p q : Nat) (v : ScTx) :
    (s.setScTx c q v).scTxOf c p = if p = q then v else s.scTxOf c p := by
  rw [Chip.scTxOf, Chip.setScTx, Chip.subc_setSubc_self, Tab.get_put, Chip.scTxOf]

theorem Chip.bitOf_setScTx (s : Chip) (c : Carrier) (q : Nat) (v : ScTx) (f : Fld) (b : Nat) : (s.setScTx c q v).bitOf f b = s.bitOf f b := rfl

theorem KeptBut.setScTx {bs : List Nat} {fs : List Fld} {s t : Chip} (h : KeptBut bs fs s t) {c : Carrier} {q : Nat} {v : ScTx} :
    KeptBut bs fs s (t.setScTx c q v) := ⟨fun g hg hb ha => h.1 g hg hb ha, h.2⟩

/-- A subcarrier put to sleep or woken: its bit of the mask, and its ramp replaced (R151). -/
def Chip.scRamp (s : Chip) (c : Carrier) (q : Fin 16) (asleep : Bool) (v : ScTx) : Chip :=
  (s.putBit (Reg.SUBC.SLEEP.MASK c) q.val asleep).setScTx c q.val v

theorem Chip.scRamp_spec (s : Chip) (c : Carrier) (q : Fin 16) (asleep : Bool) (v : ScTx) :
    (s.scRamp c q asleep v).bitOf (Reg.SUBC.SLEEP.MASK c) q.val = asleep ∧ (s.scRamp c q asleep v).scTxOf c q.val = v ∧
      (∀ p : Fin 16, p ≠ q → (s.scRamp c q asleep v).scTxOf c p.val = s.scTxOf c p.val) ∧
      Kept [Reg.SUBC.SLEEP.MASK c] s (s.scRamp c q asleep v) := by
  unfold Chip.scRamp
  refine ⟨?_, ?_, fun p hp => ?_, (keptBut_putBit s _ _ _).setScTx⟩
  · rw [Chip.bitOf_setScTx, Chip.bitOf_putBit_self _ _ (sleepMask_le c) q.isLt]
  · rw [Chip.scTxOf_setScTx, if_pos rfl]
  · rw [Chip.scTxOf_setScTx, if_neg fun h => hp (Fin.ext h), Chip.scTxOf, Chip.subc_putBit, Chip.scTxOf]

/-! ## What each command does in the case at hand -/

theorem doUpFcompUpdate_leaf {c : Carrier} {s : Chip} (hcfg : s.flag (Reg.SUBC.SC_CFG.UP_FCOMP c) = true)
    (hrole : s.getF (Reg.SUBC.SC_STAT.ROLE_ACTIVE c) = 2) (f : Int) :
    doUpFcompUpdate c f s =
      s.setSubc c { s.subc.get c with fcomp := (s.subc.get c).fcomp + max (-10) (min 10 (f - (s.subc.get c).fcomp)) } :=
  if_pos (by simp [hcfg, hrole])

theorem doUpstreamSleep_awake {c : Carrier} {q : Fin 16} {s : Chip} (hmask : s.bitOf (Reg.SUBC.SLEEP.MASK c) q.val = false)
    (hdown : (s.scTxOf c q.val).down = false) :
    doUpstreamSleep c q s = s.scRamp c q true
      { down := true, from_ := if (s.scTxOf c q.val).time = 0 then 0 else s.scAtten c q.val, at_ := s.now
        mode := (s.rampCfg c).1, time := (s.rampCfg c).2 } := if_neg (by simp [hmask, hdown])

theorem doUpstreamWake_asleep {c : Carrier} {q : Fin 16} {s : Chip} (hdown : (s.scTxOf c q.val).down = true) :
    doUpstreamWake c q s = s.scRamp c q false
      { down := false, from_ := s.scAtten c q.val, at_ := s.now, mode := (s.rampCfg c).1, time := (s.rampCfg c).2
        restart := decide (300 ≤ s.scAtten c q.val) } := if_pos hdown

/-! ## The marks of a hub -/

theorem LineFrame.putSleep {s t : Chip} (h : LineFrame s t) {c : Carrier} {q : Nat} {v : Bool} :
    LineFrame s (t.putBit (Reg.SUBC.SLEEP.MASK c) q v) := by
  cases v
  · exact h.setCarrierF
  · exact h.setCarrierF

/-- A mark replaced, before the subcarrier's defects are judged anew (R152, R153). -/
def Chip.marked (s : Chip) (c : Carrier) (q : Fin 16) (v : Bool) : Chip :=
  let s1 := s.putBit (Reg.SUBC.SLEEP.MASK c) q.val v
  if v && !s.bitOf (Reg.SUBC.SLEEP.MASK c) q.val then s1.modRcv (.sub c q) fun w => { w with woke := false } else s1

theorem doHubSleepMark_eq (c : Carrier) (q : Fin 16) (v : Bool) (s : Chip) : doHubSleepMark c q v s = (s.marked c q v).settle := rfl

theorem Chip.marked_spec (s : Chip) (c : Carrier) (q : Fin 16) (v : Bool) :
    (s.marked c q v).bitOf (Reg.SUBC.SLEEP.MASK c) q.val = v ∧
      (v = true → s.bitOf (Reg.SUBC.SLEEP.MASK c) q.val = false → ((s.marked c q v).rcvOf (.sub c q)).woke = false) ∧
      LineFrame s (s.marked c q v) := by
  have hbit := s.bitOf_putBit_self (Reg.SUBC.SLEEP.MASK c) (sleepMask_le c) q.isLt v
  have hframe : LineFrame s (s.putBit (Reg.SUBC.SLEEP.MASK c) q.val v) := (LineFrame.refl s).putSleep
  unfold Chip.marked
  dsimp only
  split
  · exact ⟨hbit, fun _ _ => congrArg RcvSt.woke (Chip.rcvOf_modRcv_self _ _ _), hframe.setRcv⟩
  · next hold => exact ⟨hbit, fun hv hmask => absurd (by simp [hv, hmask]) hold, hframe⟩

/-- Settles O24, command by command: each is one equation in the case at hand, and the judgements that follow a mark leave SLEEP and the receivers. -/
theorem subcarrierSleep : Obligations.SubcarrierSleep := by
  refine fun s c q => ⟨fun f hcfg hrole => answers_of_to rfl ?_, fun hmask hdown => answers_of_to rfl ?_, fun hdown => answers_of_to rfl ?_,
    fun v => answers_of_to rfl ?_⟩
  · rw [doUpFcompUpdate_leaf hcfg hrole, Chip.subc_setSubc_self]
    refine ⟨?_, ?_, fun hnear => ?_, rfl⟩ <;> dsimp only <;> omega
  · rw [doUpstreamSleep_awake hmask hdown]
    obtain ⟨hbit, htx, hothers, hkept⟩ := s.chip.scRamp_spec c q true _
    exact ⟨hbit, congrArg ScTx.down htx, congrArg ScTx.at_ htx, hothers, hkept⟩
  · rw [doUpstreamWake_asleep hdown]
    obtain ⟨hbit, htx, hothers, hkept⟩ := s.chip.scRamp_spec c q false _
    exact ⟨hbit, congrArg ScTx.down htx, congrArg ScTx.at_ htx, hothers, hkept⟩
  · obtain ⟨hbit, hwoke, hframe⟩ := s.chip.marked_spec c q v
    have hkept : Chip.LineKept True True (s.chip.marked c q v) (s.chip.marked c q v).settle := (Chip.LineKept.refl _).settle
    have hmask := Chip.getF_congr (f := Reg.SUBC.SLEEP.MASK c) (hkept.rd _ (not_lineReg_sleep c))
    rw [doHubSleepMark_eq, Chip.rcvOf_congr (hkept.rcv trivial)]
    exact ⟨(congrArg (Nat.testBit · q.val) hmask).trans hbit, hwoke, hframe.kept hkept⟩

end Sys2Proof.Machine
end

section
/-! SUPPORT. Messages of the Tamust channel, ripple slots, the firmware mailbox and the receive ring, as the domain commands use them (R286 to R288,
R295, R302, R303, R387). -/

namespace Sys2Proof.Machine

/-! ## Messages made and sent -/

/-- Nothing but the ports of the Tamust channel and the sequence numbers differs between two chips. -/
def Posted (s t : Chip) : Prop := t = { s with wst := { s.wst with ports := t.wst.ports, seqs := t.wst.seqs } }

theorem Posted.refl (s : Chip) : Posted s s := rfl

theorem Posted.trans {s t u : Chip} (h : Posted s t) (k : Posted t u) : Posted s u := by
  unfold Posted at *
  rw [k, h]

theorem posted_newMsg (s : Chip) (type : Nat) (bcast : Bool) (dst : Nat) (payload : List Nat) : Posted s (s.newMsg type bcast dst payload).2 := rfl

theorem posted_sendOn (s : Chip) (p cls : Nat) (m : TtMsg) : Posted s (s.sendOn p cls m) := by
  unfold Chip.sendOn
  split
  exacts [rfl, rfl]

theorem posted_sendAll (s : Chip) (type : Nat) (payload : List Nat) : Posted s (s.sendAll type payload) := by
  have hports : ∀ (l : List Nat) (m : TtMsg) (u : Chip), Posted u (l.foldl (fun u p => u.sendOn p 2 m) u) := by
    intro l m
    induction l with
    | nil => exact .refl
    | cons p l ih => exact fun u => (posted_sendOn u p 2 m).trans (ih _)
  exact (posted_newMsg s type true 0x3FFF payload).trans (hports _ _ _)

theorem posted_domAnswer (s : Chip) (p id origin status : Nat) : Posted s (s.domAnswer p id origin status) :=
  (posted_newMsg s 4 false origin _).trans (posted_sendOn _ _ _ _)

section
variable {s t : Chip}

theorem Posted.ring (h : Posted s t) : t.wst.ring = s.wst.ring := by rw [h]

theorem Posted.origin (h : Posted s t) : t.wst.origin = s.wst.origin := by rw [h]

theorem Posted.dom (h : Posted s t) : t.wst.dom = s.wst.dom := by rw [h]
end

/-! ## What a change of WST alone leaves -/

/-- Nothing but WST differs between two chips: its registers and its hidden state. -/
structure Chip.WstOnly (s t : Chip) : Prop where
  rd : ∀ a, a / 0x100000 ≠ 7 → t.rd a = s.rd a
  rest : t = { s with regs := t.regs, wst := t.wst }

section
variable {s t u : Chip}

theorem Chip.WstOnly.refl (s : Chip) : Chip.WstOnly s s := ⟨fun _ _ => rfl, rfl⟩

theorem Chip.WstOnly.trans (h : Chip.WstOnly s t) (k : Chip.WstOnly t u) : Chip.WstOnly s u :=
  ⟨fun a ha => (k.rd a ha).trans (h.rd a ha), by rw [k.rest, h.rest]⟩

theorem Chip.WstOnly.setF (h : Chip.WstOnly s t) {f v} (hf : f.addr / 0x100000 = 7) : Chip.WstOnly s (t.setF f v) := by
  refine h.trans ⟨fun a ha => Chip.rd_setF_ne _ _ _ ?_, rfl⟩
  rintro rfl
  exact ha hf

theorem Chip.WstOnly.setWst (h : Chip.WstOnly s t) {w} : Chip.WstOnly s { t with wst := w } := h.trans ⟨fun _ _ => rfl, rfl⟩

theorem Chip.WstOnly.posted (h : Chip.WstOnly s t) (k : Posted t u) : Chip.WstOnly s u := by
  rw [k]
  exact h.setWst

theorem Chip.WstOnly.keptBut (h : Chip.WstOnly s t) : KeptBut [0x07] [] s t :=
  ⟨fun _ _ hb _ => Chip.getF_congr (h.rd _ fun hc => hb (by simp [hc])), by rw [h.rest]⟩

theorem Chip.WstOnly.timeFrame (h : Chip.WstOnly s t) : TimeFrame s t := by
  refine ⟨h.keptBut.mono (by simp) (by simp), ?_, ?_, ?_, ?_⟩ <;> rw [h.rest]
  exact ⟨rfl, rfl, rfl, rfl, rfl, rfl, rfl, rfl⟩
end

/-! ## A slot's registers -/

theorem Chip.setFields_append (s : Chip) (l m : List (Fld × Nat)) : s.setFields (l ++ m) = (s.setFields l).setFields m := List.foldl_append

/-- A whole register written is its field of 32 bits set. -/
theorem Chip.wr_eq_setF (s : Chip) (a v : Nat) : s.wr a (BitVec.ofNat 32 v) = s.setF ⟨a, 0, 32⟩ v := by
  have hword : ∀ w : Word, w.setField 0 32 v = BitVec.ofNat 32 v := by
    intro w
    refine BitVec.eq_of_getLsbD_eq fun i hi => ?_
    rw [Word.getLsbD_setField _ _ _ _ _ hi, if_pos (by omega), BitVec.getLsbD_ofNat]
    simp [hi]
  rw [Chip.setF, hword]

/-- What firmware writes of a one-shot slot (R302). -/
def slotFields (k t act groups gpio : Nat) : List (Fld × Nat) :=
  [(Reg.WST.RIP_SEC_LO.SEC k, t / secT16), (Reg.WST.RIP_SEC_HI.SEC k, t / secT16 / 2 ^ 32), (Reg.WST.RIP_NS.NS k, t % secT16 / 65536),
    (Reg.WST.RIP_FRAC.FRAC k, t % 65536), (Reg.WST.RIP_ACT.ACT k, act), (Reg.WST.RIP_GROUPS.GROUPS k, groups),
    (⟨Reg.WST.RIP_GPIO.addr k, 0, 32⟩, gpio), (⟨Reg.WST.RIP_PERIOD_LO.addr k, 0, 32⟩, 0), (⟨Reg.WST.RIP_PERIOD_LO.addr k + 4, 0, 32⟩, 0)]

/-- What arming a slot writes (R295). -/
def armFields (k : Nat) : List (Fld × Nat) :=
  [(Reg.WST.RIP_STAT.STATE k, 1), (Reg.WST.RIP_STAT.LATE k, 0), (Reg.WST.RIP_STAT.DROP k, 0), (Reg.WST.DROP_ISL.ISL k, 0)]

theorem Chip.fillSlot_eq (s : Chip) (k t act groups gpio : Nat) : s.fillSlot k t act groups gpio = s.setFields (slotFields k t act groups gpio) := by
  unfold Chip.fillSlot Chip.setPair
  rw [Chip.wr_eq_setF, Chip.wr_eq_setF, Chip.wr_eq_setF]
  rfl

/-- A register of a slot, by its offset. -/
theorem slotAddr_block {k n : Nat} (hk : k < 64) (hn : 0x00701000 ≤ n ∧ n < 0x00701040) : (n + 64 * k) / 0x100000 = 7 := by omega

theorem slotFields_addr (k t act groups gpio : Nat) : (slotFields k t act groups gpio).map (fun p => p.1.addr) =
    [0x00701000, 0x00701004, 0x00701008, 0x0070100C, 0x00701010, 0x00701014, 0x00701018, 0x0070101C, 0x00701020].map (· + 64 * k) := by
  simp only [slotFields, Reg.WST.RIP_SEC_LO.SEC, Reg.WST.RIP_SEC_HI.SEC, Reg.WST.RIP_NS.NS, Reg.WST.RIP_FRAC.FRAC, Reg.WST.RIP_ACT.ACT,
    Reg.WST.RIP_GROUPS.GROUPS, Reg.WST.RIP_SEC_LO.addr, Reg.WST.RIP_SEC_HI.addr, Reg.WST.RIP_NS.addr, Reg.WST.RIP_FRAC.addr,
    Reg.WST.RIP_ACT.addr, Reg.WST.RIP_GROUPS.addr, Reg.WST.RIP_GPIO.addr, Reg.WST.RIP_PERIOD_LO.addr, List.map_cons, List.map_nil]
  rw [Nat.add_right_comm]

/-- Fields of different registers share no bit. -/
theorem apart_of_nodup_addr {l : List (Fld × Nat)} (h : (l.map fun p => p.1.addr).Nodup) : (l.map Prod.fst).Pairwise fun f g => Apart g f :=
  List.pairwise_map.mpr ((List.pairwise_map.mp h).imp fun hne => .inl (Ne.symm hne))

theorem slotFields_apart (k t act groups gpio : Nat) : ((slotFields k t act groups gpio).map Prod.fst).Pairwise fun f g => Apart g f := by
  refine apart_of_nodup_addr ?_
  rw [slotFields_addr]
  exact List.Nodup.map (fun _ _ => Nat.add_right_cancel) (by decide)

theorem armFields_apart (k : Nat) : ((armFields k).map Prod.fst).Pairwise fun f g => Apart g f := by
  simp [armFields, Apart, Reg.WST.RIP_STAT.STATE, Reg.WST.RIP_STAT.LATE, Reg.WST.RIP_STAT.DROP, Reg.WST.DROP_ISL.ISL, Reg.WST.RIP_STAT.addr,
    Reg.WST.DROP_ISL.addr]

theorem armFields_addr (k : Nat) : (armFields k).map (fun p => p.1.addr) = [0x00701028, 0x00701028, 0x00701028, 0x0070103C].map (· + 64 * k) := rfl

/-- Fields of a slot at an offset that a list of fields does not write. -/
theorem Chip.getF_setFields_slot (s : Chip) {k : Nat} {l : List (Fld × Nat)} {offs : List Nat}
    (haddr : l.map (fun p => p.1.addr) = offs.map (· + 64 * k)) {n : Nat} (hn : n ∉ offs) {g : Fld} (hg : g.addr = n + 64 * k) :
    (s.setFields l).getF g = s.getF g := by
  refine Chip.getF_congr (s.rd_setFields_ne fun p hp heq => ?_)
  have hmem := List.mem_map_of_mem (f := fun p : Fld × Nat => p.1.addr) hp
  rw [haddr] at hmem
  obtain ⟨m, hm, hmp⟩ := List.mem_map.mp hmem
  have hmn : m + 64 * k = n + 64 * k := hmp.trans (heq.symm.trans hg)
  exact hn (Nat.add_right_cancel hmn ▸ hm)

theorem Chip.WstOnly.setFields {s t : Chip} (h : Chip.WstOnly s t) {l : List (Fld × Nat)} (hl : ∀ p ∈ l, p.1.addr / 0x100000 = 7) :
    Chip.WstOnly s (t.setFields l) := by
  induction l generalizing t with
  | nil => exact h
  | cons p l ih =>
    rw [List.forall_mem_cons] at hl
    exact ih (h.setF hl.1) hl.2

/-- Registers of a slot are registers of WST. -/
theorem slot_block {k : Nat} (hk : k < 64) {l : List (Fld × Nat)} {offs : List Nat} (haddr : l.map (fun p => p.1.addr) = offs.map (· + 64 * k))
    (hoffs : ∀ n ∈ offs, 0x00701000 ≤ n ∧ n < 0x00701040) : ∀ p ∈ l, p.1.addr / 0x100000 = 7 := by
  intro p hp
  have hmem := List.mem_map_of_mem (f := fun p : Fld × Nat => p.1.addr) hp
  rw [haddr] at hmem
  obtain ⟨n, hn, hnp⟩ := List.mem_map.mp hmem
  have hb := hoffs n hn
  have hnp : n + 64 * k = p.1.addr := hnp
  omega

/-! ## A slot armed and disarmed -/

theorem Chip.wst_setFields (s : Chip) (l : List (Fld × Nat)) : (s.setFields l).wst = s.wst := by rw [quiet_setFields s l]

/-- The instant that a slot's registers spell (R295). -/
theorem Chip.ripInstant_of_fields {s : Chip} {k t : Nat} (ht : t < 2 ^ 48 * secT16) (hlo : s.getF (Reg.WST.RIP_SEC_LO.SEC k) = t / secT16 % 2 ^ 32)
    (hhi : s.getF (Reg.WST.RIP_SEC_HI.SEC k) = t / secT16 / 2 ^ 32 % 2 ^ 16) (hns : s.getF (Reg.WST.RIP_NS.NS k) = t % secT16 / 65536)
    (hfrac : s.getF (Reg.WST.RIP_FRAC.FRAC k) = t % 65536) : s.ripInstant k = t := by
  rw [Chip.ripInstant, hlo, hhi, hns, hfrac]
  unfold secT16 at *
  omega

theorem Chip.getF_fillSlot (s : Chip) {k t act groups gpio : Nat} {g : Fld} {v : Nat} (hmem : (g, v) ∈ slotFields k t act groups gpio)
    (hg : g.lo + g.width ≤ 32 := by exact Nat.le_of_ble_eq_true rfl) : (s.fillSlot k t act groups gpio).getF g = v % 2 ^ g.width := by
  rw [Chip.fillSlot_eq]
  exact s.getF_setFields_of_mem (slotFields_apart k t act groups gpio) hg hmem

theorem Chip.rd_zero_of_getF {s : Chip} {a : Nat} (h : s.getF ⟨a, 0, 32⟩ = 0) : s.rd a = 0 := by
  rw [Chip.getF, Word.field] at h
  refine BitVec.eq_of_toNat_eq ?_
  simpa [Nat.mod_eq_of_lt (s.rd a).isLt] using h

theorem nanoseconds_lt (t : Nat) : t % secT16 / 65536 < 1000000000 := by
  unfold secT16
  omega

/-- The setting of a one-shot slot as its registers read it (R302). -/
theorem Chip.fillSlot_spec (s : Chip) {k t : Nat} (hk : k < 64) (ht : t < 2 ^ 48 * secT16) (act groups gpio : Nat) :
    let u := s.fillSlot k t act groups gpio
    u.ripInstant k = t ∧ u.getF (Reg.WST.RIP_NS.NS k) = t % secT16 / 65536 ∧ u.getF (Reg.WST.RIP_ACT.ACT k) = act % 2 ^ 8 ∧
      u.getF (Reg.WST.RIP_GROUPS.GROUPS k) = groups % 2 ^ 32 ∧ u.getPair (Reg.WST.RIP_PERIOD_LO.addr k) = 0 ∧
      u.ripArmed k = s.ripArmed k ∧ u.wst = s.wst ∧ Chip.WstOnly s u := by
  have hns : (s.fillSlot k t act groups gpio).getF (Reg.WST.RIP_NS.NS k) = t % secT16 / 65536 :=
    (s.getF_fillSlot (v := t % secT16 / 65536) (by simp [slotFields])).trans
      (Nat.mod_eq_of_lt ((nanoseconds_lt t).trans (show 1000000000 < 2 ^ 30 by decide)))
  have hfrac : (s.fillSlot k t act groups gpio).getF (Reg.WST.RIP_FRAC.FRAC k) = t % 65536 :=
    (s.getF_fillSlot (v := t % 65536) (by simp [slotFields])).trans (Nat.mod_mod _ _)
  have hper : ∀ a, (⟨a, 0, 32⟩, 0) ∈ slotFields k t act groups gpio → (s.fillSlot k t act groups gpio).rd a = 0 := fun a ha =>
    Chip.rd_zero_of_getF (s.getF_fillSlot ha)
  refine ⟨Chip.ripInstant_of_fields ht (s.getF_fillSlot (by simp [slotFields])) (s.getF_fillSlot (by simp [slotFields])) hns hfrac, hns,
    s.getF_fillSlot (by simp [slotFields]), s.getF_fillSlot (by simp [slotFields]), ?_, ?_, ?_, ?_⟩
  · rw [Chip.getPair, hper _ (by simp [slotFields]), hper _ (by simp [slotFields])]
    rfl
  · rw [Chip.fillSlot_eq]
    exact congrArg (· == 1) (s.getF_setFields_slot (slotFields_addr k t act groups gpio) (n := 0x00701028) (by decide) rfl)
  · rw [Chip.fillSlot_eq, Chip.wst_setFields]
  · rw [Chip.fillSlot_eq]
    exact (Chip.WstOnly.refl s).setFields (slot_block hk (slotFields_addr k t act groups gpio) (by decide))

theorem Chip.armSlot_accepts {s : Chip} {k : Nat} (hidle : s.ripArmed k = false) (hns : s.getF (Reg.WST.RIP_NS.NS k) ≤ 999999999)
    (hinst : s.wstNow + 1000 * 65536 ≤ s.ripInstant k) (hper : s.getPair (Reg.WST.RIP_PERIOD_LO.addr k) = 0) :
    s.armSlot k = { s.setFields (armFields k) with wst := { s.wst with late := s.wst.late - (s.wst.late &&& 2 ^ k) } } := by
  have hgood : ¬(999999999 < s.getF (Reg.WST.RIP_NS.NS k) ∨ s.ripInstant k < s.wstNow + 1000 * 65536 ∨
      (0 < s.getPair (Reg.WST.RIP_PERIOD_LO.addr k) ∧ s.getPair (Reg.WST.RIP_PERIOD_LO.addr k) < 1000)) := by omega
  unfold Chip.armSlot
  dsimp only
  rw [if_neg (by simp [hidle]), if_neg hgood]
  rfl

/-- The fields that a slot's instant and its action stand in. -/
theorem Chip.armFields_leave (s : Chip) (k : Nat) : (s.setFields (armFields k)).ripInstant k = s.ripInstant k ∧
    (s.setFields (armFields k)).getF (Reg.WST.RIP_ACT.ACT k) = s.getF (Reg.WST.RIP_ACT.ACT k) ∧
    (s.setFields (armFields k)).getF (Reg.WST.RIP_GROUPS.GROUPS k) = s.getF (Reg.WST.RIP_GROUPS.GROUPS k) := by
  have hkept : ∀ n, n ∉ [0x00701028, 0x00701028, 0x00701028, 0x0070103C] → ∀ g : Fld, g.addr = n + 64 * k →
      (s.setFields (armFields k)).getF g = s.getF g := fun n hn g hg => s.getF_setFields_slot (armFields_addr k) hn hg
  refine ⟨?_, hkept 0x00701010 (by decide) _ rfl, hkept 0x00701014 (by decide) _ rfl⟩
  rw [Chip.ripInstant, hkept 0x00701000 (by decide) _ rfl, hkept 0x00701004 (by decide) _ rfl, hkept 0x00701008 (by decide) _ rfl,
    hkept 0x0070100C (by decide) _ rfl, Chip.ripInstant]

theorem Chip.ripArmed_setFields_arm (s : Chip) (k : Nat) : (s.setFields (armFields k)).ripArmed k = true := by
  have hstate : (s.setFields (armFields k)).getF (Reg.WST.RIP_STAT.STATE k) = 1 :=
    Chip.getF_setFields_of_mem _ (armFields_apart k) (Nat.le_of_ble_eq_true rfl) (v := 1) (by simp [armFields])
  exact congrArg (· == 1) hstate

/-- The registers of a slot do not stand in the hidden state of WST. -/
theorem Chip.slot_setWst (s : Chip) (w : WstSt) (k : Nat) : ({ s with wst := w } : Chip).ripArmed k = s.ripArmed k ∧
    ({ s with wst := w } : Chip).ripInstant k = s.ripInstant k ∧ ∀ f, ({ s with wst := w } : Chip).getF f = s.getF f :=
  ⟨rfl, rfl, fun _ => rfl⟩

/-- A slot that is not armed takes a one-shot setting and is armed for its instant (R295, R302). -/
theorem Chip.fillSlot_armSlot_spec {s : Chip} {k t : Nat} (hk : k < 64) (hidle : s.ripArmed k = false) (ht : t < 2 ^ 48 * secT16)
    (hnow : s.wstNow + 1000 * 65536 ≤ t) (act groups gpio : Nat) :
    let u := (s.fillSlot k t act groups gpio).armSlot k
    u.ripArmed k = true ∧ u.ripInstant k = t ∧ u.getF (Reg.WST.RIP_ACT.ACT k) = act % 2 ^ 8 ∧
      u.getF (Reg.WST.RIP_GROUPS.GROUPS k) = groups % 2 ^ 32 ∧ (∃ late, u.wst = { s.wst with late := late }) ∧ Chip.WstOnly s u := by
  obtain ⟨hinst, hns, hact, hgroups, hper, harmed, hwst, honly⟩ := s.fillSlot_spec hk ht act groups gpio
  generalize s.fillSlot k t act groups gpio = u at *
  have hwstNow : u.wstNow = s.wstNow := by rw [Chip.wstNow, hwst, Chip.wstNow]
  obtain ⟨hinst', hact', hgroups'⟩ := u.armFields_leave k
  have hslots := honly.setFields (slot_block hk (armFields_addr k) (by decide))
  rw [Chip.armSlot_accepts (harmed.trans hidle) (hns.trans_le (Nat.le_of_lt_succ (nanoseconds_lt t))) (by rw [hinst, hwstNow]; exact hnow) hper,
    hwst]
  obtain ⟨harmedW, hinstW, hgetW⟩ :=
    (u.setFields (armFields k)).slot_setWst { s.wst with late := s.wst.late - (s.wst.late &&& 2 ^ k) } k
  exact ⟨harmedW.trans (u.ripArmed_setFields_arm k), hinstW.trans (hinst'.trans hinst), (hgetW _).trans (hact'.trans hact),
    (hgetW _).trans (hgroups'.trans hgroups), ⟨_, rfl⟩, hslots.setWst⟩

theorem Chip.freeSlot_spec {s : Chip} {k : Nat} (h : s.freeSlot = some k) : k < 64 ∧ s.ripArmed k = false := by
  have hfound := List.find?_some h
  exact ⟨List.mem_range.mp (List.mem_of_find?_eq_some h), by simpa using (Bool.and_eq_true_iff.mp hfound).2⟩

/-- A slot armed here is disarmed while 1 ms remains (R303). -/
theorem Chip.domDisarm_own {s : Chip} {k : Nat} (harmed : s.ripArmed k = true) (hleft : s.wstNow + 1000000 * 65536 ≤ s.ripInstant k) :
    s.domDisarm k = (true, s.setF (Reg.WST.RIP_STAT.STATE k) 0) := by
  rw [Chip.domDisarm, if_pos (by simp [harmed, hleft]), Chip.disarmSlot, if_pos harmed]

/-! ## The receive ring -/

/-- A message taken out of the receive ring. -/
def Chip.taken (s : Chip) (x : Nat × TtMsg) : Chip := { s with wst := { s.wst with ring := s.wst.ring.erase x } }

theorem Chip.ringTake_found {s : Chip} {accepts : TtMsg → Bool} {p : Nat} {m : TtMsg}
    (h : s.wst.ring.find? (fun x => accepts x.2) = some (p, m)) : s.ringTake accepts = some (p, m, s.taken (p, m)) := by
  rw [Chip.ringTake, h]
  rfl

theorem Chip.WstOnly.taken (s : Chip) (x : Nat × TtMsg) : Chip.WstOnly s (s.taken x) := (Chip.WstOnly.refl s).setWst

/-! ## The firmware mailbox -/

/-- What firmware writes as it answers a mailbox command (R387): result words, STATUS, BUSY. -/
def mboxFields (status : Nat) (words : List Nat) : List (Fld × Nat) :=
  (words.take 16).zipIdx.map (fun p => (Reg.MGMT.H2F_DATA.DATA p.2, p.1)) ++ [(Reg.MGMT.H2F_STAT.STATUS, status), (Reg.MGMT.H2F_STAT.BUSY, 0)]

/-- An answered command is no longer in progress (R387). -/
def Chip.mboxWritten (s : Chip) (status : Nat) (words : List Nat) : Chip :=
  { s.setFields (mboxFields status words) with mgmt := { s.mgmt with mbox := none } }

theorem Chip.mboxAnswer_eq (s : Chip) (core status : Nat) (words : List Nat) :
    s.mboxAnswer core status words = ((s.mboxWritten status words).raise Ev.MGMT.MBOX_DONE).evc (8 * core + 7) := by
  have hfields : s.setFields (mboxFields status words) =
      (((words.take 16).zipIdx.foldl (fun u p => u.setF (Reg.MGMT.H2F_DATA.DATA p.2) p.1) s).setF Reg.MGMT.H2F_STAT.STATUS status).setFlag
        Reg.MGMT.H2F_STAT.BUSY false := by
    rw [mboxFields, Chip.setFields_append, Chip.setFields, Chip.setFields, List.foldl_map]
    rfl
  have hmgmt : s.mgmt = (s.setFields (mboxFields status words)).mgmt := by rw [quiet_setFields s _]
  rw [Chip.mboxWritten, hmgmt, hfields]
  rfl

theorem mboxFields_mem {status : Nat} {words : List Nat} {p : Fld × Nat} (h : p ∈ mboxFields status words) :
    (∃ i, i < 16 ∧ p.1 = Reg.MGMT.H2F_DATA.DATA i) ∨ p.1 = Reg.MGMT.H2F_STAT.STATUS ∨ p.1 = Reg.MGMT.H2F_STAT.BUSY := by
  rcases List.mem_append.mp h with h | h
  · obtain ⟨x, hx, rfl⟩ := List.mem_map.mp h
    have hlt : x.2 < (words.take 16).length := by simpa using List.snd_lt_of_mem_zipIdx hx
    exact .inl ⟨x.2, by rw [List.length_take] at hlt; omega, rfl⟩
  · rcases List.mem_pair.mp h with rfl | rfl
    exacts [.inr (.inl rfl), .inr (.inr rfl)]

theorem mboxFields_apart (status : Nat) (words : List Nat) : ((mboxFields status words).map Prod.fst).Pairwise fun f g => Apart g f := by
  have hdata : (((words.take 16).zipIdx.map fun p => (Reg.MGMT.H2F_DATA.DATA p.2, p.1)).map Prod.fst).Pairwise fun f g => Apart g f := by
    refine apart_of_nodup_addr ?_
    have hnodup := (List.nodup_zipIdx_map_snd (words.take 16)).map (f := Reg.MGMT.H2F_DATA.addr) fun i j hij => by
      unfold Reg.MGMT.H2F_DATA.addr at hij
      omega
    rw [List.map_map] at hnodup ⊢
    exact hnodup
  rw [mboxFields, List.map_append, List.pairwise_append]
  refine ⟨hdata, List.pairwise_pair.mpr (.inr (.inr (Nat.le_of_ble_eq_true rfl))), fun f hf g hg => .inl ?_⟩
  obtain ⟨x, hx, rfl⟩ := List.mem_map.mp hf
  obtain ⟨y, hy, rfl⟩ := List.mem_map.mp hx
  have hlt : y.2 < (words.take 16).length := by simpa using List.snd_lt_of_mem_zipIdx hy
  rw [List.length_take] at hlt
  have haddr : g.addr = 0x00400244 := by
    rcases List.mem_pair.mp hg with rfl | rfl <;> rfl
  rw [haddr]
  show 0x00400244 ≠ 0x00400200 + 4 * y.2
  omega

theorem KeptBut.setFields {bs : List Nat} {fs : List Fld} {s t : Chip} (h : KeptBut bs fs s t) {l : List (Fld × Nat)}
    (hl : ∀ p ∈ l, p.1.addr / 0x100000 ∈ bs) : KeptBut bs fs s (t.setFields l) := by
  induction l generalizing t with
  | nil => exact h
  | cons p l ih =>
    rw [List.forall_mem_cons] at hl
    exact ih (h.setF hl.1) hl.2

theorem mboxFields_block {status : Nat} {words : List Nat} : ∀ p ∈ mboxFields status words, p.1.addr / 0x100000 = 4 ∧ p.1.addr < 0x00400248 ∧
    0x00400200 ≤ p.1.addr := by
  intro p hp
  rcases mboxFields_mem hp with ⟨i, hi, h⟩ | h | h <;> rw [h]
  · show (0x00400200 + 4 * i) / 0x100000 = 4 ∧ 0x00400200 + 4 * i < 0x00400248 ∧ 0x00400200 ≤ 0x00400200 + 4 * i
    omega
  · decide
  · decide

/-- A mailbox command answered (R387): what the mailbox reads, the event, and nothing outside MGMT and EVC. -/
theorem Chip.mboxAnswer_spec (s : Chip) (core status : Nat) (words : List Nat) :
    let t := s.mboxAnswer core status words
    t.getF Reg.MGMT.H2F_STAT.STATUS = status % 2 ^ 8 ∧ t.flag Reg.MGMT.H2F_STAT.BUSY = false ∧ t.mgmt.mbox = none ∧
      Recorded Ev.MGMT.MBOX_DONE s t ∧ KeptBut [0x04, 0x05] [] s t ∧ t.wst = s.wst ∧
      ∀ i v, i < 16 → words[i]? = some v → t.mboxWord i = v % 2 ^ 32 := by
  have hread : ∀ g : Fld, g.addr / 0x100000 = 4 → g.addr ≠ Ev.MGMT.MBOX_DONE.base + 0xF0 →
      (s.mboxAnswer core status words).getF g = (s.setFields (mboxFields status words)).getF g := by
    intro g hg hne
    rw [Chip.mboxAnswer_eq, Chip.getF_evc _ _ _ (by omega)]
    exact Chip.getF_congr ((Chip.rd_raise _ _ _).trans (if_neg fun h => hne h.2))
  have hset : ∀ {g : Fld} {v : Nat}, g.lo + g.width ≤ 32 → (g, v) ∈ mboxFields status words →
      (s.setFields (mboxFields status words)).getF g = v % 2 ^ g.width := s.getF_setFields_of_mem (mboxFields_apart status words)
  have hsticky : (s.setFields (mboxFields status words)).rd (Ev.MGMT.MBOX_DONE.base + 0xF8) = s.rd (Ev.MGMT.MBOX_DONE.base + 0xF8) := by
    refine s.rd_setFields_ne fun p hp heq => ?_
    obtain ⟨-, -, hlo⟩ := mboxFields_block p hp
    rw [← heq] at hlo
    exact absurd hlo (by decide)
  have hquiet : Quiet (s.mboxWritten status words) (s.mboxAnswer core status words) := by
    rw [Chip.mboxAnswer_eq]
    exact (quiet_raise _ _).trans (quiet_evc _ _ _)
  have hkept : KeptBut [0x04, 0x05] [] s (s.mboxWritten status words) :=
    (KeptBut.refl _ _ s).setFields fun p hp => by simp [(mboxFields_block p hp).1]
  have hstatus := (hread Reg.MGMT.H2F_STAT.STATUS (by decide) (by decide)).trans (hset (by decide) (v := status) (by simp [mboxFields]))
  have hbusy := (hread Reg.MGMT.H2F_STAT.BUSY (by decide) (by decide)).trans (hset (by decide) (v := 0) (by simp [mboxFields]))
  refine ⟨hstatus, congrArg (· == 1) hbusy, ?_, ?_, ?_, ?_, fun i v hi hv => ?_⟩
  · rw [hquiet]
    rfl
  · rw [Chip.mboxAnswer_eq]
    exact .of_sticky hsticky ((recorded_raise (s.mboxWritten status words) _ (by decide)).kept (by decide)
      (keptBut_evc _ _ _) (by decide) (by simp))
  · rw [Chip.mboxAnswer_eq]
    exact (hkept.raise (by decide)).trans ((keptBut_evc _ _ _).mono (by simp) (by simp))
  · rw [hquiet]
    exact s.wst_setFields _
  · have haddr : (Reg.MGMT.H2F_DATA.DATA i).addr = 0x00400200 + 4 * i := rfl
    have hmem : (Reg.MGMT.H2F_DATA.DATA i, v) ∈ mboxFields status words := by
      refine List.mem_append_left _ (List.mem_map.mpr ⟨(v, i), ?_, rfl⟩)
      rw [List.mk_mem_zipIdx_iff_getElem?, List.getElem?_take, if_pos hi, hv]
    exact (hread _ (by rw [haddr]; omega) (by rw [haddr]; show _ ≠ 0x004000F0; omega)).trans (hset (Nat.le_refl 32) hmem)

end Sys2Proof.Machine
end

section
/-! SUPPORT. What the commit of a carrier's line group leaves of WST: Wellspring time, the ripples, the receive ring and the registers that stand
before its events. One law per operation, in the form of the laws for the control registers. -/

namespace Sys2Proof.Machine

/-- Wellspring time, the ripples and the messages received stand from one chip to the next, and so do the registers of WST below its events. -/
structure Chip.TimeKept (s t : Chip) : Prop where
  wst : t.wst = { s.wst with ports := t.wst.ports, seqs := t.wst.seqs, fl := t.wst.fl }
  rd : ∀ a, 0x00700000 ≤ a → a < 0x007000F0 → t.rd a = s.rd a

/-- An address above those registers, read off the form its definition has: a block's base, with a carrier's base before it or offsets after it. -/
inductive AboveTime : Nat → Prop
  | carrier (c : Carrier) {a : Nat} (h : AboveTime a) : AboveTime (c.base + a)
  | offset {a : Nat} (b : Nat) (h : AboveTime a) : AboveTime (a + b)
  | base {n : Nat} (h : Nat.ble 0x007000F0 n = true) : AboveTime n

theorem AboveTime.le {a : Nat} (h : AboveTime a) : 0x007000F0 ≤ a := by
  induction h with
  | base h => exact Nat.le_of_ble_eq_true h
  | offset b _ ih => exact Nat.le_add_right_of_le ih
  | carrier c _ ih => exact Nat.le_add_left_of_le ih

section
variable {s₀ s : Chip}

theorem Chip.TimeKept.refl (s : Chip) : s.TimeKept s := ⟨rfl, fun _ _ _ => rfl⟩

/-! The steps of every law: updates of a register above these or below WST, of hidden state, and the forms a definition is built from. -/

theorem Chip.TimeKept.wr (h : s₀.TimeKept s) {a w} (ha : AboveTime a := by repeat constructor) : s₀.TimeKept (s.wr a w) :=
  ⟨h.wst, fun b hlo hhi => (Chip.rd_wr_ne s w (Nat.ne_of_lt (Nat.lt_of_lt_of_le hhi ha.le))).trans (h.rd b hlo hhi)⟩

theorem Chip.TimeKept.setF (h : s₀.TimeKept s) {f v} (ha : AboveTime f.addr := by repeat constructor) : s₀.TimeKept (s.setF f v) :=
  h.wr ha

theorem Chip.TimeKept.setBelow (h : s₀.TimeKept s) {n lo width v : Nat} (hn : n < 0x00700000 := by decide) :
    s₀.TimeKept (s.setF ⟨n, lo, width⟩ v) :=
  ⟨h.wst, fun b hlo hhi => (Chip.rd_setF_ne s _ v (Nat.ne_of_gt (Nat.lt_of_lt_of_le hn hlo))).trans (h.rd b hlo hhi)⟩

theorem Chip.TimeKept.ite {c : Prop} {_ : Decidable c} {t : Chip} (h : s₀.TimeKept s) (h' : s₀.TimeKept t) :
    s₀.TimeKept (if c then s else t) := by
  split <;> assumption

theorem Chip.TimeKept.foldl {α : Type} {f : Chip → α → Chip} {l : List α} (h : s₀.TimeKept s)
    (hf : ∀ u x, s₀.TimeKept u → s₀.TimeKept (f u x)) : s₀.TimeKept (l.foldl f s) := by
  induction l generalizing s with
  | nil => exact h
  | cons x l ih => exact ih (hf s x h)

/-- An update of hidden state that is none of WST. -/
theorem Chip.TimeKept.same {ac li fi n fu t c x rc fe su fr pm de ti g pg lo le se ev ts po bo mg pc mo la re} (h : s₀.TimeKept s) :
    s₀.TimeKept ⟨s.regs, ac, li, fi, n, fu, t, c, x, rc, fe, su, fr, pm, de, s.wst, ti, g, pg, lo, le, se, ev, ts, po, bo, mg, pc, mo,
      la, re⟩ := ⟨h.wst, h.rd⟩

/-- Ports, sequence numbers and latency bounds replaced. -/
theorem Chip.TimeKept.setWst (h : s₀.TimeKept s) {w : WstSt} (hw : w = { s.wst with ports := w.ports, seqs := w.seqs, fl := w.fl } := by rfl) :
    s₀.TimeKept { s with wst := w } := ⟨by rw [hw, h.wst], h.rd⟩

theorem Chip.TimeKept.quiet {t : Chip} (h : s₀.TimeKept s) (k : Quiet s t)
    (hrd : ∀ a, 0x00700000 ≤ a → a < 0x007000F0 → t.rd a = s.rd a) : s₀.TimeKept t :=
  ⟨by rw [k]; exact h.wst, fun b hlo hhi => (hrd b hlo hhi).trans (h.rd b hlo hhi)⟩

theorem Chip.TimeKept.raiseAt (h : s₀.TimeKept s) {e : Ev} (he : e.base + 0xF0 < 0x00700000 ∨ 0x007000F0 ≤ e.base + 0xF0) :
    s₀.TimeKept (s.raise e) :=
  h.quiet (quiet_raise s e) fun b hlo hhi => (Chip.rd_raise s e b).trans (if_neg fun hc => by
    have := hc.2
    omega)

theorem Chip.TimeKept.raise (h : s₀.TimeKept s) {e} (he : AboveTime e.base := by repeat constructor) : s₀.TimeKept (s.raise e) :=
  h.raiseAt (.inr (Nat.le_add_right_of_le he.le))

theorem Chip.TimeKept.evc (h : s₀.TimeKept s) {k n} : s₀.TimeKept (s.evc k n) :=
  h.quiet (quiet_evc s k n) fun b hlo hhi => Chip.rd_evc s k n (by omega)

/-! One law per operation, in the order of the definitions. -/

theorem Chip.TimeKept.setLive (h : s₀.TimeKept s) {e b} : s₀.TimeKept (s.setLive e b) := h.same
theorem Chip.TimeKept.assert (h : s₀.TimeKept s) {e} (he : AboveTime e.base := by repeat constructor) : s₀.TimeKept (s.assert e) :=
  h.setLive.raise he
theorem Chip.TimeKept.raiseIf (h : s₀.TimeKept s) {b e} (he : AboveTime e.base := by repeat constructor) : s₀.TimeKept (s.raiseIf b e) :=
  .ite (h.raise he) h
theorem Chip.TimeKept.setGrp (h : s₀.TimeKept s) {c g v} : s₀.TimeKept (s.setGrp c g v) := h.same
theorem Chip.TimeKept.setSubc (h : s₀.TimeKept s) {c v} : s₀.TimeKept (s.setSubc c v) := h.same
theorem Chip.TimeKept.setPg (h : s₀.TimeKept s) {g v} : s₀.TimeKept (s.setPg g v) := h.same
theorem Chip.TimeKept.raisePg (h : s₀.TimeKept s) {g e} (he : AboveTime e.base := by repeat constructor) : s₀.TimeKept (s.raisePg g e) :=
  (h.raise he).setF
theorem Chip.TimeKept.setCond (h : s₀.TimeKept s) {g new} : s₀.TimeKept (s.setCond g new) := by
  unfold Chip.setCond
  extract_lets old d s1 s2 s3
  have h2 : s₀.TimeKept s2 := .ite h.setF.raisePg h.setF
  have h3 : s₀.TimeKept s3 := .ite h2.raisePg h2
  exact .ite h (.ite h3.setPg.raisePg h3)
theorem Chip.TimeKept.pgConditions (h : s₀.TimeKept s) {g} : s₀.TimeKept (s.pgConditions g) := h.setPg.setCond
theorem Chip.TimeKept.pgRequests (h : s₀.TimeKept s) {g} : s₀.TimeKept (s.pgRequests g) := h.setPg.setF
theorem Chip.TimeKept.fopClear (h : s₀.TimeKept s) {g} : s₀.TimeKept (s.fopClear g) :=
  .ite (.raisePg (.setF (.ite h.setF.raisePg h))) (.ite h.setF.raisePg h)
theorem Chip.TimeKept.pgAlign (h : s₀.TimeKept s) {g} : s₀.TimeKept (s.pgAlign g) := .ite h.setF.setPg h
theorem Chip.TimeKept.pgSettle (h : s₀.TimeKept s) {g} : s₀.TimeKept (s.pgSettle g) := h.pgAlign.pgConditions.pgRequests.fopClear
theorem Chip.TimeKept.startSession (h : s₀.TimeKept s) {c g u retest} : s₀.TimeKept (s.startSession c g u retest) := h.setGrp.setF.setF
theorem Chip.TimeKept.sweepGroup (h : s₀.TimeKept s) {c g} : s₀.TimeKept (s.sweepGroup c g) := by
  refine .ite h (.ite h.setGrp (.ite h ?_))
  split
  exacts [.ite h h.setF.setGrp, .ite h.setF.setGrp (.ite h h.startSession)]
theorem Chip.TimeKept.bistGroup (h : s₀.TimeKept s) {c g} : s₀.TimeKept (s.bistGroup c g) := by
  unfold Chip.bistGroup
  extract_lets v s1 s2 w
  have h1 : s₀.TimeKept s1 := by
    unfold s1
    split
    exacts [.ite h h.startSession, h]
  have h2 : s₀.TimeKept s2 := h1.sweepGroup.sweepGroup
  split
  exacts [.ite h2.startSession h2, h2]
theorem Chip.TimeKept.bistSettle (h : s₀.TimeKept s) : s₀.TimeKept s.bistSettle := by
  have h1 : s₀.TimeKept (allGroups.foldl (fun u p => u.bistGroup p.1 p.2) s) := h.foldl fun _ _ hu => hu.bistGroup
  exact .ite h1.setF.setF.raise h1
theorem Chip.TimeKept.newMsg (h : s₀.TimeKept s) {type bcast dst payload} : s₀.TimeKept (s.newMsg type bcast dst payload).2 := h.setWst
theorem Chip.TimeKept.sendOn (h : s₀.TimeKept s) {p cls m} : s₀.TimeKept (s.sendOn p cls m) := .ite h.setWst h
theorem Chip.TimeKept.flRecompute (h : s₀.TimeKept s) {c} : s₀.TimeKept (s.flRecompute c) := by
  refine h.foldl fun u t hu => .setWst ?_
  exact .ite (.ite hu hu.setF.setF) (.setF (.setF (.ite hu hu.setF.setF)))
theorem Chip.TimeKept.subcSettle (h : s₀.TimeKept s) {c} : s₀.TimeKept (s.subcSettle c) := .ite h h.setF.raise
theorem Chip.TimeKept.stepShadow (h : s₀.TimeKept s) {c code up} : s₀.TimeKept (s.stepShadow c code up) := .ite h.setF (.ite h.setF h.setF)
theorem Chip.TimeKept.stepNotice (h : s₀.TimeKept s) {c} : s₀.TimeKept (s.stepNotice c) := by
  unfold Chip.stepNotice
  dsimp only
  refine .ite h.same (.ite h (.ite h ?_))
  split
  · exact .sendOn (.newMsg (.same (.ite h.stepShadow.stepShadow h.stepShadow)))
  · exact .same (.ite h.stepShadow.stepShadow h.stepShadow)
theorem Chip.TimeKept.settle (h : s₀.TimeKept s) : s₀.TimeKept s.settle :=
  .stepNotice (.stepNotice (.bistSettle (h.subcSettle.subcSettle.foldl fun _ _ hu => hu.pgSettle)))
theorem Chip.TimeKept.setRcv (h : s₀.TimeKept s) {x v} : s₀.TimeKept (s.setRcv x v) := h.same
theorem Chip.TimeKept.startRamp (h : s₀.TimeKept s) {c st from_} : s₀.TimeKept (s.startRamp c st from_) := by
  unfold Chip.startRamp
  have hstat : s₀.TimeKept (s.setF (Reg.TXD.LINE_STAT.STATE c) st) := h.setF
  exact hstat.same
theorem Chip.TimeKept.lineCommit (h : s₀.TimeKept s) {c old oldHome} : s₀.TimeKept (s.lineCommit c old oldHome) :=
  .ite (.ite h.setF.startRamp h.setF) (.ite h.setSubc h)
theorem Chip.TimeKept.lencSettleAll (h : s₀.TimeKept s) : s₀.TimeKept s.lencSettleAll := by
  have hone : ∀ u c, s₀.TimeKept u → s₀.TimeKept (u.lencSettle c) := fun u c hu => .ite hu.setF.assert hu.setF.setLive
  exact hone _ _ (hone _ _ h)
theorem Chip.TimeKept.install (h : s₀.TimeKept s) {words} : s₀.TimeKept (s.install words) := h.foldl fun _ _ hu => hu.same

/-! ## A commit of a carrier's line group -/

theorem Chip.TimeKept.refuseLine (h : s₀.TimeKept s) {c e} : s₀.TimeKept (s.refuseLine c e) :=
  h.setF.setF.setF.setF.raiseIf.raiseIf.raiseIf.raiseIf
theorem Chip.TimeKept.refuseBlocks (h : s₀.TimeKept s) {e} : s₀.TimeKept (s.refuseBlocks e) := by
  unfold Chip.refuseBlocks
  extract_lets s1 s2 s3 s4
  have h2 : s₀.TimeKept s2 := .foldl (.ite h.setBelow h) fun _ _ hu => hu.refuseLine
  have h3 : s₀.TimeKept s3 := by
    unfold s3
    split
    exacts [h2.setF.setF.raise, h2]
  have h4 : s₀.TimeKept s4 := by
    unfold s4
    split
    exacts [h3.setF.setF.raise, h3]
  exact .ite (h4.raiseAt (.inr (by decide))) h4
theorem Chip.TimeKept.commitRefused (h : s₀.TimeKept s) {g} : s₀.TimeKept (s.commitRefused g) := h.setBelow.setBelow.raiseAt (.inl (by decide))
theorem Chip.TimeKept.lineGroupCommitted (h : s₀.TimeKept s) {c old} : s₀.TimeKept (s.lineGroupCommitted c old) := by
  unfold Chip.lineGroupCommitted
  extract_lets fixed set_ s1 s2 s3 vbr s4
  have h2 : s₀.TimeKept s2 := .ite (h.setF.foldl fun _ _ hu => .ite hu.setRcv hu) h.setF
  have h3 : s₀.TimeKept s3 := h2.setF
  have h4 : s₀.TimeKept s4 := .ite h3 h3.setF.flRecompute
  exact h4.lineCommit
end

/-- The group of a carrier's line settings (R541). -/
def lineGroupOf (c : Carrier) : Fin 4294967296 := ⟨2 ^ (2 + c.ix), by cases c <;> decide⟩

/-- Without a group that waits for a protection switch, what is left is what ends every such step. -/
theorem Chip.switchedGroups_zero (s : Chip) (old : Nat → Word) : s.switchedGroups 0 old = s.settle := by
  unfold Chip.switchedGroups
  dsimp only
  rw [Nat.zero_testBit, Nat.zero_testBit, Nat.zero_testBit, if_neg Bool.false_ne_true, if_neg Bool.false_ne_true, if_neg Bool.false_ne_true]

/-- A line group waits for no protection switch and reaches no other block: its words are installed, and its carrier takes them (R438). -/
theorem Chip.commitTakes_lineGroup (s : Chip) (words : List (Nat × Word)) (c : Carrier) :
    s.commitTakes words (lineGroupOf c).val = (((((s.install words).lineGroupCommitted c s.act).settle).bump Reg.TOP.COMMIT_SEQ.COUNT).setF
      Reg.TOP.COMMIT_LAST.GROUPS (lineGroupOf c).val).lencSettleAll := by
  have hwait : (lineGroupOf c).val &&& waitGroups = 0 := by cases c <;> decide
  have hbounds : (lineGroupOf c).val &&& 0x12 = 0 := by cases c <;> decide
  have ⟨h5, h6, h7⟩ : (lineGroupOf c).val.testBit 5 = false ∧ (lineGroupOf c).val.testBit 6 = false ∧
      (lineGroupOf c).val.testBit 7 = false := by cases c <;> decide
  have hcar : lineCarriers (lineGroupOf c).val = [c] := by cases c <;> decide
  unfold Chip.commitTakes
  extract_lets old waits late s1 _ s2 s3 s4 s5 s6 t u _ s7 s8
  have hw : waits = false := by simp [waits, hwait]
  have h2 : s2 = s.install words := by simp [s2, s1, hw]
  have h3 : s3 = (s.install words).lineGroupCommitted c s.act := by
    rw [← h2]
    unfold s3
    rw [hcar]
    rfl
  have h4 : s4 = s3.settle := by
    unfold s4
    rw [hw, if_neg Bool.false_ne_true, hwait, Chip.switchedGroups_zero]
  have h8 : s8 = s4 := by
    have hnone : ((lineGroupOf c).val &&& 0x12 != 0 && !waits) = false := by simp [hbounds]
    unfold s8 s7 s6 s5
    rw [hnone, h7, h6, h5, if_neg Bool.false_ne_true, if_neg Bool.false_ne_true, if_neg Bool.false_ne_true, if_neg Bool.false_ne_true]
  rw [h8, h4, h3]

/-- A commit of a line group, refused or not, leaves its record in COMMIT_LAST, and the time and the messages as they were (R438, R541). -/
theorem Chip.commitEvent_lineGroup_spec (s : Chip) (shadow : List (Nat × Word)) (c : Carrier) :
    s.TimeKept (s.commitEvent shadow (lineGroupOf c).val).2 ∧
      (s.commitEvent shadow (lineGroupOf c).val).2.getF Reg.TOP.COMMIT_LAST.GROUPS = (lineGroupOf c).val := by
  have hevc : s.TimeKept (s.evc 71) := (Chip.TimeKept.refl s).evc
  unfold Chip.commitEvent
  dsimp only
  split
  · exact ⟨hevc.commitRefused, (Chip.commitRefused_control (Chip.CtlKept.refl _) (lineGroupOf c)).2.1⟩
  · dsimp only
    split
    · exact ⟨hevc.refuseBlocks.commitRefused, (Chip.commitRefused_control (Chip.CtlKept.refl (s.evc 71)).refuseBlocks (lineGroupOf c)).2.1⟩
    · rw [Chip.commitTakes_lineGroup]
      refine ⟨hevc.install.lineGroupCommitted.settle.setBelow.setBelow.lencSettleAll, ?_⟩
      rw [(Chip.CtlKept.refl _).lencSettleAll.getF (by decide) (by decide), Chip.getF_setF_self _ _ _ (by decide)]
      exact Nat.mod_eq_of_lt (lineGroupOf c).isLt

end Sys2Proof.Machine
end

section
/-! SUPPORT. Domain ripples and grants (R157, R288, R301 to R303, R388). -/

namespace Sys2Proof.Machine

/-! ## Slots and answers after a change of WST -/

/-- The registers that a domain command reads of a slot. -/
theorem Chip.slot_congr {s t : Chip} {k : Nat} (hk : k < 64)
    (h : ∀ f : Fld, f.addr / 0x100000 = 7 → f.lo + f.width ≤ 32 → t.getF f = s.getF f) :
    t.ripArmed k = s.ripArmed k ∧ t.ripInstant k = s.ripInstant k ∧
      t.getF (Reg.WST.RIP_STAT.STATE k) = s.getF (Reg.WST.RIP_STAT.STATE k) ∧
      t.getF (Reg.WST.RIP_ACT.ACT k) = s.getF (Reg.WST.RIP_ACT.ACT k) ∧
      t.getF (Reg.WST.RIP_GROUPS.GROUPS k) = s.getF (Reg.WST.RIP_GROUPS.GROUPS k) := by
  have hslot : ∀ n lo width, 0x00701000 ≤ n ∧ n < 0x00701040 → lo + width ≤ 32 →
      t.getF ⟨n + 64 * k, lo, width⟩ = s.getF ⟨n + 64 * k, lo, width⟩ := fun _ _ _ hn hw => h _ (slotAddr_block hk hn) hw
  have hstate := hslot 0x00701028 0 2 (by decide) (by decide)
  refine ⟨congrArg (· == 1) hstate, ?_, hstate, hslot 0x00701010 0 8 (by decide) (by decide), hslot 0x00701014 0 32 (by decide) (by decide)⟩
  have hlo : t.getF (Reg.WST.RIP_SEC_LO.SEC k) = s.getF (Reg.WST.RIP_SEC_LO.SEC k) := hslot 0x00701000 0 32 (by decide) (by decide)
  have hhi : t.getF (Reg.WST.RIP_SEC_HI.SEC k) = s.getF (Reg.WST.RIP_SEC_HI.SEC k) := hslot 0x00701004 0 16 (by decide) (by decide)
  have hns : t.getF (Reg.WST.RIP_NS.NS k) = s.getF (Reg.WST.RIP_NS.NS k) := hslot 0x00701008 0 30 (by decide) (by decide)
  have hfrac : t.getF (Reg.WST.RIP_FRAC.FRAC k) = s.getF (Reg.WST.RIP_FRAC.FRAC k) := hslot 0x0070100C 0 16 (by decide) (by decide)
  rw [Chip.ripInstant, hlo, hhi, hns, hfrac, Chip.ripInstant]

theorem Posted.getF {s t : Chip} (h : Posted s t) (f : Fld) : t.getF f = s.getF f := by rw [h]; rfl

theorem Posted.slot {s t : Chip} (h : Posted s t) (k : Nat) : t.ripArmed k = s.ripArmed k ∧ t.ripInstant k = s.ripInstant k := by
  rw [h]
  exact ⟨(s.slot_setWst _ k).1, (s.slot_setWst _ k).2.1⟩

/-- The mailbox command in progress answered with a status (R387). -/
def Chip.MboxAnswered (s : Chip) (status : Nat) (t : Chip) : Prop :=
  t.getF Reg.MGMT.H2F_STAT.STATUS = status ∧ t.flag Reg.MGMT.H2F_STAT.BUSY = false ∧ t.mgmt.mbox = none ∧ Recorded Ev.MGMT.MBOX_DONE s t

/-- A mailbox command answered after a change of WST alone: WST reads as it was changed. -/
theorem Chip.WstOnly.mboxAnswer {s t : Chip} (h : Chip.WstOnly s t) (core : Nat) {status : Nat} (hst : status < 2 ^ 8) (words : List Nat) :
    s.MboxAnswered status (t.mboxAnswer core status words) ∧ KeptBut [0x04, 0x05, 0x07] [] s (t.mboxAnswer core status words) ∧
      (t.mboxAnswer core status words).wst = t.wst ∧
      ∀ f : Fld, f.addr / 0x100000 = 7 → f.lo + f.width ≤ 32 → (t.mboxAnswer core status words).getF f = t.getF f := by
  obtain ⟨hstatus, hbusy, hmbox, hrec, hkept, hwst, -⟩ := t.mboxAnswer_spec core status words
  refine ⟨⟨hstatus.trans (Nat.mod_eq_of_lt hst), hbusy, hmbox, .of_sticky (h.rd _ (by decide)) hrec⟩,
    (h.keptBut.mono (by simp) (by simp)).trans (hkept.mono (by simp) (by simp)), hwst, fun f hf hw => hkept.1 f hw ?_ (by simp)⟩
  rw [hf]
  decide

/-! ## A domain ripple submitted, cancelled and asked for -/

/-- The instant that a mailbox command carries (R307, R388). -/
def Chip.mboxInstant (s : Chip) : Nat :=
  (s.mboxWord 1 + s.mboxWord 2 % 2 ^ 16 * 2 ^ 32) * secT16 + s.mboxWord 3 * 65536 + s.mboxWord 4 % 65536

theorem Chip.mboxWord_lt (s : Chip) (i : Nat) : s.mboxWord i < 2 ^ 32 := Word.field_lt _ _ _

theorem Chip.mboxInstant_lt {s : Chip} (h : s.mboxWord 3 ≤ 999999999) : s.mboxInstant < 2 ^ 48 * secT16 := by
  have hsec := s.mboxWord_lt 1
  unfold Chip.mboxInstant secT16
  omega

theorem doDomRipple_noNode {core : Fin 4} {s : Chip} (hop : s.mboxIs (fun o => o == 0x10) = true) (hnode : s.flag Reg.WST.NODE_ID.VALID = false) :
    doDomRipple core s = s.mboxAnswer core.val 5 [] := by
  unfold doDomRipple
  rw [if_pos hop]
  exact if_pos hnode

theorem doDomRipple_submits {core : Fin 4} {s : Chip} {k : Nat} (hop : s.mboxIs (fun o => o == 0x10) = true)
    (hnode : s.flag Reg.WST.NODE_ID.VALID = true) (hns : s.mboxWord 3 ≤ 999999999) (hlead : s.wstNow + 50000000 * 65536 ≤ s.mboxInstant)
    (hfree : s.freeSlot = some k) : doDomRipple core s =
      s.domSubmit core.val k (s.mboxWord 0 % 65536) s.mboxInstant (s.mboxWord 5 % 256) (s.mboxWord 6) (s.mboxWord 7) := by
  have hnode' : ¬ s.flag Reg.WST.NODE_ID.VALID = false := by simp [hnode]
  have hns' : ¬ 999999999 < s.mboxWord 3 := Nat.not_lt.mpr hns
  have hlead' : ¬ s.mboxInstant < s.wstNow + 50000000 * 65536 := Nat.not_lt.mpr hlead
  unfold doDomRipple
  rw [if_pos hop]
  dsimp only
  rw [if_neg hnode', if_neg hns', ← Chip.mboxInstant, if_neg hlead', hfree]

/-- A slot armed for a domain ripple of this device, which is noted as its origin (R302). -/
def Chip.domArmed (s : Chip) (k id t act groups gpio : Nat) : Chip :=
  let u := (s.fillSlot k t act groups gpio).armSlot k
  { u with wst := { u.wst with origin := { id := id, slot := some k, at_ := t } :: u.wst.origin.filter fun x => x.id != id
                               dom := (s.nodeId, id, some k) :: u.wst.dom } }

theorem Chip.domSubmit_eq (s : Chip) (core k id t act groups gpio : Nat) : ∃ body : List Nat,
    s.domSubmit core k id t act groups gpio = ((s.domArmed k id t act groups gpio).sendAll 3 body).mboxAnswer core 0 [] := ⟨_, rfl⟩

/-- A domain ripple submitted (R302, R388): its slot, its origin, the answer, and what stands. -/
theorem Chip.domSubmit_spec {s : Chip} {k t : Nat} (hk : k < 64) (hidle : s.ripArmed k = false) (ht : t < 2 ^ 48 * secT16)
    (hnow : s.wstNow + 1000 * 65536 ≤ t) (core id act groups gpio : Nat) :
    let u := s.domSubmit core k id t act groups gpio
    s.MboxAnswered 0 u ∧ u.ripArmed k = true ∧ u.ripInstant k = t ∧ u.getF (Reg.WST.RIP_ACT.ACT k) = act % 2 ^ 8 ∧
      u.getF (Reg.WST.RIP_GROUPS.GROUPS k) = groups % 2 ^ 32 ∧ u.originOf id = some { id := id, slot := some k, at_ := t } ∧
      KeptBut [0x04, 0x05, 0x07] [] s u := by
  obtain ⟨body, heq⟩ := s.domSubmit_eq core k id t act groups gpio
  obtain ⟨harmed, hinst, hact, hgroups, -, honly⟩ := Chip.fillSlot_armSlot_spec hk hidle ht hnow act groups gpio
  have hposted := posted_sendAll (s.domArmed k id t act groups gpio) 3 body
  have hdom : Chip.WstOnly s (s.domArmed k id t act groups gpio) := honly.setWst
  obtain ⟨hanswered, hkept, hwst, hread⟩ := (hdom.posted hposted).mboxAnswer core (status := 0) (by decide) []
  obtain ⟨harmed', hinst', -, hact', hgroups'⟩ := Chip.slot_congr (s := (s.fillSlot k t act groups gpio).armSlot k) hk fun f hf hw =>
    (hread f hf hw).trans ((hposted.getF f).trans ((Chip.slot_setWst _ _ k).2.2 f))
  dsimp only
  rw [heq]
  refine ⟨hanswered, harmed'.trans harmed, hinst'.trans hinst, hact'.trans hact, hgroups'.trans hgroups, ?_, hkept⟩
  rw [Chip.originOf, hwst, hposted.origin]
  exact List.find?_cons_of_pos (beq_self_eq_true id)

theorem doDomCancel_own {core : Fin 4} {s : Chip} {o : DomOrigin} {k : Nat} (hop : s.mboxIs (fun o => o == 0x11) = true)
    (hid : s.originOf (s.mboxWord 0 % 65536) = some o) (hslot : o.slot = some k) (harmed : s.ripArmed k = true)
    (hleft : s.wstNow + 1000000 * 65536 ≤ s.ripInstant k) : ∃ body : List Nat, doDomCancel core s =
      ((s.setF (Reg.WST.RIP_STAT.STATE k) 0).sendAll 5 body).mboxAnswer core.val 0 [] := by
  refine ⟨bytesMsb 2 (s.mboxWord 0 % 65536) ++ bytesMsb 2 s.nodeId, ?_⟩
  unfold doDomCancel
  rw [if_pos hop]
  dsimp only
  rw [hid]
  dsimp only
  rw [hslot]
  dsimp only
  rw [Chip.domDisarm_own harmed hleft]

theorem doDomStatus_known {core : Fin 4} {s : Chip} {o : DomOrigin} (hop : s.mboxIs (fun o => o == 0x12) = true)
    (hid : s.originOf (s.mboxWord 0 % 65536) = some o) :
    doDomStatus core s = s.mboxAnswer core.val 0 [o.armed, o.late, o.noSlot, o.cancelled] := by
  rw [doDomStatus, if_pos hop, hid]

/-! ## Domain ripples of another device -/

theorem Chip.wstOnly_domNote (s : Chip) (origin id : Nat) (slot : Option Nat) : Chip.WstOnly s (s.domNote origin id slot) :=
  (Chip.WstOnly.refl s).setWst

theorem Chip.freeSlot_taken (s : Chip) (x : Nat × TtMsg) : (s.taken x).freeSlot = s.freeSlot := rfl

theorem Chip.domSched_arms {s : Chip} {b : List Nat} {k : Nat}
    (hnew : (s.wst.dom.any fun x => x.1 == ofBytes ((b.drop 2).take 2) && x.2.1 == ofBytes (b.take 2)) = false)
    (hlead : s.wstNow + 1000000 * 65536 ≤ instantOf (b.drop 4)) (hfree : s.freeSlot = some k) (p : Nat) :
    ∃ act groups gpio, s.domSched p b = (((s.fillSlot k (instantOf (b.drop 4)) act groups gpio).armSlot k).domNote (ofBytes ((b.drop 2).take 2))
      (ofBytes (b.take 2)) (some k)).domAnswer p (ofBytes (b.take 2)) (ofBytes ((b.drop 2).take 2)) 0 := by
  refine ⟨(b.drop 16).getD 0 0, ofBytes (((b.drop 16).drop 1).take 4), ofBytes (((b.drop 16).drop 5).take 4), ?_⟩
  unfold Chip.domSched
  dsimp only
  rw [if_neg (by rw [hnew]; exact Bool.false_ne_true), if_neg (Nat.not_lt.mpr hlead), hfree]

/-- A scheduled ripple that arms an idle slot (R303): the slot, the note of it, and what stands. -/
theorem Chip.domSched_spec {s : Chip} {b : List Nat} {k : Nat}
    (hnew : (s.wst.dom.any fun x => x.1 == ofBytes ((b.drop 2).take 2) && x.2.1 == ofBytes (b.take 2)) = false)
    (hlead : s.wstNow + 1000000 * 65536 ≤ instantOf (b.drop 4)) (ht : instantOf (b.drop 4) < 2 ^ 48 * secT16)
    (hfree : s.freeSlot = some k) (p : Nat) :
    (s.domSched p b).wst.ring = s.wst.ring ∧ (s.domSched p b).ripArmed k = true ∧ (s.domSched p b).ripInstant k = instantOf (b.drop 4) ∧
      (ofBytes ((b.drop 2).take 2), ofBytes (b.take 2), some k) ∈ (s.domSched p b).wst.dom ∧ Chip.WstOnly s (s.domSched p b) := by
  obtain ⟨hk, hidle⟩ := Chip.freeSlot_spec hfree
  obtain ⟨act, groups, gpio, heq⟩ := Chip.domSched_arms hnew hlead hfree p
  obtain ⟨harmed, hinst, -, -, ⟨late, hwst⟩, honly⟩ := Chip.fillSlot_armSlot_spec hk hidle ht (by omega) act groups gpio
  rw [heq]
  generalize (s.fillSlot k (instantOf (b.drop 4)) act groups gpio).armSlot k = u at *
  have hposted := posted_domAnswer (u.domNote (ofBytes ((b.drop 2).take 2)) (ofBytes (b.take 2)) (some k)) p (ofBytes (b.take 2))
    (ofBytes ((b.drop 2).take 2)) 0
  have hnote := u.wstOnly_domNote (ofBytes ((b.drop 2).take 2)) (ofBytes (b.take 2)) (some k)
  refine ⟨?_, (hposted.slot k).1.trans harmed, (hposted.slot k).2.trans hinst, ?_, (honly.trans hnote).posted hposted⟩
  · rw [hposted.ring, Chip.domNote, hwst]
  · rw [hposted.dom]
    exact List.mem_cons_self

theorem doRippleSched_takes {s : Chip} {p : Nat} {m : TtMsg}
    (h : s.wst.ring.find? (fun x => x.2.type == 3 && x.2.payload.length == 25) = some (p, m)) :
    doRippleSched s = (s.taken (p, m)).domSched p m.payload := by
  rw [doRippleSched, Chip.ringTake_found h]

theorem doRippleCancel_own {s : Chip} {p : Nat} {m : TtMsg} {x : Nat × Nat × Option Nat} {k : Nat}
    (h : s.wst.ring.find? (fun x => x.2.type == 5 && x.2.payload.length == 4) = some (p, m))
    (hdom : s.wst.dom.find? (fun y => y.1 == ofBytes (m.payload.drop 2) && y.2.1 == ofBytes (m.payload.take 2)) = some x) (hslot : x.2.2 = some k)
    (harmed : s.ripArmed k = true) (hleft : s.wstNow + 1000000 * 65536 ≤ s.ripInstant k) :
    doRippleCancel s = ((((s.taken (p, m)).setF (Reg.WST.RIP_STAT.STATE k) 0).domNote (ofBytes (m.payload.drop 2)) (ofBytes (m.payload.take 2))
      none).domAnswer p (ofBytes (m.payload.take 2)) (ofBytes (m.payload.drop 2)) 3) := by
  obtain ⟨origin, id, slot⟩ := x
  obtain rfl : slot = some k := hslot
  have hdom' : (s.taken (p, m)).wst.dom.find? (fun y => y.1 == ofBytes (m.payload.drop 2) && y.2.1 == ofBytes (m.payload.take 2)) =
    some (origin, id, some k) := hdom
  have harmed' : (s.taken (p, m)).ripArmed k = true := ((s.slot_setWst _ k).1).trans harmed
  have hleft' : (s.taken (p, m)).wstNow + 1000000 * 65536 ≤ (s.taken (p, m)).ripInstant k := hleft.trans_eq (s.slot_setWst _ k).2.1.symm
  rw [doRippleCancel, Chip.ringTake_found h]
  dsimp only
  rw [hdom']
  dsimp only
  rw [Chip.domDisarm_own harmed' hleft', if_pos rfl]

/-- An answer counted for the domain ripple that it names (R302). -/
def TtMsg.counted (m : TtMsg) (o : DomOrigin) : DomOrigin := if o.id = ofBytes (m.payload.take 2) then o.count (m.payload.getD 4 4) else o

theorem doRippleAck_origin {s : Chip} {p : Nat} {m : TtMsg}
    (h : s.wst.ring.find? (fun x => x.2.type == 4 && x.2.payload.length == 5) = some (p, m))
    (hnode : ofBytes ((m.payload.drop 2).take 2) = s.nodeId) :
    doRippleAck s = { s.taken (p, m) with wst := { (s.taken (p, m)).wst with origin := s.wst.origin.map m.counted } } := by
  rw [doRippleAck, Chip.ringTake_found h]
  exact if_pos hnode

/-! ## Grants -/

theorem Chip.TimeKept.doInletAck {s₀ s : Chip} (h : s₀.TimeKept s) {c : Carrier} : s₀.TimeKept (doInletAck c s) := by
  have hset : s₀.TimeKept (s.setF (Reg.SUBC.INLET_TX_STAT.STATE c) 5) := h.setF
  exact .ite h.setSubc (.ite hset.setSubc h)

theorem Chip.CtlKept.doInletAck {s₀ s : Chip} (h : s₀.CtlKept s) {c : Carrier} : s₀.CtlKept (doInletAck c s) := by
  have hset : s₀.CtlKept (s.setF (Reg.SUBC.INLET_TX_STAT.STATE c) 5) := h.setF
  exact .ite h.setSubc (.ite hset.setSubc h)

/-- A grant's node ID and masks written (R157, R288, R301). -/
def Chip.granted (s : Chip) (c : Carrier) (node : Nat) (valid : Bool) (dn up : Nat) : Chip :=
  (((s.setF Reg.WST.NODE_ID.ID node).setFlag Reg.WST.NODE_ID.VALID valid).setF (Reg.SUBC.DN_EN.MASK c) dn).setF (Reg.SUBC.UP_EN.MASK c) up

theorem Chip.getF_nodeId_setFlag_valid (s : Chip) (node : Nat) (valid : Bool) :
    ((s.setF Reg.WST.NODE_ID.ID node).setFlag Reg.WST.NODE_ID.VALID valid).getF Reg.WST.NODE_ID.ID = node % 2 ^ 14 := by
  have hid : (s.setF Reg.WST.NODE_ID.ID node).getF Reg.WST.NODE_ID.ID = node % 2 ^ 14 := Chip.getF_setF_self _ _ _ (by decide)
  rw [Chip.setFlag, Chip.getF_setF_disjoint _ Reg.WST.NODE_ID.VALID Reg.WST.NODE_ID.ID _ rfl (by decide) (.inl (by decide)), hid]

/-- What a grant writes is the node ID and SUBC (R157, R288). -/
theorem Chip.granted_spec (s : Chip) (c : Carrier) (node : Nat) (valid : Bool) (dn up : Nat) :
    (s.granted c node valid dn up).wst = s.wst ∧ (s.granted c node valid dn up).getF Reg.WST.NODE_ID.ID = node % 2 ^ 14 ∧
      (s.granted c node valid dn up).flag Reg.WST.NODE_ID.VALID = valid := by
  have hkept : Chip.TimeKept ((s.setF Reg.WST.NODE_ID.ID node).setFlag Reg.WST.NODE_ID.VALID valid) (s.granted c node valid dn up) :=
    (Chip.TimeKept.refl _).setF.setF
  have hrd := hkept.rd Reg.WST.NODE_ID.addr (by decide) (by decide)
  refine ⟨?_, (Chip.getF_congr hrd).trans (s.getF_nodeId_setFlag_valid node valid),
    (Chip.flag_congr hrd).trans (Chip.flag_setFlag_self _ _ _ rfl (by decide))⟩
  rw [Chip.granted, Chip.setF_wst, Chip.setF_wst, Chip.setFlag_wst, Chip.setF_wst]

theorem Chip.applyGrant_eq (s : Chip) (c : Carrier) (node dn up : Nat) : s.applyGrant c node dn up =
    doInletAck c ((s.granted c node (decide (node ≠ 0x3FFF)) dn up).commitEvent
      ((s.granted c node (decide (node ≠ 0x3FFF)) dn up).shadows (lineGroupOf c).val) (lineGroupOf c).val).2 := rfl

/-- A grant applied (R157, R288, R301): the node ID, the commit of the carrier's group, and the ring. -/
theorem Chip.applyGrant_spec (s : Chip) (c : Carrier) (node dn up : Nat) :
    (s.applyGrant c node dn up).wst.ring = s.wst.ring ∧ (s.applyGrant c node dn up).getF Reg.WST.NODE_ID.ID = node % 2 ^ 14 ∧
      (s.applyGrant c node dn up).flag Reg.WST.NODE_ID.VALID = decide (node ≠ 0x3FFF) ∧
      (s.applyGrant c node dn up).getF Reg.TOP.COMMIT_LAST.GROUPS = 2 ^ (2 + c.ix) := by
  obtain ⟨hwst, hid, hvalid⟩ := s.granted_spec c node (decide (node ≠ 0x3FFF)) dn up
  rw [Chip.applyGrant_eq]
  generalize s.granted c node (decide (node ≠ 0x3FFF)) dn up = u at *
  obtain ⟨hcommit, hlast⟩ := u.commitEvent_lineGroup_spec (u.shadows (lineGroupOf c).val) c
  have hkept := hcommit.doInletAck (c := c)
  have hrd := hkept.rd Reg.WST.NODE_ID.addr (by decide) (by decide)
  refine ⟨?_, (Chip.getF_congr hrd).trans hid, (Chip.flag_congr hrd).trans hvalid, ?_⟩
  · rw [hkept.wst, hwst]
  · rw [(Chip.CtlKept.refl _).doInletAck.getF (by decide) (by decide), hlast]
    rfl

theorem doGrant_mine {s : Chip} {p : Nat} {m : TtMsg} (h : s.wst.ring.find? (fun x => x.2.type == 6 && x.2.payload.length == 14) = some (p, m))
    (hserial : ofBytes (m.payload.take 8) = s.getPair (Reg.SUBC.INLET_SERIAL_LO.addr (Carrier.ofBit (p / 16)))) :
    ∃ dn up : Nat, doGrant s = (s.taken (p, m)).applyGrant (Carrier.ofBit (p / 16)) (ofBytes ((m.payload.drop 8).take 2) % 16384) dn up := by
  refine ⟨ofBytes ((m.payload.drop 10).take 2), ofBytes (m.payload.drop 12), ?_⟩
  rw [doGrant, Chip.ringTake_found h]
  exact if_pos hserial

/-- Settles O37, command by command: each is one equation in the case at hand; the laws of the slots, of messages sent, of the mailbox and of a line
group's commit say what its slot, its answer and its registers read. -/
theorem domainRipples : Obligations.DomainRipples := by
  refine fun s core => ⟨fun hop => ⟨fun hnode => answers_of_to rfl ?_, fun k hnode hns hlead hfree => answers_of_to rfl ?_⟩,
    fun o k hop hid hslot ⟨hk, harmed, hleft⟩ => answers_of_to rfl ?_, fun o hop hid => answers_of_to rfl ?_,
    fun p m k hmsg hnew hlead ht hfree => answers_of_to rfl ?_, fun p m x k hmsg hdom hslot ⟨hk, harmed, hleft⟩ => answers_of_to rfl ?_,
    fun p m hmsg hnode => answers_of_to rfl ?_, fun p m hmsg hserial => answers_of_to rfl ?_⟩
  · rw [doDomRipple_noNode hop hnode]
    obtain ⟨hstatus, hbusy, hmbox, hrec, hkept, hwst, -⟩ := s.chip.mboxAnswer_spec core.val 5 []
    exact ⟨⟨hstatus, hbusy, hmbox, hrec⟩, hwst, hkept⟩
  · obtain ⟨hk, hidle⟩ := Chip.freeSlot_spec hfree
    have hinstant : s.chip.wstNow + 50000000 * 65536 ≤ s.chip.mboxInstant := hlead
    rw [doDomRipple_submits hop hnode hns hinstant hfree]
    obtain ⟨hanswered, harmed, hinst, hact, hgroups, horigin, hkept⟩ := Chip.domSubmit_spec hk hidle (Chip.mboxInstant_lt hns) (by omega) core.val
      (s.chip.mboxWord 0 % 65536) (s.chip.mboxWord 5 % 256) (s.chip.mboxWord 6) (s.chip.mboxWord 7)
    exact ⟨hanswered, harmed, hinst, hact.trans (Nat.mod_mod _ _), hgroups.trans (Nat.mod_eq_of_lt (s.chip.mboxWord_lt 6)),
      ⟨_, horigin, rfl, rfl, rfl⟩, hkept⟩
  · obtain ⟨body, heq⟩ := doDomCancel_own (core := core) hop hid hslot harmed hleft
    have hposted := posted_sendAll (s.chip.setF (Reg.WST.RIP_STAT.STATE k) 0) 5 body
    have honly : Chip.WstOnly s.chip (s.chip.setF (Reg.WST.RIP_STAT.STATE k) 0) := (Chip.WstOnly.refl _).setF (slotAddr_block hk (by decide))
    obtain ⟨hanswered, hkept, -, hread⟩ := (honly.posted hposted).mboxAnswer core.val (status := 0) (by decide) []
    have hstate := (Chip.slot_congr hk hread).2.2.1
    rw [heq]
    exact ⟨hanswered, hstate.trans ((hposted.getF _).trans (Chip.getF_setF_self _ _ _ (Nat.le_of_ble_eq_true rfl))), hkept⟩
  · rw [doDomStatus_known hop hid]
    obtain ⟨hstatus, hbusy, hmbox, hrec, -, hwst, hwords⟩ := s.chip.mboxAnswer_spec core.val 0 [o.armed, o.late, o.noSlot, o.cancelled]
    exact ⟨⟨hstatus, hbusy, hmbox, hrec⟩, hwords 0 _ (by decide) rfl, hwords 1 _ (by decide) rfl, hwords 2 _ (by decide) rfl,
      hwords 3 _ (by decide) rfl, hwst⟩
  · rw [doRippleSched_takes hmsg]
    obtain ⟨hring, harmed, hinst, hnoted, honly⟩ := Chip.domSched_spec (s := s.chip.taken (p, m)) hnew hlead ht
      ((s.chip.freeSlot_taken _).trans hfree) p
    exact ⟨hring, harmed, hinst, hnoted, ((Chip.WstOnly.taken _ _).trans honly).timeFrame⟩
  · obtain ⟨horigin, hident⟩ : x.1 = ofBytes (m.payload.drop 2) ∧ x.2.1 = ofBytes (m.payload.take 2) := by simpa using List.find?_some hdom
    rw [doRippleCancel_own hmsg hdom hslot harmed hleft]
    have hposted := posted_domAnswer (((s.chip.taken (p, m)).setF (Reg.WST.RIP_STAT.STATE k) 0).domNote (ofBytes (m.payload.drop 2))
      (ofBytes (m.payload.take 2)) none) p (ofBytes (m.payload.take 2)) (ofBytes (m.payload.drop 2)) 3
    have honly := ((Chip.WstOnly.taken s.chip (p, m)).setF (f := Reg.WST.RIP_STAT.STATE k) (v := 0) (slotAddr_block hk (by decide))).trans
      (Chip.wstOnly_domNote _ (ofBytes (m.payload.drop 2)) (ofBytes (m.payload.take 2)) none)
    refine ⟨hposted.ring, ?_, ?_, (honly.posted hposted).timeFrame⟩
    · exact ((hposted.getF _).trans ((Chip.slot_setWst _ _ k).2.2 _)).trans (Chip.getF_setF_self _ _ _ (Nat.le_of_ble_eq_true rfl))
    · rw [horigin, hident, hposted.dom]
      exact List.mem_cons_self
  · rw [doRippleAck_origin hmsg hnode]
    exact ⟨rfl, rfl⟩
  · obtain ⟨dn, up, heq⟩ := doGrant_mine hmsg hserial
    obtain ⟨hring, hid, hvalid, hlast⟩ := (s.chip.taken (p, m)).applyGrant_spec (Carrier.ofBit (p / 16))
      (ofBytes ((m.payload.drop 8).take 2) % 16384) dn up
    rw [heq]
    exact ⟨hring, hid.trans (Nat.mod_mod _ _), hvalid, hlast⟩

end Sys2Proof.Machine
end

section
/-! SUPPORT. What the steps of the line leave of a trail's aligner and frame count: the registers that report them and the part of the framer's
record that only the aligner, the frame accounting and the defect timers change. One law per operation, in the form of the laws for the rest of
the line. -/

namespace Sys2Proof.Machine

/-- Where a trail's page of FRM holds ALIGN_STAT, RX_FSN, FRM_RX_LO, FRM_RX_HI and OOF_CNT (R192). -/
def reportOffsets : List Nat := [0x008, 0x044, 0x820, 0x824, 0x840]

/-- A register of FRM in which a trail's alignment or its frame count is read. -/
def IsTrailReport (b : Nat) : Prop := 0x01000000 ≤ b ∧ b < 0x02000000 ∧ b / 0x100000 % 8 = 4 ∧ b % 0x1000 ∈ reportOffsets

/-- What the aligner, the frame accounting and the defect timers have found (R177, R185, R187). -/
structure FrmReport where
  align : Nat
  pos : Nat
  expected : Option Nat
  held : Option RxFrame
  lof : Bool
  lom : Bool
  deg : Bool
  degGood : Nat

/-- The part of a framer's record that reports them. -/
def FrmSt.report (v : FrmSt) : FrmReport := ⟨v.align, v.pos, v.expected, v.held, v.lof, v.lom, v.deg, v.degGood⟩

/-- From one chip to the next every trail's reports stand, in its registers and in its framer's record; where `l` holds, so does the frame of the
line, and what was recorded stays recorded. -/
structure Chip.TrailKept (l : Prop) (s t : Chip) : Prop where
  rd : ∀ b, IsTrailReport b → t.rd b = s.rd b
  frm : ∀ c k, (t.frmOf c k).report = (s.frmOf c k).report
  line : l → LineFrame s t ∧ Chip.RecordKept False s t

/-! ## Registers that hold no report -/

theorem not_isTrailReport_below {b : Nat} (hb : b < 0x01000000) : ¬ IsTrailReport b := fun h => absurd h.1 (Nat.not_le.mpr hb)

theorem not_isTrailReport_above {b : Nat} (hb : 0x02000000 ≤ b) : ¬ IsTrailReport b := fun h => absurd h.2.1 (Nat.not_lt.mpr hb)

theorem not_isTrailReport_own (c : Carrier) {n : Nat} (hn : n / 0x100000 % 8 ≠ 4 ∨ n % 0x1000 ∉ reportOffsets) : ¬ IsTrailReport (c.base + n) := by
  rintro ⟨-, -, hblock, hmem⟩
  have hoff : (c.base + n) % 0x1000 = n % 0x1000 := by
    rw [carrier_base_eq]
    omega
  rw [carrier_base_eq] at hblock
  rw [hoff] at hmem
  exact hn.elim (fun h => h (by omega)) fun h => h hmem

/-- A register behind an index: of another block than FRM, or between LOST_FIRST and the counters of a page of FRM. -/
theorem not_isTrailReport_indexed (c : Carrier) {n k : Nat} (hk : n % 0x100000 + k < 0x100000) (hn : n / 0x100000 % 8 ≠ 4) :
    ¬ IsTrailReport (c.base + n + k) := by
  rw [Nat.add_assoc]
  exact not_isTrailReport_own c (.inl (by omega))

theorem not_isTrailReport_trail (c : Carrier) {n : Nat} (t : Nat) (hn : n % 0x1000 ∉ reportOffsets) : ¬ IsTrailReport (c.base + n + 0x1000 * t) := by
  rw [Nat.add_assoc]
  refine not_isTrailReport_own c (.inr ?_)
  rwa [Nat.add_mul_mod_self_left]

theorem not_isTrailReport_array (c : Carrier) {n : Nat} (t : Nat) {k : Nat} (hlo : 0x044 < n % 0x1000) (hhi : n % 0x1000 + k < 0x820) :
    ¬ IsTrailReport (c.base + n + 0x1000 * t + k) := by
  have hadd : c.base + n + 0x1000 * t + k = c.base + (n + k) + 0x1000 * t := by omega
  rw [hadd]
  refine not_isTrailReport_trail c t ?_
  simp only [reportOffsets, List.mem_cons, List.not_mem_nil, or_false]
  omega

theorem isTrailReport_page (c : Carrier) {n : Nat} (t : Fin 16) (hn : n / 0x1000 = 0x1410 ∧ n % 0x1000 ∈ reportOffsets := by decide) :
    IsTrailReport (c.base + n + 0x1000 * t.val) := by
  have hix := carrier_ix_le c
  have ht := t.isLt
  unfold IsTrailReport
  simp only [reportOffsets, List.mem_cons, List.not_mem_nil, or_false] at hn ⊢
  rw [carrier_base_eq]
  omega

/-! ## The steps of every law -/

section
variable {l : Prop} {s₀ s : Chip}

theorem Chip.TrailKept.refl (s : Chip) : Chip.TrailKept l s s := ⟨fun _ _ => rfl, fun _ _ => rfl, fun _ => ⟨.refl s, .refl s⟩⟩

theorem Chip.TrailKept.trans {t : Chip} (h : Chip.TrailKept l s₀ s) (k : Chip.TrailKept l s t) : Chip.TrailKept l s₀ t :=
  ⟨fun b hb => (k.rd b hb).trans (h.rd b hb), fun c j => (k.frm c j).trans (h.frm c j),
    fun hl => ⟨(h.line hl).1.trans (k.line hl).1, (h.line hl).2.trans (k.line hl).2⟩⟩

/-- The rest of the line as its own laws have it. -/
theorem Chip.TrailKept.withLine {t : Chip} (h : Chip.TrailKept l s₀ s) (k : Chip.TrailKept False s t) (hframe : LineFrame s t)
    (hrec : Chip.RecordKept False s t) : Chip.TrailKept l s₀ t := h.trans ⟨k.rd, k.frm, fun _ => ⟨hframe, hrec⟩⟩

/-- A register of the line that holds no report and no record of events. -/
theorem Chip.TrailKept.wr (h : Chip.TrailKept l s₀ s) {b w} (hb : ¬ IsTrailReport b) (hl : l → b / 0x100000 ∈ lineBlocks ∧ ¬ IsCarrierStat b) :
    Chip.TrailKept l s₀ (s.wr b w) := by
  refine ⟨fun d hd => ?_, h.frm, fun hh => ?_⟩
  · have hne : d ≠ b := by
      rintro rfl
      exact hb hd
    exact (Chip.rd_wr_ne s w hne).trans (h.rd d hd)
  · obtain ⟨hframe, hrec⟩ := h.line hh
    obtain ⟨hblock, hstat⟩ := hl hh
    refine ⟨⟨⟨fun g hg hb' ha => ?_, hframe.1.2⟩, hframe.2⟩, hrec.wr hstat⟩
    have hne : g.addr ≠ b := fun he => hb' (he ▸ hblock)
    exact (Chip.getF_congr (Chip.rd_wr_ne s w hne)).trans (hframe.1.1 g hg hb' ha)

theorem Chip.TrailKept.put (h : Chip.TrailKept False s₀ s) {b w} (hb : ¬ IsTrailReport b) : Chip.TrailKept False s₀ (s.wr b w) :=
  h.wr hb False.elim

/-- A register of a carrier's block, whatever its index. -/
theorem carrierPage (c : Carrier) {n t : Nat} (ht : t < 16) (hn : 0x01000000 ≤ n ∧ n < 0x01700000 ∧ n % 0x1000 ≠ 0xF0) :
    (c.base + n + 0x1000 * t) / 0x100000 ∈ lineBlocks ∧ ¬ IsCarrierStat (c.base + n + 0x1000 * t) :=
  ⟨carrier_block_mem c (by omega), not_isCarrierStat_trail c t hn.2.2⟩

theorem Chip.TrailKept.setTrail (h : Chip.TrailKept l s₀ s) {c : Carrier} {n t lo width v : Nat} (ht : t < 16)
    (hn : 0x01000000 ≤ n ∧ n < 0x01700000 ∧ n % 0x1000 ≠ 0xF0 := by decide) (hr : n % 0x1000 ∉ reportOffsets := by decide) :
    Chip.TrailKept l s₀ (s.setF ⟨c.base + n + 0x1000 * t, lo, width⟩ v) :=
  h.wr (not_isTrailReport_trail c t hr) fun _ => carrierPage c ht hn
theorem Chip.TrailKept.setOwn (h : Chip.TrailKept l s₀ s) {c : Carrier} {n lo width v : Nat}
    (hn : 0x01000000 ≤ n ∧ n < 0x01800000 ∧ n % 0x100000 ≠ 0xF0 := by decide)
    (hr : n / 0x100000 % 8 ≠ 4 ∨ n % 0x1000 ∉ reportOffsets := by decide) : Chip.TrailKept l s₀ (s.setF ⟨c.base + n, lo, width⟩ v) :=
  h.wr (not_isTrailReport_own c hr) fun _ => ⟨carrier_block_mem c (by dsimp only; omega), not_isCarrierStat_own c hn.2.2⟩
theorem Chip.TrailKept.setBelow (h : Chip.TrailKept False s₀ s) {n lo width v : Nat} (hn : n < 0x01000000 := by decide) :
    Chip.TrailKept False s₀ (s.setF ⟨n, lo, width⟩ v) := h.put (not_isTrailReport_below hn)
theorem Chip.TrailKept.setAbove (h : Chip.TrailKept False s₀ s) {n k lo width v : Nat} (hn : 0x02000000 ≤ n := by decide) :
    Chip.TrailKept False s₀ (s.setF ⟨n + k, lo, width⟩ v) := h.put (not_isTrailReport_above (Nat.le_add_right_of_le hn))
theorem Chip.TrailKept.setUnit (h : Chip.TrailKept False s₀ s) {c : Carrier} {n g lo width v : Nat} (hg : g < 3)
    (hn : n < 0x00F00000 := by decide) : Chip.TrailKept False s₀ (s.setF ⟨n + 192 * c.ix + 64 * g, lo, width⟩ v) :=
  h.put (not_isTrailReport_below (by
    have := carrier_ix_le c
    dsimp only
    omega))

theorem Chip.TrailKept.ite {c : Prop} {_ : Decidable c} {t : Chip} (h : Chip.TrailKept l s₀ s) (h' : Chip.TrailKept l s₀ t) :
    Chip.TrailKept l s₀ (if c then s else t) := by
  split <;> assumption

theorem Chip.TrailKept.foldl {α : Type} {f : Chip → α → Chip} {xs : List α} (h : Chip.TrailKept l s₀ s)
    (hf : ∀ u, ∀ x ∈ xs, Chip.TrailKept l s₀ u → Chip.TrailKept l s₀ (f u x)) : Chip.TrailKept l s₀ (xs.foldl f s) := by
  induction xs generalizing s with
  | nil => exact h
  | cons x xs ih => exact ih (hf s x (by simp) h) fun u y hy => hf u y (by simp [hy])

/-- An update of hidden state that is no framer and none of what the frame of the line holds. -/
theorem Chip.TrailKept.same {li fi n t x rc fe su pm de ws ti pg lo le ev ts la re} (h : Chip.TrailKept l s₀ s) :
    Chip.TrailKept l s₀ ⟨s.regs, s.actRegs, li, fi, n, s.fuse, t, s.clk, x, rc, fe, su, s.frm, pm, de, ws, ti, s.grp, pg, lo, le, s.sec, ev, ts,
      s.pool, s.boot, s.mgmt, s.pci, s.mon, la, re⟩ := ⟨h.rd, h.frm, fun hl => ⟨(h.line hl).1, (h.line hl).2.same⟩⟩

/-- An update of hidden state that is no framer. -/
theorem Chip.TrailKept.hidden {li fi n fu t c x rc fe su pm de ws ti g pg lo le se ev ts po bo mg pc mo la re} (h : Chip.TrailKept False s₀ s) :
    Chip.TrailKept False s₀ ⟨s.regs, s.actRegs, li, fi, n, fu, t, c, x, rc, fe, su, s.frm, pm, de, ws, ti, g, pg, lo, le, se, ev, ts, po, bo, mg, pc,
      mo, la, re⟩ := ⟨h.rd, h.frm, False.elim⟩

theorem Chip.frm_raise (s : Chip) (e : Ev) : (s.raise e).frm = s.frm := by rw [quiet_raise s e]

theorem Chip.frmOf_congr {t : Chip} (h : t.frm = s.frm) (c : Carrier) (k : Nat) : t.frmOf c k = s.frmOf c k := by
  rw [Chip.frmOf, h, Chip.frmOf]

theorem Chip.TrailKept.raise (h : Chip.TrailKept l s₀ s) {e} (he : ¬ IsTrailReport (e.base + 0xF0))
    (hl : l → (e.base + 0xF0) / 0x100000 ∈ lineBlocks) : Chip.TrailKept l s₀ (s.raise e) := by
  refine ⟨fun d hd => ?_, fun c k => ?_, fun hh => ⟨(h.line hh).1.raise (hl hh), (h.line hh).2.raise⟩⟩
  · have hne : d ≠ e.base + 0xF0 := by
      rintro rfl
      exact he hd
    rw [Chip.rd_raise, if_neg fun hc => hne hc.2]
    exact h.rd d hd
  · rw [Chip.frmOf_congr (s.frm_raise e)]
    exact h.frm c k

theorem Chip.TrailKept.raiseOwn (h : Chip.TrailKept l s₀ s) {c : Carrier} {n bit src : Nat}
    (hn : 0x01000000 ≤ n ∧ n < 0x01800000 ∧ n % 0x100000 = 0 := by decide) : Chip.TrailKept l s₀ (s.raise ⟨c.base + n, bit, src⟩) :=
  h.raise (e := ⟨c.base + n, bit, src⟩) (by
    have hoff : (n + 0xF0) % 0x1000 = 0xF0 := by omega
    have hlist : (0xF0 : Nat) ∉ reportOffsets := by decide
    rw [Nat.add_assoc]
    exact not_isTrailReport_own c (.inr (by rwa [hoff]))) fun _ => carrier_block_mem c (by dsimp only; omega)
theorem Chip.TrailKept.raiseBelow (h : Chip.TrailKept False s₀ s) {n bit src : Nat} (hn : n + 0xF0 < 0x01000000 := by decide) :
    Chip.TrailKept False s₀ (s.raise ⟨n, bit, src⟩) := h.raise (not_isTrailReport_below hn) False.elim
theorem Chip.TrailKept.raiseAbove (h : Chip.TrailKept False s₀ s) {n bit src : Nat} (hn : 0x02000000 ≤ n + 0xF0 := by decide) :
    Chip.TrailKept False s₀ (s.raise ⟨n, bit, src⟩) := h.raise (not_isTrailReport_above hn) False.elim

/-- An update of a framer's record that leaves its reports. -/
theorem Chip.TrailKept.setFrm (h : Chip.TrailKept l s₀ s) {c k v} (hv : v.report = (s.frmOf c k).report := by rfl) :
    Chip.TrailKept l s₀ (s.setFrm c k v) := by
  refine ⟨h.rd, fun d j => ?_, fun hl => ⟨(h.line hl).1, (h.line hl).2.same⟩⟩
  rw [Chip.frmOf_setFrm, ← h.frm]
  split
  · next hi => rw [hv, Chip.frmOf, ← hi, Chip.frmOf]
  · rfl

theorem Chip.TrailKept.modFrm (h : Chip.TrailKept l s₀ s) {c k f} (hf : ∀ v : FrmSt, (f v).report = v.report := by intro; rfl) :
    Chip.TrailKept l s₀ (s.modFrm c k f) := h.setFrm (hf _)

theorem Chip.TrailKept.evc (h : Chip.TrailKept l s₀ s) {k n} : Chip.TrailKept l s₀ (s.evc k n) := by
  have hrd : ∀ b, b / 0x100000 ≠ 5 → (s.evc k n).rd b = s.rd b := fun b hb => Chip.rd_evc s k n hb
  have hframe : LineFrame s (s.evc k n) := ⟨(keptBut_evc s k n).mono (by simp [lineBlocks]) (by simp), (quiet_evc s k n).elsewhere⟩
  refine h.trans ⟨fun b hb => hrd b (by have := hb.1; omega), fun c j => ?_, fun _ => ⟨hframe, fun b hb i hi => ?_, False.elim⟩⟩
  · rw [quiet_evc s k n]
    rfl
  · rwa [hrd b (by have := hb.1; omega)]

/-! ## The judgements that end every step, and the events of a trail -/

theorem Chip.TrailKept.raiseFrm (h : Chip.TrailKept l s₀ s) {c : Carrier} {k n bit src : Nat} {e : Carrier → Ev}
    (he : e c = ⟨c.base + n, bit, src⟩ := by rfl)
    (hn : 0x01000000 ≤ n ∧ n < 0x01800000 ∧ n % 0x100000 = 0 := by decide) : Chip.TrailKept l s₀ (s.raiseFrm c k e) := by
  unfold Chip.raiseFrm
  rw [he]
  exact (h.raiseOwn hn).setOwn
theorem Chip.TrailKept.setPm (h : Chip.TrailKept l s₀ s) {c k v} : Chip.TrailKept l s₀ (s.setPm c k v) := h.same
theorem Chip.TrailKept.trailSettle (h : Chip.TrailKept l s₀ s) {c t} (ht : t < 16) : Chip.TrailKept l s₀ (s.trailSettle c t) := by
  unfold Chip.trailSettle
  extract_lets raw stat old s1 rise fall s2 f f1 f2 s3 s4
  have h1 : Chip.TrailKept l s₀ s1 := (h.setTrail ht).setTrail ht
  have h2 : Chip.TrailKept l s₀ s2 := .ite h1 ((h1.setTrail ht).raiseFrm)
  have h3 : Chip.TrailKept l s₀ s3 := .ite h2 ((h2.setTrail ht).raiseFrm)
  have h4 : Chip.TrailKept l s₀ s4 := .ite h3 h3.modFrm
  exact h4.setPm
theorem Chip.TrailKept.setSubc (h : Chip.TrailKept l s₀ s) {c v} : Chip.TrailKept l s₀ (s.setSubc c v) := h.same
theorem Chip.TrailKept.setInlet (h : Chip.TrailKept l s₀ s) {c st} : Chip.TrailKept l s₀ (s.setInlet c st) := h.setOwn.setSubc
theorem Chip.TrailKept.free (h : Chip.TrailKept l s₀ s) : Chip.TrailKept l s₀ s.free.2 := h.same
theorem Chip.TrailKept.drawDelay (h : Chip.TrailKept l s₀ s) {c n} : Chip.TrailKept l s₀ (s.drawDelay c n) := h.free.setSubc
theorem Chip.TrailKept.inletSettle (h : Chip.TrailKept l s₀ s) {c} : Chip.TrailKept l s₀ (s.inletSettle c) :=
  .ite h (.ite h.setInlet (.ite (.ite h.setInlet.drawDelay h) (.ite h.setInlet (.ite h.setSubc h))))

theorem Chip.TrailKept.setPg (h : Chip.TrailKept False s₀ s) {p v} : Chip.TrailKept False s₀ (s.setPg p v) := h.hidden
theorem Chip.TrailKept.raisePg (h : Chip.TrailKept False s₀ s) {p n bit src} (hn : 0x02000000 ≤ n + 0xF0 := by decide) :
    Chip.TrailKept False s₀ (s.raisePg p ⟨n, bit, src⟩) :=
  (h.raiseAbove hn).put (not_isTrailReport_above (by decide))
theorem Chip.TrailKept.setCond (h : Chip.TrailKept False s₀ s) {p new} : Chip.TrailKept False s₀ (s.setCond p new) := by
  unfold Chip.setCond
  extract_lets old d s1 s2 s3
  have h1 : Chip.TrailKept False s₀ s1 := h.setAbove
  have h2 : Chip.TrailKept False s₀ s2 := .ite h1.raisePg h1
  have h3 : Chip.TrailKept False s₀ s3 := .ite h2.raisePg h2
  exact .ite h (.ite h3.setPg.raisePg h3)
theorem Chip.TrailKept.pgConditions (h : Chip.TrailKept False s₀ s) {p} : Chip.TrailKept False s₀ (s.pgConditions p) := h.setPg.setCond
theorem Chip.TrailKept.pgRequests (h : Chip.TrailKept False s₀ s) {p} : Chip.TrailKept False s₀ (s.pgRequests p) := h.setPg.setAbove
theorem Chip.TrailKept.fopClear (h : Chip.TrailKept False s₀ s) {p} : Chip.TrailKept False s₀ (s.fopClear p) :=
  .ite (.raisePg (.setAbove (.ite h.setAbove.raisePg h))) (.ite h.setAbove.raisePg h)
theorem Chip.TrailKept.pgAlign (h : Chip.TrailKept False s₀ s) {p} : Chip.TrailKept False s₀ (s.pgAlign p) := .ite h.setAbove.setPg h
theorem Chip.TrailKept.pgSettle (h : Chip.TrailKept False s₀ s) {p} : Chip.TrailKept False s₀ (s.pgSettle p) :=
  h.pgAlign.pgConditions.pgRequests.fopClear
theorem Chip.TrailKept.setGrp (h : Chip.TrailKept False s₀ s) {c k v} : Chip.TrailKept False s₀ (s.setGrp c k v) := h.hidden
theorem Chip.TrailKept.startSession (h : Chip.TrailKept False s₀ s) {c k u retest} (hk : k < 3) :
    Chip.TrailKept False s₀ (s.startSession c k u retest) := (h.setGrp.setUnit hk).setUnit hk
theorem Chip.TrailKept.sweepGroup (h : Chip.TrailKept False s₀ s) {c k} (hk : k < 3) : Chip.TrailKept False s₀ (s.sweepGroup c k) := by
  refine .ite h (.ite h.setGrp (.ite h ?_))
  split
  exacts [.ite h h.setBelow.setGrp, .ite h.setBelow.setGrp (.ite h (h.startSession hk))]
theorem Chip.TrailKept.bistGroup (h : Chip.TrailKept False s₀ s) {c k} (hk : k < 3) : Chip.TrailKept False s₀ (s.bistGroup c k) := by
  unfold Chip.bistGroup
  extract_lets v s1 s2 w
  have h1 : Chip.TrailKept False s₀ s1 := by
    unfold s1
    split
    exacts [.ite h (h.startSession hk), h]
  have h2 : Chip.TrailKept False s₀ s2 := (h1.sweepGroup hk).sweepGroup hk
  split
  exacts [.ite (h2.startSession hk) h2, h2]
theorem Chip.TrailKept.bistSettle (h : Chip.TrailKept False s₀ s) : Chip.TrailKept False s₀ s.bistSettle := by
  have hgroups : ∀ p ∈ allGroups, p.2 < 3 := by decide
  have h1 : Chip.TrailKept False s₀ (allGroups.foldl (fun u p => u.bistGroup p.1 p.2) s) := h.foldl fun _ p hp hu => hu.bistGroup (hgroups p hp)
  exact .ite h1.setBelow.setBelow.raiseBelow h1
theorem Chip.TrailKept.setPort (h : Chip.TrailKept l s₀ s) {p v} : Chip.TrailKept l s₀ (s.setPort p v) := h.same
theorem Chip.TrailKept.newMsg (h : Chip.TrailKept l s₀ s) {type bcast dst payload} :
    Chip.TrailKept l s₀ ((s.newMsg type bcast dst payload).2) := h.same
theorem Chip.TrailKept.sendOn (h : Chip.TrailKept l s₀ s) {p cls m} : Chip.TrailKept l s₀ (s.sendOn p cls m) := .ite h.setPort h
theorem Chip.TrailKept.subcSettle (h : Chip.TrailKept l s₀ s) {c} : Chip.TrailKept l s₀ (s.subcSettle c) := .ite h h.setOwn.raiseOwn
theorem Chip.TrailKept.stepShadow (h : Chip.TrailKept l s₀ s) {c code up} : Chip.TrailKept l s₀ (s.stepShadow c code up) :=
  .ite h.setOwn (.ite h.setOwn h.setOwn)
theorem Chip.TrailKept.stepNotice (h : Chip.TrailKept l s₀ s) {c} : Chip.TrailKept l s₀ (s.stepNotice c) := by
  unfold Chip.stepNotice
  dsimp only
  refine .ite h.same (.ite h (.ite h ?_))
  split
  · exact .sendOn (.newMsg (.same (.ite h.stepShadow.stepShadow h.stepShadow)))
  · exact .same (.ite h.stepShadow.stepShadow h.stepShadow)

theorem Chip.TrailKept.settle (h : Chip.TrailKept l s₀ s) : Chip.TrailKept l s₀ s.settle := by
  have hkept : Chip.TrailKept False s s.settle :=
    .stepNotice (.stepNotice (.bistSettle ((Chip.TrailKept.refl s).subcSettle.subcSettle.foldl fun _ _ _ hu => hu.pgSettle)))
  have hline : Chip.LineKept True True s s.settle := (Chip.LineKept.refl s).settle
  exact h.withLine hkept hline.lineFrame (Chip.RecordKept.refl s).settle

/-- What ends every step of a framer leaves every report (R177, R185, R187). -/
theorem Chip.TrailKept.frmEnd (h : Chip.TrailKept l s₀ s) {c t} : Chip.TrailKept l s₀ (s.frmEnd c t) :=
  (h.trailSettle t.isLt).inletSettle.settle

/-! ## Blocks judged for performance monitoring, and the receivers -/

theorem Chip.TrailKept.raisePm (h : Chip.TrailKept l s₀ s) {c : Carrier} {k n bit src : Nat} {e : Carrier → Ev}
    (he : e c = ⟨c.base + n, bit, src⟩ := by rfl)
    (hn : 0x01000000 ≤ n ∧ n < 0x01800000 ∧ n % 0x100000 = 0 := by decide) : Chip.TrailKept l s₀ (s.raisePm c k e) := by
  unfold Chip.raisePm
  rw [he]
  exact (h.raiseOwn hn).setOwn
theorem Chip.TrailKept.pmAdd (h : Chip.TrailKept l s₀ s) {c t sec n e} (ht : t < 16) : Chip.TrailKept l s₀ (s.pmAdd c t sec n e) := by
  dsimp only [Chip.pmAdd]
  split
  exacts [h, .ite h (.ite (.ite h (.ite h.setPm (h.setPm.setTrail ht).raisePm)) h.setPm)]
theorem Chip.TrailKept.setRcv (h : Chip.TrailKept l s₀ s) {x v} : Chip.TrailKept l s₀ (s.setRcv x v) := h.same
theorem Chip.TrailKept.modRcv (h : Chip.TrailKept l s₀ s) {x f} : Chip.TrailKept l s₀ (s.modRcv x f) := h.setRcv
theorem Chip.TrailKept.raiseRcv (h : Chip.TrailKept l s₀ s) {x : Rcv} {n m bit src bit' src' : Nat} {e e' : Carrier → Ev}
    (he : e x.carrier = ⟨x.carrier.base + n, bit, src⟩ := by rfl) (he' : e' x.carrier = ⟨x.carrier.base + m, bit', src'⟩ := by rfl)
    (hn : 0x01000000 ≤ n ∧ n < 0x01800000 ∧ n % 0x100000 = 0 := by decide)
    (hm : 0x01000000 ≤ m ∧ m < 0x01800000 ∧ m % 0x100000 = 0 := by decide) : Chip.TrailKept l s₀ (s.raiseRcv x e e') := by
  cases x with
  | car c =>
    rw [Chip.raiseRcv, show e c = _ from he]
    exact h.raiseOwn hn
  | sub c q =>
    rw [Chip.raiseRcv, show e' c = _ from he']
    exact h.raiseOwn hm
theorem Chip.TrailKept.emptyWindow (h : Chip.TrailKept l s₀ s) {x} : Chip.TrailKept l s₀ (s.emptyWindow x) := by
  cases x with
  | car c => exact h.modRcv.same
  | sub c q =>
    unfold Chip.emptyWindow
    exact h.modRcv
theorem Chip.TrailKept.setCwLock (h : Chip.TrailKept l s₀ s) {x b} : Chip.TrailKept l s₀ (s.setCwLock x b) := by
  refine .ite h ?_
  cases x with
  | car c => exact h.setRcv.raiseOwn
  | sub c q => exact h.setRcv
theorem Chip.TrailKept.dropCwLock (h : Chip.TrailKept l s₀ s) {x} : Chip.TrailKept l s₀ (s.dropCwLock x) := .ite h.setCwLock.emptyWindow h
theorem Chip.TrailKept.beginAcq (h : Chip.TrailKept l s₀ s) {x n} : Chip.TrailKept l s₀ (s.beginAcq x n) := by
  cases x with
  | car c => exact h.modRcv.setOwn
  | sub c q =>
    unfold Chip.beginAcq
    exact h.modRcv
theorem Chip.TrailKept.leaveAcquired (h : Chip.TrailKept l s₀ s) {x} : Chip.TrailKept l s₀ (s.leaveAcquired x) := by
  refine .raiseRcv (.dropCwLock (.beginAcq ?_))
  split
  exacts [h.setRcv.modRcv, h.setRcv]
theorem Chip.TrailKept.acqFrameLoss (h : Chip.TrailKept l s₀ s) {x} : Chip.TrailKept l s₀ (s.acqFrameLoss x) := .ite h.leaveAcquired h
theorem Chip.TrailKept.leafPreload (h : Chip.TrailKept l s₀ s) {x} : Chip.TrailKept l s₀ (s.leafPreload x) := by
  cases x with
  | car c => exact h
  | sub c q => exact .ite h (h.foldl fun _ _ _ hu => .ite hu hu.setRcv.dropCwLock)
theorem Chip.TrailKept.roundFree (h : Chip.TrailKept l s₀ s) {num den} : Chip.TrailKept l s₀ (s.roundFree num den).2 := by
  unfold Chip.roundFree
  split
  exacts [h, h.free]
theorem Chip.TrailKept.acqInFrame (h : Chip.TrailKept l s₀ s) {x} : Chip.TrailKept l s₀ (s.acqInFrame x) := by
  refine .ite h ?_
  have h1 : ∀ v, Chip.TrailKept l s₀ ((s.setRcv x v).raiseRcv x Ev.ACQ.ACQUIRED Ev.SUBC.SC_ACQUIRED) := fun v => h.setRcv.raiseRcv
  cases x with
  | car c => exact .ite (h1 _).roundFree.setOwn.setOwn (h1 _).roundFree.setOwn.setOwn
  | sub c q => exact .leafPreload (.ite (h1 _).modRcv.raiseOwn (h1 _))

end
end Sys2Proof.Machine
end

section
/-! SUPPORT. The aligner of a trail: what its state shows, what leaving and entering IN_FRAME record, and what a block's header leaves of it (R174,
R177, R178). -/

namespace Sys2Proof.Machine

/-! ## What the aligner shows -/

/-- The aligner of trail t stands from one chip to the next, in its state and in the registers that show it; so does the frame of the line, and
what was recorded stays recorded. -/
structure Chip.AlignKept (c : Carrier) (t : Nat) (s u : Chip) : Prop where
  align : (u.frmOf c t).align = (s.frmOf c t).align
  pos : (u.frmOf c t).pos = (s.frmOf c t).pos
  inFrame : u.flag (Reg.FRM.ALIGN_STAT.IN_FRAME c t) = s.flag (Reg.FRM.ALIGN_STAT.IN_FRAME c t)
  lock : u.flag (Reg.FRM.ALIGN_STAT.FSN_LOCK c t) = s.flag (Reg.FRM.ALIGN_STAT.FSN_LOCK c t)
  acq : u.flag (Reg.FRM.ALIGN_STAT.LOF_ACQ c t) = s.flag (Reg.FRM.ALIGN_STAT.LOF_ACQ c t)
  oofs : u.getF (Reg.FRM.OOF_CNT.COUNT c t) = s.getF (Reg.FRM.OOF_CNT.COUNT c t)
  frame : LineFrame s u
  record : Chip.RecordKept False s u

theorem isTrailReport_alignStat (c : Carrier) (t : Fin 16) : IsTrailReport (Reg.FRM.ALIGN_STAT.addr c t.val) := isTrailReport_page c t
theorem isTrailReport_oofCnt (c : Carrier) (t : Fin 16) : IsTrailReport (Reg.FRM.OOF_CNT.addr c t.val) := isTrailReport_page c t

theorem Chip.AlignKept.trans {c t} {s u w : Chip} (h : Chip.AlignKept c t s u) (k : Chip.AlignKept c t u w) : Chip.AlignKept c t s w :=
  ⟨k.align.trans h.align, k.pos.trans h.pos, k.inFrame.trans h.inFrame, k.lock.trans h.lock, k.acq.trans h.acq, k.oofs.trans h.oofs,
    h.frame.trans k.frame, h.record.trans k.record⟩

/-- What leaves every report leaves the aligner. -/
theorem Chip.TrailKept.alignKept {s u : Chip} (h : Chip.TrailKept True s u) (c : Carrier) (t : Fin 16) : Chip.AlignKept c t.val s u := by
  have hstat := h.rd _ (isTrailReport_alignStat c t)
  have hcount := h.rd _ (isTrailReport_oofCnt c t)
  obtain ⟨hframe, hrec⟩ := h.line trivial
  exact ⟨congrArg FrmReport.align (h.frm c t), congrArg FrmReport.pos (h.frm c t), Chip.flag_congr hstat, Chip.flag_congr hstat,
    Chip.flag_congr hstat, Chip.getF_congr hcount, hframe, hrec⟩

/-- A flag stands when other bits of its register are set. -/
theorem Chip.flag_setF_apart (s : Chip) {a lo lo' width v : Nat} (hlo : lo < 32 := by decide) (hd : lo + 1 ≤ lo' ∨ lo' + width ≤ lo := by decide) :
    (s.setF ⟨a, lo', width⟩ v).flag ⟨a, lo, 1⟩ = s.flag ⟨a, lo, 1⟩ :=
  congrArg (· == 1) (Chip.getF_setF_disjoint s ⟨a, lo', width⟩ ⟨a, lo, 1⟩ v rfl hlo hd)

/-- A register of a trail's page stands when one at another offset is set. -/
theorem Chip.rd_setTrail_ne (s : Chip) {c : Carrier} {m n t lo width v : Nat} (h : m ≠ n := by decide) :
    (s.setF ⟨c.base + n + 0x1000 * t, lo, width⟩ v).rd (c.base + m + 0x1000 * t) = s.rd (c.base + m + 0x1000 * t) :=
  Chip.rd_setF_ne _ _ _ (by dsimp only; omega)


/-- DELIN is no part of the aligner (R174). -/
theorem Chip.alignKept_setDelin (s : Chip) (c : Carrier) (t : Fin 16) (b : Bool) :
    Chip.AlignKept c t.val s (s.setFlag (Reg.FRM.ALIGN_STAT.DELIN c t.val) b) where
  align := congrArg FrmSt.align (Chip.frmOf_congr (s.setF_frm _ _) c t)
  pos := congrArg FrmSt.pos (Chip.frmOf_congr (s.setF_frm _ _) c t)
  inFrame := s.flag_setF_apart
  lock := s.flag_setF_apart
  acq := s.flag_setF_apart
  oofs := Chip.getF_congr s.rd_setTrail_ne
  frame := (LineFrame.refl s).setF (carrierPage c t.isLt (by decide)).1
  record := (Chip.RecordKept.refl s).setTrail

section
variable {c : Carrier} {t : Fin 16} {s₀ s : Chip}

theorem Chip.AlignKept.ite {p : Prop} {_ : Decidable p} {u : Chip} (h : Chip.AlignKept c t s₀ s) (h' : Chip.AlignKept c t s₀ u) :
    Chip.AlignKept c t s₀ (if p then s else u) := by
  split <;> assumption

theorem Chip.TrailKept.setDelin (h : Chip.TrailKept True s₀ s) {b} : Chip.AlignKept c t s₀ (s.setFlag (Reg.FRM.ALIGN_STAT.DELIN c t.val) b) :=
  (h.alignKept c t).trans (s.alignKept_setDelin c t b)

/-- A block's header moves delineation only (R174). -/
theorem Chip.TrailKept.blockHeader (h : Chip.TrailKept True s₀ s) {bytes} : Chip.AlignKept c t s₀ (s.blockHeader c t.val bytes) := by
  have ht := t.isLt
  refine .ite ?_ ?_
  · unfold Chip.goodHeader
    extract_lets v delin predicted s0 start s1 s2
    have h0 : Chip.TrailKept True s₀ s0 := h.setFrm
    have hstart : ∀ u, Chip.TrailKept True s₀ u → Chip.AlignKept c t s₀ (start u) := fun u hu => hu.modFrm.setDelin
    have h2 : Chip.TrailKept True s₀ s2 := (((h0.setTrail ht).raiseFrm.setTrail ht).evc).pmAdd ht
    exact .ite (.ite (h0.alignKept c t) (hstart _ h0)) (.ite (h0.modFrm.alignKept c t) (.ite h2.setDelin (hstart _ h2)))
  · unfold Chip.badHeader
    extract_lets v s1 s2
    have h2 : Chip.TrailKept True s₀ s2 := (h.setFrm.setTrail ht).raiseFrm
    exact .ite h2.setDelin (h2.alignKept c t)

/-- What ends every step of a framer leaves the aligner. -/
theorem Chip.AlignKept.frmEnd (h : Chip.AlignKept c t s₀ s) : Chip.AlignKept c t s₀ (s.frmEnd c t) :=
  h.trans ((Chip.TrailKept.refl s).frmEnd.alignKept c t)
end

/-! ## Entry into IN_FRAME and departure from it -/

/-- The aligner's state and the bits that show it (R177, R192). -/
def Chip.alignShown (s : Chip) (c : Carrier) (t : Nat) (st : Nat) : Chip :=
  let s1 := s.modFrm c t fun v => { v with align := st, outFrame := v.outFrame.put (st != 1) s.wst.sec s.atEdge }
  ((s1.setFlag (Reg.FRM.ALIGN_STAT.IN_FRAME c t) (st == 1)).setFlag (Reg.FRM.ALIGN_STAT.OOF c t) (st != 1)).setF
    (Reg.FRM.ALIGN_STAT.CANDS c t) (s1.frmOf c t).cands.length

theorem Chip.setAlign_leaves {s : Chip} {c : Carrier} {t st : Nat} (hwas : (s.frmOf c t).align = 1) (hst : st ≠ 1) :
    s.setAlign c t st = ((s.alignShown c t st).dropDelivery c t).raiseFrm c t Ev.FRM.IF_CHANGE := if_pos ⟨hwas, hst⟩

theorem Chip.setAlign_enters {s : Chip} {c : Carrier} {t : Nat} (hwas : (s.frmOf c t).align ≠ 1) :
    s.setAlign c t 1 = ((s.alignShown c t 1).setFlag (Reg.FRM.PT_STAT.PT_VALID c t) false).raiseFrm c t Ev.FRM.IF_CHANGE :=
  (if_neg fun h => hwas h.1).trans (if_pos ⟨hwas, rfl⟩)

theorem Chip.frmOf_setFrm_self (s : Chip) (c : Carrier) (t : Nat) (v : FrmSt) : (s.setFrm c t v).frmOf c t = v :=
  (Chip.frmOf_setFrm s c c t t v).trans (if_pos rfl)

theorem Chip.frmOf_modFrm_self (s : Chip) (c : Carrier) (t : Nat) (f : FrmSt → FrmSt) : (s.modFrm c t f).frmOf c t = f (s.frmOf c t) :=
  Chip.frmOf_setFrm_self _ _ _ _

theorem Chip.frmOf_setF (s : Chip) (f : Fld) (v : Nat) (c : Carrier) (t : Nat) : (s.setF f v).frmOf c t = s.frmOf c t :=
  Chip.frmOf_congr (s.setF_frm f v) c t

theorem Chip.rd_setFrm (s : Chip) (c : Carrier) (t : Nat) (v : FrmSt) (b : Nat) : (s.setFrm c t v).rd b = s.rd b := rfl

/-- EVT_STICKY of FRM stands when a register of a trail's page is set. -/
theorem Chip.rd_frmSticky_setTrail (s : Chip) {c : Carrier} {n t lo width v : Nat} (hn : n % 0x1000 ≠ 0xF8 := by decide) :
    (s.setF ⟨c.base + n + 0x1000 * t, lo, width⟩ v).rd (Ev.FRM.base c + 0xF8) = s.rd (Ev.FRM.base c + 0xF8) :=
  Chip.rd_setF_ne _ _ _ (by
    dsimp only [Ev.FRM.base]
    omega)

theorem recorded_raiseFrm (s : Chip) (c : Carrier) (t : Nat) {bit src : Nat} {e : Carrier → Ev} (he : e c = ⟨Ev.FRM.base c, bit, src⟩ := by rfl)
    (hbit : bit < 32 := by decide) : Recorded (e c) s (s.raiseFrm c t e) := by
  unfold Chip.raiseFrm
  rw [he]
  refine (recorded_raise s ⟨Ev.FRM.base c, bit, src⟩ hbit).setF ?_
  dsimp only [Ev.FRM.base, Reg.FRM.EVT_TRAIL.TRAIL, Reg.FRM.EVT_TRAIL.addr]
  omega

section
variable (s : Chip) (c : Carrier) (t : Nat) (st : Nat)

theorem Chip.frmOf_alignShown : (s.alignShown c t st).frmOf c t =
    { s.frmOf c t with align := st, outFrame := (s.frmOf c t).outFrame.put (st != 1) s.wst.sec s.atEdge } := by
  unfold Chip.alignShown
  extract_lets s1
  exact (Chip.frmOf_congr ((Chip.setF_frm _ _ _).trans ((Chip.setF_frm _ _ _).trans (Chip.setF_frm _ _ _))) c t).trans
    (s.frmOf_modFrm_self c t _)

theorem Chip.inFrame_alignShown : (s.alignShown c t st).flag (Reg.FRM.ALIGN_STAT.IN_FRAME c t) = (st == 1) := by
  unfold Chip.alignShown
  extract_lets s1
  exact ((Chip.flag_setF_apart _).trans (Chip.flag_setF_apart _)).trans (Chip.flag_setFlag_self _ _ _ rfl (by show 31 < 32; decide))

theorem Chip.rd_alignShown {m : Nat} (hm : m ≠ 0x01410008 := by decide) :
    (s.alignShown c t st).rd (c.base + m + 0x1000 * t) = s.rd (c.base + m + 0x1000 * t) :=
  (Chip.rd_setTrail_ne _ hm).trans ((Chip.rd_setTrail_ne _ hm).trans (Chip.rd_setTrail_ne _ hm))

theorem Chip.rd_frmSticky_alignShown : (s.alignShown c t st).rd (Ev.FRM.base c + 0xF8) = s.rd (Ev.FRM.base c + 0xF8) :=
  (Chip.rd_frmSticky_setTrail _).trans ((Chip.rd_frmSticky_setTrail _).trans (Chip.rd_frmSticky_setTrail _))

theorem Chip.rd_frmSticky_dropDelivery : (s.dropDelivery c t).rd (Ev.FRM.base c + 0xF8) = s.rd (Ev.FRM.base c + 0xF8) :=
  (Chip.rd_setFrm _ _ _ _ _).trans ((Chip.rd_frmSticky_setTrail _).trans (Chip.rd_frmSticky_setTrail _))

theorem Chip.rd_dropDelivery {m : Nat} (hm : m ≠ 0x01410008 := by decide) :
    (s.dropDelivery c t).rd (c.base + m + 0x1000 * t) = s.rd (c.base + m + 0x1000 * t) :=
  (Chip.rd_setFrm _ _ _ _ _).trans ((Chip.rd_setTrail_ne _ hm).trans (Chip.rd_setTrail_ne _ hm))

theorem Chip.inFrame_dropDelivery :
    (s.dropDelivery c t).flag (Reg.FRM.ALIGN_STAT.IN_FRAME c t) = s.flag (Reg.FRM.ALIGN_STAT.IN_FRAME c t) :=
  (Chip.flag_congr (Chip.rd_setFrm _ _ _ _ _)).trans ((Chip.flag_setF_apart _).trans (Chip.flag_setF_apart _))

theorem Chip.lock_dropDelivery : (s.dropDelivery c t).flag (Reg.FRM.ALIGN_STAT.FSN_LOCK c t) = false :=
  (Chip.flag_congr (Chip.rd_setFrm _ _ _ _ _)).trans (Chip.flag_setFlag_self _ _ _ rfl (by show 28 < 32; decide))
end

section
variable {s : Chip} {c : Carrier} {t : Fin 16}

/-- An event of the framer leaves the aligner. -/
theorem Chip.alignKept_raiseFrm (s : Chip) (c : Carrier) (t : Fin 16) {bit src : Nat} {e : Carrier → Ev}
    (he : e c = ⟨c.base + 0x01400000, bit, src⟩ := by rfl) : Chip.AlignKept c t s (s.raiseFrm c t.val e) :=
  ((Chip.TrailKept.refl s).raiseFrm he).alignKept c t

theorem Chip.setAlign_enters_spec (hwas : (s.frmOf c t.val).align ≠ 1) :
    let u := s.setAlign c t.val 1
    (u.frmOf c t.val).align = 1 ∧ (u.frmOf c t.val).pos = (s.frmOf c t.val).pos ∧ u.flag (Reg.FRM.ALIGN_STAT.IN_FRAME c t.val) = true ∧
      Recorded (Ev.FRM.IF_CHANGE c) s u ∧ LineFrame s u := by
  have hline : Chip.LineKept True True s (s.setAlign c t.val 1) := (Chip.LineKept.refl s).setAlign t.isLt
  refine ⟨s.align_setAlign c t.val 1, ?_, ?_, ?_, hline.lineFrame⟩
  all_goals
    rw [Chip.setAlign_enters hwas]
    generalize hw : (s.alignShown c t.val 1).setFlag (Reg.FRM.PT_STAT.PT_VALID c t.val) false = w
    have hkept := w.alignKept_raiseFrm c t (e := Ev.FRM.IF_CHANGE)
  · rw [hkept.pos, ← hw, Chip.setFlag, Chip.frmOf_setF, Chip.frmOf_alignShown]
  · rw [hkept.inFrame, ← hw]
    exact (Chip.flag_congr (Chip.rd_setTrail_ne _)).trans (s.inFrame_alignShown c t.val 1)
  · refine .of_sticky ?_ (recorded_raiseFrm w c t.val)
    rw [← hw]
    exact (Chip.rd_frmSticky_setTrail _).trans (s.rd_frmSticky_alignShown c t.val 1)

theorem Chip.setAlign_leaves_spec (hwas : (s.frmOf c t.val).align = 1) :
    let u := s.setAlign c t.val 2
    (u.frmOf c t.val).align = 2 ∧ u.flag (Reg.FRM.ALIGN_STAT.IN_FRAME c t.val) = false ∧ u.flag (Reg.FRM.ALIGN_STAT.FSN_LOCK c t.val) = false ∧
      u.getF (Reg.FRM.OOF_CNT.COUNT c t.val) = s.getF (Reg.FRM.OOF_CNT.COUNT c t.val) ∧
      Recorded (Ev.FRM.IF_CHANGE c) s u ∧ LineFrame s u := by
  have hline : Chip.LineKept True True s (s.setAlign c t.val 2) := (Chip.LineKept.refl s).setAlign t.isLt
  refine ⟨s.align_setAlign c t.val 2, ?_, ?_, ?_, ?_, hline.lineFrame⟩
  all_goals
    rw [Chip.setAlign_leaves hwas (by decide)]
    generalize hw : (s.alignShown c t.val 2).dropDelivery c t.val = w
    have hkept := w.alignKept_raiseFrm c t (e := Ev.FRM.IF_CHANGE)
  · rw [hkept.inFrame, ← hw]
    exact (Chip.inFrame_dropDelivery _ c t.val).trans (s.inFrame_alignShown c t.val 2)
  · rw [hkept.lock, ← hw]
    exact Chip.lock_dropDelivery _ c t.val
  · rw [hkept.oofs, ← hw]
    exact Chip.getF_congr ((Chip.rd_dropDelivery _ c t.val).trans (s.rd_alignShown c t.val 2))
  · refine .of_sticky ?_ (recorded_raiseFrm w c t.val)
    rw [← hw]
    exact (Chip.rd_frmSticky_dropDelivery _ c t.val).trans (s.rd_frmSticky_alignShown c t.val 2)
end

/-! ## Line blocks and loss of frame -/

theorem isCarrierStat_frm (c : Carrier) : IsCarrierStat (Ev.FRM.base c + 0xF0) := isCarrierStat_of_block c (n := 0x01400000) (by decide)

section
variable {s : Chip} {c : Carrier} {t : Fin 16} {pos errs : Nat} {bytes : List Nat}

/-- A candidate confirmed: the aligner as it enters IN_FRAME (R177). -/
def Chip.confirmed (s : Chip) (c : Carrier) (t : Fin 16) (pos : Nat) : Chip :=
  (s.setFrm c t.val { s.frmOf c t.val with cands := [], pos := pos, badLaw := 0 }).setAlign c t.val 1

/-- The last bad LAW of a row: the aligner as it leaves IN_FRAME (R177). -/
def Chip.outOfFrame (s : Chip) (c : Carrier) (t : Fin 16) (pos : Nat) : Chip :=
  (s.setFrm c t.val { s.frmOf c t.val with pos := pos, badLaw := 0, cands := [pos] }).setAlign c t.val 2

theorem doLineBlockRx_confirms (halign : (s.frmOf c t.val).align = 0) (hstate : 7 ≤ (s.trailRcvSt c t.val).state) (herrs : errs ≤ s.lawTol c t.val)
    (hpos : lawSpacing ≤ pos) (hcand : (s.frmOf c t.val).cands.contains (pos - lawSpacing) = true) :
    doLineBlockRx c t pos errs bytes s =
      (((s.confirmed c t pos).acqInFrame ((s.confirmed c t pos).trailRcv c t)).blockHeader c t.val bytes).frmEnd c t := by
  have hgood : (decide (lawSpacing ≤ pos) && (s.frmOf c t.val).cands.contains (pos - lawSpacing) && decide (errs ≤ s.lawTol c t.val)) = true := by
    simp only [hpos, hcand, herrs, decide_true, Bool.and_self]
  have hsearch : s.searchLaw c t pos (decide (errs ≤ s.lawTol c t.val)) bytes =
      ((s.confirmed c t pos).acqInFrame ((s.confirmed c t pos).trailRcv c t)).blockHeader c t.val bytes := if_pos hgood
  unfold doLineBlockRx
  rw [if_neg (by rw [halign]; decide), if_neg (Nat.not_lt.mpr hstate), hsearch]

theorem doLineBlockRx_drops (halign : (s.frmOf c t.val).align = 1) (hpos : pos = (s.frmOf c t.val).pos + lawSpacing)
    (herrs : s.lawTol c t.val < errs)
    (hrow : max 2 (s.getF (Reg.FRM.ALIGN_CFG.OOF_N c t.val)) ≤ (s.frmOf c t.val).badLaw + 1) :
    doLineBlockRx c t pos errs bytes s =
      (((s.outOfFrame c t pos).bump (Reg.FRM.OOF_CNT.COUNT c t.val)).emptyWindow ((s.outOfFrame c t pos).trailRcv c t)).frmEnd c t := by
  have hbad : decide (errs ≤ s.lawTol c t.val) = false := decide_eq_false (Nat.not_le.mpr herrs)
  have hlaw : s.frameLaw c t pos false bytes =
      ((s.outOfFrame c t pos).bump (Reg.FRM.OOF_CNT.COUNT c t.val)).emptyWindow ((s.outOfFrame c t pos).trailRcv c t) :=
    (if_neg (not_not.mpr hpos)).trans ((if_neg Bool.false_ne_true).trans (if_pos hrow))
  unfold doLineBlockRx
  dsimp only
  rw [if_pos halign, hbad, hlaw]

theorem lineFrame_setFrm (s : Chip) (c : Carrier) (k : Nat) (v : FrmSt) : LineFrame s (s.setFrm c k v) := LineFrame.refl s

theorem Chip.confirmed_spec (hwas : (s.frmOf c t.val).align ≠ 1) :
    let u := s.confirmed c t pos
    (u.frmOf c t.val).align = 1 ∧ (u.frmOf c t.val).pos = pos ∧ u.flag (Reg.FRM.ALIGN_STAT.IN_FRAME c t.val) = true ∧
      Recorded (Ev.FRM.IF_CHANGE c) s u ∧ LineFrame s u := by
  have hset := s.frmOf_setFrm_self c t.val { s.frmOf c t.val with cands := [], pos := pos, badLaw := 0 }
  obtain ⟨halign, hpos, hflag, hrec, hframe⟩ := Chip.setAlign_enters_spec (s := s.setFrm c t.val _) (c := c) (t := t) (by rw [hset]; exact hwas)
  exact ⟨halign, hpos.trans (by rw [hset]), hflag, .of_sticky (Chip.rd_setFrm _ _ _ _ _) hrec, (lineFrame_setFrm _ _ _ _).trans hframe⟩

theorem Chip.outOfFrame_spec (hwas : (s.frmOf c t.val).align = 1) :
    let u := s.outOfFrame c t pos
    (u.frmOf c t.val).align = 2 ∧ u.flag (Reg.FRM.ALIGN_STAT.IN_FRAME c t.val) = false ∧ u.flag (Reg.FRM.ALIGN_STAT.FSN_LOCK c t.val) = false ∧
      u.getF (Reg.FRM.OOF_CNT.COUNT c t.val) = s.getF (Reg.FRM.OOF_CNT.COUNT c t.val) ∧
      Recorded (Ev.FRM.IF_CHANGE c) s u ∧ LineFrame s u := by
  have hset := s.frmOf_setFrm_self c t.val { s.frmOf c t.val with pos := pos, badLaw := 0, cands := [pos] }
  obtain ⟨halign, hflag, hlock, hcount, hrec, hframe⟩ := Chip.setAlign_leaves_spec (s := s.setFrm c t.val _) (c := c) (t := t)
    (by rw [hset]; exact hwas)
  exact ⟨halign, hflag, hlock, hcount.trans (Chip.getF_congr (Chip.rd_setFrm _ _ _ _ _)), .of_sticky (Chip.rd_setFrm _ _ _ _ _) hrec,
    (lineFrame_setFrm _ _ _ _).trans hframe⟩

/-- A good LAW that follows a candidate (R177). -/
theorem doLineBlockRx_confirms_spec (halign : (s.frmOf c t.val).align = 0) (hstate : 7 ≤ (s.trailRcvSt c t.val).state)
    (herrs : errs ≤ s.lawTol c t.val) (hpos : lawSpacing ≤ pos) (hcand : (s.frmOf c t.val).cands.contains (pos - lawSpacing) = true) :
    let u := doLineBlockRx c t pos errs bytes s
    (u.frmOf c t.val).align = 1 ∧ (u.frmOf c t.val).pos = pos ∧ u.flag (Reg.FRM.ALIGN_STAT.IN_FRAME c t.val) = true ∧
      Recorded (Ev.FRM.IF_CHANGE c) s u ∧ LineFrame s u := by
  rw [doLineBlockRx_confirms halign hstate herrs hpos hcand]
  obtain ⟨hal, hp, hflag, hrec, hframe⟩ := Chip.confirmed_spec (s := s) (c := c) (t := t) (pos := pos) (by rw [halign]; decide)
  have hkept := ((Chip.TrailKept.refl (s.confirmed c t pos)).acqInFrame (x := (s.confirmed c t pos).trailRcv c t)).blockHeader (c := c) (t := t)
    (bytes := bytes) |>.frmEnd
  exact ⟨hkept.align.trans hal, hkept.pos.trans hp, hkept.inFrame.trans hflag, hrec.recordKept hkept.record (isCarrierStat_frm c),
    hframe.trans hkept.frame⟩

/-- OOF counted (R177, R192). -/
theorem Chip.bump_oof_spec (s : Chip) (c : Carrier) (t : Nat) :
    let u := s.bump (Reg.FRM.OOF_CNT.COUNT c t)
    u.getF (Reg.FRM.OOF_CNT.COUNT c t) = (s.getF (Reg.FRM.OOF_CNT.COUNT c t) + 1) % 2 ^ (Reg.FRM.OOF_CNT.COUNT c t).width ∧
      u.rd (Reg.FRM.ALIGN_STAT.addr c t) = s.rd (Reg.FRM.ALIGN_STAT.addr c t) ∧ u.frmOf c t = s.frmOf c t ∧ Chip.RecordKept False s u :=
  ⟨Chip.getF_setF_self _ _ _ (by show 0 + 32 ≤ 32; decide), Chip.rd_setTrail_ne _, Chip.frmOf_setF _ _ _ _ _, (Chip.RecordKept.refl s).setTrail⟩

/-- The last bad LAW of a row (R177). -/
theorem doLineBlockRx_drops_spec (halign : (s.frmOf c t.val).align = 1) (hpos : pos = (s.frmOf c t.val).pos + lawSpacing)
    (herrs : s.lawTol c t.val < errs)
    (hrow : max 2 (s.getF (Reg.FRM.ALIGN_CFG.OOF_N c t.val)) ≤ (s.frmOf c t.val).badLaw + 1) :
    let u := doLineBlockRx c t pos errs bytes s
    (u.frmOf c t.val).align = 2 ∧ u.flag (Reg.FRM.ALIGN_STAT.IN_FRAME c t.val) = false ∧ u.flag (Reg.FRM.ALIGN_STAT.FSN_LOCK c t.val) = false ∧
      u.getF (Reg.FRM.OOF_CNT.COUNT c t.val) = (s.getF (Reg.FRM.OOF_CNT.COUNT c t.val) + 1) % 2 ^ (Reg.FRM.OOF_CNT.COUNT c t.val).width ∧
      Recorded (Ev.FRM.IF_CHANGE c) s u ∧ LineFrame s u := by
  rw [doLineBlockRx_drops halign hpos herrs hrow]
  obtain ⟨hal, hflag, hlock, hcount, hrec, hframe⟩ := Chip.outOfFrame_spec (pos := pos) halign
  generalize s.outOfFrame c t pos = u at hal hflag hlock hcount hrec hframe ⊢
  obtain ⟨hnew, hstat, hfrm, hbump⟩ := u.bump_oof_spec c t.val
  have hline : LineFrame u (u.bump (Reg.FRM.OOF_CNT.COUNT c t.val)) := (LineFrame.refl u).setF (carrierPage c t.isLt (by decide)).1
  generalize u.bump (Reg.FRM.OOF_CNT.COUNT c t.val) = w at hnew hstat hfrm hbump hline ⊢
  have hkept := ((Chip.TrailKept.refl w).emptyWindow (x := u.trailRcv c t)).frmEnd (c := c) (t := t) |>.alignKept c t
  refine ⟨hkept.align.trans (by rw [hfrm, hal]), (hkept.inFrame.trans (Chip.flag_congr hstat)).trans hflag,
    (hkept.lock.trans (Chip.flag_congr hstat)).trans hlock, hkept.oofs.trans (by rw [hnew, hcount]),
    (hrec.recordKept hbump (isCarrierStat_frm c)).recordKept hkept.record (isCarrierStat_frm c), (hframe.trans hline).trans hkept.frame⟩

end

theorem Chip.LineKept.searchKept {s u : Chip} (h : Chip.LineKept True True s u) (hrec : Chip.RecordKept True s u) : Chip.SearchKept s u :=
  ⟨fun x => congrArg RcvSt.state (Chip.rcvOf_congr (h.rcv trivial) x), fun d => h.rd _ (not_lineReg_acqCtrl d), h.lineFrame, hrec⟩

/-- What ends every step of a framer is no step of an acquisition. -/
theorem Chip.frmEnd_searchKept (s : Chip) (c : Carrier) (t : Fin 16) : Chip.SearchKept s (s.frmEnd c t) := by
  have htrail : Chip.SearchKept s (s.trailSettle c t.val) :=
    ((Chip.LineKept.refl s).trailSettle t.isLt).searchKept (Chip.RecordKept.refl s).trailSettle
  exact htrail.inletSettle.trans ((Chip.LineKept.refl _).settle.searchKept (Chip.RecordKept.refl _).settle)

theorem Chip.subcEn_congr {s u : Chip} {c : Carrier} (h : u.rd (Reg.TXD.LINE_STAT.addr c) = s.rd (Reg.TXD.LINE_STAT.addr c)) :
    (u.lineApplied c).cfg.subcEn = (s.lineApplied c).cfg.subcEn := congrArg (fun w : Word => w.bit 29) h

/-- Loss of frame shown and recorded (R178). -/
def Chip.lofShown (s : Chip) (c : Carrier) (t : Nat) : Chip := (s.setFlag (Reg.FRM.ALIGN_STAT.LOF_ACQ c t) true).raiseFrm c t Ev.FRM.LOF_ACQ

section
variable {s : Chip} {c : Carrier} {t : Fin 16}

theorem doLofAcq_oof (h : (s.frmOf c t.val).align = 2) :
    doLofAcq c t s = ((s.lofShown c t.val).acqFrameLoss ((s.lofShown c t.val).trailRcv c t)).frmEnd c t := if_neg (not_not.mpr h)

theorem Chip.lofShown_spec (s : Chip) (c : Carrier) (t : Fin 16) :
    (s.lofShown c t.val).flag (Reg.FRM.ALIGN_STAT.LOF_ACQ c t.val) = true ∧ Recorded (Ev.FRM.LOF_ACQ c) s (s.lofShown c t.val) ∧
      Chip.LineKept True True s (s.lofShown c t.val) := by
  have hline : Chip.LineKept True True s (s.setFlag (Reg.FRM.ALIGN_STAT.LOF_ACQ c t.val) true) := (Chip.LineKept.refl s).setTrail t.isLt
  have hset : (s.setFlag (Reg.FRM.ALIGN_STAT.LOF_ACQ c t.val) true).flag (Reg.FRM.ALIGN_STAT.LOF_ACQ c t.val) = true :=
    Chip.flag_setFlag_self _ _ _ rfl (by show 26 < 32; decide)
  exact ⟨(Chip.alignKept_raiseFrm _ c t).acq.trans hset, .of_sticky s.rd_frmSticky_setTrail (recorded_raiseFrm _ c t.val),
    hline.raiseFrm (.event c (by decide))⟩

/-- A carrier's receiver in ACQUIRED leaves it at a loss of frame (R105, R178). -/
theorem Chip.lofShown_leaves (hmode : (s.lineApplied c).cfg.subcEn = false) (h8 : (s.rcvOf (.car c)).state = 8) :
    (((s.lofShown c t.val).acqFrameLoss ((s.lofShown c t.val).trailRcv c t)).rcvOf (.car c)).state =
      if (s.rcvOf (.car c)).warmValid then 4 else 2 := by
  obtain ⟨-, -, hline⟩ := s.lofShown_spec c t
  have hrcv : (s.lofShown c t.val).rcvOf (.car c) = s.rcvOf (.car c) := Chip.rcvOf_congr (hline.rcv trivial) _
  have hcar : (s.lofShown c t.val).trailRcv c t = .car c :=
    if_neg (by rw [Chip.subcEn_congr (hline.rd _ (not_lineReg_lineStat c)), hmode]; decide)
  rw [hcar, Chip.acqFrameLoss, if_pos (by rw [hrcv, h8]), Chip.state_leaveAcquired, hrcv]

/-- 32 block times in OOF (R178). -/
theorem doLofAcq_spec (h : (s.frmOf c t.val).align = 2) :
    let u := doLofAcq c t s
    u.flag (Reg.FRM.ALIGN_STAT.LOF_ACQ c t.val) = true ∧ Recorded (Ev.FRM.LOF_ACQ c) s u ∧
      ((s.lineApplied c).cfg.subcEn = false → (s.rcvOf (.car c)).state = 8 →
        (u.rcvOf (.car c)).state = if (s.rcvOf (.car c)).warmValid then 4 else 2) ∧ LineFrame s u := by
  rw [doLofAcq_oof h]
  obtain ⟨hflag, hrec, hline⟩ := s.lofShown_spec c t
  have hkept := ((Chip.TrailKept.refl (s.lofShown c t.val)).acqFrameLoss (x := (s.lofShown c t.val).trailRcv c t)).frmEnd (c := c) (t := t)
    |>.alignKept c t
  refine ⟨hkept.acq.trans hflag, hrec.recordKept hkept.record (isCarrierStat_frm c), fun hmode h8 => ?_, hline.lineFrame.trans hkept.frame⟩
  exact ((Chip.frmEnd_searchKept _ c t).state _).trans (Chip.lofShown_leaves hmode h8)
end

end Sys2Proof.Machine
end

section
/-! SUPPORT. A frame that a trail's generator starts: what its header carries, and that serving its channels leaves the receivers, the clocks and the
processors (R171, R172, R179 to R184). One law per operation, in the form of the laws for the rest of the line. -/

namespace Sys2Proof.Machine

/-- The receivers, the clocks and the processors stand from one chip to the next. -/
structure Chip.SendKept (s t : Chip) : Prop where
  rcv : t.rcv = s.rcv
  clk : t.clk = s.clk
  boot : t.boot = s.boot

section
variable {s₀ s : Chip}

theorem Chip.SendKept.refl (s : Chip) : Chip.SendKept s s := ⟨rfl, rfl, rfl⟩

/-! The steps of every law, and the forms a definition is built from. -/

theorem Chip.SendKept.quiet {t : Chip} (h : Chip.SendKept s₀ s) (k : Quiet s t) : Chip.SendKept s₀ t := by
  rw [k]
  exact ⟨h.rcv, h.clk, h.boot⟩

/-- An update of fields that are none of the three. -/
theorem Chip.SendKept.same {rg ac li fi n fu tp x fe su fr pm de ws ti gr pg lo le se ev ts po mg pc mo la re} (h : Chip.SendKept s₀ s) :
    Chip.SendKept s₀ ⟨rg, ac, li, fi, n, fu, tp, s.clk, x, s.rcv, fe, su, fr, pm, de, ws, ti, gr, pg, lo, le, se, ev, ts, po, s.boot, mg, pc, mo,
      la, re⟩ := ⟨h.rcv, h.clk, h.boot⟩

theorem Chip.SendKept.setF (h : Chip.SendKept s₀ s) {f v} : Chip.SendKept s₀ (s.setF f v) := h.quiet (quiet_setF _ _ _)
theorem Chip.SendKept.raise (h : Chip.SendKept s₀ s) {e} : Chip.SendKept s₀ (s.raise e) := h.quiet (quiet_raise _ _)
theorem Chip.SendKept.raiseIf (h : Chip.SendKept s₀ s) {b e} : Chip.SendKept s₀ (s.raiseIf b e) := h.quiet (quiet_raiseIf _ _ _)
theorem Chip.SendKept.evc (h : Chip.SendKept s₀ s) {k n} : Chip.SendKept s₀ (s.evc k n) := h.quiet (quiet_evc _ _ _)

theorem Chip.SendKept.ite {c : Prop} {_ : Decidable c} {t : Chip} (h : Chip.SendKept s₀ s) (h' : Chip.SendKept s₀ t) :
    Chip.SendKept s₀ (if c then s else t) := by
  split <;> assumption

theorem Chip.SendKept.foldl {α : Type} {f : Chip → α → Chip} {l : List α} (h : Chip.SendKept s₀ s)
    (hf : ∀ u x, Chip.SendKept s₀ u → Chip.SendKept s₀ (f u x)) : Chip.SendKept s₀ (l.foldl f s) := by
  induction l generalizing s with
  | nil => exact h
  | cons x l ih => exact ih (hf s x h)

/-! One law per operation, in the order of the definitions. -/

theorem Chip.SendKept.setLive (h : Chip.SendKept s₀ s) {e b} : Chip.SendKept s₀ (s.setLive e b) := h.same
theorem Chip.SendKept.assert (h : Chip.SendKept s₀ s) {e} : Chip.SendKept s₀ (s.assert e) := h.setLive.raise
theorem Chip.SendKept.free (h : Chip.SendKept s₀ s) : Chip.SendKept s₀ s.free.2 := h.same
theorem Chip.SendKept.roundFree (h : Chip.SendKept s₀ s) {num den} : Chip.SendKept s₀ (s.roundFree num den).2 := by
  unfold Chip.roundFree
  split
  exacts [h, h.free]
theorem Chip.SendKept.setGrp (h : Chip.SendKept s₀ s) {c g v} : Chip.SendKept s₀ (s.setGrp c g v) := h.same
theorem Chip.SendKept.setGrpSf (h : Chip.SendKept s₀ s) {c g b} : Chip.SendKept s₀ (s.setGrpSf c g b) := by
  dsimp only [Chip.setGrpSf]
  split
  exacts [h.setGrp, .ite h.setGrp.assert h.setGrp.setLive]
theorem Chip.SendKept.sfRecheck (h : Chip.SendKept s₀ s) {c g} : Chip.SendKept s₀ (s.sfRecheck c g) := .ite h.setGrpSf h
theorem Chip.SendKept.setPort (h : Chip.SendKept s₀ s) {p v} : Chip.SendKept s₀ (s.setPort p v) := h.same
theorem Chip.SendKept.timePayload (h : Chip.SendKept s₀ s) {p} : Chip.SendKept s₀ (s.timePayload p).2 := by
  unfold Chip.timePayload
  extract_lets v tx u rx w sync status
  have htx : Chip.SendKept s₀ u := by
    unfold u tx
    split
    exacts [h.roundFree, h.free.free]
  change Chip.SendKept s₀ rx.2
  unfold rx
  split
  exacts [htx.roundFree, htx.free.free]
theorem Chip.SendKept.fillTime (h : Chip.SendKept s₀ s) {p} : Chip.SendKept s₀ (s.fillTime p) := by
  dsimp only [Chip.fillTime]
  split
  exacts [h.timePayload.setPort, h]
theorem Chip.SendKept.tamustByte (h : Chip.SendKept s₀ s) {p} : Chip.SendKept s₀ (s.tamustByte p).2 :=
  .ite h.fillTime.setPort.evc h.fillTime.setPort
theorem Chip.SendKept.tamustBytes (h : Chip.SendKept s₀ s) {p} : Chip.SendKept s₀ (s.tamustBytes p).2 := h.tamustByte.tamustByte
theorem Chip.SendKept.setPoolWord (h : Chip.SendKept s₀ s) {w v} : Chip.SendKept s₀ (s.setPoolWord w v) := h.same
theorem Chip.SendKept.mevShow (h : Chip.SendKept s₀ s) : Chip.SendKept s₀ s.mevShow := by
  dsimp only [Chip.mevShow]
  split
  exacts [h.setF.setF.setF.setF.setF, h.setF.foldl fun _ _ hu => hu.free.setF]
theorem Chip.SendKept.mevPush (h : Chip.SendKept s₀ s) {type w master} : Chip.SendKept s₀ (s.mevPush type w master) :=
  .ite h.setF.raise (.mevShow (.same (.ite h.free h)))
theorem Chip.SendKept.corrected (h : Chip.SendKept s₀ s) {w master} : Chip.SendKept s₀ (s.corrected w master) := by
  have h1 : Chip.SendKept s₀ (((s.bump (Reg.POOL.CORR_CNT.COUNT (poolOfWord w))).raise Ev.POOL.CORR).evc (40 + poolOfWord w)) := h.setF.raise.evc
  exact .same (.ite (.mevPush (.raise (.ite h1.mevPush h1))) (.ite h1.mevPush h1))
theorem Chip.SendKept.wordFind (h : Chip.SendKept s₀ s) {w} : Chip.SendKept s₀ (s.wordFind w).2.2 := by
  dsimp only [Chip.wordFind]
  split
  exacts [h.free.free, h]
theorem Chip.SendKept.readWord64 (h : Chip.SendKept s₀ s) {w m} : Chip.SendKept s₀ (s.readWord64 w m).2 := by
  dsimp only [Chip.readWord64]
  split
  exacts [h.wordFind, h.wordFind.setPoolWord.corrected, h.wordFind.raise.mevPush, h.wordFind.setPoolWord.setF.raise.mevPush]
theorem Chip.SendKept.captureRead (h : Chip.SendKept s₀ s) {off} : Chip.SendKept s₀ (s.captureRead off).2 := by
  dsimp only [Chip.captureRead]
  split
  exacts [h.readWord64, h.readWord64.free]
theorem Chip.SendKept.modLenc (h : Chip.SendKept s₀ s) {c f} : Chip.SendKept s₀ (s.modLenc c f) := h.same
theorem Chip.SendKept.setLineKey (h : Chip.SendKept s₀ s) {c tx p k} : Chip.SendKept s₀ (s.setLineKey c tx p k) := h.modLenc
theorem Chip.SendKept.clearKey (h : Chip.SendKept s₀ s) {c tx p} : Chip.SendKept s₀ (s.clearKey c tx p) := h.setF.setF.setLineKey
theorem Chip.SendKept.lencSettle (h : Chip.SendKept s₀ s) {c} : Chip.SendKept s₀ (s.lencSettle c) := .ite h.setF.assert h.setF.setLive
theorem Chip.SendKept.lencSettleAll (h : Chip.SendKept s₀ s) : Chip.SendKept s₀ s.lencSettleAll := h.lencSettle.lencSettle
theorem Chip.SendKept.loadKey (h : Chip.SendKept s₀ s) {c tx slot epoch} : Chip.SendKept s₀ (s.loadKey c tx slot epoch) := by
  unfold Chip.loadKey
  extract_lets used target refuse
  have hrefuse : ∀ n, Chip.SendKept s₀ (refuse n) := fun _ => h.setF.raise
  clear_value target
  split
  · exact hrefuse _
  · refine .ite (hrefuse _) (.ite (hrefuse _) ?_)
    split
    · exact hrefuse _
    · refine .ite (hrefuse _) ?_
      extract_lets a s1 s2 s3
      have h2 : Chip.SendKept s₀ s2 := h.setF.setF.setF.setF.setLineKey
      exact .lencSettleAll (.ite h2.setF.modLenc h2)
theorem Chip.SendKept.swapKeys (h : Chip.SendKept s₀ s) {c} : Chip.SendKept s₀ (s.swapKeys c) :=
  .ite h (.ite h.modLenc.raise (.lencSettleAll (.ite h.modLenc.setF.clearKey.raise.loadKey h.modLenc.setF.clearKey.raise)))
theorem Chip.SendKept.countSealed (h : Chip.SendKept s₀ s) {c fsn} : Chip.SendKept s₀ (s.countSealed c fsn) :=
  .ite h (.ite h.setLineKey.modLenc.setF.raiseIf.raise.lencSettleAll h.setLineKey.modLenc.setF.raiseIf)
theorem Chip.SendKept.sealFrame (h : Chip.SendKept s₀ s) {c fsn} : Chip.SendKept s₀ (s.sealFrame c fsn).2.2 := by
  dsimp only [Chip.sealFrame]
  split
  · exact h.sfRecheck.swapKeys
  · split
    · exact h.sfRecheck.swapKeys.setF
    · split
      exacts [h.sfRecheck.swapKeys.countSealed.setF, h.sfRecheck.swapKeys.countSealed]
theorem Chip.SendKept.gccNext (h : Chip.SendKept s₀ s) {c t g} : Chip.SendKept s₀ (s.gccNext c t g).2 := by
  dsimp only [Chip.gccNext]
  split
  exacts [h, h.captureRead.setF]
theorem Chip.SendKept.gccTake (h : Chip.SendKept s₀ s) {c t g n} : Chip.SendKept s₀ (s.gccTake c t g n).2 := by
  induction n with
  | zero => exact h
  | succ n ih => exact ih.gccNext
theorem Chip.SendKept.setFrm (h : Chip.SendKept s₀ s) {c t v} : Chip.SendKept s₀ (s.setFrm c t v) := h.same
theorem Chip.SendKept.modFrm (h : Chip.SendKept s₀ s) {c t f} : Chip.SendKept s₀ (s.modFrm c t f) := h.setFrm
end

/-- The header that a frame carries is the last thing its start sets (R171, R172): its number shown in TX_FSN, the header and the parity. -/
theorem Chip.frameHeader_eq (s : Chip) (c : Carrier) (t fsn parity pin : Nat) :
    ∃ (u : Chip) (h : TxHdr) (acc : Nat), Chip.SendKept s u ∧ h.fsn = fsn ∧
      s.frameHeader c t fsn parity pin = (u.setF (Reg.FRM.TX_FSN.FSN c t) fsn).modFrm c t fun w =>
        { w with hdr := some h, beiAcc := acc, parities := [parity % 256] ++ w.parities.take 1 } := by
  unfold Chip.frameHeader
  extract_lets v sealed s1 bip bei acc g0 g1 tv p tm lock s2 i hdr
  have h1 : Chip.SendKept s s1 := (Chip.SendKept.refl s).sealFrame
  have hbip : Chip.SendKept s bip.2 := by
    unfold bip
    split
    exacts [h1, h1.free]
  have hg : Chip.SendKept s g1.2 := hbip.gccTake.gccTake
  have htm : Chip.SendKept s tm.2 := by
    unfold tm
    split
    exacts [hg.tamustBytes, hg]
  have h2 : Chip.SendKept s s2 := .ite htm.setPort htm
  exact ⟨s2, hdr, acc, h2, rfl, rfl⟩

section
variable {s : Chip} {c : Carrier} {t : Fin 16} {parity pin : Nat}

theorem doFrameStartTx_sends (htx : s.trailTx c t.val = true) (hawake : s.txAsleep c t.val = false) :
    doFrameStartTx c t parity pin s = (s.frameHeader c t.val (s.frmOf c t.val).fsnNext parity pin).modFrm c t.val fun w =>
      { w with fsnNext := ((s.frmOf c t.val).fsnNext + 1) % 2 ^ 32 } := by
  have hsend : (s.trailTx c t.val && !s.txAsleep c t.val) = true := by
    rw [htx, hawake]
    rfl
  unfold doFrameStartTx
  dsimp only
  rw [if_pos hsend]

theorem doFrameStartTx_silent (hsilent : (s.trailTx c t.val && !s.txAsleep c t.val) = false) :
    doFrameStartTx c t parity pin s = s.modFrm c t.val fun w => { w with fsnNext := ((s.frmOf c t.val).fsnNext + 1) % 2 ^ 32 } := by
  unfold doFrameStartTx
  dsimp only
  rw [if_neg (ne_true_of_eq_false hsilent)]

/-- A frame period takes the next FSN, and its channels leave the receivers, the clocks and the processors (R171). -/
theorem doFrameStartTx_next (s : Chip) (c : Carrier) (t : Fin 16) (parity pin : Nat) :
    let u := doFrameStartTx c t parity pin s
    (u.frmOf c t.val).fsnNext = ((s.frmOf c t.val).fsnNext + 1) % 2 ^ 32 ∧ Chip.SendKept s u := by
  cases hsend : s.trailTx c t.val && !s.txAsleep c t.val with
  | false =>
    rw [doFrameStartTx_silent hsend]
    exact ⟨congrArg FrmSt.fsnNext (Chip.frmOf_modFrm_self _ _ _ _), (Chip.SendKept.refl s).modFrm⟩
  | true =>
    rw [Bool.and_eq_true, Bool.not_eq_true'] at hsend
    obtain ⟨u, hdr, acc, hkept, -, hheader⟩ := s.frameHeader_eq c t.val (s.frmOf c t.val).fsnNext parity pin
    rw [doFrameStartTx_sends hsend.1 hsend.2, hheader]
    exact ⟨congrArg FrmSt.fsnNext (Chip.frmOf_modFrm_self _ _ _ _), hkept.setF.modFrm.modFrm⟩

/-- A trail that sends carries the number in its frame and reports it (R171, R172). -/
theorem doFrameStartTx_sends_spec (htx : s.trailTx c t.val = true) (hawake : s.txAsleep c t.val = false) :
    let u := doFrameStartTx c t parity pin s
    u.getF (Reg.FRM.TX_FSN.FSN c t.val) = (s.frmOf c t.val).fsnNext % 2 ^ 32 ∧
      (u.frmOf c t.val).hdr.map TxHdr.fsn = some (s.frmOf c t.val).fsnNext ∧ (u.frmOf c t.val).parities.head? = some (parity % 256) := by
  obtain ⟨u, hdr, acc, -, hfsn, hheader⟩ := s.frameHeader_eq c t.val (s.frmOf c t.val).fsnNext parity pin
  rw [doFrameStartTx_sends htx hawake, hheader]
  intro w
  have hw : w.frmOf c t.val = _ := (Chip.frmOf_modFrm_self _ _ _ _).trans (by rw [Chip.frmOf_modFrm_self])
  have hshown : w.getF (Reg.FRM.TX_FSN.FSN c t.val) =
      (u.setF (Reg.FRM.TX_FSN.FSN c t.val) (s.frmOf c t.val).fsnNext).getF (Reg.FRM.TX_FSN.FSN c t.val) :=
    Chip.getF_congr ((Chip.rd_setFrm _ _ _ _ _).trans (Chip.rd_setFrm _ _ _ _ _))
  rw [hw, hshown]
  exact ⟨Chip.getF_setF_self u _ _ (by show 0 + 32 ≤ 32; decide), congrArg some hfsn, rfl⟩
end

/-- Settles O26, clause by clause: the start of a frame by what its header sets last, and the aligner's steps by what is read off the aligner
before the judgements that end the step, which leave it. -/
theorem frameAlignment : Obligations.FrameAlignment := by
  refine ⟨fun s c t parity pin => answers_of_to rfl ?_, fun s c t => ⟨fun pos errs header halign hstate herrs hpos hcand => answers_of_to rfl ?_,
    fun errs header halign herrs hrow => answers_of_to rfl ?_, fun halign => answers_of_to rfl ?_⟩⟩
  · obtain ⟨hnext, hkept⟩ := doFrameStartTx_next s.chip c t parity pin
    refine ⟨hnext, fun htx => ?_, doFrameStartTx_sends_spec, hkept.rcv, hkept.clk, hkept.boot⟩
    rw [doFrameStartTx_silent (by rw [htx, Bool.false_and])]
    rfl
  · exact doLineBlockRx_confirms_spec halign hstate herrs hpos hcand
  · exact doLineBlockRx_drops_spec halign rfl herrs hrow
  · exact doLofAcq_spec halign

end Sys2Proof.Machine
end

section
/-! SUPPORT. What a delivered frame brings about beside its count and its number: parity, overhead channels, decryption, the selector and the
connections leave every trail's reports (R179 to R186, R191, R196, R249, R318, R333). One law per operation. -/

namespace Sys2Proof.Machine

section
variable {s₀ s : Chip}

/-! ## Registers behind an index -/

theorem Chip.TrailKept.setTrailAt (h : Chip.TrailKept False s₀ s) {c : Carrier} {n t lo width v : Nat}
    (hr : n % 0x1000 ∉ reportOffsets := by decide) :
    Chip.TrailKept False s₀ (s.setF ⟨c.base + n + 0x1000 * t, lo, width⟩ v) := h.put (not_isTrailReport_trail c t hr)
theorem Chip.TrailKept.addTrailPair (h : Chip.TrailKept False s₀ s) {c : Carrier} {n t v : Nat}
    (hr : n % 0x1000 ∉ reportOffsets ∧ (n + 4) % 0x1000 ∉ reportOffsets := by decide) :
    Chip.TrailKept False s₀ (s.addPair (c.base + n + 0x1000 * t) v) := by
  have hhi : c.base + n + 0x1000 * t + 4 = c.base + (n + 4) + 0x1000 * t := by omega
  refine (h.put (not_isTrailReport_trail c t hr.1)).put ?_
  rw [hhi]
  exact not_isTrailReport_trail c t hr.2
theorem Chip.TrailKept.addPairAbove (h : Chip.TrailKept False s₀ s) {n k v : Nat} (hn : 0x02000000 ≤ n := by decide) :
    Chip.TrailKept False s₀ (s.addPair (n + k) v) :=
  (h.put (not_isTrailReport_above (Nat.le_add_right_of_le hn))).put
    (not_isTrailReport_above (Nat.le_add_right_of_le (Nat.le_add_right_of_le hn)))
theorem Chip.TrailKept.setByte (h : Chip.TrailKept False s₀ s) {c : Carrier} {n t j i v : Nat} (hlo : 0x044 < n % 0x1000)
    (hhi : n % 0x1000 + 4 * j + i < 0x820) : Chip.TrailKept False s₀ (s.setByte (c.base + n + 0x1000 * t + 4 * j) i v) := by
  refine h.put ?_
  rw [Nat.add_assoc _ (4 * j)]
  exact not_isTrailReport_array c t hlo (by omega)

/-! ## Parity and the overhead channels -/

theorem Chip.TrailKept.judgeUpTo (h : Chip.TrailKept False s₀ s) {c t fsn} (ht : t < 16) : Chip.TrailKept False s₀ (s.judgeUpTo c t fsn) :=
  h.setFrm.foldl fun _ _ _ hu => hu.pmAdd ht
theorem Chip.TrailKept.rxBip (h : Chip.TrailKept False s₀ s) {c t fsn bip} : Chip.TrailKept False s₀ (s.rxBip c t fsn bip) := by
  dsimp only [Chip.rxBip]
  split
  exacts [h, .evc (.ite h.setFrm.addTrailPair h.setFrm.addTrailPair.addTrailPair)]
theorem Chip.TrailKept.pmAddFe (h : Chip.TrailKept False s₀ s) {c t sec errored} : Chip.TrailKept False s₀ (s.pmAddFe c t sec errored) := by
  dsimp only [Chip.pmAddFe]
  split
  exacts [h, .ite h h.setPm]
theorem Chip.TrailKept.rxTti (h : Chip.TrailKept False s₀ s) {c t fsn b} : Chip.TrailKept False s₀ (s.rxTti c t fsn b) := by
  refine .ite h.setFrm (.ite h.setFrm ?_)
  extract_lets run s1 base same s2
  have h1 : Chip.TrailKept False s₀ s1 := h.setFrm
  have h2 : Chip.TrailKept False s₀ s2 := h1.foldl fun _ k hk hu => hu.setByte (by decide) (by
    have := List.mem_range.mp hk
    omega)
  exact .ite (.ite h2 h2.raiseFrm) h1
/-- A byte of the multiplex structure has its place behind PT, within 510 bytes (R180). -/
theorem Chip.TrailKept.rxPsi (h : Chip.TrailKept False s₀ s) {c t mf i b} (hi : i < 512) : Chip.TrailKept False s₀ (s.rxPsi c t mf i b) := by
  unfold Chip.rxPsi
  extract_lets v a s1 old s2
  have h1 : Chip.TrailKept False s₀ s1 := h.setFrm
  have h2 : Chip.TrailKept False s₀ s2 := h1.setTrailAt.setTrailAt
  exact .ite h (.ite h1 (.ite (.ite h2 h2.raiseFrm) (h1.setByte (by decide) (by omega))))
theorem Chip.TrailKept.rxAps (h : Chip.TrailKept False s₀ s) {c t fsn w} : Chip.TrailKept False s₀ (s.rxAps c t fsn w) := by
  refine .ite (.raiseFrm (h.setFrm.put ?_)) h.setFrm
  exact not_isTrailReport_array c t (by decide) (by omega)
theorem Chip.TrailKept.setPoolWord (h : Chip.TrailKept False s₀ s) {w v} : Chip.TrailKept False s₀ (s.setPoolWord w v) := h.hidden
theorem Chip.TrailKept.writeWord64 (h : Chip.TrailKept False s₀ s) {w be data} : Chip.TrailKept False s₀ (s.writeWord64 w be data) :=
  .ite h.setPoolWord.setBelow h.setPoolWord
theorem Chip.TrailKept.captureWrite (h : Chip.TrailKept False s₀ s) {off byte} : Chip.TrailKept False s₀ (s.captureWrite off byte) :=
  .ite h.writeWord64 h
theorem Chip.TrailKept.gccByte (h : Chip.TrailKept False s₀ s) {c t g byte} (hg : g < 2) : Chip.TrailKept False s₀ (s.gccByte c t g byte) := by
  unfold Chip.gccByte
  refine .ite h.raiseFrm (h.captureWrite.put ?_)
  exact not_isTrailReport_array c t (by decide) (by omega)
theorem Chip.TrailKept.gccReceive (h : Chip.TrailKept False s₀ s) {c t g bytes} (hg : g < 2) : Chip.TrailKept False s₀ (s.gccReceive c t g bytes) :=
  .ite (h.foldl fun _ _ _ hu => hu.gccByte hg) h

/-! ## The connections and the selector -/

theorem Chip.TrailKept.setDem (h : Chip.TrailKept False s₀ s) {k v} : Chip.TrailKept False s₀ (s.setDem k v) := h.hidden
theorem Chip.TrailKept.setNoSync (h : Chip.TrailKept False s₀ s) {k b} : Chip.TrailKept False s₀ (s.setNoSync k b) := .ite h h.setAbove.raiseAbove
theorem Chip.TrailKept.xcTakeEffect (h : Chip.TrailKept False s₀ s) {k} : Chip.TrailKept False s₀ (s.xcTakeEffect k) := h.setDem.setAbove.setAbove
theorem Chip.TrailKept.demapWord (h : Chip.TrailKept False s₀ s) {k w} : Chip.TrailKept False s₀ (s.demapWord k w) := by
  unfold Chip.demapWord
  extract_lets sync r s1 s2
  have h2 : Chip.TrailKept False s₀ s2 := .ite h.setDem.setAbove h.setDem
  split
  exacts [h2, h2.setNoSync]
theorem Chip.TrailKept.demapFrame (h : Chip.TrailKept False s₀ s) {a t f} : Chip.TrailKept False s₀ (s.demapFrame a t f) := by
  refine h.foldl fun u k _ hu => .ite hu ?_
  have h1 : ∀ due : Bool, Chip.TrailKept False s₀ (if due then u.xcTakeEffect k else u) := fun _ => .ite hu.xcTakeEffect hu
  refine .ite (h1 _) ?_
  split
  exacts [(h1 _).demapWord, h1 _]
theorem Chip.TrailKept.modPg (h : Chip.TrailKept False s₀ s) {g f} : Chip.TrailKept False s₀ (s.modPg g f) := h.setPg
theorem Chip.TrailKept.lostShow (h : Chip.TrailKept False s₀ s) : Chip.TrailKept False s₀ s.lostShow := by
  have habove : ∀ f ∈ [Reg.PROT.LR_HEAD_INFO.PG, Reg.PROT.LR_HEAD_INFO.CAUSE, Reg.PROT.LR_HEAD_FIRST.FSN, Reg.PROT.LR_HEAD_LAST.FSN,
      Reg.PROT.LR_HEAD_SEC_LO.TS, Reg.PROT.LR_HEAD_NS.TS, Reg.PROT.LR_STAT.COUNT], ¬ IsTrailReport f.addr := fun f hf =>
    not_isTrailReport_above (by revert f; decide)
  dsimp only [Chip.lostShow]
  have h0 : Chip.TrailKept False s₀ (s.setF Reg.PROT.LR_STAT.COUNT s.lost.length) := h.put (habove _ (by decide))
  split
  · iterate 6 refine Chip.TrailKept.put ?_ (habove _ (by decide))
    exact h0
  · exact h0.foldl fun _ f hf hu => hu.free.put (habove f (List.mem_append_left [_] hf))
theorem Chip.TrailKept.pgRange (h : Chip.TrailKept False s₀ s) {g first m cause} : Chip.TrailKept False s₀ (s.pgRange g first m cause) := by
  unfold Chip.pgRange
  extract_lets last s1 s2 s3 s4 r
  have h2 : Chip.TrailKept False s₀ s2 := h.addPairAbove.setAbove.setAbove.setAbove
  have h3 : Chip.TrailKept False s₀ s3 := h2.foldl fun _ _ _ hu => .ite hu.setAbove.raiseAbove hu
  have h4 : Chip.TrailKept False s₀ s4 := h3.raisePg
  have hfull : Chip.TrailKept False s₀ (s4.bumpSat Reg.PROT.LR_STAT.LR_OVF) := h4.put (not_isTrailReport_above (by decide))
  have hqueued : Chip.TrailKept False s₀ { s4 with lost := s4.lost ++ [r] } := h4.hidden
  exact .ite hfull.raisePg hqueued.lostShow
theorem Chip.TrailKept.pair {α β : Type} {p : α × Chip} (h : Chip.TrailKept False s₀ p.2) {x : β} :
    Chip.TrailKept False s₀ ((x, p.2) : β × Chip).2 := h
theorem Chip.TrailKept.interruption (h : Chip.TrailKept False s₀ s) {n l} : Chip.TrailKept False s₀ (s.interruption n l).2 := by
  unfold Chip.interruption
  exact h.roundFree.pair
theorem Chip.TrailKept.account (h : Chip.TrailKept False s₀ s) {g n f} : Chip.TrailKept False s₀ (s.account g n f).2 := by
  unfold Chip.account
  extract_lets v gap cause s1 s2 s3
  have h1 : Chip.TrailKept False s₀ s1 := .ite h h.pgRange
  have h2 : Chip.TrailKept False s₀ s2 := by
    unfold s2
    split
    exacts [h1.interruption.setAbove, h1]
  have h3 : Chip.TrailKept False s₀ s3 := h2.addPairAbove.setAbove
  split
  · exact h.setAbove
  · dsimp only
    exact h3.modPg
theorem Chip.TrailKept.memberWord (h : Chip.TrailKept False s₀ s) {g w} : Chip.TrailKept False s₀ (s.memberWord g w) := h.modPg
theorem Chip.TrailKept.deskStore (h : Chip.TrailKept False s₀ s) {g p f} : Chip.TrailKept False s₀ (s.deskStore g p f) := by
  unfold Chip.deskStore
  exact h.modPg
theorem Chip.TrailKept.pgFrame (h : Chip.TrailKept False s₀ s) {c t g f} : Chip.TrailKept False s₀ (s.pgFrame c t g f) := by
  unfold Chip.pgFrame
  extract_lets k base side
  have hside : ∀ u p, Chip.TrailKept False s₀ u → Chip.TrailKept False s₀ (side u p) := fun u p hu => by
    have h1 : Chip.TrailKept False s₀ (if p then u.memberWord g (f.ctlOf k.base) else u) := .ite hu.memberWord hu
    exact .ite hu (.ite h1.deskStore (.ite h1.account h1))
  exact hside _ _ (hside _ _ h)
theorem Chip.TrailKept.selDeliver (h : Chip.TrailKept False s₀ s) {c t f} : Chip.TrailKept False s₀ (s.selDeliver c t f) := by
  dsimp only [Chip.selDeliver]
  split
  exacts [.ite h.demapFrame (.ite (.ite h.account.demapFrame h.account) (.ite h.demapFrame h)),
    h.demapFrame.foldl fun _ _ _ hu => hu.pgFrame]
theorem Chip.TrailKept.selLost (h : Chip.TrailKept False s₀ s) {c t first last} : Chip.TrailKept False s₀ (s.selLost c t first last) :=
  .ite h (h.foldl fun _ _ _ hu => .ite hu.setAbove.raiseAbove hu)
theorem Chip.TrailKept.modLenc (h : Chip.TrailKept False s₀ s) {c f} : Chip.TrailKept False s₀ (s.modLenc c f) := h.hidden
theorem Chip.TrailKept.toDecryptor (h : Chip.TrailKept False s₀ s) {c t f} (ht : t < 16) : Chip.TrailKept False s₀ (s.toDecryptor c t f) := by
  have hpage : ∀ n, 0x01710000 ≤ n → n ≤ 0x01710020 → ¬ IsTrailReport (c.base + n + 0x100 * t) := fun n hlo hhi =>
    not_isTrailReport_indexed c (by omega) (by omega)
  have h1 : ∀ {v}, Chip.TrailKept False s₀ (s.setFlag (Reg.LENC.RX_TRAIL_STAT.ENC_LAST c t) v) := h.put (hpage _ (by decide) (by decide))
  exact .ite h1.modLenc.modLenc (.ite (h1.modLenc.put (hpage _ (by decide) (by decide))).raiseOwn.selLost h1.modLenc.selDeliver)
end

/-! ## A frame delivered -/

theorem isTrailReport_frmRx (c : Carrier) (t : Fin 16) :
    IsTrailReport (Reg.FRM.FRM_RX_LO.addr c t.val) ∧ IsTrailReport (Reg.FRM.FRM_RX_LO.addr c t.val + 4) := by
  have hhi : Reg.FRM.FRM_RX_LO.addr c t.val + 4 = Reg.FRM.FRM_RX_HI.addr c t.val := by
    unfold Reg.FRM.FRM_RX_LO.addr Reg.FRM.FRM_RX_HI.addr
    omega
  rw [hhi]
  exact ⟨isTrailReport_page c t, isTrailReport_page c t⟩

theorem isTrailReport_rxFsn (c : Carrier) (t : Fin 16) : IsTrailReport (Reg.FRM.RX_FSN.addr c t.val) := isTrailReport_page c t

/-- The frame counter stands with the reports (R192). -/
theorem Chip.TrailKept.frmRx {l : Prop} {s u : Chip} (h : Chip.TrailKept l s u) (c : Carrier) (t : Fin 16) :
    u.getPair (Reg.FRM.FRM_RX_LO.addr c t.val) = s.getPair (Reg.FRM.FRM_RX_LO.addr c t.val) :=
  Chip.getPair_congr (h.rd _ (isTrailReport_frmRx c t).1) (h.rd _ (isTrailReport_frmRx c t).2)

/-- A frame counted and its number shown (R185, R192). -/
def Chip.frameShown (s : Chip) (c : Carrier) (t : Nat) (fsn : Nat) : Chip :=
  (s.addPair (Reg.FRM.FRM_RX_LO.addr c t) 1).setF (Reg.FRM.RX_FSN.FSN c t) fsn

theorem Chip.frm_addPair (s : Chip) (lo n : Nat) : (s.addPair lo n).frm = s.frm :=
  (Chip.wr_frm _ _ _).trans (Chip.wr_frm _ _ _)

theorem Chip.frameShown_spec (s : Chip) (c : Carrier) (t fsn : Nat) :
    (s.frameShown c t fsn).getPair (Reg.FRM.FRM_RX_LO.addr c t) = (s.getPair (Reg.FRM.FRM_RX_LO.addr c t) + 1) % 2 ^ 64 ∧
      (s.frameShown c t fsn).getF (Reg.FRM.RX_FSN.FSN c t) = fsn % 2 ^ 32 ∧ (s.frameShown c t fsn).frm = s.frm := by
  have hlo : Reg.FRM.FRM_RX_LO.addr c t ≠ (Reg.FRM.RX_FSN.FSN c t).addr := by
    unfold Reg.FRM.FRM_RX_LO.addr Reg.FRM.RX_FSN.FSN Reg.FRM.RX_FSN.addr
    dsimp only
    omega
  have hhi : Reg.FRM.FRM_RX_LO.addr c t + 4 ≠ (Reg.FRM.RX_FSN.FSN c t).addr := by
    unfold Reg.FRM.FRM_RX_LO.addr Reg.FRM.RX_FSN.FSN Reg.FRM.RX_FSN.addr
    dsimp only
    omega
  exact ⟨(Chip.getPair_congr (Chip.rd_setF_ne _ _ _ hlo) (Chip.rd_setF_ne _ _ _ hhi)).trans (Chip.getPair_setPair _ _ _),
    Chip.getF_setF_self _ _ _ (by show 0 + 32 ≤ 32; decide), (Chip.setF_frm _ _ _).trans (Chip.frm_addPair _ _ _)⟩

/-- A delivery is the count and the number shown; what comes before and what follows leaves every report (R179 to R186). -/
theorem Chip.deliverFrame_parts (s : Chip) (c : Carrier) {t : Nat} (ht : t < 16) (f : RxFrame) :
    ∃ u, Chip.TrailKept False s u ∧ Chip.TrailKept False (u.frameShown c t f.fsn) (s.deliverFrame c t f) := by
  unfold Chip.deliverFrame
  extract_lets s1 s2 s3 s4 bei s5 s6 mf i s7 s8 p s9
  have h2 : Chip.TrailKept False s s2 := ((Chip.TrailKept.refl s).rxBip.judgeUpTo ht).modFrm
  refine ⟨s2, h2, ?_⟩
  have h3 : Chip.TrailKept False (s2.frameShown c t f.fsn) s3 := (Chip.TrailKept.refl _).addTrailPair
  have h6 : Chip.TrailKept False (s2.frameShown c t f.fsn) s6 := h3.evc.evc.addTrailPair.addTrailPair.pmAddFe.rxTti
  have h7 : Chip.TrailKept False (s2.frameShown c t f.fsn) s7 := ((h6.rxPsi (by omega)).rxPsi (by omega)).rxAps
  have h8 : Chip.TrailKept False (s2.frameShown c t f.fsn) s8 := (h7.gccReceive (by decide)).gccReceive (by decide)
  have h9 : Chip.TrailKept False (s2.frameShown c t f.fsn) s9 := .ite h8.setPort h8
  exact h9.toDecryptor ht

theorem Chip.deliverFrame_spec (s : Chip) (c : Carrier) (t : Fin 16) (f : RxFrame) :
    let u := s.deliverFrame c t.val f
    u.getPair (Reg.FRM.FRM_RX_LO.addr c t.val) = (s.getPair (Reg.FRM.FRM_RX_LO.addr c t.val) + 1) % 2 ^ 64 ∧
      u.getF (Reg.FRM.RX_FSN.FSN c t.val) = f.fsn % 2 ^ 32 ∧ (u.frmOf c t.val).expected = (s.frmOf c t.val).expected := by
  obtain ⟨w, hbefore, hafter⟩ := s.deliverFrame_parts c t.isLt f
  obtain ⟨hcount, hfsn, hfrm⟩ := w.frameShown_spec c t.val f.fsn
  refine ⟨?_, (Chip.getF_congr (hafter.rd _ (isTrailReport_rxFsn c t))).trans hfsn, ?_⟩
  · rw [hafter.frmRx, hcount, hbefore.frmRx]
  · have hexpected : ((w.frameShown c t.val f.fsn).frmOf c t.val).expected = (w.frmOf c t.val).expected :=
      congrArg FrmSt.expected (Chip.frmOf_congr hfrm c t.val)
    exact ((congrArg FrmReport.expected (hafter.frm c t.val)).trans hexpected).trans (congrArg FrmReport.expected (hbefore.frm c t.val))

/-! ## A frame under FSN lock -/

/-- The number expected next (R185). -/
def Chip.expecting (s : Chip) (c : Carrier) (t n : Nat) : Chip :=
  s.modFrm c t fun w => { w with held := none, discards := 0, expected := some (n % 2 ^ 32) }

theorem Chip.TrailKept.frameDetectors {l : Prop} {s₀ s : Chip} (h : Chip.TrailKept l s₀ s) {c t f} :
    Chip.TrailKept l s₀ (s.frameDetectors c t f) := by
  unfold Chip.frameDetectors
  exact h.modFrm

section
variable {s : Chip} {c : Carrier} {t : Fin 16} {f : RxFrame}

theorem Chip.frameLocked_expected (hheld : (s.frmOf c t.val).held = none) (hfsn : f.fsn = (s.frmOf c t.val).expected.getD 0) :
    s.frameLocked c t.val f = (s.expecting c t.val (f.fsn + 1)).deliverFrame c t.val f := by
  unfold Chip.frameLocked
  dsimp only
  rw [hheld, ← hfsn]
  exact if_pos rfl

theorem Chip.frameLocked_other (hheld : (s.frmOf c t.val).held = none) (hfsn : f.fsn ≠ (s.frmOf c t.val).expected.getD 0) :
    s.frameLocked c t.val f = s.setFrm c t.val { s.frmOf c t.val with held := some f } := by
  unfold Chip.frameLocked
  dsimp only
  rw [hheld]
  exact if_neg hfsn

theorem doFrameRx_locked (hin : s.flag (Reg.FRM.ALIGN_STAT.IN_FRAME c t.val) = true) (hdelin : s.flag (Reg.FRM.ALIGN_STAT.DELIN c t.val) = true)
    (hlock : s.flag (Reg.FRM.ALIGN_STAT.FSN_LOCK c t.val) = true) :
    doFrameRx c t f s = ((s.frameDetectors c t.val f).frameLocked c t.val f).frmEnd c t := by
  have hgo : ¬ (!(s.flag (Reg.FRM.ALIGN_STAT.IN_FRAME c t.val) && s.flag (Reg.FRM.ALIGN_STAT.DELIN c t.val))) = true := by
    rw [hin, hdelin]
    decide
  have hlock' : (s.frameDetectors c t.val f).flag (Reg.FRM.ALIGN_STAT.FSN_LOCK c t.val) = true :=
    (Chip.flag_congr (Chip.rd_setFrm _ _ _ _ _)).trans hlock
  unfold doFrameRx
  dsimp only
  rw [if_neg hgo, if_pos hlock']

theorem doFrameRx_outside (hin : s.flag (Reg.FRM.ALIGN_STAT.IN_FRAME c t.val) = false) : doFrameRx c t f s = s := by
  refine if_pos ?_
  rw [hin]
  rfl

section
variable (hin : s.flag (Reg.FRM.ALIGN_STAT.IN_FRAME c t.val) = true) (hdelin : s.flag (Reg.FRM.ALIGN_STAT.DELIN c t.val) = true)
  (hlock : s.flag (Reg.FRM.ALIGN_STAT.FSN_LOCK c t.val) = true) (hheld : (s.frmOf c t.val).held = none)
include hin hdelin hlock hheld

/-- The expected frame is delivered (R185). -/
theorem doFrameRx_expected_spec (hfsn : (s.frmOf c t.val).expected = some f.fsn) :
    let u := doFrameRx c t f s
    u.getPair (Reg.FRM.FRM_RX_LO.addr c t.val) = (s.getPair (Reg.FRM.FRM_RX_LO.addr c t.val) + 1) % 2 ^ 64 ∧
      u.getF (Reg.FRM.RX_FSN.FSN c t.val) = f.fsn % 2 ^ 32 ∧ (u.frmOf c t.val).expected = some ((f.fsn + 1) % 2 ^ 32) := by
  have hdet : Chip.TrailKept False s (s.frameDetectors c t.val f) := (Chip.TrailKept.refl s).frameDetectors
  have hheld' := (congrArg FrmReport.held (hdet.frm c t.val)).trans hheld
  have hfsn' := (congrArg FrmReport.expected (hdet.frm c t.val)).trans hfsn
  rw [doFrameRx_locked hin hdelin hlock,
    Chip.frameLocked_expected hheld' (by rw [show ((s.frameDetectors c t.val f).frmOf c t.val).expected = _ from hfsn']; rfl)]
  generalize s.frameDetectors c t.val f = w at hdet
  have hend := (Chip.TrailKept.refl (l := False) ((w.expecting c t.val (f.fsn + 1)).deliverFrame c t.val f)).frmEnd (c := c) (t := t)
  obtain ⟨hcount, hshown, hexpected⟩ := (w.expecting c t.val (f.fsn + 1)).deliverFrame_spec c t f
  have hset : ((w.expecting c t.val (f.fsn + 1)).frmOf c t.val).expected = some ((f.fsn + 1) % 2 ^ 32) :=
    congrArg FrmSt.expected (w.frmOf_modFrm_self c t.val _)
  have hbefore : (w.expecting c t.val (f.fsn + 1)).getPair (Reg.FRM.FRM_RX_LO.addr c t.val) = s.getPair (Reg.FRM.FRM_RX_LO.addr c t.val) :=
    (Chip.getPair_congr (Chip.rd_setFrm _ _ _ _ _) (Chip.rd_setFrm _ _ _ _ _)).trans (hdet.frmRx c t)
  exact ⟨(hend.frmRx c t).trans (by rw [hcount, hbefore]), (Chip.getF_congr (hend.rd _ (isTrailReport_rxFsn c t))).trans hshown,
    ((congrArg FrmReport.expected (hend.frm c t.val)).trans hexpected).trans hset⟩

/-- Another frame is held back (R185). -/
theorem doFrameRx_other_spec (hfsn : (s.frmOf c t.val).expected.getD 0 ≠ f.fsn) :
    let u := doFrameRx c t f s
    (u.frmOf c t.val).held = some f ∧ u.getPair (Reg.FRM.FRM_RX_LO.addr c t.val) = s.getPair (Reg.FRM.FRM_RX_LO.addr c t.val) ∧
      LineFrame s u := by
  have hdet : Chip.TrailKept True s (s.frameDetectors c t.val f) := (Chip.TrailKept.refl s).frameDetectors
  have hheld' := (congrArg FrmReport.held (hdet.frm c t.val)).trans hheld
  have hexpected := congrArg FrmReport.expected (hdet.frm c t.val)
  rw [doFrameRx_locked hin hdelin hlock, Chip.frameLocked_other hheld' (by
    rw [show ((s.frameDetectors c t.val f).frmOf c t.val).expected = _ from hexpected]
    exact hfsn.symm)]
  generalize s.frameDetectors c t.val f = w at hdet
  generalize hv : ({ w.frmOf c t.val with held := some f } : FrmSt) = v
  have hset : ((w.setFrm c t.val v).frmOf c t.val).held = some f := by
    rw [Chip.frmOf_setFrm_self, ← hv]
  have hend := (Chip.TrailKept.refl (l := True) (w.setFrm c t.val v)).frmEnd (c := c) (t := t)
  refine ⟨(congrArg FrmReport.held (hend.frm c t.val)).trans hset, ?_, ?_⟩
  · exact ((hend.frmRx c t).trans (Chip.getPair_congr (Chip.rd_setFrm _ _ _ _ _) (Chip.rd_setFrm _ _ _ _ _))).trans (hdet.frmRx c t)
  · exact ((hdet.line trivial).1.trans (lineFrame_setFrm w c t.val v)).trans (hend.line trivial).1
end
end

end Sys2Proof.Machine
end

section
/-! SUPPORT. Defects after their time, bad seconds, and integrated failures (R187, R189). -/

namespace Sys2Proof.Machine

/-! ## Defects and bad seconds -/

/-- A change of what the detectors hold, before the judgements that end the step. -/
theorem Chip.setFrm_frmEnd_spec (s : Chip) (c : Carrier) (t : Fin 16) (v : FrmSt) :
    (((s.setFrm c t.val v).frmEnd c t).frmOf c t.val).report = v.report ∧ LineFrame s ((s.setFrm c t.val v).frmEnd c t) := by
  have hend := (Chip.TrailKept.refl (l := True) (s.setFrm c t.val v)).frmEnd (c := c) (t := t)
  refine ⟨(hend.frm c t.val).trans ?_, (lineFrame_setFrm s c t.val v).trans (hend.line trivial).1⟩
  rw [Chip.frmOf_setFrm_self]

section
variable {s : Chip} {c : Carrier} {t : Fin 16}

theorem doDefectTimer_lof : doDefectTimer c t false (!(s.flag (Reg.FRM.ALIGN_STAT.IN_FRAME c t.val))) s =
    (s.modFrm c t.val fun w => { w with lof := !(s.flag (Reg.FRM.ALIGN_STAT.IN_FRAME c t.val)) }).frmEnd c t := by
  unfold doDefectTimer
  dsimp only
  rw [if_neg Bool.false_ne_true, if_pos rfl]

theorem doDefectTimer_lom (hoom : s.flag (Reg.FRM.ALIGN_STAT.OOM c t.val) = true) :
    doDefectTimer c t true true s = (s.modFrm c t.val fun w => { w with lom := true }).frmEnd c t := by
  unfold doDefectTimer
  dsimp only
  rw [if_pos rfl, if_pos (by rw [hoom]; rfl)]

/-- The last bad second of DEG_M in a row (R187). -/
def FrmSt.degraded (v : FrmSt) (sec m : Nat) : FrmSt :=
  { v with
    degErr := v.degErr.filter fun p => decide (sec < p.1), outFrame := v.outFrame.prune sec
    degBad := min m (v.degBad + 1), degGood := 0, deg := v.deg || decide (m ≤ v.degBad + 1) }

theorem doDegSecond_bad {sec : Nat}
    (hbad : max 1 (s.getF (Reg.FRM.DEG_THR.THR c t.val)) ≤ Store.get (fun _ => 0) (s.frmOf c t.val).degErr sec) :
    doDegSecond c t sec s = (s.setFrm c t.val ((s.frmOf c t.val).degraded sec (s.degM c t.val))).frmEnd c t := by
  unfold doDegSecond
  dsimp only
  rw [if_pos (decide_eq_true hbad)]
  rfl

/-! ## Integrated failures -/

/-- A change of FAIL with its event (R189, R194). -/
def Chip.failNoted (s : Chip) (c : Carrier) (t v : Nat) : Chip := (s.setF (Reg.FRM.FAIL.FAIL c t) v).raiseFrm c t Ev.FRM.FAIL_CHANGE

theorem doFailSet_present {bit : Fin 11} (hdef : s.bitOf (Reg.FRM.DEF_STAT.STAT c t.val) bit.val = true)
    (hfail : s.bitOf (Reg.FRM.FAIL.FAIL c t.val) bit.val = false) :
    doFailSet c t bit s = s.failNoted c t.val (s.getF (Reg.FRM.FAIL.FAIL c t.val) ||| 2 ^ bit.val) := if_pos (by rw [hdef, hfail]; rfl)

theorem doFailClear_absent {bit : Fin 11} (hdef : s.bitOf (Reg.FRM.DEF_STAT.STAT c t.val) bit.val = false)
    (hfail : s.bitOf (Reg.FRM.FAIL.FAIL c t.val) bit.val = true) :
    doFailClear c t bit s = s.failNoted c t.val
      (s.getF (Reg.FRM.FAIL.FAIL c t.val) - (s.getF (Reg.FRM.FAIL.FAIL c t.val) &&& 2 ^ bit.val)) := if_pos (by rw [hdef, hfail]; rfl)

/-- A trail's page stands when its events are raised. -/
theorem Chip.rd_raiseFrm_page (s : Chip) {c : Carrier} {n t bit src : Nat} {e : Carrier → Ev} (he : e c = ⟨Ev.FRM.base c, bit, src⟩)
    (hn : 0x01410000 ≤ n) : (s.raiseFrm c t e).rd (c.base + n + 0x1000 * t) = s.rd (c.base + n + 0x1000 * t) := by
  have htrail : c.base + n + 0x1000 * t ≠ (Reg.FRM.EVT_TRAIL.TRAIL c).addr := by
    dsimp only [Reg.FRM.EVT_TRAIL.TRAIL, Reg.FRM.EVT_TRAIL.addr]
    omega
  have hstat : c.base + n + 0x1000 * t ≠ Ev.FRM.base c + 0xF0 := by
    dsimp only [Ev.FRM.base]
    omega
  unfold Chip.raiseFrm
  rw [he, Chip.setBit, Chip.rd_setF_ne _ _ _ htrail, Chip.rd_raise, if_neg fun hc => hstat hc.2]

theorem Chip.failNoted_spec (s : Chip) (c : Carrier) (t : Fin 16) (v : Nat) :
    let u := s.failNoted c t.val v
    u.getF (Reg.FRM.FAIL.FAIL c t.val) = (s.setF (Reg.FRM.FAIL.FAIL c t.val) v).getF (Reg.FRM.FAIL.FAIL c t.val) ∧
      Recorded (Ev.FRM.FAIL_CHANGE c) s u ∧ u.bitOf (Reg.FRM.EVT_TRAIL.TRAIL c) t.val = true ∧
      Kept [Reg.FRM.FAIL.FAIL c t.val, Reg.FRM.EVT_TRAIL.TRAIL c, evtBit (Ev.FRM.FAIL_CHANGE c)] s u ∧ Quiet s u := by
  have hbit : (Ev.FRM.FAIL_CHANGE c).bit < 32 := by cases c <;> decide
  have hset := keptBut_setF s (Reg.FRM.FAIL.FAIL c t.val) v
  have hraise := keptBut_raise (s.setF (Reg.FRM.FAIL.FAIL c t.val) v) (Ev.FRM.FAIL_CHANGE c) hbit
  refine ⟨Chip.getF_congr (Chip.rd_raiseFrm_page _ rfl (by decide)), ?_, Chip.bitOf_setBit_self _ _ (by show 0 + 16 ≤ 32; decide) t.isLt, ?_, ?_⟩
  · exact .of_sticky s.rd_frmSticky_setTrail (recorded_raiseFrm _ c t.val)
  · exact ((hset.mono (by simp) (by simp)).trans (hraise.mono (by simp) (by simp))).trans ((keptBut_setF _ _ _).mono (by simp) (by simp))
  · exact ((quiet_setF _ _ _).raise).setF
end

end Sys2Proof.Machine
end

section
/-! SUPPORT. The registers and records of a trail's performance monitor: what closing, committing and starting leave of them (R198, R202 to R215). One
law per operation, over a list of registers of the trail's pages that stay as they are. -/

namespace Sys2Proof.Machine

/-! ## The pages of a trail -/

/-- A register of trail t's pages of PMON that is none of a list. -/
def PmReg (keep : List Nat) (c : Carrier) (t : Fin 16) (b : Nat) : Prop :=
  ∃ n, b = c.base + n + 0x1000 * t.val ∧ 0x01510000 ≤ n ∧ n < 0x015F1000 ∧ n ∉ keep

/-- All of a number of bytes from an address on lie in such registers. -/
def PmSpan (keep : List Nat) (c : Carrier) (t : Fin 16) (a len : Nat) : Prop := ∀ k < len, PmReg keep c t (a + k)

/-- What a trail's monitor has started with and which closed seconds wait for their commit. -/
def PmSt.waiting (v : PmSt) : Option Nat × List PmSec := (v.started, v.closed)

/-- From one chip to the next only PMON changes: the registers of a list stand, and so do the seconds that wait for their commit. -/
structure Chip.PmKept (keep : List Nat) (c : Carrier) (t : Fin 16) (s u : Chip) : Prop where
  rd : ∀ m ∈ keep, 0x01510000 ≤ m → u.rd (c.base + m + 0x1000 * t.val) = s.rd (c.base + m + 0x1000 * t.val)
  kept : KeptBut [0x15, 0x1D] [] s u
  elsewhere : Elsewhere s u
  waiting : (u.pmOf c t.val).waiting = (s.pmOf c t.val).waiting

theorem pmon_block (c : Carrier) {n : Nat} (hn : 0x01500000 ≤ n ∧ n < 0x01600000) : (c.base + n) / 0x100000 ∈ [0x15, 0x1D] := by
  have hblock : (c.base + n) / 0x100000 = 0x15 ∨ (c.base + n) / 0x100000 = 0x1D := by
    cases c
    · exact .inl (by show (0 + n) / 0x100000 = 0x15; omega)
    · exact .inr (by show (0x800000 + n) / 0x100000 = 0x1D; omega)
  simpa using hblock

section
variable {keep : List Nat} {c : Carrier} {t : Fin 16}

theorem PmReg.block {b : Nat} (h : PmReg keep c t b) : b / 0x100000 ∈ [0x15, 0x1D] := by
  obtain ⟨n, rfl, hlo, hhi, -⟩ := h
  have ht := t.isLt
  rw [Nat.add_assoc]
  exact pmon_block c (by omega)

theorem pmReg_page {n : Nat} (hn : 0x01510000 ≤ n ∧ n < 0x015F1000 := by decide) (hk : n ∉ keep) : PmReg keep c t (c.base + n + 0x1000 * t.val) :=
  ⟨n, rfl, hn.1, hn.2, hk⟩

theorem pmSpan_page {n len : Nat} (hlo : 0x01510000 ≤ n) (hhi : n + len ≤ 0x015F1000) (hk : ∀ m ∈ keep, m < n ∨ n + len ≤ m) :
    PmSpan keep c t (c.base + n + 0x1000 * t.val) len := by
  intro k hlen
  refine ⟨n + k, by omega, by omega, by omega, fun hm => ?_⟩
  have := hk _ hm
  omega

theorem PmSpan.sub {a len : Nat} (h : PmSpan keep c t a len) (off : Nat) {len' : Nat} (hlen : off + len' ≤ len) : PmSpan keep c t (a + off) len' := by
  intro k hk
  rw [Nat.add_assoc]
  exact h _ (by omega)

theorem PmSpan.first {a len : Nat} (h : PmSpan keep c t a len) (hlen : 0 < len) : PmReg keep c t a := h 0 hlen

end

/-! ## The steps of every law -/

theorem Chip.pmOf_setPm_self (s : Chip) (c : Carrier) (t : Nat) (v : PmSt) : (s.setPm c t v).pmOf c t = v :=
  (Tab.get_put _ _ _ _ _).trans (if_pos rfl)

theorem Chip.pmOf_congr {s u : Chip} (h : u.pm = s.pm) (c : Carrier) (t : Nat) : u.pmOf c t = s.pmOf c t := by
  rw [Chip.pmOf, h, Chip.pmOf]

section
variable {keep : List Nat} {c : Carrier} {t : Fin 16} {s₀ s : Chip}

theorem Chip.PmKept.refl (s : Chip) : Chip.PmKept keep c t s s := ⟨fun _ _ _ => rfl, .refl _ _ _, .refl s, rfl⟩

theorem Chip.PmKept.wr (h : Chip.PmKept keep c t s₀ s) {b w} (hb : PmReg keep c t b) : Chip.PmKept keep c t s₀ (s.wr b w) := by
  have hblock : b / 0x100000 ∈ [0x15, 0x1D] := hb.block
  refine ⟨fun m hm hlo => ?_, ⟨fun g hg hb' ha => ?_, h.kept.2⟩, h.elsewhere, ?_⟩
  · obtain ⟨n, rfl, -, -, hn⟩ := hb
    have hne : c.base + m + 0x1000 * t.val ≠ c.base + n + 0x1000 * t.val := fun he => hn (by rwa [show n = m by omega])
    exact (Chip.rd_wr_ne s w hne).trans (h.rd m hm hlo)
  · have hne : g.addr ≠ b := fun he => hb' (he ▸ hblock)
    exact (Chip.getF_congr (Chip.rd_wr_ne s w hne)).trans (h.kept.1 g hg hb' ha)
  · rw [Chip.pmOf_congr (s.wr_pm b w)]
    exact h.waiting

theorem Chip.PmKept.setF (h : Chip.PmKept keep c t s₀ s) {f v} (hf : PmReg keep c t f.addr) : Chip.PmKept keep c t s₀ (s.setF f v) := h.wr hf
theorem Chip.PmKept.setPair (h : Chip.PmKept keep c t s₀ s) {a v} (ha : PmSpan keep c t a 8) : Chip.PmKept keep c t s₀ (s.setPair a v) :=
  (h.wr (ha.first (by decide))).wr (ha 4 (by decide))

theorem Chip.PmKept.ite {p : Prop} {_ : Decidable p} {u : Chip} (h : Chip.PmKept keep c t s₀ s) (h' : Chip.PmKept keep c t s₀ u) :
    Chip.PmKept keep c t s₀ (if p then s else u) := by
  split <;> assumption

theorem Chip.PmKept.foldl {α : Type} {f : Chip → α → Chip} {xs : List α} (h : Chip.PmKept keep c t s₀ s)
    (hf : ∀ u, ∀ x ∈ xs, Chip.PmKept keep c t s₀ u → Chip.PmKept keep c t s₀ (f u x)) : Chip.PmKept keep c t s₀ (xs.foldl f s) := by
  induction xs generalizing s with
  | nil => exact h
  | cons x xs ih => exact ih (hf s x (by simp) h) fun u y hy => hf u y (by simp [hy])

/-- An update of the monitor that leaves the seconds that wait. -/
theorem Chip.PmKept.setPm (h : Chip.PmKept keep c t s₀ s) {v} (hv : v.waiting = (s.pmOf c t.val).waiting := by rfl) :
    Chip.PmKept keep c t s₀ (s.setPm c t.val v) := by
  refine ⟨h.rd, ⟨h.kept.1, h.kept.2⟩, h.elsewhere, ?_⟩
  rw [Chip.pmOf_setPm_self, hv]
  exact h.waiting

theorem Chip.PmKept.raisePm (h : Chip.PmKept keep c t s₀ s) {bit src : Nat} {e : Carrier → Ev} (he : e c = ⟨Ev.PMON.base c, bit, src⟩ := by rfl) :
    Chip.PmKept keep c t s₀ (s.raisePm c t.val e) := by
  have hstat : (Ev.PMON.base c + 0xF0) / 0x100000 ∈ [0x15, 0x1D] := by
    unfold Ev.PMON.base
    rw [Nat.add_assoc]
    exact pmon_block c (by decide)
  unfold Chip.raisePm
  rw [he]
  refine ⟨fun m hm hlo => ?_, (h.kept.raise hstat).setF (pmon_block c (n := 0x01500010) (by decide)),
    (h.elsewhere.trans (quiet_raise s _).elsewhere).setF, ?_⟩
  · have htrail : c.base + m + 0x1000 * t.val ≠ (Reg.PMON.EVT_TRAIL.TRAIL c).addr := by
      dsimp only [Reg.PMON.EVT_TRAIL.TRAIL, Reg.PMON.EVT_TRAIL.addr]
      omega
    have hne : c.base + m + 0x1000 * t.val ≠ Ev.PMON.base c + 0xF0 := by
      dsimp only [Ev.PMON.base]
      omega
    rw [Chip.setBit, Chip.rd_setF_ne _ _ _ htrail, Chip.rd_raise, if_neg fun hc => hne hc.2]
    exact h.rd m hm hlo
  · have hpm : (s.raise ⟨Ev.PMON.base c, bit, src⟩).pm = s.pm := by rw [quiet_raise s _]
    rw [Chip.setBit, Chip.pmOf_congr ((Chip.setF_pm _ _ _).trans hpm)]
    exact h.waiting

/-! ## Records -/

theorem Chip.PmKept.addReg (h : Chip.PmKept keep c t s₀ s) {a n} (ha : PmReg keep c t a) : Chip.PmKept keep c t s₀ (s.addReg a n) := h.wr ha
theorem Chip.PmKept.copyWords (h : Chip.PmKept keep c t s₀ s) {src dst n} (hd : PmSpan keep c t dst (4 * n)) :
    Chip.PmKept keep c t s₀ (s.copyWords src dst n) :=
  h.foldl fun _ i hi hu => hu.wr (hd _ (by
    have := List.mem_range.mp hi
    omega))
theorem Chip.PmKept.openRec (h : Chip.PmKept keep c t s₀ s) {a n start off flags} (ha : PmSpan keep c t a (4 * n)) (hn : 2 ≤ n) (hoff : off < 4 * n) :
    Chip.PmKept keep c t s₀ (s.openRec a n start off flags) := by
  have hempty : Chip.PmKept keep c t s₀ ((List.range n).foldl (fun u i => u.wr (a + 4 * i) 0) s) := h.foldl fun _ i hi hu => hu.wr (ha _ (by
    have := List.mem_range.mp hi
    omega))
  exact (hempty.setPair (ha.sub 0 (by omega))).wr (ha off hoff)
theorem Chip.PmKept.addNative (h : Chip.PmKept keep c t s₀ s) {a k flags} (ha : PmSpan keep c t a 64) :
    Chip.PmKept keep c t s₀ (s.addNative a k flags) := by
  unfold Chip.addNative
  extract_lets g s1 s2 s3
  have h1 : Chip.PmKept keep c t s₀ s1 := ((h.addReg (ha _ (by decide))).wr (ha _ (by decide))).addReg (ha _ (by decide))
  have h2 : Chip.PmKept keep c t s₀ s2 :=
    (((h1.addReg (ha _ (by decide))).addReg (ha _ (by decide))).addReg (ha _ (by decide))).setPair (ha.sub _ (by decide))
  have h3 : Chip.PmKept keep c t s₀ s3 := ((h2.addReg (ha _ (by decide))).addReg (ha _ (by decide))).addReg (ha _ (by decide))
  exact (h3.addReg (ha _ (by decide))).setPair (ha.sub _ (by decide))
theorem Chip.PmKept.addBbe (h : Chip.PmKept keep c t s₀ s) {a off n} (ha : PmSpan keep c t a 48) (hoff : off < 48) :
    Chip.PmKept keep c t s₀ (s.addBbe a off n) := .ite (h.wr (ha off hoff)) ((h.wr (ha off hoff)).wr (ha 8 (by decide)))
theorem Chip.PmKept.addCompat (h : Chip.PmKept keep c t s₀ s) {a k flags} (ha : PmSpan keep c t a 48) :
    Chip.PmKept keep c t s₀ (s.addCompat a k flags) := by
  unfold Chip.addCompat
  extract_lets g s1 s2
  have h1 : Chip.PmKept keep c t s₀ s1 := ((h.wr (ha _ (by decide))).addReg (ha _ (by decide))).addReg (ha _ (by decide))
  have h2 : Chip.PmKept keep c t s₀ s2 := ((h1.addBbe ha (by decide)).addReg (ha _ (by decide))).addReg (ha _ (by decide))
  exact ((h2.addReg (ha _ (by decide))).addBbe ha (by decide)).addReg (ha _ (by decide))
theorem Chip.PmKept.clearNative (h : Chip.PmKept keep c t s₀ s) {a} (ha : PmSpan keep c t a 64) : Chip.PmKept keep c t s₀ (s.clearNative a) := by
  have hcounts : ∀ o ∈ (List.range 12).map fun i => 0x10 + 4 * i, o < 64 := by decide
  have hzero : Chip.PmKept keep c t s₀ (((List.range 12).map fun i => 0x10 + 4 * i).foldl (fun u o => u.wr (a + o) 0) (s.wr (a + 0x08) 0)) :=
    (h.wr (ha _ (by decide))).foldl fun _ o ho hu => hu.wr (ha o (hcounts o ho))
  exact hzero.wr (ha _ (by decide))
end

end Sys2Proof.Machine
end

section
/-! SUPPORT. A second of a trail's performance monitor: closed, committed, cleared, and the first one (R198, R200 to R211). -/

namespace Sys2Proof.Machine

/-! ## What a commit writes -/

section
variable {keep : List Nat} {c : Carrier} {t : Fin 16} {s₀ s : Chip}

theorem Chip.PmKept.pmAvail (h : Chip.PmKept keep c t s₀ s) (hstat : 0x01510014 ∉ keep) {ne fe} :
    Chip.PmKept keep c t s₀ (s.pmAvail c t.val ne fe) := by
  unfold Chip.pmAvail
  extract_lets ne0 fe0 s1 bidir enter exit s2
  have hreg : PmReg keep c t (Reg.PMON.PM_STAT.addr c t.val) := pmReg_page (hk := hstat)
  have h1 : Chip.PmKept keep c t s₀ s1 := ((h.setF hreg).setF hreg).setF hreg
  have h2 : Chip.PmKept keep c t s₀ s2 := .ite h1.raisePm h1
  exact .ite h2.raisePm h2
theorem Chip.PmKept.pmThresholds (h : Chip.PmKept keep c t s₀ s) (hstat : 0x01510060 ∉ keep) (hcmp : PmSpan keep c t (pmCmp c t.val) 0x1000) :
    Chip.PmKept keep c t s₀ (s.pmThresholds c t.val) := by
  unfold Chip.pmThresholds
  extract_lets v cur cmp word n q d s1 s2 s3
  have h3 : Chip.PmKept keep c t s₀ s3 := (h.setPm.setF (pmReg_page (hk := hstat))).wr (hcmp 0x80 (by decide))
  exact .ite h3 h3.raisePm
theorem Chip.PmKept.finaliseNative (h : Chip.PmKept keep c t s₀ s) (hseq : 0x0151001C ∉ keep) (hcur : PmSpan keep c t (pmCur c t.val) 0x440)
    {start} : Chip.PmKept keep c t s₀ (s.finaliseNative c t.val start) := by
  unfold Chip.finaliseNative
  extract_lets cur s1 s2
  have hrecords : ∀ k ∈ (List.range 15).map fun k => 15 - k, k ≤ 15 := by decide
  have h1 : Chip.PmKept keep c t s₀ s1 := h.foldl fun _ k hk hu => hu.copyWords ((hcur.sub 0x40 (len' := 0x400) (by decide)).sub (0x40 * k) (by
    have := hrecords k hk
    omega))
  have h2 : Chip.PmKept keep c t s₀ s2 := (h1.copyWords (hcur.sub _ (by decide))).openRec (hcur.sub 0 (by decide)) (by decide) (by decide)
  exact (h2.setPm.setF (pmReg_page (hk := hseq))).raisePm
theorem pmReg_cmpSeq (hcmp : PmSpan keep c t (pmCmp c t.val) 0x1000) : PmReg keep c t (Reg.PMON.CMP_SEQ.addr c t.val) := by
  have haddr : Reg.PMON.CMP_SEQ.addr c t.val = pmCmp c t.val + 4 := by
    unfold Reg.PMON.CMP_SEQ.addr pmCmp
    omega
  rw [haddr]
  exact hcmp 4 (by decide)
theorem Chip.PmKept.finalise15 (h : Chip.PmKept keep c t s₀ s) (hcmp : PmSpan keep c t (pmCmp c t.val) 0x1000) {start} :
    Chip.PmKept keep c t s₀ (s.finalise15 c t.val start) := by
  unfold Chip.finalise15
  extract_lets a hist s1 s2
  have hrecords : ∀ k ∈ (List.range 31).map fun k => 32 - k, k ≤ 32 := by decide
  have h1 : Chip.PmKept keep c t s₀ s1 := h.foldl fun _ k hk hu => hu.copyWords ((hcmp.sub 0x160 (len' := 0x600) (by decide)).sub (0x30 * (k - 1)) (by
    have := hrecords k hk
    omega))
  have hfirst : Chip.PmKept keep c t s₀ (s1.copyWords (a + 0x130) (hist 1) 12) := h1.copyWords (hcmp.sub 0x160 (by decide))
  have h2 : Chip.PmKept keep c t s₀ s2 := (hfirst.copyWords (hcmp.sub 0x130 (by decide))).openRec (hcmp.sub 0x100 (by decide)) (by decide) (by decide)
  exact (h2.setPm.setF (pmReg_cmpSeq hcmp)).raisePm
theorem Chip.PmKept.finalise24 (h : Chip.PmKept keep c t s₀ s) (hcmp : PmSpan keep c t (pmCmp c t.val) 0x1000) {start} :
    Chip.PmKept keep c t s₀ (s.finalise24 c t.val start) := by
  unfold Chip.finalise24
  extract_lets a s2
  have h2 : Chip.PmKept keep c t s₀ s2 := (h.copyWords (hcmp.sub 0x830 (by decide))).openRec (hcmp.sub 0x800 (by decide)) (by decide) (by decide)
  exact (h2.setPm.setF (pmReg_cmpSeq hcmp)).raisePm
end

/-! ## A committed second -/

theorem pmCur_add (c : Carrier) (t off : Nat) : pmCur c t + off = c.base + (0x01510100 + off) + 0x1000 * t := by
  unfold pmCur
  omega

/-- The near end's errored and severely errored seconds and FROZEN of a native record after a second is added (R214). -/
theorem Chip.rd_addNative (s : Chip) (a : Nat) (k : List Nat) (flags : Nat) :
    (s.addNative a k flags).rd (a + 0x10) = BitVec.ofNat 32 ((s.rd (a + 0x10)).toNat + k.getD 0 0) ∧
      (s.addNative a k flags).rd (a + 0x14) = BitVec.ofNat 32 ((s.rd (a + 0x14)).toNat + k.getD 1 0) ∧
      (s.addNative a k flags).rd (a + 0x1C) = BitVec.ofNat 32 ((s.rd (a + 0x1C)).toNat + k.getD 8 0) := by
  simp [Chip.addNative, Chip.addReg, Chip.addPair, Chip.setPair, Nat.add_assoc]

theorem PmSec.adds_frozen {r : PmSec} (h : r.frozen = true) (p : Nat) (ne fe bidir : Bool) : r.adds p ne fe bidir = [0, 0, 0, 0, 0, 0, 0, 0, 1, 0] :=
  if_pos h

/-- COMMIT_SEQ stands until the commit takes its number (R208). -/
def commitKept : List Nat := [0x01510018]

/-- So do the near end's errored seconds and FROZEN, once the second is added. -/
def frozenKept : List Nat := [0x01510018, 0x01510110, 0x01510114, 0x0151011C]

theorem pmSpan_cur (c : Carrier) (t : Fin 16) : PmSpan commitKept c t (pmCur c t.val) 0x440 :=
  pmSpan_page (n := 0x01510100) (by decide) (by decide) (by decide)

theorem pmSpan_cmp {keep : List Nat} (hkeep : ∀ m ∈ keep, m < 0x01580000) (c : Carrier) (t : Fin 16) : PmSpan keep c t (pmCmp c t.val) 0x1000 :=
  pmSpan_page (n := 0x01580000) (by decide) (by decide) fun m hm => .inl (hkeep m hm)

theorem Chip.rd_setPm (s : Chip) (c : Carrier) (t : Nat) (v : PmSt) (b : Nat) : (s.setPm c t v).rd b = s.rd b := rfl

theorem keptBut_setPm (bs : List Nat) (s : Chip) (c : Carrier) (t : Nat) (v : PmSt) : KeptBut bs [] s (s.setPm c t v) :=
  ⟨fun _ _ _ _ => Chip.getF_congr (s.rd_setPm c t v _), rfl⟩

theorem elsewhere_setPm (s : Chip) (c : Carrier) (t : Nat) (v : PmSt) : Elsewhere s (s.setPm c t v) := Elsewhere.refl s

/-- The oldest closed second leaves the queue; a pending CLEAR is served first (R208). -/
def Chip.secondTaken (s : Chip) (c : Carrier) (t : Nat) (rest : List PmSec) : Chip :=
  let s1 := s.setPm c t { s.pmOf c t with closed := rest, clearPend := false }
  if (s.pmOf c t).clearPend then s1.clearNative (pmCur c t) else s1

/-- The second's counts in the compatibility records, the availability and the thresholds (R202, R211, R215). -/
def Chip.secondJudged (s : Chip) (c : Carrier) (t : Nat) (k : List Nat) (flags : Nat) (ne fe : Bool) : Chip :=
  (((s.addCompat (pmCmp c t + 0x100) k flags).addCompat (pmCmp c t + 0x800) k flags).pmAvail c t ne fe).pmThresholds c t

/-- The native bin finalised where the second ends it (R208). -/
def Chip.nativeEnds (s : Chip) (c : Carrier) (t : Nat) (r : PmSec) : Chip :=
  match r.end_ with
  | some b => s.finaliseNative c t b
  | none => s

/-- The compatibility bins finalised where the second ends them (R209). -/
def Chip.compatEnds (s : Chip) (c : Carrier) (t : Nat) (r : PmSec) : Chip :=
  let s1 := match r.end15 with
    | some b => s.finalise15 c t b
    | none => s
  match r.end24 with
  | some b => s1.finalise24 c t b
  | none => s1

section
variable {keep : List Nat} {c : Carrier} {t : Fin 16} {s₀ s : Chip}

theorem Chip.PmKept.secondJudged (h : Chip.PmKept keep c t s₀ s) (hstat : 0x01510014 ∉ keep ∧ 0x01510060 ∉ keep)
    (hcmp : PmSpan keep c t (pmCmp c t.val) 0x1000) {k flags ne fe} : Chip.PmKept keep c t s₀ (s.secondJudged c t.val k flags ne fe) :=
  (((h.addCompat (hcmp.sub 0x100 (by decide))).addCompat (hcmp.sub 0x800 (by decide))).pmAvail hstat.1).pmThresholds hstat.2 hcmp
theorem Chip.PmKept.nativeEnds (h : Chip.PmKept keep c t s₀ s) (hseq : 0x0151001C ∉ keep) (hcur : PmSpan keep c t (pmCur c t.val) 0x440) {r} :
    Chip.PmKept keep c t s₀ (s.nativeEnds c t.val r) := by
  unfold Chip.nativeEnds
  split
  exacts [h.finaliseNative hseq hcur, h]
theorem Chip.PmKept.compatEnds (h : Chip.PmKept keep c t s₀ s) (hcmp : PmSpan keep c t (pmCmp c t.val) 0x1000) {r} :
    Chip.PmKept keep c t s₀ (s.compatEnds c t.val r) := by
  unfold Chip.compatEnds
  extract_lets s1
  have h1 : Chip.PmKept keep c t s₀ s1 := by
    unfold s1
    split
    exacts [h.finalise15 hcmp, h]
  split
  exacts [h1.finalise24 hcmp, h1]
end

section
variable {s : Chip} {c : Carrier} {t : Fin 16} {r : PmSec} {rest : List PmSec}

/-- A commit: the second taken, added, judged, the bins it ends, and last the commit's number and what remains (R208). -/
theorem doSecondCommit_eq (hclosed : (s.pmOf c t.val).closed = r :: rest) :
    ∃ (k : List Nat) (native flags : Nat) (ne fe : Bool), (r.frozen = true → k = [0, 0, 0, 0, 0, 0, 0, 0, 1, 0]) ∧
      doSecondCommit c t s =
        ((((((s.secondTaken c t.val rest).addNative (pmCur c t.val) k native).secondJudged c t.val k flags ne fe).nativeEnds c t.val r).compatEnds
          c t.val r).bump (Reg.PMON.COMMIT_SEQ.SEQ c t.val)).setF (Reg.PMON.PM_STAT.PEND c t.val) (min 10 rest.length) := by
  unfold doSecondCommit
  dsimp only
  rw [hclosed]
  exact ⟨_, _, _, _, _, fun h => PmSec.adds_frozen h _ _ _ _, rfl⟩

/-- Before its number is set a commit leaves it, and works on the seconds that remain. -/
theorem Chip.secondTaken_kept (s : Chip) (c : Carrier) (t : Fin 16) (rest : List PmSec) :
    Chip.PmKept commitKept c t (s.setPm c t.val { s.pmOf c t.val with closed := rest, clearPend := false }) (s.secondTaken c t.val rest) :=
  .ite ((Chip.PmKept.refl _).clearNative ((pmSpan_cur c t).sub 0 (by decide))) (.refl _)

/-- A frozen second that ends no native bin adds to FROZEN and to no count of errors (R204). -/
theorem Chip.frozen_commit_spec (s : Chip) (c : Carrier) (t : Fin 16) (native flags : Nat) (ne fe : Bool) :
    let k := [0, 0, 0, 0, 0, 0, 0, 0, 1, 0]
    let w := ((s.addNative (pmCur c t.val) k native).secondJudged c t.val k flags ne fe).compatEnds c t.val r
    w.rd (pmCur c t.val + 0x10) = s.rd (pmCur c t.val + 0x10) ∧ w.rd (pmCur c t.val + 0x14) = s.rd (pmCur c t.val + 0x14) ∧
      w.rd (pmCur c t.val + 0x1C) = BitVec.ofNat 32 ((s.rd (pmCur c t.val + 0x1C)).toNat + 1) := by
  intro k w
  have hcmp : PmSpan frozenKept c t (pmCmp c t.val) 0x1000 := pmSpan_cmp (by decide) c t
  have hkept : Chip.PmKept frozenKept c t (s.addNative (pmCur c t.val) k native) w :=
    ((Chip.PmKept.refl _).secondJudged (by decide) hcmp).compatEnds hcmp
  have hrd : ∀ off, 0x01510100 + off ∈ frozenKept → w.rd (pmCur c t.val + off) = (s.addNative (pmCur c t.val) k native).rd (pmCur c t.val + off) := by
    intro off hoff
    rw [pmCur_add]
    exact hkept.rd _ hoff (by omega)
  obtain ⟨hes, hses, hfrozen⟩ := s.rd_addNative (pmCur c t.val) k native
  have hnone : ∀ x : Word, BitVec.ofNat 32 (x.toNat + 0) = x := fun x => by simp
  exact ⟨(hrd 0x10 (by decide)).trans (hes.trans (hnone _)), (hrd 0x14 (by decide)).trans (hses.trans (hnone _)),
    (hrd 0x1C (by decide)).trans hfrozen⟩

/-- The number and the count that a commit sets last (R208). -/
theorem Chip.commitShown_spec (s : Chip) (c : Carrier) (t n : Nat) :
    let u := (s.bump (Reg.PMON.COMMIT_SEQ.SEQ c t)).setF (Reg.PMON.PM_STAT.PEND c t) (min 10 n)
    u.getF (Reg.PMON.COMMIT_SEQ.SEQ c t) = (s.getF (Reg.PMON.COMMIT_SEQ.SEQ c t) + 1) % 2 ^ (Reg.PMON.COMMIT_SEQ.SEQ c t).width ∧
      u.getF (Reg.PMON.PM_STAT.PEND c t) = min 10 n ∧
      (∀ m, m ≠ 0x01510014 → m ≠ 0x01510018 → u.rd (c.base + m + 0x1000 * t) = s.rd (c.base + m + 0x1000 * t)) := by
  refine ⟨?_, ?_, fun m hpend hseq => (Chip.rd_setTrail_ne _ hpend).trans (Chip.rd_setTrail_ne _ hseq)⟩
  · exact (Chip.getF_congr (Chip.rd_setTrail_ne _)).trans (Chip.getF_setF_self _ _ _ (by show 0 + 32 ≤ 32; decide))
  · refine (Chip.getF_setF_self _ _ _ (by show 0 + 4 ≤ 32; decide)).trans (Nat.mod_eq_of_lt ?_)
    show min 10 n < 2 ^ 4
    omega

theorem doSecondCommit_spec (hclosed : (s.pmOf c t.val).closed = r :: rest) :
    let u := doSecondCommit c t s
    (u.pmOf c t.val).closed = rest ∧
      u.getF (Reg.PMON.COMMIT_SEQ.SEQ c t.val) = (s.getF (Reg.PMON.COMMIT_SEQ.SEQ c t.val) + 1) % 2 ^ (Reg.PMON.COMMIT_SEQ.SEQ c t.val).width ∧
      u.getF (Reg.PMON.PM_STAT.PEND c t.val) = min 10 rest.length ∧
      (r.frozen = true → r.end_ = none → (s.pmOf c t.val).clearPend = false →
        (u.rd (pmCur c t.val + 0x1C)).toNat = ((s.rd (pmCur c t.val + 0x1C)).toNat + 1) % 2 ^ 32 ∧
        u.rd (pmCur c t.val + 0x10) = s.rd (pmCur c t.val + 0x10) ∧ u.rd (pmCur c t.val + 0x14) = s.rd (pmCur c t.val + 0x14)) ∧
      KeptBut [0x15, 0x1D] [] s u ∧ Elsewhere s u := by
  obtain ⟨k, native, flags, ne, fe, hk, hdo⟩ := doSecondCommit_eq hclosed
  generalize hw : ((((s.secondTaken c t.val rest).addNative (pmCur c t.val) k native).secondJudged c t.val k flags ne fe).nativeEnds
    c t.val r).compatEnds c t.val r = w at hdo
  have hcmp : PmSpan commitKept c t (pmCmp c t.val) 0x1000 := pmSpan_cmp (by decide) c t
  have hkept : Chip.PmKept commitKept c t (s.setPm c t.val { s.pmOf c t.val with closed := rest, clearPend := false }) w := by
    rw [← hw]
    exact ((((s.secondTaken_kept c t rest).addNative ((pmSpan_cur c t).sub 0 (by decide))).secondJudged (by decide) hcmp).nativeEnds (by decide)
      (pmSpan_cur c t)).compatEnds hcmp
  obtain ⟨hseq, hpend, hrd⟩ := w.commitShown_spec c t.val rest.length
  have hpm : (doSecondCommit c t s).pm = w.pm := by rw [hdo, Chip.setF_pm, Chip.bump, Chip.setF_pm]
  have hwaiting : (w.pmOf c t.val).closed = rest := (congrArg Prod.snd hkept.waiting).trans (congrArg PmSt.closed (Chip.pmOf_setPm_self _ _ _ _))
  refine ⟨(congrArg PmSt.closed (Chip.pmOf_congr hpm c t.val)).trans hwaiting, ?_, by rw [hdo, hpend], fun hfrozen hend hclear => ?_, ?_, ?_⟩
  · have hnumber : w.getF (Reg.PMON.COMMIT_SEQ.SEQ c t.val) = s.getF (Reg.PMON.COMMIT_SEQ.SEQ c t.val) :=
      Chip.getF_congr ((hkept.rd 0x01510018 (by decide) (by decide)).trans (Chip.rd_setPm _ _ _ _ _))
    rw [hdo, hseq, hnumber]
  · have hnative : ∀ u : Chip, u.nativeEnds c t.val r = u := fun u => by rw [Chip.nativeEnds, hend]
    have htaken : ∀ b, (s.secondTaken c t.val rest).rd b = s.rd b := fun b => by
      rw [Chip.secondTaken, if_neg (ne_true_of_eq_false hclear), Chip.rd_setPm]
    obtain ⟨hes, hses, hcount⟩ := (s.secondTaken c t.val rest).frozen_commit_spec (r := r) c t native flags ne fe
    rw [← hk hfrozen, ← hnative (Chip.secondJudged _ _ _ _ _ _ _), hw, htaken] at hes hses hcount
    have hlast : ∀ off, 0x0C < off → off < 0x20 → (doSecondCommit c t s).rd (pmCur c t.val + off) = w.rd (pmCur c t.val + off) := by
      intro off hlo hhi
      rw [hdo, pmCur_add]
      exact hrd _ (by omega) (by omega)
    rw [hlast 0x1C (by decide) (by decide), hlast 0x10 (by decide) (by decide), hlast 0x14 (by decide) (by decide), hcount]
    exact ⟨BitVec.toNat_ofNat _ _, hes, hses⟩
  · have hregs : ∀ n, 0x01510000 ≤ n ∧ n < 0x015F1000 → (c.base + n + 0x1000 * t.val) / 0x100000 ∈ [0x15, 0x1D] := fun n hn =>
      (pmReg_page (keep := []) hn (List.not_mem_nil)).block
    rw [hdo]
    exact (((keptBut_setPm _ s c t.val _).trans hkept.kept).setF (hregs _ (by decide))).setF (hregs _ (by decide))
  · rw [hdo]
    exact ((elsewhere_setPm s c t.val _).trans hkept.elsewhere).setF.setF
end

end Sys2Proof.Machine
end

section
/-! SUPPORT. The first second of performance monitoring, and a second that closes (R198, R208). -/

namespace Sys2Proof.Machine

/-- PM_CFG stands while the first bins open. -/
def enableKept : List Nat := [0x01510000]

/-- The monitor as it starts, with EN set: the first second and the first bin (R208). -/
def Chip.pmStarted (s : Chip) (c : Carrier) (t len : Nat) : Chip :=
  (s.setFlag (Reg.PMON.PM_CFG.EN c t) true).setPm c t
    { s.pmOf c t with started := some (s.wst.sec + 1), binStart := s.wst.sec + 1, binLen := len }

section
variable {s : Chip} {c : Carrier} {t : Fin 16}

/-- Monitoring enabled for the first time: EN and the first second, and then the first bins open. -/
theorem doPmEnable_first (h : (s.pmOf c t.val).started = none) :
    ∃ (len native quarter day : Nat), doPmEnable c t s = (((s.pmStarted c t.val len).openRec (pmCur c t.val) 16 (s.wst.sec + 1) 0x0C native).openRec
      (pmCmp c t.val + 0x100) 12 (s.wst.sec + 1) 8 quarter).openRec (pmCmp c t.val + 0x800) 12 (s.wst.sec + 1) 8 day := by
  have hpm : (s.setFlag (Reg.PMON.PM_CFG.EN c t.val) true).pmOf c t.val = s.pmOf c t.val := Chip.pmOf_congr (s.setFlag_pm _ _) c t.val
  have hnone : ¬ (s.pmOf c t.val).started.isSome = true := by
    rw [h]
    decide
  unfold doPmEnable
  dsimp only
  rw [hpm, if_neg hnone, Chip.setFlag_wst]
  exact ⟨_, _, _, _, rfl⟩

theorem Chip.pmStarted_spec (s : Chip) (c : Carrier) (t : Fin 16) (len : Nat) :
    (s.pmStarted c t.val len).flag (Reg.PMON.PM_CFG.EN c t.val) = true ∧ ((s.pmStarted c t.val len).pmOf c t.val).started = some (s.wst.sec + 1) ∧
      KeptBut [0x15, 0x1D] [] s (s.pmStarted c t.val len) ∧ Elsewhere s (s.pmStarted c t.val len) := by
  have hflag : (s.setFlag (Reg.PMON.PM_CFG.EN c t.val) true).flag (Reg.PMON.PM_CFG.EN c t.val) = true :=
    Chip.flag_setFlag_self _ _ _ rfl (by show 0 < 32; decide)
  have hset : KeptBut [0x15, 0x1D] [] s (s.setFlag (Reg.PMON.PM_CFG.EN c t.val) true) :=
    (KeptBut.refl _ _ s).setF (pmReg_page (keep := []) (hk := by simp)).block
  unfold Chip.pmStarted
  exact ⟨(Chip.flag_congr (Chip.rd_setPm _ _ _ _ _)).trans hflag, congrArg PmSt.started (Chip.pmOf_setPm_self _ _ _ _),
    hset.trans (keptBut_setPm _ _ _ _ _), ((Elsewhere.refl s).setF).trans (elsewhere_setPm _ _ _ _)⟩

theorem doPmEnable_first_spec (h : (s.pmOf c t.val).started = none) :
    let u := doPmEnable c t s
    u.flag (Reg.PMON.PM_CFG.EN c t.val) = true ∧ (u.pmOf c t.val).started = some (s.wst.sec + 1) ∧ KeptBut [0x15, 0x1D] [] s u ∧ Elsewhere s u := by
  obtain ⟨len, native, quarter, day, hdo⟩ := doPmEnable_first h
  obtain ⟨hflag, hstarted, hkept, helsewhere⟩ := s.pmStarted_spec c t len
  rw [hdo]
  generalize s.pmStarted c t.val len = w at hflag hstarted hkept helsewhere
  have hcur : PmSpan enableKept c t (pmCur c t.val) 64 := pmSpan_page (n := 0x01510100) (by decide) (by decide) (by decide)
  have hcmp : PmSpan enableKept c t (pmCmp c t.val) 0x1000 := pmSpan_cmp (by decide) c t
  have hopen : Chip.PmKept enableKept c t w (((w.openRec (pmCur c t.val) 16 (s.wst.sec + 1) 0x0C native).openRec
      (pmCmp c t.val + 0x100) 12 (s.wst.sec + 1) 8 quarter).openRec (pmCmp c t.val + 0x800) 12 (s.wst.sec + 1) 8 day) :=
    (((Chip.PmKept.refl w).openRec hcur (by decide) (by decide)).openRec (hcmp.sub 0x100 (by decide)) (by decide) (by decide)).openRec
      (hcmp.sub 0x800 (by decide)) (by decide) (by decide)
  exact ⟨(Chip.flag_congr (hopen.rd 0x01510000 (by decide) (by decide))).trans hflag, (congrArg Prod.fst hopen.waiting).trans hstarted,
    hkept.trans hopen.kept, helsewhere.trans hopen.elsewhere⟩

/-- A second closes in its turn (R198). -/
theorem doSecondClose_closes {st sec : Nat} (hstarted : (s.pmOf c t.val).started = some st) (hst : st ≤ sec)
    (hlast : (s.pmOf c t.val).lastClosed = none ∨ ∃ l, (s.pmOf c t.val).lastClosed = some l ∧ l < sec) :
    doSecondClose c t sec s = s.pmCloseRec c t.val sec (sec + 1) false := by
  have hnew : (s.pmOf c t.val).lastClosed.any (fun l => decide (sec ≤ l)) = false := by
    rcases hlast with hnone | ⟨l, hsome, hl⟩
    · rw [hnone]
      rfl
    · rw [hsome]
      exact decide_eq_false (Nat.not_le.mpr hl)
  unfold doSecondClose
  dsimp only
  rw [hstarted]
  exact if_neg (by
    rw [hnew]
    simpa using hst)

theorem Chip.pmCloseRec_spec (s : Chip) (c : Carrier) (t sec boundary : Nat) (step : Bool) :
    let u := s.pmCloseRec c t sec boundary step
    (u.pmOf c t).lastClosed = some sec ∧ (u.pmOf c t).closed.length = (s.pmOf c t).closed.length + 1 ∧
      u.getF (Reg.PMON.PM_STAT.PEND c t) = min 10 ((s.pmOf c t).closed.length + 1) ∧ Kept [Reg.PMON.PM_STAT.PEND c t] s u := by
  unfold Chip.pmCloseRec
  extract_lets v r0 r1 r v' u
  have hpm : u.pmOf c t = v' :=
    (Chip.pmOf_congr (Chip.setF_pm _ _ _) c t).trans (Chip.pmOf_setPm_self _ _ _ _)
  have hlength : v'.closed.length = v.closed.length + 1 := List.length_append
  refine ⟨congrArg PmSt.lastClosed hpm, (congrArg (fun w : PmSt => w.closed.length) hpm).trans hlength, ?_, ?_⟩
  · unfold u
    rw [hlength]
    refine (Chip.getF_setF_self _ _ _ (by show 0 + 4 ≤ 32; decide)).trans (Nat.mod_eq_of_lt ?_)
    show min 10 (v.closed.length + 1) < 2 ^ 4
    omega
  · exact ((keptBut_setPm [] s c t v').mono (by simp) (by simp)).trans (keptBut_setF _ _ _)
end

/-- Settles O27, clause by clause: a frame by what its delivery or its holding back leaves of the trail's reports, a defect by the change of the
detectors before the judgements that end the step, and a second by what its commit sets last and leaves standing before. -/
theorem trailsAndPerformance : Obligations.TrailsAndPerformance := by
  refine ⟨fun s c t f => ⟨fun hin hdelin hlock hheld => ⟨fun hfsn => answers_of_to rfl (doFrameRx_expected_spec hin hdelin hlock hheld hfsn),
      fun hfsn => answers_of_to rfl (doFrameRx_other_spec hin hdelin hlock hheld hfsn)⟩, fun hin => ?_⟩,
    fun s c t => ⟨fun b hb => answers_of_to rfl ?_, fun hoom => answers_of_to rfl ?_, fun sec hbad hm => answers_of_to rfl ?_,
      fun bit hdef hfail => answers_of_to rfl ?_, fun bit hdef hfail => answers_of_to rfl ?_⟩,
    fun s c t => ⟨fun h => answers_of_to rfl (doPmEnable_first_spec h), fun st sec hstarted hst hlast => answers_of_to rfl ?_,
      fun r rest hclosed => answers_of_to rfl (doSecondCommit_spec hclosed), answers_of_to rfl ?_⟩⟩
  · exact congrArg s.to (doFrameRx_outside hin)
  · subst hb
    rw [doDefectTimer_lof]
    obtain ⟨hreport, hframe⟩ := s.chip.setFrm_frmEnd_spec c t
      { s.chip.frmOf c t.val with lof := !(s.chip.flag (Reg.FRM.ALIGN_STAT.IN_FRAME c t.val)) }
    exact ⟨congrArg FrmReport.lof hreport, congrArg FrmReport.lom hreport, hframe⟩
  · rw [doDefectTimer_lom hoom]
    obtain ⟨hreport, hframe⟩ := s.chip.setFrm_frmEnd_spec c t { s.chip.frmOf c t.val with lom := true }
    exact ⟨congrArg FrmReport.lom hreport, congrArg FrmReport.lof hreport, hframe⟩
  · rw [doDegSecond_bad hbad]
    obtain ⟨hreport, hframe⟩ := s.chip.setFrm_frmEnd_spec c t ((s.chip.frmOf c t.val).degraded sec (s.chip.degM c t.val))
    have hdeg : ((s.chip.frmOf c t.val).degraded sec (s.chip.degM c t.val)).deg = true := by
      rw [FrmSt.degraded, decide_eq_true hm, Bool.or_true]
    exact ⟨(congrArg FrmReport.deg hreport).trans hdeg, congrArg FrmReport.degGood hreport, hframe⟩
  · rw [doFailSet_present hdef hfail]
    obtain ⟨hget, hrec, htrail, hkept, hquiet⟩ := s.chip.failNoted_spec c t (s.chip.getF (Reg.FRM.FAIL.FAIL c t.val) ||| 2 ^ bit.val)
    exact ⟨(congrArg (·.testBit bit.val) hget).trans (Chip.bitOf_setBit_self _ _ (by show 0 + 11 ≤ 32; decide) bit.isLt), hrec, htrail, hkept, hquiet⟩
  · rw [doFailClear_absent hdef hfail]
    obtain ⟨hget, hrec, -, hkept, hquiet⟩ := s.chip.failNoted_spec c t
      (s.chip.getF (Reg.FRM.FAIL.FAIL c t.val) - (s.chip.getF (Reg.FRM.FAIL.FAIL c t.val) &&& 2 ^ bit.val))
    exact ⟨(congrArg (·.testBit bit.val) hget).trans (Chip.bitOf_clrBit_self _ _ _ (by show 0 + 11 ≤ 32; decide)), hrec, hkept, hquiet⟩
  · rw [doSecondClose_closes hstarted hst hlast]
    exact s.chip.pmCloseRec_spec c t.val sec (sec + 1) false
  · exact ⟨congrArg PmSt.clearPend (Chip.pmOf_setPm_self _ _ _ _), rfl⟩

end Sys2Proof.Machine
end

section
/-! SUPPORT. Client lanes: what a step of a lane leaves of the lane's own block and of everything else, in the form of one law per operation, and
what each operation that several commands share shows of the lane (R217 to R238). -/

namespace Sys2Proof.Machine

set_option Elab.async false

/-! ## A step of a lane -/

theorem LaneFrame.refl (l : Nat) (s : Chip) : LaneFrame l s s := ⟨fun _ _ _ => rfl, rfl, fun _ _ => rfl, .refl s⟩

theorem LaneFrame.trans {l : Nat} {s t u : Chip} (h : LaneFrame l s t) (k : LaneFrame l t u) : LaneFrame l s u := by
  obtain ⟨hregs, hact, hlanes, helse⟩ := h
  obtain ⟨kregs, kact, klanes, kelse⟩ := k
  exact ⟨fun a ha hb => (kregs a ha hb).trans (hregs a ha hb), kact.trans hact, fun j hj => (klanes j hj).trans (hlanes j hj), helse.trans kelse⟩

/-- Whether a field of lane 0 lies in the lane's block beside EVT_STAT, and shares no bit with any of several other fields. -/
def laneKeeps (fs : List Fld) (g : Fld) : Bool :=
  decide (0x02000000 ≤ g.addr ∧ g.addr < 0x02010000 ∧ g.addr ≠ 0x020000F0 ∧ g.lo + g.width ≤ 32) &&
    fs.all fun f => decide (f.addr ≠ g.addr ∨ f.lo + f.width ≤ g.lo ∨ g.lo + g.width ≤ f.lo)

theorem laneKeeps_iff {fs : List Fld} {g : Fld} : laneKeeps fs g = true ↔
    (0x02000000 ≤ g.addr ∧ g.addr < 0x02010000 ∧ g.addr ≠ 0x020000F0 ∧ g.lo + g.width ≤ 32) ∧ ∀ f ∈ fs, Apart f g := by
  simp [laneKeeps, Apart]

/-- From one chip to the next a lane has made a step that writes at most the given fields of its block, named as fields of lane 0: the rest of the
block reads as before, EVT_STAT loses no bit, and what `LaneFrame` names of the rest of the chip stands. -/
structure LaneStep (fs : List Fld) (l : Fin 16) (s t : Chip) : Prop where
  frame : LaneFrame l.val s t
  stat : ∀ i, (s.rd (Ev.LANE.base l.val + 0xF0)).getLsbD i = true → (t.rd (Ev.LANE.base l.val + 0xF0)).getLsbD i = true
  field : ∀ n lo width, laneKeeps fs ⟨n, lo, width⟩ = true →
    t.getF ⟨n + 0x10000 * l.val, lo, width⟩ = s.getF ⟨n + 0x10000 * l.val, lo, width⟩

/-- A chip whose registers read as before, in which at most the lane's hidden state and what a command to a lane may change differ. -/
theorem LaneStep.of_rd {fs : List Fld} {l : Fin 16} {s t : Chip} (hframe : LaneFrame l.val s t) (h : ∀ a, t.rd a = s.rd a) : LaneStep fs l s t :=
  ⟨hframe, fun i hi => by rwa [h], fun _ _ _ _ => Chip.getF_congr (h _)⟩

section
variable {fs gs : List Fld} {l : Fin 16} {s₀ s t : Chip}

theorem LaneStep.refl (fs : List Fld) (l : Fin 16) (s : Chip) : LaneStep fs l s s := .of_rd (.refl _ s) fun _ => rfl

/-- A step followed by one that writes no further field. -/
theorem LaneStep.next (h : LaneStep fs l s₀ s) (k : LaneStep gs l s t) (hsub : ∀ f ∈ gs, f ∈ fs := by decide) : LaneStep fs l s₀ t where
  frame := h.frame.trans k.frame
  stat i hi := k.stat i (h.stat i hi)
  field n lo width hk := by
    obtain ⟨hblock, hapart⟩ := laneKeeps_iff.mp hk
    exact (k.field n lo width (laneKeeps_iff.mpr ⟨hblock, fun f hf => hapart f (hsub f hf)⟩)).trans (h.field n lo width hk)

theorem LaneStep.ite {c : Prop} {_ : Decidable c} (h : LaneStep fs l s₀ s) (k : LaneStep fs l s₀ t) : LaneStep fs l s₀ (if c then s else t) := by
  split <;> assumption

/-! What a step keeps, in the forms in which the lane is read. -/

theorem LaneStep.flag (h : LaneStep fs l s t) {n lo : Nat} (hk : laneKeeps fs ⟨n, lo, 1⟩ = true := by decide) :
    t.flag ⟨n + 0x10000 * l.val, lo, 1⟩ = s.flag ⟨n + 0x10000 * l.val, lo, 1⟩ := congrArg (· == 1) (h.field n lo 1 hk)

theorem LaneStep.getF (h : LaneStep fs l s t) {n lo width : Nat} (hk : laneKeeps fs ⟨n, lo, width⟩ = true := by decide) :
    t.getF ⟨n + 0x10000 * l.val, lo, width⟩ = s.getF ⟨n + 0x10000 * l.val, lo, width⟩ := h.field n lo width hk

theorem LaneStep.rd (h : LaneStep fs l s t) {n : Nat} (hk : laneKeeps fs ⟨n, 0, 32⟩ = true := by decide) :
    t.rd (n + 0x10000 * l.val) = s.rd (n + 0x10000 * l.val) := by
  have hword : ∀ w : Word, w.field 0 32 = w.toNat := fun w => by
    rw [Word.field, Nat.pow_zero, Nat.div_one, Nat.mod_eq_of_lt w.isLt]
  have hf := h.field n 0 32 hk
  rw [Chip.getF, Chip.getF, hword, hword] at hf
  exact BitVec.eq_of_toNat_eq hf

theorem LaneStep.laneState (h : LaneStep fs l s t) (hk : laneKeeps fs (Reg.LANE.LANE_STAT.STATE 0) = true := by decide) :
    t.laneState l.val = s.laneState l.val := h.getF hk

theorem LaneStep.trains (h : LaneStep fs l s t) (hk : laneKeeps fs ⟨0x02000000, 0, 32⟩ = true := by decide) : t.trains l.val = s.trains l.val := by
  have hcfg : t.rd (Reg.LANE.LANE_CFG.addr l.val) = s.rd (Reg.LANE.LANE_CFG.addr l.val) := h.rd hk
  rw [Chip.trains, Chip.nearLoop, Chip.flag_congr hcfg, Chip.getF_congr hcfg, Chip.trains, Chip.nearLoop]

theorem LaneStep.farLoop (h : LaneStep fs l s t) (hk : laneKeeps fs (Reg.LANE.LANE_CFG.LOOPBACK 0) = true := by decide) :
    t.farLoop l.val = s.farLoop l.val := by
  have hloop : t.getF (Reg.LANE.LANE_CFG.LOOPBACK l.val) = s.getF (Reg.LANE.LANE_CFG.LOOPBACK l.val) := h.getF hk
  rw [Chip.farLoop, hloop, Chip.farLoop]

theorem LaneStep.detects (h : LaneStep fs l s t) (hst : laneKeeps fs (Reg.LANE.LANE_STAT.STATE 0) = true := by decide)
    (hrx : laneKeeps fs (Reg.LANE.LANE_STAT.RX_ASLEEP 0) = true := by decide) : t.detects l.val = s.detects l.val := by
  have hasleep : t.flag (Reg.LANE.LANE_STAT.RX_ASLEEP l.val) = s.flag (Reg.LANE.LANE_STAT.RX_ASLEEP l.val) := h.flag hrx
  rw [Chip.detects, h.laneState hst, hasleep, Chip.detects]

theorem LaneStep.windowFails (h : LaneStep fs l s t) {errors : Bool} {m : Nat} (hk : laneKeeps fs (Reg.LANE.DET_CFG.LOL_PPM 0) = true := by decide) :
    t.windowFails l.val errors m = s.windowFails l.val errors m := by
  have hppm : t.getF (Reg.LANE.DET_CFG.LOL_PPM l.val) = s.getF (Reg.LANE.DET_CFG.LOL_PPM l.val) := h.getF hk
  rw [Chip.windowFails, hppm, Chip.windowFails]

/-- An event of the lane stays recorded. -/
theorem LaneStep.keepsRecord (k : LaneStep fs l s t) {e : Nat → Ev} (h : Recorded (e l.val) s₀ s)
    (he : (e l.val).base = Ev.LANE.base l.val := by rfl) :
    Recorded (e l.val) s₀ t := fun hs => by
  rw [he]
  exact k.stat _ (he ▸ h hs)

/-- A step that leaves EVT_STICKY of the lane may come before an event is recorded. -/
theorem LaneStep.thenRecorded (h : LaneStep fs l s₀ s) {e : Nat → Ev} (k : Recorded (e l.val) s t)
    (he : (e l.val).base = Ev.LANE.base l.val := by rfl)
    (hk : laneKeeps fs ⟨0x020000F8, 0, 32⟩ = true := by decide) : Recorded (e l.val) s₀ t := by
  refine .of_sticky ?_ k
  have haddr : (e l.val).base + 0xF8 = 0x020000F8 + 0x10000 * l.val := by
    rw [he, Ev.LANE.base]
    omega
  rw [haddr]
  exact h.rd hk

/-! The steps of every law. -/

theorem laneStep_setF (s : Chip) (l : Fin 16) {n lo width v : Nat} (hn : laneKeeps [] ⟨n, 0, 0⟩ = true := by decide) :
    LaneStep [⟨n, lo, width⟩] l s (s.setF ⟨n + 0x10000 * l.val, lo, width⟩ v) := by
  obtain ⟨⟨hlo, hhi, hstat, -⟩, -⟩ := laneKeeps_iff.mp hn
  have hl := l.isLt
  dsimp only at hlo hhi hstat
  refine ⟨⟨fun a ha _ => Chip.rd_setF_ne _ _ _ ?_, rfl, fun _ _ => rfl, .refl s⟩, fun i hi => ?_, fun m mlo mwidth hk => ?_⟩
  · rintro rfl
    exact ha (by dsimp only; omega)
  · rwa [Chip.rd_setF_ne _ _ _ (by rw [Ev.LANE.base]; dsimp only; omega)]
  · obtain ⟨⟨-, -, -, hwidth⟩, hapart⟩ := laneKeeps_iff.mp hk
    refine (keptBut_setF s _ v).1 ⟨m + 0x10000 * l.val, mlo, mwidth⟩ hwidth (by simp) fun f hf => ?_
    rw [List.mem_singleton.mp hf]
    exact (hapart _ (List.mem_singleton.mpr rfl)).imp_left fun hne he => hne (Nat.add_right_cancel he)

theorem LaneStep.setF (h : LaneStep fs l s₀ s) {n lo width v : Nat} (hn : laneKeeps [] ⟨n, 0, 0⟩ = true := by decide)
    (hf : ⟨n, lo, width⟩ ∈ fs := by decide) : LaneStep fs l s₀ (s.setF ⟨n + 0x10000 * l.val, lo, width⟩ v) :=
  h.next (laneStep_setF s l hn) fun _ hg => List.mem_singleton.mp hg ▸ hf

/-- A change of registers and of notices of events alone is within the frame of a lane where the registers outside the lane's blocks stand. -/
theorem laneFrame_of_quiet (h : Quiet s t) (hrd : ∀ a, a / 0x10000 ≠ 0x200 + l.val → a / 0x100000 ∉ [0x05, 0x21] → t.rd a = s.rd a) :
    LaneFrame l.val s t := ⟨hrd, by rw [h], fun _ _ => by rw [h]; rfl, h.elsewhere⟩

theorem quiet_raiseLane (s : Chip) (k : Nat) (e : Nat → Ev) : Quiet s (s.raiseLane k e) := (quiet_raise s (e k)).trans (quiet_setF _ _ _)

theorem Chip.rd_raiseLane_ne (s : Chip) (k : Nat) (e : Nat → Ev) {a : Nat} (hstat : a ≠ (e k).base + 0xF0) (hcli : a ≠ Reg.CLI.LANE_EVT.addr) :
    (s.raiseLane k e).rd a = s.rd a :=
  (Chip.rd_setF_ne _ _ _ hcli).trans ((Chip.rd_raise _ _ _).trans (if_neg fun hc => hstat hc.2))

/-- An occurrence of an event of the lane, with its bit of LANE_EVT, writes no field of the lane beside EVT_STAT. -/
theorem LaneStep.raiseLane (h : LaneStep fs l s₀ s) {e : Nat → Ev} (he : (e l.val).base = Ev.LANE.base l.val := by rfl) :
    LaneStep fs l s₀ (s.raiseLane l.val e) := by
  have hl := l.isLt
  have hcli : Reg.CLI.LANE_EVT.addr = 0x02100000 := rfl
  refine h.next (gs := []) ⟨laneFrame_of_quiet (quiet_raiseLane s _ e) fun a ha hb => s.rd_raiseLane_ne _ e ?_ ?_, fun i hi => ?_,
    fun n lo width hk => ?_⟩ (by simp)
  · rw [he, Ev.LANE.base]
    omega
  · rintro rfl
    exact hb (by decide)
  · rw [Chip.raiseLane, Chip.setBit, Chip.rd_setF_ne _ _ _ (by rw [Ev.LANE.base]; show _ ≠ Reg.CLI.LANE_EVT.addr; omega), Chip.rd_raise]
    split
    · next hc => rw [BitVec.getLsbD_or, ← hc.2, hi, Bool.true_or]
    · exact hi
  · obtain ⟨⟨hlo, hhi, hstat, -⟩, -⟩ := laneKeeps_iff.mp hk
    dsimp only at hlo hhi hstat
    exact Chip.getF_congr (s.rd_raiseLane_ne _ e (by rw [he, Ev.LANE.base]; dsimp only; omega) (by dsimp only; omega))

theorem LaneStep.evc (h : LaneStep fs l s₀ s) {k n : Nat} : LaneStep fs l s₀ (s.evc k n) := by
  have hl := l.isLt
  refine h.next (gs := []) ⟨laneFrame_of_quiet (quiet_evc s k n) fun a _ hb => s.rd_evc k n fun hc => hb (by simp [hc]), fun i hi => ?_,
    fun m lo width hk => Chip.getF_congr (s.rd_evc k n ?_)⟩ (by simp)
  · rwa [s.rd_evc k n (by rw [Ev.LANE.base]; omega)]
  · obtain ⟨⟨hlo, hhi, -, -⟩, -⟩ := laneKeeps_iff.mp hk
    dsimp only at hlo hhi ⊢
    omega

theorem LaneStep.setLive (h : LaneStep fs l s₀ s) {e : Ev} {b : Bool} : LaneStep fs l s₀ (s.setLive e b) :=
  h.next (gs := []) (.of_rd (.refl _ s) fun _ => rfl) (by simp)

theorem Chip.laneOf_modLane (s : Chip) (k j : Nat) (f : LaneSt → LaneSt) :
    (s.modLane k f).laneOf j = if j = k then f (s.laneOf k) else s.laneOf j := Tab.get_put _ _ _ _ _

theorem Chip.laneOf_modLane_self (s : Chip) (k : Nat) (f : LaneSt → LaneSt) : (s.modLane k f).laneOf k = f (s.laneOf k) :=
  (s.laneOf_modLane k k f).trans (if_pos rfl)

theorem Quiet.lane (h : Quiet s t) : t.lane = s.lane := by rw [h]

theorem FreeUsed.lane (h : FreeUsed s t) : t.lane = s.lane := by rw [h]

theorem Chip.laneOf_congr (h : t.lane = s.lane) (k : Nat) : t.laneOf k = s.laneOf k := by
  rw [Chip.laneOf, h, Chip.laneOf]

theorem LaneStep.modLane (h : LaneStep fs l s₀ s) {f : LaneSt → LaneSt} : LaneStep fs l s₀ (s.modLane l.val f) :=
  h.next (gs := []) (.of_rd ⟨fun _ _ _ => rfl, rfl, fun j hj => (s.laneOf_modLane _ _ f).trans (if_neg hj), .refl s⟩ fun _ => rfl) (by simp)

theorem laneFrame_of_freeUsed (l : Nat) (h : FreeUsed s t) : LaneFrame l s t :=
  ⟨fun a _ _ => Chip.rd_of_regs h.regs a, by rw [h], fun _ _ => by rw [h]; rfl, h.elsewhere⟩

/-- Free values used up. -/
theorem LaneStep.freeUsed (h : LaneStep fs l s₀ s) (k : FreeUsed s t) : LaneStep fs l s₀ t :=
  h.next (gs := []) (.of_rd (laneFrame_of_freeUsed _ k) fun a => Chip.rd_of_regs k.regs a) (by simp)

theorem laneStep_wr (s : Chip) (l : Fin 16) {n : Nat} {w : Word} (hn : laneKeeps [] ⟨n, 0, 0⟩ = true := by decide) :
    LaneStep [⟨n, 0, 32⟩] l s (s.wr (n + 0x10000 * l.val) w) := by
  have hset : s.wr (n + 0x10000 * l.val) w = s.setF ⟨n + 0x10000 * l.val, 0, 32⟩ w.toNat := by
    refine congrArg (s.wr _) (BitVec.eq_of_getLsbD_eq fun i hi => ?_)
    rw [Word.getLsbD_setField _ _ _ _ _ hi, if_pos ⟨Nat.zero_le i, by omega⟩]
    rfl
  rw [hset]
  exact laneStep_setF s l hn

end

end Sys2Proof.Machine
end

section
/-! SUPPORT. What the operations that the commands of a lane share write and show: the detectors, the checker, the coefficients, and the entries into
the lane's states (R219 to R238). -/

namespace Sys2Proof.Machine

set_option Elab.async false

/-! ## Events, the status that is derived, and the detectors -/

theorem recorded_raiseLane (s : Chip) (l : Fin 16) {e : Nat → Ev} {bit src : Nat} (he : e l.val = ⟨Ev.LANE.base l.val, bit, src⟩ := by rfl)
    (hbit : bit < 32 := by decide) : Recorded (e l.val) s (s.raiseLane l.val e) := by
  have hl := l.isLt
  unfold Chip.raiseLane
  rw [he]
  refine (recorded_raise s ⟨Ev.LANE.base l.val, bit, src⟩ hbit).setF ?_
  dsimp only [Ev.LANE.base, Reg.CLI.LANE_EVT.LANE, Reg.CLI.LANE_EVT.addr]
  omega

/-- What `laneShow` derives. -/
def laneShown : List Fld :=
  [Reg.LANE.LANE_STAT.TX_ASLEEP 0, Reg.LANE.LANE_STAT.RCLK_VALID 0, Reg.LANE.LANE_STAT.PRECODE_TX 0, Reg.LANE.LANE_STAT.PRECODE_RX 0]

section
variable (s : Chip) (l : Fin 16)

theorem laneStep_laneShow : LaneStep laneShown l s (s.laneShow l.val) := (LaneStep.refl laneShown l s).setF.setF.setF.setF

theorem Chip.txAsleep_laneShow : (s.laneShow l.val).flag (Reg.LANE.LANE_STAT.TX_ASLEEP l.val) =
    (decide (s.laneState l.val = 5) && s.flag (Reg.LANE.LANE_SLEEP.TX_SLEEP l.val) && !s.farLoop l.val) :=
  ((Chip.flag_setF_apart _).trans ((Chip.flag_setF_apart _).trans (Chip.flag_setF_apart _))).trans
    (Chip.flag_setFlag_self s _ _ rfl (by show 8 < 32; decide))

theorem Chip.lane_laneShow (k : Nat) : (s.laneShow k).lane = s.lane := rfl

theorem Chip.laneOf_laneShow (k j : Nat) : (s.laneShow k).laneOf j = s.laneOf j := Chip.laneOf_congr (s.lane_laneShow k) j

variable (b : Bool)

theorem laneStep_setLos : LaneStep [Reg.LANE.LANE_STAT.LOS 0] l s (s.setLos l.val b) := by
  unfold Chip.setLos
  extract_lets had s1
  have h1 : LaneStep [Reg.LANE.LANE_STAT.LOS 0] l s s1 := (LaneStep.refl _ l s).setF.setLive
  exact .ite h1.raiseLane.evc h1

theorem Chip.los_setLos : (s.setLos l.val b).flag (Reg.LANE.LANE_STAT.LOS l.val) = b := by
  unfold Chip.setLos
  extract_lets had s1
  have h1 : LaneStep [] l s1 (if b && !had then (s1.raiseLane l.val Ev.LANE.LOS).evc (385 + 4 * l.val) else s1) :=
    .ite (LaneStep.refl [] l s1).raiseLane.evc (.refl [] l s1)
  exact h1.flag.trans (Chip.flag_setFlag_self s _ b rfl (by show 4 < 32; decide))

/-- Loss of signal is recorded when it begins. -/
theorem recorded_setLos (hlos : s.flag (Reg.LANE.LANE_STAT.LOS l.val) = false) : Recorded (Ev.LANE.LOS l.val) s (s.setLos l.val true) := by
  unfold Chip.setLos
  extract_lets had s1
  rw [if_pos (by unfold had; rw [hlos]; rfl)]
  have h1 : LaneStep [Reg.LANE.LANE_STAT.LOS 0] l s s1 := (LaneStep.refl _ l s).setF.setLive
  exact (LaneStep.refl [] l _).evc.keepsRecord (h1.thenRecorded (recorded_raiseLane s1 l))

theorem laneStep_setLol : LaneStep [Reg.LANE.LANE_STAT.LOL 0] l s (s.setLol l.val b) := by
  unfold Chip.setLol
  extract_lets had s1
  have h1 : LaneStep [Reg.LANE.LANE_STAT.LOL 0] l s s1 := (LaneStep.refl _ l s).setF.setLive
  exact .ite h1.raiseLane.evc.modLane h1

theorem Chip.lol_setLol : (s.setLol l.val b).flag (Reg.LANE.LANE_STAT.LOL l.val) = b := by
  unfold Chip.setLol
  extract_lets had s1
  have h1 : LaneStep [] l s1 (if b && !had then
      ((s1.raiseLane l.val Ev.LANE.LOL).evc (386 + 4 * l.val)).modLane l.val fun v => { v with passF := 0, passE := 0 } else s1) :=
    .ite (LaneStep.refl [] l s1).raiseLane.evc.modLane (.refl [] l s1)
  exact h1.flag.trans (Chip.flag_setFlag_self s _ b rfl (by show 5 < 32; decide))

/-- Loss of lock is recorded when it begins. -/
theorem recorded_setLol (hlol : s.flag (Reg.LANE.LANE_STAT.LOL l.val) = false) : Recorded (Ev.LANE.LOL l.val) s (s.setLol l.val true) := by
  unfold Chip.setLol
  extract_lets had s1
  rw [if_pos (by unfold had; rw [hlol]; rfl)]
  have h1 : LaneStep [Reg.LANE.LANE_STAT.LOL 0] l s s1 := (LaneStep.refl _ l s).setF.setLive
  exact (LaneStep.refl [] l _).evc.modLane.keepsRecord (h1.thenRecorded (recorded_raiseLane s1 l))

/-- Both detectors as they are shown where they do not report. -/
def laneDetectors : List Fld := [Reg.LANE.LANE_STAT.LOS 0, Reg.LANE.LANE_STAT.LOL 0]

theorem laneStep_quietDetectors : LaneStep laneDetectors l s (s.quietDetectors l.val b) := (LaneStep.refl _ l s).setF.setF.setLive.setLive

theorem Chip.los_quietDetectors : (s.quietDetectors l.val b).flag (Reg.LANE.LANE_STAT.LOS l.val) = b :=
  (Chip.flag_setF_apart _).trans (Chip.flag_setFlag_self s _ b rfl (by show 4 < 32; decide))

theorem Chip.lol_quietDetectors : (s.quietDetectors l.val b).flag (Reg.LANE.LANE_STAT.LOL l.val) = false :=
  Chip.flag_setFlag_self _ _ false rfl (by show 5 < 32; decide)

/-! ## The checker -/

theorem laneStep_setChkLock : LaneStep [Reg.LANE.CHK_STAT.CHK_LOCK 0] l s (s.setChkLock l.val b) :=
  .ite (.refl _ l s) (LaneStep.refl _ l s).setF.raiseLane

theorem Chip.chkLock_setChkLock : (s.setChkLock l.val b).flag (Reg.LANE.CHK_STAT.CHK_LOCK l.val) = b := by
  unfold Chip.setChkLock
  split
  · assumption
  · exact (LaneStep.refl [] l _).raiseLane.flag.trans (Chip.flag_setFlag_self s _ b rfl (by show 0 < 32; decide))

/-- A change of CHK_LOCK is recorded. -/
theorem recorded_setChkLock (hb : s.flag (Reg.LANE.CHK_STAT.CHK_LOCK l.val) ≠ b) :
    Recorded (Ev.LANE.CHK_LOCK_CHANGE l.val) s (s.setChkLock l.val b) := by
  rw [Chip.setChkLock, if_neg hb]
  exact (laneStep_setF s l).thenRecorded (recorded_raiseLane _ l)

theorem laneStep_setPair {n v : Nat} (hn : laneKeeps [] ⟨n, 0, 0⟩ = true := by decide) (hn4 : laneKeeps [] ⟨n + 4, 0, 0⟩ = true := by decide) :
    LaneStep [⟨n, 0, 32⟩, ⟨n + 4, 0, 32⟩] l s (s.setPair (n + 0x10000 * l.val) v) := by
  unfold Chip.setPair
  rw [Nat.add_right_comm]
  exact ((LaneStep.refl _ l s).next (laneStep_wr s l hn) (by simp)).next (laneStep_wr _ l hn4) (by simp)

/-- The two counts of the checker. -/
def laneCounts : List Fld :=
  [Reg.LANE.CHK_BITS_LO.COUNT 0, Reg.LANE.CHK_BITS_HI.COUNT 0, Reg.LANE.CHK_ERRS_LO.COUNT 0, Reg.LANE.CHK_ERRS_HI.COUNT 0]

variable (bits errs : Nat)

theorem laneStep_chkCount : LaneStep laneCounts l s (s.chkCount l.val bits errs) :=
  .ite (((LaneStep.refl _ l s).next (laneStep_setPair _ l)).next (laneStep_setPair _ l)).evc (.refl _ l s)

theorem quiet_chkCount (k : Nat) : Quiet s (s.chkCount k bits errs) := by
  unfold Chip.chkCount
  split
  exacts [((quiet_wr s _ _).trans (quiet_wr _ _ _)).trans (((quiet_wr _ _ _).trans (quiet_wr _ _ _)).trans (quiet_evc _ _ _)), .refl s]

theorem LaneStep.getPair {fs : List Fld} {l : Fin 16} {s t : Chip} (h : LaneStep fs l s t) {n : Nat}
    (hlo : laneKeeps fs ⟨n, 0, 32⟩ = true := by decide)
    (hhi : laneKeeps fs ⟨n + 4, 0, 32⟩ = true := by decide) : t.getPair (n + 0x10000 * l.val) = s.getPair (n + 0x10000 * l.val) := by
  have haddr : n + 0x10000 * l.val + 4 = n + 4 + 0x10000 * l.val := Nat.add_right_comm _ _ _
  exact Chip.getPair_congr (h.rd hlo) (by rw [haddr]; exact h.rd hhi)

/-- A locked checker counts the bits it has compared and those in error. -/
theorem Chip.chkCount_locked (h : s.flag (Reg.LANE.CHK_STAT.CHK_LOCK l.val) = true) :
    (s.chkCount l.val bits errs).getPair (Reg.LANE.CHK_BITS_LO.addr l.val) = (s.getPair (Reg.LANE.CHK_BITS_LO.addr l.val) + bits) % 2 ^ 64 ∧
      (s.chkCount l.val bits errs).getPair (Reg.LANE.CHK_ERRS_LO.addr l.val) = (s.getPair (Reg.LANE.CHK_ERRS_LO.addr l.val) + errs) % 2 ^ 64 := by
  rw [Chip.chkCount, if_pos h]
  have hbits := (laneStep_setPair (s.addPair (Reg.LANE.CHK_BITS_LO.addr l.val) bits) l (n := 0x02000058)
    (v := (s.addPair (Reg.LANE.CHK_BITS_LO.addr l.val) bits).getPair (Reg.LANE.CHK_ERRS_LO.addr l.val) + errs))
  have herrs := (laneStep_setPair s l (n := 0x02000050) (v := s.getPair (Reg.LANE.CHK_BITS_LO.addr l.val) + bits)).getPair (n := 0x02000058)
  have hevc := fun u : Chip => (LaneStep.refl [] l u).evc (k := 384 + 4 * l.val) (n := errs)
  refine ⟨(hevc _).getPair.trans (hbits.getPair.trans (s.getPair_setPair _ _)), (hevc _).getPair.trans ((Chip.getPair_setPair _ _ _).trans ?_)⟩
  exact congrArg (fun x => (x + errs) % 2 ^ 64) herrs

end

end Sys2Proof.Machine
end

section
/-! SUPPORT. The entries into a lane's states and the departure from ACTIVE (R219, R222, R223, R231). -/

namespace Sys2Proof.Machine

set_option Elab.async false

theorem LaneStep.foldl {α : Type} {fs : List Fld} {l : Fin 16} {s₀ s : Chip} {f : Chip → α → Chip} {xs : List α} (h : LaneStep fs l s₀ s)
    (hf : ∀ u, ∀ x ∈ xs, LaneStep fs l s₀ u → LaneStep fs l s₀ (f u x)) : LaneStep fs l s₀ (xs.foldl f s) := by
  induction xs generalizing s with
  | nil => exact h
  | cons x xs ih => exact ih (hf s x (by simp) h) fun u y hy => hf u y (by simp [hy])

/-! ## Leaving ACTIVE -/

/-- What leaving ACTIVE writes. -/
def laneLeft : List Fld := [Reg.LANE.LANE_STAT.RX_ASLEEP 0, Reg.LANE.CHK_STAT.CHK_LOCK 0, Reg.LANE.DOWN_CNT.COUNT 0]

/-- The transmit taps in use. -/
def laneTaps : List Fld := (List.range 5).map (Reg.LANE.TX_FFE.TAP 0)

section
variable (s : Chip) (l : Fin 16)

theorem laneStep_laneLeave (down : Bool) : LaneStep laneLeft l s (s.laneLeave l.val down) := by
  unfold Chip.laneLeave
  extract_lets s1 s2
  have h2 : LaneStep laneLeft l s s2 := ((LaneStep.refl _ l s).evc.setF.next (laneStep_setChkLock _ l false)).modLane
  exact .ite (.ite h2.raiseLane.setF h2) (.refl _ l s)

/-- A lane that leaves ACTIVE other than by configuration counts it, and LANE_DOWN occurs. -/
theorem Chip.laneLeave_down (hst : s.laneState l.val = 5) :
    (s.laneLeave l.val true).getF (Reg.LANE.DOWN_CNT.COUNT l.val) = (s.getF (Reg.LANE.DOWN_CNT.COUNT l.val) + 1) % 2 ^ 32 ∧
      Recorded (Ev.LANE.LANE_DOWN l.val) s (s.laneLeave l.val true) := by
  rw [Chip.laneLeave, if_pos hst]
  extract_lets s1 s2
  have h2 : LaneStep [Reg.LANE.LANE_STAT.RX_ASLEEP 0, Reg.LANE.CHK_STAT.CHK_LOCK 0] l s s2 :=
    ((LaneStep.refl _ l s).evc.setF.next (laneStep_setChkLock _ l false)).modLane
  rw [if_pos rfl]
  refine ⟨(Chip.getF_setF_self _ _ _ (by show 0 + 32 ≤ 32; decide)).trans ?_, ?_⟩
  · exact congrArg (fun x => (x + 1) % 2 ^ 32) (((LaneStep.refl [] l s2).raiseLane.getF).trans h2.getF)
  · exact (laneStep_setF _ l).keepsRecord (h2.thenRecorded (recorded_raiseLane s2 l))

/-! ## The coefficients and TRAIN -/

theorem laneStep_setTap {k v : Nat} (hk : k < 5) : LaneStep laneTaps l s (s.setF (Reg.LANE.TX_FFE.TAP l.val k) v) := by
  have haddr : Reg.LANE.TX_FFE.TAP l.val k = ⟨0x02000020 + 4 * k + 0x10000 * l.val, 0, 8⟩ := by
    unfold Reg.LANE.TX_FFE.TAP Reg.LANE.TX_FFE.addr
    rw [Nat.add_right_comm]
  rw [haddr]
  refine (LaneStep.refl _ l s).setF (laneKeeps_iff.mpr ⟨by dsimp only; omega, by simp⟩) ?_
  exact List.mem_map.mpr ⟨k, List.mem_range.mpr hk, rfl⟩

theorem laneStep_coefDiscard : LaneStep laneTaps l s (s.coefDiscard l.val) := by
  unfold Chip.coefDiscard
  extract_lets v s1
  have h1 : LaneStep laneTaps l s s1 := (LaneStep.refl _ l s).foldl fun u _ hk hu => hu.next (laneStep_setTap u l (List.mem_range.mp hk))
  exact h1.modLane

theorem laneStep_enterTrain : LaneStep (Reg.LANE.LANE_STAT.STATE 0 :: laneTaps) l s (s.enterTrain l.val) := by
  unfold Chip.enterTrain
  extract_lets v s1
  have h1 : LaneStep (Reg.LANE.LANE_STAT.STATE 0 :: laneTaps) l s s1 :=
    .ite (.refl _ l s) ((LaneStep.refl _ l s).foldl fun u _ hk hu => hu.next (laneStep_setTap u l (List.mem_range.mp hk)))
  exact h1.setF.modLane

theorem Chip.laneState_setF (v : Nat) : (s.setF (Reg.LANE.LANE_STAT.STATE l.val) v).laneState l.val = v % 8 :=
  Chip.getF_setF_self s _ v (by show 0 + 3 ≤ 32; decide)

theorem Chip.laneState_enterTrain : (s.enterTrain l.val).laneState l.val = 2 := Chip.laneState_setF _ l 2

/-! ## DETECT -/

/-- A lane that has just entered DETECT, before the signal decides whether it trains (R222). -/
def Chip.detectEntered (s : Chip) (k : Nat) (down : Bool) : Chip :=
  ((s.laneLeave k down).setF (Reg.LANE.LANE_STAT.STATE k) 1).modLane k fun v =>
    { v with detectAt := s.now, trained := false, cdr := false, finished := false, ready := false }

variable (down : Bool)

theorem laneStep_detectEntered : LaneStep (Reg.LANE.LANE_STAT.STATE 0 :: laneLeft) l s (s.detectEntered l.val down) :=
  ((LaneStep.refl _ l s).next (laneStep_laneLeave s l down)).setF.modLane

theorem Chip.laneState_detectEntered : (s.detectEntered l.val down).laneState l.val = 1 := Chip.laneState_setF _ l 1

/-- What an entry into DETECT writes once the lane has left ACTIVE. -/
def laneEntered : List Fld := [Reg.LANE.LANE_STAT.STATE 0, Reg.LANE.LANE_STAT.LOL 0] ++ laneShown ++ laneTaps

/-- The entry into DETECT by what the signal decides: with LOS nothing more; without it LOL is held, and a lane that trains goes on to TRAIN. -/
theorem Chip.laneDetect_eq : s.laneDetect l.val down =
    (if s.flag (Reg.LANE.LANE_STAT.LOS l.val) then s.detectEntered l.val down
      else if s.trains l.val then ((s.detectEntered l.val down).setLol l.val true).enterTrain l.val
      else (s.detectEntered l.val down).setLol l.val true).laneShow l.val := by
  have hentered := laneStep_detectEntered s l down
  have hlos : (s.detectEntered l.val down).flag (Reg.LANE.LANE_STAT.LOS l.val) = s.flag (Reg.LANE.LANE_STAT.LOS l.val) := hentered.flag
  have htrains : ((s.detectEntered l.val down).setLol l.val true).trains l.val = s.trains l.val :=
    (laneStep_setLol _ l true).trains.trans hentered.trains
  rw [← hlos, ← htrains]
  rfl

theorem laneStep_laneDetect_left : LaneStep laneEntered l (s.laneLeave l.val down) (s.laneDetect l.val down) := by
  have hentered : LaneStep laneEntered l (s.laneLeave l.val down) (s.detectEntered l.val down) := (LaneStep.refl _ l _).setF.modLane
  have hlol := hentered.next (laneStep_setLol _ l true)
  rw [Chip.laneDetect_eq]
  exact LaneStep.next (.ite hentered (.ite (hlol.next (laneStep_enterTrain _ l)) hlol)) (laneStep_laneShow _ l)

theorem laneStep_laneDetect : LaneStep (laneEntered ++ laneLeft) l s (s.laneDetect l.val down) :=
  ((LaneStep.refl _ l s).next (laneStep_laneLeave s l down)).next (laneStep_laneDetect_left s l down)

/-- The state that an entry into DETECT ends in (R222). -/
theorem Chip.laneState_laneDetect : (s.laneDetect l.val down).laneState l.val =
    if s.flag (Reg.LANE.LANE_STAT.LOS l.val) then 1 else if s.trains l.val then 2 else 1 := by
  have hdetect := s.laneState_detectEntered l down
  rw [Chip.laneDetect_eq, (laneStep_laneShow _ l).laneState]
  split
  · exact hdetect
  · split
    · exact Chip.laneState_enterTrain _ l
    · exact (laneStep_setLol _ l true).laneState.trans hdetect

/-- The state that an entry into DETECT ends in, by the signal and the settings before a step that left them. -/
theorem LaneStep.laneState_laneDetect {fs : List Fld} {s t : Chip} {l : Fin 16} (h : LaneStep fs l s t) (down : Bool)
    (hlos : laneKeeps fs (Reg.LANE.LANE_STAT.LOS 0) = true := by decide) (hcfg : laneKeeps fs ⟨0x02000000, 0, 32⟩ = true := by decide) :
    (t.laneDetect l.val down).laneState l.val = if s.flag (Reg.LANE.LANE_STAT.LOS l.val) then 1 else if s.trains l.val then 2 else 1 := by
  have hsignal : t.flag (Reg.LANE.LANE_STAT.LOS l.val) = s.flag (Reg.LANE.LANE_STAT.LOS l.val) := h.flag hlos
  rw [Chip.laneState_laneDetect, hsignal, h.trains hcfg]

/-- Without loss of signal LOL is held (R228). -/
theorem Chip.lol_laneDetect (hlos : s.flag (Reg.LANE.LANE_STAT.LOS l.val) = false) :
    (s.laneDetect l.val down).flag (Reg.LANE.LANE_STAT.LOL l.val) = true := by
  have hlol := (s.detectEntered l.val down).lol_setLol l true
  rw [Chip.laneDetect_eq, if_neg (by rw [hlos]; decide)]
  refine (laneStep_laneShow _ l).flag.trans ?_
  split
  · exact (laneStep_enterTrain _ l).flag.trans hlol
  · exact hlol

/-- A lane that goes from ACTIVE to DETECT other than by configuration counts it, and LANE_DOWN occurs. -/
theorem Chip.laneDetect_down (hst : s.laneState l.val = 5) :
    (s.laneDetect l.val true).getF (Reg.LANE.DOWN_CNT.COUNT l.val) = (s.getF (Reg.LANE.DOWN_CNT.COUNT l.val) + 1) % 2 ^ 32 ∧
      Recorded (Ev.LANE.LANE_DOWN l.val) s (s.laneDetect l.val true) := by
  obtain ⟨hcount, hdown⟩ := s.laneLeave_down l hst
  have hleft := laneStep_laneDetect_left s l true
  exact ⟨hleft.getF.trans hcount, hleft.keepsRecord hdown⟩

/-! ## DISABLED, ACTIVE and CAPS -/

theorem Chip.laneDisable_spec : (s.laneDisable l.val).laneState l.val = 0 ∧ (s.laneDisable l.val).flag (Reg.LANE.LANE_STAT.LOS l.val) = true ∧
    (s.laneDisable l.val).flag (Reg.LANE.LANE_STAT.LOL l.val) = false ∧
    LaneStep (Reg.LANE.LANE_STAT.STATE 0 :: laneDetectors ++ laneShown ++ laneTaps ++ laneLeft) l s (s.laneDisable l.val) := by
  unfold Chip.laneDisable
  extract_lets s1
  have hstate : s1.laneState l.val = 0 := (laneStep_coefDiscard _ l).laneState.trans (Chip.laneState_setF _ l 0)
  have hshow : LaneStep laneShown l (s1.quietDetectors l.val true)
      (((s1.quietDetectors l.val true).modLane l.val fun v => { v with trained := false, finished := false, ready := false }).laneShow l.val) :=
    (LaneStep.refl _ l _).modLane.next (laneStep_laneShow _ l)
  refine ⟨hshow.laneState.trans ((laneStep_quietDetectors s1 l true).laneState.trans hstate), hshow.flag.trans (s1.los_quietDetectors l true),
    hshow.flag.trans (s1.lol_quietDetectors l true), ?_⟩
  exact ((((LaneStep.refl _ l s).next (laneStep_laneLeave s l false)).setF.next (laneStep_coefDiscard _ l)).next
    (laneStep_quietDetectors s1 l true)).next hshow

theorem Chip.enterActive_spec : (s.enterActive l.val).laneState l.val = 5 ∧ Recorded (Ev.LANE.ACTIVE l.val) s (s.enterActive l.val) ∧
    LaneFrame l.val s (s.enterActive l.val) := by
  unfold Chip.enterActive
  extract_lets r s1 s2 s3
  have h1 : LaneStep [Reg.LANE.ACT_TIME.TIME 0, Reg.LANE.LANE_STAT.STATE 0] l s s1 :=
    ((LaneStep.refl _ l s).freeUsed (freeUsed_roundFree s _ _)).setF.setF
  have h3 : LaneStep (Reg.LANE.LANE_STAT.RX_ASLEEP 0 :: laneDetectors ++ laneShown) l s2 (s3.laneShow l.val) :=
    (LaneStep.ite ((LaneStep.refl _ l s2).setF.next (laneStep_quietDetectors _ l false)) (.refl _ l s2)).next (laneStep_laneShow _ l)
  have hstate : s2.laneState l.val = 5 := (LaneStep.refl [] l s1).raiseLane.laneState.trans (Chip.laneState_setF _ l 5)
  exact ⟨h3.laneState.trans hstate, h3.keepsRecord (h1.thenRecorded (recorded_raiseLane s1 l)), h1.raiseLane.frame.trans h3.frame⟩

theorem Chip.enterCaps_spec : (s.enterCaps l.val).laneState l.val = 4 ∧ LaneFrame l.val s (s.enterCaps l.val) :=
  ⟨(laneStep_laneShow _ l).laneState.trans (Chip.laneState_setF s l 4),
    ((LaneStep.refl [Reg.LANE.LANE_STAT.STATE 0] l s).setF.modLane.frame).trans (laneStep_laneShow _ l).frame⟩

end

end Sys2Proof.Machine
end

section
/-! SUPPORT. The enables of a lane and its detectors (R222, R223, R227 to R229). -/

namespace Sys2Proof.Machine

set_option Elab.async false

/-! ## LANE_CFG written -/

/-- Fields of two words that agree bit by bit are equal. -/
theorem Word.field_congr {x y : Word} {lo width : Nat} (h : ∀ i < width, x.getLsbD (lo + i) = y.getLsbD (lo + i)) :
    x.field lo width = y.field lo width := by
  refine Nat.eq_of_testBit_eq fun i => ?_
  rw [Word.testBit_field, Word.testBit_field]
  by_cases hi : i < width
  · rw [h i hi]
  · simp [hi]

/-- A one-bit field as a truth value is its bit. -/
theorem Word.field_one_eq (w : Word) (b : Nat) : (w.field b 1 == 1) = w.getLsbD b := by
  have hbit : (w.field b 1).testBit 0 = w.getLsbD b := by rw [Word.testBit_field]; simp
  have hlt := Word.field_lt w b 1
  rw [← hbit]
  generalize w.field b 1 = x at hlt ⊢
  interval_cases x <;> rfl

/-- The bits of LANE_CFG that a write sets (R239). -/
def laneCfgWord (w : Word) : Word := w &&& 0x03033F31#32

theorem getLsbD_laneCfgWord (w : Word) {i : Nat} (hi : (0x03033F31#32).getLsbD i = true) : (laneCfgWord w).getLsbD i = w.getLsbD i := by
  rw [laneCfgWord, BitVec.getLsbD_and, hi, Bool.and_true]

theorem field_rate_laneCfgWord (w : Word) : (laneCfgWord w).field 4 2 = w.field 4 2 :=
  Word.field_congr fun i hi => getLsbD_laneCfgWord w (by interval_cases i <;> rfl)

/-- LANE_CFG as a write leaves it, before what follows from the write. -/
def Chip.laneCfgSet (s : Chip) (k : Nat) (w : Word) : Chip := s.wr (Reg.LANE.LANE_CFG.addr k) (laneCfgWord w)

theorem Chip.flag_laneCfgSet (s : Chip) (k : Nat) {w : Word} {b : Nat} (hb : (0x03033F31#32).getLsbD b = true) :
    (s.laneCfgSet k w).flag ⟨Reg.LANE.LANE_CFG.addr k, b, 1⟩ = w.getLsbD b := by
  rw [Chip.flag, Chip.getF, Chip.laneCfgSet, Chip.rd_wr, if_pos rfl, Word.field_one_eq, getLsbD_laneCfgWord w hb]

theorem Chip.rate_laneCfgSet (s : Chip) (k : Nat) (w : Word) : (s.laneCfgSet k w).getF (Reg.LANE.LANE_CFG.RATE k) = w.field 4 2 := by
  unfold Reg.LANE.LANE_CFG.RATE
  rw [Chip.getF, Chip.laneCfgSet, Chip.rd_wr, if_pos rfl, field_rate_laneCfgWord]

theorem laneStep_laneCfgSet (s : Chip) (l : Fin 16) (w : Word) : LaneStep [⟨0x02000000, 0, 32⟩] l s (s.laneCfgSet l.val w) := laneStep_wr s l

section
variable {s : Chip} {k : Nat} {w : Word}

theorem Chip.laneCfgWrite_enables (hst : s.laneState k = 0) (hw : w.getLsbD 0 = true) :
    s.laneCfgWrite k w = ((s.laneCfgSet k w).coefDiscard k).laneDetect k false := by
  have hen : (laneCfgWord w).bit 0 = true := (getLsbD_laneCfgWord w rfl).trans hw
  exact (if_neg (by rw [← laneCfgWord, hen]; decide)).trans (if_pos hst)

theorem Chip.laneCfgWrite_disables (hst : s.laneState k ≠ 0) (hw : w.getLsbD 0 = false) :
    s.laneCfgWrite k w = (s.laneCfgSet k w).laneDisable k := by
  have hen : (laneCfgWord w).bit 0 = false := (getLsbD_laneCfgWord w rfl).trans hw
  exact (if_pos (by rw [← laneCfgWord, hen]; decide)).trans (if_neg hst)

/-- A change of the rate of an enabled lane discards its coefficients and restarts it. -/
theorem Chip.laneCfgWrite_rate (hst : s.laneState k ≠ 0) (hw : w.getLsbD 0 = true) (hrate : w.field 4 2 ≠ s.getF (Reg.LANE.LANE_CFG.RATE k)) :
    s.laneCfgWrite k w = (((s.laneCfgSet k w).laneLeave k false).coefDiscard k).laneDetect k false := by
  have hen : (laneCfgWord w).bit 0 = true := (getLsbD_laneCfgWord w rfl).trans hw
  have hfresh : (s.rd (Reg.LANE.LANE_CFG.addr k)).field 4 2 ≠ (laneCfgWord w).field 4 2 := by
    rw [field_rate_laneCfgWord]
    exact hrate.symm
  have hrestart : ∀ b8 b9 b10 near : Bool,
      ((decide ((s.rd (Reg.LANE.LANE_CFG.addr k)).field 4 2 ≠ (laneCfgWord w).field 4 2) || b8) || b9 || b10 || near) = true := by
    intros
    simp [hfresh]
  refine (if_neg (by rw [← laneCfgWord, hen]; decide)).trans ((if_neg hst).trans ((if_pos (hrestart _ _ _ _)).trans (if_pos ?_)))
  rw [← laneCfgWord, decide_eq_true hfresh, Bool.true_or]
end

theorem doLaneEnSet_spec {s : Chip} {l : Fin 16} (hst : s.laneState l.val = 0) (hlos : s.flag (Reg.LANE.LANE_STAT.LOS l.val) = true) :
    let t := doLaneEnSet l s
    t.flag (Reg.LANE.LANE_CFG.LANE_EN l.val) = true ∧ t.laneState l.val = 1 ∧ LaneFrame l.val s t := by
  have hw : (s.rd (Reg.LANE.LANE_CFG.addr l.val) ||| 1).getLsbD 0 = true := by simp
  rw [doLaneEnSet, Chip.laneCfgWrite_enables hst hw]
  have hset := laneStep_laneCfgSet s l (s.rd (Reg.LANE.LANE_CFG.addr l.val) ||| 1)
  have hen := s.flag_laneCfgSet l.val (w := s.rd (Reg.LANE.LANE_CFG.addr l.val) ||| 1) (b := 0) rfl
  generalize s.laneCfgSet l.val _ = u at hset hen ⊢
  have hcoef := laneStep_coefDiscard u l
  have hdetect := laneStep_laneDetect (u.coefDiscard l.val) l false
  refine ⟨hdetect.flag.trans (hcoef.flag.trans (hen.trans hw)), ?_, hset.frame.trans (hcoef.frame.trans hdetect.frame)⟩
  have hlos' : (u.coefDiscard l.val).flag (Reg.LANE.LANE_STAT.LOS l.val) = true := hcoef.flag.trans (hset.flag.trans hlos)
  rw [Chip.laneState_laneDetect, if_pos hlos']

theorem doLaneEnClear_spec {s : Chip} {l : Fin 16} (hst : s.laneState l.val ≠ 0) :
    let t := doLaneEnClear l s
    t.flag (Reg.LANE.LANE_CFG.LANE_EN l.val) = false ∧ t.laneState l.val = 0 ∧ t.flag (Reg.LANE.LANE_STAT.LOS l.val) = true ∧
      t.flag (Reg.LANE.LANE_STAT.LOL l.val) = false ∧ LaneFrame l.val s t := by
  have hw : (s.rd (Reg.LANE.LANE_CFG.addr l.val) &&& 0xFFFFFFFE#32).getLsbD 0 = false := by simp
  rw [doLaneEnClear, Chip.laneCfgWrite_disables hst hw]
  obtain ⟨hstate, hlos, hlol, hdisable⟩ := (s.laneCfgSet l.val (s.rd (Reg.LANE.LANE_CFG.addr l.val) &&& 0xFFFFFFFE#32)).laneDisable_spec l
  exact ⟨hdisable.flag.trans ((s.flag_laneCfgSet l.val rfl).trans hw), hstate, hlos, hlol, (laneStep_laneCfgSet s l _).frame.trans hdisable.frame⟩

/-- LANE_RECONFIG of a lane in ACTIVE with a new rate and without training (R223). -/
theorem doLaneReconfig_rate_spec {s : Chip} {l : Fin 16} {w : Word} (hst : s.laneState l.val = 5)
    (hen : s.flag (Reg.LANE.LANE_CFG.LANE_EN l.val) = true) (hlos : s.flag (Reg.LANE.LANE_STAT.LOS l.val) = false)
    (hrate : w.field 4 2 ≠ s.getF (Reg.LANE.LANE_CFG.RATE l.val)) (htrain : w.bit 9 = false) :
    let t := doLaneReconfig l w s
    t.laneState l.val = 1 ∧ t.getF (Reg.LANE.LANE_CFG.RATE l.val) = w.field 4 2 ∧ t.flag (Reg.LANE.LANE_CFG.LANE_EN l.val) = true ∧
      t.flag (Reg.LANE.LANE_STAT.LOL l.val) = true ∧ LaneFrame l.val s t := by
  rw [doLaneReconfig]
  generalize hword : (w &&& 0xFFFFFFFE#32) ||| (s.rd (Reg.LANE.LANE_CFG.addr l.val) &&& 1) = x
  have hx0 : x.getLsbD 0 = true := by
    have hbit : (s.rd (Reg.LANE.LANE_CFG.addr l.val)).getLsbD 0 = true := (Word.field_one_eq _ 0).symm.trans hen
    rw [← hword]
    simp [hbit]
  have hx9 : x.getLsbD 9 = false := by
    rw [← hword, BitVec.getLsbD_or, BitVec.getLsbD_and, show w.getLsbD 9 = false from htrain]
    simp
  have hxrate : x.field 4 2 = w.field 4 2 := Word.field_congr fun i hi => by
    rw [← hword]
    interval_cases i <;> simp
  rw [Chip.laneCfgWrite_rate (by omega) hx0 (hxrate.symm ▸ hrate)]
  have hset := laneStep_laneCfgSet s l x
  have hcfg := (s.flag_laneCfgSet l.val (w := x) (b := 0) rfl).trans hx0
  have hcfg9 := (s.flag_laneCfgSet l.val (w := x) (b := 9) rfl).trans hx9
  have hcfgRate := (s.rate_laneCfgSet l.val x).trans hxrate
  generalize s.laneCfgSet l.val x = u at hset hcfg hcfg9 hcfgRate ⊢
  have hleft : LaneStep (laneLeft ++ laneTaps) l u ((u.laneLeave l.val false).coefDiscard l.val) :=
    ((LaneStep.refl _ l u).next (laneStep_laneLeave u l false)).next (laneStep_coefDiscard _ l)
  have hdetect := laneStep_laneDetect ((u.laneLeave l.val false).coefDiscard l.val) l false
  have hlos' : ((u.laneLeave l.val false).coefDiscard l.val).flag (Reg.LANE.LANE_STAT.LOS l.val) = false := hleft.flag.trans (hset.flag.trans hlos)
  have htrains : ((u.laneLeave l.val false).coefDiscard l.val).trains l.val = false := by
    rw [hleft.trains, Chip.trains]
    exact Bool.and_eq_false_imp.mpr fun ht => absurd (hcfg9.symm.trans ht) (by decide)
  refine ⟨?_, hdetect.getF.trans (hleft.getF.trans hcfgRate), hdetect.flag.trans (hleft.flag.trans hcfg), Chip.lol_laneDetect _ l false hlos',
    hset.frame.trans (hleft.frame.trans hdetect.frame)⟩
  rw [Chip.laneState_laneDetect, if_neg (by rw [hlos']; decide), if_neg (by rw [htrains]; decide)]

/-! ## The detectors -/

/-- A lane whose CDR has locked (R222, R228). -/
def LaneSt.cdrLocked (v : LaneSt) : LaneSt := { v with cdr := true }

/-- A lane's count of passed windows after a failed one of a kind (R228). -/
def LaneSt.windowFailed (v : LaneSt) (errors : Bool) : LaneSt := if errors then { v with passE := 0 } else { v with passF := 0 }

/-- A lane's count of passed windows of symbol errors after one more (R228). -/
def LaneSt.errorsPassed (v : LaneSt) : LaneSt := { v with passE := v.passE + 1 }

section
variable {s : Chip} {l : Fin 16} (hdet : s.detects l.val = true)
include hdet

theorem doLaneLosAssert_active_spec (hst : s.laneState l.val = 5) (hlos : s.flag (Reg.LANE.LANE_STAT.LOS l.val) = false) :
    let t := doLaneLosAssert l s
    t.flag (Reg.LANE.LANE_STAT.LOS l.val) = true ∧ t.laneState l.val = 1 ∧
      t.getF (Reg.LANE.DOWN_CNT.COUNT l.val) = (s.getF (Reg.LANE.DOWN_CNT.COUNT l.val) + 1) % 2 ^ (Reg.LANE.DOWN_CNT.COUNT l.val).width ∧
      Recorded (Ev.LANE.LOS l.val) s t ∧ Recorded (Ev.LANE.LANE_DOWN l.val) s t ∧ LaneFrame l.val s t := by
  have hdo : doLaneLosAssert l s = (s.setLos l.val true).laneDetect l.val true := (if_pos hdet).trans (if_pos (by omega))
  have hset := laneStep_setLos s l true
  have hdetect := laneStep_laneDetect (s.setLos l.val true) l true
  obtain ⟨hcount, hdown⟩ := (s.setLos l.val true).laneDetect_down l (hset.laneState.trans hst)
  rw [hdo]
  refine ⟨hdetect.flag.trans (s.los_setLos l true), ?_, hcount.trans (congrArg (fun x => (x + 1) % 2 ^ 32) hset.getF),
    hdetect.keepsRecord (recorded_setLos s l hlos), hset.thenRecorded hdown, hset.frame.trans hdetect.frame⟩
  rw [Chip.laneState_laneDetect, if_pos (s.los_setLos l true)]

/-- LOS cleared, and LOL held unless the CDR is locked (R228). -/
def Chip.losCleared (s : Chip) (k : Nat) : Chip :=
  if ((s.setLos k false).laneOf k).cdr then s.setLos k false else (s.setLos k false).setLol k true

omit hdet in
theorem laneStep_losCleared : LaneStep laneDetectors l s (s.losCleared l.val) := by
  have hset : LaneStep laneDetectors l s (s.setLos l.val false) := (LaneStep.refl _ l s).next (laneStep_setLos s l false)
  exact .ite hset (hset.next (laneStep_setLol _ l true))

omit hdet in
theorem Chip.los_losCleared : (s.losCleared l.val).flag (Reg.LANE.LANE_STAT.LOS l.val) = false := by
  have hset := s.los_setLos l false
  unfold Chip.losCleared
  split
  · exact hset
  · exact (laneStep_setLol _ l true).flag.trans hset

theorem doLaneLosClear_trains_spec (hst : s.laneState l.val = 1) (htrains : s.trains l.val = true) :
    let t := doLaneLosClear l s
    t.flag (Reg.LANE.LANE_STAT.LOS l.val) = false ∧ t.laneState l.val = 2 ∧ LaneFrame l.val s t := by
  have hcleared := laneStep_losCleared (s := s) (l := l)
  have hdo : doLaneLosClear l s = ((s.losCleared l.val).enterTrain l.val).laneShow l.val :=
    (if_pos hdet).trans (congrArg (Chip.laneShow · l.val) (if_pos ⟨hcleared.laneState.trans hst, hcleared.trains.trans htrains⟩))
  have htrain := laneStep_enterTrain (s.losCleared l.val) l
  have hshow := laneStep_laneShow ((s.losCleared l.val).enterTrain l.val) l
  rw [hdo]
  exact ⟨hshow.flag.trans (htrain.flag.trans Chip.los_losCleared), hshow.laneState.trans (Chip.laneState_enterTrain _ l),
    hcleared.frame.trans (htrain.frame.trans hshow.frame)⟩

theorem doCdrLock_spec (hst : s.laneState l.val = 1) (htrains : s.trains l.val = false) (hlos : s.flag (Reg.LANE.LANE_STAT.LOS l.val) = false) :
    let t := doCdrLock l s
    t.laneState l.val = 3 ∧ (t.laneOf l.val).cdr = true ∧ LaneFrame l.val s t := by
  have hdo : doCdrLock l s = ((s.modLane l.val LaneSt.cdrLocked).setF (Reg.LANE.LANE_STAT.STATE l.val) 3).laneShow l.val :=
    (if_pos hdet).trans (congrArg (Chip.laneShow · l.val) (if_pos ⟨hst, htrains, hlos⟩))
  have hset : LaneStep [Reg.LANE.LANE_STAT.STATE 0] l s ((s.modLane l.val LaneSt.cdrLocked).setF (Reg.LANE.LANE_STAT.STATE l.val) 3) :=
    (LaneStep.refl _ l s).modLane.setF
  have hshow := laneStep_laneShow ((s.modLane l.val LaneSt.cdrLocked).setF (Reg.LANE.LANE_STAT.STATE l.val) 3) l
  have hlane : ((s.modLane l.val LaneSt.cdrLocked).setF (Reg.LANE.LANE_STAT.STATE l.val) 3).laneOf l.val = (s.laneOf l.val).cdrLocked :=
    (Chip.laneOf_congr (Chip.setF_lane _ _ _) l.val).trans (s.laneOf_modLane_self l.val _)
  rw [hdo]
  refine ⟨hshow.laneState.trans (Chip.laneState_setF _ l 3), ?_, hset.frame.trans hshow.frame⟩
  exact congrArg LaneSt.cdr ((Chip.laneOf_laneShow _ l.val l.val).trans hlane)

/-! ## The windows of loss of lock -/

omit hdet in
/-- Loss of lock in ACTIVE takes the lane to DETECT (R222). -/
theorem Chip.lolAsserted_active (u : Chip) (k : Nat) (hlol : u.flag (Reg.LANE.LANE_STAT.LOL k) = false) (hst : u.laneState k = 5) :
    u.lolAsserted k = (u.setLol k true).laneDetect k true := (if_neg (by rw [hlol]; decide)).trans (if_pos hst)

omit hdet in
theorem Chip.lolAsserted_active_spec (hst : s.laneState l.val = 5) (htrains : s.trains l.val = false)
    (hlos : s.flag (Reg.LANE.LANE_STAT.LOS l.val) = false) (hlol : s.flag (Reg.LANE.LANE_STAT.LOL l.val) = false) :
    let t := s.lolAsserted l.val
    t.flag (Reg.LANE.LANE_STAT.LOL l.val) = true ∧ t.laneState l.val = 1 ∧ Recorded (Ev.LANE.LOL l.val) s t ∧
      Recorded (Ev.LANE.LANE_DOWN l.val) s t ∧ LaneFrame l.val s t := by
  have hset := laneStep_setLol s l true
  have hlos' : (s.setLol l.val true).flag (Reg.LANE.LANE_STAT.LOS l.val) = false := hset.flag.trans hlos
  have hdetect := laneStep_laneDetect (s.setLol l.val true) l true
  obtain ⟨-, hdown⟩ := (s.setLol l.val true).laneDetect_down l (hset.laneState.trans hst)
  rw [s.lolAsserted_active l.val hlol hst]
  refine ⟨Chip.lol_laneDetect _ l true hlos', ?_, hdetect.keepsRecord (recorded_setLol s l hlol), hset.thenRecorded hdown,
    hset.frame.trans hdetect.frame⟩
  rw [hset.laneState_laneDetect true, if_neg (by rw [hlos]; decide), if_neg (by rw [htrains]; decide)]

theorem doLolWindow_fails_spec {errors : Bool} {m : Nat} (bits errs : Nat) (hfails : s.windowFails l.val errors m = true)
    (hst : s.laneState l.val = 5) (htrains : s.trains l.val = false) (hlos : s.flag (Reg.LANE.LANE_STAT.LOS l.val) = false)
    (hlol : s.flag (Reg.LANE.LANE_STAT.LOL l.val) = false) :
    let t := doLolWindow l errors m bits errs s
    t.flag (Reg.LANE.LANE_STAT.LOL l.val) = true ∧ t.laneState l.val = 1 ∧ Recorded (Ev.LANE.LOL l.val) s t ∧
      Recorded (Ev.LANE.LANE_DOWN l.val) s t ∧ LaneFrame l.val s t := by
  have hcount := laneStep_chkCount s l bits errs
  have hdo : doLolWindow l errors m bits errs s = ((s.chkCount l.val bits errs).modLane l.val (·.windowFailed errors)).lolAsserted l.val :=
    (if_neg (by rw [hcount.detects, hdet]; decide)).trans (if_pos (hcount.windowFails.trans hfails))
  have hmod : LaneStep laneCounts l s ((s.chkCount l.val bits errs).modLane l.val (·.windowFailed errors)) := hcount.modLane
  rw [hdo]
  obtain ⟨hlol', hst', hlolRec, hdownRec, hframe⟩ := Chip.lolAsserted_active_spec (hmod.laneState.trans hst) (hmod.trains.trans htrains)
    (hmod.flag.trans hlos) (hmod.flag.trans hlol)
  exact ⟨hlol', hst', hmod.thenRecorded hlolRec, hmod.thenRecorded hdownRec, hmod.frame.trans hframe⟩

/-- A passed window of symbol errors that is the second of its kind, with the CDR locked, clears LOL (R228). -/
theorem doLolWindow_passes_spec {m : Nat} (bits errs : Nat) (hfails : s.windowFails l.val true m = false) (hcdr : (s.laneOf l.val).cdr = true)
    (hpassE : 1 ≤ (s.laneOf l.val).passE) (hpassF : 2 ≤ (s.laneOf l.val).passF) :
    let t := doLolWindow l true m bits errs s
    t.flag (Reg.LANE.LANE_STAT.LOL l.val) = false ∧ t.laneState l.val = s.laneState l.val ∧ LaneFrame l.val s t := by
  have hcount := laneStep_chkCount s l bits errs
  have hlane : (s.chkCount l.val bits errs).laneOf l.val = s.laneOf l.val := Chip.laneOf_congr (quiet_chkCount s bits errs l.val).lane l.val
  have hmod : LaneStep laneCounts l s ((s.chkCount l.val bits errs).modLane l.val LaneSt.errorsPassed) := hcount.modLane
  have hpassed : ((s.chkCount l.val bits errs).modLane l.val LaneSt.errorsPassed).laneOf l.val = (s.laneOf l.val).errorsPassed := by
    rw [Chip.laneOf_modLane_self, hlane]
  have hdo : doLolWindow l true m bits errs s =
      (((s.chkCount l.val bits errs).modLane l.val LaneSt.errorsPassed).setLol l.val false).laneShow l.val := by
    refine (if_neg (by rw [hcount.detects, hdet]; decide)).trans ((if_neg (by rw [hcount.windowFails, hfails]; decide)).trans (if_pos ?_))
    show 2 ≤ (Chip.laneOf (Chip.modLane _ _ LaneSt.errorsPassed) _).passE ∧ 2 ≤ (Chip.laneOf (Chip.modLane _ _ LaneSt.errorsPassed) _).passF ∧
      (!(Chip.laneOf (Chip.modLane _ _ LaneSt.errorsPassed) _).cdr && _) = false
    rw [hpassed]
    exact ⟨Nat.succ_le_succ hpassE, hpassF, by rw [LaneSt.errorsPassed, hcdr]; rfl⟩
  have hset := laneStep_setLol ((s.chkCount l.val bits errs).modLane l.val LaneSt.errorsPassed) l false
  have hshow := laneStep_laneShow (((s.chkCount l.val bits errs).modLane l.val LaneSt.errorsPassed).setLol l.val false) l
  rw [hdo]
  exact ⟨hshow.flag.trans (Chip.lol_setLol _ l false), hshow.laneState.trans (hset.laneState.trans hmod.laneState),
    hmod.frame.trans (hset.frame.trans hshow.frame)⟩

end

/-- Settles O28, clause by clause: a write of LANE_CFG by what it restarts, a detector by the state it leads to. -/
theorem laneStates : Obligations.LaneStates := by
  refine ⟨fun s l => ⟨fun hst hlos => answers_of_to rfl (doLaneEnSet_spec hst hlos), fun hst => answers_of_to rfl (doLaneEnClear_spec hst),
      fun w hst hen hlos hrate htrain => answers_of_to rfl (doLaneReconfig_rate_spec hst hen hlos hrate htrain)⟩,
    fun s l hdet => ⟨fun hst hlos => answers_of_to rfl (doLaneLosAssert_active_spec hdet hst hlos),
      fun hst htrains => answers_of_to rfl (doLaneLosClear_trains_spec hdet hst htrains),
      fun errors m bits errs hfails hst htrains hlos hlol =>
        answers_of_to rfl (doLolWindow_fails_spec hdet bits errs hfails hst htrains hlos hlol),
      fun m bits errs hfails hcdr hpassE hpassF => answers_of_to rfl (doLolWindow_passes_spec hdet bits errs hfails hcdr hpassE hpassF),
      fun hst htrains hlos => answers_of_to rfl (doCdrLock_spec hdet hst htrains hlos)⟩⟩

end Sys2Proof.Machine
end

section
/-! SUPPORT. Training of a lane and the exchange of capabilities (R219, R222, R226). -/

namespace Sys2Proof.Machine

set_option Elab.async false

section
variable {s : Chip} {l : Fin 16}

/-! ## Training -/

/-- A lane whose training has converged: its CDR is locked, and precoding is as the two ends agreed (R219). -/
def LaneSt.converged (v : LaneSt) (tx rx : Bool) : LaneSt := { v with cdr := true, preTx := tx, preRx := rx }

theorem doTrainConverged_spec (tx rx : Bool) (hst : s.laneState l.val = 2) :
    let t := doTrainConverged l tx rx s
    t.laneState l.val = 3 ∧ (t.laneOf l.val).cdr = true ∧ (t.laneOf l.val).preTx = tx ∧ (t.laneOf l.val).preRx = rx ∧ LaneFrame l.val s t := by
  have hdo : doTrainConverged l tx rx s = ((s.setF (Reg.LANE.LANE_STAT.STATE l.val) 3).modLane l.val (·.converged tx rx)).laneShow l.val :=
    if_pos hst
  have hset : LaneStep [Reg.LANE.LANE_STAT.STATE 0] l s ((s.setF (Reg.LANE.LANE_STAT.STATE l.val) 3).modLane l.val (·.converged tx rx)) :=
    (LaneStep.refl _ l s).setF.modLane
  have hshow := laneStep_laneShow ((s.setF (Reg.LANE.LANE_STAT.STATE l.val) 3).modLane l.val (·.converged tx rx)) l
  have hlane := (Chip.laneOf_laneShow _ l.val l.val).trans
    ((s.setF (Reg.LANE.LANE_STAT.STATE l.val) 3).laneOf_modLane_self l.val (·.converged tx rx))
  rw [hdo]
  exact ⟨hshow.laneState.trans (Chip.laneState_setF s l 3), congrArg LaneSt.cdr hlane, congrArg LaneSt.preTx hlane, congrArg LaneSt.preRx hlane,
    hset.frame.trans hshow.frame⟩

theorem doLockHoldExpired_spec (hst : s.laneState l.val = 3) (hlos : s.flag (Reg.LANE.LANE_STAT.LOS l.val) = false)
    (hlol : s.flag (Reg.LANE.LANE_STAT.LOL l.val) = false) :
    let t := doLockHoldExpired l s
    t.laneState l.val = (if s.trains l.val then 4 else 5) ∧ (s.trains l.val = false → Recorded (Ev.LANE.ACTIVE l.val) s t) ∧
      LaneFrame l.val s t := by
  have hdo : doLockHoldExpired l s = if s.trains l.val then s.enterCaps l.val else s.enterActive l.val := if_pos ⟨hst, hlos, hlol⟩
  obtain ⟨hcapsState, hcapsFrame⟩ := s.enterCaps_spec l
  obtain ⟨hactState, hactRec, hactFrame⟩ := s.enterActive_spec l
  rw [hdo]
  cases htrains : s.trains l.val
  · exact ⟨hactState, fun _ => hactRec, hactFrame⟩
  · exact ⟨hcapsState, fun h => absurd h (by decide), hcapsFrame⟩

theorem doTrainFail_spec (hlo : 2 ≤ s.laneState l.val) (hhi : s.laneState l.val ≤ 4) (htrained : (s.laneOf l.val).trained = true) :
    let t := doTrainFail l s
    t.laneState l.val = (if s.flag (Reg.LANE.LANE_STAT.LOS l.val) then 1 else if s.trains l.val then 2 else 1) ∧
      Recorded (Ev.LANE.TRAIN_FAIL l.val) s t ∧
      t.getF (Reg.LANE.TRAIN_FAIL_CNT.COUNT l.val) =
        (s.getF (Reg.LANE.TRAIN_FAIL_CNT.COUNT l.val) + 1) % 2 ^ (Reg.LANE.TRAIN_FAIL_CNT.COUNT l.val).width ∧ LaneFrame l.val s t := by
  have hdo : doTrainFail l s = ((s.raiseLane l.val Ev.LANE.TRAIN_FAIL).bump (Reg.LANE.TRAIN_FAIL_CNT.COUNT l.val)).laneDetect l.val true :=
    if_pos ⟨hlo, hhi, htrained⟩
  have hraise : LaneStep [] l s (s.raiseLane l.val Ev.LANE.TRAIN_FAIL) := (LaneStep.refl _ l s).raiseLane
  have hbump : LaneStep [Reg.LANE.TRAIN_FAIL_CNT.COUNT 0] l s
      ((s.raiseLane l.val Ev.LANE.TRAIN_FAIL).bump (Reg.LANE.TRAIN_FAIL_CNT.COUNT l.val)) := (LaneStep.refl _ l s).raiseLane.setF
  have hdetect := laneStep_laneDetect ((s.raiseLane l.val Ev.LANE.TRAIN_FAIL).bump (Reg.LANE.TRAIN_FAIL_CNT.COUNT l.val)) l true
  have hcount : ((s.raiseLane l.val Ev.LANE.TRAIN_FAIL).bump (Reg.LANE.TRAIN_FAIL_CNT.COUNT l.val)).getF (Reg.LANE.TRAIN_FAIL_CNT.COUNT l.val) =
      (s.getF (Reg.LANE.TRAIN_FAIL_CNT.COUNT l.val) + 1) % 2 ^ 32 :=
    (Chip.getF_setF_self _ _ _ (by show 0 + 32 ≤ 32; decide)).trans (congrArg (fun x => (x + 1) % 2 ^ 32) hraise.getF)
  rw [hdo]
  exact ⟨hbump.laneState_laneDetect true, hdetect.keepsRecord ((laneStep_setF _ l).keepsRecord (recorded_raiseLane s l)), hdetect.getF.trans hcount,
    hbump.frame.trans hdetect.frame⟩

/-! ## The exchange of capabilities -/

theorem doCapsTimeout_required_spec (hst : s.laneState l.val = 4) (hfin : (s.laneOf l.val).finished = false)
    (hreq : s.flag (Reg.LANE.LANE_CFG.CAPS_REQ l.val) = true) :
    let t := doCapsTimeout l s
    t.laneState l.val = (if s.flag (Reg.LANE.LANE_STAT.LOS l.val) then 1 else if s.trains l.val then 2 else 1) ∧
      Recorded (Ev.LANE.CAPS_FAIL l.val) s t ∧ LaneFrame l.val s t := by
  have hdo : doCapsTimeout l s = ((s.raiseLane l.val Ev.LANE.CAPS_FAIL).bump (Reg.LANE.CAPS_FAIL_CNT.COUNT l.val)).laneDetect l.val true :=
    (if_pos ⟨hst, hfin⟩).trans (if_pos hreq)
  have hbump : LaneStep [Reg.LANE.CAPS_FAIL_CNT.COUNT 0] l s
      ((s.raiseLane l.val Ev.LANE.CAPS_FAIL).bump (Reg.LANE.CAPS_FAIL_CNT.COUNT l.val)) := (LaneStep.refl _ l s).raiseLane.setF
  have hdetect := laneStep_laneDetect ((s.raiseLane l.val Ev.LANE.CAPS_FAIL).bump (Reg.LANE.CAPS_FAIL_CNT.COUNT l.val)) l true
  rw [hdo]
  exact ⟨hbump.laneState_laneDetect true, hdetect.keepsRecord ((laneStep_setF _ l).keepsRecord (recorded_raiseLane s l)),
    hbump.frame.trans hdetect.frame⟩

/-- A lane after a valid word that repeats the last one and acknowledges (R226). -/
def LaneSt.wordAccepted (v : LaneSt) (w : Nat) : LaneSt := { v with accepted := some w, lastWord := some w, ackSeen := true }

theorem doCapsWordRx_completes {w : BitVec 64} {sent : Nat} (hst : s.laneState l.val = 4) (hfin : (s.laneOf l.val).finished = false)
    (hvalid : capsValid w.toNat = true) (hlast : (s.laneOf l.val).lastWord = some w.toNat) (hack : w.getLsbD 59 = true) (hsent : 2 ≤ sent) :
    doCapsWordRx l w sent s = (s.modLane l.val fun _ => (s.laneOf l.val).wordAccepted w.toNat).capsComplete l.val w.toNat := by
  have hbit : w.toNat.testBit 59 = true := hack
  have hopen : s.laneState l.val = 4 ∧ (s.laneOf l.val).finished = false := ⟨hst, hfin⟩
  rw [doCapsWordRx]
  dsimp only
  rw [if_pos hopen]
  simp [LaneSt.wordAccepted, hvalid, hlast, hbit, hsent]

/-- A lane that has taken the far end's word, before the word is compared with its own (R226). -/
def Chip.capsTaken (s : Chip) (k w : Nat) : Chip :=
  ((s.setPair (Reg.LANE.CAPS_RX_LO.addr k) w).setFlag (Reg.LANE.LANE_STAT.CAPS_PEER k) true).raiseLane k Ev.LANE.CAPS_DONE

/-- The word compared with the lane's own (R226). -/
def Chip.capsCompared (s : Chip) (k w : Nat) : Chip :=
  if (s.capsMismatch k w).1 then (s.capsMismatch k w).2.raiseLane k Ev.LANE.CAPS_MISMATCH else (s.capsMismatch k w).2

/-- What the far end's word writes. -/
def laneCaps : List Fld := [Reg.LANE.CAPS_RX_LO.WORD 0, Reg.LANE.CAPS_RX_HI.WORD 0, Reg.LANE.LANE_STAT.CAPS_PEER 0]

theorem Chip.capsTaken_spec (s : Chip) (l : Fin 16) {w : Nat} (hw : w < 2 ^ 64) :
    let t := s.capsTaken l.val w
    t.flag (Reg.LANE.LANE_STAT.CAPS_PEER l.val) = true ∧ t.getPair (Reg.LANE.CAPS_RX_LO.addr l.val) = w ∧
      Recorded (Ev.LANE.CAPS_DONE l.val) s t ∧ LaneStep laneCaps l s t := by
  have hset : LaneStep laneCaps l s ((s.setPair (Reg.LANE.CAPS_RX_LO.addr l.val) w).setFlag (Reg.LANE.LANE_STAT.CAPS_PEER l.val) true) :=
    ((LaneStep.refl _ l s).next (laneStep_setPair s l)).setF
  have hafter : LaneStep [Reg.LANE.LANE_STAT.CAPS_PEER 0] l (s.setPair (Reg.LANE.CAPS_RX_LO.addr l.val) w) (s.capsTaken l.val w) :=
    (LaneStep.refl _ l _).setF.raiseLane
  refine ⟨(LaneStep.refl [] l _).raiseLane.flag.trans (Chip.flag_setFlag_self _ _ true rfl (by show 16 < 32; decide)),
    hafter.getPair.trans ((s.getPair_setPair _ w).trans (Nat.mod_eq_of_lt hw)), hset.thenRecorded (recorded_raiseLane _ l), hset.raiseLane⟩

theorem Chip.lane_capsTaken (s : Chip) (k w : Nat) : (s.capsTaken k w).lane = s.lane := (quiet_raiseLane _ k _).lane.trans rfl

theorem freeUsed_capsMismatch (s : Chip) (k w : Nat) : FreeUsed s (s.capsMismatch k w).2 := by
  unfold Chip.capsMismatch
  split
  · exact .refl s
  · exact (freeUsed_free s).trans (freeUsed_free _)

theorem laneStep_capsCompared (s : Chip) (l : Fin 16) (w : Nat) : LaneStep [] l s (s.capsCompared l.val w) := by
  have hfree := (LaneStep.refl [] l s).freeUsed (freeUsed_capsMismatch s l.val w)
  exact .ite hfree.raiseLane hfree

theorem Chip.lane_capsCompared (s : Chip) (k w : Nat) : (s.capsCompared k w).lane = s.lane := by
  have hfree := (freeUsed_capsMismatch s k w).lane
  unfold Chip.capsCompared
  split
  · exact (quiet_raiseLane _ k _).lane.trans hfree
  · exact hfree

/-- A completed exchange where the far end is not yet ready (R226). -/
theorem Chip.capsComplete_spec {w : Nat} (hw : w < 2 ^ 64) (hst : s.laneState l.val = 4) (hready : (s.laneOf l.val).ready = false) :
    let t := s.capsComplete l.val w
    t.laneState l.val = 4 ∧ (t.laneOf l.val).finished = true ∧ t.flag (Reg.LANE.LANE_STAT.CAPS_PEER l.val) = true ∧
      t.getPair (Reg.LANE.CAPS_RX_LO.addr l.val) = w ∧ Recorded (Ev.LANE.CAPS_DONE l.val) s t ∧ LaneFrame l.val s t := by
  obtain ⟨hpeer, hpair, hrec, htaken⟩ := s.capsTaken_spec l hw
  have hcompared := laneStep_capsCompared (s.capsTaken l.val w) l w
  have hlane : ((s.capsTaken l.val w).capsCompared l.val w).laneOf l.val = s.laneOf l.val :=
    Chip.laneOf_congr ((Chip.lane_capsCompared _ l.val w).trans (s.lane_capsTaken l.val w)) l.val
  have hfinished := ((s.capsTaken l.val w).capsCompared l.val w).laneOf_modLane_self l.val fun v => { v with finished := true }
  rw [hlane] at hfinished
  have hdo : s.capsComplete l.val w = ((s.capsTaken l.val w).capsCompared l.val w).modLane l.val fun v => { v with finished := true } :=
    if_neg fun hc => absurd (((congrArg LaneSt.ready hfinished).symm.trans hc.2.2).symm.trans hready) (by decide)
  have hafter : LaneStep [] l (s.capsTaken l.val w)
      (((s.capsTaken l.val w).capsCompared l.val w).modLane l.val fun v => { v with finished := true }) := hcompared.modLane
  rw [hdo]
  exact ⟨hafter.laneState.trans (htaken.laneState.trans hst), congrArg LaneSt.finished hfinished, hafter.flag.trans hpeer,
    hafter.getPair.trans hpair, hafter.keepsRecord hrec, htaken.frame.trans hafter.frame⟩

theorem doReadyRx_spec (hst : s.laneState l.val = 4) (hfin : (s.laneOf l.val).finished = true) :
    let t := doReadyRx l s
    t.laneState l.val = 5 ∧ Recorded (Ev.LANE.ACTIVE l.val) s t ∧ LaneFrame l.val s t := by
  have hmod : LaneStep [] l s (s.modLane l.val fun v => { v with ready := true }) := (LaneStep.refl _ l s).modLane
  have hlane := s.laneOf_modLane_self l.val fun v => { v with ready := true }
  have hdo : doReadyRx l s = (s.modLane l.val fun v => { v with ready := true }).enterActive l.val :=
    (if_pos hst).trans (if_pos ⟨hmod.laneState.trans hst, (congrArg LaneSt.finished hlane).trans hfin, congrArg LaneSt.ready hlane⟩)
  obtain ⟨hstate, hrec, hframe⟩ := (s.modLane l.val fun v => { v with ready := true }).enterActive_spec l
  rw [hdo]
  exact ⟨hstate, hmod.thenRecorded hrec, hmod.frame.trans hframe⟩

/-- At rate 0 a request in TRAIN sets its tap, whichever it is (R219). -/
theorem doCoeffRequest_spec (k : Fin 5) (tap : BitVec 8) (hst : s.laneState l.val = 2) (hrate : s.rateCode l.val = 0) :
    let t := doCoeffRequest l k tap s
    t.getF (Reg.LANE.TX_FFE.TAP l.val k.val) = tap.toNat ∧ Kept [Reg.LANE.TX_FFE.TAP l.val k.val] s t ∧ Quiet s t := by
  have hdo : doCoeffRequest l k tap s = s.setF (Reg.LANE.TX_FFE.TAP l.val k.val) tap.toNat := if_pos ⟨hst, fun h => h.2 hrate⟩
  rw [hdo]
  exact ⟨(Chip.getF_setF_self _ _ _ (by show 0 + 8 ≤ 32; decide)).trans (Nat.mod_eq_of_lt tap.isLt), keptBut_setF _ _ _, quiet_setF _ _ _⟩

end

/-- Settles O29, clause by clause: each command by the entry that it leads to. -/
theorem laneTraining : Obligations.LaneTraining := by
  intro s l st again
  refine ⟨fun tx rx hst => answers_of_to rfl (doTrainConverged_spec tx rx hst),
    fun hst hlos hlol => answers_of_to rfl (doLockHoldExpired_spec hst hlos hlol),
    fun hlo hhi htrained => answers_of_to rfl (doTrainFail_spec hlo hhi htrained),
    fun hst hfin hreq => answers_of_to rfl (doCapsTimeout_required_spec hst hfin hreq),
    fun w sent hst hfin hready hvalid hlast hack hsent => answers_of_to rfl ?_,
    fun hst hfin => answers_of_to rfl (doReadyRx_spec hst hfin), fun k tap hst hrate => answers_of_to rfl (doCoeffRequest_spec k tap hst hrate)⟩
  have hmod : LaneStep [] l s.chip (s.chip.modLane l.val fun _ => (s.chip.laneOf l.val).wordAccepted w.toNat) := (LaneStep.refl _ l s.chip).modLane
  have hlane := s.chip.laneOf_modLane_self l.val fun _ => (s.chip.laneOf l.val).wordAccepted w.toNat
  rw [doCapsWordRx_completes hst hfin hvalid hlast hack hsent]
  obtain ⟨hstate, hdone, hpeer, hword, hrec, hframe⟩ := Chip.capsComplete_spec w.isLt (hmod.laneState.trans hst)
      ((congrArg LaneSt.ready hlane).trans hready)
  exact ⟨hstate, hdone, hpeer, hword, hmod.thenRecorded hrec, hmod.frame.trans hframe⟩

end Sys2Proof.Machine
end

section
/-! SUPPORT. Sleep of a lane, its checker, and the errors injected into it (R231 to R233, R236, R237). -/

namespace Sys2Proof.Machine

set_option Elab.async false

section
variable {s : Chip} {l : Fin 16}

/-! ## Sleep and wake of the transmitter -/

/-- Whether LANE_SLEEP takes a write of TX_SLEEP: unless it asks a peer without the capability to sleep (R232). -/
theorem Chip.txSleepWrite_taken {b : Bool} (h : b = false ∨ s.flag (Reg.LANE.LANE_STAT.CAPS_PEER l.val) = false) :
    s.txSleepWrite l.val b = (s.setFlag (Reg.LANE.LANE_SLEEP.TX_SLEEP l.val) b).laneShow l.val := by
  rcases h with rfl | hpeer
  · rfl
  · unfold Chip.txSleepWrite
    rw [hpeer]
    cases b <;> rfl

theorem Chip.txSleepWrite_refused (hpeer : s.flag (Reg.LANE.LANE_STAT.CAPS_PEER l.val) = true)
    (hcap : (s.getPair (Reg.LANE.CAPS_RX_LO.addr l.val)).testBit 54 = false) :
    s.txSleepWrite l.val true =
      ((s.setFlag (Reg.LANE.LANE_SLEEP.TX_SLEEP l.val) false).raiseLane l.val Ev.LANE.SLEEP_REFUSED).laneShow l.val := by
  unfold Chip.txSleepWrite
  rw [hpeer, hcap]
  rfl

theorem Chip.txSleep_setFlag (s : Chip) (l : Fin 16) (b : Bool) :
    (s.setFlag (Reg.LANE.LANE_SLEEP.TX_SLEEP l.val) b).flag (Reg.LANE.LANE_SLEEP.TX_SLEEP l.val) = b :=
  Chip.flag_setFlag_self s _ b rfl (by show 0 < 32; decide)

/-- A write of TX_SLEEP that is taken, of a lane in ACTIVE that is not looped back at its far end. -/
theorem Chip.txSleepWrite_taken_spec {b : Bool} (hst : s.laneState l.val = 5) (hfar : b = true → s.farLoop l.val = false)
    (h : b = false ∨ s.flag (Reg.LANE.LANE_STAT.CAPS_PEER l.val) = false) :
    let t := s.txSleepWrite l.val b
    t.flag (Reg.LANE.LANE_SLEEP.TX_SLEEP l.val) = b ∧ t.flag (Reg.LANE.LANE_STAT.TX_ASLEEP l.val) = b ∧ t.laneState l.val = 5 ∧
      LaneFrame l.val s t := by
  have hset : LaneStep [Reg.LANE.LANE_SLEEP.TX_SLEEP 0] l s (s.setFlag (Reg.LANE.LANE_SLEEP.TX_SLEEP l.val) b) := (LaneStep.refl _ l s).setF
  have hshow := laneStep_laneShow (s.setFlag (Reg.LANE.LANE_SLEEP.TX_SLEEP l.val) b) l
  have hst' := hset.laneState.trans hst
  rw [Chip.txSleepWrite_taken h]
  refine ⟨hshow.flag.trans (s.txSleep_setFlag l b), ?_, hshow.laneState.trans hst', hset.frame.trans hshow.frame⟩
  rw [Chip.txAsleep_laneShow, hst', s.txSleep_setFlag l b, hset.farLoop]
  cases b
  · rfl
  · rw [hfar rfl]
    rfl

theorem Chip.txSleepWrite_refused_spec (hpeer : s.flag (Reg.LANE.LANE_STAT.CAPS_PEER l.val) = true)
    (hcap : (s.getPair (Reg.LANE.CAPS_RX_LO.addr l.val)).testBit 54 = false) :
    let t := s.txSleepWrite l.val true
    t.flag (Reg.LANE.LANE_SLEEP.TX_SLEEP l.val) = false ∧ Recorded (Ev.LANE.SLEEP_REFUSED l.val) s t ∧ LaneFrame l.val s t := by
  have hset : LaneStep [Reg.LANE.LANE_SLEEP.TX_SLEEP 0] l s (s.setFlag (Reg.LANE.LANE_SLEEP.TX_SLEEP l.val) false) := (LaneStep.refl _ l s).setF
  have hafter : LaneStep laneShown l (s.setFlag (Reg.LANE.LANE_SLEEP.TX_SLEEP l.val) false)
      (((s.setFlag (Reg.LANE.LANE_SLEEP.TX_SLEEP l.val) false).raiseLane l.val Ev.LANE.SLEEP_REFUSED).laneShow l.val) :=
    (LaneStep.refl _ l _).raiseLane.next (laneStep_laneShow _ l)
  rw [Chip.txSleepWrite_refused hpeer hcap]
  exact ⟨hafter.flag.trans (s.txSleep_setFlag l false), hset.thenRecorded ((laneStep_laneShow _ l).keepsRecord (recorded_raiseLane _ l)),
    hset.frame.trans hafter.frame⟩

/-! ## Sleep and wake of the receiver -/

/-- A lane in ACTIVE whose receiver has just gone to sleep (R229, R231). -/
def Chip.rxAsleep (s : Chip) (k : Nat) : Chip :=
  ((s.setFlag (Reg.LANE.LANE_SLEEP.RX_SLEEP k) true).setFlag (Reg.LANE.LANE_STAT.RX_ASLEEP k) true).quietDetectors k false

theorem doRxSleep_spec (hst : s.laneState l.val = 5) :
    let t := doRxSleep l s
    t.flag (Reg.LANE.LANE_SLEEP.RX_SLEEP l.val) = true ∧ t.flag (Reg.LANE.LANE_STAT.RX_ASLEEP l.val) = true ∧
      t.flag (Reg.LANE.LANE_STAT.LOS l.val) = false ∧ t.flag (Reg.LANE.LANE_STAT.LOL l.val) = false ∧ LaneFrame l.val s t := by
  have hdo : doRxSleep l s = (((s.rxAsleep l.val).setChkLock l.val false).modLane l.val fun v => { v with waking := false }).laneShow l.val :=
    (if_neg fun h => h hst).trans (if_pos rfl)
  have hasleep : LaneStep ([Reg.LANE.LANE_SLEEP.RX_SLEEP 0, Reg.LANE.LANE_STAT.RX_ASLEEP 0] ++ laneDetectors) l s (s.rxAsleep l.val) :=
    (LaneStep.refl _ l s).setF.setF.next (laneStep_quietDetectors _ l false)
  have hafter : LaneStep (Reg.LANE.CHK_STAT.CHK_LOCK 0 :: laneShown) l (s.rxAsleep l.val)
      ((((s.rxAsleep l.val).setChkLock l.val false).modLane l.val fun v => { v with waking := false }).laneShow l.val) :=
    ((LaneStep.refl _ l _).next (laneStep_setChkLock _ l false)).modLane.next (laneStep_laneShow _ l)
  have hquiet := laneStep_quietDetectors
    ((s.setFlag (Reg.LANE.LANE_SLEEP.RX_SLEEP l.val) true).setFlag (Reg.LANE.LANE_STAT.RX_ASLEEP l.val) true) l false
  have hrx : LaneStep [Reg.LANE.LANE_STAT.RX_ASLEEP 0] l (s.setFlag (Reg.LANE.LANE_SLEEP.RX_SLEEP l.val) true)
      ((s.setFlag (Reg.LANE.LANE_SLEEP.RX_SLEEP l.val) true).setFlag (Reg.LANE.LANE_STAT.RX_ASLEEP l.val) true) := (LaneStep.refl _ l _).setF
  rw [hdo]
  refine ⟨hafter.flag.trans (hquiet.flag.trans (hrx.flag.trans ?_)), hafter.flag.trans (hquiet.flag.trans ?_),
    hafter.flag.trans (Chip.los_quietDetectors _ l false), hafter.flag.trans (Chip.lol_quietDetectors _ l false), hasleep.frame.trans hafter.frame⟩
  · exact Chip.flag_setFlag_self s _ true rfl (by show 1 < 32; decide)
  · exact Chip.flag_setFlag_self _ _ true rfl (by show 9 < 32; decide)

theorem doRxWake_spec (hst : s.laneState l.val = 5) :
    let t := doRxWake l s
    t.flag (Reg.LANE.LANE_SLEEP.RX_SLEEP l.val) = false ∧ (t.laneOf l.val).waking = s.flag (Reg.LANE.LANE_STAT.RX_ASLEEP l.val) ∧
      LaneFrame l.val s t := by
  have hdo : doRxWake l s = (s.setFlag (Reg.LANE.LANE_SLEEP.RX_SLEEP l.val) false).modLane l.val fun v =>
      { v with waking := s.flag (Reg.LANE.LANE_STAT.RX_ASLEEP l.val) } := (if_neg fun h => h hst).trans (if_neg (by decide))
  have hset : LaneStep [Reg.LANE.LANE_SLEEP.RX_SLEEP 0] l s (s.setFlag (Reg.LANE.LANE_SLEEP.RX_SLEEP l.val) false) := (LaneStep.refl _ l s).setF
  have hmod := fun f : LaneSt → LaneSt => (LaneStep.refl [] l (s.setFlag (Reg.LANE.LANE_SLEEP.RX_SLEEP l.val) false)).modLane (f := f)
  rw [hdo]
  exact ⟨(hmod _).flag.trans (Chip.flag_setFlag_self s _ false rfl (by show 1 < 32; decide)),
    congrArg LaneSt.waking (Chip.laneOf_modLane_self _ l.val _), hset.frame.trans (hmod _).frame⟩

/-- A lane whose receiver has woken, its CDR locked from its stored state (R233). -/
def LaneSt.woken (v : LaneSt) : LaneSt := { v with waking := false, cdr := true }

theorem doRxWakeDone_spec (hst : s.laneState l.val = 5) (hwaking : (s.laneOf l.val).waking = true) :
    let t := doRxWakeDone l s
    t.flag (Reg.LANE.LANE_STAT.RX_ASLEEP l.val) = false ∧ (t.laneOf l.val).cdr = true ∧ (t.laneOf l.val).waking = false ∧
      t.laneState l.val = 5 ∧ LaneFrame l.val s t := by
  have hdo : doRxWakeDone l s = ((s.setFlag (Reg.LANE.LANE_STAT.RX_ASLEEP l.val) false).modLane l.val LaneSt.woken).laneShow l.val := if_pos hwaking
  have hset : LaneStep [Reg.LANE.LANE_STAT.RX_ASLEEP 0] l s (s.setFlag (Reg.LANE.LANE_STAT.RX_ASLEEP l.val) false) := (LaneStep.refl _ l s).setF
  have hafter : LaneStep laneShown l (s.setFlag (Reg.LANE.LANE_STAT.RX_ASLEEP l.val) false)
      (((s.setFlag (Reg.LANE.LANE_STAT.RX_ASLEEP l.val) false).modLane l.val LaneSt.woken).laneShow l.val) :=
    (LaneStep.refl _ l _).modLane.next (laneStep_laneShow _ l)
  have hlane := (Chip.laneOf_laneShow _ l.val l.val).trans
    ((s.setFlag (Reg.LANE.LANE_STAT.RX_ASLEEP l.val) false).laneOf_modLane_self l.val LaneSt.woken)
  rw [hdo]
  exact ⟨hafter.flag.trans (Chip.flag_setFlag_self s _ false rfl (by show 9 < 32; decide)), congrArg LaneSt.cdr hlane, congrArg LaneSt.waking hlane,
    hafter.laneState.trans (hset.laneState.trans hst), hset.frame.trans hafter.frame⟩

theorem doWakeFail_spec (hst : s.laneState l.val = 5) (hwaking : (s.laneOf l.val).waking = true) :
    let t := doWakeFail l s
    t.laneState l.val < 3 ∧ Recorded (Ev.LANE.WAKE_FAIL l.val) s t ∧ Recorded (Ev.LANE.LANE_DOWN l.val) s t ∧ LaneFrame l.val s t := by
  have hdo : doWakeFail l s = (s.raiseLane l.val Ev.LANE.WAKE_FAIL).laneDetect l.val true := if_pos hwaking
  have hraise : LaneStep [] l s (s.raiseLane l.val Ev.LANE.WAKE_FAIL) := (LaneStep.refl _ l s).raiseLane
  have hdetect := laneStep_laneDetect (s.raiseLane l.val Ev.LANE.WAKE_FAIL) l true
  obtain ⟨-, hdown⟩ := (s.raiseLane l.val Ev.LANE.WAKE_FAIL).laneDetect_down l (hraise.laneState.trans hst)
  rw [hdo]
  refine ⟨?_, hdetect.keepsRecord (recorded_raiseLane s l), hraise.thenRecorded hdown, hraise.frame.trans hdetect.frame⟩
  rw [hraise.laneState_laneDetect true]
  split
  · decide
  · split <;> decide

/-! ## The checker -/

theorem doChkLock_spec (hruns : s.chkRuns l.val = true) (hlock : s.flag (Reg.LANE.CHK_STAT.CHK_LOCK l.val) = false) :
    let t := doChkLock l s
    t.flag (Reg.LANE.CHK_STAT.CHK_LOCK l.val) = true ∧ Recorded (Ev.LANE.CHK_LOCK_CHANGE l.val) s t ∧ LaneFrame l.val s t := by
  have hdo : doChkLock l s = s.setChkLock l.val true := if_pos hruns
  rw [hdo]
  exact ⟨s.chkLock_setChkLock l true, recorded_setChkLock s l true (by rw [hlock]; decide), (laneStep_setChkLock s l true).frame⟩

theorem doChkLockLoss_spec (bits errs : Nat) (hlock : s.flag (Reg.LANE.CHK_STAT.CHK_LOCK l.val) = true) :
    let t := doChkLockLoss l bits errs s
    t.flag (Reg.LANE.CHK_STAT.CHK_LOCK l.val) = false ∧
      t.getPair (Reg.LANE.CHK_BITS_LO.addr l.val) = (s.getPair (Reg.LANE.CHK_BITS_LO.addr l.val) + bits) % 2 ^ 64 ∧
      t.getPair (Reg.LANE.CHK_ERRS_LO.addr l.val) = (s.getPair (Reg.LANE.CHK_ERRS_LO.addr l.val) + errs) % 2 ^ 64 ∧
      Recorded (Ev.LANE.CHK_LOCK_CHANGE l.val) s t ∧ LaneFrame l.val s t := by
  have hdo : doChkLockLoss l bits errs s =
      ((s.chkCount l.val bits errs).bumpSat (Reg.LANE.CHK_STAT.LOCK_LOSS l.val)).setChkLock l.val false := if_pos hlock
  have hcount := laneStep_chkCount s l bits errs
  have hbump : LaneStep [Reg.LANE.CHK_STAT.LOCK_LOSS 0] l (s.chkCount l.val bits errs)
      ((s.chkCount l.val bits errs).bumpSat (Reg.LANE.CHK_STAT.LOCK_LOSS l.val)) := (LaneStep.refl _ l _).setF
  have hset := laneStep_setChkLock ((s.chkCount l.val bits errs).bumpSat (Reg.LANE.CHK_STAT.LOCK_LOSS l.val)) l false
  have hlock' : ((s.chkCount l.val bits errs).bumpSat (Reg.LANE.CHK_STAT.LOCK_LOSS l.val)).flag (Reg.LANE.CHK_STAT.CHK_LOCK l.val) = true :=
    hbump.flag.trans (hcount.flag.trans hlock)
  obtain ⟨hbits, herrs⟩ := s.chkCount_locked l bits errs hlock
  rw [hdo]
  exact ⟨Chip.chkLock_setChkLock _ l false, hset.getPair.trans (hbump.getPair.trans hbits), hset.getPair.trans (hbump.getPair.trans herrs),
    hcount.thenRecorded (hbump.thenRecorded (recorded_setChkLock _ l false (by rw [hlock']; decide))),
    hcount.frame.trans (hbump.frame.trans hset.frame)⟩

theorem doChkClr_spec (s : Chip) (l : Fin 16) (bits errs : Nat) :
    let t := doChkClr l bits errs s
    t.getPair (Reg.LANE.CHK_BITS_LO.addr l.val) = 0 ∧ t.getPair (Reg.LANE.CHK_ERRS_LO.addr l.val) = 0 ∧ LaneFrame l.val s t := by
  have hcount := laneStep_chkCount s l bits errs
  have hbits := laneStep_setPair (s.chkCount l.val bits errs) l (n := 0x02000050) (v := 0)
  have herrs := laneStep_setPair ((s.chkCount l.val bits errs).setPair (Reg.LANE.CHK_BITS_LO.addr l.val) 0) l (n := 0x02000058) (v := 0)
  exact ⟨herrs.getPair.trans (Chip.getPair_setPair _ _ 0), Chip.getPair_setPair _ _ 0, hcount.frame.trans (hbits.frame.trans herrs.frame)⟩

/-! ## Injected errors -/

theorem doInjOne_spec (hst : s.laneState l.val = 5) (hroom : (s.laneOf l.val).ones + (s.laneOf l.val).onesAfter < 255)
    (hburst : (s.laneOf l.val).burst = 0) :
    let t := doInjOne l s
    (t.laneOf l.val).ones = (s.laneOf l.val).ones + 1 ∧ t.regs = s.regs ∧ LaneFrame l.val s t := by
  have hdo : doInjOne l s = s.modLane l.val fun v => if 0 < v.burst then { v with onesAfter := v.onesAfter + 1 } else { v with ones := v.ones + 1 } :=
    if_pos ⟨hst, hroom⟩
  rw [hdo]
  refine ⟨?_, rfl, ((LaneStep.refl [] l s).modLane).frame⟩
  rw [Chip.laneOf_modLane_self, if_neg (by omega)]

theorem doInjBurst_spec (hst : s.laneState l.val = 5) (hburst : (s.laneOf l.val).burst = 0) :
    let t := doInjBurst l s
    (t.laneOf l.val).burst = s.getF (Reg.LANE.INJ_CTRL.BURST_LEN l.val) + 1 ∧ t.regs = s.regs ∧ LaneFrame l.val s t := by
  have hdo : doInjBurst l s = s.modLane l.val fun v => { v with burst := s.getF (Reg.LANE.INJ_CTRL.BURST_LEN l.val) + 1 } := if_pos ⟨hst, hburst⟩
  rw [hdo]
  exact ⟨congrArg LaneSt.burst (s.laneOf_modLane_self l.val _), rfl, ((LaneStep.refl [] l s).modLane).frame⟩

end

/-- Settles O30, clause by clause: sleep and wake by the write of LANE_SLEEP that they are, the checker by its change of lock, injections by what
waits in the lane. -/
theorem laneSleepAndTests : Obligations.LaneSleepAndTests := by
  refine ⟨fun s l hst => ⟨fun hpeer hfar => answers_of_to rfl (Chip.txSleepWrite_taken_spec hst (fun _ => hfar) (.inr hpeer)),
      fun hpeer hcap => answers_of_to rfl (Chip.txSleepWrite_refused_spec hpeer hcap), answers_of_to rfl ?_, answers_of_to rfl (doRxSleep_spec hst),
      answers_of_to rfl (doRxWake_spec hst), fun hwaking => answers_of_to rfl (doRxWakeDone_spec hst hwaking),
      fun hwaking => answers_of_to rfl (doWakeFail_spec hst hwaking)⟩,
    fun s l => ⟨fun hruns hlock => answers_of_to rfl (doChkLock_spec hruns hlock),
      fun bits errs hlock => answers_of_to rfl (doChkLockLoss_spec bits errs hlock),
      fun bits errs => answers_of_to rfl (doChkClr_spec s.chip l bits errs),
      fun hst hroom hburst => answers_of_to rfl (doInjOne_spec hst hroom hburst),
      fun hst hburst => answers_of_to rfl (doInjBurst_spec hst hburst)⟩⟩
  obtain ⟨hsleep, hasleep, -, hframe⟩ := Chip.txSleepWrite_taken_spec (b := false) hst (fun h => absurd h (by decide)) (.inl rfl)
  exact ⟨hsleep, hasleep, hframe⟩

end Sys2Proof.Machine
end
